-- ==== Sys2Proof/Word.lean ====
section
/-!
DEFINITION. Word.lean: the word types of the model and the type of a sparse table.
00_scope.md R5, R6: multi-byte values are little-endian unless a field is marked wire order.
-/
namespace Sys2Proof

/-- One byte. -/
abbrev Byte := BitVec 8
/-- A 16-bit field (a status code, a SOURCE of R512). -/
abbrev W16 := BitVec 16
/-- A 32-bit register or leaf word. -/
abbrev W32 := BitVec 32
/-- A 64-bit register (a slot number, a sensor ID, a host address). -/
abbrev W64 := BitVec 64
/-- A string of bytes, first byte first. -/
abbrev Bytes := List (BitVec 8)
/-- A sparse table: key and value, keys strictly rising, no value equal to the table's default. Every bank of
registers, every memory and every counter window of the device is held in this one form. -/
abbrev Tab (α : Type) := List (Nat × α)

end Sys2Proof
end

