-- ==== Sys2Proof/Syntax.lean ====
section
/-!
DEFINITION. Syntax.lean: the commands of the block, one constructor for each row of spec/opcode_table.json, with the operands
that the row's rules need: what an outside party or a measurement supplies, and which unit it reaches.
-/
namespace Sys2Proof

/-- Energy metered since the last reading (03 R65): the device, the C0 share, and each bough, in µJ. -/
structure Meter where
  total : Nat := 0
  c0 : Nat := 0
  boughs : List Nat := []
deriving DecidableEq, Repr

/-- Which register of a check unit a command names (06 R156-R160). -/
inductive ChkReg where
  | cfg | poly | init | xorOut
deriving DecidableEq, Repr

/-- Who accesses a bough's check unit: a local leaf, the DMA engine, or the Taproot (06 R155). -/
inductive ChkUser where
  | leaf (l : Fin 16) | dma | taproot
deriving DecidableEq, Repr

/-- A condition of B.cond (14 R388); COND 1 is undefined. -/
inductive LeafCond where
  | alw | zs | zc | cs | cc | ns | nc | vs | vc | gtu | leu | ges | lts | gts | les
deriving DecidableEq, Repr

/-- An addressing mode of format M (14 R384): offset, post-increment, pre-decrement, indexed and scaled. -/
inductive LeafMode where
  | off (imm : BitVec 13)
  | post (imm : BitVec 13)
  | pre (imm : BitVec 13)
  | idx (ri : BitVec 5) (sc : BitVec 2)
deriving DecidableEq, Repr

/-- A unit that can be disabled (01 R24): a Canopy lane, a custody port, a rind pipe of a port, a Burl engine. -/
inductive UnitId where
  | lane (l : Fin 192)
  | custody (d : Fin 32)
  | rxp (p : Fin 16)
  | txp (p : Fin 16)
  | burl (b : Fin 12)
deriving DecidableEq, Repr

/-- Who submits a Burl job (15 R404): a leaf with its descriptor's address, or the Taproot or the custody block to a bough's
engine, with the 96-byte descriptor and the operands that lie in its own memory. -/
inductive BrlSender where
  | leaf (l : Fin 192) (desc : BitVec 16)
  | taproot (b : Fin 12) (desc : Bytes) (ops : List Bytes)
  | custody (b : Fin 12) (desc : Bytes) (ops : List Bytes)
deriving DecidableEq, Repr

/-- A fault inside a Burl engine (15 R420): an overflow, parity or code fault, or a failed check before release. -/
inductive BrlFault where
  | none | guard | selfcheck
deriving DecidableEq, Repr

/-- A DMA ring whose pointers the host writes (10 R276, R280; 20 R514). -/
inductive RingId where
  | record (c : Fin 16) | dlq | pf1 | pf0
deriving DecidableEq, Repr

/-- What a CONTROL frame carries (19 R493, R495, R502-R504, 11 R311, R312). The rules name these uses and give no layout
(log entry 33). -/
inductive RingCtl where
  /-- The receiver, the buddy of a lost member, takes over its range. -/
  | takeover (m : Fin 64)
  /-- Member `b` serves the range of member `m`. -/
  | serves (m b : Fin 64)
  /-- A lost member has been heard again. -/
  | back (m : Fin 64)
  /-- The sender's checkpoint holds the receiver's ceilings. -/
  | mirrorReady
  /-- The sender builds its Ring store and asks for its mirrored ceilings. -/
  | ceilAsk
  /-- A hand-back of a member's range is armed for a slot. -/
  | handback (m : Fin 64) (slot : BitVec 64)
  /-- The crown offers a Grain: BASE_SEQ, GRAIN_SEQ. -/
  | offer (base seq : BitVec 64)
  | blockAck (k : BitVec 12)
  | blockAsk (k : BitVec 12)
  /-- The sender no longer takes the offer. -/
  | leave
deriving DecidableEq, Repr

/-- What a grove ring frame carries, by its TYPE (19 R493). Payloads that the rules give no layout are named by their content
(log entry 33). -/
inductive RingBody where
  | hello (fuseId : Bytes) (seq : BitVec 64)
  | sync (sec : BitVec 48) (ns : BitVec 32) (corr : BitVec 64) (st : Fin 3) (anchored : Bool)
  | delayReq
  /-- The time in ps for which the answer was held back. -/
  | delayResp (held : Nat)
  | heartbeat (unmirrored : Bool) (kpfSeq : BitVec 64)
  | grainBlock (data : Bytes)
  | leaseMirror (l : List (BitVec 22 × BitVec 32))
  | leaseAck (l : List (BitVec 22 × BitVec 32))
  | forward (limb : Fin 4) (env : Bytes)
  | control (c : RingCtl)
  /-- Ceilings by context index, of the receiver's own range or of the sender's, and whether they are the last ones. -/
  | xferCeil (own : Bool) (l : List (BitVec 22 × BitVec 32)) (last : Bool)
  /-- Contexts of a range in hand-back, and whether they are the last ones. -/
  | xferCtx (l : List (BitVec 22 × Bytes)) (last : Bool)
  | evidenceReq (nonce : Bytes) (chain : Bool)
  | evidence (data : Bytes) (last : Bool)
  | regReq (addr : BitVec 32) (wide : Bool) (w : Option (BitVec 64))
  | regResp (v : BitVec 64)
deriving DecidableEq, Repr

/-- A grove ring frame (19 R493): SRC, DST, HOPS, SEQ and what it carries, from which TYPE follows. -/
structure RingFrame where
  src : BitVec 8 := 0
  dst : BitVec 8 := 0
  hops : BitVec 8 := 0
  seq : BitVec 16 := 0
  body : RingBody := .delayReq
deriving DecidableEq, Repr

/-- The transports of the SPDM responder (19 R487): the DOE mailboxes of PF0 and PF1, and MCTP over I3C. -/
inductive SpdmPort where
  | pf0 | pf1 | i3c
deriving DecidableEq, Repr

/-- What a start finds at the balls and in its own tests: BOOT_SRC[1:0] (04 R81), the Taproot SRAM's MBIST passed (17 R451), and
every fuse word read or corrected (04 R85). -/
structure StartIn where
  strap : BitVec 2
  mbistOk : Bool
  fuseOk : Bool
deriving DecidableEq, Repr

/-- A command register with an OP field (00 R553). -/
inductive CmdReg where
  | key | lcy | curve
deriving DecidableEq, Repr

/-- DDR5 training (R89): the populated channels, and those that trained at the first try and at the second. -/
structure DramTry where
  populated : BitVec 4
  first : BitVec 4
  second : BitVec 4
deriving DecidableEq, Repr

/-- What D00's flash shows to the bootstrap (R93): its SFDP, and the registers that the mirror reads. -/
structure FlashSeen where
  sfdp : Bytes
  regs : List Bytes
deriving DecidableEq, Repr

/-- Samples of the healthy noise sources in round robin, and the source that fails on the last of them (R147). -/
structure NoiseRun where
  src : Fin 4
  samples : List Bool
deriving DecidableEq, Repr

/-- The opcode of a host's flash command, and whether its second byte is the inverse that 8D-8D-8D asks for (R188). -/
structure HostOp where
  op : BitVec 8
  ext : Bool
deriving DecidableEq, Repr

/-- A command (a row of spec/opcode_table.json). -/
inductive Instr where
  /-- PWRGOOD_RISE (R82): time, every main rail in range, and what the start finds. -/
  | pwrgoodRise (t : Nat) (rails : Bool) (i : StartIn)
  /-- PWRGOOD_FALL (R10): time. -/
  | pwrgoodFall (t : Nat)
  /-- VSTBY_LOSS (R10): time. -/
  | vstbyLoss (t : Nat)
  /-- HOST_LINK_RESET (R10). -/
  | hostLinkReset
  /-- FULL_DEVICE_RESET (R10): time, and what the start finds. -/
  | fullDeviceReset (t : Nat) (i : StartIn)
  /-- RAIL_FAULT (R528): time. -/
  | railFault (t : Nat)
  /-- VFUSE_IN_RANGE (R532): time, the fuse copies that read back well (3: all), and what a start that follows finds. -/
  | vfuseInRange (t : Nat) (copies : Fin 4) (i : StartIn)
  /-- REGISTER_WRITE (R7): time, through PF1 and BAR2 or PF0 and BAR0, byte address, 64 bits or 32, value. -/
  | registerWrite (t : Nat) (pf1 : Bool) (addr : BitVec 32) (wide : Bool) (v : BitVec 64)
  /-- UNDEFINED_OP_WRITE (R553): time, command register, value. -/
  | undefinedOpWrite (t : Nat) (r : CmdReg) (v : BitVec 32)
  /-- DISABLE_START (R26): the unit, and the MODE written with EN 0. -/
  | disableStart (u : UnitId) (cut : Bool)
  /-- MODE_CUT_DURING_DRAIN (R29): the unit. -/
  | modeCutDuringDrain (u : UnitId)
  /-- DRAIN_BOUND_EXPIRY (R27): the unit. -/
  | drainBoundExpiry (u : UnitId)
  /-- DISABLE_COMPLETE (R31): the unit. -/
  | disableComplete (u : UnitId)
  /-- ENABLE_WRITE (R30): the unit, and the MODE written with EN 1. -/
  | enableWrite (u : UnitId) (cut : Bool)
  /-- PPS_EDGE (R43): a rising edge at time t (ps). -/
  | ppsEdge (t : Nat)
  /-- TOD_MESSAGE (R43): first byte at t, the bytes, and whether a gap above 10 ms separates two of them. -/
  | todMessage (t : Nat) (msg : Bytes) (gap : Bool)
  /-- PTP_MESSAGE (R44): a PTP message and its receipt time on the time base (ps). -/
  | ptpMessage (t : Nat) (port : Fin 16) (lport : Fin 4) (msg : Bytes)
  /-- PHASE_MEASUREMENT (R48): offsets of the primary and the fallback source in ns (none: missing), REF10M within 5 ppm. -/
  | phaseMeasurement (t : Nat) (a b : Option Int) (refOk : Bool)
  /-- PHASE_SOURCE_LOSS (R47). -/
  | phaseSourceLoss (t : Nat)
  /-- HOLDOVER_EXPIRY (R47). -/
  | holdoverExpiry
  /-- SLOT_EDGE (R53): the edge at t, with the energy metered since the last reading and balls NRG_LVL[1:0]. -/
  | slotEdge (t : Nat) (m : Meter) (lvl : BitVec 2)
  /-- RING_MARK_DONE (R58). -/
  | ringMarkDone
  /-- SLT_MARK_CTRL_WRITE (R61). -/
  | sltMarkCtrlWrite (v : BitVec 32)
  /-- MARK_GO (R60). -/
  | markGo
  /-- MARK_HOLD (R58). -/
  | markHold (hold : Bool)
  /-- SLT_MARK_STAT_READ (R7). -/
  | sltMarkStatRead
  /-- SLT_NOW_READ (R40): a 64-bit read, or a 32-bit read at 0x0000. -/
  | sltNowRead (wide : Bool)
  /-- BUDGET_HOST_WRITE (R64). -/
  | budgetHostWrite (pf1 en : Bool) (uj : BitVec 48)
  /-- WORK_JOB_SUBMIT (R69): the kind, the bough it needs, P_C0 in µW. -/
  | workJobSubmit (t : Nat) (kind : Fin 16) (bough : Option (Fin 12)) (pC0 : Nat) (m : Meter)
  /-- JOB_ADMISSION (R69). -/
  | jobAdmission (t : Nat) (pC0 : Nat) (m : Meter)
  /-- WORK_JOB_END (R71). -/
  | workJobEnd (id : Nat)
  /-- BOUGH_FREEZE (R72). -/
  | boughFreeze (b : Fin 12)
  /-- BOUGH_THAW (R73). -/
  | boughThaw (t : Nat) (b : Fin 12)
  /-- PFW_ASSERT (R78). -/
  | pfwAssert (t : Nat)
  /-- FLUSH_SETTLE_END (R78). -/
  | flushSettleEnd
  /-- PFW_DEASSERT (R79). -/
  | pfwDeassert (t : Nat)
  /-- PFW_RECOVERY_RESET (R79): time, and what the start finds. -/
  | pfwRecoveryReset (t : Nat) (i : StartIn)
  /-- BOUGH_POWER_ON (R112): the time in ps, and whether the bough passes its self-test. -/
  | boughPowerOn (t : Nat) (ok : Bool)
  /-- LANE_GROUP_START (R80). -/
  | laneGroupStart (t : Nat) (port : Fin 16)
  /-- CORE_CLOCK_LOCK (R82). -/
  | coreClockLock (t : Nat)
  /-- ENT_STARTUP_TEST_DONE (R146). -/
  | entStartupTestDone (t : Nat) (src : Fin 4) (samples : Bytes)
  /-- ENTROPY_TIMEOUT (R87). -/
  | entropyTimeout (t : Nat)
  /-- DRAM_TRAINING_DONE (R89): the populated channels, those that trained at the first try and at the second, and the GiB of each. -/
  | dramTrainingDone (t : Nat) (c : DramTry) (gib : List Nat)
  /-- HELPER_BOUGH_START (R91): the result of the self-test of the next bough in number order. -/
  | helperBoughStart (t : Nat) (ok : Bool)
  /-- DOMAIN0_BOOTSTRAP (R93): the times of verification end and of the start of flash discovery in ps, the bytes of D00's two slots, its flash's SFDP, and the flash registers that the mirror reads. -/
  | domain0Bootstrap (t since : Nat) (a b : Bytes) (f : FlashSeen)
  /-- PUSH_START (R100). -/
  | pushStart (i3c store : Bool)
  /-- PUSH_ABORT (R102). -/
  | pushAbort (i3c store : Bool)
  /-- PUSH_POST (R101). -/
  | pushPost (i3c : Bool) (block : BitVec 12) (bytes : BitVec 17)
  /-- PUSH_FRAME_WRITE (R101). -/
  | pushFrameWrite (frame : Fin 256) (off : Fin 65536) (data : Bytes)
  /-- I3C_REGISTER_ACCESS (R104): the bytes of the private write and the bytes a following read asks for. -/
  | i3cRegisterAccess (data : Bytes) (rd : Nat)
  /-- PUSH_TIMEOUT (R102). -/
  | pushTimeout
  /-- GRAIN_HEAD_VERIFY (R109). -/
  | grainHeadVerify
  /-- GRAIN_BLOCK_ACCEPT (R110). -/
  | grainBlockAccept
  /-- GRAIN_INSTALL (R111): the time in ps, and the NRG_LVL balls. -/
  | grainInstall (t : Nat) (lvl : BitVec 2)
  /-- KEEP_GRAIN_READ (R106): the time in ps. -/
  | keepGrainRead (t : Nat)
  /-- GRAIN_STORE_WRITE (R107): the pages of the copy that read back otherwise from mirror 0 and from mirror 1, with what they hold. -/
  | grainStoreWrite (bad0 bad1 : List (Nat × Bytes))
  /-- LEAF_RELEASE (R112): the time in ps. -/
  | leafRelease (t : Nat)
  /-- PROGRAM_SWAP (R364): the leaf. -/
  | programSwap (l : Fin 192)
  /-- BOUGH_POWER_DOWN (R363): the bough. -/
  | boughPowerDown (b : Fin 12)
  /-- BUCKET_DRAIN_EXPIRY (R363). -/
  | bucketDrainExpiry
  /-- WRITE_CLEAR (R137). -/
  | keyWriteClear (slot : BitVec 12)
  /-- IMPORT (R134). -/
  | keyImport (slot : BitVec 12)
  /-- REPLACE (R135). -/
  | keyReplace (slot : BitVec 12) (clear : Bool)
  /-- OLD_MATERIAL_ZERO (R136). -/
  | keyOldMaterialZero (slot : BitVec 12)
  /-- EXPORT (R132). -/
  | keyExport (slot : BitVec 12)
  /-- ERASE_SLOT (R141). -/
  | keyEraseSlot (slot : BitVec 12)
  /-- ERASE_ALL (R470). -/
  | keyEraseAll (t : Nat)
  /-- INFO (R126). -/
  | keyInfo (slot : BitVec 12)
  /-- RCV_CHALLENGE (R138). -/
  | rcvChallenge (t : Nat)
  /-- RCV_OPEN (R138). -/
  | rcvOpen
  /-- RECOVERY_WINDOW_EXPIRY (R138). -/
  | recoveryWindowExpiry
  /-- KEY_BUF_READ (R132). -/
  | keyBufRead (word : Fin 4096)
  /-- KEY_RECORD_JOURNALLED (R139). -/
  | keyRecordJournalled (slot : BitVec 12)
  /-- KEY_REWRAP (R140). -/
  | keyRewrap
  /-- VAULT_ZEROIZE_DONE (R142). -/
  | vaultZeroizeDone
  /-- ENT_HEALTH_FAIL (R147): the time in ps, and the samples at whose end the source fails. -/
  | entHealthFail (t : Nat) (r : NoiseRun)
  /-- CONDITIONED_BLOCK (R148): the 1,024 raw samples as 128 bytes. -/
  | conditionedBlock (t : Nat) (samples : Bytes)
  /-- DRBG_RESEED (R151). -/
  | drbgReseed (t : Nat) (inst : Fin 5)
  /-- DRBG_INSTANTIATE (R153). -/
  | drbgInstantiate (t : Nat) (inst : Fin 5)
  /-- ENT_STARVED_TIMEOUT (R152): 10 ms after the request that has waited longest began to. -/
  | entStarvedTimeout
  /-- ENT_REQUEST (R154). -/
  | entRequest (words : BitVec 4)
  /-- ENT_OUTPUT_READY (R154). -/
  | entOutputReady (t : Nat)
  /-- ENT_OUT_READ (R154). -/
  | entOutRead (i : Fin 16)
  /-- CHK_CONFIG_WRITE (R160). -/
  | chkConfigWrite (u : Fin 13) (who : ChkUser) (r : ChkReg) (v : BitVec 32)
  /-- CHK_START (R160). -/
  | chkStart (u : Fin 13) (who : ChkUser)
  /-- CHK_DATA_WRITE (R157): DATA8, DATA16 or DATA32. -/
  | chkDataWrite (u : Fin 13) (who : ChkUser) (n : Fin 3) (v : BitVec 32)
  /-- CHK_ABSORB (R159). -/
  | chkAbsorb (u : Fin 13)
  /-- CHK_RESULT_READ (R159). -/
  | chkResultRead (u : Fin 13) (raw : Bool)
  /-- CUSTODY_BOOT_START (R165). -/
  | custodyBootStart (t : Nat) (d : Fin 32)
  /-- FLASH_DISCOVERY_DONE (R165): the SFDP read, empty where absent. -/
  | flashDiscoveryDone (d : Fin 32) (sfdp : Bytes)
  /-- SLOT_SELECT (R173): the first 512 bytes of both slots, or of the recovery image. -/
  | slotSelect (d : Fin 32) (a b : Bytes)
  /-- HEADER_READ_DONE (R175): the rest of the selected header, or after a fallback all of it. -/
  | headerReadDone (d : Fin 32) (b : Bytes)
  /-- CUSTODY_SIG_VERIFY_DONE (R175). -/
  | custodySigVerifyDone (d : Fin 32)
  /-- DIGEST_TABLE_CHECKED (R175): the digest table as read. -/
  | digestTableChecked (d : Fin 32) (b : Bytes)
  /-- BODY_BLOCK_HASHED (R176): the block as read; its shadow lines were uncorrectable after one retry. -/
  | bodyBlockHashed (d : Fin 32) (b : Bytes) (dram : Bool)
  /-- CUSTODY_VERIFY_END (R178). -/
  | custodyVerifyEnd (t : Nat) (d : Fin 32)
  /-- DOMAIN_RELEASE (R182): the registers that the cambium reads for its mirror: status register 1, identification, the MIRROR list. -/
  | domainRelease (t : Nat) (regs : List Bytes)
  /-- SEAL_RECORD_WRITE (R180). -/
  | sealRecordWrite (d : Fin 32)
  /-- CUSTODY_PG_FALL (R163). -/
  | custodyPgFall (t : Nat) (d : Fin 32)
  /-- CUSTODY_PG_RESTORE (R163). -/
  | custodyPgRestore (t : Nat) (d : Fin 32)
  /-- FLASH_TIMEOUT (R185). -/
  | flashTimeout (d : Fin 32)
  /-- PORT_FAULT (R185). -/
  | portFault (t : Nat) (d : Fin 32)
  /-- CUSTODY_REBOOT (R183). -/
  | custodyReboot (t : Nat) (d : Fin 32)
  /-- CUSTODY_RAISE_FLOOR (R179). -/
  | custodyRaiseFloor (d : Fin 32)
  /-- HELD_HOST_TRANSACTION (R164). -/
  | heldHostTransaction (d : Fin 32)
  /-- HOST_READ (R198): opcode, whether its 8D extension is its inverse, address, data bytes clocked, what the flash returns for them, the byte from which the host outran the buffer. -/
  | hostRead (d : Fin 32) (op : BitVec 8) (ext : Bool) (addr : BitVec 32) (n : Nat) (flash : Bytes) (outrun : Option Nat)
  /-- HOST_REG_READ (R200). -/
  | hostRegRead (d : Fin 32) (op : BitVec 8) (ext : Bool) (n : Nat)
  /-- HOST_SFDP_READ (R212). -/
  | hostSfdpRead (d : Fin 32) (op : BitVec 8) (ext : Bool) (addr : BitVec 32) (n : Nat)
  /-- WREN (R201). -/
  | wren (d : Fin 32) (op : BitVec 8) (ext : Bool) 
  /-- WRDI (R201). -/
  | wrdi (d : Fin 32) (ext : Bool)
  /-- HOST_PROGRAM (R202). -/
  | hostProgram (t : Nat) (d : Fin 32) (op : BitVec 8) (ext : Bool) (addr : BitVec 32) (data : Bytes)
  /-- HOST_ERASE (R202). -/
  | hostErase (t : Nat) (d : Fin 32) (op : BitVec 8) (ext : Bool) (addr : BitVec 32)
  /-- HOST_CHIP_ERASE (R192). -/
  | hostChipErase (t : Nat) (d : Fin 32) (op : BitVec 8) (ext : Bool) 
  /-- HOST_REG_WRITE (R197): opcode, extension, address bytes received and address, data. -/
  | hostRegWrite (t : Nat) (d : Fin 32) (op : BitVec 8) (ext : Bool) (ab : Fin 5) (addr : BitVec 32) (data : Bytes)
  /-- HOST_SECURITY_WRITE (R197). -/
  | hostSecurityWrite (t : Nat) (d : Fin 32) (op : BitVec 8) (ext : Bool) (ab : Fin 5) (addr : BitVec 32) (data : Bytes)
  /-- HOST_SECURITY_READ (R193). -/
  | hostSecurityRead (d : Fin 32) (op : BitVec 8) (ext : Bool) (addr : BitVec 32) (n : Nat)
  /-- ENTER_4BYTE_MODE (R207): 0xB7, or an opcode that the Grain gives the class. -/
  | enter4byteMode (d : Fin 32) (o : HostOp)
  /-- EXIT_4BYTE_MODE (R207): 0xE9, or an opcode that the Grain gives the class. -/
  | exit4byteMode (d : Fin 32) (o : HostOp)
  /-- HOST_RESET_COMMAND (R207): 0x66, or 0x99 where second, or an opcode that the Grain gives the class. -/
  | hostResetCommand (d : Fin 32) (o : HostOp) (second : Bool)
  /-- DEEP_POWER_DOWN (R207): 0xB9, or an opcode that the Grain gives the class. -/
  | deepPowerDown (d : Fin 32) (o : HostOp)
  /-- DEEP_POWER_DOWN_RELEASE (R207): 0xAB, or an opcode that the Grain gives the class. -/
  | deepPowerDownRelease (d : Fin 32) (o : HostOp)
  /-- SUSPEND (R204): the flash's busy bit after it. -/
  | suspend (t : Nat) (d : Fin 32) (op : BitVec 8) (ext : Bool) (busy : Bool)
  /-- RESUME (R204): the flash's busy bit after it. -/
  | resume (t : Nat) (d : Fin 32) (op : BitVec 8) (ext : Bool) (busy : Bool)
  /-- UNKNOWN_OPCODE (R197). -/
  | unknownOpcode (d : Fin 32) (op : BitVec 8) (ext : Bool) 
  /-- HOST_CS_EARLY_DEASSERT (R218). -/
  | hostCsEarlyDeassert (d : Fin 32)
  /-- FORWARDED_OP_DONE (R202): the registers that the cambium reads for its mirror. -/
  | forwardedOpDone (d : Fin 32) (regs : List Bytes)
  /-- MIMIC_TIMER_EXPIRY (R206). -/
  | mimicTimerExpiry (t : Nat) (d : Fin 32)
  /-- ESCAPE_VERDICT (R210). -/
  | escapeVerdict (l : Fin 192) (v : BitVec 32)
  /-- ESCAPE_TIMEOUT (R211). -/
  | escapeTimeout (t : Nat) (d : Fin 32)
  /-- BOOT_LIMIT_EXPIRY (R188). -/
  | bootLimitExpiry (t : Nat) (d : Fin 32)
  /-- FLT_BOOT_DONE (R188). -/
  | fltBootDone (d : Fin 32)
  /-- MBX_HOLLOW_SEND (R441). -/
  | mbxHollowSend (t : Nat) (d : Fin 32) (arg : BitVec 8) (tag : BitVec 16) (data : Bytes) (ext : Bool)
  /-- MBX_BOOT_DONE (R216). -/
  | mbxBootDone (t : Nat) (d : Fin 32) (arg : BitVec 8) (tag : BitVec 16) (data : Bytes) (ext : Bool)
  /-- MBX_RAISE_FLOOR (R179). -/
  | mbxRaiseFloor (t : Nat) (d : Fin 32) (arg : BitVec 8) (tag : BitVec 16) (data : Bytes) (ext : Bool)
  /-- MBX_REBOOT (R183). -/
  | mbxReboot (t : Nat) (d : Fin 32) (arg : BitVec 8) (tag : BitVec 16) (data : Bytes) (ext : Bool)
  /-- MBX_UPDATE_OPEN (R222). -/
  | mbxUpdateOpen (t : Nat) (d : Fin 32) (arg : BitVec 8) (tag : BitVec 16) (data : Bytes) (ext : Bool)
  /-- MBX_UPDATE_CLOSE (R226). -/
  | mbxUpdateClose (t : Nat) (d : Fin 32) (arg : BitVec 8) (tag : BitVec 16) (data : Bytes) (ext : Bool)
  /-- MBX_CUSTODY_INFO (R216). -/
  | mbxCustodyInfo (t : Nat) (d : Fin 32) (arg : BitVec 8) (tag : BitVec 16) (data : Bytes) (ext : Bool)
  /-- MBX_RESULT (R217). -/
  | mbxResult (t : Nat) (d : Fin 32) (ext : Bool)
  /-- MBX_HOLLOW_RECV (R441). -/
  | mbxHollowRecv (t : Nat) (d : Fin 32) (c : BitVec 8) (ext : Bool)
  /-- UPDATE_OPEN (R222). -/
  | updateOpen (t : Nat) (d : Fin 32) (target : Bool)
  /-- UPDATE_CLOSE (R226). -/
  | updateClose (t : Nat) (d : Fin 32)
  /-- UPDATE_READBACK (R224): the bytes read back. -/
  | updateReadback (d : Fin 32) (flash : Bytes)
  /-- UPDATE_SIG_VERIFY_DONE (R224). -/
  | updateSigVerifyDone (t : Nat) (d : Fin 32)
  /-- UPDATE_ABANDON_TIMEOUT (R226). -/
  | updateAbandonTimeout (t : Nat) (d : Fin 32)
  /-- CUSTODY_PUSH_START (R230): WRITE_BACK and WB_SLOT of CUS_PUSH_CTRL. -/
  | custodyPushStart (t : Nat) (d : Fin 32) (wb wbSlot : Bool)
  /-- CUSTODY_PUSH_ABORT (R230). -/
  | custodyPushAbort
  /-- CUSTODY_PUSH_POST (R230). -/
  | custodyPushPost (t : Nat) (chunk : BitVec 12) (bytes : BitVec 17)
  /-- CUSTODY_PUSH_TIMEOUT (R230). -/
  | custodyPushTimeout (t : Nat)
  /-- CUSTODY_WRITE_BACK (R231): what the pages read back as, none where an erase or a program ended with an error. -/
  | custodyWriteBack (back : Option Bytes)
  /-- JOURNAL_APPEND (R233). -/
  | journalAppend
  /-- KEEP_PAGE_DONE (R233): the page as it reads back from mirror 0 and from mirror 1. -/
  | keepPageDone (b0 b1 : Bytes)
  /-- KEEP_PAGE_TIMEOUT (R79). -/
  | keepPageTimeout
  /-- JOURNAL_REPLAY (R245). -/
  | journalReplay
  /-- CHECKPOINT_DONE (R237): the runs of failed read-backs in order: 2 × sector + mirror, and how many in a row. -/
  | checkpointDone (fails : List (Nat × Nat))
  /-- JOURNAL_COMPACTION (R239). -/
  | journalCompaction
  /-- ANCHOR_BURN_DONE (R244). -/
  | anchorBurnDone
  /-- FLOOR_SET_GO (R246). -/
  | floorSetGo
  /-- ENVELOPE_DIVERT (R291): the oldest envelope that the sieve has diverted, at t. -/
  | envelopeDivert (t : Nat)
  /-- ENVELOPE_DISPATCH (R253): limb. -/
  | envelopeDispatch (limb : Fin 4)
  /-- SPILL_RETURN (R291): limb, and for each entry that returns the DRAM channel of an uncorrectable error. -/
  | spillReturn (limb : Fin 4) (bad : List (Option (Fin 4)))
  /-- LANE_CONSUMED_WRITE (R255): leaf, value. -/
  | laneConsumedWrite (l : Fin 192) (v : BitVec 32)
  /-- CANOPY_OPEN (R257): the leaf submits it, with its tag and descriptor address. -/
  | canopyOpen (l : Fin 192) (tag : Fin 8) (desc : BitVec 16)
  /-- CANOPY_COMMIT (R259): the leaf submits it, with its tag and descriptor address. -/
  | canopyCommit (l : Fin 192) (tag : Fin 8) (desc : BitVec 16)
  /-- HELD_COMMIT_COMPLETE (R267). -/
  | heldCommitComplete
  /-- DLQ_PROD_WRITE (R276): the value written. -/
  | dlqProdWrite (v : BitVec 64)
  /-- DLQ_ENTRY_FETCH (R276). -/
  | dlqEntryFetch
  /-- DL_TTL_EXPIRY (R276). -/
  | dlTtlExpiry
  /-- RECORD_RING_WRITE (R280): channel. -/
  | recordRingWrite (c : Fin 16)
  /-- RECORD_FRAME_EMIT (R281): record channel 16 + c. -/
  | recordFrameEmit (c : Fin 16)
  /-- RING_CONS_WRITE (R280): ring, value. -/
  | ringConsWrite (r : RingId) (v : BitVec 64)
  /-- RING_CTRL_WRITE (R280): ring, value. -/
  | ringCtrlWrite (r : RingId) (v : BitVec 32)
  /-- LOSS_RECORD_EMIT (R300): time, channel. -/
  | lossRecordEmit (t : Nat) (c : Fin 32)
  /-- DROP_SUMMARY_TIMER (R301): time. -/
  | dropSummaryTimer (t : Nat)
  /-- FILL_EVALUATION (R295): time. -/
  | fillEvaluation (t : Nat)
  /-- IMAGE_PERIOD_EXPIRY (R283). -/
  | imagePeriodExpiry
  /-- IMAGE_EXPORT (R283). -/
  | imageExport
  /-- IMAGE_EXPORT_DONE (R283). -/
  | imageExportDone
  /-- IMAGE_RESTORE (R285). -/
  | imageRestore
  /-- IMAGE_SKIP (R285). -/
  | imageSkip
  /-- IMAGE_WAIT_EXPIRY (R285). -/
  | imageWaitExpiry
  /-- RING_STORE_BUILD_DONE (R268). -/
  | ringStoreBuildDone
  /-- CTX_READ (R288): TAKEOVER and INDEX. -/
  | ctxRead (takeover : Bool) (index : BitVec 22)
  /-- CTX_BLOCK (R288): TAKEOVER and INDEX. -/
  | ctxBlock (takeover : Bool) (index : BitVec 22)
  /-- CTX_UNBLOCK (R288): TAKEOVER and INDEX. -/
  | ctxUnblock (takeover : Bool) (index : BitVec 22)
  /-- CTX_FORGET (R288): TAKEOVER and INDEX. -/
  | ctxForget (takeover : Bool) (index : BitVec 22)
  /-- LANE_WATCHDOG_EXPIRY (R302): time, leaf. -/
  | laneWatchdogExpiry (t : Nat) (l : Fin 192)
  /-- LEAF_PARITY_ERROR (R379): time, leaf. -/
  | leafParityError (t : Nat) (l : Fin 192)
  /-- BOUGH_FENCE (R305): time, bough. -/
  | boughFence (t : Nat) (b : Fin 12)
  /-- CONTEXT_LINE_LOST (R306): context index, DRAM channel, a line MAC failure or an uncorrectable error. -/
  | contextLineLost (i : BitVec 22) (ch : Fin 4) (mac : Bool)
  /-- CONTEXT_REBUILD_DONE (R306): context index. -/
  | contextRebuildDone (i : BitVec 22)
  /-- BUDDY_ACK_TIMEOUT (R309): at t. -/
  | buddyAckTimeout (t : Nat)
  /-- TAKEOVER_START (R310): at t. -/
  | takeoverStart (t : Nat)
  /-- TAKEOVER_BUILD_DONE (R310): at t. -/
  | takeoverBuildDone (t : Nat)
  /-- HANDBACK_DRAIN_EXPIRY (R312): at t. -/
  | handbackDrainExpiry (t : Nat)
  /-- HANDBACK_TRANSFER_DONE (R312): at t. -/
  | handbackTransferDone (t : Nat)
  /-- FRAME_RECEIVE (R322): time, port, logical port, and the frame from destination address to FCS. -/
  | frameReceive (t : Nat) (p : Fin 16) (k : Fin 4) (frame : Bytes)
  /-- EGRESS_FRAME_SENT (R339): time, port, logical port. -/
  | egressFrameSent (t : Nat) (p : Fin 16) (k : Fin 4)
  /-- PAUSE_RECEIVE (R340): time, port, logical port, PFC or PAUSE, the enabled classes and the quanta. -/
  | pauseReceive (t : Nat) (p : Fin 16) (k : Fin 4) (pfc : Bool) (classes : BitVec 8) (quanta : List Nat)
  /-- PAUSE_QUANTA_EXPIRY (R340): time, port, logical port. -/
  | pauseQuantaExpiry (t : Nat) (p : Fin 16) (k : Fin 4)
  /-- PAUSE_REFRESH (R341): time, port, logical port. -/
  | pauseRefresh (t : Nat) (p : Fin 16) (k : Fin 4)
  /-- LINK_UP (R316): time, port, logical port. -/
  | linkUp (t : Nat) (p : Fin 16) (k : Fin 4)
  /-- LINK_DOWN (R316): time, port, logical port. -/
  | linkDown (t : Nat) (p : Fin 16) (k : Fin 4)
  /-- MKA_CONSUMED_WRITE (R333): leaf, value. -/
  | mkaConsumedWrite (l : Fin 192) (v : BitVec 32)
  /-- MKA_KEYS (R334): the leaf submits it, with its tag and descriptor address. -/
  | mkaKeys (l : Fin 192) (tag : Fin 8) (desc : BitVec 16)
  /-- SAK_NEW (R334): the leaf submits it, with its tag and descriptor address. -/
  | sakNew (l : Fin 192) (tag : Fin 8) (desc : BitVec 16)
  /-- SAK_WRAP (R334): the leaf submits it, with its tag and descriptor address. -/
  | sakWrap (l : Fin 192) (tag : Fin 8) (desc : BitVec 16)
  /-- SAK_UNWRAP (R334): the leaf submits it, with its tag and descriptor address. -/
  | sakUnwrap (l : Fin 192) (tag : Fin 8) (desc : BitVec 16)
  /-- SA_INSTALL (R335): the leaf submits it, with its tag and descriptor address. -/
  | saInstall (l : Fin 192) (tag : Fin 8) (desc : BitVec 16)
  /-- SA_SELECT (R334): the leaf submits it, with its tag and descriptor address. -/
  | saSelect (l : Fin 192) (tag : Fin 8) (desc : BitVec 16)
  /-- MKPDU_SEND (R334): the leaf submits it, with its tag and descriptor address. -/
  | mkpduSend (l : Fin 192) (tag : Fin 8) (desc : BitVec 16)
  /-- ADD (R381): leaf, .s, RD, RS, RT. -/
  | leafAdd (l : Fin 192) (s : Bool) (rd rs rt : BitVec 5)
  /-- ADDC (R381): leaf, .s, RD, RS, RT. -/
  | leafAddc (l : Fin 192) (s : Bool) (rd rs rt : BitVec 5)
  /-- SUB (R381): leaf, .s, RD, RS, RT. -/
  | leafSub (l : Fin 192) (s : Bool) (rd rs rt : BitVec 5)
  /-- SUBC (R381): leaf, .s, RD, RS, RT. -/
  | leafSubc (l : Fin 192) (s : Bool) (rd rs rt : BitVec 5)
  /-- AND (R381): leaf, .s, RD, RS, RT. -/
  | leafAnd (l : Fin 192) (s : Bool) (rd rs rt : BitVec 5)
  /-- OR (R381): leaf, .s, RD, RS, RT. -/
  | leafOr (l : Fin 192) (s : Bool) (rd rs rt : BitVec 5)
  /-- XOR (R381): leaf, .s, RD, RS, RT. -/
  | leafXor (l : Fin 192) (s : Bool) (rd rs rt : BitVec 5)
  /-- ANDN (R381): leaf, .s, RD, RS, RT. -/
  | leafAndn (l : Fin 192) (s : Bool) (rd rs rt : BitVec 5)
  /-- NEG (R381): leaf, .s, RD, RS. -/
  | leafNeg (l : Fin 192) (s : Bool) (rd rs : BitVec 5)
  /-- MIN (R381): leaf, .s, RD, RS, RT. -/
  | leafMin (l : Fin 192) (s : Bool) (rd rs rt : BitVec 5)
  /-- MAX (R381): leaf, .s, RD, RS, RT. -/
  | leafMax (l : Fin 192) (s : Bool) (rd rs rt : BitVec 5)
  /-- MINU (R381): leaf, .s, RD, RS, RT. -/
  | leafMinu (l : Fin 192) (s : Bool) (rd rs rt : BitVec 5)
  /-- MAXU (R381): leaf, .s, RD, RS, RT. -/
  | leafMaxu (l : Fin 192) (s : Bool) (rd rs rt : BitVec 5)
  /-- SLT (R381): leaf, .s, RD, RS, RT. -/
  | leafSlt (l : Fin 192) (s : Bool) (rd rs rt : BitVec 5)
  /-- SLTU (R381): leaf, .s, RD, RS, RT. -/
  | leafSltu (l : Fin 192) (s : Bool) (rd rs rt : BitVec 5)
  /-- SLL (R382): leaf, .s, RD, RS, RT. -/
  | leafSll (l : Fin 192) (s : Bool) (rd rs rt : BitVec 5)
  /-- SRL (R382): leaf, .s, RD, RS, RT. -/
  | leafSrl (l : Fin 192) (s : Bool) (rd rs rt : BitVec 5)
  /-- SRA (R382): leaf, .s, RD, RS, RT. -/
  | leafSra (l : Fin 192) (s : Bool) (rd rs rt : BitVec 5)
  /-- ROR (R381): leaf, .s, RD, RS, RT. -/
  | leafRor (l : Fin 192) (s : Bool) (rd rs rt : BitVec 5)
  /-- SLLI (R381): leaf, .s, RD, RS, amount. -/
  | leafSlli (l : Fin 192) (s : Bool) (rd rs amt : BitVec 5)
  /-- SRLI (R381): leaf, .s, RD, RS, amount. -/
  | leafSrli (l : Fin 192) (s : Bool) (rd rs amt : BitVec 5)
  /-- SRAI (R381): leaf, .s, RD, RS, amount. -/
  | leafSrai (l : Fin 192) (s : Bool) (rd rs amt : BitVec 5)
  /-- RORI (R381): leaf, .s, RD, RS, amount. -/
  | leafRori (l : Fin 192) (s : Bool) (rd rs amt : BitVec 5)
  /-- CLZ (R381): leaf, .s, RD, RS. -/
  | leafClz (l : Fin 192) (s : Bool) (rd rs : BitVec 5)
  /-- BSWAP (R381): leaf, .s, RD, RS. -/
  | leafBswap (l : Fin 192) (s : Bool) (rd rs : BitVec 5)
  /-- ADDI (R383): leaf, RD, RS, IMM16. -/
  | leafAddi (l : Fin 192) (rd rs : BitVec 5) (imm : BitVec 16)
  /-- ANDI (R383): leaf, RD, RS, IMM16. -/
  | leafAndi (l : Fin 192) (rd rs : BitVec 5) (imm : BitVec 16)
  /-- ORI (R383): leaf, RD, RS, IMM16. -/
  | leafOri (l : Fin 192) (rd rs : BitVec 5) (imm : BitVec 16)
  /-- XORI (R383): leaf, RD, RS, IMM16. -/
  | leafXori (l : Fin 192) (rd rs : BitVec 5) (imm : BitVec 16)
  /-- SLTI (R383): leaf, RD, RS, IMM16. -/
  | leafSlti (l : Fin 192) (rd rs : BitVec 5) (imm : BitVec 16)
  /-- SLTIU (R383): leaf, RD, RS, IMM16. -/
  | leafSltiu (l : Fin 192) (rd rs : BitVec 5) (imm : BitVec 16)
  /-- LUI (R383): leaf, RD, IMM16. -/
  | leafLui (l : Fin 192) (rd : BitVec 5) (imm : BitVec 16)
  /-- ADDI_S (R383): leaf, RD, RS, IMM16. -/
  | leafAddiS (l : Fin 192) (rd rs : BitVec 5) (imm : BitVec 16)
  /-- CMPI (R383): leaf, RS, IMM16. -/
  | leafCmpi (l : Fin 192) (rs : BitVec 5) (imm : BitVec 16)
  /-- LW (R384): leaf, RD, RB, addressing mode. -/
  | leafLw (l : Fin 192) (rd rb : BitVec 5) (m : LeafMode)
  /-- LH (R384): leaf, RD, RB, addressing mode. -/
  | leafLh (l : Fin 192) (rd rb : BitVec 5) (m : LeafMode)
  /-- LHU (R384): leaf, RD, RB, addressing mode. -/
  | leafLhu (l : Fin 192) (rd rb : BitVec 5) (m : LeafMode)
  /-- LB (R384): leaf, RD, RB, addressing mode. -/
  | leafLb (l : Fin 192) (rd rb : BitVec 5) (m : LeafMode)
  /-- LBU (R384): leaf, RD, RB, addressing mode. -/
  | leafLbu (l : Fin 192) (rd rb : BitVec 5) (m : LeafMode)
  /-- SW (R384): leaf, RD, RB, addressing mode. -/
  | leafSw (l : Fin 192) (rd rb : BitVec 5) (m : LeafMode)
  /-- SH (R384): leaf, RD, RB, addressing mode. -/
  | leafSh (l : Fin 192) (rd rb : BitVec 5) (m : LeafMode)
  /-- SB (R384): leaf, RD, RB, addressing mode. -/
  | leafSb (l : Fin 192) (rd rb : BitVec 5) (m : LeafMode)
  /-- SWAPW (R385): leaf, RD, RB, IMM13. -/
  | leafSwapw (l : Fin 192) (rd rb : BitVec 5) (imm : BitVec 13)
  /-- MUL (R386): leaf, RD, RS, RT. -/
  | leafMul (l : Fin 192) (rd rs rt : BitVec 5)
  /-- MULHU (R386): leaf, RD, RS, RT. -/
  | leafMulhu (l : Fin 192) (rd rs rt : BitVec 5)
  /-- MULHS (R386): leaf, RD, RS, RT. -/
  | leafMulhs (l : Fin 192) (rd rs rt : BitVec 5)
  /-- MULA (R386): leaf, RS, RT. -/
  | leafMula (l : Fin 192) (rs rt : BitVec 5)
  /-- MAC (R386): leaf, RS, RT. -/
  | leafMac (l : Fin 192) (rs rt : BitVec 5)
  /-- MACU (R386): leaf, RS, RT. -/
  | leafMacu (l : Fin 192) (rs rt : BitVec 5)
  /-- MSU (R386): leaf, RS, RT. -/
  | leafMsu (l : Fin 192) (rs rt : BitVec 5)
  /-- MSUU (R386): leaf, RS, RT. -/
  | leafMsuu (l : Fin 192) (rs rt : BitVec 5)
  /-- MFA (R386): leaf, RD, SEL. -/
  | leafMfa (l : Fin 192) (rd : BitVec 5) (sel : Fin 3)
  /-- MFAT (R386): leaf, RD. -/
  | leafMfat (l : Fin 192) (rd : BitVec 5)
  /-- MTA (R386): leaf, SEL, RS. -/
  | leafMta (l : Fin 192) (sel : Fin 3) (rs : BitVec 5)
  /-- ACLR (R386): leaf. -/
  | leafAclr (l : Fin 192)
  /-- ASHR (R386): leaf, SEL. -/
  | leafAshr (l : Fin 192) (sel : BitVec 7)
  /-- ASHL (R386): leaf, SEL. -/
  | leafAshl (l : Fin 192) (sel : BitVec 7)
  /-- ACCM (R386): leaf, SEL[0]. -/
  | leafAccm (l : Fin 192) (sat : Bool)
  /-- DIVU (R387): leaf, RD / 2, RS, RT. -/
  | leafDivu (l : Fin 192) (rp : BitVec 4) (rs rt : BitVec 5)
  /-- DIVS (R387): leaf, RD / 2, RS, RT. -/
  | leafDivs (l : Fin 192) (rp : BitVec 4) (rs rt : BitVec 5)
  /-- B_COND (R388): leaf, COND, OFF22. -/
  | leafBcond (l : Fin 192) (c : LeafCond) (off : BitVec 22)
  /-- BZ (R388): leaf, RS, IMM16. -/
  | leafBz (l : Fin 192) (rs : BitVec 5) (off : BitVec 16)
  /-- BNZ (R388): leaf, RS, IMM16. -/
  | leafBnz (l : Fin 192) (rs : BitVec 5) (off : BitVec 16)
  /-- J (R388): leaf, OFF26. -/
  | leafJ (l : Fin 192) (off : BitVec 26)
  /-- JAL (R388): leaf, OFF26. -/
  | leafJal (l : Fin 192) (off : BitVec 26)
  /-- JR (R388): leaf, RS. -/
  | leafJr (l : Fin 192) (rs : BitVec 5)
  /-- JALR (R388): leaf, RD, RS. -/
  | leafJalr (l : Fin 192) (rd rs : BitVec 5)
  /-- WAIT (R394): leaf, RD, mask. -/
  | leafWait (l : Fin 192) (rd : BitVec 5) (mask : BitVec 16)
  /-- WAIT_WAKE (R394): leaf, and the cycles that passed while it waited. -/
  | leafWaitWake (l : Fin 192) (cycles : Nat)
  /-- EVCLR (R394): leaf, mask. -/
  | leafEvclr (l : Fin 192) (mask : BitVec 16)
  /-- MFF (R389): leaf, RD. -/
  | leafMff (l : Fin 192) (rd : BitVec 5)
  /-- MTF (R374): leaf, RS. -/
  | leafMtf (l : Fin 192) (rs : BitVec 5)
  /-- MFS (R389): leaf, RD, sel. -/
  | leafMfs (l : Fin 192) (rd : BitVec 5) (sel : Fin 6)
  /-- UNDEFINED_ENCODING (R380): leaf. -/
  | leafUndefined (l : Fin 192)
  /-- RESULT_COMPLETION (R369): leaf. -/
  | leafResult (l : Fin 192)
  /-- LEAF_TIMER_EXPIRY (R393): leaf. -/
  | leafTimer (l : Fin 192)
  /-- AES_ECB_ENCRYPT (R401): the leaf submits it, with its tag and descriptor address. -/
  | sapAesEcbEncrypt (l : Fin 192) (tag : Fin 8) (desc : BitVec 16)
  /-- AES_ECB_DECRYPT (R401): the leaf submits it, with its tag and descriptor address. -/
  | sapAesEcbDecrypt (l : Fin 192) (tag : Fin 8) (desc : BitVec 16)
  /-- AES_CTR_ENCRYPT (R401): the leaf submits it, with its tag and descriptor address. -/
  | sapAesCtrEncrypt (l : Fin 192) (tag : Fin 8) (desc : BitVec 16)
  /-- AES_CTR_DECRYPT (R401): the leaf submits it, with its tag and descriptor address. -/
  | sapAesCtrDecrypt (l : Fin 192) (tag : Fin 8) (desc : BitVec 16)
  /-- AES_XTS_ENCRYPT (R401): the leaf submits it, with its tag and descriptor address. -/
  | sapAesXtsEncrypt (l : Fin 192) (tag : Fin 8) (desc : BitVec 16)
  /-- AES_XTS_DECRYPT (R401): the leaf submits it, with its tag and descriptor address. -/
  | sapAesXtsDecrypt (l : Fin 192) (tag : Fin 8) (desc : BitVec 16)
  /-- GCM_SEAL (R401): the leaf submits it, with its tag and descriptor address. -/
  | sapGcmSeal (l : Fin 192) (tag : Fin 8) (desc : BitVec 16)
  /-- GCM_OPEN (R401): the leaf submits it, with its tag and descriptor address. -/
  | sapGcmOpen (l : Fin 192) (tag : Fin 8) (desc : BitVec 16)
  /-- CMAC_GENERATE (R401): the leaf submits it, with its tag and descriptor address. -/
  | sapCmacGenerate (l : Fin 192) (tag : Fin 8) (desc : BitVec 16)
  /-- CMAC_VERIFY (R401): the leaf submits it, with its tag and descriptor address. -/
  | sapCmacVerify (l : Fin 192) (tag : Fin 8) (desc : BitVec 16)
  /-- GMAC_GENERATE (R401): the leaf submits it, with its tag and descriptor address. -/
  | sapGmacGenerate (l : Fin 192) (tag : Fin 8) (desc : BitVec 16)
  /-- GMAC_VERIFY (R401): the leaf submits it, with its tag and descriptor address. -/
  | sapGmacVerify (l : Fin 192) (tag : Fin 8) (desc : BitVec 16)
  /-- HMAC_GENERATE (R401): the leaf submits it, with its tag and descriptor address. -/
  | sapHmacGenerate (l : Fin 192) (tag : Fin 8) (desc : BitVec 16)
  /-- HMAC_VERIFY (R401): the leaf submits it, with its tag and descriptor address. -/
  | sapHmacVerify (l : Fin 192) (tag : Fin 8) (desc : BitVec 16)
  /-- GHASH (R401): the leaf submits it, with its tag and descriptor address. -/
  | sapGhash (l : Fin 192) (tag : Fin 8) (desc : BitVec 16)
  /-- SHA_256 (R401): the leaf submits it, with its tag and descriptor address. -/
  | sapSha256 (l : Fin 192) (tag : Fin 8) (desc : BitVec 16)
  /-- SHA_384 (R401): the leaf submits it, with its tag and descriptor address. -/
  | sapSha384 (l : Fin 192) (tag : Fin 8) (desc : BitVec 16)
  /-- SHA_512 (R401): the leaf submits it, with its tag and descriptor address. -/
  | sapSha512 (l : Fin 192) (tag : Fin 8) (desc : BitVec 16)
  /-- SHA3_256 (R401): the leaf submits it, with its tag and descriptor address. -/
  | sapSha3256 (l : Fin 192) (tag : Fin 8) (desc : BitVec 16)
  /-- SHA3_384 (R401): the leaf submits it, with its tag and descriptor address. -/
  | sapSha3384 (l : Fin 192) (tag : Fin 8) (desc : BitVec 16)
  /-- SHA3_512 (R401): the leaf submits it, with its tag and descriptor address. -/
  | sapSha3512 (l : Fin 192) (tag : Fin 8) (desc : BitVec 16)
  /-- SHAKE128 (R401): the leaf submits it, with its tag and descriptor address. -/
  | sapShake128 (l : Fin 192) (tag : Fin 8) (desc : BitVec 16)
  /-- SHAKE256 (R401): the leaf submits it, with its tag and descriptor address. -/
  | sapShake256 (l : Fin 192) (tag : Fin 8) (desc : BitVec 16)
  /-- SP800_108_KDF (R401): the leaf submits it, with its tag and descriptor address. -/
  | sapSp800108Kdf (l : Fin 192) (tag : Fin 8) (desc : BitVec 16)
  /-- RANDOM_BYTES (R401): the leaf submits it, with its tag and descriptor address. -/
  | sapRandomBytes (l : Fin 192) (tag : Fin 8) (desc : BitVec 16)
  /-- SAP_REQUEST_READY (R398): leaf, tag. -/
  | sapRequestReady (l : Fin 192) (tag : Fin 8)
  /-- LEAF_DMA_SUBMIT (R402): leaf, descriptor address. -/
  | leafDmaSubmit (l : Fin 192) (desc : BitVec 16)
  /-- LEAF_DMA_DONE (R402): leaf, and the 64-byte lines of the transfer with an uncorrectable DRAM error. -/
  | leafDmaDone (l : Fin 192) (badLines : List Nat)
  /-- MODEXP (R411): the submitter. -/
  | brlModexp (w : BrlSender)
  /-- MODMUL (R411): the submitter. -/
  | brlModmul (w : BrlSender)
  /-- MODINV (R411): the submitter. -/
  | brlModinv (w : BrlSender)
  /-- RSA_LOAD (R413): the submitter. -/
  | brlRsaLoad (w : BrlSender)
  /-- RSA_PRIV (R411): the submitter. -/
  | brlRsaPriv (w : BrlSender)
  /-- EC_PUB (R411): the submitter. -/
  | brlEcPub (w : BrlSender)
  /-- ECDSA_SIGN (R419): the submitter. -/
  | brlEcdsaSign (w : BrlSender)
  /-- ECDSA_VERIFY (R411): the submitter. -/
  | brlEcdsaVerify (w : BrlSender)
  /-- EC_MUL (R411): the submitter. -/
  | brlEcMul (w : BrlSender)
  /-- ECDH_EPH (R411): the submitter. -/
  | brlEcdhEph (w : BrlSender)
  /-- ECDH (R409): the submitter. -/
  | brlEcdh (w : BrlSender)
  /-- MLDSA_PUB (R411): the submitter. -/
  | brlMldsaPub (w : BrlSender)
  /-- MLDSA_SIGN (R421): the submitter. -/
  | brlMldsaSign (w : BrlSender)
  /-- MLDSA_VERIFY (R411): the submitter. -/
  | brlMldsaVerify (w : BrlSender)
  /-- MLKEM_PUB (R411): the submitter. -/
  | brlMlkemPub (w : BrlSender)
  /-- MLKEM_ENCAPS (R411): the submitter. -/
  | brlMlkemEncaps (w : BrlSender)
  /-- MLKEM_DECAPS (R411): the submitter. -/
  | brlMlkemDecaps (w : BrlSender)
  /-- LMS_VERIFY (R411): the submitter. -/
  | brlLmsVerify (w : BrlSender)
  /-- BURL_JOB_START (R404): engine, and whether a fetch meets an uncorrectable DRAM error. -/
  | burlJobStart (b : Fin 12) (dram : Bool)
  /-- BURL_JOB_RELEASE (R422): engine, and the fault it detects. -/
  | burlJobRelease (b : Fin 12) (f : BrlFault)
  /-- CURVE_LOAD (R414). -/
  | curveLoad
  /-- CURVE_LOAD_DONE (R415). -/
  | curveLoadDone
  /-- CURVE_UNLOAD (R415): curve ID. -/
  | curveUnload (id : Fin 16)
  /-- CHANNEL_OPEN (R436): the value written to HLW_nn_CFG. -/
  | channelOpen (c : Fin 64) (cfg : BitVec 32)
  /-- CHANNEL_CLOSE (R437): channel. -/
  | channelClose (c : Fin 64)
  /-- HOLLOW_SEND (R440): by PF1 or PF0, channel. -/
  | hollowSend (pf1 : Bool) (c : Fin 64)
  /-- RX_TAKE (R440): by PF1 or PF0, channel. -/
  | rxTake (pf1 : Bool) (c : Fin 64)
  /-- ACK_TAKE (R440): by PF1 or PF0, channel. -/
  | ackTake (pf1 : Bool) (c : Fin 64)
  /-- RX_ACK (R440): by PF1 or PF0, channel, the SEQ and CODE written. -/
  | rxAck (pf1 : Bool) (c : Fin 64) (seq code : BitVec 16)
  /-- RECEIVER_TIMEOUT (R434): channel. -/
  | receiverTimeout (t : Nat) (c : Fin 64)
  /-- KNOCK_RING (R443): by PF1 or PF0, the bits written. -/
  | knockRing (pf1 : Bool) (v : BitVec 32)
  /-- TRANS_CHALLENGE (R455): written through the debug TAP, not PF1; time. -/
  | transChallenge (viaTap : Bool) (t : Nat)
  /-- TRANS_REQUEST (R457): written through the debug TAP, not PF1; time. -/
  | transRequest (viaTap : Bool) (t : Nat)
  /-- DBG_CHALLENGE (R459): written through the debug TAP, not PF1; time. -/
  | dbgChallenge (viaTap : Bool) (t : Nat)
  /-- DBG_RESPONSE (R461): written through the debug TAP, not PF1; time. -/
  | dbgResponse (viaTap : Bool) (t : Nat)
  /-- DBG_LOCK (R461): written through the debug TAP, not PF1; time. -/
  | dbgLock (viaTap : Bool) (t : Nat)
  /-- LCY_RESULT_READY (R458): time, the fuse copies that read back well (3: all), and what a start that follows finds. -/
  | lcyResultReady (t : Nat) (copies : Fin 4) (i : StartIn)
  /-- LCY_ACCESS (R453): time, WRITE, offset in the LCY block, data. -/
  | lcyAccess (t : Nat) (write : Bool) (off v : BitVec 32)
  /-- DBG_ACCESS (R454): time, WRITE, debug address, data. -/
  | dbgAccess (t : Nat) (write : Bool) (a v : BitVec 32)
  /-- HALT (R454): time, leaf. -/
  | dbgHalt (t : Nat) (l : Fin 192)
  /-- STEP (R454): leaf. -/
  | dbgStep (l : Fin 192)
  /-- RESUME_LEAF (R454): leaf. -/
  | resumeLeaf (l : Fin 192)
  /-- IDCODE (R453). -/
  | idcode
  /-- EXTEST (R452). -/
  | extest
  /-- SAMPLE_PRELOAD (R452): the cells as captured, and the values shifted in. -/
  | samplePreload (captured shifted : Bytes)
  /-- TAMPER_FIRE (R467): time, the sources that fire in one cycle, and what the detectors read. -/
  | tamperFire (t : Nat) (srcs raw : BitVec 16)
  /-- STANDBY_TAMPER_FIRE (R474): the sources that fire in one cycle. -/
  | standbyTamperFire (srcs : BitVec 4)
  /-- EVIDENCE_BURN (R471). -/
  | evidenceBurn
  /-- STIM_GO (R476): MASK as written with GO. -/
  | stimGo (mask : BitVec 16)
  /-- STIM_WINDOW_END (R476): the detector fired in its window and then read clear; the real condition stands at the end. -/
  | stimWindowEnd (t : Nat) (pass real : Bool)
  /-- DISABLE_CHALLENGE (R479): time. -/
  | disableChallenge (t : Nat)
  /-- DISABLE_REQUEST (R479): time. -/
  | disableRequest (t : Nat)
  /-- GET_VERSION (R487): the transport, whether another request is still being handled, and the message. -/
  | spdmGetVersion (p : SpdmPort) (busy : Bool) (m : Bytes)
  /-- GET_CAPABILITIES (R488): the transport, whether another request is still being handled, and the message. -/
  | spdmGetCapabilities (p : SpdmPort) (busy : Bool) (m : Bytes)
  /-- NEGOTIATE_ALGORITHMS (R488): the transport, whether another request is still being handled, and the message. -/
  | spdmNegotiateAlgorithms (p : SpdmPort) (busy : Bool) (m : Bytes)
  /-- GET_DIGESTS (R488): the transport, whether another request is still being handled, and the message. -/
  | spdmGetDigests (p : SpdmPort) (busy : Bool) (m : Bytes)
  /-- GET_CERTIFICATE (R488): the transport, whether another request is still being handled, and the message. -/
  | spdmGetCertificate (p : SpdmPort) (busy : Bool) (m : Bytes)
  /-- CHALLENGE (R487): the transport, whether another request is still being handled, and the message. -/
  | spdmChallenge (p : SpdmPort) (busy : Bool) (m : Bytes)
  /-- GET_MEASUREMENTS (R486): the transport, whether another request is still being handled, and the message. -/
  | spdmGetMeasurements (p : SpdmPort) (busy : Bool) (m : Bytes)
  /-- KEY_EXCHANGE (R489): the transport, whether another request is still being handled, and the message. -/
  | spdmKeyExchange (p : SpdmPort) (busy : Bool) (m : Bytes)
  /-- FINISH (R487): the transport, whether another request is still being handled, and the secured record. -/
  | spdmFinish (p : SpdmPort) (busy : Bool) (m : Bytes)
  /-- END_SESSION (R487): the transport, whether another request is still being handled, and the secured record. -/
  | spdmEndSession (p : SpdmPort) (busy : Bool) (m : Bytes)
  /-- SECURED_MESSAGE (R490): the transport, whether another request is still being handled, and the secured record. -/
  | spdmSecuredMessage (p : SpdmPort) (busy : Bool) (m : Bytes)
  /-- UNSUPPORTED_REQUEST (R487): the transport, whether another request is still being handled, and the message. -/
  | spdmUnsupportedRequest (p : SpdmPort) (busy : Bool) (m : Bytes)
  /-- ATT_GO (R492): SCOPE and CHAIN as written with GO. -/
  | attGo (t : Nat) (grove chain : Bool)
  /-- ATT_PERIOD_EXPIRY (R492): at t. -/
  | attPeriodExpiry (t : Nat)
  /-- REPORT_DONE (R492): at t. -/
  | reportDone (t : Nat)
  /-- EVIDENCE_TIMEOUT (R492): at t. -/
  | evidenceTimeout (t : Nat)
  /-- HELLO (R494): the frame, and the port on which it arrives at t. -/
  | ringHello (t : Nat) (east : Bool) (f : RingFrame)
  /-- SYNC (R496): the frame, the port on which it arrives at t, and its residence in ps. -/
  | ringSync (t : Nat) (east : Bool) (f : RingFrame) (res : Nat)
  /-- DELAY_REQ (R496): the frame, and the port on which it arrives at t. -/
  | ringDelayReq (t : Nat) (east : Bool) (f : RingFrame)
  /-- DELAY_RESP (R496): the frame, and the port on which it arrives at t. -/
  | ringDelayResp (t : Nat) (east : Bool) (f : RingFrame)
  /-- HEARTBEAT (R502): the frame, and the port on which it arrives at t. -/
  | ringHeartbeat (t : Nat) (east : Bool) (f : RingFrame)
  /-- GRAIN_BLOCK (R495): the frame, and the port on which it arrives at t. -/
  | ringGrainBlock (t : Nat) (east : Bool) (f : RingFrame)
  /-- LEASE_MIRROR (R501): the frame, and the port on which it arrives at t. -/
  | ringLeaseMirror (t : Nat) (east : Bool) (f : RingFrame)
  /-- LEASE_ACK (R501): the frame, and the port on which it arrives at t. -/
  | ringLeaseAck (t : Nat) (east : Bool) (f : RingFrame)
  /-- FORWARD (R499): the frame, and the port on which it arrives at t. -/
  | ringForward (t : Nat) (east : Bool) (f : RingFrame)
  /-- CONTROL (R502): the frame, and the port on which it arrives at t. -/
  | ringControl (t : Nat) (east : Bool) (f : RingFrame)
  /-- XFER (R503): the frame, and the port on which it arrives at t. -/
  | ringXfer (t : Nat) (east : Bool) (f : RingFrame)
  /-- EVIDENCE_REQ (R492): the frame, and the port on which it arrives at t. -/
  | ringEvidenceReq (t : Nat) (east : Bool) (f : RingFrame)
  /-- EVIDENCE (R492): the frame, and the port on which it arrives at t. -/
  | ringEvidence (t : Nat) (east : Bool) (f : RingFrame)
  /-- REG_REQ (R500): the frame, and the port on which it arrives at t. -/
  | ringRegReq (t : Nat) (east : Bool) (f : RingFrame)
  /-- REG_RESP (R500): the frame, and the port on which it arrives at t. -/
  | ringRegResp (t : Nat) (east : Bool) (f : RingFrame)
  /-- RING_FRAME_BAD (R493): the bytes as they arrive at t on a port. -/
  | ringFrameBad (t : Nat) (east : Bool) (b : Bytes)
  /-- HELLO_TIMER (R493): at t. -/
  | helloTimer (t : Nat)
  /-- SYNC_TIMER (R496): at t. -/
  | syncTimer (t : Nat)
  /-- HEARTBEAT_TIMER (R493): at t. -/
  | heartbeatTimer (t : Nat)
  /-- DELAY_TIMER (R496): at t. -/
  | delayTimer (t : Nat)
  /-- ISOLATION_TIMEOUT (R497): at t. -/
  | isolationTimeout (t : Nat)
  /-- MEMBER_LOSS_TIMEOUT (R502): at t, the member. -/
  | memberLossTimeout (t : Nat) (m : Fin 64)
  /-- MIRROR_RESEND_TIMER (R501): at t. -/
  | mirrorResendTimer (t : Nat)
  /-- GRV_RELAY_ACCESS (R500): offset in the window, a 64-bit access, and the value of a write. -/
  | grvRelayAccess (t : Nat) (off : BitVec 16) (wide : Bool) (w : Option (BitVec 64))
  /-- RELAY_TIMEOUT (R500): at t. -/
  | relayTimeout (t : Nat)
  /-- FORCE_TAKEOVER (R502): the member named. -/
  | forceTakeover (m : Fin 64)
  /-- HANDBACK_AT_WRITE (R504): the slot written. -/
  | handbackAtWrite (v : BitVec 64)
  /-- ALARM_POP (R517). -/
  | alarmPop
  /-- SLEEP_ENTER (R534): time. -/
  | sleepEnter (t : Nat)
  /-- SLEEP_READY (R534): time. -/
  | sleepReady (t : Nat)
  /-- GROVE_PORT_DOWN (R56): the port. -/
  | grovePortDown (t : Nat) (east : Bool)
  /-- GROVE_PORT_UP (R493): the port. -/
  | grovePortUp (t : Nat) (east : Bool)
  /-- HOST_LINK_TRAINED (R434). -/
  | hostLinkTrained
  /-- TAI_SECOND (R46). -/
  | taiSecond (t : Nat)
  /-- BOOTSTRAP_SHADOW_COPY_DONE (R95). -/
  | bootstrapShadowCopyDone
  /-- VSTBY_RETURN (R527): time. -/
  | vstbyReturn (t : Nat)
  /-- SUSPEND_LATENCY_EXPIRY (R204): the moment at which the latency has passed. -/
  | suspendLatencyExpiry (d : Fin 32)
  /-- TEMP_SAMPLE (R543): the sensors of the limbs, byte L for limb L, and of the Taproot. -/
  | tempSample (limbs : BitVec 32) (taproot : BitVec 8)
  /-- MISSION_LOG_HOUR (R546): time, highest reading, mean, minutes by band. -/
  | missionLogHour (t : Nat) (tjMax tjMean : BitVec 8) (m : BitVec 32)
deriving DecidableEq, Repr

end Sys2Proof
end

