-- ==== Sys2Proof/Machine/Bits.lean ====
section
/-!
DEFINITION. Machine/Bits.lean: byte-order and bit-field helpers (00 R5, R6) and the operations of a sparse table.
-/
namespace Sys2Proof.Machine

/-- Little-endian number of a byte string (00 R5). -/
def leNat : Bytes → Nat
  | [] => 0
  | b :: t => b.toNat + 256 * leNat t

/-- Big-endian (wire order) number of a byte string (00 R5). -/
def beNat (b : Bytes) : Nat := leNat b.reverse

/-- `n` bytes of `v`, little-endian. -/
def leBytes : Nat → Nat → Bytes
  | 0, _ => []
  | n + 1, v => BitVec.ofNat 8 v :: leBytes n (v / 256)

/-- `n` bytes of `v`, big-endian (wire order). -/
def beBytes (n v : Nat) : Bytes := (leBytes n v).reverse

/-- `len` bytes of `b` from `off`, shorter where `b` ends. -/
def slice (b : Bytes) (off len : Nat) : Bytes := (b.drop off).take len

/-- The little-endian field of `len` bytes at `off`. -/
def fieldLe (b : Bytes) (off len : Nat) : Nat := leNat (slice b off len)

/-- The big-endian field of `len` bytes at `off`. -/
def fieldBe (b : Bytes) (off len : Nat) : Nat := beNat (slice b off len)

/-- `b` cut or zero-filled to exactly `n` bytes. -/
def padTo (n : Nat) (b : Bytes) : Bytes := b.take n ++ List.replicate (n - b.length) 0

/-- Bit `i` of a number. -/
def bitOf (v i : Nat) : Bool := v.testBit i

/-- Bits [hi:lo] of a number (00 R5). -/
def bitsOf (v hi lo : Nat) : Nat := (v >>> lo) % 2 ^ (hi - lo + 1)

/-- Zero bytes only. -/
def allZero (b : Bytes) : Bool := b.all (· == 0)

/-- Set bit `i` of a bit vector to `v`. -/
def setBit {n : Nat} (x : BitVec n) (i : Nat) (v : Bool) : BitVec n :=
  if v then x ||| (1#n <<< i) else x &&& ~~~(1#n <<< i)

/-- The 1 or 0 of a flag. -/
def b2n (b : Bool) : Nat := if b then 1 else 0

/-- Bytes XORed position by position, as long as the shorter. -/
def xorBytes : Bytes → Bytes → Bytes
  | a :: s, b :: t => (a ^^^ b) :: xorBytes s t
  | _, _ => []

/-- Chunks of `n` bytes (the last may be shorter); fuel bounds the count. -/
def chunksFuel (n : Nat) : Nat → Bytes → List Bytes
  | 0, _ => []
  | _ + 1, [] => []
  | f + 1, b => b.take n :: chunksFuel n f (b.drop n)

/-- Chunks of `n` bytes of a whole string. -/
def chunks (n : Nat) (b : Bytes) : List Bytes := chunksFuel n b.length b

/-- Entry `k` of a sparse table whose default is `d`. -/
def tget {α : Type} (d : α) : Tab α → Nat → α
  | [], _ => d
  | (j, v) :: t, k => if k = j then v else if k < j then d else tget d t k

/-- The table with entry `k` set to `v`, kept in canonical form: a value equal to the default is not listed. -/
def tset {α : Type} [DecidableEq α] (d : α) : Tab α → Nat → α → Tab α
  | [], k, v => if v = d then [] else [(k, v)]
  | (j, w) :: t, k, v =>
    if k < j then (if v = d then (j, w) :: t else (k, v) :: (j, w) :: t)
    else if k = j then (if v = d then t else (k, v) :: t)
    else (j, w) :: tset d t k v

/-- Entry `k` changed by `f`. -/
def tmod {α : Type} [DecidableEq α] (d : α) (t : Tab α) (k : Nat) (f : α → α) : Tab α := tset d t k (f (tget d t k))

/-- The canonical form: keys strictly rising above `lo`, no value the default. -/
def twfFrom {α : Type} [DecidableEq α] (d : α) : Option Nat → Tab α → Bool
  | _, [] => true
  | lo, (k, v) :: t => (match lo with | none => true | some l => decide (l < k)) && decide (v ≠ d) && twfFrom d (some k) t

/-- A table is in canonical form. -/
def twf {α : Type} [DecidableEq α] (d : α) (t : Tab α) : Bool := twfFrom d none t

/-- The entries whose key satisfies `p`. -/
def tfilter {α : Type} (p : Nat → Bool) (t : Tab α) : Tab α := t.filter (fun e => p e.1)

/-- The entries of `b` put into `a`. -/
def tmerge {α : Type} [DecidableEq α] (d : α) (a b : Tab α) : Tab α := b.foldl (fun t e => tset d t e.1 e.2) a

/-- `len` bytes read from a byte memory whose unlisted bytes read `d`. -/
def mread (d : Byte) (m : Tab Byte) (a : Nat) : Nat → Bytes
  | 0 => []
  | n + 1 => tget d m a :: mread d m (a + 1) n

/-- A byte string stored at `a`, byte by byte. -/
def mwrite (d : Byte) (m : Tab Byte) (a : Nat) : Bytes → Tab Byte
  | [] => m
  | b :: t => mwrite d (tset d m a b) (a + 1) t

/-- A byte memory whose unlisted bytes read as zero is in its canonical form: addresses strictly rising, no zero byte listed
(log entry 2). -/
def Memory.wf (m : Tab Byte) : Bool := twf 0 m

end Sys2Proof.Machine
end

