-- ==== Sys2Proof/Machine/CryptoHash.lean ====
section
/-!
DEFINITION. Machine/CryptoHash.lean: the hash functions that the spec names by their standards (FIPS 180-4 SHA-256,
SHA-384, SHA-512; FIPS 202 SHA3 and SHAKE), HMAC (FIPS 198-1). PRESUMED: written from the standards (log entry 4).
-/
namespace Sys2Proof.Machine

/-- SHA-256's constants. -/
def sha256K : List Nat :=
    [0x428a2f98, 0x71374491, 0xb5c0fbcf, 0xe9b5dba5, 0x3956c25b, 0x59f111f1, 0x923f82a4, 0xab1c5ed5]
    ++ [0xd807aa98, 0x12835b01, 0x243185be, 0x550c7dc3, 0x72be5d74, 0x80deb1fe, 0x9bdc06a7, 0xc19bf174]
    ++ [0xe49b69c1, 0xefbe4786, 0xfc19dc6, 0x240ca1cc, 0x2de92c6f, 0x4a7484aa, 0x5cb0a9dc, 0x76f988da]
    ++ [0x983e5152, 0xa831c66d, 0xb00327c8, 0xbf597fc7, 0xc6e00bf3, 0xd5a79147, 0x6ca6351, 0x14292967]
    ++ [0x27b70a85, 0x2e1b2138, 0x4d2c6dfc, 0x53380d13, 0x650a7354, 0x766a0abb, 0x81c2c92e, 0x92722c85]
    ++ [0xa2bfe8a1, 0xa81a664b, 0xc24b8b70, 0xc76c51a3, 0xd192e819, 0xd6990624, 0xf40e3585, 0x106aa070]
    ++ [0x19a4c116, 0x1e376c08, 0x2748774c, 0x34b0bcb5, 0x391c0cb3, 0x4ed8aa4a, 0x5b9cca4f, 0x682e6ff3]
    ++ [0x748f82ee, 0x78a5636f, 0x84c87814, 0x8cc70208, 0x90befffa, 0xa4506ceb, 0xbef9a3f7, 0xc67178f2]
/-- SHA-512's constants. -/
def sha512K : List Nat :=
    [0x428a2f98d728ae22, 0x7137449123ef65cd, 0xb5c0fbcfec4d3b2f, 0xe9b5dba58189dbbc]
    ++ [0x3956c25bf348b538, 0x59f111f1b605d019, 0x923f82a4af194f9b, 0xab1c5ed5da6d8118]
    ++ [0xd807aa98a3030242, 0x12835b0145706fbe, 0x243185be4ee4b28c, 0x550c7dc3d5ffb4e2]
    ++ [0x72be5d74f27b896f, 0x80deb1fe3b1696b1, 0x9bdc06a725c71235, 0xc19bf174cf692694]
    ++ [0xe49b69c19ef14ad2, 0xefbe4786384f25e3, 0xfc19dc68b8cd5b5, 0x240ca1cc77ac9c65]
    ++ [0x2de92c6f592b0275, 0x4a7484aa6ea6e483, 0x5cb0a9dcbd41fbd4, 0x76f988da831153b5]
    ++ [0x983e5152ee66dfab, 0xa831c66d2db43210, 0xb00327c898fb213f, 0xbf597fc7beef0ee4]
    ++ [0xc6e00bf33da88fc2, 0xd5a79147930aa725, 0x6ca6351e003826f, 0x142929670a0e6e70]
    ++ [0x27b70a8546d22ffc, 0x2e1b21385c26c926, 0x4d2c6dfc5ac42aed, 0x53380d139d95b3df]
    ++ [0x650a73548baf63de, 0x766a0abb3c77b2a8, 0x81c2c92e47edaee6, 0x92722c851482353b]
    ++ [0xa2bfe8a14cf10364, 0xa81a664bbc423001, 0xc24b8b70d0f89791, 0xc76c51a30654be30]
    ++ [0xd192e819d6ef5218, 0xd69906245565a910, 0xf40e35855771202a, 0x106aa07032bbd1b8]
    ++ [0x19a4c116b8d2d0c8, 0x1e376c085141ab53, 0x2748774cdf8eeb99, 0x34b0bcb5e19b48a8]
    ++ [0x391c0cb3c5c95a63, 0x4ed8aa4ae3418acb, 0x5b9cca4f7763e373, 0x682e6ff3d6b2b8a3]
    ++ [0x748f82ee5defb2fc, 0x78a5636f43172f60, 0x84c87814a1f0ab72, 0x8cc702081a6439ec]
    ++ [0x90befffa23631e28, 0xa4506cebde82bde9, 0xbef9a3f7b2c67915, 0xc67178f2e372532b]
    ++ [0xca273eceea26619c, 0xd186b8c721c0c207, 0xeada7dd6cde0eb1e, 0xf57d4f7fee6ed178]
    ++ [0x6f067aa72176fba, 0xa637dc5a2c898a6, 0x113f9804bef90dae, 0x1b710b35131c471b]
    ++ [0x28db77f523047d84, 0x32caab7b40c72493, 0x3c9ebe0a15c9bebc, 0x431d67c49c100d4c]
    ++ [0x4cc5d4becb3e42b6, 0x597f299cfc657e2a, 0x5fcb6fab3ad6faec, 0x6c44198c4a475817]
/-- SHA-256's initial state. -/
def sha256H : List Nat := [0x6a09e667, 0xbb67ae85, 0x3c6ef372, 0xa54ff53a, 0x510e527f, 0x9b05688c, 0x1f83d9ab, 0x5be0cd19]
/-- SHA-512's initial state. -/
def sha512H : List Nat := [0x6a09e667f3bcc908, 0xbb67ae8584caa73b, 0x3c6ef372fe94f82b, 0xa54ff53a5f1d36f1] ++ [0x510e527fade682d1, 0x9b05688c2b3e6c1f, 0x1f83d9abfb41bd6b, 0x5be0cd19137e2179]
/-- SHA-384's initial state. -/
def sha384H : List Nat := [0xcbbb9d5dc1059ed8, 0x629a292a367cd507, 0x9159015a3070dd17, 0x152fecd8f70e5939] ++ [0x67332667ffc00b31, 0x8eb44a8768581511, 0xdb0c2e0d64f98fa7, 0x47b5481dbefa4fa4]

/-- Parameters of one SHA-2 word size: word bits, the six rotation triples, the constants. -/
structure Sha2 where
  w : Nat
  s0 : Nat × Nat × Nat
  s1 : Nat × Nat × Nat
  m0 : Nat × Nat × Nat
  m1 : Nat × Nat × Nat
  k : List Nat

/-- The 32-bit SHA-2. -/
def sha2_32 : Sha2 := { w := 32, s0 := (2, 13, 22), s1 := (6, 11, 25), m0 := (7, 18, 3), m1 := (17, 19, 10), k := sha256K }
/-- The 64-bit SHA-2. -/
def sha2_64 : Sha2 := { w := 64, s0 := (28, 34, 39), s1 := (14, 18, 41), m0 := (1, 8, 7), m1 := (19, 61, 6), k := sha512K }

/-- Rotate right within `w` bits. -/
def rotrN (w x n : Nat) : Nat := (x >>> n) ||| ((x <<< (w - n)) % 2 ^ w)

/-- Three rotations XORed. -/
def sig3 (w : Nat) (r : Nat × Nat × Nat) (x : Nat) : Nat := rotrN w x r.1 ^^^ rotrN w x r.2.1 ^^^ rotrN w x r.2.2
/-- Two rotations and a shift XORed. -/
def sig2 (w : Nat) (r : Nat × Nat × Nat) (x : Nat) : Nat := rotrN w x r.1 ^^^ rotrN w x r.2.1 ^^^ (x >>> r.2.2)

/-- The message schedule, newest word first. -/
def sha2Sched (p : Sha2) : Nat → List Nat → List Nat
  | 0, ws => ws
  | n + 1, ws =>
    let g := fun i => ws.getD i 0
    sha2Sched p n (((sig2 p.w p.m1 (g 1) + g 6 + sig2 p.w p.m0 (g 14) + g 15) % 2 ^ p.w) :: ws)

/-- One round on the eight working words. -/
def sha2Round (p : Sha2) (st : List Nat) (kw : Nat × Nat) : List Nat :=
  match st with
  | [a, b, c, d, e, f, g, h] =>
    let ch := (e &&& f) ^^^ ((2 ^ p.w - 1 - e) &&& g)
    let maj := (a &&& b) ^^^ (a &&& c) ^^^ (b &&& c)
    let t1 := h + sig3 p.w p.s1 e + ch + kw.1 + kw.2
    let t2 := sig3 p.w p.s0 a + maj
    [(t1 + t2) % 2 ^ p.w, a, b, c, (d + t1) % 2 ^ p.w, e, f, g]
  | _ => st

/-- One block. -/
def sha2Block (p : Sha2) (h : List Nat) (blk : Bytes) : List Nat :=
  let ws := ((chunks (p.w / 8) blk).map beNat).reverse
  let sched := (sha2Sched p (p.k.length - 16) ws).reverse
  let st := (p.k.zip sched).foldl (sha2Round p) h
  (h.zip st).map (fun x => (x.1 + x.2) % 2 ^ p.w)

/-- SHA-2 padding. -/
def sha2Pad (p : Sha2) (m : Bytes) : Bytes :=
  let b := p.w * 2
  let z := (2 * b - (m.length + 1 + b / 8) % b) % b
  m ++ [0x80] ++ List.replicate z 0 ++ beBytes (b / 8) (8 * m.length)

/-- SHA-2 over a whole message. -/
def sha2 (p : Sha2) (h : List Nat) (outLen : Nat) (m : Bytes) : Bytes :=
  (((chunks (p.w * 2) (sha2Pad p m)).foldl (sha2Block p) h).flatMap (beBytes (p.w / 8))).take outLen

/-- SHA-256. -/
def sha256 (m : Bytes) : Bytes := sha2 sha2_32 sha256H 32 m
/-- SHA-384. -/
def sha384 (m : Bytes) : Bytes := sha2 sha2_64 sha384H 48 m
/-- SHA-512. -/
def sha512 (m : Bytes) : Bytes := sha2 sha2_64 sha512H 64 m

/-- Keccak's round constants. -/
def keccakRC : List Nat :=
    [0x1, 0x8082, 0x800000000000808a, 0x8000000080008000, 0x808b, 0x80000001]
    ++ [0x8000000080008081, 0x8000000000008009, 0x8a, 0x88, 0x80008009, 0x8000000a]
    ++ [0x8000808b, 0x800000000000008b, 0x8000000000008089, 0x8000000000008003, 0x8000000000008002, 0x8000000000000080]
    ++ [0x800a, 0x800000008000000a, 0x8000000080008081, 0x8000000000008080, 0x80000001, 0x8000000080008008]
/-- Keccak's rotation offsets, lane 5y + x. -/
def keccakRot : List Nat := [0, 1, 62, 28, 27, 36, 44, 6, 55, 20, 3, 10, 43, 25, 39, 41, 45, 15, 21, 8, 18, 2, 61, 56, 14]

/-- Rotate a 64-bit lane left. -/
def rotl64 (x n : Nat) : Nat := ((x <<< n) % 2 ^ 64) ||| (x >>> (64 - n))

/-- One Keccak round on 25 lanes. -/
def keccakRound (a : List Nat) (rc : Nat) : List Nat :=
  let g := fun i => a.getD i 0
  let c := (List.range 5).map (fun x => g x ^^^ g (x + 5) ^^^ g (x + 10) ^^^ g (x + 15) ^^^ g (x + 20))
  let d := (List.range 5).map (fun x => c.getD ((x + 4) % 5) 0 ^^^ rotl64 (c.getD ((x + 1) % 5) 0) 1)
  let t := (List.range 25).map (fun i => rotl64 (g i ^^^ d.getD (i % 5) 0) (keccakRot.getD i 0))
  let b := (List.range 25).map (fun i => let x := i % 5; let y := i / 5; t.getD (5 * x + (x + 3 * y) % 5) 0)
  let h := fun i => b.getD i 0
  (List.range 25).map (fun i =>
    let x := i % 5; let y := i / 5
    let v := h i ^^^ ((2 ^ 64 - 1 - h (5 * y + (x + 1) % 5)) &&& h (5 * y + (x + 2) % 5))
    if i = 0 then v ^^^ rc else v)

/-- Keccak-f[1600]. -/
def keccakF (a : List Nat) : List Nat := keccakRC.foldl keccakRound a

/-- XOR a block into the lanes. -/
def keccakAbsorb (a : List Nat) (blk : Bytes) : List Nat :=
  let ls := (chunks 8 blk).map leNat
  keccakF ((List.range 25).map (fun i => a.getD i 0 ^^^ ls.getD i 0))

/-- Squeeze `n` blocks of `rate` bytes. -/
def keccakSqueeze (rate : Nat) : Nat → List Nat → Bytes
  | 0, _ => []
  | n + 1, a => (a.flatMap (leBytes 8)).take rate ++ keccakSqueeze rate n (keccakF a)

/-- Keccak sponge: rate in bytes, domain byte, output length. -/
def keccak (rate : Nat) (dom : Byte) (outLen : Nat) (m : Bytes) : Bytes :=
  let z := rate - 1 - m.length % rate
  let pad := if z = 0 then [dom ||| 0x80] else [dom] ++ List.replicate (z - 1) 0 ++ [0x80]
  let st := (chunks rate (m ++ pad)).foldl keccakAbsorb (List.replicate 25 0)
  (keccakSqueeze rate (outLen / rate + 1) st).take outLen

/-- SHA3-256. -/
def sha3_256 (m : Bytes) : Bytes := keccak 136 6 32 m
/-- SHA3-384. -/
def sha3_384 (m : Bytes) : Bytes := keccak 104 6 48 m
/-- SHA3-512. -/
def sha3_512 (m : Bytes) : Bytes := keccak 72 6 64 m
/-- SHAKE128. -/
def shake128 (n : Nat) (m : Bytes) : Bytes := keccak 168 0x1F n m
/-- SHAKE256. -/
def shake256 (n : Nat) (m : Bytes) : Bytes := keccak 136 0x1F n m

/-- HMAC over a hash with block size `b`. -/
def hmac (h : Bytes → Bytes) (b : Nat) (key m : Bytes) : Bytes :=
  let k := padTo b (if b < key.length then h key else key)
  h (k.map (· ^^^ 0x5C) ++ h (k.map (· ^^^ 0x36) ++ m))

/-- HMAC-SHA-256. -/
def hmac256 (key m : Bytes) : Bytes := hmac sha256 64 key m
/-- HMAC-SHA-384. -/
def hmac384 (key m : Bytes) : Bytes := hmac sha384 128 key m

end Sys2Proof.Machine
end

