-- ==== Sys2Proof/Machine/CryptoEc.lean ====
section
/-!
DEFINITION. Machine/CryptoEc.lean: modular arithmetic, short Weierstrass curves and ECDSA (FIPS 186-5, SP 800-186).
PRESUMED: written from the standards (log entry 4).
-/
namespace Sys2Proof.Machine

/-- b^e mod m by `fuel` bits, from the top bit. -/
def powModFuel (b m : Nat) : Nat → Nat → Nat
  | 0, _ => 1 % m
  | f + 1, e => if e = 0 then 1 % m else
    let h := powModFuel b m f (e / 2)
    let q := h * h % m
    if e % 2 = 1 then q * b % m else q
/-- b^e mod m. -/
def powMod (b e m : Nat) : Nat := powModFuel b m (e.log2 + 1) e

/-- Extended Euclid: (g, x) with a·x ≡ g (mod m). -/
def egcd : Nat → Int → Int → Int → Int → Int × Int
  | 0, r0, _, x0, _ => (r0, x0)
  | f + 1, r0, r1, x0, x1 =>
    if r1 = 0 then (r0, x0) else egcd f r1 (r0 - r0 / r1 * r1) x1 (x0 - r0 / r1 * x1)
/-- The inverse of a mod m, when there is one. -/
def invMod (a m : Nat) : Option Nat :=
  let r := egcd (2 * (m.log2 + 2) + 8) (a % m : Nat) m 1 0
  if r.1 = 1 then some (r.2 % (m : Int)).toNat else none

/-- A curve y² = x³ + ax + b over a prime field, with its base point and order (SP 800-186). -/
structure Curve where
  p : Nat := 0
  a : Nat := 0
  b : Nat := 0
  gx : Nat := 0
  gy : Nat := 0
  n : Nat := 0
  /-- Bytes of a coordinate. -/
  len : Nat := 0
deriving DecidableEq, Repr

/-- P-256. -/
def curveP256 : Curve where
  p := 0xffffffff00000001000000000000000000000000ffffffffffffffffffffffff
  a := 0xffffffff00000001000000000000000000000000fffffffffffffffffffffffc
  b := 0x5ac635d8aa3a93e7b3ebbd55769886bc651d06b0cc53b0f63bce3c3e27d2604b
  gx := 0x6b17d1f2e12c4247f8bce6e563a440f277037d812deb33a0f4a13945d898c296
  gy := 0x4fe342e2fe1a7f9b8ee7eb4a7c0f9e162bce33576b315ececbb6406837bf51f5
  n := 0xffffffff00000000ffffffffffffffffbce6faada7179e84f3b9cac2fc632551
  len := 32
/-- P-384. -/
def curveP384 : Curve where
  p := 0xfffffffffffffffffffffffffffffffffffffffffffffffffffffffffffffffeffffffff0000000000000000ffffffff
  a := 0xfffffffffffffffffffffffffffffffffffffffffffffffffffffffffffffffeffffffff0000000000000000fffffffc
  b := 0xb3312fa7e23ee7e4988e056be3f82d19181d9c6efe8141120314088f5013875ac656398d8a2ed19d2a85c8edd3ec2aef
  gx := 0xaa87ca22be8b05378eb1c71ef320ad746e1d3b628ba79b9859f741e082542a385502f25dbf55296c3a545e3872760ab7
  gy := 0x3617de4a96262c6f5d9e98bf9292dc29f8f41dbd289a147ce9da3113b5f0b8c00a60b1ce1d7e819d7a431d7c90ea0e5f
  n := 0xffffffffffffffffffffffffffffffffffffffffffffffffc7634d81f4372ddf581a0db248b0a77aecec196accc52973
  len := 48
/-- P-521. -/
def curveP521 : Curve where
  p := 2 ^ 521 - 1
  a := 2 ^ 521 - 4
  b := 0x051953eb9618e1c9a1f929a21a0b68540eea2da725b99b315f3b8b489918ef109e156193951ec7e937b1652c0bd3bb1bf073573df883d2c34f1ef451fd46b503f00
  gx := 0xc6858e06b70404e9cd9e3ecb662395b4429c648139053fb521f828af606b4d3dbaa14b5e77efe75928fe1dc127a2ffa8de3348b3c1856a429bf97e7e31c2e5bd66
  gy := 0x11839296a789a3bc0045c8a5fb42c7d1bd998f54449579b446817afbd17273e662c97ee72995ef42640c550b9013fad0761353c7086a272c24088be94769fd16650
  n := 0x1fffffffffffffffffffffffffffffffffffffffffffffffffffffffffffffffffa51868783bf2f966b7fcc0148f709a5d03bb5c9b8899c47aebb6fb71e91386409
  len := 66

/-- An affine point, none for the point at infinity. -/
abbrev EcPoint := Option (Nat × Nat)

/-- Point addition. -/
def ecAdd (c : Curve) (s t : EcPoint) : EcPoint :=
  match s, t with
  | none, q => q
  | q, none => q
  | some (x1, y1), some (x2, y2) =>
    if x1 = x2 then
      if (y1 + y2) % c.p = 0 then none
      else match invMod (2 * y1) c.p with
        | none => none
        | some i =>
          let l := (3 * x1 * x1 + c.a) * i % c.p
          let x := (l * l + 2 * (c.p - x1)) % c.p
          some (x, (l * (x1 + c.p - x) + (c.p - y1)) % c.p)
    else match invMod (x2 + c.p - x1) c.p with
      | none => none
      | some i =>
        let l := (y2 + c.p - y1) * i % c.p
        let x := (l * l + (c.p - x1) + (c.p - x2)) % c.p
        some (x, (l * (x1 + c.p - x) + (c.p - y1)) % c.p)

/-- Scalar multiplication from the top bit. -/
def ecMulFuel (c : Curve) (q : EcPoint) : Nat → Nat → EcPoint
  | 0, _ => none
  | f + 1, k => if k = 0 then none else
    let h := ecMulFuel c q f (k / 2)
    let d := ecAdd c h h
    if k % 2 = 1 then ecAdd c d q else d
/-- Scalar multiplication. -/
def ecMul (c : Curve) (k : Nat) (q : EcPoint) : EcPoint := ecMulFuel c q (k.log2 + 1) k

/-- The base point. -/
def Curve.g (c : Curve) : EcPoint := some (c.gx, c.gy)

/-- The point lies on the curve, coordinates reduced. -/
def onCurve (c : Curve) (x y : Nat) : Bool :=
  decide (x < c.p) && decide (y < c.p) && (y * y % c.p == (x * x * x + c.a * x + c.b) % c.p)

/-- The leftmost bits of a hash as an integer, as long as the order. -/
def hashInt (c : Curve) (h : Bytes) : Nat :=
  let bits := 8 * h.length
  let nb := c.n.log2 + 1
  if bits ≤ nb then beNat h else beNat h >>> (bits - nb)

/-- ECDSA verification of (r, s) over a hash. -/
def ecdsaVerify (c : Curve) (qx qy : Nat) (h : Bytes) (r s : Nat) : Bool :=
  if r = 0 ∨ c.n ≤ r ∨ s = 0 ∨ c.n ≤ s ∨ !onCurve c qx qy then false
  else match invMod s c.n with
    | none => false
    | some w =>
      match ecAdd c (ecMul c (hashInt c h * w % c.n) c.g) (ecMul c (r * w % c.n) (some (qx, qy))) with
      | none => false
      | some (x, _) => x % c.n == r

/-- ECDSA signature with the per-message secret `k`, none where r or s is 0. -/
def ecdsaSign (c : Curve) (d k : Nat) (h : Bytes) : Option (Nat × Nat) :=
  match ecMul c k c.g, invMod k c.n with
  | some (x, _), some ki =>
    let r := x % c.n
    let s := ki * (hashInt c h + r * d) % c.n
    if r = 0 ∨ s = 0 then none else some (r, s)
  | _, _ => none

end Sys2Proof.Machine
end

