-- ==== Sys2Proof/Machine/CryptoPq.lean ====
section
/-!
DEFINITION. Machine/CryptoPq.lean: LMS (SP 800-208, RFC 8554), ML-DSA (FIPS 204), ML-KEM (FIPS 203).
PRESUMED: written from the standards (log entry 4).
-/
namespace Sys2Proof.Machine

/-- LMS tree parameters: type to (bytes of a node, height). -/
def lmsParam : Nat → Option (Nat × Nat)
  | 5 => some (32, 5) | 6 => some (32, 10) | 7 => some (32, 15) | 8 => some (32, 20) | 9 => some (32, 25)
  | 10 => some (24, 5) | 11 => some (24, 10) | 12 => some (24, 15) | 13 => some (24, 20) | 14 => some (24, 25)
  | _ => none

/-- LM-OTS parameters: type to (bytes of a hash, w, chains, checksum shift). -/
def lmotsParam : Nat → Option (Nat × Nat × Nat × Nat)
  | 1 => some (32, 1, 265, 7) | 2 => some (32, 2, 133, 6) | 3 => some (32, 4, 67, 4) | 4 => some (32, 8, 34, 0)
  | 5 => some (24, 1, 200, 8) | 6 => some (24, 2, 101, 6) | 7 => some (24, 4, 51, 4) | 8 => some (24, 8, 26, 0)
  | _ => none

/-- The `i`-th w-bit coefficient of a string. -/
def lmsCoef (s : Bytes) (w i : Nat) : Nat :=
  ((s.getD (i * w / 8) 0).toNat >>> (8 - w * (i % (8 / w)) - w)) % 2 ^ w

/-- The checksum of LM-OTS. -/
def lmsCksm (q : Bytes) (w ls n : Nat) : Nat :=
  ((List.range (n * 8 / w)).map (fun i => 2 ^ w - 1 - lmsCoef q w i)).sum <<< ls

/-- A hash chain from step `a`, `k` steps. -/
def lmsChain (n : Nat) (pre : Bytes) : Nat → Nat → Bytes → Bytes
  | 0, _, x => x
  | k + 1, a, x => lmsChain n pre k (a + 1) ((sha256 (pre ++ beBytes 1 a ++ x)).take n)

/-- The path from a leaf to the root. -/
def lmsPath (n : Nat) (i : Bytes) : Nat → List Bytes → Bytes → Bytes
  | _, [], x => x
  | node, p :: ps, x =>
    let h := beBytes 4 (node / 2) ++ [0x83, 0x83]
    lmsPath n i (node / 2) ps ((sha256 (i ++ h ++ (if node % 2 = 1 then p ++ x else x ++ p))).take n)

/-- LMS verification, single tree. -/
def lmsVerify (pk msg sig : Bytes) : Bool :=
  match lmsParam (fieldBe pk 0 4), lmotsParam (fieldBe pk 4 4) with
  | some (m, h), some (n, w, p, ls) =>
    let i := slice pk 8 16
    let root := slice pk 24 m
    let q := fieldBe sig 0 4
    let ots := slice sig 4 (4 + n + n * p)
    let rest := sig.drop (4 + 4 + n + n * p)
    if pk.length ≠ 24 + m ∨ sig.length ≠ 12 + n + n * p + m * h ∨ fieldBe ots 0 4 ≠ fieldBe pk 4 4
        ∨ fieldBe rest 0 4 ≠ fieldBe pk 0 4 ∨ 2 ^ h ≤ q ∨ m ≠ n then false
    else
      let hq := (sha256 (i ++ beBytes 4 q ++ [0x81, 0x81] ++ slice ots 4 n ++ msg)).take n
      let qc := hq ++ beBytes 2 (lmsCksm hq w ls n)
      let ys := (List.range p).map (fun j =>
        let a := lmsCoef qc w j
        lmsChain n (i ++ beBytes 4 q ++ beBytes 2 j) (2 ^ w - 1 - a) a (slice ots (4 + n + n * j) n))
      let kc := (sha256 (i ++ beBytes 4 q ++ [0x80, 0x80] ++ ys.flatten)).take n
      let leaf := (sha256 (i ++ beBytes 4 (2 ^ h + q) ++ [0x82, 0x82] ++ kc)).take n
      lmsPath n i (2 ^ h + q) (chunks m (rest.drop 4)) leaf == root
  | _, _ => false

/-! ### Rings of ML-DSA and ML-KEM: polynomials as lists of 256 residues -/

/-- A polynomial. -/
abbrev Poly := List Nat

/-- Addition mod q. -/
def pAdd (q : Nat) (a b : Poly) : Poly := List.zipWith (fun x y => (x + y) % q) a b
/-- Subtraction mod q. -/
def pSub (q : Nat) (a b : Poly) : Poly := List.zipWith (fun x y => (x + q - y) % q) a b
/-- Product by a constant mod q. -/
def pScale (q c : Nat) (a : Poly) : Poly := a.map (fun x => x * c % q)
/-- Reverse the low `n` bits. -/
def brv : Nat → Nat → Nat
  | 0, _ => 0
  | n + 1, x => (x % 2) * 2 ^ n + brv n (x / 2)

/-- Number-theoretic transform of block `m`, `depth` halvings deep; `zt m` is the block's root. -/
def nttRec (q : Nat) (zt : Nat → Nat) : Nat → Nat → Poly → Poly
  | 0, _, a => a
  | d + 1, m, a =>
    let h := a.length / 2
    let l := a.take h
    let r := pScale q (zt m) (a.drop h)
    nttRec q zt d (2 * m) (pAdd q l r) ++ nttRec q zt d (2 * m + 1) (pSub q l r)
/-- The inverse, without the final scaling; `zi m` is the inverse root. -/
def inttRec (q : Nat) (zi : Nat → Nat) : Nat → Nat → Poly → Poly
  | 0, _, a => a
  | d + 1, m, a =>
    let h := a.length / 2
    let l := inttRec q zi d (2 * m) (a.take h)
    let r := inttRec q zi d (2 * m + 1) (a.drop h)
    pAdd q l r ++ pScale q (zi m) (pSub q l r)

/-- Pack values of `w` bits each, least significant bit first. -/
def packBits (w : Nat) (vs : List Nat) : Bytes :=
  leBytes (vs.length * w / 8) (vs.foldr (fun v acc => v % 2 ^ w + 2 ^ w * acc) 0)
/-- Take `n` values of `w` bits from a number. -/
def bitsFrom (w : Nat) : Nat → Nat → List Nat
  | 0, _ => []
  | n + 1, v => v % 2 ^ w :: bitsFrom w n (v / 2 ^ w)
/-- Unpack `n` values of `w` bits each. -/
def unpackBits (w n : Nat) (b : Bytes) : List Nat := bitsFrom w n (leNat b)

/-! ### ML-DSA (FIPS 204) -/

/-- The modulus of ML-DSA. -/
def dsaQ : Nat := 8380417
/-- The roots in bit-reversed order. -/
def dsaZt (m : Nat) : Nat := powMod 1753 (brv 8 m) dsaQ
/-- Their inverses. -/
def dsaZi (m : Nat) : Nat := powMod 1753 (512 - brv 8 m) dsaQ
/-- NTT. -/
def dsaNtt (a : Poly) : Poly := nttRec dsaQ dsaZt 8 1 a
/-- Inverse NTT. -/
def dsaIntt (a : Poly) : Poly := pScale dsaQ 8347681 (inttRec dsaQ dsaZi 8 1 a)
/-- Pointwise product. -/
def dsaMul (a b : Poly) : Poly := List.zipWith (fun x y => x * y % dsaQ) a b

/-- A parameter set of ML-DSA. -/
structure DsaSet where
  k : Nat
  l : Nat
  eta : Nat
  tau : Nat
  beta : Nat
  g1bits : Nat
  g2 : Nat
  omega : Nat
  lam : Nat
/-- ML-DSA-44. -/
def dsa44 : DsaSet := ⟨4, 4, 2, 39, 78, 17, 95232, 80, 32⟩
/-- ML-DSA-65. -/
def dsa65 : DsaSet := ⟨6, 5, 4, 49, 196, 19, 261888, 55, 48⟩
/-- ML-DSA-87. -/
def dsa87 : DsaSet := ⟨8, 7, 2, 60, 120, 19, 261888, 75, 64⟩

/-- A residue as a signed number around 0. -/
def centered (q v : Nat) : Int := if v ≤ q / 2 then v else (v : Int) - q
/-- A signed number as a residue. -/
def residue (q : Nat) (v : Int) : Nat := (v % (q : Int)).toNat
/-- The largest absolute value of a polynomial. -/
def normInf (q : Nat) (a : Poly) : Nat := a.foldl (fun m v => max m (centered q v).natAbs) 0

/-- Exactly `n` values of a sampled list. -/
def takeN (n : Nat) (l : List Nat) : List Nat := l.take n ++ List.replicate (n - l.length) 0
/-- A matrix element by rejection from SHAKE128 (RejNTTPoly). -/
def dsaRejNtt (seed : Bytes) : Poly :=
  takeN 256 (((chunks 3 (shake128 1536 seed)).map (fun c => leNat c % 2 ^ 23)).filter (· < dsaQ))
/-- The matrix A. -/
def dsaA (p : DsaSet) (rho : Bytes) : List (List Poly) :=
  (List.range p.k).map (fun r => (List.range p.l).map (fun s => dsaRejNtt (rho ++ beBytes 1 s ++ beBytes 1 r)))
/-- A short polynomial by rejection from SHAKE256 (RejBoundedPoly). -/
def dsaRejBounded (eta : Nat) (seed : Bytes) : Poly :=
  let nib := (shake256 1024 seed).flatMap (fun b => [b.toNat % 16, b.toNat / 16])
  takeN 256 ((nib.filter (fun v => if eta = 2 then v < 15 else v < 9)).map (fun v =>
    if eta = 2 then residue dsaQ (2 - (v % 5 : Nat)) else residue dsaQ (4 - (v : Nat))))
/-- Matrix times vector in the transformed domain. -/
def dsaMatVec (a : List (List Poly)) (v : List Poly) : List Poly :=
  a.map (fun row => (row.zip v).foldl (fun acc e => pAdd dsaQ acc (dsaMul e.1 e.2)) (List.replicate 256 0))
/-- Power2Round with d = 13. -/
def dsaPower2 (r : Nat) : Nat × Int :=
  let r0 : Int := if r % 8192 ≤ 4096 then (r % 8192 : Nat) else (r % 8192 : Nat) - (8192 : Int)
  ((((r : Int) - r0) / 8192).toNat, r0)
/-- Decompose into high and low bits. -/
def dsaDecompose (g2 r : Nat) : Nat × Int :=
  let m := r % (2 * g2)
  let r0 : Int := if m ≤ g2 then m else (m : Int) - (2 * g2 : Nat)
  if (r : Int) - r0 = (dsaQ : Int) - 1 then (0, r0 - 1) else ((((r : Int) - r0) / (2 * g2 : Nat)).toNat, r0)
/-- UseHint. -/
def dsaUseHint (g2 : Nat) (h : Bool) (r : Nat) : Nat :=
  let m := (dsaQ - 1) / (2 * g2)
  let d := dsaDecompose g2 r
  if !h then d.1 else if 0 < d.2 then (d.1 + 1) % m else (d.1 + m - 1) % m
/-- Bits of a high part in w1Encode. -/
def dsaW1Bits (g2 : Nat) : Nat := if g2 = 95232 then 6 else 4

/-- SampleInBall: place one signed unit at a time; each unit takes the next sign bit. -/
def dsaBallGo : Nat → Nat → Nat → Bytes → Poly → Poly
  | 0, _, _, _, c => c
  | f + 1, signs, i, bs, c =>
    match bs with
    | [] => c
    | b :: t =>
      if 256 ≤ i then c
      else if b.toNat ≤ i then
        dsaBallGo f (signs / 2) (i + 1) t
          ((c.set i (c.getD b.toNat 0)).set b.toNat (if signs % 2 = 1 then dsaQ - 1 else 1))
      else dsaBallGo f signs i t c
/-- SampleInBall. -/
def dsaBall (tau : Nat) (ct : Bytes) : Poly :=
  let st := shake256 1032 ct
  dsaBallGo 1100 (leNat (st.take 8)) (256 - tau) (st.drop 8) (List.replicate 256 0)

/-- Key generation from a 32-byte seed: public key, and the signing values (rho, K, tr, s1, s2, t0). -/
structure DsaKey where
  pk : Bytes
  rho : Bytes
  kk : Bytes
  tr : Bytes
  s1 : List Poly
  s2 : List Poly
  t0 : List Poly
/-- KeyGen_internal. -/
def dsaKeyGen (p : DsaSet) (xi : Bytes) : DsaKey :=
  let e := shake256 128 (xi ++ beBytes 1 p.k ++ beBytes 1 p.l)
  let rho := e.take 32
  let rs := slice e 32 64
  let s1 := (List.range p.l).map (fun r => dsaRejBounded p.eta (rs ++ leBytes 2 r))
  let s2 := (List.range p.k).map (fun r => dsaRejBounded p.eta (rs ++ leBytes 2 (p.l + r)))
  let t := List.zipWith (fun w s => pAdd dsaQ (dsaIntt w) s) (dsaMatVec (dsaA p rho) (s1.map dsaNtt)) s2
  let pk := rho ++ t.flatMap (fun a => packBits 10 (a.map (fun v => (dsaPower2 v).1)))
  { pk := pk, rho := rho, kk := slice e 96 32, tr := shake256 64 pk, s1 := s1, s2 := s2,
    t0 := t.map (fun a => a.map (fun v => residue dsaQ (dsaPower2 v).2)) }

/-- The message representative's input: pure mode with a context string. -/
def dsaMsg (ctx m : Bytes) : Bytes := [0, BitVec.ofNat 8 ctx.length] ++ ctx ++ m

/-- HintBitPack. -/
def dsaHintPack (p : DsaSet) (h : List (List Bool)) : Bytes :=
  let idx := h.map (fun v => (List.range 256).filter (fun i => v.getD i false))
  let ends := (idx.foldl (fun (st : Nat × List Nat) l => (st.1 + l.length, st.2 ++ [st.1 + l.length])) (0, [])).2
  padTo p.omega (idx.flatten.map (BitVec.ofNat 8)) ++ ends.map (BitVec.ofNat 8)

/-- Strictly rising. -/
def rising : List Nat → Bool
  | a :: b :: t => decide (a < b) && rising (b :: t)
  | _ => true
/-- HintBitUnpack: the hints when well formed. -/
def dsaHintUnpack (p : DsaSet) (y : Bytes) : Option (List (List Bool)) :=
  let ends := (y.drop p.omega).map (·.toNat)
  let starts := 0 :: ends
  let rows := (List.range p.k).map (fun i => ((slice y (starts.getD i 0) (ends.getD i 0 - starts.getD i 0)).map (·.toNat)))
  if (starts.zip ends).all (fun e => decide (e.1 ≤ e.2 ∧ e.2 ≤ p.omega)) && rows.all rising
      && allZero (slice y (ends.getD (p.k - 1) 0) (p.omega - ends.getD (p.k - 1) 0)) then
    some (rows.map (fun r => (List.range 256).map (fun i => r.contains i)))
  else none

/-- One signing loop from `kappa`; fuel bounds the iterations. The flag of the result says it succeeded. -/
def dsaSignLoop (p : DsaSet) (key : DsaKey) (aHat : List (List Poly)) (mu rhop : Bytes) : Nat → Nat → Option Bytes
  | 0, _ => none
  | f + 1, kappa =>
    let g1 := 2 ^ p.g1bits
    let y := (List.range p.l).map (fun r =>
      (unpackBits (p.g1bits + 1) 256 (shake256 (32 * (p.g1bits + 1)) (rhop ++ leBytes 2 (kappa + r)))).map
        (fun (v : Nat) => residue dsaQ ((g1 : Nat) - (v : Int))))
    let w := (dsaMatVec aHat (y.map dsaNtt)).map dsaIntt
    let w1 := w.map (fun a => a.map (fun v => (dsaDecompose p.g2 v).1))
    let ct := shake256 p.lam (mu ++ w1.flatMap (packBits (dsaW1Bits p.g2)))
    let c := dsaNtt (dsaBall p.tau ct)
    let cmul := fun v => dsaIntt (dsaMul c (dsaNtt v))
    let z := List.zipWith (fun a s => pAdd dsaQ a (cmul s)) y key.s1
    let wc := List.zipWith (fun a s => pSub dsaQ a (cmul s)) w key.s2
    let r0n := wc.foldl (fun m a => max m (a.foldl (fun m v => max m (dsaDecompose p.g2 v).2.natAbs) 0)) 0
    let ct0 := key.t0.map cmul
    let h := List.zipWith (fun a t => List.zipWith (fun v u =>
      (dsaDecompose p.g2 ((v + u) % dsaQ)).1 != (dsaDecompose p.g2 v).1) a t) wc ct0
    let ones := (h.map (fun v => v.countP id)).sum
    if z.any (fun a => decide (g1 - p.beta ≤ normInf dsaQ a)) || decide (p.g2 - p.beta ≤ r0n)
        || ct0.any (fun a => decide (p.g2 ≤ normInf dsaQ a)) || decide (p.omega < ones) then
      dsaSignLoop p key aHat mu rhop f (kappa + p.l)
    else
      some (ct ++ z.flatMap (fun a => packBits (p.g1bits + 1) (a.map (fun (v : Nat) => residue (2 * g1) ((g1 : Nat) - centered dsaQ v))))
        ++ dsaHintPack p h)

/-- Signing with a bound on the iterations (15 R421). -/
def dsaSign (p : DsaSet) (key : DsaKey) (iters : Nat) (msg rnd : Bytes) : Option Bytes :=
  let mu := shake256 64 (key.tr ++ msg)
  dsaSignLoop p key (dsaA p key.rho) mu (shake256 64 (key.kk ++ rnd ++ mu)) iters 0

/-- Verification of a signature over the formatted message. -/
def dsaVerify (p : DsaSet) (pk msg sig : Bytes) : Bool :=
  let g1 := 2 ^ p.g1bits
  let zl := 32 * (p.g1bits + 1)
  if pk.length ≠ 32 + 320 * p.k ∨ sig.length ≠ p.lam + p.l * zl + p.omega + p.k then false
  else
    let rho := pk.take 32
    let t1 := (chunks 320 (pk.drop 32)).map (unpackBits 10 256)
    let ct := sig.take p.lam
    let z := (chunks zl (slice sig p.lam (p.l * zl))).map (fun b =>
      (unpackBits (p.g1bits + 1) 256 b).map (fun (v : Nat) => residue dsaQ ((g1 : Nat) - (v : Int))))
    match dsaHintUnpack p (sig.drop (p.lam + p.l * zl)) with
    | none => false
    | some h =>
      let mu := shake256 64 (shake256 64 pk ++ msg)
      let c := dsaNtt (dsaBall p.tau ct)
      let az := dsaMatVec (dsaA p rho) (z.map dsaNtt)
      let w := List.zipWith (fun a t => dsaIntt (pSub dsaQ a (dsaMul c (dsaNtt (pScale dsaQ 8192 t))))) az t1
      let w1 := List.zipWith (fun a hh => List.zipWith (fun v b => dsaUseHint p.g2 b v) a hh) w h
      z.all (fun a => decide (normInf dsaQ a < g1 - p.beta))
        && ct == shake256 p.lam (mu ++ w1.flatMap (packBits (dsaW1Bits p.g2)))

/-! ### ML-KEM (FIPS 203) -/

/-- The modulus of ML-KEM. -/
def kemQ : Nat := 3329
/-- NTT. -/
def kemNtt (a : Poly) : Poly := nttRec kemQ (fun m => powMod 17 (brv 7 m) kemQ) 7 1 a
/-- Inverse NTT. -/
def kemIntt (a : Poly) : Poly := pScale kemQ 3303 (inttRec kemQ (fun m => powMod 17 (256 - brv 7 m) kemQ) 7 1 a)
/-- Products of pairs modulo X² − γ. -/
def kemMulGo : Nat → Poly → Poly → Poly
  | i, a0 :: a1 :: a, b0 :: b1 :: b =>
    let g := powMod 17 (2 * brv 7 i + 1) kemQ
    (a0 * b0 + a1 * b1 % kemQ * g) % kemQ :: (a0 * b1 + a1 * b0) % kemQ :: kemMulGo (i + 1) a b
  | _, _, _ => []
/-- Product in the transformed domain. -/
def kemMul (a b : Poly) : Poly := kemMulGo 0 a b

/-- A parameter set of ML-KEM. -/
structure KemSet where
  k : Nat
  eta1 : Nat
  du : Nat
  dv : Nat
/-- ML-KEM-512. -/
def kem512 : KemSet := ⟨2, 3, 10, 4⟩
/-- ML-KEM-768. -/
def kem768 : KemSet := ⟨3, 2, 10, 4⟩
/-- ML-KEM-1024. -/
def kem1024 : KemSet := ⟨4, 2, 11, 5⟩

/-- A matrix element by rejection from SHAKE128 (SampleNTT). -/
def kemSample (seed : Bytes) : Poly :=
  let cs := (chunks 3 (shake128 1536 seed)).flatMap (fun c =>
    [leNat c % 4096, leNat c / 4096])
  takeN 256 (cs.filter (· < kemQ))
/-- The matrix A, element (i, j) from rho, j, i. -/
def kemA (p : KemSet) (rho : Bytes) : List (List Poly) :=
  (List.range p.k).map (fun i => (List.range p.k).map (fun j => kemSample (rho ++ beBytes 1 j ++ beBytes 1 i)))
/-- Centred binomial sample. -/
def kemCbd (eta : Nat) (b : Bytes) : Poly :=
  (unpackBits (2 * eta) 256 b).map (fun v =>
    let ones := fun x => (bitsFrom 1 eta x).sum
    (ones (v % 2 ^ eta) + kemQ - ones (v / 2 ^ eta)) % kemQ)
/-- PRF and sampling with index `n`. -/
def kemNoise (eta : Nat) (s : Bytes) (n : Nat) : Poly := kemCbd eta (shake256 (64 * eta) (s ++ beBytes 1 n))
/-- Inner product in the transformed domain. -/
def kemDot (a b : List Poly) : Poly :=
  (a.zip b).foldl (fun acc e => pAdd kemQ acc (kemMul e.1 e.2)) (List.replicate 256 0)
/-- Compress to `d` bits. -/
def kemCompress (d v : Nat) : Nat := ((v * 2 ^ d * 2 + kemQ) / (2 * kemQ)) % 2 ^ d
/-- Decompress from `d` bits. -/
def kemDecompress (d v : Nat) : Nat := (v * kemQ * 2 + 2 ^ d) / 2 ^ (d + 1)

/-- Key generation from d and z: encapsulation key and decapsulation key. -/
def kemKeyGen (p : KemSet) (d z : Bytes) : Bytes × Bytes :=
  let g := sha3_512 (d ++ beBytes 1 p.k)
  let rho := g.take 32
  let sig := g.drop 32
  let s := (List.range p.k).map (fun i => kemNtt (kemNoise p.eta1 sig i))
  let e := (List.range p.k).map (fun i => kemNtt (kemNoise p.eta1 sig (p.k + i)))
  let t := List.zipWith (fun row x => pAdd kemQ (kemDot row s) x) (kemA p rho) e
  let ek := t.flatMap (packBits 12) ++ rho
  (ek, s.flatMap (packBits 12) ++ ek ++ sha3_256 ek ++ z)

/-- K-PKE encryption. -/
def kemEncrypt (p : KemSet) (ek m r : Bytes) : Bytes :=
  let t := (chunks 384 (ek.take (384 * p.k))).map (unpackBits 12 256)
  let a := kemA p (ek.drop (384 * p.k))
  let y := (List.range p.k).map (fun i => kemNtt (kemNoise p.eta1 r i))
  let u := (List.range p.k).map (fun j =>
    pAdd kemQ (kemIntt (kemDot (a.map (fun row => row.getD j [])) y)) (kemNoise 2 r (p.k + j)))
  let mu := (unpackBits 1 256 m).map (kemDecompress 1)
  let v := pAdd kemQ (pAdd kemQ (kemIntt (kemDot t y)) (kemNoise 2 r (2 * p.k))) mu
  u.flatMap (fun x => packBits p.du (x.map (kemCompress p.du))) ++ packBits p.dv (v.map (kemCompress p.dv))

/-- K-PKE decryption. -/
def kemDecrypt (p : KemSet) (dk c : Bytes) : Bytes :=
  let u := (chunks (32 * p.du) (c.take (32 * p.du * p.k))).map (fun b => (unpackBits p.du 256 b).map (kemDecompress p.du))
  let v := (unpackBits p.dv 256 (c.drop (32 * p.du * p.k))).map (kemDecompress p.dv)
  let s := (chunks 384 (dk.take (384 * p.k))).map (unpackBits 12 256)
  let w := pSub kemQ v (kemIntt (kemDot s (u.map kemNtt)))
  packBits 1 (w.map (kemCompress 1))

/-- Encapsulation with the 32 random bytes `m`: shared secret and ciphertext. -/
def kemEncaps (p : KemSet) (ek m : Bytes) : Bytes × Bytes :=
  let g := sha3_512 (m ++ sha3_256 ek)
  (g.take 32, kemEncrypt p ek m (g.drop 32))

/-- Decapsulation. -/
def kemDecaps (p : KemSet) (dk c : Bytes) : Bytes :=
  let ek := slice dk (384 * p.k) (384 * p.k + 32)
  let m := kemDecrypt p dk c
  let g := sha3_512 (m ++ slice dk (768 * p.k + 32) 32)
  if kemEncrypt p ek m (g.drop 32) = c then g.take 32 else shake256 32 (slice dk (768 * p.k + 64) 32 ++ c)

/-- Every coefficient of an encapsulation key is reduced. -/
def kemEkOk (p : KemSet) (ek : Bytes) : Bool :=
  ek.length == 384 * p.k + 32
    && (chunks 384 (ek.take (384 * p.k))).all (fun b => (unpackBits 12 256 b).all (fun v => decide (v < kemQ)))

end Sys2Proof.Machine
end

