-- ==== Sys2Proof/Config.lean ====
section
/-!
DEFINITION. Config.lean: what one device's making fixes and the spec does not state, and the functions of standards that the
model leaves uninterpreted. Every one is opaque: no value of it can be proved.
-/
namespace Sys2Proof.Config

/-- Digest of the Tirinjo vendor key block, held in the ROM (13 R349): 48 bytes, not stated by the spec (log entry 5). -/
opaque vendorKeyDigest : Bytes
/-- Digest of Tirinjo's debug key block, held in the ROM (17 R460): not stated by the spec (log entry 5). -/
opaque debugKeyDigest : Bytes
/-- The 32 bits that IDCODE returns (17 R452, R453): not stated by the spec (log entry 5). -/
opaque idcode : BitVec 32
/-- Free value `n` of the run (log entry 6). -/
opaque freeValue : Nat → BitVec 64

/-- The pair of AES keys, one after the other, that XTS takes from a slot's material (14 R401; log entry 8). -/
opaque xtsPair : Bytes → Bytes

/-- The AES key that a MAC takes from 48 bytes of slot material (05 R128; log entry 8). -/
opaque macKey : Bytes → Bytes

/-- Free byte string `n` of the run (log entry 6): random bases (15 R415), and the coordinates given for a point at infinity. -/
opaque freeBytes : Nat → Bytes

/-- The IEEE 1588 clock identity of the device (02 R44), not stated by the spec (log entry 5): 8 bytes. -/
opaque ptpClockId : Bytes
/-- The source MAC address of its 1588 messages, not stated by the spec (log entry 5): 6 bytes. -/
opaque ptpMac : Bytes

/-- What a byte of the work partition reads as that has not been written since its page group was keyed, by the group's generation and
the address (01 R32): unrelated data, a free value (log entry 6). -/
opaque unrelated : Nat → Nat → Byte

/-- The error bits of a flash register that an opcode reads (08 R206): the flash's own, which SFDP does not name; a free value (log
entry 23). -/
opaque errorBits : Nat → BitVec 32

/-- SHA-384 of the mask ROM (19 R486), not stated by the spec (log entry 34). -/
opaque romDigest : Bytes

/-- The DER bytes of the DeviceID certificate of a FUSE_ID and a DeviceID public point (19 R482): the rule names the fields that
it fixes and leaves the others, the encoding and the signature's nonce open (log entry 34). -/
opaque deviceCert : Bytes → Bytes → Bytes

/-- The DER bytes of an Alias certificate: FUSE_ID, DeviceID point, Alias point, GRAIN_MEAS and SVN (19 R482; log entry 34). -/
opaque aliasCert : Bytes → Bytes → Bytes → Bytes → Nat → Bytes

end Sys2Proof.Config
end

