-- ==== Sys2Proof/Machine/CryptoAes.lean ====
section
/-!
DEFINITION. Machine/CryptoAes.lean: AES (FIPS 197) and the modes the spec names: CTR and ECB (SP 800-38A), XTS (IEEE 1619),
CMAC (SP 800-38B), GCM and GMAC (SP 800-38D), key wrap with padding-free blocks (SP 800-38F), CTR_DRBG without derivation
function (SP 800-90A), KDF in counter mode (SP 800-108). PRESUMED: written from the standards (log entry 4).
-/
namespace Sys2Proof.Machine

/-- Multiply by x in GF(2^8) of AES. -/
def xtime (a : Nat) : Nat := if a.testBit 7 then ((a * 2) % 256) ^^^ 0x1B else a * 2
/-- Multiplication in GF(2^8) of AES by a factor below 16. -/
def gmul8 (m a : Nat) : Nat :=
  let a2 := xtime a
  let a4 := xtime a2
  (if m.testBit 0 then a else 0) ^^^ (if m.testBit 1 then a2 else 0) ^^^ (if m.testBit 2 then a4 else 0)
    ^^^ (if m.testBit 3 then xtime a4 else 0)
/-- The S-box, 32 bytes to a number, the lowest index in the lowest byte. -/
def sboxRows : List Nat :=
  [0xc072a49cafa2d4adf04759fa7dc982ca76abd7fe2b670130c56f6bf27b777c63,
   0x75b227ebe28012079a059618c323c7041531d871f1e5a534ccf73f362693fdb7,
   0xcf584c4a39becb6a5bb1fc20ed00d153842fe329b3d63b52a05a6e1b1a2c8309,
   0xd2f3ff1021dab6bcf5389d928f40a351a89f3c507f02f94585334d43fbaaefd0,
   0xdb0b5ede14b8ee4688902a22dc4f816073195d643d7ea7c41744975fec130ccd,
   0x08ae7a65eaf4566ca94ed58d6d37c8e779e4959162acd3c25c2406490a3a32e0,
   0x9e1dc186b95735610ef6034866b53e708a8bbd4b1f74dde8c6b4a61c2e2578ba,
   0x16bb54b00f2d99416842e6bf0d89a18cdf2855cee9871e9b948ed9691198f8e1]
/-- The inverse S-box, in the same form. -/
def invSboxRows : List Nat :=
  [0xcbe9dec444438e3487ff2f9b8239e37cfbd7f3819ea340bf38a53630d56a0952,
   0x25d18b6d49a25b76b224d92866a12e084ec3fa420b954cee3d23c2a632947b54,
   0x849d8da75746155edab9edfd5048706c92b6655dcc5ca4d41698688664f6f872,
   0x6b8a130103bdafc1020f3fca8f1e2cd00645b3b80558e4f70ad3bc8c00abd890,
   0x6edf751ce837f9e28535ade72274ac9673e6b4f0cecff297eadc674f4111913a,
   0xf45acd78fec0db9a2079d2c64b3e56fc1bbe18aa0e62b76f89c5291d711af147,
   0xef9cc9939f7ae52d0d4ab519a97f51605fec8027591012b131c7078833a8dd1f,
   0x7d0c2155631469e126d677ba7e042b17619953833cbbebc8b0f52aae4d3be0a0]
/-- Byte `a` of a table in that form. -/
def boxAt (t : List Nat) (a : Nat) : Byte := BitVec.ofNat 8 (t.getD (a / 32) 0 >>> (8 * (a % 32)))
/-- S-box on bytes. -/
def sbox (b : Byte) : Byte := boxAt sboxRows b.toNat
/-- Inverse S-box on bytes. -/
def invSbox (b : Byte) : Byte := boxAt invSboxRows b.toNat

/-- AES key expansion, words of 4 bytes, newest first. -/
def aesExpand (nk : Nat) : Nat → Nat → Nat → List Bytes → List Bytes
  | 0, _, _, ws => ws
  | n + 1, i, rc, ws =>
    let prev := ws.getD 0 []
    let back := ws.getD (nk - 1) []
    if i % nk = 0 then
      let t := (prev.drop 1 ++ prev.take 1).map sbox
      let t := xorBytes t (BitVec.ofNat 8 rc :: [0, 0, 0])
      aesExpand nk n (i + 1) (xtime rc) (xorBytes back t :: ws)
    else if nk = 8 ∧ i % nk = 4 then aesExpand nk n (i + 1) rc (xorBytes back (prev.map sbox) :: ws)
    else aesExpand nk n (i + 1) rc (xorBytes back prev :: ws)

/-- The round keys of a 16- or 32-byte key, in order. -/
def aesKeys (key : Bytes) : List Bytes :=
  let nk := key.length / 4
  let ws := (aesExpand nk (4 * (nk + 7) - nk) nk 1 (chunks 4 key).reverse).reverse
  chunks 16 ws.flatten

/-- ShiftRows. -/
def shiftRows (b : Bytes) : Bytes := (List.range 16).map (fun i => b.getD ((i + 4 * (i % 4)) % 16) 0)
/-- Inverse ShiftRows. -/
def invShiftRows (b : Bytes) : Bytes := (List.range 16).map (fun i => b.getD ((i + 12 * (i % 4)) % 16) 0)
/-- One column through a circulant matrix row. -/
def mixCol (m : List Nat) (c : Bytes) : Bytes :=
  (List.range 4).map (fun r => BitVec.ofNat 8 ((List.range 4).foldl
    (fun a j => a ^^^ gmul8 (m.getD ((j + 4 - r) % 4) 0) (c.getD j 0).toNat) 0))
/-- MixColumns. -/
def mixColumns (b : Bytes) : Bytes := (chunks 4 b).flatMap (mixCol [2, 3, 1, 1])
/-- Inverse MixColumns. -/
def invMixColumns (b : Bytes) : Bytes := (chunks 4 b).flatMap (mixCol [14, 11, 13, 9])

/-- The rounds of AES encryption after the first key. -/
def aesRounds : List Bytes → Bytes → Bytes
  | [], b => b
  | [k], b => xorBytes (shiftRows (b.map sbox)) k
  | k :: ks, b => aesRounds ks (xorBytes (mixColumns (shiftRows (b.map sbox))) k)
/-- AES encryption of one block. -/
def aesEnc (key blk : Bytes) : Bytes :=
  match aesKeys key with
  | k :: ks => aesRounds ks (xorBytes blk k)
  | [] => blk
/-- The rounds of AES decryption, keys from the last. -/
def aesInvRounds : List Bytes → Bytes → Bytes
  | [], b => b
  | [k], b => xorBytes ((invShiftRows b).map invSbox) k
  | k :: ks, b => aesInvRounds ks (invMixColumns (xorBytes ((invShiftRows b).map invSbox) k))
/-- AES decryption of one block. -/
def aesDec (key blk : Bytes) : Bytes :=
  match (aesKeys key).reverse with
  | k :: ks => aesInvRounds ks (xorBytes blk k)
  | [] => blk

/-- ECB over whole blocks. -/
def ecbEnc (key m : Bytes) : Bytes := (chunks 16 m).flatMap (aesEnc key)
/-- ECB decryption. -/
def ecbDec (key m : Bytes) : Bytes := (chunks 16 m).flatMap (aesDec key)

/-- A 16-byte block plus `n`, as a big-endian number over its last `w` bytes. -/
def incBlock (w n : Nat) (b : Bytes) : Bytes :=
  b.take (16 - w) ++ beBytes w ((beNat (b.drop (16 - w)) + n) % 256 ^ w)

/-- Key stream blocks from a counter block whose last `w` bytes count. -/
def ctrStream (w : Nat) (key : Bytes) : Nat → Bytes → Bytes
  | 0, _ => []
  | n + 1, c => aesEnc key c ++ ctrStream w key n (incBlock w 1 c)
/-- CTR mode with a 128-bit counter block. -/
def ctrCrypt (key iv m : Bytes) : Bytes := xorBytes m (ctrStream 16 key (m.length / 16 + 1) iv)
/-- CTR with a 32-bit counter field. -/
def ctr32Crypt (key iv m : Bytes) : Bytes := xorBytes m (ctrStream 4 key (m.length / 16 + 1) iv)

/-- Multiply a tweak by x in GF(2^128), little-endian (XTS). -/
def xtsMul (t : Bytes) : Bytes :=
  let v := leNat t * 2
  leBytes 16 (if v.testBit 128 then (v % 2 ^ 128) ^^^ 0x87 else v)
/-- XTS over whole blocks with a tweak. -/
def xtsBlocks (f : Bytes → Bytes) : List Bytes → Bytes → Bytes
  | [], _ => []
  | b :: bs, t => xorBytes (f (xorBytes b t)) t ++ xtsBlocks f bs (xtsMul t)
/-- XTS with the 16-byte tweak value; the key is two AES keys. Whole blocks. -/
def xtsCrypt (dec : Bool) (key tweak m : Bytes) : Bytes :=
  let h := key.length / 2
  let k1 := key.take h
  xtsBlocks (if dec then aesDec k1 else aesEnc k1) (chunks 16 m) (aesEnc (key.drop h) tweak)

/-- One XTS block under a tweak block. -/
def xtsOne (f : Bytes → Bytes) (t b : Bytes) : Bytes := xorBytes (f (xorBytes b t)) t
/-- A tweak block doubled `n` times. -/
def xtsTweak : Nat → Bytes → Bytes
  | 0, t => t
  | n + 1, t => xtsTweak n (xtsMul t)
/-- XTS of 16 bytes or more, with ciphertext stealing for a partial last block. -/
def xtsAny (dec : Bool) (key tweak m : Bytes) : Bytes :=
  let n := m.length / 16
  let r := m.length % 16
  if r = 0 then xtsCrypt dec key tweak m
  else
    let h := key.length / 2
    let f := if dec then aesDec (key.take h) else aesEnc (key.take h)
    let t0 := aesEnc (key.drop h) tweak
    let ta := xtsTweak (n - 1) t0
    let tb := xtsTweak n t0
    let x := xtsOne f (if dec then tb else ta) (slice m (16 * (n - 1)) 16)
    let y := xtsOne f (if dec then ta else tb) (m.drop (16 * n) ++ x.drop r)
    xtsCrypt dec key tweak (m.take (16 * (n - 1))) ++ y ++ x.take r

/-- CMAC subkey doubling, big-endian. -/
def cmacDbl (b : Bytes) : Bytes :=
  let v := beNat b * 2
  beBytes 16 (if v.testBit 128 then (v % 2 ^ 128) ^^^ 0x87 else v)
/-- CBC chaining of whole blocks. -/
def cbcMac (key : Bytes) (iv : Bytes) (bs : List Bytes) : Bytes := bs.foldl (fun x b => aesEnc key (xorBytes x b)) iv
/-- CMAC. -/
def cmac (key m : Bytes) : Bytes :=
  let k1 := cmacDbl (aesEnc key (List.replicate 16 0))
  let n := (m.length - 1) / 16
  let last := m.drop (16 * n)
  let last := if last.length = 16 then xorBytes last k1 else xorBytes (padTo 16 (last ++ [0x80])) (cmacDbl k1)
  cbcMac key (List.replicate 16 0) (chunks 16 (m.take (16 * n)) ++ [last])

/-- Multiplication in GF(2^128) of GCM on big-endian numbers (bit 127 is x^0). -/
def gmul128 (x y : Nat) : Nat :=
  ((List.range 128).foldl (fun (st : Nat × Nat) i =>
    (if x.testBit (127 - i) then st.1 ^^^ st.2 else st.1,
     if st.2.testBit 0 then (st.2 >>> 1) ^^^ (0xE1 <<< 120) else st.2 >>> 1)) (0, y)).1
/-- Zero-fill to whole blocks. -/
def pad16 (m : Bytes) : Bytes := m ++ List.replicate ((16 - m.length % 16) % 16) 0
/-- GHASH under subkey `h`. -/
def ghash (h : Nat) (m : Bytes) : Nat := (chunks 16 m).foldl (fun y b => gmul128 (y ^^^ beNat (padTo 16 b)) h) 0
/-- GCM's first counter block. -/
def gcmJ0 (key iv : Bytes) : Bytes :=
  if iv.length = 12 then iv ++ [0, 0, 0, 1]
  else beBytes 16 (ghash (beNat (aesEnc key (List.replicate 16 0))) (pad16 iv ++ beBytes 8 0 ++ beBytes 8 (8 * iv.length)))
/-- GCM's tag over associated data and ciphertext. -/
def gcmTag (key iv aad ct : Bytes) : Bytes :=
  let h := beNat (aesEnc key (List.replicate 16 0))
  let y := ghash h (pad16 aad ++ pad16 ct ++ beBytes 8 (8 * aad.length) ++ beBytes 8 (8 * ct.length))
  xorBytes (beBytes 16 y) (aesEnc key (gcmJ0 key iv))
/-- GCM encryption or decryption of the text. -/
def gcmCrypt (key iv m : Bytes) : Bytes := ctr32Crypt key (incBlock 4 1 (gcmJ0 key iv)) m

/-- AES key wrap: one of the six passes, `t` counting steps. -/
def kwPass (key : Bytes) : Nat → List Bytes → Bytes → List Bytes → Bytes × List Bytes
  | _, [], a, rs => (a, rs.reverse)
  | t, r :: rest, a, rs =>
    let b := aesEnc key (a ++ r)
    kwPass key (t + 1) rest (xorBytes (b.take 8) (beBytes 8 t)) (b.drop 8 :: rs)
/-- AES key wrap (KW) of whole 8-byte blocks. -/
def kwWrap (key m : Bytes) : Bytes :=
  let r := chunks 8 m
  let x := (List.range 6).foldl (fun (st : Bytes × List Bytes) j => kwPass key (r.length * j + 1) st.2 st.1 [])
    (List.replicate 8 0xA6, r)
  x.1 ++ x.2.flatten
/-- One unwrapping pass over the blocks from the last. -/
def kwUnpass (key : Bytes) : Nat → List Bytes → Bytes → List Bytes → Bytes × List Bytes
  | _, [], a, rs => (a, rs)
  | t, r :: rest, a, rs =>
    let b := aesDec key (xorBytes a (beBytes 8 t) ++ r)
    kwUnpass key (t - 1) rest (b.take 8) (b.drop 8 :: rs)
/-- AES key unwrap: the text when the integrity value matches. -/
def kwUnwrap (key c : Bytes) : Option Bytes :=
  let r := (chunks 8 c).drop 1
  let x := (List.range 6).foldl (fun (st : Bytes × List Bytes) j => kwUnpass key (r.length * (6 - j)) st.2.reverse st.1 [])
    (c.take 8, r)
  if x.1 = List.replicate 8 0xA6 then some x.2.flatten else none

/-- CTR_DRBG (AES-256) working state: K and V. -/
structure Drbg where
  k : Bytes := []
  v : Bytes := []
deriving DecidableEq, Repr
/-- Blocks of the generator and the counter after them. -/
def drbgBlocks (k : Bytes) : Nat → Bytes → Bytes × Bytes
  | 0, v => ([], v)
  | n + 1, v =>
    let v := incBlock 16 1 v
    let r := drbgBlocks k n v
    (aesEnc k v ++ r.1, r.2)
/-- CTR_DRBG_Update with 48 bytes. -/
def drbgUpdate (d : Drbg) (x : Bytes) : Drbg :=
  let t := xorBytes ((drbgBlocks d.k 3 d.v).1) (padTo 48 x)
  { k := t.take 32, v := (t.drop 32).take 16 }
/-- Instantiate from 48 bytes of seed material. -/
def drbgInit (seed : Bytes) : Drbg := drbgUpdate { k := List.replicate 32 0, v := List.replicate 16 0 } seed
/-- Reseed. -/
def drbgReseedWith (d : Drbg) (seed : Bytes) : Drbg := drbgUpdate d seed
/-- Generate `n` bytes. -/
def drbgGen (d : Drbg) (n : Nat) : Bytes × Drbg :=
  let r := drbgBlocks d.k ((n + 15) / 16) d.v
  (r.1.take n, drbgUpdate { d with v := r.2 } (List.replicate 48 0))

/-- KDF in counter mode (SP 800-108): blocks PRF(key, [i]32 ++ fixed) for i from 1. -/
def kdfCounter (prf : Bytes → Bytes → Bytes) (key : Bytes) (fixed : Bytes) (i : Nat) : Nat → Bytes
  | 0 => []
  | n + 1 => prf key (beBytes 4 i ++ fixed) ++ kdfCounter prf key fixed (i + 1) n

end Sys2Proof.Machine
end

