-- ==== Sys2Proof/Machine/Parts/Boot.lean ====
section
/-!
DEFINITION. Parts/Boot.lean: balls, straps, fuses, life-cycle vote and the start-up state of 04_start_up.md, 05 R115 and 17 R445.
-/
namespace Sys2Proof.Machine

/-- The PHASE values of TAP_BOOT_STAT (04). -/
inductive BootPhase where
  | rom | fuses | entropy | dram | helper | waitGrain | verify | install | boughs | custody | running | stopped
deriving DecidableEq, Repr

/-- The life-cycle states (17 R445), numbered as TAP_BOOT_STAT.LCS shows them. -/
inductive Lcs where
  | seed | sapling | grafted | standing | returned | felled
deriving DecidableEq, Repr

/-- The fuses (05 R115, R116; 17 R445; 18; 21). They persist over every reset. -/
structure Fuses where
  hsV : Option Bytes := none
  hsO : Option Bytes := none
  fuseId : Bytes := []
  lcs : List W16 := [0, 0, 0]
  svn : Nat := 0
  anchor : Nat := 0
  evidence : Nat := 0
  ownerKeys : List Bytes := []
  bootKey : Bytes := []
  bootSet : Bool := false
  tamperOff : W16 := 0
  xv : Bool := false
  /-- Trim fuses; TRIM_VALID where present (17 R457). -/
  trims : Option Bytes := none
deriving DecidableEq, Repr

/-- Start-up state (04) and top-level balls (00 R10, 21 R528-R532). -/
structure Boot where
  vstby : Bool := false
  pwrgood : Bool := false
  vfuse : Bool := false
  /-- BOOT_SRC[1:0] balls and the value sampled (R81). -/
  srcBalls : BitVec 2 := 0
  src : BitVec 2 := 0
  hostUp : Bool := false
  pf1 : Bool := false
  result : W16 := 0
  pf1Pending : Bool := false
  keyless : Bool := false
  bootstrapped : Bool := false
  lcs : Lcs := .seed
  /-- A fuse word could not be corrected: the start runs as in FELLED (R85). -/
  senseBad : Bool := false
  phase : BootPhase := .rom
  phaseUs : W32 := 0
  leafRun : BitVec 192 := 0
  /-- Time of PWRGOOD's rise, ps. -/
  t0 : Nat := 0
  romRunning : Bool := false
  monitorsArmed : Bool := false
  /-- The erase line has risen since step 3 (R83). -/
  eraseSince3 : Bool := false
  latchSeen : Bool := false
  heartwood : Bool := false
  /-- DRAM: trained channels, GiB of each trained channel, and DRAM disabled (R87, R89). -/
  dramTrained : BitVec 4 := 0
  dramGib : List Nat := [0, 0, 0, 0]
  dramOff : Bool := false
  helper : Option Nat := none
  helperTried : Nat := 0
  installedAt : Nat := 0
  releases : Nat := 0
  /-- D00's bootstrap shadow has been copied into the shadows partition (R95). -/
  shadowCopied : Bool := false
  /-- The ROM region's bootstrap shadow half has not passed to the work partition yet (R90). -/
  romRegion : Bool := false
  /-- Re-keyed ranges of page groups (R90, 01 R32): first group and count, one entry for each time. -/
  rekeys : List (Nat × Nat) := []
  stopped : Bool := false
  /-- Boughs whose leaves still wait for release after installation, in order (R112). -/
  releaseQueue : List Nat := []
  /-- Boughs still to power on, in order (R80, R112). -/
  powerQueue : List Nat := []
  /-- Boughs that failed their power-on self-test: their roles move once every leaf has been released (R112). -/
  failed : List Nat := []
deriving DecidableEq, Repr

end Sys2Proof.Machine
end

