-- ==== Sys2Proof/Machine/Parts/Burl.lean ====
section
/-!
DEFINITION. Parts/Burl.lean: the state of the Burl engines (15_burl_engines.md).
-/
namespace Sys2Proof.Machine

/-- Operand register's tags and contents (R406): 8 KiB of bytes from its start, zero beyond. -/
structure OpReg where
  valid : Bool := false
  key : Bool := false
  /-- A key register holds an RSA key (R412), laid out MOD_BITS (2), E (4), N, p, q, dp, dq, qinv, else an EC scalar. -/
  rsa : Bool := false
  data : Bytes := []
deriving DecidableEq, Repr

/-- What a job delivers at its release. -/
structure BrlOut where
  code : W16 := 0
  /-- Public output for the descriptor's OUT reference. -/
  out : Bytes := []
  secret : Bytes := []
  toSlot : Option (Nat × W32) := none
  /-- The slot has been written and its record is being journalled (05 R139). -/
  stored : Bool := false
  /-- Registers after the job. -/
  regs : Tab OpReg := []
  secure : W16 := 0
  /-- Code the submitter sees in place of `code` (R131). -/
  seen : W16 := 0
  /-- A check before release failed: the engine is fenced (R419, R420). -/
  fence : Bool := false
deriving DecidableEq, Repr

/-- A job at a port (R404, R410): its 96-byte descriptor, streamed and submitter-local operands as fetched at its start. -/
structure BrlJob where
  desc : Bytes := []
  /-- Operands of a Taproot or custody job, whose local memory the spec does not lay out: OPA to OPD. -/
  ops : List Bytes := []
  running : Bool := false
  /-- Time of its start, from which it waits for a DRBG without output (06 R152), and an uncorrectable error on one of its fetches. -/
  since : Nat := 0
  dram : Bool := false
  /-- The submitter has gone: the result is discarded at release (R303, R364). -/
  orphan : Bool := false
  /-- Named slot with its GEN at acceptance, and its material and ATTR.PARAM as they stood then (R136). -/
  key : Option (Nat × Byte) := none
  mat : Bytes := []
  param : Nat := 0
  /-- Code by which the vault refuses the named slot, as it checked the request at acceptance (R130). -/
  denied : Option W16 := none
  res : Option BrlOut := none
  /-- The erase line has risen since it was submitted (R424). -/
  erased : Bool := false
deriving DecidableEq, Repr

/-- One engine (R404-R408, R419, R420, BRL_nn). Ports 0-15 leaves, 16 Taproot, 17 custody. -/
structure BrlEng where
  ports : Tab BrlJob := []
  regs : Tab OpReg := []
  /-- Submitter of the last job started: port and the program epoch of a leaf. -/
  last : Option (Nat × Nat) := none
  lastLeaf : Nat := 15
  fenced : Bool := false
  /-- Cached public points and keys by handle, with their GEN, oldest first (R419). -/
  cache : List (Nat × Byte × Bytes) := []
  lastCode : W16 := 0
  lastOp : Nat := 0
  lastSub : Nat := 0
  /-- Results of the Taproot's and the custody block's last jobs: code and output. -/
  tapRes : Option BrlOut := none
  cusRes : Option BrlOut := none
deriving DecidableEq, Repr

/-- The BRL block (R404-R426). -/
structure Brl where
  /-- Loaded curves by ID: the record's 448 bytes (R414). -/
  curves : Tab Bytes := []
  eng : Tab BrlEng := []
  /-- BRL_CURVE_BUF. -/
  buf : Tab Byte := []
  curveResult : W16 := 0
  failedCheck : Nat := 0
  /-- Record being checked. -/
  checking : Option Bytes := none
deriving DecidableEq, Repr

end Sys2Proof.Machine
end

