-- ==== Sys2Proof/Machine/Parts/Tel.lean ====
section
/-!
DEFINITION. Parts/Tel.lean: the telemetry state of 20_telemetry_and_errors.md (R506-R517) and what a command emits.
-/
namespace Sys2Proof.Machine

/-- One event record of R511; `detail` is the 16-byte DETAIL without its zero fill. -/
structure EventRec where
  seq : W64 := 0
  slot : W64 := 0
  ns : W32 := 0
  code : W16 := 0
  cls : Byte := 0
  kind : Byte := 0
  source : W16 := 0
  sourceLast : W16 := 0
  count : W32 := 0
  lastSlot : W64 := 0
  lastNs : W32 := 0
  detail : Bytes := []
  provisional : Bool := false
  pregrain : Bool := false
  standby : Bool := false
deriving DecidableEq, Repr

/-- A DMA ring's registers (10 R280, CNP_RING; 20 R514, TEL_EVR) with the number of records since its last interrupt. -/
structure DmaRing where
  base : W64 := 0
  size : Nat := 10
  sizeErr : Bool := false
  ptrErr : Bool := false
  en : Bool := false
  prod : Nat := 0
  cons : Nat := 0
  sinceIrq : Nat := 0
deriving DecidableEq, Repr

/-- What a class has lost at one event ring since its last LOSS record (R516). -/
structure LossSpan where
  count : Nat := 0
  srcLo : W16 := 0
  srcHi : W16 := 0
  first : EventRec := {}
  last : EventRec := {}
deriving DecidableEq, Repr

/-- One event ring (R514): registers, whether the host enabled it since the last CORE reset, whether a host link
reset stopped it while enabled, SEQ per source, and the losses of each class not yet reported. -/
structure EventRing where
  reg : DmaRing := {}
  enabledSince : Bool := false
  stopped : Bool := false
  seq : Tab Nat := []
  loss : Tab LossSpan := []
deriving DecidableEq, Repr

/-- Singles admitted per ledger period, by class (TEL_QUOTA_A and TEL_QUOTA_B with their reset values). -/
structure Quotas where
  secure : Nat := 4096
  fault : Nat := 4096
  order : Nat := 1024
  canopy : Nat := 16384
  link : Nat := 16384
  info : Nat := 4096
deriving DecidableEq, Repr

/-- Telemetry state: the live counter window (offset of R508 to count), both event rings, the open summaries of the
ledger period, the singles each class has used, the quotas and the alarm ring (STBY domain). -/
structure Tel where
  ctr : Tab W64 := []
  pf1 : EventRing := {}
  pf0 : EventRing := {}
  summaries : Tab EventRec := []
  singles : Tab Nat := []
  quotaReg : Quotas := {}
  quota : Quotas := {}
  alarm : List EventRec := []
  alarmOverflow : Bool := false
  alarmSeq : Tab Nat := []
deriving DecidableEq, Repr

/-- What one command makes the device show outside: the model's own record of the last command's outputs, empty
before each command (log entry 1). -/
inductive Output where
  /-- MSI-X vector of a function (0: PF0, 1: PF1). -/
  | msix (pf vec : Nat)
  /-- A frame handed to a logical port's egress queue or sent on the wire (port, logical port, bytes). -/
  | frame (port lport : Nat) (data : Bytes)
  /-- A control frame (PAUSE or PFC) on a logical port: class enable vector and quanta (0: resume). -/
  | pause (port lport cls quanta : Nat)
  /-- Data returned to a domain's host on its flash bus. -/
  | spi (domain : Nat) (data : Bytes)
  /-- An operation forwarded to a domain's flash: chip select, opcode, address, data. -/
  | flash (domain cs opcode addr : Nat) (data : Bytes)
  /-- The 10 µs pulse of CUSnn_F_RESET_N that begins a flash discovery (07 R165). -/
  | flashReset (domain : Nat)
  /-- A register read's value. -/
  | value (w : W64)
  /-- Bytes returned by the sideband, the TAP or an SPDM transport. -/
  | reply (data : Bytes)
  /-- The access returns as an Unsupported Request (16 R440). -/
  | unsupported
  /-- A grove ring frame sent on the east or the west port. -/
  | ring (east : Bool) (frame : RingFrame)
  /-- A page program on the keep flash: mirror, flash address, bytes (09 R232, R233). -/
  | page (mirror addr : Nat) (data : Bytes)
  /-- An erase of a range of the keep flash: mirror, flash address, bytes. -/
  | erase (mirror addr len : Nat)
  /-- The 74,899 pages of a ceiling table programmed in context order: mirror, flash address, START_SEQ, ceilings (09 R237). -/
  | table (mirror addr start : Nat) (ceil : Tab Nat)
  /-- A wired-AND ball or a pulse: name and level. -/
  | ball (name : Nat) (level : Bool)
deriving DecidableEq, Repr

end Sys2Proof.Machine
end

