-- ==== Sys2Proof/Machine/Parts/Canopy.lean ====
section
/-!
DEFINITION. Parts/Canopy.lean: the state of Canopy (10_canopy_service.md R248-R289, 11_canopy_pressure_and_failure.md R290-R315).
-/
namespace Sys2Proof.Machine

/-- A sensor context without SENSOR_ID, which its index gives (R250, R251). SESSION_NONCE as a wire-order number. -/
structure Ctx where
  lastFcnt : W32 := 0
  ceiling : W32 := 0
  window : W64 := 0
  nonce : W64 := 0
  lastSlot : W64 := 0
  epoch : W16 := 0
  /-- 0 WAITING_JOIN, 1 ACTIVE, 2 BLOCKED, 3 RETIRED, 4 LOST. -/
  st : Nat := 0
  flags : Byte := 0
  cls : Byte := 0
  miss : Byte := 0
  rekeyGen : W16 := 0
  owner : W32 := 0
  leapSlot : W64 := 0
deriving DecidableEq, Repr

/-- An intake entry (R252-R255, R291). `place`: 0 spill, 1 share, 2 dispatched to `lane`. -/
structure Entry where
  handle : W32 := 0
  limb : Nat := 0
  port : Nat := 0
  lport : Nat := 0
  template : Nat := 0
  sensor : W64 := 0
  ctx : Nat := 0
  rx : W64 := 0
  gw : W64 := 0
  radio : W32 := 0
  frame : Bytes := []
  size : Nat := 0
  spilled : Bool := false
  retried : Bool := false
  place : Nat := 1
  lane : Nat := 0
deriving DecidableEq, Repr

/-- An outstanding OPEN (R256-R260): held until it may begin, then with its result and the plaintext staged. -/
structure OpenRec where
  leaf : Nat := 0
  tag : Nat := 0
  token : W32 := 0
  entry : W32 := 0
  ctx : Nat := 0
  out : Nat := 0
  /-- The fleet root's slot, with its GEN, its material and its refusal as they stood when the request was accepted (05 R130, R136). -/
  fleet : Nat := 0
  gen : Byte := 0
  root : Bytes := []
  bad : Option W16 := none
  begun : Bool := false
  micOk : Bool := false
  code : W16 := 0
  plain : Bytes := []
  read : Ctx := {}
  /-- A context command that takes its turn in the context's order instead of an OPEN (R288): 1 BLOCK, 2 UNBLOCK, 3 FORGET,
  4 READ. -/
  mgmt : Nat := 0
deriving DecidableEq, Repr

/-- A commit that has not acted: its OPEN, request, and why it waits (R259, R267, R282). -/
structure HeldCommit where
  leaf : Nat := 0
  tag : Nat := 0
  opn : OpenRec := {}
  req : Bytes := []
  /-- It has waited for a lease, and for room in its channel, and was counted for it. -/
  leased : Bool := false
  waited : Bool := false
deriving DecidableEq, Repr

/-- A record (R277); LOSS records use the same fields (R300). -/
structure Rec where
  kind : Nat := 0
  flags : Nat := 0
  aport : Nat := 0
  fcnt : W32 := 0
  sensor : W64 := 0
  rseq : W64 := 0
  rx : W64 := 0
  gw : W64 := 0
  epoch : W16 := 0
  port : Nat := 0
  lane : Nat := 0
  radio : W32 := 0
  payload : Bytes := []
deriving DecidableEq, Repr

/-- Drops of one cause on one channel since its last LOSS record (R300). -/
structure LossAcc where
  count : Nat := 0
  lo : W64 := 0
  hi : W64 := 0
  rx : W64 := 0
  limb : Nat := 0
  last : Option Nat := none
deriving DecidableEq, Repr

/-- A record channel (R279-R282): next RSEQ less one, output buffer, losses by cause. -/
structure Chan where
  rseq : W64 := 0
  buf : List Rec := []
  loss : Tab LossAcc := []
  ring : DmaRing := {}
deriving DecidableEq, Repr

/-- A host downlink payload (R276): TAG, APORT, bytes, and the slot at which it expires. -/
structure Payload where
  sensor : W64 := 0
  tag : W32 := 0
  aport : Nat := 0
  data : Bytes := []
  expire : W64 := 0
deriving DecidableEq, Repr

/-- A downlink in the deadline queue (R275): dispatch slot and the envelope to send. -/
structure Dlink where
  slot : W64 := 0
  /-- Slot in which the gateway transmits. -/
  txSlot : W64 := 0
  port : Nat := 0
  lport : Nat := 0
  template : Nat := 0
  gw : W64 := 0
  radio : W32 := 0
  sensor : W64 := 0
  frame : Bytes := []
  /-- The host payload that it carries. -/
  payload : Option Payload := none
deriving DecidableEq, Repr

/-- One gateway entry (R296). -/
structure Gw where
  gw : W64 := 0
  level : Nat := 0
  slot : W64 := 0
deriving DecidableEq, Repr

/-- One lane's ring (R255): HEAD, CONSUMED, and the handles of the entries dispatched to the lane and not released, in the order
of their dispatch. -/
structure Lane where
  head : W32 := 0
  consumed : W32 := 0
  ring : List W32 := []
  /-- Tokens of the lane's OPENs that a CUT discarded and no COMMIT has named yet (01 R28). -/
  cut : List W32 := []
  /-- Time from which the watchdog counts: the last OPEN or COMMIT, or the first entry of an empty ring (R302). -/
  since : Nat := 0
deriving DecidableEq, Repr

/-- A cause's drop activity (R301): an event has been sent and drops counted since. -/
structure DropState where
  active : Bool := false
  count : Nat := 0
  last : Nat := 0
deriving DecidableEq, Repr

/-- Image export in progress (R283): its address and IMAGE_SLOT, with the header written. -/
structure Img where
  addr : W64 := 0
  slot : W64 := 0
  header : Bytes := []
deriving DecidableEq, Repr

/-- The CNP block. -/
structure Cnp where
  /-- 0 STOPPED, 1 WAIT_IMAGE, 2 BUILDING, 3 RUNNING (R286). -/
  st : Nat := 0
  result : W16 := 0
  rekeyAt : W64 := 0
  rekeyGen : W16 := 0
  imgAddr : W64 := 0
  imgResult : W16 := 0
  badChunks : Nat := 0
  img : Option Img := none
  /-- A re-grain has removed every lane while an export runs; STATE becomes STOPPED at its end (Coincidences). -/
  stopDue : Bool := false
  ctxData : Bytes := []
  /-- Contexts of the own range by index, and of the takeover range from ID_COUNT on (R249, R310). -/
  ctx : Tab Ctx := []
  entries : List Entry := []
  /-- Envelopes that the sieve has diverted and the intake has not yet admitted, oldest first. -/
  inbound : List Entry := []
  /-- Positions of each limb's spill stream, head and tail in bytes (R291). -/
  spHead : Tab Nat := []
  spTail : Tab Nat := []
  lanes : Tab Lane := []
  /-- LANE_TABLE in force: bucket to leaf, where it differs from the Grain's (R302, R304); 0 none, else leaf + 1. -/
  moved : Tab Nat := []
  /-- Spares that have taken a lane (R302). -/
  sparesUsed : List Nat := []
  opens : List OpenRec := []
  held : List HeldCommit := []
  /-- Renewals pending: context to target ceiling (R267). -/
  renew : Tab W32 := []
  chans : Tab Chan := []
  dlqReg : DmaRing := {}
  payloads : List Payload := []
  deadline : List Dlink := []
  gws : Tab Gw := []
  /-- Second of the time base and the reins sent in it (R296). -/
  reins : Nat × Nat := (0, 0)
  /-- Times of the envelopes admitted by each limb in the last 10 µs (R292). -/
  admits : Tab (List Nat) := []
  fill : Nat := 0
  level : Nat := 0
  shed : Bool := false
  lastDrop : Option Nat := none
  drops : Tab DropState := []
  unmirrored : Bool := false
  moveOld : Nat := 0xFF
  moveNew : Nat := 0xFF
  moveRetried : Nat := 0
  /-- Contexts being rebuilt, oldest first, at most 64, and those that wait for a place (R306). -/
  rebuild : List Nat := []
  rebuildWait : List Nat := []
  /-- Takeover: member, state 0 NONE 1 BUILDING 2 SERVING 3 HANDING_BACK, and its range (R310, R312). -/
  tkMember : Nat := 0
  tkState : Nat := 0
  tkBase : W64 := 0
  tkCount : Nat := 0
  /-- The own range is held for a member that comes back (R311, R312): served by its buddy until hand-back. -/
  rangeHeld : Bool := false
deriving DecidableEq, Repr

end Sys2Proof.Machine
end

