-- ==== Sys2Proof/Machine/Parts/Custody.lean ====
section
/-!
DEFINITION. Parts/Custody.lean: the state of the 32 custody domains, their cambium filters, update windows and the custody push
session (07 R161-R186, 08 R187-R221, 09 R222-R231).
-/
namespace Sys2Proof.Machine

/-- STATE of CUS_nn_STAT (07). -/
inductive CusState where
  | held | select | verify | waitRelease | running | failed | fenced
deriving DecidableEq, Repr

/-- What custody boot waits for (R165, R173-R178, R231). -/
inductive CusStep where
  | idle | discovery | select | header | table | body | verified | writeBack
deriving DecidableEq, Repr

/-- The fields of a custody image header (R167): numbers as bytes 0x000 to 0x1FF hold them. -/
structure CusHdr where
  blockLog2 : Nat := 0
  seq : Nat := 0
  svn : Nat := 0
  bodyLen : Nat := 0
  blocks : Nat := 0
  headerLen : Nat := 0
  tableDigest : Bytes := []
  /-- OFFSET, LENGTH, HOST_ADDR, SHADOW, MEAS of each region (R168). -/
  regions : List (Nat × Nat × Nat × Bool × Nat) := []
deriving DecidableEq, Repr

/-- A custody measurement (R182, 19 R486): header digest, SEQ, IMAGE_SVN, SRC, SEALED, and MEAS with digest of each region. -/
structure CusMeas where
  hdr : Bytes := []
  seq : Nat := 0
  svn : Nat := 0
  src : Nat := 0
  sealed_ : Bool := false
  regions : List (Nat × Bytes) := []
deriving DecidableEq, Repr

/-- What discovery has read of a flash (R165, R212, R213): its SFDP, dummy cycles in the configured mode, mode and clock in MHz, and
the opcode and address bytes of its reads. -/
structure FlashInfo where
  sfdp : Bytes := []
  dummy : Nat := 0
  mode : Nat := 0
  mhz : Nat := 50
  readOp : Nat := 0x0B
  ab : Nat := 3
deriving DecidableEq, Repr

/-- A transaction that escaped (R209): its SEQ, phase, opcode, class, host and flash address, address bytes, reason, data, the
presented status, and when its verdict is due. -/
structure Esc where
  seq : Nat := 0
  phase : Nat := 0
  op : Nat := 0
  cls : Nat := 0
  host : Nat := 0
  addr : Nat := 0
  ab : Nat := 0
  reason : Nat := 0
  data : Bytes := []
  status : Nat := 0
  due : Nat := 0
  /-- Leaf and descriptor offset in its twig's memory, and MIMIC_DEFAULT of the entry in force (Coincidences). -/
  leaf : Nat := 0
  at_ : Nat := 0
  mimic : Bool := false
deriving DecidableEq, Repr

/-- An operation forwarded to the flash (R202) whose busy bit is polled. `check`: a program of the update window, to be read back. -/
structure Fwd where
  op : Nat := 0
  cls : Nat := 0
  addr : Nat := 0
  data : Bytes := []
  check : Bool := false
  /-- The flash's busy bit has cleared; the read-back is due (R224). -/
  polled : Bool := false
deriving DecidableEq, Repr

/-- The mailbox result of a domain (R215-R217): TAG, CODE and data once READY at `at_`. -/
structure Mbx where
  tag : Nat := 0
  ready : Bool := true
  at_ : Nat := 0
  code : W16 := 0
  data : Bytes := []
deriving DecidableEq, Repr

/-- A verdict event not yet sent (R218): SEQ, code, opcode, class, address. -/
structure Verdict where
  seq : Nat := 0
  code : W16 := 0
  op : Nat := 0
  cls : Nat := 0
  addr : Nat := 0
deriving DecidableEq, Repr

/-- The cambium of a domain (R187-R221). -/
structure Flt where
  /-- 0 HELD, 1 BOOT, 2 RUNTIME, 3 UPDATE. -/
  phase : Nat := 0
  /-- The ROM rule set of a bootstrapped D00 applies (R94, R190). -/
  rom : Bool := false
  seq : Nat := 0
  wel : Bool := false
  wip : Bool := false
  suspended : Bool := false
  dpd : Bool := false
  addr4 : Bool := false
  hostMode : Nat := 0
  early : Bool := false
  underrun : Bool := false
  /-- 0x66 has been received and 0x99 may follow (R207). -/
  resetArmed : Bool := false
  /-- End of a mimic timer, and the time left of a paused one (R204, R206). -/
  mimic : Option Nat := none
  mimicLeft : Nat := 0
  /-- The timer is of an erase; when the suspend latency has passed (R204). -/
  mimicErase : Bool := false
  suspDue : Nat := 0
  /-- The error bits are shown clear until the next refresh of the mirror (R206). -/
  errClear : Bool := false
  fwd : Option Fwd := none
  esc : Option Esc := none
  /-- Verdict events that wait for a pending escape of an earlier transaction (R218). -/
  later : List Verdict := []
  last : Verdict := {}
  /-- Mirror of flash registers: opcode to bytes (R200). -/
  mirror : Tab Bytes := []
  /-- Time at which BOOT_LIMIT began to count (R188, R190). -/
  bootFrom : Nat := 0
  mbx : Mbx := {}
  /-- FLT_nn_SFDP and the presented SFDP (R212, R213). -/
  f111 : Nat := 0
  fHost : Nat := 0
  dHost : Nat := 0
  sfdp : Bytes := []
deriving DecidableEq, Repr

/-- An update window (R222-R228). -/
structure Upd where
  /-- 0 CLOSED, 1 OPEN, 2 BROKEN. -/
  st : Nat := 0
  target : Bool := false
  result : W16 := 0
  sigOk : Bool := false
  /-- The signature job of the window runs (R224). -/
  sigDue : Bool := false
  /-- Code of a BROKEN window. -/
  code : W16 := 0
  /-- Bytes programmed from the slot base; W is their number (R224). -/
  bytes : Bytes := []
  /-- Time of the last program or erase into the target slot (R226). -/
  lastAt : Nat := 0
  /-- Bytes 0x10 to 0x13 of the slot as programs of this window have carried them (R228). -/
  svnBytes : Tab Byte := []
  /-- The result goes to the domain's mailbox as well. -/
  viaMbx : Bool := false
deriving DecidableEq, Repr

/-- One domain (07). -/
structure CusDom where
  st : CusState := .held
  result : W16 := 0
  src : Nat := 0
  sealed_ : Bool := false
  fallback : Bool := false
  alert : Bool := false
  /-- CUSnn_PG after filtering, when it rose, and whether it must stay high for 10 ms before custody boot (R163). -/
  pg : Bool := false
  pgAt : Nat := 0
  pgLost : Bool := false
  /-- CUSnn_RST_N is deasserted; when it was last asserted (R162). -/
  released : Bool := false
  rstAt : Nat := 0
  /-- Custody boot is to start. -/
  bootDue : Bool := false
  step : CusStep := .idle
  /-- Policy entry in force since this custody boot began; under the bootstrap, empty (R93, Coincidences). -/
  pol : Bytes := []
  bootAt : Nat := 0
  info : FlashInfo := {}
  /-- Discovery of the recovery flash (R229). -/
  rcv : FlashInfo := {}
  /-- Slots that were candidates and have not been tried, A before B (R173, R174). -/
  cand : List (Nat × Bytes) := []
  /-- The recovery flash has been tried (R229). -/
  rcvTried : Bool := false
  /-- The header of the selected image, as read, and its fields. -/
  header : Bytes := []
  hdr : CusHdr := {}
  /-- Signatures passed or a seal matched (R175, R181). -/
  sigOk : Bool := false
  table : Bytes := []
  /-- Body bytes of accepted blocks and blocks pending (R176). -/
  body : Bytes := []
  pendingB : List Bytes := []
  /-- SHADOW regions as served: host address and bytes (R191); none after the DRAM keys were erased. -/
  shadow : List (Nat × Bytes) := []
  shadowLost : Bool := false
  /-- Timeouts in a row (R185). -/
  timeouts : Nat := 0
  seq : W64 := 0
  svn : W32 := 0
  total : Nat := 0
  accepted : Nat := 0
  tRead : W32 := 0
  tVerify : W32 := 0
  /-- Time of verification end (R80, R182). -/
  readyAt : Nat := 0
  /-- Seal records owed: source, header digest, policy digest (R180, R227, R231). -/
  seals : List (Nat × Bytes × Bytes) := []
  meas : Option CusMeas := none
  flt : Flt := {}
  upd : Upd := {}
  /-- Windows closed while their signature jobs run; their results follow (R226). -/
  closed : List Upd := []
deriving DecidableEq, Repr

/-- The custody push session (R230, R231). `state`: 0 IDLE, 1 OPEN, 2 HEAD_OK, 3 WRITE_BACK, 4 RELEASED, 5 FAILED. -/
structure CusPush where
  result : W16 := 0
  state : Nat := 0
  domain : Nat := 0
  writeBack : Bool := false
  wbSlot : Bool := false
  total : Nat := 0
  accepted : Nat := 0
  frames : Tab Bytes := []
  /-- The chunks accepted, joined. -/
  stream : Bytes := []
  lastPost : Nat := 0
deriving DecidableEq, Repr

/-- The custody block. -/
structure Cus where
  dom : Tab CusDom := []
  /-- Domains that have reached verification end and wait for release, in the order of that time, the lower number first (R80, R182). -/
  ready : List Nat := []
  lastRelease : Option Nat := none
  push : CusPush := {}
  /-- DOMAIN, WRITE_BACK and WB_SLOT of CUS_PUSH_CTRL as last written. -/
  pushCtl : Nat × Bool × Bool := (0, false, false)
  /-- CUS_FLOOR_SET_nn (R246). -/
  floorSet : Tab W32 := []
  /-- The bootstrap accepted an image that the Grain's policy would refuse (R96). -/
  weaker : Bool := false
  /-- Verdicts discarded (R210). -/
  badVerdicts : Nat := 0
deriving DecidableEq, Repr

end Sys2Proof.Machine
end

