-- ==== Sys2Proof/Machine/Parts/Dis.lean ====
section
/-!
DEFINITION. Parts/Dis.lean: the disable group that Canopy lanes, custody ports, rind pipes and Burl engines share (01 R24-R31).
-/
namespace Sys2Proof.Machine

/-- One unit's group: EN cleared, MODE, EN_PENDING, ESCALATED and QUIESCED, and a disable in progress with its mode in
force (true: CUT) and the items it has discarded. -/
structure Dis where
  off : Bool := false
  mode : Bool := false
  enPending : Bool := false
  escalated : Bool := false
  quiesced : Bool := false
  running : Bool := false
  cut : Bool := false
  /-- The DRAIN in progress has reached its bound. -/
  bound : Bool := false
  discarded : Nat := 0
deriving DecidableEq, Repr

end Sys2Proof.Machine
end

