-- ==== Sys2Proof/Machine/Parts/Grain.lean ====
section
/-!
DEFINITION. Parts/Grain.lean: the Grain as 13_grain.md lays it out (R346, R350-R358): one record per section, numbers as
the section's fields hold them, and the push session and installation state of 04_start_up.md (R98-R111).
-/
namespace Sys2Proof.Machine

/-- One leaf entry of a bough record (R351): ROLE 0-5, SPARE (0xFF none), PROGRAM (0xFFFF none). -/
structure LeafEntry where
  role : Nat := 0
  spare : Nat := 0xFF
  program : Nat := 0xFFFF
deriving DecidableEq, Repr

/-- One bough record of 80 bytes (R351). -/
structure BoughRec where
  power : Nat := 0
  freezable : Nat := 0
  chkOwner : Nat := 0xFF
  leaves : List LeafEntry := []
deriving DecidableEq, Repr

/-- One MEMORY record (R352). -/
structure Part where
  base : Nat := 0
  bytes : Nat := 0
deriving DecidableEq, Repr

/-- The MEMORY section (R352). -/
structure GMemory where
  ring : Part := {}
  spill : Part := {}
  shadows : Part := {}
  work : Part := {}
  stage : Part := {}
deriving DecidableEq, Repr

/-- The TIME section (R353). -/
structure GTime where
  epochSec : Nat := 0
  epochNs : Nat := 0
  slotUs : Nat := 0
  holdoverS : Nat := 0
  phaseSrc : Nat := 0
  fallback : Nat := 0
  ref10m : Nat := 0
  todMax : Nat := 0
  ptpPort : Nat := 0
  ptpLport : Nat := 0
  ptpDomain : Nat := 0
deriving DecidableEq, Repr

/-- One work entry of ENERGY (R353). -/
structure WorkEntry where
  eUj : Nat := 0
  maxDefer : Nat := 0
  cls : Nat := 0
deriving DecidableEq, Repr

/-- The ENERGY section (R353). -/
structure GEnergy where
  periodSlots : Nat := 0
  level : List Nat := []
  budgetMin : Nat := 0
  flags : Nat := 0
  c2Headroom : Nat := 0
  holdupUj : Nat := 0
  keepTpp : Nat := 0
  work : List WorkEntry := []
deriving DecidableEq, Repr

/-- One SECY record of a port (R354). -/
structure GSecy where
  present : Nat := 0
  suite : Nat := 0
  conf : Nat := 0
  sci : Nat := 0
  validate : Nat := 0
  replay : Nat := 0
  mkaLeaf : Nat := 0
  cakSlot : Nat := 0
deriving DecidableEq, Repr

/-- One port record of PORTS (R354). -/
structure GPort where
  mode : Nat := 0
  elec : Nat := 0
  pair : Nat := 0
  outer : Nat := 0
  prot : Nat := 0
  fwd : Nat := 0
  flow : Nat := 0
  pfcMask : Nat := 0
  cableM : Nat := 0
  tRNs : Nat := 0
  mkaRing : Nat := 0
  secy : List GSecy := []
deriving DecidableEq, Repr

/-- The SIEVE section (R354): the entries of each port (32 bytes each, R325) and the 64 return templates (R327). -/
structure GSieve where
  entries : List (List Bytes) := []
  templates : List Bytes := []
deriving DecidableEq, Repr

/-- One domain of CUSTODY (R355): the policy entry's 256 bytes and the filter entry's 1,024 bytes (R195). -/
structure GDomain where
  policy : Bytes := []
  filter : Bytes := []
deriving DecidableEq, Repr

/-- The CUSTODY section (R355): domain number to its entries. -/
structure GCustody where
  spacingMs : Nat := 0
  domains : Tab GDomain := []
deriving DecidableEq, Repr

/-- One record channel 16-31 (R356). -/
structure GRecCh where
  port : Nat := 0
  lport : Nat := 0
  vlan : Nat := 0
  da : Bytes := []
deriving DecidableEq, Repr

/-- One class of CANOPY's CLASS table (R356): RX1, RX2, LEAD. -/
structure GClass where
  rx1 : Nat := 0
  rx2 : Nat := 0
  lead : Nat := 0
deriving DecidableEq, Repr

/-- The CANOPY section (R356). -/
structure GCanopy where
  idBase : Nat := 0
  idCount : Nat := 0
  fleetSlot : Nat := 0
  missLimit : Nat := 0
  leaseStep : Nat := 0
  leapGap : Nat := 0
  imageWait : Nat := 0
  dlTtl : Nat := 0
  imagePeriod : Nat := 0
  laneRing : Nat := 0
  spillBytes : Nat := 0
  reinMark : List Nat := []
  reinHyst : Nat := 0
  joinMark : Nat := 0
  reinGap : Nat := 0
  reinHold : Nat := 0
  reinRate : Nat := 0
  cls : List GClass := []
  laneTable : Bytes := []
  channelMap : Bytes := []
  laneSpare : List Nat := []
  recCh : List GRecCh := []
deriving DecidableEq, Repr

/-- One SLOT_POLICY entry (R356). -/
structure GSlotPol where
  first : Nat := 0
  num : Nat := 0
  types : W16 := 0
  usages : W16 := 0
  dest : Byte := 0
  flags : Byte := 0
  boughs : W16 := 0
deriving DecidableEq, Repr

/-- The SIGNERS section (R356). -/
structure GSigners where
  grainRule : Nat := 0
  ownerRule : Nat := 0
  ownerMask : Byte := 0
deriving DecidableEq, Repr

/-- One member of the GROVE section (R356). -/
structure GMember where
  fuseId : Bytes := []
  idBase : Nat := 0
  idCount : Nat := 0
deriving DecidableEq, Repr

/-- One PROGRAM section (R357). -/
structure GProgram where
  imem : Bytes := []
  dmem : Bytes := []
deriving DecidableEq, Repr

/-- A whole Grain: its head's fields (R346) and its sections (R350); `boughs` is STRUCTURE with BOUGH records put in. -/
structure Grain where
  svn : Nat := 0
  seq : Nat := 0
  baseSeq : Nat := 0
  blocks : Nat := 0
  partialG : Bool := false
  svnCommit : Bool := false
  targetId : Bytes := []
  pf1 : Nat := 0
  boughs : List BoughRec := []
  memory : GMemory := {}
  time : GTime := {}
  energy : GEnergy := {}
  ports : Option (List GPort) := none
  sieve : GSieve := {}
  custody : GCustody := {}
  ckptPeriodS : Nat := 86400
  canopy : Option GCanopy := none
  slotPolicy : List GSlotPol := []
  signers : GSigners := {}
  grove : Option (List GMember) := none
  programs : Tab GProgram := []
  amendments : Bytes := []
deriving DecidableEq, Repr

/-- A frame of the push window (R100): bytes, and the block posted from it and not yet accepted, as it stood (R101). -/
structure PushFrame where
  data : Bytes := []
  posted : Option (Nat × Bytes) := none
deriving DecidableEq, Repr

/-- The push session (R100-R105). `state`: 0 IDLE, 1 OPEN, 2 HEAD_OK, 3 COMPLETE, 4 INSTALLED, 5 FAILED. -/
structure Push where
  store : Bool := false
  result : W16 := 0
  iface : Bool := false
  overrun : Bool := false
  state : Nat := 0
  total : Nat := 0
  accepted : Nat := 0
  nextPost : Nat := 0
  frames : Tab PushFrame := []
  i3cFrame : PushFrame := {}
  staging : Tab Bytes := []
  /-- Where the staged blocks come from: 0 PCIe, 1 I3C, 2 keep flash, 3 the crown. -/
  source : Nat := 0
deriving DecidableEq, Repr

/-- Installation state (13 GRN_INSTALLED_SEQ, GRN_INSTALL_STAT; R363-R366). -/
structure Grn where
  push : Push := {}
  installed : Bool := false
  grain : Grain := {}
  partials : Nat := 0
  /-- Digests of the installed heads in order (R360, 19 R485). -/
  heads : List Bytes := []
  /-- The Grain measurement register GRAIN_MEAS (19). -/
  meas : Bytes := []
  /-- Leaves whose swap of the last installation has not completed, ascending; the Grain names their targets (R364). -/
  swaps : List Nat := []
  /-- Boughs being powered down by the last installation (R363). -/
  powerDown : List Nat := []
  /-- Buckets whose lane changed and that still drain: bucket to old lane + 1 (R363). -/
  drains : Tab Nat := []
  /-- ENERGY fields that wait for the next period boundary, and TIME for the next slot edge (R363). -/
  energyNext : Option GEnergy := none
  timeNext : Option GTime := none
  /-- STORE write of the installed Grain to keep flash still owed (R107), and the blocks to write. -/
  storeDue : Bool := false
  storeBlocks : Tab Bytes := []
  /-- Keep flash attempt (R106): begun or given up at this start, and the copies still to try, in order. -/
  keepTried : Bool := false
  keepOrder : List Nat := []
deriving DecidableEq, Repr

end Sys2Proof.Machine
end

