-- ==== Sys2Proof/Machine/Parts/Grove.lean ====
section
/-!
DEFINITION. Parts/Grove.lean: the grove ring, attestation and the SPDM responder (19_attestation_and_grove.md R481-R505).
-/
namespace Sys2Proof.Machine

/-- A page of leases sent to the buddy and not acknowledged (R501): times of its first and last sending, number of sendings. -/
structure MirrorPage where
  first : Nat := 0
  last : Nat := 0
  sent : Nat := 1
  entries : List (Nat × Nat) := []
deriving DecidableEq, Repr

/-- A relayed access under way (R500). -/
structure Relay where
  member : Nat := 0
  since : Nat := 0
  write : Bool := false
deriving DecidableEq, Repr

/-- An offer of a Grain by the crown (R495): the Grain's number among those since the full one, the running block, the members
that take it and those that have acknowledged the block. -/
structure Offer where
  index : Nat := 0
  block : Nat := 0
  takers : List Nat := []
  acked : List Nat := []
deriving DecidableEq, Repr

/-- The GRV block and the ring's state (R493-R504). Times are ps of the model's time base. -/
structure Grv where
  /-- Next SEQ of frames sent by 256 × DST + TYPE, and of frames awaited, plus 1, by 65,536 × SRC + 256 × DST + TYPE (R493). -/
  seqOut : Tab Nat := []
  seqIn : Tab Nat := []
  /-- Second of the time base and the envelopes forwarded in it (R499). -/
  fwd : Nat × Nat := (0, 0)
  isolated : Bool := false
  /-- Ports up, and neighbours that are not the expected members (R493, R494). -/
  east : Bool := false
  west : Bool := false
  misE : Bool := false
  misW : Bool := false
  /-- Time of the last frame received (R497). -/
  heard : Nat := 0
  /-- Heartbeats by member (R502): time of the last one plus 1, those that carried UNMIRRORED last, and KPF_SEQ.NEXT. -/
  beat : Tab Nat := []
  beatUnmirrored : List Nat := []
  beatSeq : Tab Nat := []
  /-- INSTALLED_SEQ of the last HELLO by member (R495). -/
  helloSeq : Tab Nat := []
  /-- Measured delay of the east and the west hop, ps, and the time of an unanswered DELAY_REQ (R496). -/
  hopE : Nat := 0
  hopW : Nat := 0
  reqE : Option Nat := none
  reqW : Option Nat := none
  /-- The last SYNC used: its SEQ and the hops it took (R496). -/
  syncSeq : Option Nat := none
  syncHops : Nat := 0
  /-- Member that serves another's range: member to server + 1 (R499, R502). -/
  served : Tab Nat := []
  /-- Members declared lost, those lost without a takeover, and those heard again whose range another member still serves (R502-R504). -/
  lost : List Nat := []
  withheld : List Nat := []
  back : List Nat := []
  /-- Lease pages sent to the buddy and not acknowledged (R501). -/
  mirrors : List MirrorPage := []
  /-- Ceilings received for the own range, and all of them received (R311). -/
  ceil : Tab Nat := []
  ceilGot : Bool := false
  /-- The west neighbour waits for a checkpoint that holds its ceilings (R503): journal sequence at which it was asked for. -/
  fill : Option Nat := none
  /-- Contexts received in a hand-back, and all of them received (R312). -/
  xfer : Tab Ctx := []
  xferGot : Bool := false
  /-- GRV_HANDBACK_AT and the member whose range returns (R504); the edge's time at the buddy (R312). -/
  handbackAt : W64 := 0
  handMember : Nat := 0
  handEdge : Nat := 0
  /-- A takeover ordered and not begun (R502, R310). -/
  tkOrder : Option Nat := none
  /-- The crown's offer (R495), the bodies of the Grains it can offer (the full Grain and the partial ones since: BASE_SEQ,
  GRAIN_SEQ, blocks), and the frames of the block that a member is receiving with
  their number. -/
  offer : Option Offer := none
  grains : List (Nat × Nat × List Bytes) := []
  rx : Tab Bytes := []
  rxCount : Nat := 0
  relays : List Relay := []
  relaySel : W32 := 0
  relayTimeout : Bool := false
  /-- Member number of a device without a Grain, from the hops of the crown's frames (log entry 33). -/
  number : Nat := 0
deriving DecidableEq, Repr

/-- A report being built (R492): whole grove, certificates, nonce, host address, the member reports that have arrived (complete
or not) and the members still awaited; periodic. Its own part takes a bough's Burl engine for its signatures (03 R72) until it is built. -/
structure AttJob where
  bough : Nat := 0
  periodic : Bool := false
  built : Bool := false
  grove : Bool := false
  chain : Bool := false
  nonce : Bytes := []
  addr : Nat := 0
  parts : Tab Bytes := []
  got : List Nat := []
  wait : List Nat := []
  since : Nat := 0
  keyless : Bool := false
deriving DecidableEq, Repr

/-- The ATT block (R491, R492). -/
structure Att where
  chain : Bool := false
  grove : Bool := false
  result : W16 := 0
  present : Nat := 0
  ready : Bool := false
  addr : W64 := 0
  len : W32 := 0
  period : W32 := 0
  nonce : Tab W32 := []
  job : Option AttJob := none
  /-- Half of the buffer that the next periodic report takes, and the slot of the last one. -/
  half : Bool := false
  lastSlot : Nat := 0
deriving DecidableEq, Repr

/-- An SPDM session (R489): its ids, the transport that owns it, established by FINISH, its handshake transcript, its secrets
and the sequence numbers of both directions. -/
structure SpdmSession where
  req : Nat := 0
  rsp : Nat := 0
  port : Nat := 0
  done : Bool := false
  transcript : Bytes := []
  /-- Secrets in force: of the handshake, then of the application phase; the requester's and the responder's. -/
  reqSecret : Bytes := []
  rspSecret : Bytes := []
  master : Bytes := []
  reqSeq : Nat := 0
  rspSeq : Nat := 0
  /-- Its keys were cleared by the erase line (R490). -/
  cleared : Bool := false
deriving DecidableEq, Repr

/-- The connection of one transport (R489): negotiated version (0 none), how far the negotiation has come, the transcript of it,
those of certificates and of measurements, and a resynchronisation due. -/
structure SpdmConn where
  version : Nat := 0
  state : Nat := 0
  vca : Bytes := []
  msgB : Bytes := []
  msgL : Bytes := []
  resync : Bool := false
deriving DecidableEq, Repr

/-- The SPDM responder (R487-R490). -/
structure Spdm where
  conns : Tab SpdmConn := []
  sessions : List SpdmSession := []
deriving DecidableEq, Repr

end Sys2Proof.Machine
end

