-- ==== Sys2Proof/Machine/Parts/Guard.lean ====
section
/-!
DEFINITION. Parts/Guard.lean: life cycle and debug authorisation (17_life_cycle_and_debug.md), the tamper monitors
(18_tamper.md) and the standby domain with sleep (21 R533-R536).
-/
namespace Sys2Proof.Machine

/-- The TMP block (18). -/
structure Tmp where
  result : W16 := 0
  /-- Source that began the incident, none outside an incident (R467). -/
  first : Option Nat := none
  erased : Bool := false
  raw : BitVec 16 := 0
  incident : BitVec 16 := 0
  /-- TMP_LATCH (standby domain). -/
  latch : BitVec 16 := 0
  /-- The incident's evidence step is due and not burned (R471). -/
  burnDue : Bool := false
  stimMask : BitVec 16 := 0xFFFF
  /-- The mask of the running pass and the sources it has still to stimulate, in order (R476); empty: no pass. -/
  stimLeft : List Nat := []
  stimDone : BitVec 16 := 0
  stimPass : BitVec 16 := 0
  disReady : Bool := false
  disBusy : Bool := false
  disChallenge : Option Bytes := none
  /-- The code and the fuse mask of a disable request in progress (R479). -/
  disPending : Option (W16 × BitVec 16) := none
  /-- The time from which the result of the last disable request is READY (R479). -/
  disAt : Nat := 0
  buf : Tab Byte := []
deriving DecidableEq, Repr

/-- What an accepted life-cycle request will do when its result is READY (R457, R458, R461). -/
inductive LcyAct where
  /-- Nothing: refused with this code. -/
  | refused (code : W16)
  /-- Move to a life-cycle state. -/
  | move (to_ : Nat)
  /-- Fuse an owner key hash, or for 4 the bootstrap hash. -/
  | fuse (i : Nat) (digest : Bytes)
  /-- A debug grant. -/
  | grant (scope boughs : Nat)
  /-- A challenge that its DRBG has not given yet (06 R152): of DBG_CHALLENGE, or of TRANS_CHALLENGE. -/
  | challenge (dbg : Bool)
  /-- A challenge or DBG_LOCK: nothing more to do. -/
  | done
deriving DecidableEq, Repr

/-- The LCY block (17). -/
structure Lcy where
  result : W16 := 0
  unlocked : Bool := false
  completed : Bool := false
  invalid : Bool := false
  ready : Bool := false
  busy : Bool := false
  /-- Time of the request in progress (R455). -/
  since : Nat := 0
  reqBoughs : BitVec 12 := 0
  reqScope : BitVec 4 := 0
  grantBoughs : BitVec 12 := 0
  grantScope : BitVec 4 := 0
  mbist : BitVec 13 := 0
  buf : Tab Byte := []
  transChallenge : Option Bytes := none
  dbgChallenge : Option Bytes := none
  pending : Option LcyAct := none
  /-- Time of the last DBG_RESPONSE (R461). -/
  lastResponse : Option Nat := none
  /-- The data captured by the next LCY_ACCESS and DBG_ACCESS (R453). -/
  capLcy : W32 := 0
  capDbg : W32 := 0
  /-- Fuse writes whose read-back failed: retried at the next start (R458). -/
  retry : Option LcyAct := none
  /-- The device is stopped by EXTEST (R452). -/
  extest : Bool := false
  /-- Boundary-scan cells sampled or preloaded (R452). -/
  cells : Bytes := []
  /-- A request whose 10 ms have passed waits for VFUSE (R455, 21 R532). -/
  waitFuse : Bool := false
deriving DecidableEq, Repr

/-- Temperatures and the mission log (21 R543-R547): TAP_TEMP, the hour records of the page in preparation, the last HOUR written,
NRG_TOTAL at the last hour, life use in thousandths, whether a record has been written in this run, the hours of this run that no
record tells of, and whether the log's pages are used up. -/
structure Env where
  temp : BitVec 64 := 0
  page : List Bytes := []
  hour : Nat := 0
  energyAt : W64 := 0
  lifeMilli : Nat := 0
  logged : Bool := false
  lost : Nat := 0
  full : Bool := false
deriving DecidableEq, Repr

/-- The standby key register (21 R533). -/
structure StandbyKey where
  valid : Bool := false
  keys : List Bytes := []
  root : Bytes := []
  grainSeq : Nat := 0
deriving DecidableEq, Repr

/-- Sleep (21 R534-R536): `state` 0 RUNNING, 1 ENTERING, 2 READY. -/
structure Slp where
  woke : Bool := false
  state : Nat := 0
  standby : StandbyKey := {}
  /-- The start restores the Ring store from DRAM (R535). -/
  resume : Bool := false
  resumeSeq : Nat := 0
deriving DecidableEq, Repr

end Sys2Proof.Machine
end

