-- ==== Sys2Proof/Machine/Parts/Hollow.lean ====
section
/-!
DEFINITION. Parts/Hollow.lean: hollow channels and knocks (16_hollows.md).
-/
namespace Sys2Proof.Machine

/-- One message (R430): its SEQ, bytes, the time it was sent, and once acknowledged its code. -/
structure HMsg where
  seq : W16 := 0
  data : Bytes := []
  at_ : Nat := 0
deriving DecidableEq, Repr

/-- One channel (R427-R440). `waiting`: messages sent and not taken; `taken`: SEQs taken and not acknowledged; `acks`:
acknowledgements not taken by the sender, all oldest first. -/
structure Hchan where
  open_ : Bool := false
  notice : Bool := false
  dirOut : Bool := false
  abort : Bool := false
  outside : Nat := 0
  leaf : Nat := 0
  area : Nat := 0
  timeoutMs : Nat := 0
  rxEn : Bool := false
  knockRx : Nat := 0
  ackEn : Bool := false
  knockAck : Nat := 0
  seq : W16 := 0
  waiting : List HMsg := []
  taken : List W16 := []
  acks : List (W16 × W16) := []
  /-- Counts of the area (R438). -/
  delivered : W32 := 0
  takenCnt : W32 := 0
  posted : W32 := 0
  acked : W32 := 0
  collisions : W16 := 0
  areaFlags : BitVec 4 := 0
  /-- A timeout death lasts until the receiver's next take (R434). -/
  timedOut : Bool := false
  /-- HLW_nn_TX staging, HLW_nn_RX and HLW_nn_STAT's flags. -/
  tx : Tab Byte := []
  rx : Bytes := []
  fAborted : Bool := false
  fClosed : Bool := false
  fDead : Bool := false
  fFull : Bool := false
  fAckErr : Bool := false
  fCollision : Bool := false
  fEarly : Bool := false
deriving DecidableEq, Repr

/-- One knock (R442). -/
structure Knock where
  secure : Bool := false
  target : Nat := 0
  leaf : Nat := 0
deriving DecidableEq, Repr

/-- The HLW block. -/
structure Hlw where
  chan : Tab Hchan := []
  knock : Tab Knock := []
  pend0 : W32 := 0
  pend1 : W32 := 0
  result : W16 := 0
deriving DecidableEq, Repr

end Sys2Proof.Machine
end

