-- ==== Sys2Proof/Machine/Parts/Keep.lean ====
section
/-!
DEFINITION. Parts/Keep.lean: the keep flash and its journal (09_recovery_and_keep_flash.md R232-R247).
-/
namespace Sys2Proof.Machine

/-- An act that needs a journal page (R236). -/
inductive JAct where
  /-- A floor raise of a domain to a version, and whether a command or mailbox request waits for its result (R244). -/
  | floor (dom version who : Nat)
  /-- The whole floor set of R246. -/
  | floorSet (floors : List Nat)
  | sealRec (dom src : Nat) (digest mac : Bytes)
  /-- A renewal: context index and new ceiling (R267). -/
  | lease (ctx ceiling : Nat)
  | ckptDone (table startSeq contexts : Nat)
  | key (slot : Nat)
  | keyErase (slot : Nat)
  | grain (copy seq svn blocks : Nat) (digest : Bytes)
  | close (slot : Nat)
  | buddy (member ctx ceiling : Nat)
  /-- A live record copied to the head by compaction (R239): type, count and payload. -/
  | copy (typ count : Nat) (payload : Bytes)
deriving DecidableEq, Repr

/-- One journal record (R236), as its page carries it. -/
structure JRec where
  seq : Nat := 0
  typ : Nat := 0
  count : Nat := 0
  payload : Bytes := []
deriving DecidableEq, Repr

/-- A page waiting to be written: its record and the acts it acknowledges. -/
structure JPage where
  recd : JRec := {}
  acts : List JAct := []
deriving DecidableEq, Repr

/-- A written ceiling table (R237): its 74,899 pages follow from START_SEQ, the ceilings and the JMK that made their MACs. `bad` holds
the pages that read otherwise, by number. -/
structure CkptTab where
  start : Nat := 0
  ceil : Tab Nat := []
  jmk : Bytes := []
  bad : Tab Bytes := []
deriving DecidableEq, Repr

/-- One mirror of the keep flash, 1 Gbit (R232): its pages by page number (address / 256), an unlisted one erased, but for the two
ceiling tables, which stand in their own form. -/
structure Mirror where
  pages : Tab Bytes := []
  table0 : Option CkptTab := none
  table1 : Option CkptTab := none
deriving DecidableEq, Repr

/-- A ceiling checkpoint in progress (R237): table and START_SEQ. -/
structure Ckpt where
  table : Nat := 0
  startSeq : Nat := 0
deriving DecidableEq, Repr

/-- What the keep port is programming: the header page of a journal sector, the first waiting record page, a format header, a mission
log page, or a page copied to a mirror that returns to use (R233-R236, 21 R546). -/
inductive ProgKind where
  | header | record | format | log | copy
deriving DecidableEq, Repr

/-- A page program in progress: the mirrors it goes to, the page number and its 256 bytes. -/
structure Prog where
  kind : ProgKind := .record
  mirrors : List Nat := []
  page : Nat := 0
  bytes : Bytes := []
deriving DecidableEq, Repr

/-- The KPF block (09). -/
structure Kpf where
  m0 : Mirror := {}
  m1 : Mirror := {}
  result : W16 := 0
  keylessRead : Bool := false
  formatted : Bool := false
  degraded : BitVec 2 := 0
  fails : List Nat := [0, 0]
  /-- Sequence number of the next record; 0 before the journal is read. -/
  seq : Nat := 0
  /-- Journal page position of the next record: sector and page. -/
  headSector : Nat := 0
  headPage : Nat := 1
  /-- The page program in progress (R233). -/
  prog : Option Prog := none
  /-- Format headers still to be written, by page number (R235). -/
  formatDue : List Nat := []
  /-- Mission log pages admitted to be written, and the next page of the log (21 R546). -/
  logDue : List Bytes := []
  logNext : Nat := 1
  freeSectors : Nat := 0
  ckptSeq : Nat := 0
  /-- START_SEQ of the checkpoint before the newest complete one (R239), and the newest table. -/
  ckptPrev : Nat := 0
  ckptTable : Nat := 1
  ckpt : Option Ckpt := none
  ckptAt : Nat := 0
  /-- Acts that have no page yet, oldest first (R77, R239). -/
  acts : List JAct := []
  /-- Pages waiting to be written, the first in programming (R77). -/
  pages : List JPage := []
  /-- CUS_nn_FLOOR of every domain (R244). -/
  floors : Tab Nat := []
  /-- The anchor step being burned with the floors it brings, and the raises that wait for it (R244, R245). -/
  burnTo : Option (Nat × List Nat) := none
  burning : List JAct := []
  /-- Newest KEY record of each slot, as read (R139, R239). -/
  keyRecs : Tab JRec := []
  /-- Mirrors taken out of use before this CORE reset, to be copied before they return to use (R234). -/
  copyDue : BitVec 2 := 0
  /-- The copy to the mirror of `copyDue` has been admitted and runs. -/
  copying : Bool := false
  anchorLost : Bool := false
  replayed : Bool := false
  /-- Ceilings restored at start (R238), until Canopy takes them. -/
  ceilings : Tab Nat := []
  /-- Mirrored ceilings of the west neighbour's contexts (R309). -/
  buddyCeil : Tab Nat := []
  /-- Newest seal records: domain × 4 + SRC to header digest and seal (R180). -/
  seals : Tab (Bytes × Bytes) := []
  /-- GRAIN records: copy to GRAIN_SEQ (R107). -/
  copySeq : Tab Nat := []
  /-- Acts whose pages have read back and whose units have not taken the acknowledgement yet (R233). -/
  acked : List JAct := []
  /-- ERASES of each journal sector (R236), from its header. -/
  erases : Tab Nat := []
deriving DecidableEq, Repr

end Sys2Proof.Machine
end

