-- ==== Sys2Proof/Machine/Parts/Leaf.lean ====
section
/-!
DEFINITION. Parts/Leaf.lean: the state of the 192 leaves, of their sap ports and of their DMA (14_leaf_isa.md R368-R403).
-/
namespace Sys2Proof.Machine

/-- What a completion does (R369, R370): a register, flags (none: unchanged), an act on the accumulator, the DZ flag, a
write of the flags word, or a store that memory takes. -/
inductive LeafEff where
  | reg (r : Nat) (v : W32)
  | flags (z n c v : Option Bool)
  | accLoad (p : Int)
  | accAdd (p : Int)
  | accShr (n : Nat)
  | accShl (n : Nat)
  | accPart (sel : Nat) (v : W32)
  | accClr
  | satMode (b : Bool)
  | setDz
  | mtf (w : W32)
  | store (twig : Bool) (addr : Nat) (b : Bytes)
  | swap (twig : Bool) (addr : Nat) (v : W32)
deriving DecidableEq, Repr

/-- A hash or MAC in progress on a tag (R401): operation, key material, and the message so far. -/
structure SapMid where
  op : Nat := 0
  key : Bytes := []
  msg : Bytes := []
deriving DecidableEq, Repr

/-- A request in flight on a tag (R396-R401): what it will deliver when it becomes READY. -/
structure SapReq where
  op : Nat := 0
  code : W16 := 0
  /-- LEN of the result. -/
  len : Nat := 0
  /-- Output bytes and where they go in data memory. -/
  dst : Nat := 0
  out : Bytes := []
  once : Bool := false
  /-- The slot named, with its GEN at acceptance (R136). -/
  key : Option (Nat × Byte) := none
  /-- Material for the slot OUT_KEY with its ATTR. -/
  toSlots : List (Nat × W32 × Bytes) := []
  /-- The SECURE event's code, 0 for none (R131), and the vault's code that an MKA refusal gives as its reason (12 R334). -/
  secure : W16 := 0
  why : W16 := 0
  /-- Bytes still to be drawn from the limb's DRBG, and the time since which the request waits for them (06 R152). -/
  draw : Option (Nat × Nat) := none
  /-- Slots written whose records are being journalled (05 R139). -/
  awaits : List Nat := []
  mid : Option SapMid := none
  /-- Canopy OPEN: intake entry and context index (10 R256). -/
  entry : Option (Nat × Nat) := none
  /-- Canopy COMMIT: the 80-byte request (10 R258). -/
  commit : Option Bytes := none
  /-- An MKA operation: its 48-byte request (12 R334, R335). -/
  mka : Option Bytes := none
deriving DecidableEq, Repr

/-- One tag of the sap port. -/
structure SapTag where
  req : Option SapReq := none
  res : W32 := 0
  mid : Option SapMid := none
deriving DecidableEq, Repr

/-- Who guards lines of data memory (R397, R402, 15 R410): tags 0-7, 8 the DMA engine, 9 the Burl engine. -/
structure Guard where
  who : Nat := 0
  output : Bool := false
  /-- First and last line number. -/
  lo : Nat := 0
  hi : Nat := 0
deriving DecidableEq, Repr

/-- A leaf DMA descriptor in progress (R402). -/
structure LeafXfer where
  toFar : Bool := false
  bough : Bool := false
  local_ : Nat := 0
  far : Nat := 0
  len : Nat := 0
  refused : Bool := false
deriving DecidableEq, Repr

/-- The leaf's side of the Burl engine (15 R422). -/
structure LeafBrl where
  ready : Bool := false
  discarded : Bool := false
  twice : Bool := false
  early : Bool := false
  reject : Bool := false
  code : W16 := 0
  len : Nat := 0
  window : Bytes := []
  read : Tab Bool := []
deriving DecidableEq, Repr

/-- One leaf (R373, R389, R393, R403). -/
structure Leaf where
  /-- Role and loaded program (13 R351). -/
  role : Nat := 0
  program : Nat := 0xFFFF
  released : Bool := false
  halted : Bool := false
  /-- Attached by the debugger (17 R454). -/
  attached : Bool := false
  fenced : Bool := false
  imem : Tab Byte := []
  dmem : Tab Byte := []
  w : Tab W32 := []
  acc : BitVec 72 := 0
  z : Bool := false
  n : Bool := false
  c : Bool := false
  v : Bool := false
  dz : Bool := false
  acv : Bool := false
  early : Bool := false
  sat : Bool := false
  pc : BitVec 16 := 0
  /-- Transfers whose delay slots are still to issue: slots left and target (R371). -/
  redirects : List (Nat × BitVec 16) := []
  /-- Cycles since release, the cycle in which the next instruction issues (R369, R389). -/
  cyc : Nat := 0
  cycHi : W32 := 0
  slotHi : W32 := 0
  /-- Completions in flight, by cycle, in issue order within a cycle. -/
  flight : List (Nat × LeafEff) := []
  /-- WAIT in progress: destination and mask (R394). -/
  waiting : Option (Nat × W16) := none
  /-- Latched edge events (R393). -/
  events : W16 := 0
  unmapped : Bool := false
  misalign : Bool := false
  undef : Bool := false
  /-- Cycle in which LEAF_TIMER reaches zero, none while it stands at 0. -/
  timer : Option Nat := none
  /-- Cycle in which the TIMER event last arrived. -/
  timerHit : Option Nat := none
  tags : Tab SapTag := []
  sapTwice : Bool := false
  sapReject : Bool := false
  guards : List Guard := []
  /-- Read-once words of data memory by word address: 1 unread, 2 read (R399). -/
  once : Tab Nat := []
  xfer : Option LeafXfer := none
  dmaResult : W16 := 0
  dmaReject : Bool := false
  dmaDone : Bool := false
  brl : LeafBrl := {}
  /-- Programs loaded so far: a swap makes the leaf a new submitter (15 R405). -/
  epoch : Nat := 0
deriving DecidableEq, Repr

/-- The leaves, by global number, and the memories that they share: twig memory keyed by twig, bough memory by bough, and
the WORK partition (01 R17, R375). -/
structure Leaves where
  leaf : Tab Leaf := []
  twig : Tab (Tab Byte) := []
  bough : Tab (Tab Byte) := []
  /-- Bytes of WORK written since their page group was last re-keyed; another byte reads as unrelated data (01 R32). -/
  work : Tab (Option Byte) := []
  /-- Three fences of a bough's leaves within 1 s fence the bough (11 R305): fence times. -/
  fences : Tab (List Nat) := []
deriving DecidableEq, Repr

end Sys2Proof.Machine
end

