-- ==== Sys2Proof/Machine/Parts/Link.lean ====
section
/-!
DEFINITION. Parts/Link.lean: the state of the link guard (12_link_guard.md R316-R345).
-/
namespace Sys2Proof.Machine

/-- A transmit SA (R330, R335): its slot with GEN, key, next PN and XPN fields. -/
structure TxSa where
  slot : Nat := 0
  gen : Byte := 0
  key : Bytes := []
  pn : Nat := 0
  ssci : W32 := 0
  salt : Bytes := []
deriving DecidableEq, Repr

/-- A receive SA: lowest acceptable PN, highest PN seen, in use, has accepted a frame since its install. -/
structure RxSa where
  slot : Nat := 0
  gen : Byte := 0
  key : Bytes := []
  lowest : Nat := 0
  next : Nat := 0
  ssci : W32 := 0
  salt : Bytes := []
  inUse : Bool := false
  accepted : Bool := false
deriving DecidableEq, Repr

/-- One SecY (R329-R338). Receive SAs by 4 × SC + AN, transmit SAs likewise; SCIs by SC. -/
structure Secy where
  rxSci : Tab Bytes := []
  rx : Tab RxSa := []
  txSci : Tab Bytes := []
  tx : Tab TxSa := []
  /-- Current transmit SC and AN; `live` while its SA is installed. -/
  cur : Option (Nat × Nat) := none
  stalled : Bool := false
  thresh : Bool := false
deriving DecidableEq, Repr

/-- A frame in an egress queue: bytes without FCS, to be protected or not, its priority, and the host payload or rein it
carries for R308. -/
structure EgFrame where
  data : Bytes := []
  plain : Bool := false
  prio : Nat := 0
deriving DecidableEq, Repr

/-- One logical port. -/
structure Lport where
  up : Bool := false
  queue : List EgFrame := []
  /-- Time until which PAUSE stops the queue, and the paused priorities with their end times. -/
  pausedUntil : Nat := 0
  pfc : Tab Nat := []
  /-- This queue has the partner port paused. -/
  xoff : Bool := false
  /-- Frames dropped because the port is down, not yet told of by an ORDER event (01 R23, 20 R510). -/
  lost : Nat := 0
  secy : Secy := {}
deriving DecidableEq, Repr

/-- One port. -/
structure Port where
  lports : Tab Lport := []
  /-- Its mode, pair or protection changed at a re-grain: its pipes are enabled once its lanes have started again (R317). -/
  restart : Bool := false
  /-- Frames held in the buffer of a disabled ingress pipe (R344), with their logical port. -/
  heldRx : List (Nat × Bytes) := []
deriving DecidableEq, Repr

/-- One MKA leaf (R333, R336). -/
structure Mka where
  head : W32 := 0
  consumed : W32 := 0
  pnev : W64 := 0
  rxev : W64 := 0
deriving DecidableEq, Repr

/-- The LNK block. -/
structure Lnk where
  ports : Tab Port := []
  mka : Tab Mka := []
deriving DecidableEq, Repr

end Sys2Proof.Machine
end

