-- ==== Sys2Proof/Machine/Parts/Time.lean ====
section
/-!
DEFINITION. Parts/Time.lean: the slot timebase of 02_slot_time.md and the energy ledger of 03_energy_ledger.md.
-/
namespace Sys2Proof.Machine

/-- One ring-mark bank (20 R507): both tags, HEADER's fields and the counters copied into it. -/
structure MarkBank where
  lead : W64 := 0
  trail : W64 := 0
  provisional : Bool := false
  state : Nat := 0
  stale : BitVec 12 := 0
  ctr : Tab W64 := []
deriving DecidableEq, Repr

/-- The time states of R47. -/
inductive TimeState where
  | locked | holdover | adrift
deriving DecidableEq, Repr

/-- The IEEE 1588 time receiver (R44): the chosen transmitter with its data set in comparison order, the exchange under
way (T1 and T2 in ns; a two-step Sync with its sequence and correction), the device's own requests and the path delay. -/
structure Ptp where
  parent : Bytes := []
  best : Bytes := []
  t1 : Nat := 0
  t2 : Nat := 0
  /-- Correction of the last Sync, ns. -/
  corr : Int := 0
  waitFollow : Option (Nat × Int) := none
  /-- sequenceId of the device's next request. -/
  seq : W16 := 0
  /-- Delay_Req under way: its sequenceId and T3, ns. -/
  req : Option (W16 × Nat) := none
  /-- Pdelay_Req under way: its sequenceId and its time of sending, ns. -/
  preq : Option (W16 × Nat) := none
  /-- Pdelay_Resp that awaits its Follow_Up: time of arrival, requestReceiptTimestamp, ns, and correction. -/
  presp : Option (Nat × Nat × Int) := none
  delayNs : Nat := 0
  utc : W16 := 0
deriving DecidableEq, Repr

/-- The SLT block (02). Times are ps of the model's time base. -/
structure Slt where
  slot : W64 := 0
  /-- Time of the running slot's edge. -/
  edgeAt : Nat := 0
  /-- The provisional or true count runs (from the first installation, R50). -/
  counting : Bool := false
  latchHi : W32 := 0
  st : TimeState := .adrift
  anchored : Bool := false
  stepped : Bool := false
  source : Nat := 0
  todOk : Bool := false
  ppsOk : Bool := false
  ref10mOk : Bool := false
  leapPending : Bool := false
  quality : Byte := 0xFF
  utcOffset : W16 := 0
  offset : W32 := 0
  holdLeft : Nat := 0
  /-- The first accepted time has set the timebase's phase (R50). -/
  timed : Bool := false
  /-- TAI of the timebase at `taiAt`, ps, once timed; a slew in progress adds to it (R51). -/
  tai : Nat := 0
  taiAt : Nat := 0
  ppsLast : Option Nat := none
  /-- TAI_SEC of a message accepted since the last PPS edge (R42, R43). -/
  todNext : Option Nat := none
  lastTai : Option Nat := none
  /-- PHASE_SRC in use (1 PPS, 2 IEEE 1588, 3 the ring) when it is the fallback. -/
  onFallback : Bool := false
  /-- Times of the consecutive good measurements of the primary and of the fallback source, newest first (R48). -/
  runA : List Nat := []
  runB : List Nat := []
  /-- Consecutive measurements beyond 1 µs of the source in use, in LOCKED (R47). -/
  bad : Nat := 0
  /-- Correction being slewed since `taiAt`, ns, positive forward (R51). -/
  slewNs : Int := 0
  /-- Time by which the running slot is lengthened, ns (R51). -/
  lengthenNs : Nat := 0
  /-- The last rate estimate, a free value, none before the first (R47; log entry 18). -/
  rate : Option W64 := none
  /-- Forward correction that acts at the next slot edge, ns (R51), and whether that edge is to anchor (R50). -/
  stepNs : Nat := 0
  anchorDue : Bool := false
  ptp : Ptp := {}
  /-- On a grove member: the crown's time state, and the member's own ring reception (R56). -/
  crownState : TimeState := .adrift
  ringSt : TimeState := .adrift
  markPeriod : W16 := 0
  markPhase : W16 := 0
  /-- PERIOD and PHASE in force (R61). -/
  curPeriod : W16 := 0
  curPhase : W16 := 0
  markResult : W16 := 0
  heldBank : Bool := false
  lastBank : Bool := false
  done : Bool := false
  markAt : W64 := 0
  hold : Bool := false
  /-- HOLD protects a bank: one that held a complete mark when HOLD was written (R58). -/
  heldAny : Bool := false
  markLast : W64 := 0xFFFFFFFFFFFFFFFF
  anyMark : Bool := false
  oneShot : Option W64 := none
  /-- A mark being collected: target bank and tag (R58). -/
  collecting : Option (Bool × W64) := none
  /-- The units' capture shadows (R54, R58). -/
  shadow : Tab W64 := []
  shadowStale : BitVec 12 := 0
  /-- State in force and provisional flag at the capture (R59, R61). -/
  shadowState : Nat := 0
  shadowProv : Bool := false
  bank0 : MarkBank := {}
  bank1 : MarkBank := {}
deriving DecidableEq, Repr

/-- What an admitted job does in the device by itself (R67): nothing, for a job given by a command; a periodic attestation round, a
compaction of the journal, a Grain to be stored (04 R107), a mirror of the keep flash to be copied (09 R234), a mission log page to be
written (21 R546), key records to be wrapped anew (05 R140), a Ring store image to be exported (10 R283), or an early reseed of a DRBG. -/
inductive JobAct where
  | none | attest | compact | store | copyBack | log | rewrap | imgExport | reseed (inst : Nat)
deriving DecidableEq, Repr

/-- One C1 or C2 job (R69-R71): its id, Grain kind, class, the bough it needs, periods deferred, overdue flag. -/
structure Job where
  id : Nat := 0
  kind : Nat := 0
  c2 : Bool := false
  bough : Option Nat := none
  eUj : Nat := 0
  deferral : Nat := 0
  overdue : Bool := false
  act : JobAct := .none
  /-- An admitted job whose act has begun. -/
  begun : Bool := false
deriving DecidableEq, Repr

/-- Power state of a bough (NRG_BOUGH_STATE). -/
inductive BoughPower where
  | off | running | frozen | fenced
deriving DecidableEq, Repr

/-- One bough's ledger state: power, queued start-work writes, C0 work of other units, and a thaw that it waits for. -/
structure BoughNrg where
  power : BoughPower := .off
  /-- Start-work writes queued while frozen (R74), oldest first: leaf, register offset, value. -/
  queued : List (Nat × Nat × W32) := []
  /-- Units of C0 work queued or running that the Taproot or another unit submitted (R72, R73). -/
  c0 : Nat := 0
  /-- A frozen bough that a lane move, a re-grain or a tamper response needs (R73). -/
  thawDue : Bool := false
deriving DecidableEq, Repr

/-- Steps of the power-fail flush (R78). -/
inductive Flush where
  | idle | settle | pages | done
deriving DecidableEq, Repr

/-- The NRG block (03). -/
structure Nrg where
  result : W16 := 0
  pfw : Bool := false
  flushing : Bool := false
  reserveFull : Bool := false
  offAccess : Bool := false
  c1Overdue : Bool := false
  overBudget : Bool := false
  level : BitVec 2 := 0
  hostEn : Bool := false
  hostUj : BitVec 48 := 0
  /-- Effective budget, µJ; NRG_BUDGET_EFF shows what fits its field (log entry 36). -/
  eff : Nat := 0
  spent : BitVec 48 := 0
  lastSpent : BitVec 48 := 0
  total : W64 := 0
  pending : Nat := 0
  nMax : Nat := 1
  /-- C0 energy metered in the running period (R68). -/
  c0Spent : Nat := 0
  /-- P_C0 as last measured, µW (R69). -/
  pC0 : Nat := 0
  jobs : List Job := []
  admitted : List Job := []
  nextJob : Nat := 0
  boughs : Tab BoughNrg := []
  lastThaw : Option Nat := none
  flush : Flush := .idle
  /-- Balls NRG_LVL[1:0] and PFW_N's filtered level (true: asserted). -/
  lvlBalls : BitVec 2 := 0
  pfwBall : Bool := false
  /-- PFW_N has returned high at this time during or after a flush (R79). -/
  pfwHigh : Option Nat := none
  /-- Time of the last bough power-on (R80). -/
  lastPower : Option Nat := none
  /-- Lane groups started, and the time of the last one (R80). -/
  laneGroups : BitVec 16 := 0
  lastGroup : Option Nat := none
deriving DecidableEq, Repr

end Sys2Proof.Machine
end

