-- ==== Sys2Proof/Machine/Parts/Vault.lean ====
section
/-!
DEFINITION. Parts/Vault.lean: the vault of 05_heartwood_keys.md, the entropy source and the check units of
06_entropy_and_check_units.md.
-/
namespace Sys2Proof.Machine

/-- One vault slot from 64 up (R123-R126). A spanning key's whole material stands in its named slot. -/
structure VSlot where
  mat : Bytes := []
  attr : W32 := 0
  gen : Byte := 0
  kcv : Nat := 0
  clear : Bool := false
  /-- The second slot of a spanning key. -/
  span : Bool := false
  persisted : Bool := false
  /-- Material that a swap or erase replaced, until it is zeroed (R136, R141). -/
  old : Bytes := []
deriving DecidableEq, Repr

/-- A staged replacement (R135). -/
structure Staged where
  mat : Bytes := []
  attr : W32 := 0
  kcv : Nat := 0
  clear : Bool := false
  at_ : W64 := 0
deriving DecidableEq, Repr

/-- The KEY block (05). -/
structure Vault where
  slots : Tab VSlot := []
  /-- Material of slots 0-63 (R118, R122), empty where not derived. -/
  tap : Tab Bytes := []
  staged : Tab Staged := []
  arg : W64 := 0
  expectKcv : Nat := 0
  wrap : BitVec 12 := 0
  result : W16 := 0
  twice : Bool := false
  early : Bool := false
  ready : Bool := false
  busy : Bool := false
  info : W64 := 0
  infoExt : BitVec 3 := 0
  /-- KEY_BUF's bytes, whether its output is read-once, and the words already read (R132). -/
  buf : Tab Byte := []
  bufSecret : Bool := false
  bufRead : Tab Bool := []
  challenge : Option Bytes := none
  /-- The open recovery window: first slot and count, its end (ps), and the slots written since the opening (R138). -/
  window : Option (Nat × Nat) := none
  windowEnd : Nat := 0
  windowWritten : List Nat := []
  /-- Slots whose record is being journalled for the running operation (R139). -/
  awaiting : List Nat := []
  /-- SVN_BOUND slots whose record is still wrapped under an older version, with that version (R140). -/
  rewrap : Tab Nat := []
  /-- Slots 0-63 may be derived again only after a CORE reset with the latch clear (R142). -/
  erased : Bool := false
deriving DecidableEq, Repr

/-- The two continuous health tests of a source (R145): the run of identical samples, and the window of 1,024 with its first sample, the
samples taken and those equal to the first. -/
structure Health where
  last : Bool := false
  run : Nat := 0
  first : Bool := false
  taken : Nat := 0
  same : Nat := 0
deriving DecidableEq, Repr

/-- One noise source (R145-R147). `startup`: 0 none running, 1 first run, 2 its repeat. -/
structure Noise where
  health : Health := {}
  healthy : Bool := false
  startup : Nat := 0
  fenced : Bool := false
  fails : List Nat := []
deriving DecidableEq, Repr

/-- One DRBG (R150-R153): its state once instantiated, requests since the last reseed and its time. -/
structure DrbgInst where
  on : Bool := false
  k : Bytes := []
  v : Bytes := []
  reqs : Nat := 0
  at_ : Nat := 0
deriving DecidableEq, Repr

/-- A request of DRBG_T that waits for a conditioned block or an instantiation (R152): KEY_CMD RCV_CHALLENGE or EXPORT, TMP_DIS_CMD
CHALLENGE, a report being built, a request for evidence by a member, or an SPDM request on a transport. -/
inductive EntReq where
  | rcvChallenge
  | keyExport (slot : Nat)
  | disChallenge
  | report
  | evidence (member : Nat) (nonce : Bytes) (chain : Bool)
  | spdm (conn : Nat) (secured : Bool) (msg : Bytes)
deriving DecidableEq, Repr

/-- The ENT block (06). -/
structure Ent where
  src : Tab Noise := []
  failed : BitVec 4 := 0
  result : W16 := 0
  twice : Bool := false
  early : Bool := false
  ready : Bool := false
  valid : Bool := false
  /-- ENT_REQ.WORDS, and the count minus 1 of the running or last request with the time of its start (R154). -/
  words : BitVec 4 := 0
  asked : BitVec 4 := 0
  since : Nat := 0
  running : Bool := false
  out : List W32 := []
  outRead : Tab Bool := []
  /-- Conditioned blocks not yet used, oldest first. -/
  blocks : List Bytes := []
  drbg : Tab DrbgInst := []
  /-- Requests that wait, oldest first, with the time since which they do (R152). While one of them is tried again `waited` holds that
  time; `hungry`: the request being served found no output. -/
  waits : List (EntReq × Nat) := []
  waited : Option Nat := none
  hungry : Bool := false
  /-- Taproot slots 40 to 45 still to be drawn at this start (R88, R122). -/
  dramKeysDue : List Nat := []
  /-- The ROM still owes HS_V its programming (R115). -/
  hsVDue : Bool := false
deriving DecidableEq, Repr

/-- One check unit (R155-R160); `owner`: local leaf number, 0xFF the DMA engine. -/
structure Chk where
  refOut : Bool := false
  refIn : Bool := false
  width : Nat := 32
  poly : W32 := 0
  init : W32 := 0
  xorOut : W32 := 0
  st : W32 := 0
  fifo : List Bytes := []
  intrude : Bool := false
  dropped : Bool := false
  cfgErr : Bool := false
  overrun : Bool := false
  early : Bool := false
  ready : Bool := true
  result : W32 := 0
  raw : W32 := 0
  bytes : W32 := 0
  owner : Nat := 0xFF
deriving DecidableEq, Repr

end Sys2Proof.Machine
end

