-- ==== Sys2Proof/Machine/State.lean ====
section
/-!
DEFINITION. Machine/State.lean: the state of the block, the reasons a step can stop, and the state after reset.
-/
namespace Sys2Proof.Machine

/-- Faults of the model. -/
inductive Fault where
  /-- Raised by no meaning: the spec gives the block no event that stops it for good other than states it names (a
  stopped start-up, FELLED, EXTEST), which are states of the model and not faults. Safe. -/
  | none
deriving DecidableEq, Repr

/-- Refusals of the model. -/
inductive Refusal where
  /-- A command that has no meaning yet; raised by Dispatch alone. Safe. -/
  | notModelled (mnemonic : String)
deriving DecidableEq, Repr

/-- The whole state of the block: one record per unit, the queue of waiting commands, and the model's own time base,
free-value counter and record of the last command's outputs. -/
structure State where
  /-- Commands waiting, first in, first out (the model's own queue). -/
  pending : List Instr := []
  /-- The model's time base, ps (log entry 1). -/
  now : Nat := 0
  /-- What the last command showed outside (log entry 1). -/
  out : List Output := []
  /-- The host's memory as the device reads and writes it by DMA (R280, R514). -/
  hostMem : Tab Byte := []
  tel : Tel := {}
  slt : Slt := {}
  nrg : Nrg := {}
  boot : Boot := {}
  fuses : Fuses := {}
  grn : Grn := {}
  vault : Vault := {}
  ent : Ent := {}
  chk : Tab Chk := []
  kpf : Kpf := {}
  tmp : Tmp := {}
  lcy : Lcy := {}
  slp : Slp := {}
  env : Env := {}
  brl : Brl := {}
  lvs : Leaves := {}
  hlw : Hlw := {}
  cnp : Cnp := {}
  lnk : Lnk := {}
  cus : Cus := {}
  grv : Grv := {}
  att : Att := {}
  spdm : Spdm := {}
  /-- Disable groups by UnitId.key (01 R24-R31). -/
  dis : Tab Dis := []
  /-- Free values drawn so far (log entry 6; the model's own). -/
  freeCtr : Nat := 0
deriving DecidableEq, Repr

/-- The machine right after reset: every register at its stated reset value, every other field as log entry 2 says. -/
def State.reset : State := {}

end Sys2Proof.Machine
end

