-- ==== Sys2Proof/Machine/Ops.lean ====
section
/-!
DEFINITION. Machine/Ops.lean: the operations every family shares: outputs, time, live counters (20 R506-R508), events
(20 R510-R517), the DMA ring rules (10 R280) and the power state of a bough.
-/
namespace Sys2Proof.Machine

/-- The main domain works: main power is good, no power-fail flush has stopped it (03 R78), EXTEST has not (17 R452), and it is
not asleep (21 R534). -/
def live (s : State) : Bool :=
  s.boot.pwrgood && s.nrg.flush == .idle && !s.lcy.extest && s.slp.state != 2

/-- A command that acts in every power state: its outputs are recorded from empty. -/
def actAny (f : State → State) (s : State) : Host.Outcome State Fault Refusal := .next (f { s with out := [] })

/-- A command of the main domain: it has an effect while that domain works. -/
def act (f : State → State) (s : State) : Host.Outcome State Fault Refusal := actAny (fun s => if live s then f s else s) s

/-- Record an output of the running command. -/
def emitOut (o : Output) (s : State) : State := { s with out := s.out ++ [o] }

/-- The time base moves on to `t` (ps), never back. -/
def atTime (t : Nat) (s : State) : State := { s with now := max s.now t }

/-- Apply `f` when `c`. -/
def whenB (c : Bool) (f : State → State) (s : State) : State := if c then f s else s

/-- Draw a free value (log entry 6). -/
def drawFree (s : State) : BitVec 64 × State := (Config.freeValue s.freeCtr, { s with freeCtr := s.freeCtr + 1 })

/-! ### Live counters (R506, R508): the counter at window offset `off` -/

/-- Add `n` to a counter. -/
def bumpBy (off n : Nat) (s : State) : State :=
  { s with tel := { s.tel with ctr := tmod 0 s.tel.ctr off (fun v => v + BitVec.ofNat 64 n) } }
/-- Add 1 to a counter. -/
def bump (off : Nat) (s : State) : State := bumpBy off 1 s

/-- Device counter `i`. -/
def cDevice (i : Nat) : Nat := 0x00100 + 8 * i
/-- Events counter `i` of a class. -/
def cEvent (cls i : Nat) : Nat := 0x00200 + 0x40 * cls + 8 * i
/-- Entropy source failures. -/
def cEntropy (src : Nat) : Nat := 0x00400 + 8 * src
/-- Bough counter `i`. -/
def cBough (b i : Nat) : Nat := 0x01000 + 0x200 * b + 8 * i
/-- Lane counter `i` of a leaf. -/
def cLane (l i : Nat) : Nat := 0x04000 + 0x100 * l + 8 * i
/-- Limb counter `i`. -/
def cLimb (l i : Nat) : Nat := 0x10000 + 0x100 * l + 8 * i
/-- Record channel counter `i`. -/
def cChan (c i : Nat) : Nat := 0x10400 + 0x40 * c + 8 * i
/-- Counter `i` of logical port `k` of port `p`. -/
def cPort (p k i : Nat) : Nat := 0x10C00 + 0x400 * p + 0x100 * k + 8 * i
/-- Transmit or port-wide SecY counter `i`. -/
def cSecy (n i : Nat) : Nat := 0x20000 + 0x2000 * n + 8 * i
/-- Counter `i` of receive SC `c` of a SecY. -/
def cSecySc (n c i : Nat) : Nat := 0x20000 + 0x2000 * n + 0x100 + 0x40 * c + 8 * i
/-- Custody counter `i` of a domain. -/
def cCus (d i : Nat) : Nat := 0xA0000 + 0x200 * d + 8 * i
/-- Hollow counter `i` of a channel. -/
def cHlw (c i : Nat) : Nat := 0xA4000 + 0x40 * c + 8 * i
/-- Grove counter `i`. -/
def cGrove (i : Nat) : Nat := 0xA5000 + 8 * i
/-- DRAM counter `i` of a channel. -/
def cDram (c i : Nat) : Nat := 0xA5100 + 0x40 * c + 8 * i

/-! ### DMA rings (R280) -/

/-- The ring holds 2^SIZE records. -/
def DmaRing.isFull (r : DmaRing) : Bool := r.prod - r.cons == 2 ^ r.size
/-- PHASE of the pass that PROD is in: 1 on the first pass, alternating. -/
def DmaRing.phase (r : DmaRing) : Bool := (r.prod / 2 ^ r.size) % 2 == 0
/-- The write of this record raises the ring's vector. -/
def DmaRing.irqs (r : DmaRing) : Bool := r.prod == r.cons || r.sinceIrq + 1 ≥ 64
/-- Host address of the slot that PROD names. -/
def DmaRing.slotAddr (r : DmaRing) (slotBytes : Nat) : Nat := r.base.toNat + slotBytes * (r.prod % 2 ^ r.size)
/-- The ring after one record. -/
def DmaRing.advance (r : DmaRing) : DmaRing :=
  { r with prod := r.prod + 1, sinceIrq := if r.irqs then 0 else r.sinceIrq + 1 }
/-- A write of CONS: taken only from the current CONS to PROD, else PTR_ERR. -/
def DmaRing.writeCons (r : DmaRing) (v : Nat) : DmaRing :=
  if r.cons ≤ v ∧ v ≤ r.prod then { r with cons := v } else { r with ptrErr := true }
/-- A write of CTRL: ignored whole with SIZE_ERR for a SIZE outside 10-20; writing EN 1 sets PROD and CONS to 0 and
PHASE to 1; SIZE_ERR and PTR_ERR are W1C. -/
def DmaRing.writeCtrl (r : DmaRing) (v : W32) : DmaRing :=
  let size := bitsOf v.toNat 8 4
  if size < 10 ∨ 20 < size then { r with sizeErr := true }
  else
    let r := { r with size := size, sizeErr := r.sizeErr && !bitOf v.toNat 2, ptrErr := r.ptrErr && !bitOf v.toNat 1 }
    if bitOf v.toNat 0 then { r with en := true, prod := 0, cons := 0, sinceIrq := 0 } else { r with en := false }

/-! ### Events (R510-R517) -/

/-- The event classes of R510. -/
inductive EvClass where
  | tamper | lifecycle | secure | fault | order | canopy | link | info
deriving DecidableEq, Repr

/-- A class's number. -/
def EvClass.num : EvClass → Nat
  | .tamper => 0 | .lifecycle => 1 | .secure => 2 | .fault => 3 | .order => 4 | .canopy => 5 | .link => 6 | .info => 7

/-- The class's events go to the PF0 ring as well (R510). -/
def EvClass.toPf0 : EvClass → Bool
  | .tamper | .lifecycle | .secure => false
  | _ => true

/-- The class's quota of singles, none for TAMPER and LIFECYCLE (R510). -/
def Quotas.of (q : Quotas) : EvClass → Option Nat
  | .tamper | .lifecycle => none
  | .secure => some q.secure | .fault => some q.fault | .order => some q.order
  | .canopy => some q.canopy | .link => some q.link | .info => some q.info

/-- SOURCE words of R512. -/
def srcTree (n : Nat) : W16 := BitVec.ofNat 16 n
/-- A leaf as SOURCE. -/
def srcLeaf (l : Nat) : W16 := BitVec.ofNat 16 (0x1000 + l)
/-- A bough unit as SOURCE. -/
def srcBough (b : Nat) : W16 := BitVec.ofNat 16 (0x2000 + b)
/-- A logical port as SOURCE. -/
def srcPort (p k : Nat) : W16 := BitVec.ofNat 16 (0x3000 + 4 * p + k)
/-- A custody domain as SOURCE. -/
def srcDomain (d : Nat) : W16 := BitVec.ofNat 16 (0x4000 + d)
/-- A hollow channel as SOURCE. -/
def srcHollow (c : Nat) : W16 := BitVec.ofNat 16 (0x5000 + c)
/-- A limb as SOURCE. -/
def srcLimb (l : Nat) : W16 := BitVec.ofNat 16 (0x6000 + l)
/-- The collector as SOURCE. -/
def srcCollector : W16 := 0xF000

/-- Time stamp of an event now (R511): before the first installation SLOT holds ns since t0. -/
def evSlot (s : State) : W64 := if s.slt.counting then s.slt.slot else BitVec.ofNat 64 ((s.now - s.boot.t0) / 1000)
/-- ns after the slot's edge. -/
def evNs (s : State) : W32 := if s.slt.counting then BitVec.ofNat 32 ((s.now - s.slt.edgeAt) / 1000) else 0

/-- The record of a single event (R511, R551), without its SEQ. -/
def mkEvent (s : State) (cls : EvClass) (code : W16) (src : W16) (detail : Bytes) : EventRec :=
  { slot := evSlot s, ns := evNs s, code := code, cls := BitVec.ofNat 8 cls.num, kind := 0, source := src,
    sourceLast := src, count := 1, lastSlot := evSlot s, lastNs := evNs s, detail := detail,
    provisional := !s.slt.anchored, pregrain := !s.slt.counting }

/-- The 64 bytes of a record with its PHASE (R511). -/
def EventRec.bytes (e : EventRec) (phase : Bool) : Bytes :=
  leBytes 8 e.seq.toNat ++ leBytes 8 e.slot.toNat ++ leBytes 4 e.ns.toNat ++ leBytes 2 e.code.toNat ++ [e.cls, e.kind]
    ++ leBytes 2 e.source.toNat ++ leBytes 2 e.sourceLast.toNat ++ leBytes 4 e.count.toNat ++ leBytes 8 e.lastSlot.toNat
    ++ leBytes 4 e.lastNs.toNat ++ padTo 16 e.detail
    ++ leBytes 4 (b2n phase + 2 * b2n e.provisional + 4 * b2n e.pregrain + 8 * b2n e.standby)

/-- Which source's SEQ a record takes: its own, or the collector's for SUMMARY and LOSS (R512, R513). -/
def EventRec.seqSource (e : EventRec) : Nat := if e.kind = 0 then e.source.toNat else srcCollector.toNat

/-- The lower of two SOURCE words. -/
def minW (a b : W16) : W16 := if a.toNat ≤ b.toNat then a else b
/-- The higher of two SOURCE words. -/
def maxW (a b : W16) : W16 := if a.toNat ≤ b.toNat then b else a

/-- Merge an event into a summary (R515). -/
def EventRec.absorb (sum e : EventRec) : EventRec :=
  { sum with count := sum.count + 1, lastSlot := e.lastSlot, lastNs := e.lastNs,
             source := minW sum.source e.source, sourceLast := maxW sum.sourceLast e.sourceLast }

/-- One record of a class lost at a ring (R516). -/
def LossSpan.add (l : LossSpan) (e : EventRec) : LossSpan :=
  if l.count = 0 then { count := 1, srcLo := e.source, srcHi := e.sourceLast, first := e, last := e }
  else { l with count := l.count + 1, srcLo := minW l.srcLo e.source, srcHi := maxW l.srcHi e.sourceLast, last := e }

/-- The LOSS record of a span (R516). -/
def LossSpan.record (l : LossSpan) (cls : Nat) : EventRec :=
  { slot := l.first.slot, ns := l.first.ns, code := 0, cls := BitVec.ofNat 8 cls, kind := 2, source := l.srcLo,
    sourceLast := l.srcHi, count := BitVec.ofNat 32 l.count, lastSlot := l.last.lastSlot, lastNs := l.last.lastNs,
    provisional := l.first.provisional, pregrain := l.first.pregrain }

/-- The event ring of a function (PF1 or PF0). -/
def evRing (pf1 : Bool) (s : State) : EventRing := if pf1 then s.tel.pf1 else s.tel.pf0
/-- Replace the event ring of a function. -/
def setEvRing (pf1 : Bool) (r : EventRing) (s : State) : State :=
  if pf1 then { s with tel := { s.tel with pf1 := r } } else { s with tel := { s.tel with pf0 := r } }

/-- Write a record into a ring known to have room: SEQ, slot bytes, PROD, and MSI-X vector 16 (R513, R514). -/
def evPut (pf1 : Bool) (e : EventRec) (s : State) : State :=
  let r := evRing pf1 s
  let q := tget 0 r.seq e.seqSource + 1
  let e := { e with seq := BitVec.ofNat 64 q }
  let s := { s with hostMem := mwrite 0 s.hostMem (r.reg.slotAddr 64) (e.bytes r.reg.phase) }
  let s := setEvRing pf1 { r with seq := tset 0 r.seq e.seqSource q, reg := r.reg.advance } s
  if r.reg.irqs then emitOut (.msix (b2n pf1) 16) s else s

/-- Write the pending LOSS records while the ring has room, in class order (R516). -/
def evFlushLoss (pf1 : Bool) : List Nat → State → State
  | [], s => s
  | c :: cs, s =>
    let r := evRing pf1 s
    let l := tget {} r.loss c
    if l.count = 0 then evFlushLoss pf1 cs s
    else if r.reg.en && !r.reg.isFull then
      evFlushLoss pf1 cs (evPut pf1 (l.record c) (setEvRing pf1 { r with loss := tset {} r.loss c {} } s))
    else s

/-- All classes in order. -/
def allClasses : List Nat := [0, 1, 2, 3, 4, 5, 6, 7]

/-- A ring that may have room again (R516): its pending LOSS records are written. -/
def evRoom (pf1 : Bool) (s : State) : State := evFlushLoss pf1 allClasses s

/-- Count a record lost at a ring (R514, R516). -/
def evLost (pf1 : Bool) (e : EventRec) (s : State) : State :=
  let r := evRing pf1 s
  bump (cEvent e.cls.toNat (if pf1 then 3 else 4))
    (setEvRing pf1 { r with loss := tmod {} r.loss e.cls.toNat (fun l => l.add e) } s)

/-- A record due to a ring: written, lost at a full or stopped ring, or nothing at a ring the host has not enabled. The
flag says that it was written. -/
def evDue (pf1 : Bool) (e : EventRec) (s : State) : State × Bool :=
  let s := evRoom pf1 s
  let r := evRing pf1 s
  if r.reg.en then (if r.reg.isFull then (evLost pf1 e s, false) else (evPut pf1 e s, true))
  else if r.stopped then (evLost pf1 e s, false) else (s, false)

/-- A record due to every ring of its class (R510). -/
def evRings (cls : EvClass) (e : EventRec) (s : State) : State × Bool :=
  let a := evDue true e s
  if cls.toPf0 then let b := evDue false e a.1; (b.1, a.2 || b.2) else a

/-- The alarm ring takes a TAMPER or LIFECYCLE event: an entry of its own, the overflow entry in place 64, or merged
into the open overflow entry (R517). -/
def alarmPut (e : EventRec) (s : State) : State :=
  let t := s.tel
  if t.alarmOverflow then
    bump (cEvent e.cls.toNat 6)
      { s with tel := { t with alarm := t.alarm.dropLast ++ (t.alarm.getLast?.map (fun l => l.absorb e)).toList } }
  else
    let isFull := t.alarm.length ≥ 63
    let e := if isFull then { e with kind := 1, detail := [] } else e
    let q := tget 0 t.alarmSeq e.seqSource + 1
    let e := { e with seq := BitVec.ofNat 64 q }
    bump (cEvent e.cls.toNat 5)
      { s with tel := { t with alarm := t.alarm ++ [e], alarmOverflow := isFull, alarmSeq := tset 0 t.alarmSeq e.seqSource q } }

/-- An event of class `cls` (R510, R515): counted, written to the alarm ring where its class says so, written singly
within the class's quota, else coalesced into the open summary of its code. -/
def emit (cls : EvClass) (code : W16) (src : W16) (detail : Bytes) (s : State) : State :=
  let e := mkEvent s cls code src detail
  let s := bump (cEvent cls.num 0) s
  match s.tel.quota.of cls with
  | none =>
    let a := evRings cls e (alarmPut e s)
    if a.2 then bump (cEvent cls.num 1) a.1 else a.1
  | some q =>
    let used := tget 0 s.tel.singles cls.num
    if used < q then
      let a := evRings cls e { s with tel := { s.tel with singles := tset 0 s.tel.singles cls.num (used + 1) } }
      if a.2 then bump (cEvent cls.num 1) a.1 else a.1
    else
      let key := code.toNat * 8 + cls.num
      let old := tget {} s.tel.summaries key
      let new := if old.count = 0 then { e with kind := 1, detail := [] } else old.absorb e
      bump (cEvent cls.num 2) { s with tel := { s.tel with summaries := tset {} s.tel.summaries key new } }

/-- The class a class number names. -/
def EvClass.ofNum : Nat → EvClass
  | 0 => .tamper | 1 => .lifecycle | 2 => .secure | 3 => .fault | 4 => .order | 5 => .canopy | 6 => .link | _ => .info

/-- Write open summaries in ascending code order and clear them (R515). -/
def flushSummaries : Tab EventRec → State → State
  | [], s => { s with tel := { s.tel with summaries := [] } }
  | (k, e) :: t, s => flushSummaries t (evRings (EvClass.ofNum (k % 8)) e s).1

/-- The telemetry side of a ledger period boundary (R515): summaries first, then the new quotas and fresh counts. -/
def telBoundary (s : State) : State :=
  let s := flushSummaries s.tel.summaries s
  { s with tel := { s.tel with singles := [], quota := s.tel.quotaReg } }

/-- One byte of DETAIL. -/
def d1 (v : Nat) : Bytes := leBytes 1 v
/-- Two bytes of DETAIL. -/
def d2 (v : Nat) : Bytes := leBytes 2 v
/-- Four bytes of DETAIL. -/
def d4 (v : Nat) : Bytes := leBytes 4 v

/-- Events emitted one after another for a list of cases. -/
def foldS {α : Type} (f : α → State → State) : List α → State → State
  | [], s => s
  | a :: t, s => foldS f t (f a s)

/-- Through PF1's BAR2, which is decoded while PF1 is present (00 R13, 04 R99). -/
def pf1Do (f : State → State) (s : State) : State := if s.boot.pf1 then f s else s

/-- A power state and the rest of a bough in the ledger. -/
def boughNrg (b : Nat) (s : State) : BoughNrg := tget {} s.nrg.boughs b
/-- Change a bough's ledger state. -/
def modBough (b : Nat) (f : BoughNrg → BoughNrg) (s : State) : State :=
  { s with nrg := { s.nrg with boughs := tmod {} s.nrg.boughs b f } }
/-- The bough is powered down. -/
def boughOff (b : Nat) (s : State) : Bool := (boughNrg b s).power == .off
/-- The bough runs (powered, neither frozen nor fenced). -/
def boughRuns (b : Nat) (s : State) : Bool := (boughNrg b s).power == .running

/-- An access that reached a powered-down bough (R74): OFF_ACCESS and one FAULT event. -/
def offAccess (b : Nat) (s : State) : State :=
  emit .fault 0x9013 (srcBough b) [] { s with nrg := { s.nrg with offAccess := true } }

/-- The installed Grain's work entry of a kind, zero before any Grain (R353). -/
def workEntry (s : State) (kind : Nat) : WorkEntry := s.grn.grain.energy.work.getD kind {}

end Sys2Proof.Machine
end

