-- ==== Sys2Proof/Machine/Derive.lean ====
section
/-!
DEFINITION. Machine/Derive.lean: the derivation functions and the derivation tree of 05_heartwood_keys.md R117-R122, and the
generators' derivation function (06 R150).
-/
namespace Sys2Proof.Machine

/-- An ASCII label. -/
def ascii (s : String) : Bytes := s.toList.map (fun c => BitVec.ofNat 8 c.toNat)

/-- The fixed part of a PRF input (R117): label, 0x00, context, [L]. -/
def kdfInput (label : String) (ctx : Bytes) (bits : Nat) : Bytes := ascii label ++ [0] ++ ctx ++ beBytes 4 bits

/-- KDF-H(K, label, context, L): SP 800-108 counter mode with HMAC-SHA-384 (R117). -/
def kdfH (key : Bytes) (label : String) (ctx : Bytes) (bits : Nat) : Bytes :=
  (kdfCounter hmac384 key (kdfInput label ctx bits) 1 ((bits + 383) / 384)).take (bits / 8)

/-- KDF-C(K, label, context, L): SP 800-108 counter mode with CMAC-AES-256 (R117). -/
def kdfC (key : Bytes) (label : String) (ctx : Bytes) (bits : Nat) : Bytes :=
  (kdfCounter cmac key (kdfInput label ctx bits) 1 ((bits + 127) / 128)).take (bits / 8)

/-- `n` steps of the security version ladder downwards (R119). -/
def ladderDown : Nat → Bytes → Bytes
  | 0, l => l
  | n + 1, l => ladderDown n (sha384 (ascii "GRN-SVN-STEP" ++ l))

/-- DUK (R118). -/
def keyDuk (hsV fuseId : Bytes) : Bytes := kdfH hsV "HW-DUK" fuseId 384
/-- OWN (R118). -/
def keyOwn (hsV hsO fuseId : Bytes) : Bytes := kdfH (hsV ++ hsO) "HW-OWN" fuseId 384
/-- GBK of an installed security version (R119). -/
def keyGbk (own : Bytes) (svn : Nat) : Bytes := ladderDown (256 - svn) (kdfH own "GRN-SVN-TOP" [] 384)
/-- SEAL_d (R118). -/
def keySeal (gbk : Bytes) (d : Nat) : Bytes := kdfH gbk "CUS-SEAL" (beBytes 1 d) 256
/-- STORE_B under a GBK (R118). -/
def keyStoreB (gbk : Bytes) : Bytes := kdfH gbk "KEY-STORE" [] 256

/-- Material of a Taproot slot 0-63, empty where it holds none. -/
def tapKey (n : Nat) (s : State) : Bytes := tget [] s.vault.tap n

/-- Write Taproot slots, which an erase leaves empty until a CORE reset (R142). -/
def setTap (ks : List (Nat × Bytes)) (s : State) : State :=
  if s.vault.erased then s
  else { s with vault := { s.vault with tap := ks.foldl (fun t e => tset [] t e.1 e.2) s.vault.tap } }

/-- The keys that need no Grain (R88, R118): DUK, VWK and DEVID, derived at step 6. -/
def deriveFirst (s : State) : State :=
  match s.fuses.hsV with
  | none => s
  | some h =>
    let duk := keyDuk h s.fuses.fuseId
    setTap [(0, duk), (1, kdfH duk "HW-VWK" [] 256), (3, kdfH duk "ATT-DEVID" [] 384)] s

/-- JMK, derived when the journal is first read (R118). -/
def deriveJmk (s : State) : State :=
  if tapKey 1 s = [] then s else setTap [(2, kdfH (tapKey 1 s) "KPF-JMK" [] 256)] s

/-- OWN, GBK and the keys below GBK, derived at each Grain installation (R118, R119). Without HS_O the owner branch is
unavailable (R115). -/
def deriveGrain (svn : Nat) (s : State) : State :=
  if s.boot.keyless || s.vault.erased then s
  else match s.fuses.hsV, s.fuses.hsO with
    | some v, some o =>
      let own := keyOwn v o s.fuses.fuseId
      let gbk := keyGbk own svn
      let tik := kdfH gbk "KEY-TIK" [] 640
      setTap ([(4, own), (5, gbk), (38, tik.take 64), (39, tik.drop 64), (46, kdfH own "KEY-STORE-FIX" [] 256),
        (47, keyStoreB gbk)] ++ (List.range 32).map (fun d => (6 + d, keySeal gbk d))) s
    | _, _ => s

/-! ### Page groups of DRAM (01 R32, 04 R90, R122) -/

/-- Bytes of a page group: the unit in which 13 R352 lays out the partitions; the spec states no other (log entry 42). -/
def groupBytes : Nat := 0x200000
/-- Generation of a page group: how often it has been re-keyed at this start. -/
def groupGen (g : Nat) (s : State) : Nat := (s.boot.rekeys.filter (fun e => decide (e.1 ≤ g ∧ g < e.1 + e.2))).length
/-- A page group's key (R122). -/
def pageGroupKey (g : Nat) (s : State) : Bytes := kdfC (tapKey 44 s) "DDR-PG" (beBytes 4 g ++ beBytes 4 (groupGen g s)) 512
/-- `n` groups from `lo` take a new key: their old contents are lost (01 R32). -/
def rekeyGroups (lo n : Nat) (s : State) : State :=
  if n = 0 then s
  else { s with
    boot := { s.boot with rekeys := s.boot.rekeys ++ [(lo, n)] }
    lvs := { s.lvs with work := tfilter (fun a => a / groupBytes < lo || decide (lo + n ≤ a / groupBytes)) s.lvs.work } }

/-- A byte of the work partition; zero once the erase line has cleared the DRAM keys (18 R468). -/
def workByte (a : Nat) (s : State) : Byte :=
  if s.tmp.erased then 0
  else match tget none s.lvs.work a with
    | some b => b
    | none => Config.unrelated (groupGen (a / groupBytes) s) a

/-- Bytes of the work partition. -/
def workRead (a n : Nat) (s : State) : Bytes := (List.range n).map (fun i => workByte (a + i) s)

/-- Bytes into the work partition. -/
def workWrite (a : Nat) (x : Bytes) (s : State) : State :=
  { s with lvs := { s.lvs with work := (x.zipIdx).foldl (fun t e => tset none t (a + e.2) (some e.1)) s.lvs.work } }

/-! ### CTR_DRBG with derivation function (06 R150, SP 800-90A; PRESUMED, log entry 4) -/

/-- Block_Cipher_df of an input, `n` bytes. -/
def blockCipherDf (m : Bytes) (n : Nat) : Bytes :=
  let st := pad16 (beBytes 4 m.length ++ beBytes 4 n ++ m ++ [0x80])
  let k : Bytes := (List.range 32).map (fun i => BitVec.ofNat 8 i)
  let bcc := fun i => cbcMac k (List.replicate 16 0) (chunks 16 (beBytes 4 i ++ List.replicate 12 0 ++ st))
  let t := bcc 0 ++ bcc 1 ++ bcc 2
  let kx := t.take 32
  let x0 := (t.drop 32).take 16
  let x1 := aesEnc kx x0
  let x2 := aesEnc kx x1
  (x1 ++ x2 ++ aesEnc kx x2).take n

end Sys2Proof.Machine
end

