-- ==== Sys2Proof/Machine/LeafCode.lean ====
section
/-!
DEFINITION. Machine/LeafCode.lean: the leaf's instruction words (14_leaf_isa.md, Instruction formats and R380-R389): the
instructions as data, their encoder, and a decoder that is total: an undefined encoding decodes to `undef` (R380).
-/
namespace Sys2Proof
namespace Machine

/-- Register functions of OP 0x00 with two sources. -/
inductive AluOp where
  | add | addc | sub | subc | and | or | xor | andn | min | max | minu | maxu | slt | sltu | sll | srl | sra | ror
deriving DecidableEq, Repr

/-- Functions of OP 0x00 with one source. -/
inductive UnOp where
  | neg | clz | bswap
deriving DecidableEq, Repr

/-- Shifts by an immediate amount. -/
inductive ShOp where
  | slli | srli | srai | rori
deriving DecidableEq, Repr

/-- Immediate operations of R383 with RD and RS. -/
inductive ImmOp where
  | addi | andi | ori | xori | slti | sltiu | addiS
deriving DecidableEq, Repr

/-- Loads and stores of R384. -/
inductive MemOp where
  | lw | lh | lhu | lb | lbu | sw | sh | sb
deriving DecidableEq, Repr

/-- Multiplies into a register (R386). -/
inductive MulOp where
  | mul | mulhu | mulhs
deriving DecidableEq, Repr

/-- Multiplies into the accumulator (R386). -/
inductive MacOp where
  | mula | mac | macu | msu | msuu
deriving DecidableEq, Repr

/-- A leaf instruction. -/
inductive LInsn where
  | alu (o : AluOp) (s : Bool) (rd rs rt : BitVec 5)
  | un (o : UnOp) (s : Bool) (rd rs : BitVec 5)
  | sh (o : ShOp) (s : Bool) (rd rs amt : BitVec 5)
  | imm (o : ImmOp) (rd rs : BitVec 5) (i : BitVec 16)
  | lui (rd : BitVec 5) (i : BitVec 16)
  | cmpi (rs : BitVec 5) (i : BitVec 16)
  | mem (o : MemOp) (rd rb : BitVec 5) (m : LeafMode)
  | swapw (rd rb : BitVec 5) (i : BitVec 13)
  | mul (o : MulOp) (rd rs rt : BitVec 5)
  | mac (o : MacOp) (rs rt : BitVec 5)
  | mfa (rd : BitVec 5) (sel : Fin 3)
  | mfat (rd : BitVec 5)
  | mta (sel : Fin 3) (rs : BitVec 5)
  | aclr
  | ashift (left : Bool) (sel : BitVec 7)
  | accm (sat : Bool)
  | div (signed : Bool) (rp : BitVec 4) (rs rt : BitVec 5)
  | bcond (c : LeafCond) (off : BitVec 22)
  | bz (onNonzero : Bool) (rs : BitVec 5) (off : BitVec 16)
  | j (link : Bool) (off : BitVec 26)
  | jr (rs : BitVec 5)
  | jalr (rd rs : BitVec 5)
  | wait (rd : BitVec 5) (mask : BitVec 16)
  | evclr (mask : BitVec 16)
  | mff (rd : BitVec 5)
  | mtf (rs : BitVec 5)
  | mfs (rd : BitVec 5) (sel : Fin 6)
  | undef
deriving DecidableEq, Repr

/-! ### Codes of the tables -/

/-- FN of R381. -/
def AluOp.fn : AluOp → BitVec 10
  | .add => 0x000 | .addc => 0x001 | .sub => 0x002 | .subc => 0x003 | .and => 0x004 | .or => 0x005 | .xor => 0x006
  | .andn => 0x007 | .min => 0x009 | .max => 0x00A | .minu => 0x00B | .maxu => 0x00C | .slt => 0x00D | .sltu => 0x00E
  | .sll => 0x010 | .srl => 0x011 | .sra => 0x012 | .ror => 0x013
/-- FN of R381. -/
def UnOp.fn : UnOp → BitVec 10
  | .neg => 0x008 | .clz => 0x018 | .bswap => 0x019
/-- FN of R381. -/
def ShOp.fn : ShOp → BitVec 10
  | .slli => 0x014 | .srli => 0x015 | .srai => 0x016 | .rori => 0x017
/-- OP of R383. -/
def ImmOp.op : ImmOp → BitVec 6
  | .addi => 0x01 | .andi => 0x02 | .ori => 0x03 | .xori => 0x04 | .slti => 0x05 | .sltiu => 0x06 | .addiS => 0x08
/-- OP of R384. -/
def MemOp.op : MemOp → BitVec 6
  | .lw => 0x10 | .lh => 0x11 | .lhu => 0x12 | .lb => 0x13 | .lbu => 0x14 | .sw => 0x15 | .sh => 0x16 | .sb => 0x17
/-- FN of R386. -/
def MulOp.fn : MulOp → BitVec 4
  | .mul => 0x0 | .mulhu => 0x1 | .mulhs => 0x2
/-- FN of R386. -/
def MacOp.fn : MacOp → BitVec 4
  | .mula => 0x3 | .mac => 0x4 | .macu => 0x5 | .msu => 0x6 | .msuu => 0x7

end Machine

/-- COND of R388. -/
def LeafCond.code : LeafCond → BitVec 4
  | .alw => 0 | .zs => 2 | .zc => 3 | .cs => 4 | .cc => 5 | .ns => 6 | .nc => 7 | .vs => 8 | .vc => 9 | .gtu => 10
  | .leu => 11 | .ges => 12 | .lts => 13 | .gts => 14 | .les => 15

namespace Machine

/-- The condition a COND field names; 1 names none. -/
def condOf (c : BitVec 4) : Option LeafCond :=
  match c.toNat with
  | 0 => some .alw | 2 => some .zs | 3 => some .zc | 4 => some .cs | 5 => some .cc | 6 => some .ns | 7 => some .nc
  | 8 => some .vs | 9 => some .vc | 10 => some .gtu | 11 => some .leu | 12 => some .ges | 13 => some .lts
  | 14 => some .gts | 15 => some .les | _ => none

/-! ### Encoder -/

/-- Format R. -/
def encR (op : BitVec 6) (rd rs rt : BitVec 5) (s : Bool) (fn : BitVec 10) : W32 := op ++ rd ++ rs ++ rt ++ BitVec.ofBool s ++ fn
/-- Format I. -/
def encI (op : BitVec 6) (rd rs : BitVec 5) (i : BitVec 16) : W32 := op ++ rd ++ rs ++ i
/-- Format M: MODE and IMM13. -/
def encM (op : BitVec 6) (rd rb : BitVec 5) (mode : BitVec 3) (i : BitVec 13) : W32 := op ++ rd ++ rb ++ mode ++ i
/-- Format A. -/
def encA (rd rs rt : BitVec 5) (sel : BitVec 7) (fn : BitVec 4) : W32 := (0x20 : BitVec 6) ++ rd ++ rs ++ rt ++ sel ++ fn
/-- Format B. -/
def encB (c : BitVec 4) (off : BitVec 22) : W32 := (0x30 : BitVec 6) ++ c ++ off
/-- Format J. -/
def encJ (op : BitVec 6) (off : BitVec 26) : W32 := op ++ off

/-- A load or store with its addressing mode. -/
def encMode (op : BitVec 6) (rd rb : BitVec 5) (m : LeafMode) : W32 :=
  match m with
  | .off i => encM op rd rb 0 i
  | .post i => encM op rd rb 1 i
  | .pre i => encM op rd rb 2 i
  | .idx ri sc => encM op rd rb 3 (ri ++ sc ++ (0 : BitVec 6))

/-- The word of an instruction; `undef` gives one of the undefined words, OP 0x3F. -/
def leafEncode (i : LInsn) : W32 :=
  match i with
  | .alu o s rd rs rt => encR 0 rd rs rt s o.fn
  | .un o s rd rs => encR 0 rd rs 0 s o.fn
  | .sh o s rd rs amt => encR 0 rd rs amt s o.fn
  | .imm o rd rs i => encI o.op rd rs i
  | .lui rd i => encI 0x07 rd 0 i
  | .cmpi rs i => encI 0x09 0 rs i
  | .mem o rd rb m => encMode o.op rd rb m
  | .swapw rd rb i => encM 0x18 rd rb 0 i
  | .mul o rd rs rt => encA rd rs rt 0 o.fn
  | .mac o rs rt => encA 0 rs rt 0 o.fn
  | .mfa rd sel => encA rd 0 0 (BitVec.ofNat 7 sel.val) 0x8
  | .mfat rd => encA rd 0 0 0 0x9
  | .mta sel rs => encA 0 rs 0 (BitVec.ofNat 7 sel.val) 0xA
  | .aclr => encA 0 0 0 0 0xB
  | .ashift left sel => encA 0 0 0 sel (if left then 0xD else 0xC)
  | .accm sat => encA 0 0 0 (if sat then 1 else 0) 0xE
  | .div signed rp rs rt => encR 0x21 (rp ++ (0 : BitVec 1)) rs rt false (if signed then 1 else 0)
  | .bcond c off => encB c.code off
  | .bz nz rs off => encI (if nz then 0x32 else 0x31) 0 rs off
  | .j link off => encJ (if link then 0x34 else 0x33) off
  | .jr rs => encR 0x35 0 rs 0 false 0
  | .jalr rd rs => encR 0x36 rd rs 0 false 0
  | .wait rd mask => encI 0x3A rd 0 mask
  | .evclr mask => encI 0x3B 0 0 mask
  | .mff rd => encR 0x3C rd 0 0 false 0
  | .mtf rs => encR 0x3C 0 rs 0 false 1
  | .mfs rd sel => encR 0x3C rd 0 (BitVec.ofNat 5 sel.val) false 2
  | .undef => encJ 0x3F 0

/-! ### Decoder -/

/-- A field of a word. -/
def wf (w : W32) (lo len : Nat) : BitVec len := w.extractLsb' lo len

/-- OP 0x00 (R381). -/
def decAlu (s : Bool) (rd rs rt : BitVec 5) (fn : Nat) : LInsn :=
  let a := fun o => LInsn.alu o s rd rs rt
  let u := fun o => if rt = 0 then LInsn.un o s rd rs else .undef
  let h := fun o => LInsn.sh o s rd rs rt
  match fn with
  | 0x000 => a .add | 0x001 => a .addc | 0x002 => a .sub | 0x003 => a .subc | 0x004 => a .and | 0x005 => a .or
  | 0x006 => a .xor | 0x007 => a .andn | 0x008 => u .neg | 0x009 => a .min | 0x00A => a .max | 0x00B => a .minu
  | 0x00C => a .maxu | 0x00D => a .slt | 0x00E => a .sltu | 0x010 => a .sll | 0x011 => a .srl | 0x012 => a .sra
  | 0x013 => a .ror | 0x014 => h .slli | 0x015 => h .srli | 0x016 => h .srai | 0x017 => h .rori
  | 0x018 => u .clz | 0x019 => u .bswap | _ => .undef

/-- An addressing mode (R384): MODE 4 to 7, and MODE 3 with a non-zero low field, are undefined. -/
def decMode (w : W32) : Option LeafMode :=
  match (wf w 13 3).toNat with
  | 0 => some (.off (wf w 0 13))
  | 1 => some (.post (wf w 0 13))
  | 2 => some (.pre (wf w 0 13))
  | 3 => if wf w 0 6 = 0 then some (.idx (wf w 8 5) (wf w 6 2)) else none
  | _ => none

/-- Format M (R384). -/
def decMem (o : MemOp) (w : W32) : LInsn :=
  match decMode w with
  | some m => .mem o (wf w 21 5) (wf w 16 5) m
  | none => .undef

/-- OP 0x20 (R386): SEL is 0 where the function lists none (DEDUCED, log entry 7). -/
def decAcc (w : W32) : LInsn :=
  let rd := wf w 21 5
  let rs := wf w 16 5
  let rt := wf w 11 5
  let sel := wf w 4 7
  let m := fun o => if sel = 0 then LInsn.mul o rd rs rt else .undef
  let a := fun o => if rd = 0 ∧ sel = 0 then LInsn.mac o rs rt else .undef
  match (wf w 0 4).toNat with
  | 0x0 => m .mul | 0x1 => m .mulhu | 0x2 => m .mulhs
  | 0x3 => a .mula | 0x4 => a .mac | 0x5 => a .macu | 0x6 => a .msu | 0x7 => a .msuu
  | 0x8 => if h : sel.toNat < 3 then .mfa rd ⟨sel.toNat, h⟩ else .undef
  | 0x9 => if sel = 0 then .mfat rd else .undef
  | 0xA => if h : sel.toNat < 3 then (if rd = 0 then .mta ⟨sel.toNat, h⟩ rs else .undef) else .undef
  | 0xB => if rd = 0 ∧ rs = 0 ∧ rt = 0 ∧ sel = 0 then .aclr else .undef
  | 0xC => .ashift false sel
  | 0xD => .ashift true sel
  | 0xE => if sel.toNat < 2 then .accm (decide (sel = 1)) else .undef
  | _ => .undef

/-- OP 0x3C (R389): a special value that the table does not list is undefined. -/
def decSys (w : W32) : LInsn :=
  match (wf w 0 10).toNat with
  | 0 => .mff (wf w 21 5)
  | 1 => .mtf (wf w 16 5)
  | 2 => if h : (wf w 11 5).toNat < 6 then .mfs (wf w 21 5) ⟨(wf w 11 5).toNat, h⟩ else .undef
  | _ => .undef

/-- The instruction of a word. -/
def leafDecode (w : W32) : LInsn :=
  let rd := wf w 21 5
  let rs := wf w 16 5
  let rt := wf w 11 5
  let i := wf w 0 16
  let s := decide (wf w 10 1 = 1)
  let fn := (wf w 0 10).toNat
  match (wf w 26 6).toNat with
  | 0x00 => decAlu s rd rs rt fn
  | 0x01 => .imm .addi rd rs i | 0x02 => .imm .andi rd rs i | 0x03 => .imm .ori rd rs i | 0x04 => .imm .xori rd rs i
  | 0x05 => .imm .slti rd rs i | 0x06 => .imm .sltiu rd rs i
  | 0x07 => if rs = 0 then .lui rd i else .undef
  | 0x08 => .imm .addiS rd rs i
  | 0x09 => if rd = 0 then .cmpi rs i else .undef
  | 0x10 => decMem .lw w | 0x11 => decMem .lh w | 0x12 => decMem .lhu w | 0x13 => decMem .lb w | 0x14 => decMem .lbu w
  | 0x15 => decMem .sw w | 0x16 => decMem .sh w | 0x17 => decMem .sb w
  | 0x18 => if wf w 13 3 = 0 then .swapw rd rs (wf w 0 13) else .undef
  | 0x20 => decAcc w
  | 0x21 => if fn < 2 ∧ !s ∧ wf w 21 1 = 0 then .div (decide (fn = 1)) (wf w 22 4) rs rt else .undef
  | 0x30 => match condOf (wf w 22 4) with | some c => .bcond c (wf w 0 22) | none => .undef
  | 0x31 => if rd = 0 then .bz false rs i else .undef
  | 0x32 => if rd = 0 then .bz true rs i else .undef
  | 0x33 => .j false (wf w 0 26)
  | 0x34 => .j true (wf w 0 26)
  | 0x35 => if rd = 0 ∧ rt = 0 ∧ fn = 0 then .jr rs else .undef
  | 0x36 => if rt = 0 ∧ fn = 0 then .jalr rd rs else .undef
  | 0x3A => if rs = 0 then .wait rd i else .undef
  | 0x3B => if rd = 0 ∧ rs = 0 then .evclr i else .undef
  | 0x3C => decSys w
  | _ => .undef

end Machine
end Sys2Proof
end

