-- ==== Sys2Proof/Machine/LeafBase.lean ====
section
/-!
DEFINITION. Machine/LeafBase.lean: access to leaves, twigs and bough memories, guards and read-once words of data memory
(14_leaf_isa.md R372-R379, R397, R399), events (R393), the submissions' common parts, and free values.
-/
namespace Sys2Proof.Machine

/-- A leaf. -/
def leafAt (l : Nat) (s : State) : Leaf := tget {} s.lvs.leaf l
/-- Replace a leaf. -/
def setLeaf (l : Nat) (x : Leaf) (s : State) : State := { s with lvs := { s.lvs with leaf := tset {} s.lvs.leaf l x } }
/-- Change a leaf. -/
def modLeaf (l : Nat) (f : Leaf → Leaf) (s : State) : State := setLeaf l (f (leafAt l s)) s

/-- Bough of a leaf (01 R15). -/
def boughOfLeaf (l : Nat) : Nat := l / 16
/-- Twig of a leaf. -/
def twigOfLeaf (l : Nat) : Nat := l / 4
/-- Limb of a bough. -/
def limbOfBough (b : Nat) : Nat := b / 3

/-- Bytes of a twig's memory. -/
def twigRead (t a n : Nat) (s : State) : Bytes := mread 0 (tget [] s.lvs.twig t) a n
/-- Bytes into a twig's memory through its external port or from a leaf (R378). -/
def twigWrite (t a : Nat) (b : Bytes) (s : State) : State :=
  { s with lvs := { s.lvs with twig := tmod [] s.lvs.twig t (fun m => mwrite 0 m a b) } }
/-- Bytes of a bough's memory. -/
def boughRead (b a n : Nat) (s : State) : Bytes := mread 0 (tget [] s.lvs.bough b) a n
/-- Bytes into a bough's memory. -/
def boughWrite (b a : Nat) (x : Bytes) (s : State) : State :=
  { s with lvs := { s.lvs with bough := tmod [] s.lvs.bough b (fun m => mwrite 0 m a x) } }

/-- Set an edge event of a leaf (R393). -/
def leafEvent (l bit : Nat) (s : State) : State := modLeaf l (fun x => { x with events := setBit x.events bit true }) s

/-- A leaf's entry in the installed Grain (13 R351). -/
def grainLeaf (l : Nat) (s : State) : LeafEntry := ((s.grn.grain.boughs.getD (l / 16) {}).leaves).getD (l % 16) {}

/-- The leaf that stands in a role given to leaf `l`: itself, or once it is fenced the spare that has taken the role (01 R35). -/
def roleLeaf (l : Nat) (s : State) : Option Nat :=
  if !(leafAt l s).fenced then some l
  else
    let e := grainLeaf l s
    if e.spare < 192 ∧ !(leafAt e.spare s).fenced ∧ (leafAt e.spare s).role = e.role then some e.spare else none

/-- The leaf's program runs: released and not fenced. -/
def leafAlive (l : Nat) (s : State) : Bool := (leafAt l s).released && !(leafAt l s).fenced

/-- The leaf can run: released, and not fenced unless a debugger has attached it (17 R454). -/
def leafRuns (l : Nat) (s : State) : Bool := (leafAt l s).released && (!(leafAt l s).fenced || (leafAt l s).attached)

/-- Power and fence state of a bough lets its units act. -/
def boughAlive (b : Nat) (s : State) : Bool :=
  match (boughNrg b s).power with
  | .running | .frozen => true
  | _ => false

/-! ### Data memory with its guards and read-once words -/

/-- A line of data memory is guarded, as output or as either. -/
def Leaf.guarded (x : Leaf) (addr : Nat) (outputOnly : Bool) : Bool :=
  x.guards.any (fun g => (g.output || !outputOnly) && decide (g.lo ≤ addr / 128 ∧ addr / 128 ≤ g.hi))

/-- Guard the lines of `len` bytes at `addr`; no bytes, no line. -/
def Leaf.guard (x : Leaf) (who : Nat) (output : Bool) (addr len : Nat) : Leaf :=
  if len = 0 ∨ 0x10000 ≤ addr then x
  else { x with guards := x.guards ++ [{ who := who, output := output, lo := addr / 128, hi := (addr + len - 1) / 128 }] }

/-- The guards of one holder end. -/
def Leaf.unguard (x : Leaf) (who : Nat) : Leaf := { x with guards := x.guards.filter (fun g => g.who != who) }

/-- The words that `len` bytes at `addr` touch. -/
def wordsOf (addr len : Nat) : List Nat := if len = 0 then [] else (List.range ((addr % 4 + len + 3) / 4)).map (fun i => addr / 4 + i)

/-- Output of a request into data memory: public words stop being read-once, secret-bearing words start (R399). -/
def Leaf.deliver (x : Leaf) (addr : Nat) (b : Bytes) (once : Bool) : Leaf :=
  { x with dmem := mwrite 0 x.dmem addr b
           once := (wordsOf addr b.length).foldl (fun t w => tset 0 t w (if once then 1 else 0)) x.once }

/-- A unit of the bough reads the leaf's own memories: data memory or twig memory, the address ranges of R375. -/
def localRead (l a n : Nat) (s : State) : Bytes :=
  if a < 0x10000 then mread 0 (leafAt l s).dmem a n else twigRead (twigOfLeaf l) (a - 0x100000) n s

/-- `n` bytes at `a` lie wholly in the leaf's data memory or twig memory. -/
def localOk (a n : Nat) : Bool := decide (a + n ≤ 0x10000) || (decide (0x100000 ≤ a) && decide (a + n ≤ 0x140000))

/-- Two ranges of leaf addresses overlap. -/
def overlaps (a n b m : Nat) : Bool := decide (n ≠ 0 ∧ m ≠ 0 ∧ a < b + m ∧ b < a + n)

/-- A key refusal of a leaf's request: the code and the requester go to the SECURE class (05 R131). -/
def leafSecure (l : Nat) (code : W16) (s : State) : State := if code = 0 then s else emit .secure code (srcLeaf l) [] s

end Sys2Proof.Machine
end

