-- ==== Sys2Proof/Machine/Check.lean ====
section
/-!
DEFINITION. Machine/Check.lean: the thirteen check units (06_entropy_and_check_units.md R155-R160).
-/
namespace Sys2Proof.Machine

/-- One bit into a CRC register of `w` bits (R156). -/
def crcBit (w poly st : Nat) (b : Bool) : Nat :=
  let top := st.testBit (w - 1) != b
  let sh := (st * 2) % 2 ^ w
  if top then sh ^^^ poly else sh

/-- One byte, least significant bit first under REFIN. -/
def crcByte (w poly : Nat) (refIn : Bool) (st : Nat) (b : Byte) : Nat :=
  (List.range 8).foldl (fun c i => crcBit w poly c (b.getLsbD (if refIn then i else 7 - i))) st

/-- The low `w` bits reversed. -/
def reflect : Nat → Nat → Nat
  | 0, _ => 0
  | w + 1, v => (v % 2) * 2 ^ w + reflect w (v / 2)

/-- The final CRC of a state (R156). -/
def crcFinal (w : Nat) (refOut : Bool) (xo st : Nat) : Nat := (if refOut then reflect w st else st) ^^^ xo

/-- CRC-32C with the parameters of the keep flash journal. -/
def crc32c (m : Bytes) : Nat :=
  crcFinal 32 true 0xFFFFFFFF (m.foldl (crcByte 32 0x1EDC6F41 true) 0xFFFFFFFF)

/-- CRC-32 of the Ethernet FCS. -/
def crc32 (m : Bytes) : Nat :=
  crcFinal 32 true 0xFFFFFFFF (m.foldl (crcByte 32 0x04C11DB7 true) 0xFFFFFFFF)

/-- A unit of the table. -/
def chk (u : Nat) (s : State) : Chk := tget {} s.chk u
/-- Replace a unit. -/
def setChk (u : Nat) (c : Chk) (s : State) : State := { s with chk := tset {} s.chk u c }

/-- The requester owns the unit: the Taproot for CHK_12, else the Grain's owner (R155). -/
def chkOwns (u : Nat) (who : ChkUser) (c : Chk) : Bool :=
  match who with
  | .taproot => u == 12
  | .dma => u != 12 && c.owner == 0xFF
  | .leaf l => u != 12 && c.owner == l.val

/-- A write of another requester is discarded and sets INTRUDE (R155); no host or leaf reaches CHK_12. A powered-down
bough's register discards it too (03 R74). -/
def chkWrite (u : Nat) (who : ChkUser) (f : Chk → State → State) (s : State) : State :=
  let c := chk u s
  if u = 12 ∧ who ≠ .taproot then s
  else if u < 12 && boughOff u s then offAccess u s
  else if chkOwns u who c then f c s
  else setChk u { c with intrude := true } s

/-- Bits of a parameter below WIDTH (R156). -/
def chkMask (w : Nat) (v : W32) : W32 := BitVec.ofNat 32 (v.toNat % 2 ^ w)

/-- CHK_CONFIG_WRITE (R156, R160). -/
def chkConfigWriteS (u : Nat) (who : ChkUser) (r : ChkReg) (v : W32) (s : State) : State :=
  chkWrite u who (fun c s =>
    match r with
    | .init => setChk u { c with init := chkMask c.width v } s
    | .cfg =>
      let w := bitsOf v.toNat 5 0
      if c.fifo ≠ [] ∨ w = 0 ∨ 32 < w then setChk u { c with cfgErr := true } s
      else setChk u { c with
        width := w, refIn := v.getLsbD 6, refOut := v.getLsbD 7, poly := chkMask w c.poly,
        init := chkMask w c.init, xorOut := chkMask w c.xorOut } s
    | .poly => if c.fifo ≠ [] then setChk u { c with cfgErr := true } s else setChk u { c with poly := chkMask c.width v } s
    | .xorOut =>
      if c.fifo ≠ [] then setChk u { c with cfgErr := true } s else setChk u { c with xorOut := chkMask c.width v } s) s

/-- Meaning of CHK_CONFIG_WRITE. -/
def execChkConfigWrite (u : Fin 13) (who : ChkUser) (r : ChkReg) (v : W32) (s : State) : Host.Outcome State Fault Refusal :=
  act (chkConfigWriteS u who r v) s

/-- RESULT and RAW of a unit's state (R156). -/
def Chk.settle (c : Chk) : Chk :=
  { c with ready := true, raw := c.st, result := BitVec.ofNat 32 (crcFinal c.width c.refOut c.xorOut.toNat c.st.toNat) }

/-- CHK_START (R159, R160): INIT loaded, BYTES zero; queued entries dropped with DROPPED. READY clears, and sets again when the last entry
queued after it has been absorbed. -/
def chkStartS (u : Nat) (who : ChkUser) (s : State) : State :=
  chkWrite u who (fun c s => setChk u
    { c with st := c.init, bytes := 0, fifo := [], ready := false, dropped := c.dropped || c.fifo != [] } s) s

/-- Meaning of CHK_START. -/
def execChkStart (u : Fin 13) (who : ChkUser) (s : State) : Host.Outcome State Fault Refusal := act (chkStartS u who) s

/-- CHK_DATA_WRITE (R157, R158, R159): little-endian bytes into a FIFO of four, or OVERRUN. -/
def chkDataWriteS (u : Nat) (who : ChkUser) (n : Nat) (v : W32) (s : State) : State :=
  chkWrite u who (fun c s =>
    if 4 ≤ c.fifo.length then
      let s := setChk u { c with overrun := true } s
      if u < 12 then bump (cBough u 11) s else s
    else setChk u { c with fifo := c.fifo ++ [leBytes (2 ^ n) v.toNat], ready := false } s) s

/-- Meaning of CHK_DATA_WRITE. -/
def execChkDataWrite (u : Fin 13) (who : ChkUser) (n : Fin 3) (v : W32) (s : State) : Host.Outcome State Fault Refusal :=
  act (chkDataWriteS u who n v) s

/-- CHK_ABSORB (R157, R159): the oldest entry is absorbed; with the last one READY sets. -/
def chkAbsorbS (u : Nat) (s : State) : State :=
  let c := chk u s
  match c.fifo with
  | [] => s
  | e :: t =>
    let c := { c with
      st := BitVec.ofNat 32 (e.foldl (crcByte c.width c.poly.toNat c.refIn) c.st.toNat), fifo := t,
      bytes := BitVec.ofNat 32 (min (c.bytes.toNat + e.length) 0xFFFFFFFF) }
    setChk u (if t = [] then c.settle else c) s

/-- Meaning of CHK_ABSORB. -/
def execChkAbsorb (u : Fin 13) (s : State) : Host.Outcome State Fault Refusal := act (chkAbsorbS u) s

/-- CHK_RESULT_READ (R159): RESULT or RAW, or zero with EARLY before READY. -/
def chkResultReadS (u : Nat) (raw : Bool) (s : State) : State :=
  let c := chk u s
  if u < 12 && boughOff u s then emitOut (.value 0) (offAccess u s)
  else if c.ready then emitOut (.value ((if raw then c.raw else c.result).setWidth 64)) s
  else emitOut (.value 0) (setChk u { c with early := true } s)

/-- Meaning of CHK_RESULT_READ. -/
def execChkResultRead (u : Fin 13) (raw : Bool) (s : State) : Host.Outcome State Fault Refusal := act (chkResultReadS u raw) s

end Sys2Proof.Machine
end

