-- ==== Sys2Proof/Machine/Time.lean ====
section
/-!
DEFINITION. Machine/Time.lean: the slot timebase of 02_slot_time.md: time inputs, time states, corrections and ring marks.
-/
namespace Sys2Proof.Machine

/-- Slot length in ns, of the installed Grain (R38). -/
def slotNs (s : State) : Nat := s.grn.grain.time.slotUs * 1000

/-- The device's own place in the member map (19 R495), none without a GROVE section. -/
def ownMember (s : State) : Option Nat :=
  match s.grn.grain.grove with
  | none => none
  | some ms => ms.findIdx? (fun m => m.fuseId == s.fuses.fuseId)

/-- The device is a grove member other than the crown, so the ring is its only phase source (R41). -/
def onRing (s : State) : Bool := match ownMember s with | some (_ + 1) => true | _ => false

/-- A source (1 PPS and time-of-day, 2 IEEE 1588) is named by the Grain, as phase source or fallback (R41). -/
def sourceNamed (n : Nat) (s : State) : Bool :=
  s.grn.installed && !onRing s && (s.grn.grain.time.phaseSrc == n || s.grn.grain.time.fallback == n)

/-- The source in use: 3 on the ring, else the Grain's phase source or its fallback (R41, R48). -/
def sourceInUse (s : State) : Nat :=
  if !s.grn.installed then 0 else if onRing s then 3
  else if s.slt.onFallback then s.grn.grain.time.fallback else s.grn.grain.time.phaseSrc

/-- The number of a time state as SLT_STAT.STATE shows it. -/
def TimeState.num : TimeState → Nat
  | .locked => 0 | .holdover => 1 | .adrift => 2

/-- The worse of two time states (R56). -/
def TimeState.worse (a b : TimeState) : TimeState := if a.num < b.num then b else a

/-- Enter a time state (R47): event 0x9020 on a change, SLT_HOLD_LEFT loaded in HOLDOVER and 0 outside it. -/
def enterTime (st : TimeState) (s : State) : State :=
  if s.slt.st = st then s
  else
    let s := { s with slt := { s.slt with
      st := st, bad := 0, holdLeft := if st = .holdover then s.grn.grain.time.holdoverS else 0,
      anchorDue := s.slt.anchorDue || (st == .locked && !s.slt.anchored) } }
    emit .info 0x9020 (srcTree 4) [] s

/-- Enter a time state of the device's own reception: on a grove member the state is the worse of it and the crown's (R56). -/
def enterOwn (st : TimeState) (s : State) : State :=
  if onRing s then
    let s' := enterTime (st.worse s.slt.crownState) { s with slt := { s.slt with ringSt := st } }
    if st = .holdover ∧ s.slt.ringSt ≠ .holdover ∧ s'.slt.st = .holdover then
      { s' with slt := { s'.slt with holdLeft := s.grn.grain.time.holdoverS } }
    else s'
  else enterTime st s

/-- The state of the device's own reception. -/
def ownTime (s : State) : TimeState := if onRing s then s.slt.ringSt else s.slt.st

/-- CRC-16 of R42: polynomial 0x1021, initial value 0xFFFF, no reflection, no final inversion. -/
def crc16Step (c : Nat) (b : Byte) : Nat :=
  (List.range 8).foldl (fun c _ => if c.testBit 15 then (c * 2 % 65536) ^^^ 0x1021 else c * 2 % 65536) (c ^^^ (b.toNat * 256))
/-- CRC-16 over a string. -/
def crc16 (b : Bytes) : Nat := b.foldl crc16Step 0xFFFF

/-- One second, one millisecond and one microsecond in ps. -/
def psS : Nat := 1000000000000
/-- One millisecond in ps. -/
def psMs : Nat := 1000000000
/-- One microsecond in ps. -/
def psUs : Nat := 1000000

/-- The part of the slew that has been carried out, ps: 100 ppm of the time since it began, at most the whole (R51; log entry 18). -/
def slewedPs (s : State) : Int :=
  let d := min (s.slt.slewNs.natAbs * 1000) ((s.now - s.slt.taiAt) / 10000)
  if s.slt.slewNs < 0 then -(d : Int) else d

/-- TAI of the timebase now, ps. The time base of the commands is the timebase's own steered count (log entry 1). -/
def taiPs (s : State) : Nat := (((s.slt.tai + (s.now - s.slt.taiAt) : Nat) : Int) + slewedPs s).toNat

/-- The timebase counts on from its TAI of now moved by `d` ps, with `slew` ns to be slewed from now on. -/
def setTai (d slew : Int) (s : State) : State :=
  let x := taiPs s
  { s with slt := { s.slt with tai := ((x : Int) + d).toNat, taiAt := s.now, slewNs := slew } }

/-- The first accepted time sets the timebase's phase (R50): TAI `tai` (ps) at time `at_`. Later ones leave it to the measurements. -/
def acceptTime (tai at_ : Nat) (s : State) : State :=
  if s.slt.timed then s else { s with slt := { s.slt with timed := true, tai := tai, taiAt := at_, slewNs := 0 } }

/-- PPS_EDGE (R43): PPS_OK from the spacing, a missing edge counted when no message named it, else the named second taken. -/
def ppsEdgeS (t : Nat) (s : State) : State :=
  let s := atTime t s
  if !sourceNamed 1 s then s
  else
    let ok := match s.slt.ppsLast with
      | some l => decide (psS ≤ (t - l) + psMs ∧ t - l ≤ psS + psMs)
      | none => false
    let named := s.slt.todNext
    let s := { s with slt := { s.slt with ppsOk := ok, ppsLast := some t, todNext := none } }
    match named with
    | none => bump (cDevice 3) s
    | some sec => acceptTime (sec * psS) t s

/-- Meaning of PPS_EDGE. -/
def execPpsEdge (t : Nat) (s : State) : Host.Outcome State Fault Refusal := act (ppsEdgeS t) s

/-- A message's bytes pass the checks of R42 and R43 that do not depend on time. -/
def todGood (maxQ : Nat) (m : Bytes) (gap : Bool) : Bool :=
  m.length == 16 && fieldLe m 0 1 == 0xA5 && fieldLe m 1 1 == 1 && fieldBe m 14 2 == crc16 (m.take 14)
    && bitOf (fieldLe m 11 1) 0 && fieldLe m 10 1 != 255 && fieldLe m 10 1 ≤ maxQ && !gap

/-- The message arrives from 100 ms to 900 ms after a PPS edge (R43). -/
def todWindow (t : Nat) (s : State) : Bool :=
  match s.slt.ppsLast with
  | some l => decide (100 * psMs ≤ t - l ∧ t - l ≤ 900 * psMs)
  | none => false

/-- TOD_MESSAGE (R42, R43). -/
def todMessageS (t : Nat) (m : Bytes) (gap : Bool) (s : State) : State :=
  let s := atTime t s
  if !sourceNamed 1 s then s
  else if todGood s.grn.grain.time.todMax m gap && todWindow t s then
    let sec := fieldBe m 2 6
    let s := match s.slt.lastTai with
      | some l => if l + 1 = sec then s else bump (cDevice 4) s
      | none => s
    { s with slt := { s.slt with todOk := true, todNext := some sec, lastTai := some sec,
                                 leapPending := bitOf (fieldLe m 11 1) 1, utcOffset := BitVec.ofNat 16 (fieldBe m 8 2),
                                 quality := BitVec.ofNat 8 (fieldLe m 10 1) } }
  else bump (cDevice 2) { s with slt := { s.slt with todOk := false } }

/-- Meaning of TOD_MESSAGE. -/
def execTodMessage (t : Nat) (m : Bytes) (gap : Bool) (s : State) : Host.Outcome State Fault Refusal :=
  act (todMessageS t m gap) s

/-- A source's run after one measurement (R48): a good one joins it, any other ends it. -/
def runNext (t : Nat) (off : Option Int) (run : List Nat) : List Nat :=
  match off with
  | some d => if d.natAbs ≤ 100 then (t :: run).take 16 else []
  | none => []

/-- The source has completed 16 good measurements within the last 32 s (R48). -/
def runGood32 (t : Nat) (run : List Nat) : Bool := run.length == 16 && run.all (fun x => decide (t - x ≤ 32 * psS))

/-- Change to the other named source when it has its 16 good measurements, else HOLDOVER (R47, R48). The rule speaks of the change to
the fallback; that the fallback, once in use and lost, gives way to the primary on the same terms is the model's (log entry 18). -/
def loseSource (t : Nat) (s : State) : State :=
  let other := if s.slt.onFallback then s.slt.runA else s.slt.runB
  if s.grn.grain.time.fallback != 0 && !onRing s && runGood32 t other then
    let s := { s with slt := { s.slt with onFallback := !s.slt.onFallback, bad := 0 } }
    { s with slt := { s.slt with source := sourceInUse s } }
  else enterOwn .holdover s

/-- Saturate a measured offset to the 32-bit register (SLT_OFFSET). -/
def satOffset (d : Int) : W32 := BitVec.ofInt 32 (max (-2147483647) (min 2147483647 d))

/-- The correction of a measured offset (R51): slewed up to 10 µs; when ahead, the timebase goes back and the running slot is
lengthened; when behind, the step acts at the next slot edge. -/
def correct (d : Int) (s : State) : State :=
  if d.natAbs ≤ 10000 then setTai 0 (-d) s
  else if 0 < d then setTai (-d * 1000) 0 { s with slt := { s.slt with lengthenNs := s.slt.lengthenNs + d.toNat } }
  else setTai 0 0 { s with slt := { s.slt with stepNs := d.natAbs } }

/-- A measured offset of the source in use (R45, R47, R51): shown, corrected, and taken into the rate estimate. The estimate is a free
value (log entry 18). -/
def measured (d : Int) (s : State) : State :=
  let f := drawFree s
  correct d { f.2 with slt := { f.2.slt with offset := satOffset d, rate := some f.1 } }

/-- What steers the timebase's rate (R45, R47): the phase source in LOCKED, else the last estimate; without one, and between the
measurements of a source, REF10M_IN when the Grain uses it and it is in range, else the core reference clock. -/
inductive RateFrom where
  | phase | estimate (r : W64) | ref10m | core
deriving DecidableEq, Repr

/-- The rate in force (R45, R47). -/
def rateFrom (s : State) : RateFrom :=
  if s.slt.st = .locked then .phase
  else match s.slt.rate with
    | some r => .estimate r
    | none => if s.slt.ref10mOk then .ref10m else .core

/-- PHASE_MEASUREMENT (R45, R47, R48, R50, R51). -/
def phaseMeasurementS (t : Nat) (a b : Option Int) (refOk : Bool) (s : State) : State :=
  let s := atTime t s
  let s := { s with slt := { s.slt with ref10mOk := refOk && s.grn.grain.time.ref10m == 1 } }
  if !(s.grn.installed && s.slt.timed) then s
  else
    let useB := s.slt.onFallback
    let runA := runNext t a s.slt.runA
    let runB := if s.grn.grain.time.fallback == 0 then [] else runNext t b s.slt.runB
    let used := if useB then b else a
    let s := { s with slt := { s.slt with runA := runA, runB := runB } }
    match used with
    | none => s
    | some d =>
      let s := measured d s
      let run := if useB then runB else runA
      if ownTime s = .locked then
        if 1000 < d.natAbs then
          if s.slt.bad + 1 ≥ 3 then loseSource t s
          else { s with slt := { s.slt with bad := s.slt.bad + 1 } }
        else { s with slt := { s.slt with bad := 0 } }
      else if run.length = 16 then enterOwn .locked s
      else s

/-- Meaning of PHASE_MEASUREMENT. -/
def execPhaseMeasurement (t : Nat) (a b : Option Int) (refOk : Bool) (s : State) : Host.Outcome State Fault Refusal :=
  act (phaseMeasurementS t a b refOk) s

/-- PHASE_SOURCE_LOSS (R47, R48): 3 s without the source in use, in LOCKED. The missing measurements end its run. -/
def phaseSourceLossS (t : Nat) (s : State) : State :=
  let s := atTime t s
  if ownTime s = .locked then
    let s := if s.slt.onFallback then { s with slt := { s.slt with runB := [] } } else { s with slt := { s.slt with runA := [] } }
    loseSource t s
  else s

/-- Meaning of PHASE_SOURCE_LOSS. -/
def execPhaseSourceLoss (t : Nat) (s : State) : Host.Outcome State Fault Refusal := act (phaseSourceLossS t) s

/-- HOLDOVER_EXPIRY (R47). -/
def holdoverExpiryS (s : State) : State := if ownTime s = .holdover then enterOwn .adrift s else s

/-- Meaning of HOLDOVER_EXPIRY. -/
def execHoldoverExpiry (s : State) : Host.Outcome State Fault Refusal := act holdoverExpiryS s

/-- TAI_SECOND (R46, R47): PPS_OUT rises and falls after 100 µs while ANCHORED; SLT_HOLD_LEFT counts down in HOLDOVER. -/
def taiSecondS (t : Nat) (s : State) : State :=
  let s := atTime t s
  let s := if s.slt.anchored then emitOut (.ball 1 false) (emitOut (.ball 1 true) s) else s
  { s with slt := { s.slt with holdLeft := if s.slt.st = .holdover then s.slt.holdLeft - 1 else 0 } }

/-- Meaning of TAI_SECOND. -/
def execTaiSecond (t : Nat) (s : State) : Host.Outcome State Fault Refusal := act (taiSecondS t) s

/-- Slot number of the TAI instant `tai`, ps (R38). -/
def slotOf (tai : Nat) (s : State) : Nat :=
  let g := s.grn.grain.time
  (tai / 1000 - (g.epochSec * 1000000000 + g.epochNs)) / max 1 (slotNs s)

/-- The next slot edge cannot come yet: the running slot has been lengthened (R51). The slew may shorten it by 100 ppm. -/
def edgeEarly (t : Nat) (s : State) : Bool :=
  s.slt.lengthenNs != 0 && decide ((t - s.slt.edgeAt) * 10001 < (slotNs s + s.slt.lengthenNs) * 10000000)

/-- What an edge did to the count: a new slot began, the slots passed over, and whether the edge stepped. -/
structure Advance where
  moved : Bool := false
  skipped : Nat := 0
  step : Bool := false
deriving DecidableEq, Repr

/-- The slot number at an edge (R38, R40, R50, R51). Anchoring holds a provisional count that is ahead of true time. -/
def advanceSlot (t : Nat) (s : State) : State × Advance :=
  if !s.slt.counting || edgeEarly t s then (s, {})
  else
    let k := s.slt.slot.toNat
    let s1 := if s.slt.stepNs = 0 then s else setTai (s.slt.stepNs * 1000) 0 s
    let s1 : State := { s1 with slt := { s1.slt with edgeAt := t, lengthenNs := 0, stepNs := 0 } }
    let go := fun (n : Nat) (step : Bool) (s : State) =>
      (({ s with slt := { s.slt with slot := BitVec.ofNat 64 n } } : State),
        ({ moved := true, skipped := n - (k + 1), step := step } : Advance))
    if s.slt.anchorDue then
      let n := slotOf (taiPs s1) s1
      let s2 : State := { s1 with slt := { s1.slt with anchored := true, anchorDue := false } }
      if n < k then (s, {})
      else if n = k then (s2, {})
      else go n (decide (k + 1 < n)) s2
    else go (k + 1 + s.slt.stepNs / max 1 (slotNs s)) (s.slt.stepNs != 0) s1

/-- A forward step or an anchoring jump (R50, R51): STEPPED, the skipped slots counted, 0x9021. -/
def stepNote (a : Advance) (s : State) : State :=
  if !a.step then s
  else emit .info 0x9021 (srcTree 4) [] (bumpBy (cDevice 1) a.skipped { s with slt := { s.slt with stepped := true } })

/-! ### Ring marks (R57-R61) -/

/-- Some slot of (lo, hi] satisfies n mod p = f mod p. -/
def periodHit (lo hi p f : Nat) : Bool := p != 0 && decide ((lo + p - f % p) / p < (hi + p - f % p) / p)

/-- A mark is due at the edge that moved the slot from `lo` to `hi` (R52, R57). -/
def markDue (lo hi : Nat) (s : State) : Bool :=
  (match s.slt.oneShot with | some a => decide (a.toNat ≤ hi) | none => false)
    || periodHit lo hi s.slt.curPeriod.toNat s.slt.curPhase.toNat

/-- The bank a new mark writes to (R58). -/
def markBank (s : State) : Bool :=
  if !s.slt.anyMark then false
  else if s.slt.hold && s.slt.heldAny then !s.slt.heldBank else !s.slt.lastBank

/-- The boughs that take no capture: frozen or powered down (R54). -/
def boughStale (s : State) : BitVec 12 :=
  (List.range 12).foldl (fun v b => setBit v b ((boughNrg b s).power == .frozen || boughOff b s)) 0

/-- A counter belongs to a bough that takes no capture (R54, R508): its Bough section or the Lane section of its leaves. -/
def ctrStale (st : BitVec 12) (off : Nat) : Bool :=
  if 0x01000 ≤ off ∧ off < 0x01000 + 0x200 * 12 then st.getLsbD ((off - 0x01000) / 0x200)
  else if 0x04000 ≤ off ∧ off < 0x04000 + 0x100 * 192 then st.getLsbD ((off - 0x04000) / 0x100 / 16)
  else false

/-- Set a bank. -/
def setBank (b : Bool) (f : MarkBank → MarkBank) (s : State) : State :=
  if b then { s with slt := { s.slt with bank1 := f s.slt.bank1 } } else { s with slt := { s.slt with bank0 := f s.slt.bank0 } }

/-- The capture of a mark (R54, R58 steps 1 to 3): shadows taken, the leading tag written. -/
def markCapture (state prov : Nat) (s : State) : State :=
  let stale := boughStale s
  let sh := tmerge 0 (tfilter (ctrStale stale) s.slt.shadow) (tfilter (fun k => !ctrStale stale k) s.tel.ctr)
  let b := markBank s
  let left := match s.slt.oneShot with
    | some a => if a.toNat ≤ s.slt.slot.toNat then none else some a
    | none => none
  let s := { s with slt := { s.slt with
    shadow := sh, shadowStale := stale, shadowState := state, shadowProv := prov != 0,
    collecting := some (b, s.slt.slot), oneShot := left } }
  setBank b (fun k => { k with lead := s.slt.slot }) s

/-- RING_MARK_DONE (R58 step 4): the bank complete, SLT_MARK_LAST and DONE, MSI-X vector 17 of PF0 and, if present, PF1. -/
def ringMarkDoneS (s : State) : State :=
  match s.slt.collecting with
  | none => s
  | some (b, tag) =>
    let s := setBank b (fun k => { k with
      lead := tag, trail := tag, provisional := s.slt.shadowProv, state := s.slt.shadowState,
      stale := s.slt.shadowStale, ctr := s.slt.shadow }) s
    let s := { s with slt := { s.slt with collecting := none, lastBank := b, done := true, markLast := tag, anyMark := true } }
    let s := emitOut (.msix 0 17) (bump (cDevice 5) s)
    if s.boot.pf1 then emitOut (.msix 1 17) s else s

/-- Meaning of RING_MARK_DONE. -/
def execRingMarkDone (s : State) : Host.Outcome State Fault Refusal := act ringMarkDoneS s

/-- The ring-mark side of an edge that moved the slot from `lo` (R52, R53 order 1, R61). -/
def markEdge (lo : Nat) (st0 : Nat) (s : State) : State :=
  let s := { s with slt := { s.slt with curPeriod := s.slt.markPeriod, curPhase := s.slt.markPhase } }
  if markDue lo s.slt.slot.toNat s then markCapture st0 (b2n (!s.slt.anchored)) (ringMarkDoneS s) else s

/-- SLT_MARK_CTRL_WRITE (R61). -/
def sltMarkCtrlWriteS (v : W32) (s : State) : State :=
  { s with slt := { s.slt with markPeriod := v.extractLsb' 16 16, markPhase := v.extractLsb' 0 16 } }

/-- Meaning of SLT_MARK_CTRL_WRITE. -/
def execSltMarkCtrlWrite (v : W32) (s : State) : Host.Outcome State Fault Refusal := act (sltMarkCtrlWriteS v) s

/-- MARK_GO (R60): SLOT_PASSED first, MARK_BUSY second, else armed. -/
def markGoS (s : State) : State :=
  if s.slt.markAt.toNat ≤ s.slt.slot.toNat then { s with slt := { s.slt with markResult := 0x9001 } }
  else if s.slt.collecting.isSome && s.slt.hold then { s with slt := { s.slt with markResult := 0x9002 } }
  else { s with slt := { s.slt with markResult := 0, oneShot := some s.slt.markAt } }

/-- Meaning of MARK_GO. -/
def execMarkGo (s : State) : Host.Outcome State Fault Refusal := act markGoS s

/-- MARK_HOLD (R58): HOLD protects the bank that holds the newest complete mark at the write. -/
def markHoldS (h : Bool) (s : State) : State :=
  if h then { s with slt := { s.slt with hold := true, heldBank := s.slt.lastBank, heldAny := s.slt.anyMark } }
  else { s with slt := { s.slt with hold := false, heldBank := false, heldAny := false } }

/-- Meaning of MARK_HOLD. -/
def execMarkHold (h : Bool) (s : State) : Host.Outcome State Fault Refusal := act (markHoldS h) s

/-- SLT_MARK_STAT as it reads. -/
def sltMarkStat (s : State) : Nat :=
  s.slt.markResult.toNat * 65536 + 4 * b2n s.slt.heldBank + 2 * b2n s.slt.lastBank + b2n s.slt.done

/-- SLT_MARK_STAT_READ (00 R7, RC): the value, then DONE clears. -/
def sltMarkStatReadS (s : State) : State :=
  emitOut (.value (BitVec.ofNat 64 (sltMarkStat s))) { s with slt := { s.slt with done := false } }

/-- Meaning of SLT_MARK_STAT_READ. -/
def execSltMarkStatRead (s : State) : Host.Outcome State Fault Refusal := act sltMarkStatReadS s

/-- SLT_NOW_READ (R40, SLT_NOW): a 64-bit read returns the whole number; a 32-bit read latches the upper half. -/
def sltNowReadS (wide : Bool) (s : State) : State :=
  if wide then emitOut (.value s.slt.slot) s
  else emitOut (.value (BitVec.ofNat 64 (s.slt.slot.toNat % 2 ^ 32)))
    { s with slt := { s.slt with latchHi := s.slt.slot.extractLsb' 32 32 } }

/-- Meaning of SLT_NOW_READ. -/
def execSltNowRead (wide : Bool) (s : State) : Host.Outcome State Fault Refusal := act (sltNowReadS wide) s

/-- The timebase of a re-grain or first installation (R38, R41, R50, 13 R363): the source in use and, at the first, slot 0. -/
def sltInstall (first : Bool) (s : State) : State :=
  let s := if first then { s with slt := { s.slt with counting := true, slot := 0, edgeAt := s.now, onFallback := false } } else s
  let s := { s with slt := { s.slt with onFallback := s.slt.onFallback && s.grn.grain.time.fallback != 0 } }
  { s with slt := { s.slt with source := sourceInUse s } }

end Sys2Proof.Machine
end

