-- ==== Sys2Proof/Machine/GroveBase.lean ====
section
/-!
DEFINITION. Machine/GroveBase.lean: frames on the grove ring (19_attestation_and_grove.md R493).
-/
namespace Sys2Proof.Machine

/-- Change the GRV block. -/
def modGrv (f : Grv → Grv) (s : State) : State := { s with grv := f s.grv }
/-- The member map. -/
def groveMembers (s : State) : List GMember := s.grn.grain.grove.getD []
/-- The device is in a grove. -/
def inGrove (s : State) : Bool := s.grn.installed && (ownMember s).isSome
/-- Member number; a device without a Grain counts it from the crown's frames (log entry 33). -/
def memberNo (s : State) : Nat := (ownMember s).getD s.grv.number
/-- The crown (R16, R498). -/
def isCrown (s : State) : Bool := inGrove s && memberNo s == 0
/-- Members of the grove. -/
def groveSize (s : State) : Nat := (groveMembers s).length
/-- The member's buddy, its east neighbour (R310, R501). -/
def buddyOf (m : Nat) (s : State) : Nat := (m + 1) % max 1 (groveSize s)

/-- A port passes frames other than HELLO (R494). -/
def portPasses (east : Bool) (s : State) : Bool := if east then s.grv.east && !s.grv.misE else s.grv.west && !s.grv.misW

/-- TYPE of a frame (R493). -/
def ringType : RingBody → Nat
  | .hello _ _ => 1 | .sync _ _ _ _ _ => 2 | .delayReq => 3 | .delayResp _ => 4 | .heartbeat _ _ => 5 | .grainBlock _ => 6
  | .leaseMirror _ => 7 | .leaseAck _ => 8 | .forward _ _ => 9 | .control _ => 10 | .xferCeil _ _ _ => 11 | .xferCtx _ _ => 11
  | .evidenceReq _ _ => 12 | .evidence _ _ => 13 | .regReq _ _ _ => 14 | .regResp _ => 15

/-- A frame's bytes are whole (R493): LEN of the header, and the CRC-32C over header and payload, in wire order. -/
def ringGood (b : Bytes) : Bool :=
  let n := fieldBe b 4 2
  decide (n ≤ 256) && b.length == 12 + n && fieldBe b (8 + n) 4 == crc32c (b.take (8 + n))

/-- A frame on one port. -/
def ringOut (east : Bool) (f : RingFrame) (s : State) : State := bump (cGrove 0) (emitOut (.ring east f) s)

/-- Next SEQ of frames of a type to a destination (R493). -/
def ringSeq (typ dst : Nat) (s : State) : Nat × State :=
  let k := 256 * dst + typ
  let n := tget 0 s.grv.seqOut k
  (n, modGrv (fun g => { g with seqOut := tset 0 g.seqOut k ((n + 1) % 65536) }) s)

/-- The next frame of the member to a destination. -/
def ringNew (dst : Nat) (body : RingBody) (s : State) : RingFrame × State :=
  let q := ringSeq (ringType body) dst s
  ({ src := BitVec.ofNat 8 (memberNo s), dst := BitVec.ofNat 8 dst, hops := 0, seq := BitVec.ofNat 16 q.1, body := body }, q.2)

/-- The port of the shorter way to a member (R493); of two equal ways the east one (log entry 30). -/
def ringWay (dst : Nat) (s : State) : Bool :=
  let n := max 1 (groveSize s)
  let e := (dst + n - memberNo s) % n
  decide (2 * e ≤ n)

/-- Every member as a destination. -/
def ringAll : Nat := 0xFF

/-- A frame to a member by the shorter way, by the other when that is broken; false where both are (R493). -/
def ringSend (dst : Nat) (body : RingBody) (s : State) : Bool × State :=
  let w := ringWay dst s
  if portPasses w s || portPasses (!w) s then
    let q := ringNew dst body s
    (true, ringOut (if portPasses w s then w else !w) q.1 q.2)
  else (false, s)

/-- A frame to a member where a way to it stands. -/
def ringTo (dst : Nat) (body : RingBody) (s : State) : State := (ringSend dst body s).2

/-- A frame on both ports that pass it. -/
def ringBoth (dst : Nat) (body : RingBody) (s : State) : State :=
  let q := ringNew dst body s
  whenB (portPasses false q.2) (ringOut false q.1) (whenB (portPasses true q.2) (ringOut true q.1) q.2)

/-! ### Reception (R493, R494, R497) -/

/-- A port's link is up. -/
def portUp (east : Bool) (s : State) : Bool := if east then s.grv.east else s.grv.west

/-- A frame goes on out of the opposite port (R493). -/
def ringForward (east : Bool) (f : RingFrame) (s : State) : State :=
  whenB (portPasses (!east) s) (ringOut (!east) { f with hops := f.hops + 1 }) s

/-- A frame to every member has not yet been round the ring. -/
def ringGoesOn (f : RingFrame) (s : State) : Bool := groveSize s == 0 || decide (f.hops.toNat + 2 < groveSize s)

/-- Key of a frame's sequence. -/
def ringKey (f : RingFrame) : Nat := 65536 * f.src.toNat + 256 * f.dst.toNat + ringType f.body

/-- A frame of this SRC, DST and TYPE with this or a later SEQ has been taken (R493). -/
def ringDup (f : RingFrame) (s : State) : Bool :=
  let n := tget 0 s.grv.seqIn (ringKey f)
  n != 0 && decide (32768 ≤ (f.seq.toNat + 65537 - n) % 65536)

/-- The frame's SEQ is taken. -/
def ringTake (f : RingFrame) (s : State) : State :=
  modGrv (fun g => { g with seqIn := tset 0 g.seqIn (ringKey f) ((f.seq.toNat + 1) % 65536 + 1) }) s

/-- A frame arrives: counted, and the end of an isolation (R497). A port whose neighbour is not the expected member passes HELLO
only. A device without a Grain learns its number from the hops of the crown's frames on its west port. -/
def ringHeard (east : Bool) (f : RingFrame) (s : State) : State :=
  bump (cGrove 1) (modGrv (fun g => { g with
    heard := s.now, isolated := false,
    number := if !s.grn.installed && !east && f.src == 0 then f.hops.toNat + 1 else g.number }) s)

/-- Reception of a frame of a row's TYPE: one for another member goes on, one for every member goes on and is taken, a duplicate is
discarded, any other acts by `k`. -/
def ringRx (t : Nat) (east : Bool) (f : RingFrame) (typ : Nat) (k : State → State) (s : State) : State :=
  let s := atTime t s
  if !portUp east s || ringType f.body != typ then s
  else
    let s := ringHeard east f s
    let me := memberNo s
    if !portPasses east s || (f.src.toNat == me && (inGrove s || me != 0)) then s
    else if f.dst.toNat ≠ ringAll ∧ (f.dst.toNat ≠ me ∨ (!inGrove s ∧ me = 0)) then ringForward east f s
    else
      let d := ringDup f s
      let s := if f.dst.toNat = ringAll ∧ ringGoesOn f s ∧ !d then ringForward east f s else s
      if d then s else k (ringTake f s)

/-- A lease page is sent to the buddy (R309, R501), while the member has one and is not UNMIRRORED. -/
def mirrorSend (entries : List (Nat × Nat)) (s : State) : State :=
  if !inGrove s || decide (groveSize s ≤ 1) || s.cnp.unmirrored || entries.isEmpty then s
  else
    let s := ringTo (buddyOf (memberNo s) s) (.leaseMirror (entries.map (fun e => (BitVec.ofNat 22 e.1, BitVec.ofNat 32 e.2)))) s
    modGrv (fun g => { g with mirrors := g.mirrors ++ [{ first := s.now, last := s.now, entries := entries }] })
      (bump (cGrove 4) s)

/-- A lease entry waits for the buddy. -/
def mirrorWaits (i v : Nat) (s : State) : Bool := s.grv.mirrors.any (fun p => p.entries.contains (i, v))

end Sys2Proof.Machine
end

