-- ==== Sys2Proof/Machine/Energy.lean ====
section
/-!
DEFINITION. Machine/Energy.lean: the energy ledger of 03_energy_ledger.md: budgets, work classes, freezing, the reserve.
-/
namespace Sys2Proof.Machine

/-- Energy metered since the last reading (R65, R66): the period, NRG_TOTAL, the C0 share and the bough counters. -/
def meter (m : Meter) (s : State) : State :=
  let s := { s with nrg := { s.nrg with
    spent := s.nrg.spent + BitVec.ofNat 48 m.total, total := s.nrg.total + BitVec.ofNat 64 m.total,
    c0Spent := s.nrg.c0Spent + m.c0 } }
  let s := bumpBy (cDevice 0) m.total s
  foldS (fun (e : Nat × Nat) s => bumpBy (cBough e.2 0) e.1 s) (m.boughs.zipIdx) s

/-- The Grain's BUDGET_MIN. -/
def budgetMin (s : State) : Nat := s.grn.grain.energy.budgetMin

/-- The effective budget that NRG_LVL and NRG_BUDGET_HOST form (R63, R64). -/
def formBudget (s : State) : Nat :=
  let lvl := s.grn.grain.energy.level.getD s.nrg.lvlBalls.toNat 0
  max (if s.nrg.hostEn then min lvl s.nrg.hostUj.toNat else lvl) (budgetMin s)

/-- BUDGET_HOST_WRITE (R64): clamped, accepted, or denied to PF0 with the event 0x9014. A 32-bit write of one half is a write of the
register with the other half kept, and is judged like it (log entry 41). -/
def budgetHostWriteS (pf1 en : Bool) (uj : BitVec 48) (s : State) : State :=
  if !pf1 && s.grn.installed && !bitOf s.grn.grain.energy.flags 0 then
    emit .secure 0x9014 (srcTree 5) [] { s with nrg := { s.nrg with result := 0xF000 } }
  else
    let code : W16 := if en && decide (uj.toNat < budgetMin s) then 0x9010 else 0
    { s with nrg := { s.nrg with hostEn := en, hostUj := uj, result := code } }

/-- Meaning of BUDGET_HOST_WRITE. -/
def execBudgetHostWrite (pf1 en : Bool) (uj : BitVec 48) (s : State) : Host.Outcome State Fault Refusal :=
  act (budgetHostWriteS pf1 en uj) s

/-- µs from `now` to the end of the ledger period (R62). -/
def timeToPeriodEnd (s : State) : Nat :=
  let p := max 1 s.grn.grain.energy.periodSlots
  let left := p - s.slt.slot.toNat % p
  left * s.grn.grain.time.slotUs - (s.now - s.slt.edgeAt) / psUs

/-- E_pending (R69). -/
def ePending (s : State) : Nat := (s.nrg.admitted.map Job.eUj).sum

/-- The forecast with a job (R69), in pJ, so that nothing is rounded; P_C0 in µW. -/
def forecast (j : Job) (s : State) : Nat :=
  (s.nrg.spent.toNat + ePending s + j.eUj) * 1000000 + s.nrg.pC0 * timeToPeriodEnd s

/-- The admission test (R69). -/
def admits (j : Job) (s : State) : Bool :=
  if j.c2 then decide (forecast j s * 100 ≤ s.nrg.eff * 1000000 * (100 - s.grn.grain.energy.c2Headroom))
  else decide (forecast j s ≤ s.nrg.eff * 1000000)

/-- An admission point for a list of queued jobs in order: admitted jobs start, a C1 job that does not fit stays, a C2 job that does
not fit is shed and counted (R67, R69, R70). E_job is that of the Grain in force now. -/
def admitAll : List Job → State → State
  | [], s => s
  | j :: js, s =>
    let j := { j with eUj := (workEntry s j.kind).eUj }
    if admits j s then admitAll js { s with nrg := { s.nrg with admitted := s.nrg.admitted ++ [j] } }
    else if j.c2 then admitAll js (bump (cDevice 14) s)
    else admitAll js { s with nrg := { s.nrg with jobs := s.nrg.jobs ++ [j] } }

/-- The admission point: C1 before C2, first in, first out within a class. A job that does not fit holds back none behind it (log
entry 36). -/
def admissionPoint (s : State) : State :=
  let q := s.nrg.jobs.filter (fun j => !j.c2) ++ s.nrg.jobs.filter (fun j => j.c2)
  admitAll q { s with nrg := { s.nrg with jobs := [] } }

/-- A new job enters the queue (R69). Its class is that of its submission (log entry 36). -/
def queueJobAs (c2 : Bool) (act : JobAct) (kind : Nat) (bough : Option Nat) (s : State) : State :=
  let j : Job := { id := s.nrg.nextJob, kind := kind, c2 := c2, bough := bough, eUj := (workEntry s kind).eUj, act := act }
  { s with nrg := { s.nrg with jobs := s.nrg.jobs ++ [j], nextJob := s.nrg.nextJob + 1 } }

/-- A job of the class that the Grain's entry gives its kind. -/
def queueJob (kind : Nat) (bough : Option Nat) (s : State) : State := queueJobAs ((workEntry s kind).cls == 2) .none kind bough s

/-- P_C0 as the ledger last measured it (R69). -/
def measureC0 (pC0 : Nat) (s : State) : State := { s with nrg := { s.nrg with pC0 := pC0 } }

/-- The oldest admitted job of an act has ended (R69). -/
def jobDone (a : JobAct) (s : State) : State :=
  { s with nrg := { s.nrg with admitted := s.nrg.admitted.eraseP (fun j => j.act == a) } }

/-- An admitted job of an act has not begun. -/
def jobReady (a : JobAct) (s : State) : Bool := s.nrg.admitted.any (fun j => j.act == a && !j.begun)

/-- The oldest admitted job of an act that has not begun begins. -/
def jobBegin (a : JobAct) (s : State) : State :=
  let i := s.nrg.admitted.findIdx (fun j => j.act == a && !j.begun)
  { s with nrg := { s.nrg with admitted := s.nrg.admitted.modify i (fun j => { j with begun := true }) } }

/-- WORK_JOB_END (R69, R71): the job leaves E_pending. -/
def workJobEndS (id : Nat) (s : State) : State :=
  { s with nrg := { s.nrg with admitted := s.nrg.admitted.filter (fun j => j.id != id) } }

/-- Meaning of WORK_JOB_END. -/
def execWorkJobEnd (id : Nat) (s : State) : Host.Outcome State Fault Refusal := act (workJobEndS id) s

/-- One queued job's wait across a boundary (R70): its deferral, and C1_OVERDUE with 0x9012 when it first passes MAX_DEFER. -/
def deferJob (j : Job) (s : State) : State :=
  let d := j.deferral + 1
  let late := !j.c2 && !j.overdue && decide ((workEntry s j.kind).maxDefer < d)
  let s := { s with nrg := { s.nrg with jobs := s.nrg.jobs ++ [{ j with deferral := d, overdue := j.overdue || late }] } }
  let s := if j.c2 then s else bump (cDevice 13) s
  if late then emit .fault 0x9012 (srcTree 5) [] { s with nrg := { s.nrg with c1Overdue := true } } else s

/-- The largest journal backlog of a hold-up declaration (R76); 0 where the energy does not reach. -/
def nMaxOf (holdupUj tpp : Nat) : Nat := (holdupUj * 4 / 5 - 930 - 10000) / (5 * (tpp + 100)) - 1

/-- t_FLUSH in µs (R76). -/
def tFlushUs (nMax tpp : Nat) : Nat := 5 + 2000 + (nMax + 1) * (tpp + 100)

/-- RESERVE_FULL follows PENDING and N_MAX (R77). -/
def reserveUpdate (s : State) : State :=
  { s with nrg := { s.nrg with reserveFull := decide (s.nrg.nMax ≤ s.nrg.pending) } }

/-- The new effective budget: NRG_LVL sampled, energy counters turned over (R62-R64). At the first installation no period has been
completed, so NRG_LAST_SPENT stays 0. -/
def budgetTurn (first : Bool) (s : State) : State :=
  let s := { s with nrg := { s.nrg with level := s.nrg.lvlBalls } }
  { s with nrg := { s.nrg with
    eff := formBudget s, lastSpent := if first then s.nrg.lastSpent else s.nrg.spent, spent := 0, c0Spent := 0 } }

/-- A ledger period boundary at a slot edge (R53 order 2, R62-R64, R68, R70; 20 R515). -/
def ledgerBoundary (s : State) : State :=
  let s := if s.nrg.eff < s.nrg.c0Spent then
      emit .info 0x9011 (srcTree 5) [] (bump (cDevice 12) { s with nrg := { s.nrg with overBudget := true } })
    else s
  let jobs := s.nrg.jobs
  let s := foldS deferJob jobs { s with nrg := { s.nrg with jobs := [] } }
  let s := telBoundary s
  let s := match s.grn.energyNext with
    | none => s
    | some e => { s with grn := { s.grn with energyNext := none, grain := { s.grn.grain with energy := e } } }
  budgetTurn false s

/-- `n` boundaries one after another with nothing between them (R52): from the third on only the jobs that wait notice. -/
def ledgerBoundaries (n : Nat) (s : State) : State :=
  if n = 0 then s
  else
    let s := ledgerBoundary s
    if n = 1 then s
    else
      let s := ledgerBoundary s
      if s.nrg.jobs = [] then s else Nat.repeat ledgerBoundary (n - 2) s

/-- The ledger periods that begin in the slots of (lo, hi] (R52, R62). -/
def boundariesIn (lo hi p : Nat) : Nat := if p = 0 then 0 else hi / p - lo / p

/-- The custody bough that hashes and verifies for a domain (07 R171, Coincidences; 15 R420): the next one that its policy names once the
first is fenced, or its Burl engine. -/
def custodyBough (x : CusDom) (s : State) : Nat :=
  let a := fieldLe x.pol 3 1
  let b := fieldLe x.pol 4 1
  if ((boughNrg a s).power = .fenced ∨ (tget {} s.brl.eng a).fenced) ∧ b ≠ 0xFF then b else a

/-- Custody work of the domain is queued or runs at its custody bough: hashing, or a signature job of an attempt or of an update window. -/
def custodyDue (x : CusDom) : Bool :=
  x.step == .table || x.step == .body || x.upd.sigDue || x.closed != []

/-- Custody work at a bough (R72, R73). -/
def custodyAt (b : Nat) (s : State) : Bool := s.cus.dom.any (fun e => custodyDue e.2 && custodyBough e.2 s == b)

/-- Admitted work is assigned to the bough, or C0 work is queued or running in its sap unit, Burl engine or DMA engine (R72). Every
request of a leaf and every job at the engine counts as such work, whatever asked for it (log entry 36). -/
def boughBusy (b : Nat) (s : State) : Bool :=
  s.nrg.admitted.any (fun j => j.bough == some b) || (boughNrg b s).c0 != 0 || custodyAt b s
    || (tget {} s.brl.eng b).ports != []
    || s.lvs.leaf.any (fun e => e.1 / 16 == b && (e.2.xfer.isSome || e.2.tags.any (fun t => t.2.req.isSome)))

/-- C0 work that the Taproot or the custody block submits to a bough, and its end (R72, R73). -/
def c0Begin (b : Nat) (s : State) : State := modBough b (fun x => { x with c0 := x.c0 + 1 }) s
/-- Its end. -/
def c0End (b : Nat) (s : State) : State := modBough b (fun x => { x with c0 := x.c0 - 1 }) s

/-- A frozen bough has to thaw: a lane move, a re-grain or a tamper response needs it (R73). -/
def needThaw (b : Nat) (s : State) : State :=
  if (boughNrg b s).power = .frozen then modBough b (fun x => { x with thawDue := true }) s else s

/-- Something needs the frozen bough (R73, R74). -/
def thawNeeded (b : Nat) (s : State) : Bool :=
  let x := boughNrg b s
  x.thawDue || x.c0 != 0 || custodyAt b s || x.queued != [] || (tget {} s.brl.eng b).ports != [] || s.nrg.admitted.any (fun j => j.bough == some b)

/-- The installed Grain marks the bough freezable (R72). -/
def boughFreezable (b : Nat) (s : State) : Bool := s.grn.installed && (s.grn.grain.boughs.getD b {}).freezable == 1

/-- A leaf of the bough stands as a Canopy lane, an MKA leaf or an escape leaf: after a move to its spare, since the rule lets no
bough with one be marked freezable (R72; log entry 36). -/
def boughOnDuty (b : Nat) (s : State) : Bool :=
  s.lvs.leaf.any (fun e => e.1 / 16 == b && e.2.released && decide (1 ≤ e.2.role ∧ e.2.role ≤ 3))

/-- BOUGH_FREEZE (R72). -/
def boughFreezeS (b : Nat) (s : State) : State :=
  if boughFreezable b s && boughRuns b s && !boughBusy b s && !boughOnDuty b s then
    bump (cBough b 10) (modBough b (fun x => { x with power := .frozen }) s)
  else s

/-- Meaning of BOUGH_FREEZE. -/
def execBoughFreeze (b : Fin 12) (s : State) : Host.Outcome State Fault Refusal := act (boughFreezeS b) s

end Sys2Proof.Machine
end

