-- ==== Sys2Proof/Machine/GrainParse.lean ====
section
/-!
DEFINITION. Machine/GrainParse.lean: the bytes of a Grain bundle read into the record Grain (13 R346, R350-R358).
-/
namespace Sys2Proof.Machine

/-- A directory entry (R346). -/
structure DirEntry where
  typ : Nat
  scope : Nat
  off : Nat
  len : Nat
  version : Nat
deriving DecidableEq, Repr

/-- The head's fixed fields. -/
structure HeadFields where
  svn : Nat
  seq : Nat
  baseSeq : Nat
  blocks : Nat
  sections : Nat
  flags : Nat
  target : Bytes
  bodyLen : Nat
deriving DecidableEq, Repr

/-- Fixed fields of a head block (R346). -/
def headFields (h : Bytes) : HeadFields :=
  { svn := fieldLe h 6 2, seq := fieldLe h 8 8, baseSeq := fieldLe h 0x10 8, blocks := fieldLe h 0x18 2,
    sections := fieldLe h 0x1A 2, flags := fieldLe h 0x1C 4, target := slice h 0x20 16, bodyLen := fieldLe h 0x30 4 }

/-- PARTIAL of the head. -/
def HeadFields.isPartial (f : HeadFields) : Bool := bitOf f.flags 0
/-- SVN_COMMIT of the head. -/
def HeadFields.commit (f : HeadFields) : Bool := bitOf f.flags 1

/-- Digest entry of body block `k` (R346). -/
def headDigestOf (h : Bytes) (k : Nat) : Bytes := slice h (0x1000 + 48 * (k - 1)) 48

/-- The directory (R346). -/
def directory (h : Bytes) : List DirEntry :=
  (List.range (headFields h).sections).map (fun i =>
    let o := 0x100 + 16 * i
    { typ := fieldLe h o 2, scope := fieldLe h (o + 2) 2, off := fieldLe h (o + 4) 4, len := fieldLe h (o + 8) 4,
      version := fieldLe h (o + 12) 2 })

/-- The head's fixed form: MAGIC, FORMAT, ranges, reserved bytes and unused entries zero (R346). -/
def headForm (h : Bytes) : Bool :=
  let f := headFields h
  slice h 0 4 == [0x47, 0x52, 0x4E, 0x31] && fieldLe h 4 2 == 1 && decide (f.svn ≤ 256) && decide (1 ≤ f.seq)
    && decide (1 ≤ f.sections) && decide (f.sections ≤ 64) && decide (f.flags < 4) && decide (1 ≤ f.blocks)
    && allZero (slice h 0x34 204) && allZero (slice h (0x100 + 16 * f.sections) (16 * (64 - f.sections)))
    && allZero (slice h 0x500 2816) && allZero (slice h (0x1000 + 48 * (f.blocks - 1)) (48 * (512 - f.blocks)))
    && allZero (slice h 0x6FD0 48) && (f.isPartial || f.baseSeq == 0)

/-- A section's bytes of the body. -/
def sectionBytes (body : Bytes) (e : DirEntry) : Bytes := slice body e.off e.len

/-- The first section of a type. -/
def findSection (dir : List DirEntry) (body : Bytes) (typ : Nat) : Option Bytes :=
  (dir.find? (fun e => e.typ == typ)).map (sectionBytes body)

/-- `n` records of `len` bytes from `off`. -/
def records (b : Bytes) (off len n : Nat) : List Bytes := (List.range n).map (fun i => slice b (off + len * i) len)

/-- A bough record (R351). -/
def parseBough (b : Bytes) : BoughRec :=
  { power := fieldLe b 0 1, freezable := fieldLe b 1 1, chkOwner := fieldLe b 2 1,
    leaves := (records b 0x10 4 16).map (fun r =>
      { role := fieldLe r 0 1, spare := fieldLe r 1 1, program := fieldLe r 2 2 }) }

/-- A MEMORY record (R352). -/
def parsePart (b : Bytes) (i : Nat) : Part := { base := fieldLe b (16 * i) 8, bytes := fieldLe b (16 * i + 8) 8 }

/-- MEMORY (R352). -/
def parseMemory (b : Bytes) : GMemory :=
  { ring := parsePart b 0, spill := parsePart b 1, shadows := parsePart b 2, work := parsePart b 3, stage := parsePart b 4 }

/-- A value, or its default where the field holds 0 (R549). -/
def orDefault (v d : Nat) : Nat := if v = 0 then d else v

/-- TIME (R353, R549). -/
def parseTime (b : Bytes) : GTime :=
  { epochSec := fieldLe b 0 8, epochNs := fieldLe b 8 4, slotUs := fieldLe b 12 4,
    holdoverS := orDefault (fieldLe b 16 4) 900, phaseSrc := fieldLe b 20 1, fallback := fieldLe b 21 1,
    ref10m := fieldLe b 22 1, todMax := fieldLe b 23 1, ptpPort := fieldLe b 24 1, ptpLport := fieldLe b 25 1,
    ptpDomain := fieldLe b 26 1 }

/-- ENERGY (R353, R549). -/
def parseEnergy (b : Bytes) : GEnergy :=
  { periodSlots := fieldLe b 0 4, level := (List.range 4).map (fun i => fieldLe b (4 + 8 * i) 8),
    budgetMin := fieldLe b 36 8, flags := fieldLe b 44 1, c2Headroom := fieldLe b 45 1, holdupUj := fieldLe b 48 4,
    keepTpp := orDefault (fieldLe b 52 4) 1500,
    work := (records b 72 8 16).map (fun r => { eUj := fieldLe r 0 4, maxDefer := fieldLe r 4 2, cls := fieldLe r 6 1 }) }

/-- A SECY record (R354). -/
def parseSecy (r : Bytes) : GSecy :=
  { present := fieldLe r 0 1, suite := fieldLe r 1 1, conf := fieldLe r 2 1, sci := fieldLe r 3 1,
    validate := fieldLe r 4 1, replay := fieldLe r 6 2, mkaLeaf := fieldLe r 8 1, cakSlot := fieldLe r 10 2 }

/-- PORTS (R354). -/
def parsePorts (b : Bytes) : List GPort :=
  (records b 0 80 16).map (fun r =>
    { mode := fieldLe r 0 1, elec := fieldLe r 1 1, pair := fieldLe r 2 1, outer := fieldLe r 3 1, prot := fieldLe r 4 1,
      fwd := fieldLe r 5 1, flow := fieldLe r 6 1, pfcMask := fieldLe r 7 1, cableM := fieldLe r 8 2,
      tRNs := fieldLe r 10 2, mkaRing := fieldLe r 12 4, secy := (records r 16 16 4).map parseSecy })

/-- SIEVE (R354). -/
def parseSieve (b : Bytes) : GSieve :=
  { entries := (records b 0 2052 16).map (fun p => records p 4 32 (min 64 (fieldLe p 0 1))),
    templates := records b (16 * 2052) 128 64 }

/-- CUSTODY (R355, R549). -/
def parseCustody (b : Bytes) : GCustody :=
  let mask := fieldLe b 0 4
  let ds := (List.range 32).filter (fun d => bitOf mask d)
  { spacingMs := orDefault (fieldLe b 4 2) 50,
    domains := ds.zipIdx.map (fun (e : Nat × Nat) =>
      (e.1, { policy := slice b (16 + 1280 * e.2) 256, filter := slice b (16 + 1280 * e.2 + 256) 1024 })) }

/-- CANOPY (R356, R549; the defaults are those of R248 and R290). -/
def parseCanopy (b : Bytes) : GCanopy :=
  { idBase := fieldLe b 0 8, idCount := fieldLe b 8 4, fleetSlot := fieldLe b 12 2, missLimit := orDefault (fieldLe b 14 1) 8,
    leaseStep := orDefault (fieldLe b 16 4) 1024, leapGap := orDefault (fieldLe b 20 2) 64, imageWait := fieldLe b 22 2,
    dlTtl := orDefault (fieldLe b 24 4) 8640000, imagePeriod := fieldLe b 28 4, laneRing := fieldLe b 32 4,
    spillBytes := fieldLe b 36 8,
    reinMark := (List.range 3).map (fun i => orDefault (fieldLe b (44 + 2 * i) 2) (250 * (i + 1))),
    reinHyst := orDefault (fieldLe b 50 2) 100, joinMark := orDefault (fieldLe b 52 2) 750,
    reinGap := orDefault (fieldLe b 54 2) 100, reinHold := fieldLe b 56 2, reinRate := orDefault (fieldLe b 58 4) 100000,
    cls := (records b 68 4 16).map (fun r => { rx1 := fieldLe r 0 1, rx2 := fieldLe r 1 2, lead := fieldLe r 3 1 }),
    laneTable := slice b 132 1024, channelMap := slice b 1156 1024,
    laneSpare := (List.range 192).map (fun i => fieldLe b (2180 + 2 * i) 2),
    recCh := (records b 2564 16 16).map (fun r =>
      { port := fieldLe r 0 1, lport := fieldLe r 1 1, vlan := fieldLe r 2 2, da := slice r 4 6 }) }

/-- SLOT_POLICY (R356). -/
def parseSlotPolicy (b : Bytes) : List GSlotPol :=
  (records b 4 16 (fieldLe b 0 2)).map (fun r =>
    { first := fieldLe r 0 2, num := fieldLe r 2 2, types := BitVec.ofNat 16 (fieldLe r 4 2),
      usages := BitVec.ofNat 16 (fieldLe r 6 2), dest := BitVec.ofNat 8 (fieldLe r 8 1),
      flags := BitVec.ofNat 8 (fieldLe r 9 1), boughs := BitVec.ofNat 16 (fieldLe r 10 2) })

/-- SIGNERS (R356). -/
def parseSigners (b : Bytes) : GSigners :=
  { grainRule := fieldLe b 0 1, ownerRule := fieldLe b 1 1, ownerMask := BitVec.ofNat 8 (fieldLe b 2 1) }

/-- GROVE (R356). -/
def parseGrove (b : Bytes) : List GMember :=
  (records b 8 32 (fieldLe b 0 1)).map (fun r => { fuseId := slice r 0 16, idBase := fieldLe r 16 8, idCount := fieldLe r 24 4 })

/-- A PROGRAM section (R357). -/
def parseProgram (b : Bytes) : GProgram :=
  { imem := slice b 16 (fieldLe b 4 4), dmem := slice b (16 + fieldLe b 4 4) (fieldLe b 8 4) }

/-- The PROGRAM sections of a directory, by ID. -/
def parsePrograms (dir : List DirEntry) (body : Bytes) : Tab GProgram :=
  (dir.filter (fun e => e.typ == 0x0E)).foldl (fun t e => tset { } t e.scope (parseProgram (sectionBytes body e))) []

/-- A full Grain from its head and body. -/
def parseFull (head body : Bytes) : Grain :=
  let f := headFields head
  let dir := directory head
  let sec := fun t => (findSection dir body t).getD []
  { svn := f.svn, seq := f.seq, baseSeq := 0, blocks := f.blocks, partialG := false, svnCommit := f.commit,
    targetId := f.target, pf1 := fieldLe (sec 1) 0 1, boughs := (records (sec 1) 16 80 12).map parseBough,
    memory := parseMemory (sec 3), time := parseTime (sec 4), energy := parseEnergy (sec 5),
    ports := (findSection dir body 6).map parsePorts, sieve := ((findSection dir body 7).map parseSieve).getD {},
    custody := ((findSection dir body 8).map parseCustody).getD {},
    ckptPeriodS := ((findSection dir body 9).map (fun b => orDefault (fieldLe b 0 4) 86400)).getD 86400,
    canopy := (findSection dir body 0x0A).map parseCanopy, slotPolicy := parseSlotPolicy (sec 0x0B),
    signers := parseSigners (sec 0x0C), grove := (findSection dir body 0x0D).map parseGrove,
    programs := parsePrograms dir body, amendments := sec 0x0F }

/-- A partial Grain laid over the installed one (R360): its bough records and programs replace those. -/
def parsePartial (base : Grain) (head body : Bytes) : Grain :=
  let f := headFields head
  let dir := directory head
  let bs := dir.filter (fun e => e.typ == 2)
  { base with
    svn := f.svn, seq := f.seq, baseSeq := f.baseSeq, blocks := f.blocks, partialG := true, svnCommit := f.commit,
    targetId := f.target,
    boughs := bs.foldl (fun l e => l.set e.scope (parseBough (sectionBytes body e))) base.boughs,
    programs := tmerge {} base.programs (parsePrograms dir body) }

/-- The section types of R350. -/
def typeKnown (t : Nat) : Bool := decide (1 ≤ t ∧ t ≤ 0x0F)

/-- SIEVE's counts (R325): at most 64 entries a port, and entries at and above COUNT zero. -/
def sieveCountsOk (b : Bytes) : Bool :=
  (List.range 16).all (fun i =>
    let n := fieldLe b (2052 * i) 1
    decide (n ≤ 64) && allZero (slice b (2052 * i + 1) 3) && allZero (slice b (2052 * i + 4 + 32 * n) (32 * (64 - n))))

/-- The length that a section's layout gives (R347, R351-R358), and SIEVE's counts. -/
def lengthOk (e : DirEntry) (b : Bytes) : Bool :=
  match e.typ with
  | 1 => e.len == 976 | 2 => e.len == 80 | 3 => e.len == 80 | 4 => e.len == 32 | 5 => e.len == 200
  | 6 => e.len == 1280 | 7 => e.len == 16 * 2052 + 64 * 128 && sieveCountsOk b
  | 8 => e.len == 16 + 1280 * ((List.range 32).filter (fun d => bitOf (fieldLe b 0 4) d)).length
  | 9 => e.len == 16 | 0x0A => e.len == 3140 | 0x0B => e.len == 4 + 16 * fieldLe b 0 2 | 0x0C => e.len == 16
  | 0x0D => e.len == 8 + 32 * fieldLe b 0 1
  | 0x0E => e.len == 16 + fieldLe b 4 4 + fieldLe b 8 4
  | 0x0F => decide (0x88 ≤ e.len)
  | _ => false

/-- No two of the ranges overlap. -/
def disjointRanges : List (Nat × Nat) → Bool
  | [] => true
  | (a, n) :: t => t.all (fun r => decide (a + n ≤ r.1 ∨ r.1 + r.2 ≤ a ∨ n = 0 ∨ r.2 = 0)) && disjointRanges t

/-- No two equal members. -/
def noDup : List Nat → Bool
  | [] => true
  | a :: t => !t.contains a && noDup t

/-- The bundle's section rules (R346, R347, R350). -/
def sectionsOk (head body : Bytes) : Bool :=
  let f := headFields head
  let dir := directory head
  headForm head
    && dir.all (fun e => decide (e.off + e.len ≤ f.bodyLen) && e.off % 8 == 0 && e.version == 1 && typeKnown e.typ
         && lengthOk e (sectionBytes body e) && (e.typ == 2 || e.typ == 0x0E || e.scope == 0)
         && (e.typ != 0x0E || fieldLe (sectionBytes body e) 0 2 == e.scope) && (e.typ != 2 || decide (e.scope < 12)))
    && disjointRanges (dir.map (fun e => (e.off, e.len)))
    && noDup ((dir.filter (fun e => e.typ != 2 && e.typ != 0x0E)).map (·.typ))
    && noDup ((dir.filter (fun e => e.typ == 2)).map (·.scope))
    && noDup ((dir.filter (fun e => e.typ == 0x0E)).map (·.scope))
    && (f.isPartial || (!(dir.any (fun e => e.typ == 2))
         && [1, 3, 4, 5, 0x0B, 0x0C].all (fun t => dir.any (fun e => e.typ == t))))
    && decide (f.bodyLen ≤ body.length)

/-- A partial Grain holds only BOUGH and PROGRAM sections (R350). -/
def partialTypesOk (head : Bytes) : Bool := (directory head).all (fun e => e.typ == 2 || e.typ == 0x0E)

/-- PROGRAM lengths (R357). -/
def programOk (p : GProgram) : Bool :=
  p.imem.length % 4 == 0 && decide (4 ≤ p.imem.length) && decide (p.imem.length ≤ 65536) && p.dmem.length % 4 == 0
    && decide (p.dmem.length ≤ 65536)

/-- Roles of R351. -/
def roleIdle : Nat := 0
/-- Canopy lane. -/
def roleLane : Nat := 1
/-- MKA. -/
def roleMka : Nat := 2
/-- Cambium escape. -/
def roleEscape : Nat := 3
/-- Telemetry reduction. -/
def roleTelemetry : Nat := 4
/-- Spare. -/
def roleSpare : Nat := 5

/-- The bough records' rules (18 in 01; R72, R347, R351). -/
def boughOk (g : Grain) (r : BoughRec) : Bool :=
  decide (r.power ≤ 1) && decide (r.freezable ≤ 1)
    && r.leaves.all (fun l => decide (l.role ≤ 5) && (decide (l.spare < 192) || l.spare == 0xFF)
         && (l.role != roleLane || l.spare == 0xFF)
         && (if l.role = roleIdle ∨ l.role = roleSpare then l.program == 0xFFFF
             else decide ((g.programs.find? (fun p => p.1 == l.program)).isSome))
         && (r.power == 1 || l.role == roleIdle))
    && (r.chkOwner == 0xFF || (decide (r.chkOwner < 16) && (r.leaves.getD r.chkOwner {}).role != roleIdle))
    && (r.freezable == 0 || r.leaves.all (fun l => l.role != roleLane && l.role != roleMka && l.role != roleEscape))

/-- The TIME section's ranges (R38, R44, R353). -/
def timeOk (t : GTime) : Bool :=
  decide (250 ≤ t.slotUs ∧ t.slotUs ≤ 100000) && decide (10 ≤ t.holdoverS ∧ t.holdoverS ≤ 86400)
    && (t.phaseSrc == 1 || t.phaseSrc == 2) && (t.fallback == 0 || t.fallback == 3 - t.phaseSrc) && decide (t.ref10m ≤ 1)
    && decide (t.todMax ≤ 254) && decide (t.ptpPort < 16) && decide (t.ptpLport < 4) && decide (t.ptpDomain ≤ 127)
    && decide (t.epochNs < 1000000000)

/-- The ENERGY section's ranges (R62, R69, R75, R353); N_MAX is checked with it (R76). -/
def energyOk (slotUs : Nat) (e : GEnergy) : Bool :=
  decide (1 ≤ e.periodSlots ∧ e.periodSlots ≤ 16777215) && decide (10000 ≤ e.periodSlots * slotUs)
    && decide (e.periodSlots * slotUs ≤ 3600000000) && decide (e.c2Headroom ≤ 50) && decide (e.flags < 2)
    && decide (40000 ≤ e.holdupUj ∧ e.holdupUj ≤ 10000000) && decide (100 ≤ e.keepTpp ∧ e.keepTpp ≤ 5000)
    && decide (2 ≤ (e.holdupUj * 4 / 5 - 930 - 10000) / (5 * (e.keepTpp + 100)))
    && ((e.work.take 11).all (fun w => w.cls == 1 || w.cls == 2))
    && ((e.work.drop 11).all (fun w => w.eUj == 0 && w.maxDefer == 0 && w.cls == 0))

/-- SLOT_POLICY: entries within 64 to 4,095 and disjoint (R356). -/
def slotPolicyOk (l : List GSlotPol) : Bool :=
  l.all (fun e => decide (64 ≤ e.first) && decide (e.first + e.num ≤ 4096)) && disjointRanges (l.map (fun e => (e.first, e.num)))

/-- SIGNERS (R356). -/
def signersOk (g : GSigners) : Bool := decide (g.grainRule ≤ 2) && decide (g.ownerRule ≤ 2)

/-- ROM_ID of stepping B1 (R358). -/
def romId : Nat := 0x00000B01

/-- AMENDMENTS' form (R358). -/
def amendOk (b : Bytes) : Bool :=
  b == [] || (fieldLe b 0 4 == romId && decide (1 ≤ fieldLe b 4 1) && decide (fieldLe b 4 1 ≤ 16) && allZero (slice b 5 3)
    && (records b 8 8 (fieldLe b 4 1)).all (fun p => decide (fieldLe p 0 1 ≤ 15)))

/-- End of AMENDMENTS' patch code: the signature structure begins at the next multiple of 4 (R358). -/
def amendCodeEnd (b : Bytes) : Nat :=
  let ps := records b 8 8 (fieldLe b 4 1)
  let e := ps.foldl (fun m p => max m (fieldLe p 4 4 + fieldLe p 2 2)) 0x88
  (e + 3) / 4 * 4

end Sys2Proof.Machine
end

