-- ==== Sys2Proof/Machine/Sig.lean ====
section
/-!
DEFINITION. Machine/Sig.lean: the signature structure of 13_grain.md R348 and the rules CLASSICAL, QUANTUM and DUAL.
-/
namespace Sys2Proof.Machine

/-- One key of a SIGNED structure with its signature; an absent signature is empty. -/
structure SigKey where
  alg : Nat
  key : Bytes
  sig : Bytes
deriving DecidableEq, Repr

/-- A SIGNED structure: its key block's bytes and its keys. -/
structure Signed where
  keyblock : Bytes
  keys : List SigKey
deriving DecidableEq, Repr

/-- `n` entries ALG (2), LEN (2), value, zeros to a multiple of 4. -/
def sigEntries : Nat → Bytes → List (Nat × Bytes)
  | 0, _ => []
  | n + 1, b =>
    let len := fieldLe b 2 2
    (fieldLe b 0 2, slice b 4 len) :: sigEntries n (b.drop ((4 + len + 3) / 4 * 4))

/-- The structure, when its MAGIC, KEYS, algorithms and order are right. -/
def parseSigned (b : Bytes) : Option Signed :=
  let n := fieldLe b 4 1
  let kbl := fieldLe b 6 2
  let kb := slice b 8 kbl
  let ks := sigEntries n kb
  let ss := sigEntries n (b.drop (8 + kbl))
  if slice b 0 4 = [0x53, 0x49, 0x47, 0x31] ∧ 1 ≤ n ∧ n ≤ 3 ∧ fieldLe b 5 1 = 0
      ∧ ks.all (fun k => decide (1 ≤ k.1 ∧ k.1 ≤ 3)) ∧ (ks.map (·.1)).Nodup ∧ ss.map (·.1) = ks.map (·.1) then
    some { keyblock := kb, keys := List.zipWith (fun k g => { alg := k.1, key := k.2, sig := g.2 }) ks ss }
  else none

/-- ECDSA P-384 with SHA-384 of the covered bytes. -/
def verifyP384 (key msg sig : Bytes) : Bool :=
  key.length == 97 && key.head? == some 4 && sig.length == 96
    && ecdsaVerify curveP384 (fieldBe key 1 48) (fieldBe key 49 48) (sha384 msg) (fieldBe sig 0 48) (fieldBe sig 48 48)

/-- One signature over the covered bytes (R348). -/
def verifySig (k : SigKey) (msg : Bytes) : Bool :=
  match k.alg with
  | 1 => verifyP384 k.key msg k.sig
  | 2 => dsaVerify dsa87 k.key (dsaMsg [] msg) k.sig
  | 3 => lmsVerify k.key msg k.sig
  | _ => false

/-- Digest of the key block (R348). -/
def Signed.digest (g : Signed) : Bytes := sha384 g.keyblock

/-- The algorithms whose signatures are present and verify. -/
def verifiedAlgs (g : Signed) (msg : Bytes) : List Nat :=
  (g.keys.filter (fun k => k.sig != [] && verifySig k msg)).map (·.alg)

/-- Every declared signature is present and verifies (R349). -/
def allVerify (g : Signed) (msg : Bytes) : Bool := g.keys.all (fun k => k.sig != [] && verifySig k msg)

/-- A rule (0 CLASSICAL, 1 QUANTUM, 2 DUAL) is met by the verified algorithms (R348). -/
def ruleMet (rule : Nat) (algs : List Nat) : Bool :=
  let c := algs.contains 1
  let q := algs.contains 2 || algs.contains 3
  match rule with
  | 0 => c
  | 1 => q
  | _ => c && q

end Sys2Proof.Machine
end

