-- ==== Sys2Proof/Machine/Startup.lean ====
section
/-!
DEFINITION. Machine/Startup.lean: start-up and the pushed Grain (04_start_up.md): clock lock, entropy timeout, DRAM, the
helper bough, the push session over PCIe and I3C, and the tests of a Grain's head and blocks.
-/
namespace Sys2Proof.Machine

/-- PHASE's number as TAP_BOOT_STAT shows it. -/
def BootPhase.num : BootPhase → Nat
  | .rom => 1 | .fuses => 2 | .entropy => 3 | .dram => 4 | .helper => 5 | .waitGrain => 6 | .verify => 7
  | .install => 8 | .boughs => 9 | .custody => 10 | .running => 11 | .stopped => 0xFF

/-- LCS's number. -/
def Lcs.num : Lcs → Nat
  | .seed => 0 | .sapling => 1 | .grafted => 2 | .standing => 3 | .returned => 4 | .felled => 5

/-- A new start-up PHASE, with the µs from t0 at which it began (TAP_BOOT_US). -/
def setPhase (p : BootPhase) (s : State) : State :=
  let us := (s.now - s.boot.t0) / psUs
  { s with boot := { s.boot with phase := p, phaseUs := BitVec.ofNat 32 (min us 0xFFFFFFFF) } }

/-- Start-up stops (PHASE STOPPED). -/
def stopBoot (s : State) : State := setPhase .stopped { s with boot := { s.boot with stopped := true } }

/-- A start-up failure or notice code (TAP_BOOT_STAT.RESULT) with its event. -/
def bootCode (cls : EvClass) (code : W16) (src : W16) (s : State) : State :=
  emit cls code src [] { s with boot := { s.boot with result := code } }

/-- CORE_CLOCK_LOCK (R82 step 2): the ROM starts, the monitors are stimulated (18 R476), and the noise sources start their startup tests
together (R146). -/
def coreClockLockS (t : Nat) (s : State) : State :=
  let s := atTime t s
  if !s.boot.pwrgood || s.boot.romRunning || s.boot.stopped then s
  else
    let s := { s with ent := { s.ent with src := [0, 1, 2, 3].foldl (fun t i => tset {} t i { startup := 1 }) [] } }
    let s : State := { s with tmp := { s.tmp with stimLeft := List.range 16, stimDone := 0, stimPass := 0 } }
    setPhase .entropy { s with boot := { s.boot with romRunning := true } }

/-- Meaning of CORE_CLOCK_LOCK. -/
def execCoreClockLock (t : Nat) (s : State) : Host.Outcome State Fault Refusal := act (coreClockLockS t) s

/-- ENTROPY_TIMEOUT (R87): start-up goes on keyless, with DRAM disabled, so that no Grain can be installed. -/
def entropyTimeoutS (t : Nat) (s : State) : State :=
  let s := atTime t s
  if s.boot.phase = .entropy then
    setPhase .helper (bootCode .fault 0x1002 (srcTree 3) { s with boot := { s.boot with keyless := true, dramOff := true } })
  else s

/-- Meaning of ENTROPY_TIMEOUT. -/
def execEntropyTimeout (t : Nat) (s : State) : Host.Outcome State Fault Refusal := act (entropyTimeoutS t) s

/-- DRAM_TRAINING_DONE (R86, R89): a populated channel that fails its first and its second training is disabled with one event; a start
without a channel stops after step 9 (HELPER_BOUGH_START), and in SEED the ROM stops here. -/
def dramTrainingDoneS (t : Nat) (c : DramTry) (gib : List Nat) (s : State) : State :=
  let s := atTime t s
  if s.boot.phase ≠ .dram then s
  else
    let trained := c.populated &&& (c.first ||| c.second)
    let s := { s with boot := { s.boot with dramTrained := trained, dramGib := gib, romRegion := trained != 0 } }
    let s := foldS (fun n s => if c.populated.getLsbD n && !trained.getLsbD n then emit .fault 0x1003 (srcTree (7 + n)) [] s else s)
      [0, 1, 2, 3] s
    let s : State := if trained = 0 then { s with boot := { s.boot with result := 0x1003 } } else s
    if s.boot.lcs = .seed then stopBoot s else setPhase .helper s

/-- Meaning of DRAM_TRAINING_DONE. -/
def execDramTrainingDone (t : Nat) (c : DramTry) (gib : List Nat) (s : State) :
    Host.Outcome State Fault Refusal :=
  act (dramTrainingDoneS t c gib) s

/-- DRAM trained and is in use (R87, R89): without it there is no ROM region, and no Grain arrives. -/
def dramUp (s : State) : Bool := s.boot.dramTrained != 0 && !s.boot.dramOff

/-- HELPER_BOUGH_START (R91): the lowest bough that passes serves the Taproot; if none passes, start-up stops. Where no DRAM channel
trained, step 9 has no ROM region to verify an image in, and start-up stops behind it with D00 held (R89, R90). -/
def helperBoughStartS (t : Nat) (ok : Bool) (s : State) : State :=
  let s := atTime t s
  if s.boot.phase ≠ .helper then s
  else
    let b := s.boot.helperTried
    if ok then
      let s := modBough b (fun x => { x with power := .running }) s
      let s : State := { s with boot := { s.boot with helper := some b, helperTried := b + 1 } }
      if s.boot.dramTrained = 0 ∧ s.boot.dramOff = false then stopBoot s else setPhase .waitGrain s
    else
      let s := bootCode .fault 0x1022 (srcBough b) (modBough b (fun x => { x with power := .off }) s)
      let s := { s with boot := { s.boot with helperTried := b + 1 } }
      if b + 1 ≥ 12 then stopBoot s else s

/-- Meaning of HELPER_BOUGH_START. -/
def execHelperBoughStart (t : Nat) (ok : Bool) (s : State) : Host.Outcome State Fault Refusal := act (helperBoughStartS t ok) s

/-! ### The push session (R98-R105) -/

/-- Replace the push session. -/
def setPush (p : Push) (s : State) : State := { s with grn := { s.grn with push := p } }

/-- A session is open: OPEN, HEAD_OK or COMPLETE. -/
def Push.isOpen (p : Push) : Bool := decide (1 ≤ p.state ∧ p.state ≤ 3)

/-- The session without its blocks: staging emptied, no frame posted (R102). -/
def Push.emptied (p : Push) : Push :=
  { p with
           staging := [], frames := (p.frames.map (fun e => (e.1, { e.2 with posted := none }))).filter (fun e => e.2 != {}),
           i3cFrame := { p.i3cFrame with posted := none }, accepted := 0, total := 0, nextPost := 0 }

/-- The class of a code that ends a session (20 R520). -/
def pushClass (code : W16) : EvClass :=
  if code = 0x1010 ∨ code = 0x1017 ∨ code = 0x101A ∨ code = 0x1027 then .info else .secure

/-- A session that ends before installation leaves the source waiting for the next attempt (R111). -/
def phaseBack (s : State) : State :=
  if s.boot.phase = .verify ∨ s.boot.phase = .install then setPhase .waitGrain s else s

/-- A session ends with a code: FAILED, staging emptied, the code in RESULT (R101-R103, R111). -/
def endPush (code : W16) (s : State) : State :=
  let s := setPush { s.grn.push.emptied with state := 5, result := code } s
  let s := if s.grn.installed then s else phaseBack { s with boot := { s.boot with result := code } }
  emit (pushClass code) code (srcTree 0) [] s

/-- A push can open: the straps, the life-cycle state and DRAM allow it (R81, R86, R87, R89, 13 R361). -/
def pushAllowed (s : State) : Bool :=
  s.boot.pwrgood && !s.boot.stopped && !s.boot.dramOff && s.boot.src != 2 && (s.grn.installed || s.boot.src != 3)

/-- The bough whose units verify a Grain for the Taproot: the helper bough, or after installation the lowest-numbered running bough
when the helper is powered down (R91, 13 R361). -/
def grainBough (s : State) : Option Nat :=
  if s.boot.stopped || !(s.grn.installed || dramUp s) then none
  else match s.boot.helper with
    | some b => some b
    | none => if s.grn.installed then (List.range 12).find? (fun b => boughRuns b s) else none

/-- PUSH_START (R100, R105, 13 R361): opens a session of this interface, or PUSH_BUSY. A write carries STORE. -/
def pushStartS (i3c store : Bool) (s : State) : State :=
  let p := s.grn.push
  if !pushAllowed s then s
  else if (p.isOpen && (p.iface != i3c || p.source == 2)) then
    emit .info 0x101A (srcTree 0) [] (setPush { p with result := 0x101A } s)
  else setPush { p.emptied with state := 1, iface := i3c, store := store, source := b2n i3c } s

/-- Meaning of PUSH_START. -/
def execPushStart (i3c store : Bool) (s : State) : Host.Outcome State Fault Refusal := act (pushStartS i3c store) s

/-- PUSH_ABORT (R102): the owner ends its session; STATE IDLE, RESULT 0. -/
def pushAbortS (i3c store : Bool) (s : State) : State :=
  let p := s.grn.push
  if p.isOpen && p.iface == i3c && decide (p.source ≤ 1) then
    phaseBack (setPush { p.emptied with state := 0, result := 0, store := store } s)
  else s

/-- Meaning of PUSH_ABORT. -/
def execPushAbort (i3c store : Bool) (s : State) : Host.Outcome State Fault Refusal := act (pushAbortS i3c store) s

/-- The frame a block goes through: frame k mod 256, or the one I3C frame (R100, R104). -/
def pushFrame (p : Push) (i3c : Bool) (k : Nat) : PushFrame := if i3c then p.i3cFrame else tget {} p.frames (k % 256)
/-- Put a frame back. -/
def setFrame (p : Push) (i3c : Bool) (k : Nat) (f : PushFrame) : Push :=
  if i3c then { p with i3cFrame := f } else { p with frames := tset {} p.frames (k % 256) f }

/-- PUSH_POST (R100, R101, R104, R105, R111): blocks in strict order from 0; the block stands as it was posted. A post into a frame whose
block is still posted sets OVERRUN as a write into it does, and is ignored (log entry 42). -/
def pushPostS (i3c : Bool) (k bytes : Nat) (s : State) : State :=
  let p := s.grn.push
  if !(p.isOpen && p.iface == i3c && decide (p.source ≤ 1)) then s
  else if k ≠ p.nextPost then endPush 0x1010 s
  else if p.total ≠ 0 ∧ p.total ≤ k then endPush 0x1019 s
  else
    let f := pushFrame p i3c k
    match f.posted with
    | some _ => setPush { p with overrun := true } s
    | none =>
      let f := { f with posted := some (k, padTo (min bytes 65536) f.data) }
      setPush { setFrame p i3c k f with nextPost := k + 1 } s

/-- Meaning of PUSH_POST. -/
def execPushPost (i3c : Bool) (k : BitVec 12) (bytes : BitVec 17) (s : State) : Host.Outcome State Fault Refusal :=
  act (pushPostS i3c k.toNat bytes.toNat) s

/-- Bytes written into a buffer at an offset, the buffer zero-filled up to there, at most `lim` bytes. -/
def bufWrite (lim off : Nat) (d b : Bytes) : Bytes := (padTo off b ++ d ++ b.drop (off + d.length)).take lim

/-- A write into a push frame (R101): discarded with OVERRUN while its block is posted and not accepted. -/
def frameWrite (i3c : Bool) (k off : Nat) (d : Bytes) (s : State) : State :=
  let p := s.grn.push
  if p.isOpen && p.iface != i3c then s
  else
    let f := pushFrame p i3c k
    match f.posted with
    | some _ => setPush { p with overrun := true } s
    | none => setPush (setFrame p i3c k { f with data := bufWrite 65536 off d f.data }) s

/-- PUSH_FRAME_WRITE (R100, R101, R105). -/
def pushFrameWriteS (k off : Nat) (d : Bytes) (s : State) : State := frameWrite false k off d s

/-- Meaning of PUSH_FRAME_WRITE. -/
def execPushFrameWrite (k : Fin 256) (off : Fin 65536) (d : Bytes) (s : State) : Host.Outcome State Fault Refusal :=
  act (pushFrameWriteS k off d) s

/-- PUSH_TIMEOUT (R102): 60 s without a post while blocks are awaited. -/
def pushTimeoutS (s : State) : State :=
  let p := s.grn.push
  if (p.state = 1 ∨ p.state = 2) ∧ p.source ≤ 1 ∧ (p.total = 0 ∨ p.nextPost < p.total) then endPush 0x1017 s else s

/-- Meaning of PUSH_TIMEOUT. -/
def execPushTimeout (s : State) : Host.Outcome State Fault Refusal := act pushTimeoutS s

/-! ### Head and block verification (R109, R110) -/

/-- The key blocks that R86 allows a Grain to be signed with. -/
def grainKeyAllowed (s : State) (dg : Bytes) : Bool :=
  match s.boot.lcs with
  | .sapling | .returned => dg == Config.vendorKeyDigest
  | .grafted => s.fuses.ownerKeys.contains dg || (s.fuses.ownerKeys == [] && dg == Config.vendorKeyDigest)
  | .standing => s.fuses.ownerKeys.contains dg
  | _ => false

/-- The vendor key block stands at this re-grain (R349). -/
def vendorSigned (s : State) (dg : Bytes) : Bool :=
  dg == Config.vendorKeyDigest && (s.boot.lcs == .sapling || s.boot.lcs == .returned
    || (s.boot.lcs == .grafted && s.fuses.ownerKeys == []))

/-- GRAIN_RULE and OWNER_KEY_MASK of the installed Grain (R349). -/
def signerRetired (s : State) (g : Signed) : Bool :=
  s.grn.installed && !vendorSigned s g.digest &&
    !(ruleMet s.grn.grain.signers.grainRule (g.keys.map (·.alg))
      && (match s.fuses.ownerKeys.findIdx? (· == g.digest) with
          | some i => s.grn.grain.signers.ownerMask.getLsbD i
          | none => false))

/-- Bytes that a head's signatures cover (R346). -/
def headCovered (h : Bytes) : Bytes := h.take 0x7000

/-- The first failing test of a head in the order of R109, none when it is accepted. -/
def headTests (h : Bytes) (s : State) : Option W16 :=
  let f := headFields h
  match parseSigned (h.drop 0x7000) with
  | none => if !allZero f.target && f.target != s.fuses.fuseId then some 0x1029 else some 0x1011
  | some g =>
    if !allZero f.target && f.target != s.fuses.fuseId then some 0x1029
    else if !(grainKeyAllowed s g.digest && allVerify g (headCovered h)) then some 0x1011
    else if signerRetired s g then some 0x102A
    else if f.svn < s.fuses.svn then some 0x1013
    else if 256 ≤ s.fuses.svn ∧ s.fuses.svn < f.svn then some 0x1014
    else if 512 < f.blocks then some 0x1019
    else if !f.isPartial && s.grn.installed && decide (f.seq ≤ s.grn.grain.seq) then some 0x1023
    else if f.isPartial && !(s.grn.installed && f.baseSeq == s.grn.grain.seq && f.svn == s.grn.grain.svn
        && decide (s.grn.grain.seq < f.seq)) then some 0x1024
    else if f.isPartial && decide (15 ≤ s.grn.partials) then some 0x1028
    else none

/-- GRAIN_HEAD_VERIFY (R109): block 0 from its frame into staging, verified. A block posted meanwhile beyond the count that it declares
ends the session (R111). -/
def grainHeadVerifyS (s : State) : State :=
  let p := s.grn.push
  if p.state ≠ 1 ∨ grainBough s = none then s
  else match (pushFrame p p.iface 0).posted with
    | some (0, h) =>
      match headTests h s with
      | some c => endPush c s
      | none =>
        if (headFields h).blocks < p.nextPost then endPush 0x1019 s
        else
        let p := setFrame p p.iface 0 { pushFrame p p.iface 0 with posted := none }
        let p := { p with state := if (headFields h).blocks ≤ 1 then 3 else 2, total := (headFields h).blocks, accepted := 1,
                          staging := tset [] p.staging 0 h }
        let s := setPush p s
        if s.grn.installed then s else setPhase .verify s
    | _ => s

/-- Meaning of GRAIN_HEAD_VERIFY. -/
def execGrainHeadVerify (s : State) : Host.Outcome State Fault Refusal := act grainHeadVerifyS s

/-- A body block taken into staging when its digest is the head's, else the session ends (R110, R111). -/
def acceptBlock (k : Nat) (b : Bytes) (s : State) : State :=
  let p := s.grn.push
  if sha384 b = headDigestOf (tget [] p.staging 0) k then
    setPush { p with staging := tset [] p.staging k b, accepted := k + 1, state := if p.total ≤ k + 1 then 3 else p.state } s
  else endPush 0x1012 s

/-- GRAIN_BLOCK_ACCEPT (R100, R110): the next posted block in index order. -/
def grainBlockAcceptS (s : State) : State :=
  let p := s.grn.push
  if p.state ≠ 2 ∨ grainBough s = none then s
  else match (pushFrame p p.iface p.accepted).posted with
    | some (k, b) =>
      if k = p.accepted then
        acceptBlock k b (setPush (setFrame p p.iface k { pushFrame p p.iface k with posted := none }) s)
      else s
    | none => s

/-- Meaning of GRAIN_BLOCK_ACCEPT. -/
def execGrainBlockAccept (s : State) : Host.Outcome State Fault Refusal := act grainBlockAcceptS s

/-- The staged body: the body blocks in index order (R346). -/
def stagedBody (p : Push) : Bytes := ((p.staging.filter (fun e => e.1 != 0)).map (·.2)).flatten

/-! ### Registers of the identity and status region, and their access over I3C (R99, R104) -/

/-- TAP_BOOT_STAT. -/
def tapBootStat (s : State) : Nat :=
  s.boot.result.toNat * 2 ^ 16 + b2n s.boot.pf1Pending * 2 ^ 15 + b2n s.boot.keyless * 2 ^ 14
    + b2n s.boot.bootstrapped * 2 ^ 13 + s.boot.src.toNat * 2 ^ 11 + s.boot.lcs.num * 2 ^ 8 + s.boot.phase.num

/-- GRN_PUSH_STAT. -/
def grnPushStat (p : Push) : Nat := p.result.toNat * 2 ^ 16 + b2n p.iface * 16 + b2n p.overrun * 8 + p.state
/-- GRN_PUSH_PROGRESS. -/
def grnPushProgress (p : Push) : Nat := p.total * 2 ^ 16 + p.accepted
/-- GRN_INSTALL_STAT. -/
def grnInstallStat (s : State) : Nat :=
  s.grn.partials * 2 ^ 28 + b2n (s.grn.swaps != []) * 2 ^ 27 + b2n s.grn.installed * 2 ^ 26 + s.fuses.svn * 2 ^ 17
    + (if s.grn.installed then s.grn.grain.svn else 0)
/-- GRN_INSTALLED_SEQ. -/
def grnInstalledSeq (s : State) : Nat := if s.grn.installed then s.grn.grain.seq else 0

/-- A 32-bit word of the identity and status region (0x000 to 0xFFF); an address in no row reads 0 (00 R13). -/
def identWord (a : Nat) (s : State) : Nat :=
  if a = 0x100 then tapBootStat s
  else if a = 0x104 then s.boot.phaseUs.toNat
  else if 0x110 ≤ a ∧ a ≤ 0x124 then (s.boot.leafRun.toNat >>> (32 * ((a - 0x110) / 4))) % 2 ^ 32
  else if a = 0x200 then 4 * b2n s.grn.push.store
  else if a = 0x208 then grnPushStat s.grn.push
  else if a = 0x20C then grnPushProgress s.grn.push
  else if a = 0x210 then grnInstalledSeq s % 2 ^ 32
  else if a = 0x214 then grnInstalledSeq s / 2 ^ 32 % 2 ^ 32
  else if a = 0x218 then grnInstallStat s
  else 0

/-- A write of a 32-bit word of the identity and status region. ABORT acts before START in one write. -/
def identWrite (i3c : Bool) (a v : Nat) (s : State) : State :=
  if a = 0x200 then
    let st := bitOf v 2
    let s := setPush { s.grn.push with store := st } s
    let s := if bitOf v 1 then pushAbortS i3c st s else s
    if bitOf v 0 then pushStartS i3c st s else s
  else if a = 0x204 then pushPostS i3c (bitsOf v 28 17) (bitsOf v 16 0) s
  else if a = 0x208 then setPush { s.grn.push with overrun := s.grn.push.overrun && !bitOf v 3 } s
  else s

/-- The words of the region from an address, for a read of `n` bytes. -/
def identBytes (a n : Nat) (s : State) : Bytes :=
  (((List.range (n / 4 + 1)).flatMap (fun i => leBytes 4 (identWord (a / 4 * 4 + 4 * i) s))).drop (a % 4)).take n

/-- I3C_REGISTER_ACCESS (R104, R13): 0xC5, a 4-byte address, then write data or a read. Other private writes are MCTP and
reach no register. -/
def i3cRegisterAccessS (b : Bytes) (rd : Nat) (s : State) : State :=
  if fieldLe b 0 1 ≠ 0xC5 ∨ b.length < 5 then s
  else
    let a := fieldLe b 1 4
    let d := b.drop 5
    if d = [] then
      if a < 0x1000 then emitOut (.reply (identBytes a (min rd (0x1000 - a)) s)) s
      else if 0x10000 ≤ a ∧ a < 0x20000 then emitOut (.reply (padTo rd (s.grn.push.i3cFrame.data.drop (a - 0x10000)))) s
      else emitOut (.reply (List.replicate rd 0)) s
    else if a < 0x1000 then
      foldS (fun (e : Bytes × Nat) s => identWrite true (a + 4 * e.2) (leNat e.1) s) (chunks 4 d).zipIdx s
    else if 0x10000 ≤ a ∧ a < 0x20000 then
      if s.grn.push.isOpen && s.grn.push.iface && s.grn.push.nextPost != s.grn.push.accepted then
        setPush { s.grn.push with overrun := true } s
      else frameWrite true 0 (a - 0x10000) d s
    else s

/-- Meaning of I3C_REGISTER_ACCESS. -/
def execI3cRegisterAccess (b : Bytes) (rd : Nat) (s : State) : Host.Outcome State Fault Refusal :=
  act (i3cRegisterAccessS b rd) s

end Sys2Proof.Machine
end

