-- ==== Sys2Proof/Machine/Entropy.lean ====
section
/-!
DEFINITION. Machine/Entropy.lean: noise sources, conditioning, the five DRBGs and the host's random requests
(06_entropy_and_check_units.md R144-R154), and step 6 of start-up (04 R83, R86, R88; 05 R115).
-/
namespace Sys2Proof.Machine

/-- One noise source. -/
def noise (i : Nat) (s : State) : Noise := tget {} s.ent.src i
/-- Replace a noise source. -/
def setNoise (i : Nat) (n : Noise) (s : State) : State := { s with ent := { s.ent with src := tset {} s.ent.src i n } }

/-- Sources healthy (R149). -/
def healthyCount (s : State) : Nat := ([0, 1, 2, 3].filter (fun i => (noise i s).healthy)).length

/-! ### Health tests (R145, R146) -/

/-- One raw sample through both continuous tests; the flag says that one of them fails on it. -/
def Health.step (h : Health) (b : Bool) : Health × Bool :=
  let run := if h.run ≠ 0 ∧ b = h.last then h.run + 1 else 1
  let first := if h.taken = 0 then b else h.first
  let same := (if h.taken = 0 then 0 else h.same) + b2n (b == first)
  ({ last := b, run := run, first := first, taken := (h.taken + 1) % 1024, same := same }, decide (41 ≤ run) || decide (797 ≤ same))

/-- The bits of raw samples, the first in bit 0 of the first byte (log entry 15). -/
def sampleBits (b : Bytes) : List Bool := b.flatMap (fun x => (List.range 8).map (fun i => x.getLsbD i))

/-- Both tests over a string of samples: their state, and whether all passed. -/
def healthRun (h : Health) (bs : List Bool) : Health × Bool :=
  bs.foldl (fun a b => let r := a.1.step b; (r.1, a.2 && !r.2)) (h, true)

/-- One DRBG instance: 0 to 3 of the limbs, 4 of the Taproot (R150). -/
def drbg (i : Nat) (s : State) : DrbgInst := tget {} s.ent.drbg i
/-- Replace a DRBG instance. -/
def setDrbg (i : Nat) (d : DrbgInst) (s : State) : State := { s with ent := { s.ent with drbg := tset {} s.ent.drbg i d } }

/-- Take the oldest `n` conditioned blocks, when there are as many. -/
def takeBlocks (n : Nat) (s : State) : Option (Bytes × State) :=
  if n ≤ s.ent.blocks.length then
    some ((s.ent.blocks.take n).flatten, { s with ent := { s.ent with blocks := s.ent.blocks.drop n } })
  else none

/-- Instantiate from two conditioned blocks; personalisation FUSE_ID and the instance number (R150). -/
def drbgStart (i : Nat) (s : State) : State :=
  match takeBlocks 2 s with
  | none => s
  | some (b, s) =>
    let d := drbgInit (blockCipherDf (b ++ s.fuses.fuseId ++ [BitVec.ofNat 8 i]) 48)
    setDrbg i { on := true, k := d.k, v := d.v, reqs := 0, at_ := s.now } s

/-- Reseed from one conditioned block, none when no block is available (R151). -/
def drbgReseedNow (i : Nat) (s : State) : Option State :=
  match takeBlocks 1 s with
  | none => none
  | some (b, s) =>
    let x := drbg i s
    let d := drbgReseedWith { k := x.k, v := x.v } (blockCipherDf b 48)
    some (setDrbg i { on := true, k := d.k, v := d.v, reqs := 0, at_ := s.now } s)

/-- The instance must reseed before its next request: 65,536 requests or 1,000 ms (R151). -/
def drbgDue (d : DrbgInst) (s : State) : Bool := decide (65536 ≤ d.reqs) || decide (1000 * psMs ≤ s.now - d.at_)

/-- A generate request of `n` bytes; `fresh` where it produces a key, a seed or an ephemeral value of DRBG_T (R151). None
when the request would have to wait for a conditioned block or an instantiation (R152). -/
def drbgRequest (i : Nat) (fresh : Bool) (n : Nat) (s : State) : Option (Bytes × State) :=
  if !(drbg i s).on then none
  else
    match (if (fresh && i == 4) || drbgDue (drbg i s) s then drbgReseedNow i s else some s) with
    | none => none
    | some s =>
      let x := drbg i s
      let g := drbgGen { k := x.k, v := x.v } n
      some (g.1, setDrbg i { x with k := g.2.k, v := g.2.v, reqs := x.reqs + 1 } s)

/-- A request finds no output: it ends with ENT_STARVED, once it has waited (R152). -/
def starved (s : State) : State := emit .fault 0x5011 (srcTree 3) [] { s with ent := { s.ent with hungry := true } }

/-- A request that began to wait at `since` has waited for 10 ms (R152). -/
def waitedOut (since : Nat) (s : State) : Bool := decide (since + 10 * psMs ≤ s.now)

/-- A request `f` for which its DRBG may have no output (R152): without output nothing of it happens and it waits as `r`; at the end of
its 10 ms its starved end stands. -/
def orWait (r : EntReq) (f : State → State) (s : State) : State :=
  let s : State := { s with ent := { s.ent with hungry := false } }
  let x := f s
  let since := s.ent.waited.getD s.now
  if x.ent.hungry && !waitedOut since s then { s with ent := { s.ent with waits := s.ent.waits ++ [(r, since)] } }
  else { x with ent := { x.ent with hungry := false } }

/-- Waiting requests that will not be served. -/
def dropWaits (p : EntReq → Bool) (s : State) : State :=
  { s with ent := { s.ent with waits := s.ent.waits.filter (fun e => !p e.1) } }

/-! ### Step 6: heartwood and DRAM keys -/

/-- The life-cycle state loads the heartwood (R86). -/
def lcsLoads (l : Lcs) : Bool := match l with | .sapling | .grafted | .standing => true | _ => false

/-- Draw the DRAM keys and HS_V that are due, oldest first, while DRBG_T can serve them (R88, R115, R122): 64 bytes for a
channel's AES-XTS-256 key, 32 bytes for the page-group root and the line MAC key. -/
def serveDue : Nat → State → State
  | 0, s => s
  | f + 1, s =>
    let s := if !(drbg 4 s).on && (s.ent.dramKeysDue != [] || s.ent.hsVDue) then drbgStart 4 s else s
    match s.ent.dramKeysDue with
    | n :: rest =>
      match (if s.vault.erased then none else drbgRequest 4 true (if n < 44 then 64 else 32) s) with
      | some (k, s) => serveDue f (setTap [(n, k)] { s with ent := { s.ent with dramKeysDue := rest } })
      | none => s
    | [] =>
      if s.ent.hsVDue && s.boot.vfuse then
        match drbgRequest 4 true 32 s with
        | some (k, s) =>
          deriveFirst { s with
            fuses := { s.fuses with hsV := some k }, ent := { s.ent with hsVDue := false } }
        | none => s
      else s

/-- Step 6 (R83, R86, R88): with the latch clear at both readings and no erase line since step 3, the heartwood is loaded and
DUK, VWK and DEVID derived, HS_V first programmed in SAPLING; otherwise the start is keyless. The DRAM keys are drawn, or
restored from a valid standby register (21 R535). -/
def heartwoodLoad (s : State) : State :=
  let bad := s.tmp.latch != 0 || s.boot.latchSeen || s.boot.eraseSince3
  let load := !bad && lcsLoads s.boot.lcs
  let s := { s with boot := { s.boot with
    heartwood := load, keyless := s.boot.keyless || !load, latchSeen := s.boot.latchSeen || s.tmp.latch != 0 } }
  let s : State := if load then deriveFirst s else s
  let s : State := { s with ent := { s.ent with hsVDue := load && decide (s.boot.lcs = .sapling) && s.fuses.hsV.isNone } }
  let wake := s.slp.standby.valid && decide (s.tmp.latch = 0)
  let s : State := if 256 ≤ s.fuses.evidence then { s with tmp := { s.tmp with latch := 0 } } else s
  let s := if wake then
      setTap ((List.range 6).map (fun i => (40 + i, s.slp.standby.keys.getD i [])))
        { s with slp := { s.slp with
          woke := true, resume := true, resumeSeq := s.slp.standby.grainSeq, standby := { s.slp.standby with valid := false } } }
    else { s with ent := { s.ent with dramKeysDue := [40, 41, 42, 43, 44, 45] } }
  setPhase .dram (serveDue 8 s)

/-- VALID follows the healthy sources; its first setting at step 5 brings step 6 (R82, R87, R149). -/
def entValid (s : State) : State :=
  let v := decide (2 ≤ healthyCount s)
  let s := { s with ent := { s.ent with valid := v } }
  if v && s.boot.phase == .entropy then heartwoodLoad s else s

/-- One failure of a source (R147): SRC_FAILED, the event, the counter; fenced at the third within 3,600 s. -/
def noiseFail (i : Nat) (next : Nat) (s : State) : State :=
  let n := noise i s
  let fails := (s.now :: n.fails).filter (fun x => decide (s.now - x ≤ 3600 * psS))
  let fence := decide (3 ≤ fails.length)
  let s := setNoise i { healthy := false, startup := if fence then 0 else next, fenced := fence, fails := fails } s
  let s := { s with ent := { s.ent with failed := setBit s.ent.failed i true } }
  entValid (emit .fault 0x5010 (srcTree 3) [] (bump (cEntropy i) s))

/-- ENT_STARTUP_TEST_DONE (R146, R147, R149, R88): both tests over the source's first 4,096 samples, which go no further; a pass makes
the source healthy, a first failure repeats the test once. -/
def entStartupTestDoneS (t i : Nat) (samples : Bytes) (s : State) : State :=
  let s := atTime t s
  let n := noise i s
  if n.startup = 0 ∨ n.fenced then s
  else
    let r := healthRun {} (sampleBits samples)
    let s := setNoise i { n with health := r.1 } s
    if samples.length = 512 ∧ r.2 then entValid (setNoise i { noise i s with healthy := true, startup := 0 } s)
    else noiseFail i (if n.startup = 1 then 2 else 0) s

/-- Meaning of ENT_STARTUP_TEST_DONE. -/
def execEntStartupTestDone (t : Nat) (i : Fin 4) (samples : Bytes) (s : State) : Host.Outcome State Fault Refusal :=
  act (entStartupTestDoneS t i.val samples) s

/-- Samples of the healthy sources in round-robin order through their continuous tests, lowest source first (R145, R148): the sources
with their tests, and the first one that fails, with which the collection ends. -/
def collect (hs : List Nat) : Nat → List Bool → Tab Noise → Tab Noise × Option Nat
  | _, [], t => (t, none)
  | k, b :: bs, t =>
    let i := hs.getD (k % hs.length) 0
    let r := (tget {} t i).health.step b
    let t := tset {} t i { tget {} t i with health := r.1 }
    if r.2 then (t, some i) else collect hs (k + 1) bs t

/-- The healthy sources. -/
def healthySources (s : State) : List Nat := [0, 1, 2, 3].filter (fun i => (noise i s).healthy)

/-- ENT_HEALTH_FAIL (R145, R147, R148): the samples since the last block fail a test of the source, which leaves conditioning and runs a
new startup test; the collection is discarded whole. -/
def entHealthFailS (t i : Nat) (samples : List Bool) (s : State) : State :=
  let s := atTime t s
  let r := collect (healthySources s) 0 samples s.ent.src
  if healthySources s = [] ∨ r.2 ≠ some i then s
  else noiseFail i 1 { s with ent := { s.ent with src := r.1 } }

/-- Meaning of ENT_HEALTH_FAIL. -/
def execEntHealthFail (t : Nat) (r : NoiseRun) (s : State) : Host.Outcome State Fault Refusal :=
  act (entHealthFailS t r.src.val r.samples) s

/-- CONDITIONED_BLOCK (R145, R148, R149): SHA-384 of 1,024 samples of the healthy sources joins the blocks. A sample that fails a test
discards the block and takes its source out; with VALID 0 the conditioner emits nothing. -/
def conditionBlock (t : Nat) (samples : Bytes) (s : State) : State :=
  let s := atTime t s
  let hs := healthySources s
  if !s.ent.valid || hs == [] || samples.length != 128 then s
  else
    let r := collect hs 0 (sampleBits samples) s.ent.src
    let s : State := { s with ent := { s.ent with src := r.1 } }
    match r.2 with
    | some i => noiseFail i 1 s
    | none => serveDue 8 { s with ent := { s.ent with blocks := s.ent.blocks ++ [sha384 samples] } }

/-- DRBG_INSTANTIATE (R150, R153): from two fresh conditioned blocks. -/
def drbgInstantiate (t i : Nat) (s : State) : State :=
  let s := atTime t s
  if (drbg i s).on then s else serveDue 8 (drbgStart i s)

/-- ENT_REQUEST (R154): starts a request of WORDS + 1 words, or is ignored with ENT_BUSY while one runs. -/
def entRequestS (words : BitVec 4) (s : State) : State :=
  let s : State := { s with ent := { s.ent with words := words } }
  if s.ent.running then { s with ent := { s.ent with result := 0x5012 } }
  else { s with ent := { s.ent with asked := words, since := s.now, running := true, ready := false, out := [], outRead := [] } }

/-- Meaning of ENT_REQUEST. -/
def execEntRequest (words : BitVec 4) (s : State) : Host.Outcome State Fault Refusal := act (pf1Do (entRequestS words)) s

/-- ENT_OUTPUT_READY (R152, R154): the words are present and READY sets; a request that must wait for a block goes on waiting. -/
def entOutputReadyS (t : Nat) (s : State) : State :=
  let s := atTime t s
  if !s.ent.running then s
  else match drbgRequest 4 false (4 * (s.ent.asked.toNat + 1)) s with
    | none => s
    | some (b, s) =>
      { s with ent := { s.ent with
        running := false, ready := true, result := 0, out := (chunks 4 b).map (fun w => BitVec.ofNat 32 (leNat w)) } }

/-- Meaning of ENT_OUTPUT_READY. -/
def execEntOutputReady (t : Nat) (s : State) : Host.Outcome State Fault Refusal := act (entOutputReadyS t) s

/-- The host's request ends starved (R152): output zero, READY, ENT_STARVED. -/
def hostStarved (s : State) : State :=
  if s.ent.running && waitedOut s.ent.since s && (drbgRequest 4 false (4 * (s.ent.asked.toNat + 1)) s).isNone then
    starved { s with ent := { s.ent with
      running := false, ready := true, result := 0x5011, out := List.replicate (s.ent.asked.toNat + 1) 0 } }
  else s

/-- ENT_OUT_READ (R132, R149, R154): once; zero while VALID is 0; zero with EARLY before READY, with TWICE when read again, without either beyond the count asked for. -/
def entOutReadS (i : Nat) (s : State) : State :=
  if !s.ent.ready then emitOut (.value 0) { s with ent := { s.ent with early := true } }
  else if !s.ent.valid then emitOut (.value 0) s
  else if s.ent.asked.toNat < i then emitOut (.value 0) s
  else if tget false s.ent.outRead i then emitOut (.value 0) { s with ent := { s.ent with twice := true } }
  else
    emitOut (.value ((s.ent.out.getD i 0).setWidth 64)) { s with ent := { s.ent with
      outRead := tset false s.ent.outRead i true } }

/-- Meaning of ENT_OUT_READ. -/
def execEntOutRead (i : Fin 16) (s : State) : Host.Outcome State Fault Refusal := act (entOutReadS i.val) s

end Sys2Proof.Machine
end

