-- ==== Sys2Proof/Machine/Keep.lean ====
section
/-!
DEFINITION. Machine/Keep.lean: the two keep flash devices (09_recovery_and_keep_flash.md R232-R243): address map, pages, their CRC and
MAC, reads with the other mirror behind them, and interrupted programs.
-/
namespace Sys2Proof.Machine

/-- One mirror of the keep flash. -/
def mir (m : Nat) (s : State) : Mirror := if m = 0 then s.kpf.m0 else s.kpf.m1
/-- Replace a mirror. -/
def setMir (m : Nat) (x : Mirror) (s : State) : State :=
  if m = 0 then { s with kpf := { s.kpf with m0 := x } } else { s with kpf := { s.kpf with m1 := x } }
/-- The mirrors out of use: degraded, or degraded before the last CORE reset and not copied to yet (R234). -/
def mirOut (s : State) : BitVec 2 := s.kpf.degraded ||| s.kpf.copyDue
/-- The mirror is in use (R234). -/
def mirUsed (m : Nat) (s : State) : Bool := !(mirOut s).getLsbD m
/-- The mirrors in use, mirror 0 first. -/
def mirrors (s : State) : List Nat := [0, 1].filter (fun m => mirUsed m s)
/-- The mirror that live state is being copied to (R234). -/
def copyMir (s : State) : Option Nat := if s.kpf.copying then [0, 1].find? (fun m => s.kpf.copyDue.getLsbD m) else none

/-- SOURCE of the keep flash. -/
def srcKeep : W16 := srcTree 6

/-! ### The layout (R232), in pages of 256 bytes -/

/-- Pages per 4 KiB sector. -/
def sectorPages : Nat := 16
/-- Journal sectors. -/
def journalSectors : Nat := 4080
/-- First page of the journal ring, 0x001_0000. -/
def ringBase : Nat := 0x100
/-- Page `p` of journal sector `n`. -/
def ringPage (n p : Nat) : Nat := ringBase + sectorPages * n + p
/-- First page of a ceiling table, 0x100_0000 and 0x240_0000, and the pages of its 20 MiB. -/
def tableBase (t : Nat) : Nat := if t = 0 then 0x10000 else 0x24000
/-- Pages of a ceiling table's range. -/
def tableRange : Nat := 0x14000
/-- Pages that a table holds (R237). -/
def tablePages : Nat := 74899
/-- First page of a Grain copy, 0x380_0000 and 0x580_0000. -/
def grainBase (c : Nat) : Nat := if c = 0 then 0x38000 else 0x58000
/-- Pages of a Grain copy's 32 MiB. -/
def grainRange : Nat := 0x20000
/-- First page of the mission log, 0x780_0000, and its pages. -/
def logBase : Nat := 0x78000
/-- Pages of the mission log. -/
def logRange : Nat := 0x8000
/-- Pages of the device. -/
def keepPages : Nat := 0x80000

/-! ### Pages -/

/-- An erased page. -/
def erasedPage : Bytes := List.replicate 256 0xFF
/-- The bytes of a page program: 256 of them, erased ones behind a shorter string. -/
def fullPage (b : Bytes) : Bytes := (b ++ erasedPage).take 256
/-- A page as it reads. -/
def Mirror.read (x : Mirror) (k : Nat) : Bytes := let b := tget [] x.pages k; if b = [] then erasedPage else b
/-- A page as it stands after a program. -/
def Mirror.put (x : Mirror) (k : Nat) (b : Bytes) : Mirror :=
  { x with pages := tset [] x.pages k (if fullPage b = erasedPage then [] else fullPage b) }
/-- `n` pages from page `lo` erased. -/
def Mirror.erase (x : Mirror) (lo n : Nat) : Mirror := { x with pages := tfilter (fun k => k < lo || decide (lo + n ≤ k)) x.pages }
/-- A ceiling table of a mirror. -/
def Mirror.table (x : Mirror) (t : Nat) : Option CkptTab := if t = 0 then x.table0 else x.table1
/-- Replace a ceiling table. -/
def Mirror.setTable (x : Mirror) (t : Nat) (v : Option CkptTab) : Mirror :=
  if t = 0 then { x with table0 := v } else { x with table1 := v }

/-- Apply `f` to every mirror of a list. -/
def onThe (l : List Nat) (f : Nat → Mirror → Mirror) (s : State) : State := foldS (fun m s => setMir m (f m (mir m s)) s) l s

/-- The mirrors that an erase reaches: those in use, and one that is being copied to. -/
def eraseMirrors (s : State) : List Nat := mirrors s ++ (copyMir s).toList

/-- An erase of `n` pages from page `lo`. -/
def keepEraseRange (lo n : Nat) (s : State) : State :=
  let l := eraseMirrors s
  foldS (fun m s => emitOut (.erase m (256 * lo) (256 * n)) s) l (onThe l (fun _ x => x.erase lo n) s)

/-- The first 0xE0 bytes of a page with CRC-32C and MAC under JMK (R235, R236). -/
def pageSeal (jmk b : Bytes) : Bytes :=
  let b := padTo 0xE0 b
  let b := b ++ leBytes 4 (crc32c b) ++ List.replicate 12 0
  b ++ (hmac384 jmk b).take 16

/-- The page's MAC stands (R235-R237); a keyless device, which has no JMK, does not check it (R243). -/
def pageMac (keyless : Bool) (jmk b : Bytes) : Bool := keyless || slice b 0xF0 16 == (hmac384 jmk (b.take 0xF0)).take 16

/-- CRC and MAC of a sealed page stand. -/
def pageSound (keyless : Bool) (jmk b : Bytes) : Bool :=
  b.length == 256 && fieldLe b 0xE0 4 == crc32c (b.take 0xE0) && pageMac keyless jmk b

/-- What a read of a page finds (R241). -/
inductive PageRead where
  | erased | torn | sound (b : Bytes)
deriving DecidableEq, Repr

/-- A page of one mirror. -/
def pageJudge (s : State) (b : Bytes) : PageRead :=
  if b = erasedPage then .erased else if pageSound s.boot.keyless (tapKey 2 s) b then .sound b else .torn

/-- A sealed page: the first mirror in use, the other where that one is torn (R241). -/
def readPage (k : Nat) (s : State) : PageRead :=
  (mirrors s).foldl (fun r m => if r = .torn then pageJudge s ((mir m s).read k) else r) .torn

/-! ### Interrupted programs (R240) -/

/-- A page whose program stopped: the bytes completed, the one in progress with some bits not yet cleared, the rest erased. How far it
came is a free value (log entry 6). -/
def tornPage (v : W64) (b : Bytes) : Bytes :=
  let n := v.toNat % 257
  fullPage (b.take n ++ ((b.drop n).take 1).map (· ||| v.extractLsb' 16 8))

/-- The running page program stops on every mirror. -/
def progStop (s : State) : State :=
  match s.kpf.prog with
  | none => s
  | some p =>
    foldS (fun m s => let f := drawFree s; setMir m ((mir m f.2).put p.page (tornPage f.1 p.bytes)) f.2) p.mirrors
      { s with kpf := { s.kpf with prog := none } }

/-! ### Read-back (R234) -/

/-- A mirror is taken out of use; a copy to it is given up until the next CORE reset. -/
def degrade (m : Nat) (s : State) : State :=
  emit .fault 0x2040 srcKeep [] { s with kpf := { s.kpf with
    degraded := setBit s.kpf.degraded m true, result := 0x2040, copying := s.kpf.copying && copyMir s != some m } }

/-- `n` read-backs of one mirror failed in a row, or one passed (0): at 16 consecutive failures it is degraded, never the last
one in use. -/
def readBack (m n : Nat) (s : State) : State :=
  let f := if n = 0 then 0 else s.kpf.fails.getD m 0 + n
  let s : State := bumpBy (cDevice 8) n { s with kpf := { s.kpf with fails := s.kpf.fails.set m f } }
  if 16 ≤ f ∧ (mirUsed m s ∨ copyMir s = some m) ∧ mirUsed (1 - m) s then degrade m s else s

/-! ### Fixed pages -/

/-- A format header (R235). -/
def formatHeader (jmk id : Bytes) : Bytes := pageSeal jmk ([0x4B, 0x50, 0x46, 0x31] ++ leBytes 2 1 ++ leBytes 2 0 ++ padTo 16 id)

/-- Pages of the header in sector 0 and of its copy in sector 1. -/
def formatPages : List Nat := [0, 16]

/-- The keep flash carries a valid format header of this device (R235): either copy, on either mirror. -/
def keepFormatted (s : State) : Bool :=
  formatPages.any (fun k => match readPage k s with
    | .sound b => slice b 0 4 == [0x4B, 0x50, 0x46, 0x31] && fieldLe b 4 2 == 1 && slice b 8 16 == padTo 16 s.fuses.fuseId
    | _ => false)

/-- A sector header page (R236). -/
def sectorHeader (jmk : Bytes) (erases first : Nat) : Bytes :=
  pageSeal jmk ([0x4B, 0x4A, 0x53, 0x31] ++ leBytes 4 erases ++ leBytes 8 first)

/-- ERASES of a journal sector whose header page is sound; none for a blank sector and for an interrupted erase (R242). -/
def sectorHeld (n : Nat) (s : State) : Option Nat :=
  match readPage (ringPage n 0) s with
  | .sound b => if slice b 0 4 == [0x4B, 0x4A, 0x53, 0x31] then some (fieldLe b 4 4) else none
  | _ => none

/-- Some page of the sector is not erased in a mirror in use. -/
def sectorUsed (n : Nat) (s : State) : Bool :=
  (mirrors s).any (fun m => (mir m s).pages.any (fun e => decide (ringPage n 0 ≤ e.1) && decide (e.1 < ringPage (n + 1) 0)))

/-- The journal sectors with a page that is not erased, in no order. -/
def usedSectors (s : State) : List Nat :=
  (((mirrors s).flatMap (fun m => (mir m s).pages.map (·.1))).filter
    (fun k => decide (ringBase ≤ k) && decide (k < ringPage journalSectors 0))).map (fun k => (k - ringBase) / sectorPages) |>.eraseDups

/-- The free sectors: all but those with a sound header. An interrupted erase is erased again before it is written (R242). -/
def freeCount (s : State) : Nat := journalSectors - ((usedSectors s).filter (fun n => (sectorHeld n s).isSome)).length

/-- A journal sector is erased (R239, R242). -/
def sectorErase (n : Nat) (s : State) : State :=
  let held := (sectorHeld n s).isSome
  let s := keepEraseRange (ringPage n 0) sectorPages s
  { s with kpf := { s.kpf with
    erases := tset 0 s.kpf.erases n (tget 0 s.kpf.erases n + 1), freeSectors := s.kpf.freeSectors + b2n held } }

/-! ### Ceiling tables (R237) -/

/-- First context of a table page. -/
def ckptFirst (i : Nat) : Nat := 56 * i

/-- A table page as it is written. -/
def ckptPage (t : CkptTab) (i : Nat) : Bytes :=
  let b := padTo 0xEC (leBytes 8 t.start ++ leBytes 4 (ckptFirst i)
    ++ (List.range 56).flatMap (fun j => leBytes 4 (tget 0 t.ceil (ckptFirst i + j))))
  let b := b ++ leBytes 4 (crc32c b)
  b ++ (hmac384 t.jmk b).take 16

/-- The ceilings of a table page's bytes, where its CRC and MAC stand and it is page `i` of the checkpoint of START_SEQ `start`. -/
def ckptParse (keyless : Bool) (jmk : Bytes) (start i : Nat) (b : Bytes) : Option (Tab Nat) :=
  if b.length == 256 && fieldLe b 0xEC 4 == crc32c (b.take 0xEC) && pageMac keyless jmk b
      && fieldLe b 0 8 == start && fieldLe b 8 4 == ckptFirst i then
    some ((List.range 56).foldl (fun t j => tset 0 t (ckptFirst i + j) (fieldLe b (0xC + 4 * j) 4)) [])
  else none

/-- A table's pages but the bad ones read as written: they are of this checkpoint, and the MAC's key is the device's (R243). -/
def ckptWhole (keyless : Bool) (jmk : Bytes) (start : Nat) (t : CkptTab) : Bool := t.start == start && (keyless || t.jmk == jmk)

/-- The ceilings of page `i` of a table in one mirror, none where the page is torn or of another checkpoint. -/
def ckptRead (keyless : Bool) (jmk : Bytes) (start i : Nat) (t : Option CkptTab) : Option (Tab Nat) :=
  match t with
  | none => none
  | some t =>
    match t.bad.find? (fun e => e.1 == i) with
    | some e => ckptParse keyless jmk start i e.2
    | none => if ckptWhole keyless jmk start t then
        some (tfilter (fun c => decide (ckptFirst i ≤ c ∧ c < ckptFirst (i + 1))) t.ceil) else none

/-- Page `i` of a table from the first mirror that holds it (R241). -/
def tableRead (which start i : Nat) (s : State) : Option (Tab Nat) :=
  ((mirrors s).map (fun m => ckptRead s.boot.keyless (tapKey 2 s) start i ((mir m s).table which))).findSome? id

/-- The torn pages of a table: among the bad ones of a mirror that is otherwise whole, else among all. -/
def tableTorn (which start : Nat) (s : State) : List Nat :=
  let whole := (mirrors s).filterMap (fun m => match (mir m s).table which with
    | some t => if ckptWhole s.boot.keyless (tapKey 2 s) start t then some (t.bad.map (·.1)) else none
    | none => none)
  (whole.headD (List.range tablePages)).filter (fun i => (tableRead which start i s).isNone)

/-- The ceilings that a table's pages give, but for those of `skip`. -/
def tableCeilings (which start : Nat) (skip : List Nat) (s : State) : Tab Nat :=
  let base := ((mirrors s).findSome? (fun m => match (mir m s).table which with
    | some t => if ckptWhole s.boot.keyless (tapKey 2 s) start t then some t else none
    | none => none)).getD {}
  let good := tfilter (fun c => !skip.contains (c / 56) && !base.bad.any (fun e => e.1 == c / 56)) base.ceil
  ((base.bad.map (·.1)).filter (fun i => !skip.contains i)).foldl
    (fun t i => tmerge 0 t ((tableRead which start i s).getD [])) good

end Sys2Proof.Machine
end

