-- ==== Sys2Proof/Machine/Journal.lean ====
section
/-!
DEFINITION. Machine/Journal.lean: the keep flash journal (09_recovery_and_keep_flash.md R232-R247, R550): acts, pages, read-back,
replay, checkpoints and compaction.
-/
namespace Sys2Proof.Machine

/-- The device writes no journal page: keyless, or after the erase line rose (R550). -/
def journalShut (s : State) : Bool := s.boot.keyless || s.tmp.erased

/-- A write to the keep flash is dropped (R550). -/
def keepDropped (s : State) : State := emit .fault 0x2044 srcKeep [] { s with kpf := { s.kpf with result := 0x2044 } }

/-- An act that needs a journal page: queued, or dropped with 0x2044 (R77, R239, R550). -/
def journalAct (a : JAct) (s : State) : State :=
  if journalShut s then keepDropped s
  else { s with kpf := { s.kpf with acts := s.kpf.acts ++ [a] } }

/-- A record page's bytes (R236). -/
def JRec.page (jmk : Bytes) (r : JRec) : Bytes :=
  pageSeal jmk (leBytes 8 r.seq ++ leBytes 1 r.typ ++ leBytes 1 r.count ++ leBytes 2 r.payload.length ++ leBytes 4 0 ++ r.payload)

/-- A vault slot. -/
def vslot (n : Nat) (s : State) : VSlot := tget {} s.vault.slots n
/-- SVN_BOUND of an attribute word (05 R125). -/
def attrSvnBound (a : W32) : Bool := a.getLsbD 15

/-- Associated data of a key record: slot number, ATTR and GEN (R139). -/
def keyAad (slot : Nat) (attr : W32) (gen : Byte) : Bytes := leBytes 2 slot ++ leBytes 4 attr.toNat ++ [gen]

/-- PAYLOAD of a KEY record: the material wrapped under STORE_B or STORE_F with the record's SEQ as IV (R139, R236). -/
def keyPayload (slot seq : Nat) (s : State) : Bytes :=
  let v := vslot slot s
  let k := tapKey (if attrSvnBound v.attr then 47 else 46) s
  let iv := beBytes 8 seq ++ List.replicate 4 0
  let ct := gcmCrypt k iv v.mat
  leBytes 2 slot ++ leBytes 2 0 ++ leBytes 4 v.attr.toNat ++ [v.gen] ++ leBytes 3 0 ++ ct
    ++ gcmTag k iv (keyAad slot v.attr v.gen) ct

/-- The 32 floors. -/
def floorList (s : State) : List Nat := (List.range 32).map (tget 0 s.kpf.floors)

/-- The floors with the raises of a list of acts (R244). -/
def raiseFloors (fs : List Nat) (as : List JAct) : List Nat :=
  as.foldl (fun l a => match a with | .floor d v _ => l.set d (max v (l.getD d 0)) | _ => l) fs

/-- LEASE entries of a list of acts (R236). -/
def leaseEntries (as : List JAct) : Bytes :=
  as.flatMap (fun a => match a with
    | .lease c v => leBytes 4 c ++ leBytes 4 v
    | .buddy _ c v => leBytes 4 c ++ leBytes 4 v
    | _ => [])

/-- The record of a group of acts (R236, R244): type, count and payload. -/
def recordOf (as : List JAct) (seq : Nat) (s : State) : JRec :=
  match as with
  | .floor _ _ _ :: _ =>
    { seq := seq, typ := 1, payload := leBytes 4 (s.fuses.anchor + 1) ++ (raiseFloors (floorList s) as).flatMap (leBytes 4) }
  | .floorSet fs :: _ => { seq := seq, typ := 1, payload := leBytes 4 s.fuses.anchor ++ fs.flatMap (leBytes 4) }
  | .sealRec d src dg m :: _ => { seq := seq, typ := 2, payload := d1 d ++ d1 src ++ d2 0 ++ dg ++ m }
  | .lease _ _ :: _ => { seq := seq, typ := 3, count := as.length, payload := leaseEntries as }
  | .ckptDone t st n :: _ => { seq := seq, typ := 4, payload := d1 t ++ leBytes 3 0 ++ leBytes 8 st ++ d4 n }
  | .key n :: _ => { seq := seq, typ := 5, payload := keyPayload n seq s }
  | .keyErase n :: _ => { seq := seq, typ := 6, payload := d2 n }
  | .grain c q v b dg :: _ =>
    { seq := seq, typ := 7, payload := d1 c ++ leBytes 3 0 ++ leBytes 8 q ++ d2 v ++ d2 b ++ dg }
  | .close n :: _ => { seq := seq, typ := 8, payload := d1 1 ++ leBytes 7 0 ++ leBytes 8 n }
  | .buddy m _ _ :: _ => { seq := seq, typ := 9, count := as.length, payload := d1 m ++ leBytes 3 0 ++ leaseEntries as }
  | .copy t c p :: _ => { seq := seq, typ := t, count := c, payload := p }
  | [] => { seq := seq }

/-- Two acts share one page: pending floor raises one step, leases and mirrored leases of one member (R236, R244). -/
def sameGroup (a b : JAct) : Bool :=
  match a, b with
  | .floor _ _ _, .floor _ _ _ => true
  | .lease _ _, .lease _ _ => true
  | .buddy m _ _, .buddy n _ _ => m == n
  | _, _ => a == b

/-- Entries that a group's page holds at most; in a grove a LEASE page holds what one LEASE_MIRROR carries (19 R501). -/
def groupMax (a : JAct) (s : State) : Nat :=
  match a with
  | .floor _ _ _ => 4096
  | .lease _ _ => if inGrove s then 25 else 26
  | .buddy _ _ _ => 25
  | _ => 1

/-- The first `n` acts that join `a`, and the others in order. -/
def takeGroup (a : JAct) : Nat → List JAct → List JAct × List JAct
  | 0, l => ([], l)
  | _, [] => ([], [])
  | n + 1, b :: t =>
    if sameGroup a b then let r := takeGroup a n t; (b :: r.1, r.2)
    else let r := takeGroup a (n + 1) t; (r.1, b :: r.2)

/-- An act may take a page now: a floor act waits for an anchor step in progress (R244); a key record needs its key. -/
def actReady (s : State) (a : JAct) : Bool :=
  match a with
  | .floor _ _ _ | .floorSet _ => s.kpf.burnTo.isNone && !s.kpf.pages.any (fun p => p.recd.typ == 1)
  | _ => true

/-! ### Checkpoints (R237) -/

/-- The journal sequence that START_SEQ takes (R237): the SEQ of the last record written, so that every record written while the
checkpoint runs lies above it (R238, R268; log entry 13). -/
def journalSeq (s : State) : Nat :=
  (match s.kpf.pages with
   | p :: _ => p.recd.seq
   | [] => s.kpf.seq) - 1

/-- A CKPT_DONE record waits to be written. -/
def ckptWaits (s : State) : Bool :=
  s.kpf.acts.any (fun a => match a with | .ckptDone _ _ _ => true | _ => false) || s.kpf.pages.any (fun p => p.recd.typ == 4)

/-- A lease checkpoint begins (R237): the table that does not hold the newest complete checkpoint is erased. None begins while one
runs, or before the record of the last one is written. -/
def ckptStart (s : State) : State :=
  if journalShut s then keepDropped s
  else if s.kpf.ckpt.isSome || ckptWaits s || !s.kpf.formatted then s
  else
    let t := 1 - s.kpf.ckptTable
    let l := eraseMirrors s
    let s := onThe l (fun _ x => x.setTable t none) s
    let s := foldS (fun m s => emitOut (.erase m (256 * tableBase t) (256 * tableRange)) s) l s
    { s with kpf := { s.kpf with ckpt := some { table := t, startSeq := journalSeq s } } }

/-- Slots between checkpoints of the Grain's period (R237). -/
def ckptSlots (s : State) : Nat :=
  let us := max 1 s.grn.grain.time.slotUs
  (s.grn.grain.ckptPeriodS * 1000000 + us - 1) / us

/-- Slot of the next scheduled checkpoint. -/
def ckptSlot (s : State) : Nat := s.kpf.ckptAt + ckptSlots s

/-- The ceilings that a checkpoint writes (R237): the own contexts', and the mirrored ones at the takeover indexes (11 R309). -/
def ckptCeilings (s : State) : Tab Nat :=
  let n := ((s.grn.grain.canopy).getD {}).idCount
  s.kpf.buddyCeil.foldl (fun t e => tmod 0 t (n + e.1) (max e.2)) s.kpf.ceilings

/-- The failed read-backs of a checkpoint's sector on a mirror, over the whole checkpoint. -/
def ckptFails (fails : List (Nat × Nat)) (k : Nat) : Nat := ((fails.filter (fun e => e.1 == k)).map (·.2)).sum

/-- CHECKPOINT_DONE (R234, R237): the table's pages stand with the live ceilings, and the CKPT_DONE record follows. `fails` holds the
runs of failed read-backs in order: 2 × sector + mirror, and how many in a row; a page that passes ends a run. Four failures of
one sector on a mirror in use abandon the checkpoint. The ceilings are those of the end: a renewal made meanwhile is in a
LEASE record above START_SEQ all the same. -/
def checkpointDoneS (fails : List (Nat × Nat)) (s : State) : State :=
  match s.kpf.ckpt with
  | none => s
  | some c =>
    let s := foldS (fun (e : Nat × Nat) s => readBack (e.1 % 2) 0 (readBack (e.1 % 2) e.2 s)) fails s
    let s : State := { s with kpf := { s.kpf with ckpt := none } }
    if fails.any (fun e => mirUsed (e.1 % 2) s && decide (4 ≤ ckptFails fails e.1)) then s
    else
      let tab := ckptCeilings s
      let l := mirrors s
      let s := onThe l (fun _ x => x.setTable c.table (some { start := c.startSeq, ceil := tab, jmk := tapKey 2 s })) s
      let s := foldS (fun m s => emitOut (.table m (256 * tableBase c.table) c.startSeq tab) s) l s
      journalAct (.ckptDone c.table c.startSeq 4194304) s

/-- Meaning of CHECKPOINT_DONE. -/
def execCheckpointDone (fails : List (Nat × Nat)) (s : State) : Host.Outcome State Fault Refusal := act (checkpointDoneS fails) s

/-! ### The ring's records -/

/-- A record page's fields (R236). -/
def recOf (b : Bytes) : JRec :=
  { seq := fieldLe b 0 8, typ := fieldLe b 8 1, count := fieldLe b 9 1, payload := slice b 0x10 (fieldLe b 0xA 2) }

/-- The record of a page. -/
def readRec (n p : Nat) (s : State) : Option JRec := match readPage (ringPage n p) s with | .sound b => some (recOf b) | _ => none

/-- The records of a sector with their positions (16 × sector + page), none in an interrupted erase (R242). -/
def sectorRecs (n : Nat) (s : State) : List (Nat × JRec) :=
  if (sectorHeld n s).isNone then []
  else (List.range 15).filterMap (fun i => (readRec n (i + 1) s).map (fun r => (16 * n + (i + 1), r)))

/-- Every record that reads. -/
def journalRecords (s : State) : List (Nat × JRec) := (usedSectors s).flatMap (fun n => sectorRecs n s)

/-- Pages torn in every mirror, in sectors with a sound header (R241). -/
def tornPages (s : State) : Nat :=
  ((usedSectors s).map (fun n => if (sectorHeld n s).isNone then 0
    else ((List.range 15).filter (fun i => readPage (ringPage n (i + 1)) s = .torn)).length)).sum

/-- The first page of a sector behind every page that is not erased. -/
def nextPage (n : Nat) (s : State) : Nat :=
  (List.range 16).foldl (fun m i =>
    if (mirrors s).any (fun j => (mir j s).read (ringPage n i) != erasedPage) then i + 1 else m) 0

/-! ### The ring's head -/

/-- A page program begins on the given mirrors (R233). -/
def progStart (p : Prog) (s : State) : State :=
  foldS (fun m s => emitOut (.page m (256 * p.page) p.bytes) s) p.mirrors { s with kpf := { s.kpf with prog := some p } }

/-- The next sector in ring order is opened with its header page when no record of it reads; what else stands in it is erased first
(R236, R242). Otherwise the record waits for compaction (R239). FIRST_SEQ is the SEQ of the record that waits. -/
def openHead (first : Nat) (s : State) : State :=
  let n := (s.kpf.headSector + 1) % journalSectors
  if sectorRecs n s = [] then
    let s := if sectorUsed n s then sectorErase n s else s
    let s : State := { s with kpf := { s.kpf with headSector := n, headPage := 16 } }
    progStart { kind := .header, mirrors := mirrors s, page := ringPage n 0
                bytes := sectorHeader (tapKey 2 s) (tget 0 s.kpf.erases n) first } s
  else s

/-- The next page that a mirror being copied to lacks (R234). -/
def copyNext (m : Nat) (s : State) : Option Nat :=
  let x := mir m s
  let y := mir (1 - m) s
  (y.pages.find? (fun e => tget [] x.pages e.1 != e.2)).map (·.1)

/-- The copy to a mirror goes on with its next page, a page that does not read erased after its sector has been erased; at the end the
ceiling tables follow and the mirror is in use again (R234). -/
def copyStep (m : Nat) (s : State) : State :=
  match copyNext m s with
  | some k =>
    let s := if (mir m s).read k = erasedPage then s
      else emitOut (.erase m (4096 * (k / 16)) 4096) (setMir m ((mir m s).erase (k / 16 * 16) 16) s)
    progStart { kind := .copy, mirrors := [m], page := k, bytes := (mir (1 - m) s).read k } s
  | none =>
    let y := mir (1 - m) s
    let tab := fun (t : Nat) (s : State) => match y.table t with
      | some v => emitOut (.table m (256 * tableBase t) v.start v.ceil) s
      | none => s
    let s := tab 1 (tab 0 (setMir m { mir m s with table0 := y.table0, table1 := y.table1 } s))
    jobDone .copyBack { s with kpf := { s.kpf with copyDue := 0, copying := false, fails := s.kpf.fails.set m 0 } }

/-- The keep port takes its next page when no program runs: format headers, then waiting records, on all mirrors in use; then, with no
flush, an admitted mission log page and the copy to a mirror that returns. -/
def keepNext (s : State) : State :=
  if s.kpf.prog.isSome || journalShut s then s
  else match s.kpf.formatDue, s.kpf.pages with
    | k :: _, _ =>
      progStart { kind := .format, mirrors := mirrors s, page := k, bytes := formatHeader (tapKey 2 s) s.fuses.fuseId } s
    | [], p :: _ =>
      if s.kpf.headPage ≤ 15 then
        progStart { kind := .record, mirrors := mirrors s, page := ringPage s.kpf.headSector s.kpf.headPage
                    bytes := p.recd.page (tapKey 2 s) } s
      else openHead p.recd.seq s
    | [], [] =>
      if s.nrg.flush ≠ .idle then s
      else match (if s.nrg.admitted.any (fun j => j.act == .log && j.begun) then s.kpf.logDue else []), copyMir s with
        | b :: _, _ => progStart { kind := .log, mirrors := mirrors s, page := logBase + s.kpf.logNext, bytes := fullPage b } s
        | [], some m => copyStep m s
        | [], none => s

/-- PENDING is the number of pages that wait to be written (R77). -/
def pendingUpdate (s : State) : State :=
  reserveUpdate { s with nrg := { s.nrg with pending := s.kpf.pages.length } }

/-- A composed page joins the waiting pages. -/
def pushPage (p : JPage) (s : State) : State :=
  keepNext (pendingUpdate { s with kpf := { s.kpf with pages := s.kpf.pages ++ [p], seq := s.kpf.seq + 1 } })

/-- Acts that still have something to write: a key record's slot may have been erased meanwhile. -/
def actLive (s : State) (a : JAct) : Bool := match a with | .key n => (vslot n s).mat != [] | _ => true

/-- JOURNAL_APPEND (R77, R233, R236): the oldest act that may take a page is composed with those that share it, unless
RESERVE_FULL holds it back. -/
def journalAppendS (s : State) : State :=
  let acts := s.kpf.acts.filter (actLive s)
  let s : State := { s with kpf := { s.kpf with acts := acts } }
  if !s.kpf.replayed || journalShut s || s.nrg.pfw || decide (s.nrg.nMax ≤ s.nrg.pending) then s
  else match acts.find? (actReady s) with
    | none => s
    | some a =>
      let g := takeGroup a (groupMax a s) acts
      let s : State := { s with kpf := { s.kpf with acts := g.2 } }
      let s := pushPage { recd := recordOf g.1 s.kpf.seq s, acts := g.1 } s
      mirrorSend (g.1.filterMap (fun a => match a with | .lease c v => some (c, v) | _ => none)) s

/-- Meaning of JOURNAL_APPEND. -/
def execJournalAppend (s : State) : Host.Outcome State Fault Refusal := act journalAppendS s

/-! ### Read-back and acknowledgement -/

/-- What an acknowledged act changes at once; key and lease acts wait for their units (R233). -/
def ackAct (r : JRec) (a : JAct) (s : State) : State :=
  let k := s.kpf
  match a with
  | .floorSet fs =>
    let dom := (s.grn.grain.custody.domains.map (·.1)).foldl (fun t d => tmod {} t d (fun x => { x with bootDue := true })) s.cus.dom
    let fl := (fs.zipIdx).foldl (fun t e => tset 0 t e.2 e.1) []
    { s with kpf := { k with floors := fl, anchorLost := false }, cus := { s.cus with dom := dom } }
  | .sealRec d src dg m => { s with kpf := { k with seals := tset ([], []) k.seals (4 * d + src) (dg, m) } }
  | .ckptDone t st _ => bump (cDevice 9) { s with kpf := { k with ckptPrev := k.ckptSeq, ckptSeq := st, ckptTable := t } }
  | .grain c q _ _ _ => { s with kpf := { k with copySeq := tset 0 k.copySeq c q } }
  | .keyErase n => { s with kpf := { k with keyRecs := tset {} k.keyRecs n {} } }
  | .key n => { s with kpf := { k with keyRecs := tset {} k.keyRecs n r, acked := k.acked ++ [a] } }
  | .lease c v => { s with kpf := { k with ceilings := tmod 0 k.ceilings c (max v), acked := k.acked ++ [a] } }
  | .buddy _ c v => { s with kpf := { k with buddyCeil := tmod 0 k.buddyCeil c (max v) } }
  | _ => s

/-- The acts of an acknowledged page (R233); an ANCHOR record that raises starts the burn of its fuse step (R244), a
BUDDY_LEASE record is answered with LEASE_ACK (19 R501), and a checkpoint that holds the west neighbour's ceilings lets it mirror
again (R503). -/
def ackPage (p : JPage) (s : State) : State :=
  let s := foldS (ackAct p.recd) p.acts s
  match p.acts with
  | .floor _ _ _ :: _ =>
    { s with kpf := { s.kpf with
      burnTo := some (s.fuses.anchor + 1, raiseFloors (floorList s) p.acts), burning := p.acts } }
  | .buddy m _ _ :: _ =>
    ringTo m (.leaseAck (p.acts.filterMap (fun a => match a with
      | .buddy _ c v => some (BitVec.ofNat 22 c, BitVec.ofNat 32 v)
      | _ => none))) s
  | .ckptDone _ st _ :: _ =>
    (match s.grv.fill with
     | some q =>
       if q ≤ st then
         ringTo ((memberNo s + groveSize s - 1) % max 1 (groveSize s)) (.control .mirrorReady)
           (modGrv (fun g => { g with fill := none }) s)
       else s
     | none => s)
  | _ => s

/-- The flush ends with its last page (R78). FLUSHING stays 1. -/
def flushMaybeDone (s : State) : State :=
  if s.nrg.flush = .pages ∧ s.kpf.pages = [] then { s with nrg := { s.nrg with flush := .done } } else s

/-- A programmed page has read back (R233-R236, 21 R546). A record is acknowledged, or written again on the next free page; a sector
whose header fails is passed over, an interrupted erase; a fixed page that fails is erased with its sector and written again (log
entry 13); the log goes on to its next page. -/
def progEnd (p : Prog) (ok : Bool) (s : State) : State :=
  match p.kind with
  | .record =>
    let s : State := { s with kpf := { s.kpf with headPage := s.kpf.headPage + 1 } }
    (match s.kpf.pages with
     | q :: rest => if ok then pendingUpdate (ackPage q (bump (cDevice 6) { s with kpf := { s.kpf with pages := rest } })) else s
     | [] => s)
  | .header =>
    if ok then
      let s : State := { s with kpf := { s.kpf with headPage := 1, freeSectors := s.kpf.freeSectors - 1 } }
      if s.kpf.freeSectors < 64 then ckptStart s else s
    else s
  | .format =>
    if ok then { s with kpf := { s.kpf with formatDue := s.kpf.formatDue.drop 1, formatted := true } }
    else keepEraseRange p.page sectorPages s
  | .log =>
    let s : State := { s with kpf := { s.kpf with logNext := s.kpf.logNext + 1 } }
    if ok then jobDone .log { s with
      kpf := { s.kpf with logDue := s.kpf.logDue.drop 1 }, env := { s.env with full := decide (logRange ≤ s.kpf.logNext) } }
    else s
  | .copy => s

/-- KEEP_PAGE_DONE (R233, R234): the program has ended, and `b0` and `b1` are the page as it reads back from the two mirrors. The flash
holds what was read; the page counts when it is what was written, on every mirror still in use. -/
def keepPageDoneS (b0 b1 : Bytes) (s : State) : State :=
  match s.kpf.prog with
  | none => s
  | some p =>
    let rb := fun (m : Nat) => fullPage (if m = 0 then b0 else b1)
    let s := onThe p.mirrors (fun m x => x.put p.page (rb m)) { s with kpf := { s.kpf with prog := none } }
    let s := foldS (fun m s => readBack m (b2n (rb m != p.bytes)) s) p.mirrors s
    let ok := p.mirrors.all (fun m => rb m == p.bytes || (p.kind != .copy && !mirUsed m s))
    flushMaybeDone (keepNext (progEnd p ok s))

/-- Meaning of KEEP_PAGE_DONE. -/
def execKeepPageDone (b0 b1 : Bytes) (s : State) : Host.Outcome State Fault Refusal := actAny (keepPageDoneS b0 b1) s

/-- KEEP_PAGE_TIMEOUT (R79): in a flush the incomplete page is left as far as it came, unacknowledged, and the next page follows. -/
def keepPageTimeoutS (s : State) : State :=
  match s.kpf.prog with
  | none => s
  | some p =>
    if s.nrg.flush ≠ .pages then s
    else
      let s := progStop s
      let s : State := if p.kind = .record then
          pendingUpdate { s with kpf := { s.kpf with headPage := s.kpf.headPage + 1, pages := s.kpf.pages.drop 1 } }
        else s
      flushMaybeDone (keepNext s)

/-- Meaning of KEEP_PAGE_TIMEOUT. -/
def execKeepPageTimeout (s : State) : Host.Outcome State Fault Refusal := actAny keepPageTimeoutS s

/-! ### Compaction (R239) -/

/-- The key of a record for liveness (R239): the anchor; domain and SRC; the slot for a key or its erase; the copy. -/
def JRec.key (r : JRec) : Option Nat :=
  match r.typ with
  | 1 => some 0
  | 2 => some (0x1000 + 4 * fieldLe r.payload 0 1 + fieldLe r.payload 1 1)
  | 4 => some 1
  | 5 | 6 => some (0x2000 + fieldLe r.payload 0 2)
  | 7 => some (0x4000 + fieldLe r.payload 0 1)
  | _ => none

/-- The record is live (R239). -/
def recordLive (all : List (Nat × JRec)) (prev : Nat) (r : JRec) : Bool :=
  if r.typ = 3 ∨ r.typ = 9 then decide (prev < r.seq)
  else match r.key with
    | none => false
    | some k => all.all (fun e => e.2.key != some k || decide (e.2.seq ≤ r.seq))

/-- The oldest sector that is not free, in ring order behind the head's; none when the head's is the only one. -/
def oldestSector (s : State) : Option Nat :=
  let l := (usedSectors s).filter (fun n => n != s.kpf.headSector && (sectorHeld n s).isSome)
  let age := fun n => (n + journalSectors - s.kpf.headSector) % journalSectors
  l.foldl (fun m n => match m with | none => some n | some x => if age n < age x then some n else some x) none

/-- A live record is written again at the head: a key record is wrapped anew for its new SEQ, where its slot holds the key. -/
def copyAct (r : JRec) (s : State) : JAct :=
  if r.typ = 5 ∧ (vslot (fieldLe r.payload 0 2) s).mat ≠ [] then .key (fieldLe r.payload 0 2) else .copy r.typ r.count r.payload

/-- A record waits to be written with the key of `r`, which will end its life. -/
def copyWaits (r : JRec) (s : State) : Bool :=
  s.kpf.acts.contains (copyAct r s) || s.kpf.pages.any (fun p => p.acts.contains (copyAct r s))

/-- One step of compaction: of the oldest sector, live records other than leases are copied to the head; a sector with no live record
is erased. -/
def compactStep (s : State) : State :=
  if !s.kpf.replayed then s
  else if journalShut s then keepDropped s
  else match oldestSector s with
    | none => s
    | some n =>
      let all := journalRecords s
      let live := ((all.filter (fun e => e.1 / 16 == n)).map (·.2)).filter (recordLive all s.kpf.ckptPrev)
      if live = [] then keepNext (sectorErase n s)
      else foldS (fun r s => if r.typ = 3 ∨ r.typ = 9 ∨ copyWaits r s then s else journalAct (copyAct r s) s) live s

/-! ### Replay -/

/-- Entries of a lease record's payload from an offset. -/
def leaseOf (r : JRec) (off : Nat) : List (Nat × Nat) :=
  (records r.payload off 8 r.count).map (fun e => (fieldLe e 0 4 % 2 ^ 22, fieldLe e 4 4))

/-- Records in the order of their sequence numbers. -/
def insertRec (e : Nat × JRec) : List (Nat × JRec) → List (Nat × JRec)
  | [] => [e]
  | x :: t => if e.2.seq ≤ x.2.seq then e :: x :: t else x :: insertRec e t
/-- Sorted by sequence number. -/
def sortRecs (l : List (Nat × JRec)) : List (Nat × JRec) := l.foldl (fun acc e => insertRec e acc) []

/-- One record read at start: seals, keys, copies and checkpoints (R238, R180, R139, R107). -/
def replayRec (r : JRec) (k : Kpf) : Kpf :=
  let p := r.payload
  match r.typ with
  | 2 => { k with seals := tset ([], []) k.seals (4 * fieldLe p 0 1 + fieldLe p 1 1) (slice p 4 48, slice p 52 32) }
  | 4 => { k with ckptPrev := k.ckptSeq, ckptSeq := fieldLe p 4 8, ckptTable := fieldLe p 0 1 }
  | 5 => { k with keyRecs := tset {} k.keyRecs (fieldLe p 0 2) r }
  | 6 => { k with keyRecs := tset {} k.keyRecs (fieldLe p 0 2) {} }
  | 7 => { k with copySeq := tset 0 k.copySeq (fieldLe p 0 1) (fieldLe p 4 8) }
  | 9 => { k with buddyCeil := (leaseOf r 4).foldl (fun t e => tmod 0 t e.1 (max e.2)) k.buddyCeil }
  | _ => k

/-- Ceilings raised by the LEASE records above a START_SEQ, of the contexts that `p` names (R238). -/
def raiseLeases (rs : List (Nat × JRec)) (start : Nat) (p : Nat → Bool) (t : Tab Nat) : Tab Nat :=
  rs.foldl (fun t e =>
    if e.2.typ = 3 ∧ start < e.2.seq then
      ((leaseOf e.2 0).filter (fun c => p c.1)).foldl (fun t c => tmod 0 t c.1 (max c.2)) t
    else t) t

/-- Ceilings restored (R238, R242): the newest complete table with the leases after its START_SEQ. The contexts of a torn page come
from the other table's page with the leases kept since its START_SEQ, where that page reads; else the older table is taken whole.
Without an older checkpoint every lease since the first is kept. -/
def replayCeilings (rs : List (Nat × JRec)) (s : State) : Tab Nat :=
  let k := s.kpf
  let older := fun (skip : Nat → Bool) =>
    raiseLeases rs k.ckptPrev skip (if k.ckptPrev = 0 then [] else tfilter skip (tableCeilings (1 - k.ckptTable) k.ckptPrev [] s))
  if k.ckptSeq = 0 then raiseLeases rs 0 (fun _ => true) []
  else
    let torn := tableTorn k.ckptTable k.ckptSeq s
    if torn.all (fun i => k.ckptPrev == 0 || (tableRead (1 - k.ckptTable) k.ckptPrev i s).isSome) then
      let t := raiseLeases rs k.ckptSeq (fun _ => true) (tableCeilings k.ckptTable k.ckptSeq torn s)
      if torn = [] then t else (older (fun c => torn.contains (c / 56))).foldl (fun t e => tmod 0 t e.1 (max e.2)) t
    else older (fun _ => true)

/-- ANCHOR_LOST (R246): to the SECURE and LIFECYCLE classes. -/
def anchorLost (s : State) : State :=
  emit .lifecycle 0x2041 srcKeep [] (emit .secure 0x2041 srcKeep []
    { s with kpf := { s.kpf with anchorLost := true, result := 0x2041 } })

/-- The anchor check of R245 over the ANCHOR records that read. -/
def anchorCheck (rs : List (Nat × JRec)) (s : State) : State :=
  let f := s.fuses.anchor
  let best := rs.foldl (fun (m : Option JRec) e =>
    if e.2.typ = 1 then
      match m with
      | none => some e.2
      | some x => if fieldLe x.payload 0 4 ≤ fieldLe e.2.payload 0 4 then some e.2 else some x
    else m) none
  match best with
  | none => if 0 < f then anchorLost s else s
  | some r =>
    let a := fieldLe r.payload 0 4
    let fl := (List.range 32).map (fun d => fieldLe r.payload (4 + 4 * d) 4)
    let s' : State := { s with kpf := { s.kpf with floors := (fl.zipIdx).foldl (fun t e => tset 0 t e.2 e.1) [] } }
    if a = f then s'
    else if a = f + 1 then { s' with kpf := { s'.kpf with burnTo := some (f + 1, fl), burning := [] } }
    else anchorLost s

/-- The blank keep flash of a device with keys (R235): everything but the two Grain copies is erased, and both headers are written. -/
def keepFormat (s : State) : State :=
  let l := eraseMirrors s
  let s := keepEraseRange (logBase) logRange (keepEraseRange 0 (tableBase 0) s)
  let s := onThe l (fun _ x => { x with table0 := none, table1 := none }) s
  let s := foldS (fun m s => emitOut (.erase m (256 * tableBase 0) (512 * tableRange)) s) l s
  let s := emit .info 0x2043 srcKeep [] { s with kpf := { s.kpf with
    result := 0x2043, seq := 1, headSector := journalSectors - 1, headPage := 16, freeSectors := journalSectors
    erases := [], formatDue := formatPages, logNext := 1 } }
  keepNext (if 0 < s.fuses.anchor then anchorLost s else s)

/-- Everything the records restore (R236, R238, R241, R245). The ring goes on behind the last record's sector. -/
def replayAll (s : State) : State :=
  let rs := sortRecs (journalRecords s)
  let torn := tornPages s
  let s := foldS (fun _ s => emit .info 0x2042 srcKeep [] { s with kpf := { s.kpf with result := 0x2042 } }) (List.range torn)
    (bumpBy (cDevice 7) torn s)
  let k := rs.foldl (fun k e => replayRec e.2 k) s.kpf
  let last := rs.getLast?
  let sec := match last with | some e => e.1 / 16 | none => journalSectors - 1
  let s : State := { s with kpf := { k with
    formatted := true, seq := ((last.map (·.2.seq)).getD 0) + 1, headSector := sec
    headPage := match last with | some _ => nextPage sec s | none => 16
    erases := (usedSectors s).foldl (fun t n => tset 0 t n ((sectorHeld n s).getD 0)) [] } }
  let s : State := { s with kpf := { s.kpf with ceilings := replayCeilings rs s, freeSectors := freeCount s } }
  anchorCheck rs s

/-- A mirror that was degraded before this CORE reset waits to be copied to, C1 work (R234); a keyless device writes nothing (R243). -/
def copyQueue (s : State) : State :=
  if s.kpf.copyDue = 0 || journalShut s then s else queueJobAs false .copyBack 3 none s

/-- The admitted copy begins: the mirror is erased, and the pages follow one by one (R234). -/
def copyBegin (s : State) : State :=
  let s : State := { s with kpf := { s.kpf with copying := true } }
  match copyMir s with
  | some m => keepNext (emitOut (.erase m 0 (256 * keepPages)) (setMir m {} s))
  | none => s

/-- JOURNAL_REPLAY (R235, R241, R243, R245): read once at each start, after step 6; a keyless device reads without the MAC and
writes nothing. -/
def journalReplayS (s : State) : State :=
  if s.kpf.replayed || !s.boot.romRunning || s.boot.phase == .rom || s.boot.phase == .fuses || s.boot.phase == .entropy then s
  else
    let s := deriveJmk { s with kpf := { s.kpf with replayed := true, keylessRead := s.boot.keyless } }
    if keepFormatted s then copyQueue (replayAll s)
    else if s.boot.keyless then (if 0 < s.fuses.anchor then anchorLost s else s)
    else copyQueue (keepFormat s)

/-- Meaning of JOURNAL_REPLAY. -/
def execJournalReplay (s : State) : Host.Outcome State Fault Refusal := act journalReplayS s

/-! ### Stored Grains -/

/-- The copy that the next STORE overwrites: the one with the lower sequence number (R107). -/
def storeCopy (s : State) : Nat := if tget 0 s.kpf.copySeq 0 ≤ tget 0 s.kpf.copySeq 1 then 0 else 1

/-- The pages of a copy: its blocks in index order, each at its posted length, with no gap (R235). -/
def copyPages (bs : Tab Bytes) : List Bytes := chunks 256 (bs.flatMap (·.2))

/-- A copy's pages programmed on a mirror whose range was erased; `bad` names those that read otherwise, with what they hold. -/
def Mirror.store (c : Nat) (ps : List Bytes) (bad : List (Nat × Bytes)) (x : Mirror) : Mirror :=
  let x := (ps.zipIdx).foldl (fun x e => x.put (grainBase c + e.2) e.1) (x.erase (grainBase c) grainRange)
  bad.foldl (fun x e => if e.1 < ps.length then x.put (grainBase c + e.1) e.2 else x) x

/-- Read-backs of a copy's pages on one mirror: runs of failing pages, each ended by a page that passes (R234). -/
def copyReadBack (m : Nat) (bad : List Nat) (s : State) : State :=
  (bad.foldl (fun (a : State × Option Nat) k =>
    (readBack m 1 (if a.2 = some k then a.1 else readBack m 0 a.1), some (k + 1))) (s, none)).1

/-- GRAIN_STORE_WRITE (R107, R236): the older copy's range is erased and the blocks are programmed on every mirror in use; `bad0` and
`bad1` name the pages that read back otherwise, with what they hold. When every page passes the GRAIN record follows; else the copy
stays as written and the store is owed. -/
def grainStore (bad0 bad1 : List (Nat × Bytes)) (s : State) : State :=
  let c := storeCopy s
  let ps := copyPages s.grn.storeBlocks
  let bad := fun (m : Nat) => ((if m = 0 then bad0 else bad1).filter (fun e =>
    decide (e.1 < ps.length) && fullPage e.2 != fullPage (ps.getD e.1 [])))
  let l := mirrors s
  let s := foldS (fun m s => emitOut (.erase m (256 * grainBase c) (256 * grainRange)) s) l s
  let s := foldS (fun m s => foldS (fun (e : Bytes × Nat) s => emitOut (.page m (256 * (grainBase c + e.2)) (fullPage e.1)) s) ps.zipIdx s) l s
  let s := onThe l (fun m x => x.store c ps (bad m)) s
  let s := foldS (fun m s => copyReadBack m ((bad m).map (·.1)) s) l s
  if !(l.all (fun m => bad m == [] || !mirUsed m s)) then s
  else
    let h := tget [] s.grn.storeBlocks 0
    let f := headFields h
    jobDone .store (journalAct (.grain c f.seq f.svn f.blocks (sha384 h))
      { s with grn := { s.grn with storeDue := false, storeBlocks := [] } })

end Sys2Proof.Machine
end

