-- ==== Sys2Proof/Machine/Vault.lean ====
section
/-!
DEFINITION. Machine/Vault.lean: the vault's slots and the KEY block's operations (05_heartwood_keys.md R123-R143, R552).
-/
namespace Sys2Proof.Machine

/-! ### Attributes (R124-R129) -/

/-- TYPE of an attribute word. -/
def attrType (a : W32) : Nat := bitsOf a.toNat 31 28
/-- PARAM. -/
def attrParam (a : W32) : Nat := bitsOf a.toNat 27 24
/-- USAGE. -/
def attrUsage (a : W32) : Nat := bitsOf a.toNat 23 20
/-- DEST. -/
def attrDest (a : W32) : Nat := bitsOf a.toNat 19 18
/-- EXPORT. -/
def attrExport (a : W32) : Bool := a.getLsbD 17
/-- PERSIST. -/
def attrPersist (a : W32) : Bool := a.getLsbD 16
/-- HOST. -/
def attrHost (a : W32) : Bool := a.getLsbD 14
/-- RIND. -/
def attrRind (a : W32) : Bool := a.getLsbD 13
/-- CUSTODY. -/
def attrCustody (a : W32) : Bool := a.getLsbD 12
/-- BOUGHS. -/
def attrBoughs (a : W32) : Nat := bitsOf a.toNat 11 0

/-- BITS of a loaded curve's record (15 R414). -/
def curveBits (r : Bytes) : Nat := fieldLe r 2 2
/-- A curve ID is present. -/
def curvePresent (id : Nat) (s : State) : Bool := decide (id < 3) || tget [] s.brl.curves id != []
/-- Byte length of a curve: 0 for one that is absent. -/
def curveLen (id : Nat) (s : State) : Nat :=
  match id with
  | 0 => 32 | 1 => 48 | 2 => 66
  | _ => (curveBits (tget [] s.brl.curves id) + 7) / 8

/-- Material length of an attribute word's type (R124). -/
def matLen (a : W32) (s : State) : Nat :=
  match attrType a with
  | 1 => 16 | 2 => 32 | 3 => 32 | 4 => 48 | 5 => curveLen (attrParam a) s | 6 => 32 | 7 => 64 | _ => 0

/-- The key occupies two slots (R124). -/
def spans (a : W32) (s : State) : Bool := decide (64 < matLen a s)

/-- The matrix's allowed types of a usage (R128). -/
def usageTypes (u : Nat) : List Nat :=
  match u with
  | 0 => [1, 2] | 1 => [1, 2, 7] | 2 => [2] | 3 => [2, 7] | 4 => [3, 4, 2] | 5 => [5, 6] | 6 => [1, 2, 3, 4] | _ => []

/-- The fields that R125 and R129 fix: PARAM by type, DEST by usage, DEST CHAIN for a fleet root. -/
def attrForm (slot : Nat) (a : W32) (s : State) : Bool :=
  (match attrType a with
   | 5 => true | 6 => decide (attrParam a ≤ 1) | 7 => decide (attrParam a ≤ 1) | _ => attrParam a == 0)
  && (if attrUsage a = 4 then decide (attrDest a ≤ 2) else attrDest a == 0)
  && (match s.grn.grain.canopy with
      | some c => !(s.grn.installed && c.fleetSlot == slot && attrUsage a == 4) || attrDest a == 1
      | none => true)

/-- A policy entry allows an attribute word (R127, 13 R356). -/
def polAllows (e : GSlotPol) (a : W32) : Bool :=
  e.types.getLsbD (attrType a) && e.usages.getLsbD (attrUsage a)
    && (attrUsage a != 4 || e.dest.getLsbD (attrDest a))
    && (!attrExport a || e.flags.getLsbD 0) && (!attrPersist a || e.flags.getLsbD 1) && (!attrSvnBound a || e.flags.getLsbD 2)
    && (!attrHost a || e.flags.getLsbD 3) && (!attrRind a || e.flags.getLsbD 4) && (!attrCustody a || e.flags.getLsbD 5)
    && decide (attrBoughs a &&& e.boughs.toNat = attrBoughs a)

/-- The slot policy allows an attribute word in a slot (R127). -/
def slotAllows (pol : List GSlotPol) (slot : Nat) (a : W32) : Bool :=
  pol.any (fun e => decide (e.first ≤ slot ∧ slot < e.first + e.num) && polAllows e a)

/-- The policy allows it for the slot, and for a spanning key for the next slot as well. -/
def policyAllows (pol : List GSlotPol) (slot : Nat) (a : W32) (s : State) : Bool :=
  slotAllows pol slot a && (!spans a s || slotAllows pol (slot + 1) a)

/-- Key check value (R126). -/
def kcvOf (mat : Bytes) : Nat := leNat ((hmac384 mat (ascii "HW-KCV")).take 3)

/-! ### Slots -/

/-- The slot holds a key that spans into the next one, whatever curves are loaded now (R124). -/
def spansNow (n : Nat) (s : State) : Bool := (vslot n s).mat != [] && (vslot (n + 1) s).span

/-- Replace a slot. -/
def setVslot (n : Nat) (v : VSlot) (s : State) : State := { s with vault := { s.vault with slots := tset {} s.vault.slots n v } }

/-- A slot is EMPTY or the second slot of a spanning key: it cannot be named (R124, R130). -/
def slotEmpty (n : Nat) (s : State) : Bool := (vslot n s).mat == [] || (vslot n s).span

/-- A SecY without the SAs that name a slot, and whether its current transmit SA was one of them (12 R332). -/
def secyRetire (n : Nat) (y : Secy) : Secy × Bool :=
  let hit := match y.cur with
    | some (sc, an) => (tget {} y.tx (4 * sc + an)).key != [] && (tget {} y.tx (4 * sc + an)).slot == n
    | none => false
  ({ y with rx := y.rx.filter (fun e => e.2.slot != n), tx := y.tx.filter (fun e => e.2.slot != n) }, hit)

/-- The SAs of a port that name a slot are retired; a current transmit SA with TX_SA_LOST. -/
def portRetire (n p : Nat) (s : State) : State :=
  foldS (fun (e : Nat × Lport) s =>
    let r := secyRetire n e.2.secy
    let s := { s with lnk := { s.lnk with ports := tmod {} s.lnk.ports p (fun x =>
      { x with lports := tset {} x.lports e.1 { e.2 with secy := r.1 } }) } }
    if r.2 then emit .link 0x4010 (srcPort p e.1) [] (bump (cPort p e.1 29) s) else s) (tget {} s.lnk.ports p).lports s

/-- The cycle in which a slot's GEN changes: every Burl engine drops its cached public values of the handle (15 R419), and the SAs
that name it are retired (12 R332). -/
def cacheDrop (n : Nat) (s : State) : State :=
  let s := { s with brl := { s.brl with
    eng := s.brl.eng.foldl (fun t e => tset {} t e.1 { e.2 with cache := e.2.cache.filter (fun c => c.1 != n) }) [] } }
  foldS (fun (e : Nat × Port) s => portRetire n e.1 s) s.lnk.ports s

/-- Material into a slot: GEN counts, the KCV follows, a spanning key takes the next slot (R124, R126). -/
def slotWrite (n : Nat) (mat : Bytes) (a : W32) (clear : Bool) (s : State) : State :=
  let s := cacheDrop n s
  let o := vslot n s
  let s := setVslot n { mat := mat, attr := a, gen := o.gen + 1, kcv := kcvOf mat, clear := clear, old := o.mat } s
  if decide (64 < mat.length) then setVslot (n + 1) { span := true, gen := (vslot (n + 1) s).gen + 1 } s else s

/-- A slot made EMPTY: GEN counts, the old material is kept until its last request ends (R126, R141). -/
def slotErase (n : Nat) (s : State) : State :=
  let s := cacheDrop n s
  let o := vslot n s
  let s := if spansNow n s then setVslot (n + 1) { gen := (vslot (n + 1) s).gen + 1 } s else s
  let s := setVslot n { gen := o.gen + 1, old := o.mat } s
  { s with vault := { s.vault with staged := tset {} s.vault.staged n {}, rewrap := tset 0 s.vault.rewrap n 0 } }

/-- Erase with the journalled erase record of a persisted slot (R141). -/
def slotEraseJ (n : Nat) (s : State) : State :=
  let p := attrPersist (vslot n s).attr
  let s := slotErase n s
  if p then journalAct (.keyErase n) s else s

/-! ### Requesters (R130) -/

/-- Who names a slot. -/
inductive KeyUser where
  | bough (b : Nat) | rind | custody | host
deriving DecidableEq, Repr

/-- The requester's bit in ATTR (R130). -/
def userBit (u : KeyUser) (a : W32) : Bool :=
  match u with
  | .bough b => a.getLsbD b
  | .rind => attrRind a
  | .custody => attrCustody a
  | .host => attrHost a

/-- The four checks of R130 for a usage and the types it takes; the code of the first that fails. -/
def keyCheck (u : KeyUser) (usage : Nat) (types : List Nat) (n : Nat) (s : State) : Option W16 :=
  if n < 64 ∨ 4096 ≤ n then some 0x5008
  else
    let v := vslot n s
    if slotEmpty n s then some 0x5001
    else if !userBit u v.attr then some 0x5008
    else if attrUsage v.attr ≠ usage ∨ !types.contains (attrType v.attr) then some 0x5002
    else if s.boot.keyless && !v.clear then some 0x5007
    else none

/-- The SECURE event of a refused key operation (R131). -/
def keySecure (code : W16) (s : State) : State := emit .secure code (srcTree 1) [] s

/-! ### The KEY block -/

/-- An operation's end with its result (R131, R132). -/
def keyEnd (code : W16) (s : State) : State :=
  let s : State := { s with vault := { s.vault with busy := false, ready := true, result := code } }
  if code = 0 then s else if code = 0x5011 then starved s else keySecure code s

/-- KEY_BUF's first `n` bytes. -/
def keyBufBytes (n : Nat) (s : State) : Bytes := mread 0 s.vault.buf 0 n

/-- An operation begins: the buffer is zeroed once its input is taken; READY clears. -/
def keyStart (s : State) : State :=
  { s with vault := { s.vault with buf := [], bufRead := [], bufSecret := false, ready := false, busy := true } }

/-- Output into KEY_BUF. -/
def keyOut (secret : Bool) (b : Bytes) (s : State) : State :=
  { s with vault := { s.vault with buf := mwrite 0 [] 0 b, bufSecret := secret, bufRead := [] } }

/-- A KEY_CMD that finds an operation running is ignored. -/
def keyOp (f : State → State) (s : State) : State := if s.vault.busy then s else f s

/-- A clear write to a slot is accepted (R137). -/
def clearAllowed (slot : Nat) (s : State) : Bool :=
  match s.boot.lcs with
  | .sapling | .grafted => true
  | .standing => match s.vault.window with
      | some (f, c) => decide (f ≤ slot ∧ slot < f + c)
      | none => false
  | _ => false

/-- A completed clear write inside the window: once every slot of the range has been written the window closes (R138). -/
def windowNote (slot : Nat) (s : State) : State :=
  match s.vault.window with
  | none => s
  | some (f, c) =>
    let w := if s.vault.windowWritten.contains slot then s.vault.windowWritten else slot :: s.vault.windowWritten
    if (List.range c).all (fun i => w.contains (f + i)) then
      { s with vault := { s.vault with window := none, windowWritten := [] } }
    else { s with vault := { s.vault with windowWritten := w } }

/-- What a write operation brings: the attribute word, where its material comes from, and the key it needs. -/
structure KeyInput where
  attr : W32
  clear : Bool
  /-- The blob with its scheme, empty for clear material. -/
  blob : Bytes := []
  mat : Bytes := []
deriving DecidableEq, Repr

/-- The input in KEY_BUF: clear material (R137) or an import blob (R133). -/
def keyInput (clear : Bool) (s : State) : KeyInput :=
  let b := keyBufBytes 16384 s
  if clear then
    let a := BitVec.ofNat 32 (fieldLe b 0 4)
    { attr := a, clear := true, mat := slice b 8 (matLen a s) }
  else { attr := BitVec.ofNat 32 (fieldLe b 8 4), clear := false, blob := b }

/-- SCHEME of a blob. -/
def blobScheme (b : Bytes) : Nat := fieldLe b 6 2

/-- Tests 1 to 7 of R552 in their order; `replace` for REPLACE. A slot with an armed replacement is occupied too: an IMPORT gets its
0x500D (Coincidences). -/
def keyWriteTests (replace : Bool) (slot : Nat) (i : KeyInput) (s : State) : Option W16 :=
  let v := vslot slot s
  let kek := s.vault.wrap.toNat
  let needs := (!i.clear && blobScheme i.blob == 1) || (attrPersist i.attr && !s.boot.keyless)
  if i.clear && !clearAllowed slot s then some 0x5006
  else if slot < 64 then some 0x5008
  else if !i.clear && blobScheme i.blob == 1 && s.boot.keyless then some 0x5007
  else if needs && tapKey 46 s == [] then some (if s.vault.erased then 0x5007 else 0x500B)
  else match (if !i.clear && blobScheme i.blob == 2 then keyCheck .host 3 [2] kek s else none) with
  | some c => some c
  | none =>
    if !(usageTypes (attrUsage i.attr)).contains (attrType i.attr) then some 0x5002
    else if !attrForm slot i.attr s || !policyAllows s.grn.grain.slotPolicy slot i.attr s
        && !(attrType i.attr == 5 && !curvePresent (attrParam i.attr) s && slotAllows s.grn.grain.slotPolicy slot i.attr)
      then some 0x5009
    else if replace && !slotEmpty slot s && (attrType i.attr != attrType v.attr || attrParam i.attr != attrParam v.attr) then
      some 0x5009
    else if attrType i.attr = 5 ∧ !curvePresent (attrParam i.attr) s then some 0x5031
    else if replace then
      if slotEmpty slot s then some 0x5001
      else if tget {} s.vault.staged slot ≠ {} then some 0x500D else none
    else if !i.clear && tget {} s.vault.staged slot != {} then some 0x500D
    else if v.mat ≠ [] ∨ v.span then some 0x5003
    else if spans i.attr s && ((vslot (slot + 1) s).mat != [] || (vslot (slot + 1) s).span) then some 0x5003
    else none

/-- Candidate method of FIPS 186-5 over the TIK seed's EC part: a candidate c below n - 1 gives the scalar c + 1 (R118). -/
def tikScalar (tik : Bytes) : Nat :=
  let b := tik.drop 64 ++ kdfH tik "KEY-TIK-EC" [] 384
  let c0 := beNat (b.take 48)
  let c1 := beNat (slice b 16 48)
  if c0 + 1 < curveP384.n then c0 + 1 else c1 % (curveP384.n - 1) + 1

/-- The TIK seed of slots 38 and 39. -/
def tikSeed (s : State) : Bytes := tapKey 38 s ++ tapKey 39 s

/-- The KEK of a blob (R133): by the transport import key, or the UNWRAP slot. -/
def blobKek (b : Bytes) (s : State) : Bytes :=
  if blobScheme b = 1 then
    let tik := tikSeed s
    let dk := (kemKeyGen kem1024 (tik.take 32) (slice tik 32 32)).2
    let ssk := kemDecaps kem1024 dk (slice b 0x30 1568)
    let p := slice b 0x650 97
    let x := fieldBe p 1 48
    let y := fieldBe p 49 48
    let sse := match ecMul curveP384 (tikScalar tik) (some (x, y)) with | some (ex, _) => beBytes 48 ex | none => []
    if onCurve curveP384 x y ∧ p.head? = some 4 then
      kdfH (ssk ++ sse) "KEY-IMPORT" (slice b 0x10 16 ++ (slice b 8 4).reverse) 256
    else []
  else (vslot s.vault.wrap.toNat s).mat

/-- Test 8 of R552: the tag and FUSE_ID, then KEY_LEN, then the blob's KCV; the material when all hold. -/
def blobOpen (b : Bytes) (a : W32) (s : State) : Except W16 Bytes :=
  let n := fieldLe b 0x2C 2
  let off := if blobScheme b = 1 then 0x6B1 else 0x30
  let kek := blobKek b s
  let ct := slice b off n
  let iv := slice b 0x20 12
  let ok := slice b 0 4 == ascii "HWK1" && fieldLe b 4 2 == 1 && (blobScheme b == 1 || blobScheme b == 2) && kek != []
    && decide (gcmTag kek iv (b.take 0x30) ct = slice b (off + n) 16)
  if !ok || slice b 0x10 16 != s.fuses.fuseId then .error 0x5005
  else if n ≠ matLen a s then .error 0x5009
  else
    let m := gcmCrypt kek iv ct
    if kcvOf m ≠ fieldLe b 0x0C 3 then .error 0x5004 else .ok m

/-- The material of an input, or the code of the failing test (R552 test 8). -/
def keyMaterial (i : KeyInput) (s : State) : Except W16 Bytes :=
  if i.clear then .ok i.mat else blobOpen i.blob i.attr s

/-- A written slot's record is journalled before the slot is reported READY (R139, R550). -/
def keyPersist (slot : Nat) (s : State) : State :=
  if attrPersist (vslot slot s).attr && !journalShut s then
    journalAct (.key slot) { s with vault := { s.vault with awaiting := s.vault.awaiting ++ [slot] } }
  else if attrPersist (vslot slot s).attr then keyEnd 0 (journalAct (.key slot) s)
  else keyEnd 0 s

/-- WRITE_CLEAR and IMPORT (R134, R137, R552): an empty slot takes the material, or nothing changes. -/
def keyInstall (clear : Bool) (slot : Nat) (s : State) : State :=
  let i := keyInput clear s
  match keyWriteTests false slot i s with
  | some c => keyEnd c (keyStart s)
  | none =>
    match keyMaterial i s with
    | .error c => keyEnd c (keyStart s)
    | .ok m =>
      let s := slotWrite slot m i.attr clear (keyStart s)
      keyPersist slot (if clear then windowNote slot s else s)

/-- Meaning of WRITE_CLEAR. -/
def execKeyWriteClear (slot : BitVec 12) (s : State) : Host.Outcome State Fault Refusal :=
  act (keyOp (keyInstall true slot.toNat)) s

/-- Meaning of IMPORT. -/
def execKeyImport (slot : BitVec 12) (s : State) : Host.Outcome State Fault Refusal :=
  act (keyOp (keyInstall false slot.toNat)) s

/-- The swap of a replacement for every consumer at once (R135, R136). -/
def replaceCommit (slot : Nat) (x : Staged) (s : State) : State :=
  let s := slotWrite slot x.mat x.attr x.clear s
  { s with vault := { s.vault with staged := tset {} s.vault.staged slot {} } }

/-- REPLACE (R135, R552): staged, its KCV compared, committed at once or armed for the edge of AT_SLOT. -/
def keyReplaceS (clear : Bool) (slot : Nat) (s : State) : State :=
  let i := keyInput clear s
  match keyWriteTests true slot i s with
  | some c => keyEnd c (keyStart s)
  | none =>
    match keyMaterial i s with
    | .error c => keyEnd c (keyStart s)
    | .ok m =>
      let x : Staged := { mat := m, attr := i.attr, kcv := kcvOf m, clear := clear, at_ := s.vault.arg }
      if x.kcv ≠ s.vault.expectKcv then keyEnd 0x5004 (keyStart s)
      else
        let s := keyStart s
        let s := if clear then windowNote slot s else s
        if s.vault.arg = 0 then keyPersist slot (replaceCommit slot x s)
        else keyEnd 0 { s with vault := { s.vault with staged := tset {} s.vault.staged slot x } }

/-- Meaning of REPLACE. -/
def execKeyReplace (slot : BitVec 12) (clear : Bool) (s : State) : Host.Outcome State Fault Refusal :=
  act (keyOp (keyReplaceS clear slot.toNat)) s

/-- EXPORT (R130, R132): the slot wrapped under KEY_WRAP as a blob of R133's scheme 2, read-once. -/
def keyExportS (slot : Nat) (s : State) : State :=
  let v := vslot slot s
  let w := s.vault.wrap.toNat
  let wv := vslot w s
  let code : Option W16 :=
    if slot < 64 ∨ w < 64 then some 0x5008
    else if slotEmpty slot s || slotEmpty w s then some 0x5001
    else if !attrHost wv.attr then some 0x5008
    else if !attrExport v.attr || attrUsage wv.attr != 2 || attrType wv.attr != 2 then some 0x500A
    else if s.boot.keyless && !(v.clear && wv.clear) then some 0x5007
    else none
  let s := keyStart s
  match code with
  | some c => keyEnd c s
  | none =>
    match drbgRequest 4 false 12 s with
    | none => keyEnd 0x5011 s
    | some (iv, s) =>
      let hd := ascii "HWK1" ++ d2 1 ++ d2 2 ++ d4 v.attr.toNat ++ leBytes 3 v.kcv ++ [0] ++ s.fuses.fuseId ++ iv
        ++ d2 v.mat.length ++ d2 0
      let ct := gcmCrypt wv.mat iv v.mat
      keyEnd 0 (keyOut true (hd ++ ct ++ gcmTag wv.mat iv hd ct) s)

/-- EXPORT's command: it waits for its IV (06 R152). -/
def keyExportCmd (slot : Nat) (s : State) : State := orWait (.keyExport slot) (keyExportS slot) (keyStart s)

/-- Meaning of EXPORT. -/
def execKeyExport (slot : BitVec 12) (s : State) : Host.Outcome State Fault Refusal := act (keyOp (keyExportCmd slot.toNat)) s

/-- ERASE_SLOT (R141): an armed replacement is cancelled with it. -/
def keyEraseSlotS (slot : Nat) (s : State) : State :=
  let s := keyStart s
  if slot < 64 then keyEnd 0x5008 s
  else if slotEmpty slot s then keyEnd 0x5001 s
  else keyEnd 0 (slotEraseJ slot s)

/-- Meaning of ERASE_SLOT. -/
def execKeyEraseSlot (slot : BitVec 12) (s : State) : Host.Outcome State Fault Refusal :=
  act (keyOp (keyEraseSlotS slot.toNat)) s

/-- INFO (R126): ATTR, GEN, KCV and flags of a slot; slots 0 to 63 are the Taproot's (R123). -/
def keyInfoS (slot : Nat) (s : State) : State :=
  let s := keyStart s
  if slot < 64 then keyEnd 0x5008 s
  else
    let v := vslot slot s
    keyEnd 0 { s with vault := { s.vault with
      info := BitVec.ofNat 64 (v.kcv * 2 ^ 40 + v.gen.toNat * 2 ^ 32 + v.attr.toNat),
      infoExt := BitVec.ofNat 3 (4 * b2n v.span + 2 * b2n v.persisted + b2n v.clear) } }

/-- Meaning of INFO. -/
def execKeyInfo (slot : BitVec 12) (s : State) : Host.Outcome State Fault Refusal := act (keyOp (keyInfoS slot.toNat)) s

/-- RCV_CHALLENGE (R138): a fresh public challenge at KEY_BUF 0x000. -/
def rcvChallengeS (s : State) : State :=
  let s := keyStart s
  match drbgRequest 4 false 32 s with
  | none => keyEnd 0x5011 s
  | some (c, s) => keyEnd 0 (keyOut false c { s with vault := { s.vault with challenge := some c } })

/-- RCV_CHALLENGE's command. -/
def rcvChallengeCmd (t : Nat) (s : State) : State := orWait .rcvChallenge rcvChallengeS (keyStart (atTime t s))

/-- Meaning of RCV_CHALLENGE. -/
def execRcvChallenge (t : Nat) (s : State) : Host.Outcome State Fault Refusal := act (keyOp (rcvChallengeCmd t)) s

/-- A key block signs for the owner under the installed Grain's SIGNERS section (R138, 17 R457): a fused owner key whose mask bit
is set, OWNER_RULE met, every signature that it requires verifying. Without a Grain every fused owner key may sign with a dual block. -/
def ownerSigned (g : Signed) (msg : Bytes) (s : State) : Bool :=
  let i := s.fuses.ownerKeys.findIdx? (fun k => k == g.digest && k != [])
  let algs := g.keys.map (·.alg)
  match i with
  | none => false
  | some i =>
    (if s.grn.installed then
        ruleMet s.grn.grain.signers.ownerRule algs && ruleMet s.grn.grain.signers.ownerRule (verifiedAlgs g msg)
          && s.grn.grain.signers.ownerMask.getLsbD i
     else ruleMet 2 algs && ruleMet 2 (verifiedAlgs g msg))

/-- A recovery token's checks (R138). -/
def rcvTokenOk (b : Bytes) (s : State) : Bool :=
  let f := fieldLe b 4 2
  let c := fieldLe b 6 2
  let l := fieldLe b 0x38 4
  slice b 0 4 == ascii "KRT1" && decide (64 ≤ f) && decide (1 ≤ c) && decide (f + c ≤ 4096) && decide (1 ≤ l ∧ l ≤ 3600)
    && slice b 8 16 == s.fuses.fuseId && s.vault.challenge == some (slice b 0x18 32)
    && (match parseSigned (b.drop 0x40) with | some g => ownerSigned g (b.take 0x40) s | none => false)

/-- RCV_OPEN (R138): opens the window, or refuses and consumes the challenge. -/
def rcvOpenS (s : State) : State :=
  let b := keyBufBytes 16384 s
  let ok := rcvTokenOk b s
  let s := keyStart (if ok then s else { s with vault := { s.vault with challenge := none } })
  if ok then
    keyEnd 0 { s with vault := { s.vault with
      window := some (fieldLe b 4 2, fieldLe b 6 2), windowEnd := s.now + fieldLe b 0x38 4 * psS, windowWritten := [] } }
  else keyEnd 0x500C s

/-- Meaning of RCV_OPEN. -/
def execRcvOpen (s : State) : Host.Outcome State Fault Refusal := act (keyOp rcvOpenS) s

/-- RECOVERY_WINDOW_EXPIRY (R138). -/
def recoveryWindowExpiryS (s : State) : State := { s with vault := { s.vault with window := none, windowWritten := [] } }

/-- Meaning of RECOVERY_WINDOW_EXPIRY. -/
def execRecoveryWindowExpiry (s : State) : Host.Outcome State Fault Refusal := act recoveryWindowExpiryS s

/-- KEY_BUF_READ (R132): EARLY before READY; a read-once word reads once, then zero with TWICE. -/
def keyBufReadS (w : Nat) (s : State) : State :=
  let v := s.vault
  if !v.ready then emitOut (.value 0) { s with vault := { v with early := true } }
  else
    let x := leNat (mread 0 v.buf (4 * w) 4)
    if !v.bufSecret then emitOut (.value (BitVec.ofNat 64 x)) s
    else if tget false v.bufRead w then emitOut (.value 0) { s with vault := { v with twice := true } }
    else emitOut (.value (BitVec.ofNat 64 x)) { s with vault := { v with bufRead := tset false v.bufRead w true } }

/-- Meaning of KEY_BUF_READ. -/
def execKeyBufRead (w : Fin 4096) (s : State) : Host.Outcome State Fault Refusal := act (keyBufReadS w.val) s

/-- KEY_RECORD_JOURNALLED (R139): the slot's record has been acknowledged; the operation that waited for it becomes READY. -/
def keyRecordJournalledS (slot : Nat) (s : State) : State :=
  if s.kpf.acked.contains (.key slot) then
    let s : State := { s with kpf := { s.kpf with acked := s.kpf.acked.erase (.key slot) } }
    let v := vslot slot s
    let s := if v.mat = [] then s else setVslot slot { v with persisted := true } s
    if s.vault.awaiting.contains slot then
      let aw := s.vault.awaiting.erase slot
      let s : State := { s with vault := { s.vault with awaiting := aw } }
      if aw = [] ∧ s.vault.busy then keyEnd 0 s else s
    else s
  else s

/-- Meaning of KEY_RECORD_JOURNALLED. -/
def execKeyRecordJournalled (slot : BitVec 12) (s : State) : Host.Outcome State Fault Refusal :=
  act (keyRecordJournalledS slot.toNat) s

/-- One step of the rewrap (R140): the next SVN_BOUND record still wrapped under an older version is written again under the new STORE_B. -/
def keyRewrapS (s : State) : State :=
  match s.vault.rewrap with
  | [] => s
  | (n, _) :: _ => journalAct (.key n) { s with vault := { s.vault with rewrap := tset 0 s.vault.rewrap n 0 } }

/-! ### Persisted keys at installation (R127, R139, R140) -/

/-- The wrap key of version `v`, by hashing down from GBK of version `v + n` (R140). -/
def storeBAt (gbk : Bytes) (n : Nat) : Bytes := keyStoreB (ladderDown n gbk)

/-- The steps down from the installed version at which a record's tag verifies, with its material. -/
def findVersion (gbk iv aad ct tag : Bytes) : Nat → Nat → Option (Nat × Bytes)
  | 0, _ => none
  | f + 1, n =>
    let k := storeBAt gbk n
    if gcmTag k iv aad ct = tag then some (n, gcmCrypt k iv ct) else findVersion gbk iv aad ct tag f (n + 1)

/-- One key record loaded into its slot, or EMPTY with 0x500E where no reachable key opens it (R139, R140). -/
def loadKey (slot : Nat) (r : JRec) (s : State) : State :=
  let p := r.payload
  let a := BitVec.ofNat 32 (fieldLe p 4 4)
  let g := BitVec.ofNat 8 (fieldLe p 8 1)
  let body := p.drop 12
  let ct := body.take (body.length - 16)
  let tag := body.drop (body.length - 16)
  let iv := beBytes 8 r.seq ++ List.replicate 4 0
  let aad := keyAad slot a g
  let put := fun (m : Bytes) (s : State) =>
    let s := setVslot slot { mat := m, attr := a, gen := g, kcv := kcvOf m, persisted := true } s
    if 64 < m.length then setVslot (slot + 1) { span := true, gen := (vslot (slot + 1) s).gen } s else s
  if attrSvnBound a then
    match findVersion (tapKey 5 s) iv aad ct tag (s.grn.grain.svn + 1) 0 with
    | none => keySecure 0x500E s
    | some (n, m) =>
      let s := put m s
      if n = 0 then s else { s with vault := { s.vault with rewrap := tset 0 s.vault.rewrap slot n } }
  else
    let k := tapKey 46 s
    if k ≠ [] ∧ gcmTag k iv aad ct = tag then put (gcmCrypt k iv ct) s else keySecure 0x500E s

/-- Every persisted key loaded at the first installation of a start with keys. -/
def loadKeys (s : State) : State :=
  if journalShut s then s else foldS (fun (e : Nat × JRec) s => loadKey e.1 e.2 s) s.kpf.keyRecs s

/-- A rise of the security version leaves every SVN_BOUND record to be rewrapped (R140). -/
def markRewrap (s : State) : State :=
  foldS (fun (e : Nat × VSlot) s =>
    if e.2.persisted && attrSvnBound e.2.attr then
      { s with vault := { s.vault with rewrap := tset 0 s.vault.rewrap e.1 1 } } else s) s.vault.slots s

/-- Slots whose ATTR the new policy does not allow are erased (R127). -/
def policyErase (s : State) : State :=
  let pol := s.grn.grain.slotPolicy
  foldS (fun (e : Nat × VSlot) s =>
    let ok := slotAllows pol e.1 e.2.attr && (!spansNow e.1 s || slotAllows pol (e.1 + 1) e.2.attr)
    if e.2.mat != [] && !ok then slotEraseJ e.1 s else s) s.vault.slots s

/-- The vault side of the erase line (R142): every slot EMPTY, operations in flight lost, KEY_BUF zero. GEN and the flags that
are not material stay. -/
def vaultErase (s : State) : State :=
  let v := s.vault
  let slots := v.slots.foldl (fun t e => tset {} t e.1 { gen := e.2.gen + b2n (e.2.mat != [] || e.2.span), old := e.2.mat }) []
  let s := dropWaits (fun r => match r with | .rcvChallenge | .keyExport _ => true | _ => false) s
  { s with ent := { s.ent with dramKeysDue := [], hsVDue := false }, vault := { v with
    slots := slots, tap := [], staged := [], rewrap := [], buf := [], bufRead := [], bufSecret := false, erased := true,
    awaiting := [], busy := false, ready := v.ready || v.busy, result := if v.busy then 0x5007 else v.result } }

/-- VAULT_ZEROIZE_DONE (R142): the SRAM holds zeros. -/
def vaultZeroizeDoneS (s : State) : State :=
  if s.vault.erased then
    { s with vault := { s.vault with
      slots := s.vault.slots.foldl (fun t e => tset {} t e.1 { e.2 with old := [] }) [] } }
  else s

/-- Meaning of VAULT_ZEROIZE_DONE. -/
def execVaultZeroizeDone (s : State) : Host.Outcome State Fault Refusal := act vaultZeroizeDoneS s

end Sys2Proof.Machine
end

