-- ==== Sys2Proof/Machine/Sap.lean ====
section
/-!
DEFINITION. Machine/Sap.lean: the sap port and the sap operations that are not Canopy's or MKA's (14_leaf_isa.md R396-R401;
05 R128-R131).
-/
namespace Sys2Proof.Machine

/-- A tag of a leaf's sap port. -/
def sapTag (l t : Nat) (s : State) : SapTag := tget {} (leafAt l s).tags t
/-- Replace a tag. -/
def setSapTag (l t : Nat) (x : SapTag) (s : State) : State := modLeaf l (fun y => { y with tags := tset {} y.tags t x }) s

/-- A descriptor of operations 0x01 to 0x20 (R400). -/
structure SapDesc where
  key : Nat
  flags : Nat
  src : Nat
  srcLen : Nat
  dst : Nat
  aux : Nat
  auxLen : Nat
  outKey : Nat
  outAttr : W32
  outLen : Nat
  rsv : Nat

/-- The 32 bytes of a descriptor. -/
def sapDesc (b : Bytes) : SapDesc :=
  { key := fieldLe b 0 2, flags := fieldLe b 2 2, src := fieldLe b 4 4, srcLen := fieldLe b 8 4, dst := fieldLe b 0xC 4,
    aux := fieldLe b 0x10 4, auxLen := fieldLe b 0x14 2, outKey := fieldLe b 0x16 2,
    outAttr := BitVec.ofNat 32 (fieldLe b 0x18 4), outLen := fieldLe b 0x1C 2, rsv := fieldLe b 0x1E 2 }

/-- FLAGS.FIRST. -/
def SapDesc.first (d : SapDesc) : Bool := bitOf d.flags 0
/-- FLAGS.LAST. -/
def SapDesc.last (d : SapDesc) : Bool := bitOf d.flags 1
/-- FLAGS.HMAC_384. -/
def SapDesc.hmac384 (d : SapDesc) : Bool := bitOf d.flags 2
/-- FLAGS.OUT_OPEN. -/
def SapDesc.outOpen (d : SapDesc) : Bool := bitOf d.flags 3

/-- A hash or MAC, which may span several requests (R401). -/
def sapSpans (op : Nat) : Bool := decide (0x09 ≤ op ∧ op ≤ 0x17)

/-- Block size of a spanning operation. -/
def sapBlock (op : Nat) (d : SapDesc) : Nat :=
  match op with
  | 0x0D | 0x0E => if d.hmac384 then 128 else 64
  | 0x10 => 64 | 0x11 | 0x12 => 128 | 0x13 => 136 | 0x14 => 104 | 0x15 => 72 | 0x16 => 168 | 0x17 => 136 | _ => 16

/-- Slot usage and types that an operation needs, none for an operation without a key (R128, R401). -/
def sapUsage (op : Nat) : Option (Nat × List Nat) :=
  if op = 0x01 ∨ op = 0x03 ∨ op = 0x05 ∨ op = 0x07 then some (0, [1, 2])
  else if op = 0x02 ∨ op = 0x04 ∨ op = 0x06 ∨ op = 0x08 then some (1, [1, 2])
  else if op = 0x0D ∨ op = 0x0E then some (6, [1, 2, 3, 4])
  else if 0x09 ≤ op ∧ op ≤ 0x0F then some (6, [1, 2, 3, 4])
  else if op = 0x18 then some (4, [2, 3, 4])
  else none

/-- The operation is one of the table's generic ones. -/
def sapKnown (op : Nat) : Bool := decide (0x01 ≤ op ∧ op ≤ 0x18) || op == 0x20

/-- Bytes of output on success, the nominal output. -/
def sapOutLen (op : Nat) (d : SapDesc) : Nat :=
  match op with
  | 0x01 | 0x02 | 0x03 | 0x04 | 0x05 | 0x06 => d.srcLen
  | 0x07 => d.srcLen + 16
  | 0x08 => d.srcLen - 16
  | 0x0A | 0x0C | 0x0E => 0
  | 0x18 => if d.outOpen then d.outLen else 0
  | 0x20 => d.outLen
  | _ =>
    if !d.last then 0
    else match op with
      | 0x0D => if d.hmac384 then 48 else 32
      | 0x10 => 32 | 0x11 => 48 | 0x12 => 64 | 0x13 => 32 | 0x14 => 48 | 0x15 => 64
      | 0x16 | 0x17 => d.outLen
      | _ => 16

/-- Form of a descriptor: reserved fields, lengths and areas (R400, R401). -/
def sapForm (op : Nat) (d : SapDesc) : Bool :=
  sapKnown op && d.rsv == 0 && decide (d.flags < 16) && decide (d.srcLen ≤ 65536) && decide (d.auxLen ≤ 4096)
    && (d.srcLen == 0 || localOk d.src d.srcLen) && (d.auxLen == 0 || localOk d.aux d.auxLen)
    && (sapOutLen op d == 0 || (d.dst % 128 == 0 && decide (d.dst + sapOutLen op d ≤ 0x10000)))
    && (match op with
        | 0x01 | 0x02 => d.srcLen % 16 == 0
        | 0x03 | 0x04 => d.auxLen == 16
        | 0x05 | 0x06 => decide (16 ≤ d.srcLen) && d.auxLen == 16
        | 0x07 => decide (12 ≤ d.auxLen)
        | 0x08 => decide (12 ≤ d.auxLen) && decide (16 ≤ d.srcLen)
        | 0x0B => d.auxLen == 12
        | 0x0C => decide (12 ≤ d.auxLen)
        | 0x20 => decide (1 ≤ d.outLen ∧ d.outLen ≤ 512)
        | _ => true)
    && (!sapSpans op || d.last || d.srcLen % sapBlock op d == 0)

/-- The AES key that CMAC, GMAC and GHASH take from a MAC slot: its material; which key SECRET-384 material gives is free (log entry 8). -/
def macKey (mat : Bytes) : Bytes := if mat.length = 48 then padTo 32 (Config.macKey mat) else mat

/-- The MAC or digest of a whole message. -/
def sapDigest (op : Nat) (d : SapDesc) (mat aux m : Bytes) : Bytes :=
  let key := if op = 0x0D ∨ op = 0x0E then mat else macKey mat
  match op with
  | 0x09 | 0x0A => cmac key m
  | 0x0B | 0x0C => gcmTag key (aux.take 12) m []
  | 0x0D | 0x0E => if d.hmac384 then hmac384 key m else hmac256 key m
  | 0x0F => beBytes 16 (ghash (beNat (aesEnc key (List.replicate 16 0))) m)
  | 0x10 => sha256 m | 0x11 => sha384 m | 0x12 => sha512 m
  | 0x13 => sha3_256 m | 0x14 => sha3_384 m | 0x15 => sha3_512 m
  | 0x16 => shake128 d.outLen m | _ => shake256 d.outLen m

/-- A verify operation. -/
def sapVerifies (op : Nat) : Bool := op == 0x0A || op == 0x0C || op == 0x0E

/-- The tag that a verify operation compares: AUX, after the IV for GMAC (log entry 8). -/
def sapGiven (op : Nat) (aux : Bytes) : Bytes := if op = 0x0C then aux.drop 12 else aux

/-- The derived bytes of operation 0x18: KDF-C, or KDF-H for a SECRET-384 slot (05 R117), with the label at AUX up to its first byte 0
and the context after that (log entry 8). -/
def sapKdf (key aux : Bytes) (n : Nat) : Bytes :=
  let label := aux.takeWhile (· != 0)
  let fixed := label ++ [0] ++ aux.drop (label.length + 1) ++ beBytes 4 (8 * n)
  if key.length = 48 then (kdfCounter hmac384 key fixed 1 ((n + 47) / 48)).take n
  else (kdfCounter cmac key fixed 1 ((n + 15) / 16)).take n

/-- A slot that a request fills is EMPTY and its ATTR within form and policy (R127, R129). -/
def newSlotCode (h : Nat) (a : W32) (s : State) : Option W16 :=
  if h < 64 ∨ 4096 ≤ h then some 0x5008
  else if !(usageTypes (attrUsage a)).contains (attrType a) then some 0x5002
  else if !attrForm h a s || !policyAllows s.grn.grain.slotPolicy h a s then some 0x5009
  else if tget {} s.vault.staged h ≠ {} then some 0x500D
  else if (vslot h s).mat ≠ [] ∨ (vslot h s).span then some 0x5003
  else none

/-- A refused request (R130, R131): 0xF000 with its output reading zero, and the reason for the SECURE class. -/
def sapRefuse (op : Nat) (d : SapDesc) (code : W16) : SapReq :=
  { op := op, code := 0xF000, dst := d.dst, out := List.replicate (sapOutLen op d) 0, secure := code }

/-- Output of a request that succeeds. -/
def sapOk (op : Nat) (d : SapDesc) (out : Bytes) (once : Bool) : SapReq :=
  { op := op, len := out.length, dst := d.dst, out := out, once := once }

/-- A cipher of one request. -/
def sapCipher (op : Nat) (d : SapDesc) (key aux m : Bytes) : SapReq :=
  match op with
  | 0x01 => sapOk op d (ecbEnc key m) false
  | 0x02 => sapOk op d (ecbDec key m) false
  | 0x03 | 0x04 => sapOk op d (ctrCrypt key aux m) false
  | 0x05 => sapOk op d (xtsAny false (Config.xtsPair key) aux m) false
  | 0x06 => sapOk op d (xtsAny true (Config.xtsPair key) aux m) false
  | 0x07 =>
    let ct := gcmCrypt key (aux.take 12) m
    sapOk op d (ct ++ gcmTag key (aux.take 12) (aux.drop 12) ct) false
  | _ =>
    let n := m.length - 16
    if gcmTag key (aux.take 12) (aux.drop 12) (m.take n) = m.drop n then
      sapOk op d (gcmCrypt key (aux.take 12) (m.take n)) true
    else { op := op, code := 0x5013, dst := d.dst, out := List.replicate n 0 }

/-- A hash or MAC request: continued, or ended with its output or its comparison (R401). -/
def sapHash (op : Nat) (d : SapDesc) (key aux m : Bytes) (mid : Option SapMid) : SapReq :=
  let before : Option Bytes := if d.first then some [] else
    match mid with
    | some x => if x.op = op ∧ x.key = key then some x.msg else none
    | none => none
  match before with
  | none => sapRefuse op d 0
  | some b =>
    if !d.last then { op := op, mid := some { op := op, key := key, msg := b ++ m } }
    else
      let r := sapDigest op d key aux (b ++ m)
      if sapVerifies op then { op := op, code := if r = sapGiven op aux then 0 else 0x5013 }
      else sapOk op d r false

/-- The derivation of operation 0x18 into a slot or to the leaf (R129, R401). -/
def sapDerive (d : SapDesc) (n : Nat) (key aux : Bytes) (s : State) : SapReq :=
  let dest := attrDest (vslot n s).attr
  if d.outOpen then
    if dest = 2 then sapOk 0x18 d (sapKdf key aux d.outLen) true else sapRefuse 0x18 d 0x5002
  else if dest ≠ 0 then sapRefuse 0x18 d 0x5002
  else match newSlotCode d.outKey d.outAttr s with
    | some c => sapRefuse 0x18 d c
    | none =>
      if attrType d.outAttr = 5 then sapRefuse 0x18 d 0x5009
      else { op := 0x18, toSlots := [(d.outKey, d.outAttr, sapKdf key aux (matLen d.outAttr s))] }

/-- A request draws from its limb's DRBG: its bytes are the output, or the material of the slot it fills. Without output it waits, and at
the end of its 10 ms it ends with zeros and 0x5011 (06 R152). -/
def sapDraw (l : Nat) (r : SapReq) (s : State) : SapReq × State :=
  match r.draw with
  | none => (r, s)
  | some (n, since) =>
    match drbgRequest (limbOfBough (boughOfLeaf l)) false n s with
    | some (b, s) =>
      let r := { r with draw := none }
      (if r.toSlots = [] then { r with len := n, out := b } else { r with toSlots := r.toSlots.map (fun e => (e.1, e.2.1, b)) }, s)
    | none =>
      (if waitedOut since s then
        { r with draw := none, code := 0x5011, toSlots := [], out := if r.toSlots = [] then List.replicate n 0 else [] }
       else r, s)

/-- A generic request as the sap unit runs it. -/
def sapRun (l op : Nat) (b : Bytes) (desc : Nat) (mid : Option SapMid) (s : State) : SapReq × State :=
  let d := sapDesc b
  let n := sapOutLen op d
  let inputs := [(desc, 32), (d.src, d.srcLen), (d.aux, d.auxLen)]
  if !sapForm op d then (sapRefuse op { d with outLen := 0, srcLen := 0 } 0, s)
  else if inputs.any (fun i => overlaps d.dst n i.1 i.2) then ({ op := op, code := 0xF000, dst := d.dst }, s)
  else
    let m := localRead l d.src d.srcLen s
    let aux := localRead l d.aux d.auxLen s
    match sapUsage op with
    | none =>
      if op = 0x20 then sapDraw l { op := op, dst := d.dst, once := true, draw := some (d.outLen, s.now) } s
      else (sapHash op d [] aux m mid, s)
    | some (u, ts) =>
      match (if decide (4096 ≤ d.key) then some 0x5008 else keyCheck (.bough (boughOfLeaf l)) u ts d.key s) with
      | some c => (sapRefuse op d c, s)
      | none =>
        let key := (vslot d.key s).mat
        let r :=
          if op = 0x18 then sapDerive d d.key key aux s
          else if sapSpans op then sapHash op d key aux m mid
          else sapCipher op d key aux m
        ({ r with key := some (d.key, (vslot d.key s).gen) }, s)

/-- AES block operations of a request (20 R508, bough counter 3): key stream or ECB blocks, and the blocks of subkeys, counters
and tags that the mode adds. -/
def sapAesBlocks (op n : Nat) : Nat :=
  let b := (n + 15) / 16
  match op with
  | 0x01 | 0x02 | 0x03 | 0x04 => b
  | 0x05 | 0x06 => b + 1
  | 0x07 | 0x08 => b + 2
  | 0x09 | 0x0A => b + 1
  | 0x0B | 0x0C => 2
  | 0x0F => 1
  | _ => 0

/-- The request takes the tag, its lines are guarded, and it is counted (R396, R397). -/
def sapTake (l t : Nat) (r : SapReq) (ins : List (Nat × Nat)) (outLen : Nat) (s : State) : State :=
  let b := boughOfLeaf l
  let s := modLeaf l (fun x =>
    let x := ins.foldl (fun x (i : Nat × Nat) => x.guard t false i.1 i.2) x
    x.guard t true r.dst outLen) s
  let x := sapTag l t s
  let s := setSapTag l t { x with req := some r, res := 0, mid := none } s
  let s := bump (cBough b 1) s
  if r.code = 0xF000 then bump (cBough b 2) s else s

/-- Submission of a generic operation (R396-R401): discarded on a busy tag, else run, its READY to follow. -/
def sapSubmit (l t op desc : Nat) (s : State) : State :=
  let x := sapTag l t s
  if x.req.isSome then modLeaf l (fun y => { y with sapReject := true }) s
  else
    let b := mread 0 (leafAt l s).dmem desc 32
    let d := sapDesc b
    let r := sapRun l op b desc (if sapSpans op then x.mid else none) s
    let n := if sapForm op d then sapOutLen op d else 0
    let bl := sapAesBlocks op d.srcLen
    let s := if bl ≠ 0 ∧ r.1.code ≠ 0xF000 then bumpBy (cBough (boughOfLeaf l) 3) bl r.2 else r.2
    sapTake l t r.1 ((desc, 32) :: (if sapForm op d then [(d.src, d.srcLen), (d.aux, d.auxLen)] else [])) n s

/-- The leaf can submit: it issues instructions in a running bough (R368). -/
def leafCanIssue (l : Nat) (s : State) : Bool :=
  let x := leafAt l s
  leafRuns l s && !x.halted && x.waiting.isNone && boughRuns (boughOfLeaf l) s

/-- A write that starts work (R74): at a frozen bough it is queued and acts after the thaw. -/
def startWork (l off : Nat) (v : W32) (f : State → State) (s : State) : State :=
  let x := leafAt l s
  if leafCanIssue l s then f s
  else if leafRuns l s && !x.halted && x.waiting.isNone && (boughNrg (boughOfLeaf l) s).power == .frozen then
    modBough (boughOfLeaf l) (fun y => { y with queued := y.queued ++ [(l, off, v)] }) s
  else s

/-- The slots that a request fills are written before its READY, each with its journal record where it has PERSIST (05 R139). -/
def sapStore (r : SapReq) (s : State) : SapReq × State :=
  let s := foldS (fun (e : Nat × W32 × Bytes) s =>
    let s := slotWrite e.1 e.2.2 e.2.1 false s
    if attrPersist e.2.1 then journalAct (.key e.1) s else s) r.toSlots s
  let w := if journalShut s then [] else (r.toSlots.filter (fun e => attrPersist e.2.1)).map (·.1)
  ({ r with toSlots := [], awaits := w }, s)

/-- The records that a request waits for stand in the journal, or their slots have been emptied. -/
def sapStored (r : SapReq) (s : State) : Bool := r.awaits.all (fun n => (vslot n s).persisted || (vslot n s).mat == [])

/-- A request's events and result at READY; the guards end and the SAP event sets (R393, R398). -/
def sapFinish (l t : Nat) (r : SapReq) (s : State) : State :=
  let x := leafAt l s
  let x := (x.deliver r.dst r.out r.once).unguard t
  let x := { x with
    tags := tset {} x.tags t { req := none, mid := r.mid, res := BitVec.ofNat 32 (r.code.toNat * 2 ^ 16 + min r.len 0xFFFF) }
    events := setBit x.events 5 true }
  let s := setLeaf l x s
  let s := if r.code = 0x5011 then emit .fault 0x5011 (srcLeaf l) [] s else s
  if r.why = 0 then leafSecure l r.secure s else emit .secure r.secure (srcLeaf l) (d2 r.why.toNat) s

/-- A submission by a leaf's command. -/
def sapCmd (op l t : Nat) (desc : BitVec 16) (s : State) : State :=
  startWork l 0 (BitVec.ofNat 32 (op * 2 ^ 24 + t * 2 ^ 16 + desc.toNat / 16 * 16)) (sapSubmit l t op desc.toNat) s

/-- Meaning of the sap operation 0x01: its submission (R396, R401). -/
def execSapAesEcbEncrypt (l : Fin 192) (t : Fin 8) (desc : BitVec 16) (s : State) : Host.Outcome State Fault Refusal :=
  act (sapCmd 0x01 l.val t.val desc) s

/-- Meaning of the sap operation 0x02: its submission (R396, R401). -/
def execSapAesEcbDecrypt (l : Fin 192) (t : Fin 8) (desc : BitVec 16) (s : State) : Host.Outcome State Fault Refusal :=
  act (sapCmd 0x02 l.val t.val desc) s

/-- Meaning of the sap operation 0x03: its submission (R396, R401). -/
def execSapAesCtrEncrypt (l : Fin 192) (t : Fin 8) (desc : BitVec 16) (s : State) : Host.Outcome State Fault Refusal :=
  act (sapCmd 0x03 l.val t.val desc) s

/-- Meaning of the sap operation 0x04: its submission (R396, R401). -/
def execSapAesCtrDecrypt (l : Fin 192) (t : Fin 8) (desc : BitVec 16) (s : State) : Host.Outcome State Fault Refusal :=
  act (sapCmd 0x04 l.val t.val desc) s

/-- Meaning of the sap operation 0x05: its submission (R396, R401). -/
def execSapAesXtsEncrypt (l : Fin 192) (t : Fin 8) (desc : BitVec 16) (s : State) : Host.Outcome State Fault Refusal :=
  act (sapCmd 0x05 l.val t.val desc) s

/-- Meaning of the sap operation 0x06: its submission (R396, R401). -/
def execSapAesXtsDecrypt (l : Fin 192) (t : Fin 8) (desc : BitVec 16) (s : State) : Host.Outcome State Fault Refusal :=
  act (sapCmd 0x06 l.val t.val desc) s

/-- Meaning of the sap operation 0x07: its submission (R396, R401). -/
def execSapGcmSeal (l : Fin 192) (t : Fin 8) (desc : BitVec 16) (s : State) : Host.Outcome State Fault Refusal :=
  act (sapCmd 0x07 l.val t.val desc) s

/-- Meaning of the sap operation 0x08: its submission (R396, R401). -/
def execSapGcmOpen (l : Fin 192) (t : Fin 8) (desc : BitVec 16) (s : State) : Host.Outcome State Fault Refusal :=
  act (sapCmd 0x08 l.val t.val desc) s

/-- Meaning of the sap operation 0x09: its submission (R396, R401). -/
def execSapCmacGenerate (l : Fin 192) (t : Fin 8) (desc : BitVec 16) (s : State) : Host.Outcome State Fault Refusal :=
  act (sapCmd 0x09 l.val t.val desc) s

/-- Meaning of the sap operation 0x0A: its submission (R396, R401). -/
def execSapCmacVerify (l : Fin 192) (t : Fin 8) (desc : BitVec 16) (s : State) : Host.Outcome State Fault Refusal :=
  act (sapCmd 0x0A l.val t.val desc) s

/-- Meaning of the sap operation 0x0B: its submission (R396, R401). -/
def execSapGmacGenerate (l : Fin 192) (t : Fin 8) (desc : BitVec 16) (s : State) : Host.Outcome State Fault Refusal :=
  act (sapCmd 0x0B l.val t.val desc) s

/-- Meaning of the sap operation 0x0C: its submission (R396, R401). -/
def execSapGmacVerify (l : Fin 192) (t : Fin 8) (desc : BitVec 16) (s : State) : Host.Outcome State Fault Refusal :=
  act (sapCmd 0x0C l.val t.val desc) s

/-- Meaning of the sap operation 0x0D: its submission (R396, R401). -/
def execSapHmacGenerate (l : Fin 192) (t : Fin 8) (desc : BitVec 16) (s : State) : Host.Outcome State Fault Refusal :=
  act (sapCmd 0x0D l.val t.val desc) s

/-- Meaning of the sap operation 0x0E: its submission (R396, R401). -/
def execSapHmacVerify (l : Fin 192) (t : Fin 8) (desc : BitVec 16) (s : State) : Host.Outcome State Fault Refusal :=
  act (sapCmd 0x0E l.val t.val desc) s

/-- Meaning of the sap operation 0x0F: its submission (R396, R401). -/
def execSapGhash (l : Fin 192) (t : Fin 8) (desc : BitVec 16) (s : State) : Host.Outcome State Fault Refusal :=
  act (sapCmd 0x0F l.val t.val desc) s

/-- Meaning of the sap operation 0x10: its submission (R396, R401). -/
def execSapSha256 (l : Fin 192) (t : Fin 8) (desc : BitVec 16) (s : State) : Host.Outcome State Fault Refusal :=
  act (sapCmd 0x10 l.val t.val desc) s

/-- Meaning of the sap operation 0x11: its submission (R396, R401). -/
def execSapSha384 (l : Fin 192) (t : Fin 8) (desc : BitVec 16) (s : State) : Host.Outcome State Fault Refusal :=
  act (sapCmd 0x11 l.val t.val desc) s

/-- Meaning of the sap operation 0x12: its submission (R396, R401). -/
def execSapSha512 (l : Fin 192) (t : Fin 8) (desc : BitVec 16) (s : State) : Host.Outcome State Fault Refusal :=
  act (sapCmd 0x12 l.val t.val desc) s

/-- Meaning of the sap operation 0x13: its submission (R396, R401). -/
def execSapSha3256 (l : Fin 192) (t : Fin 8) (desc : BitVec 16) (s : State) : Host.Outcome State Fault Refusal :=
  act (sapCmd 0x13 l.val t.val desc) s

/-- Meaning of the sap operation 0x14: its submission (R396, R401). -/
def execSapSha3384 (l : Fin 192) (t : Fin 8) (desc : BitVec 16) (s : State) : Host.Outcome State Fault Refusal :=
  act (sapCmd 0x14 l.val t.val desc) s

/-- Meaning of the sap operation 0x15: its submission (R396, R401). -/
def execSapSha3512 (l : Fin 192) (t : Fin 8) (desc : BitVec 16) (s : State) : Host.Outcome State Fault Refusal :=
  act (sapCmd 0x15 l.val t.val desc) s

/-- Meaning of the sap operation 0x16: its submission (R396, R401). -/
def execSapShake128 (l : Fin 192) (t : Fin 8) (desc : BitVec 16) (s : State) : Host.Outcome State Fault Refusal :=
  act (sapCmd 0x16 l.val t.val desc) s

/-- Meaning of the sap operation 0x17: its submission (R396, R401). -/
def execSapShake256 (l : Fin 192) (t : Fin 8) (desc : BitVec 16) (s : State) : Host.Outcome State Fault Refusal :=
  act (sapCmd 0x17 l.val t.val desc) s

/-- Meaning of the sap operation 0x18: its submission (R396, R401). -/
def execSapSp800108Kdf (l : Fin 192) (t : Fin 8) (desc : BitVec 16) (s : State) : Host.Outcome State Fault Refusal :=
  act (sapCmd 0x18 l.val t.val desc) s

/-- Meaning of the sap operation 0x20: its submission (R396, R401). -/
def execSapRandomBytes (l : Fin 192) (t : Fin 8) (desc : BitVec 16) (s : State) : Host.Outcome State Fault Refusal :=
  act (sapCmd 0x20 l.val t.val desc) s

end Sys2Proof.Machine
end

