-- ==== Sys2Proof/Machine/LeafDma.lean ====
section
/-!
DEFINITION. Machine/LeafDma.lean: DMA from a leaf (14_leaf_isa.md R402).
-/
namespace Sys2Proof.Machine

/-- A descriptor's transfer; refused outside its far area or with bad alignment, the operand RAM being outside (15 R406). -/
def leafXfer (b : Bytes) (s : State) : LeafXfer :=
  let dir := fieldLe b 0 1
  let far := fieldLe b 1 1
  let loc := fieldLe b 4 4
  let off := fieldLe b 8 8
  let len := fieldLe b 0x10 4
  let size := if far = 1 then 0xE0000 else s.grn.grain.memory.work.bytes
  let ok := decide (dir ≤ 1 ∧ far ≤ 1) && fieldLe b 2 2 == 0 && allZero (slice b 0x14 12) && len % 64 == 0
    && decide (64 ≤ len ∧ len ≤ 65536) && off % 64 == 0 && decide (off + len ≤ size) && localOk loc len
    && (if loc < 0x10000 then loc % 128 == 0 else loc % 64 == 0)
  { toFar := dir == 1, bough := far == 1, local_ := loc, far := off, len := len, refused := !ok }

/-- A store to LEAF_DMA_REQ (R402): discarded while BUSY, else the descriptor is read and its local lines are guarded. -/
def dmaSubmit (l desc : Nat) (s : State) : State :=
  let x := leafAt l s
  if x.xfer.isSome then setLeaf l { x with dmaReject := true } s
  else
    let d := leafXfer (mread 0 x.dmem (desc / 16 * 16) 32) s
    let x := { x with xfer := some d, dmaDone := false }
    setLeaf l (if d.refused then x else x.guard 8 (!d.toFar) d.local_ d.len) s

/-- Meaning of LEAF_DMA_SUBMIT. -/
def execLeafDmaSubmit (l : Fin 192) (desc : BitVec 16) (s : State) : Host.Outcome State Fault Refusal :=
  act (startWork l.val 0x600 (desc.setWidth 32) (dmaSubmit l.val desc.toNat)) s

/-- Zero the 64-byte lines named. -/
def zeroLines (bad : List Nat) (b : Bytes) : Bytes :=
  ((chunks 64 b).zipIdx.map (fun e => if bad.contains e.2 then List.replicate e.1.length 0 else e.1)).flatten

/-- LEAF_DMA_DONE (R402): the bytes move, or a refused descriptor ends; an uncorrectable DRAM error of the WORK partition leaves
zeros and 0x5020; after the erase line every DRAM line is one (18 R468). -/
def leafDmaDoneS (l : Nat) (bad : List Nat) (s : State) : State :=
  let x := leafAt l s
  match x.xfer with
  | none => s
  | some d =>
    let b := boughOfLeaf l
    if !boughRuns b s then s
    else
      let bad := if s.tmp.erased then List.range ((d.len + 63) / 64) else bad
      let far := if d.bough then boughRead b d.far d.len s else workRead d.far d.len s
      let err := !d.refused && !d.bough && !d.toFar && (bad.any (fun i => decide (64 * i < d.len)))
      let src := if d.toFar then localRead l d.local_ d.len s else if err then zeroLines bad far else far
      let s :=
        if d.refused then s
        else if d.toFar then (if d.bough then boughWrite b d.far src s else workWrite d.far src s)
        else if d.local_ < 0x10000 then modLeaf l (fun x => x.deliver d.local_ src false) s
        else twigWrite (twigOfLeaf l) (d.local_ - 0x100000) src s
      let s := modLeaf l (fun x => { x.unguard 8 with
        xfer := none, dmaDone := true, dmaResult := if d.refused then 0xF000 else if err then 0x5020 else 0
        events := setBit x.events 7 true }) s
      let s := if d.refused then s else bumpBy (cBough b 7) d.len s
      if err then emit .fault 0x5020 (srcLeaf l) [] (bump (cBough b 8) s) else s

/-- Meaning of LEAF_DMA_DONE. -/
def execLeafDmaDone (l : Fin 192) (bad : List Nat) (s : State) : Host.Outcome State Fault Refusal :=
  act (leafDmaDoneS l.val bad) s

end Sys2Proof.Machine
end

