-- ==== Sys2Proof/Machine/Burl.lean ====
section
/-!
DEFINITION. Machine/Burl.lean: the Burl engines (15_burl_engines.md R404-R426).
-/
namespace Sys2Proof.Machine

/-- An engine. -/
def eng (b : Nat) (s : State) : BrlEng := tget {} s.brl.eng b
/-- Replace an engine. -/
def setEng (b : Nat) (e : BrlEng) (s : State) : State := { s with brl := { s.brl with eng := tset {} s.brl.eng b e } }
/-- Change an engine. -/
def modEng (b : Nat) (f : BrlEng → BrlEng) (s : State) : State := setEng b (f (eng b s)) s

/-- The job at a port. -/
def brlPort (e : BrlEng) (p : Nat) : BrlJob := tget {} e.ports p
/-- A port that holds no job. -/
def noJob : BrlJob := {}

/-! ### Descriptors (R410) -/

/-- An operand reference. -/
structure BrlRef where
  loc : Nat
  reg : Nat
  rsv : Nat
  len : Nat
  addr : Nat

/-- The reference at an offset of the descriptor. -/
def brlRef (d : Bytes) (o : Nat) : BrlRef :=
  { loc := fieldLe d o 1, reg := fieldLe d (o + 1) 1, rsv := fieldLe d (o + 2) 2, len := fieldLe d (o + 4) 4, addr := fieldLe d (o + 8) 8 }

/-- The four operand references. -/
def brlOps (d : Bytes) : List BrlRef := [brlRef d 0x10, brlRef d 0x20, brlRef d 0x30, brlRef d 0x40]
/-- The output reference. -/
def brlOutRef (d : Bytes) : BrlRef := brlRef d 0x50

/-- Operations of the table (R411). -/
def brlKnown (op : Nat) : Bool :=
  [0x01, 0x02, 0x03, 0x10, 0x11, 0x20, 0x21, 0x22, 0x23, 0x24, 0x25, 0x30, 0x31, 0x32, 0x38, 0x39, 0x3A, 0x40].contains op

/-- The operand that may name a key-bearing register (R409). -/
def brlKeyInput (op i : Nat) : Bool := (op == 0x11 || op == 0x25) && i == 0

/-- A streamed operand (R410, R411). -/
def brlStreamed (op i : Nat) : Bool :=
  (op == 0x31 && decide (i ≤ 1)) || (op == 0x32 && (i == 1 || i == 2)) || (op == 0x40 && i == 1)

/-- Operations with a secret output. -/
def brlSecret (op : Nat) : Bool := op == 0x25 || op == 0x39 || op == 0x3A

/-- BITS and PARAM in range for the operation (R410, R411). -/
def brlParamOk (op param bits : Nat) : Bool :=
  if op ≤ 0x03 then decide (128 ≤ bits ∧ bits ≤ 8192) && bits % 64 == 0 && param == 0
  else if op ≤ 0x11 then decide (1024 ≤ bits ∧ bits ≤ 8192) && bits % 128 == 0 && param == 0
  else bits == 0 && (if op < 0x30 then decide (param ≤ 15) else if op < 0x40 then decide (param ≤ 1) else param == 0)

/-- A reference's form: location, length and alignment to memories it names. -/
def brlRefOk (leaf : Bool) (op i : Nat) (r : BrlRef) (s : State) : Bool :=
  r.rsv == 0 && decide (r.len ≤ (if brlStreamed op i then 0x1000000 else 8192))
    && (match r.loc with
        | 0 => true
        | 1 => !leaf || localOk r.addr r.len
        | 2 => decide (r.addr + r.len ≤ s.grn.grain.memory.work.bytes)
        | 3 => decide (r.addr + r.len ≤ 0xE0000)
        | 4 => decide (r.reg < 16)
        | _ => false)

/-- The operand's bytes: a Taproot or custody job's local operands come with the job. -/
def brlFetch (b port : Nat) (j : BrlJob) (regs : Tab OpReg) (i : Nat) (r : BrlRef) (s : State) : Bytes :=
  match r.loc with
  | 1 => if port < 16 then localRead (16 * b + port) r.addr r.len s else padTo r.len (j.ops.getD i [])
  | 2 => workRead r.addr r.len s
  | 3 => boughRead b r.addr r.len s
  | 4 => padTo r.len (tget {} regs r.reg).data
  | _ => []

/-! ### Curves and points (R414, R417) -/

/-- A loaded curve's record as a curve. -/
def curveOfRec (r : Bytes) : Curve :=
  { p := fieldBe r 0x10 72, a := fieldBe r 0x58 72, b := fieldBe r 0xA0 72, gx := fieldBe r 0xE8 72, gy := fieldBe r 0x130 72,
    n := fieldBe r 0x178 72, len := (fieldLe r 2 2 + 7) / 8 }

/-- The curve of an ID with its cofactor, none when absent (R414). -/
def curveOf (id : Nat) (s : State) : Option (Curve × Nat) :=
  match id with
  | 0 => some (curveP256, 1) | 1 => some (curveP384, 1) | 2 => some (curveP521, 1)
  | _ => let r := tget [] s.brl.curves id; if r = [] then none else some (curveOfRec r, fieldLe r 1 1)

/-- A public point validated (R417). -/
def brlPoint (c : Curve × Nat) (b : Bytes) : Option (Nat × Nat) :=
  let x := fieldBe b 1 c.1.len
  let y := fieldBe b (1 + c.1.len) c.1.len
  if b.length == 1 + 2 * c.1.len && b.head? == some 4 && onCurve c.1 x y
      && (c.2 == 1 || ecMul c.1 c.1.n (some (x, y)) == none) then some (x, y) else none

/-- A point's bytes; the point at infinity has none in the spec and gives free bytes (log entry 6). -/
def pointBytes (c : Curve) (q : EcPoint) (s : State) : Bytes × State :=
  match q with
  | some (x, y) => ([4] ++ beBytes c.len x ++ beBytes c.len y, s)
  | none => (padTo (1 + 2 * c.len) (Config.freeBytes s.freeCtr), { s with freeCtr := s.freeCtr + 1 })

/-! ### Randomness (R418) -/

/-- Bytes of the limb's DRBG in requests of at most 512. -/
def brlRand (inst : Nat) : Nat → Nat → State → Option (Bytes × State)
  | 0, _, s => some ([], s)
  | f + 1, n, s =>
    if n = 0 then some ([], s)
    else match drbgRequest inst false (min n 512) s with
      | none => none
      | some (x, s) => match brlRand inst f (n - 512) s with
        | none => none
        | some (y, s) => some (x ++ y, s)

/-- Fresh randomness for the representations of a private value: `n` bytes of the limb's DRBG, which the result does not depend on
(log entry 6). -/
def brlBlind (inst n : Nat) (f : State → Except W16 α × State) (s : State) : Except W16 α × State :=
  match brlRand inst 4 n s with
  | none => (.error 0x5011, s)
  | some (_, s) => f s

/-- Bytes that blind a point multiplication with a private scalar: r of 64 bits and λ. -/
def ecBlind (c : Curve) : Nat := 8 + c.len

/-- A scalar in 1 to n − 1 by the rejection method of FIPS 186-5. -/
def brlScalar (inst : Nat) (n : Nat) : Nat → State → Option (Nat × State)
  | 0, _ => none
  | f + 1, s =>
    let nb := n.log2 + 1
    let nl := (nb + 7) / 8
    match brlRand inst 4 nl s with
    | none => none
    | some (x, s) =>
      let c := beNat x >>> (8 * nl - nb)
      if c + 1 < n then some (c + 1, s) else brlScalar inst n f s

/-! ### RSA (R412, R413) -/

/-- An RSA key as a key register holds it. -/
structure RsaKey where
  bits : Nat
  e : Nat
  n : Nat
  p : Nat
  q : Nat
  dp : Nat
  dq : Nat
  qinv : Nat

/-- The key of a register's bytes. -/
def rsaOf (b : Bytes) : RsaKey :=
  let bits := fieldLe b 0 2
  let h := bits / 16
  let f := fun i => fieldBe b (6 + 2 * h + i * h) h
  { bits := bits, e := fieldLe b 2 4, n := fieldBe b 6 (2 * h), p := f 0, q := f 1, dp := f 2, dq := f 3, qinv := f 4 }

/-- m^d mod n in CRT form. -/
def rsaPriv (k : RsaKey) (m : Nat) : Nat :=
  let m1 := powMod m k.dp k.p
  let m2 := powMod m k.dq k.q
  m2 + (k.qinv * (m1 + k.p * k.q - m2) % k.p) * k.q

/-- The form of a blob's clear part for a modulus size. -/
def rsaBlobForm (b : Bytes) : Bool :=
  slice b 0 4 == ascii "HWR1" && fieldLe b 4 2 == 1 && fieldLe b 8 4 % 2 == 1 && decide (3 ≤ fieldLe b 8 4)
    && fieldLe b 0xC 4 == 0 && fieldLe b 0x1C 4 == 0

/-- The checks of R413 on a decrypted key with random `t`. -/
def rsaKeyOk (k : RsaKey) (t : Nat) : Bool :=
  decide (1 < k.p ∧ 1 < k.q) && k.p * k.q == k.n && k.qinv * k.q % k.p == 1 && rsaPriv k (powMod (t % k.n) k.e k.n) == t % k.n

/-! ### Running a job -/

/-- A job that ends with a code and no output. -/
def brlFail (code : W16) (regs : Tab OpReg) : BrlOut := { code := code, seen := code, regs := regs }
/-- A refused job: the Taproot sees the code, others 0xF000 (R413, R424), and the reason goes to the SECURE class (05 R131). -/
def brlRefuse (port : Nat) (code : W16) (regs : Tab OpReg) : BrlOut :=
  { code := code, seen := if port = 16 then code else 0xF000, secure := code, regs := regs }

/-- Who names a key (05 R130). -/
def brlUser (b port : Nat) : KeyUser := if port < 16 then .bough b else if port = 17 then .custody else .host

/-- The slot usage and types of an operation's KEY (R411). -/
def brlUsages (op : Nat) : List (Nat × List Nat) :=
  match op with
  | 0x10 => [(3, [2])]
  | 0x20 | 0x21 => [(5, [5])]
  | 0x30 | 0x31 => [(5, [6])]
  | 0x38 => [(1, [7]), (3, [7])]
  | 0x3A => [(1, [7])]
  | _ => []

/-- The code that refuses an operation's KEY: any of its usages will do. -/
def brlKeyCode (b port op h : Nat) (s : State) : Option W16 :=
  match brlUsages op with
  | [] => none
  | us =>
    if 4096 ≤ h then some 0x5008
    else if us.any (fun u => (keyCheck (brlUser b port) u.1 u.2 h s).isNone) then none
    else (us.head?.bind (fun u => keyCheck (brlUser b port) u.1 u.2 h s))

/-- The private key that a job was accepted with: its slot, GEN and material (R136). -/
structure BrlKey where
  slot : Nat
  gen : Byte
  mat : Bytes

/-- The private key of a job. -/
def BrlJob.priv (j : BrlJob) : BrlKey := { slot := (j.key.map (·.1)).getD 4096, gen := (j.key.map (·.2)).getD 0, mat := j.mat }

/-- The public point or key of a slot, from the engine's cache of 16 or computed; it is kept in the cache where its material is the
one that the slot holds (R419). -/
def brlPublic (b : Nat) (k : BrlKey) (mk : Bytes → Bytes) (s : State) : Bytes × State :=
  let e := eng b s
  match e.cache.find? (fun c => c.1 == k.slot && c.2.1 == k.gen) with
  | some c => (c.2.2, s)
  | none =>
    let p := mk k.mat
    (p, if (vslot k.slot s).gen = k.gen then
        setEng b { e with cache := (e.cache ++ [(k.slot, k.gen, p)]).drop (e.cache.length + 1 - 16) } s else s)

/-- The parameter set of ML-DSA. -/
def brlDsa (param : Nat) : DsaSet := if param = 0 then dsa65 else dsa87
/-- The parameter set of ML-KEM. -/
def brlKem (param : Nat) : KemSet := if param = 0 then kem768 else kem1024
/-- Ciphertext length of ML-KEM. -/
def kemCtLen (p : KemSet) : Nat := 32 * (p.du * p.k + p.dv)
/-- Signature length of ML-DSA. -/
def dsaSigLen (p : DsaSet) : Nat := p.lam + 32 * p.l * (p.g1bits + 1) + p.omega + p.k

/-- What an operation gives: public output, secret output, a key register's new contents. -/
structure BrlRes where
  out : Bytes := []
  secret : Bytes := []
  keyReg : Option (Nat × OpReg) := none
  fence : Bool := false

/-- Arithmetic with an odd modulus of BITS bits (R411). -/
def brlModular (op bits : Nat) (a x m : Nat) : Except W16 BrlRes :=
  if m % 2 = 0 ∨ m.log2 + 1 ≠ bits then .error 0x5035
  else
    let ok := fun (v : Nat) => Except.ok { out := beBytes (bits / 8) v : BrlRes }
    match op with
    | 0x01 => ok (powMod a x m)
    | 0x02 => ok (a * x % m)
    | _ => match invMod a m with | some v => ok v | none => .error 0x5038

/-- RSA_LOAD and RSA_PRIV (R412, R413, R419). -/
def brlRsa (inst op bits : Nat) (r : BrlRef) (key opa opb : Bytes) (reg : OpReg) (s : State) : Except W16 BrlRes × State :=
  let h := bits / 16
  if op = 0x10 then
    if fieldLe opa 6 2 ≠ bits ∨ opa.length ≠ 0x30 + 7 * h ∨ 16 ≤ r.reg ∨ r.loc = 0 ∨ 4 ≤ r.loc then (.error 0x5035, s)
    else
      let n := slice opa 0x20 (2 * h)
      let ct := slice opa (0x20 + 2 * h) (5 * h)
      let iv := slice opa 0x10 12
      if gcmTag key iv (opa.take (0x20 + 2 * h)) ct ≠ opa.drop (0x20 + 7 * h) then (.error 0x5005, s)
      else
        let data := leBytes 2 bits ++ slice opa 8 4 ++ n ++ gcmCrypt key iv ct
        match brlRand inst 4 (2 * h) s with
        | none => (.error 0x5011, s)
        | some (t, s) => brlBlind inst (16 + 2 * h) (fun s =>
          if rsaBlobForm opa && rsaKeyOk (rsaOf data) (beNat t) then
            (.ok { keyReg := some (r.reg, { valid := true, key := true, rsa := true, data := data }) }, s)
          else (.error 0x5037, s)) s
  else
    let k := rsaOf reg.data
    let m := beNat opb
    if !reg.rsa ∨ k.bits ≠ bits ∨ k.n ≤ m then (.error 0x5035, s)
    else
      brlBlind inst (16 + 2 * h) (fun s =>
        let v := rsaPriv k m
        if powMod v k.e k.n = m then (.ok { out := beBytes (2 * h) v }, s) else (.ok { fence := true }, s)) s

/-- ECDSA_SIGN's r ‖ s with fresh nonces (R411, R418). -/
def brlSign (inst : Nat) (c : Curve) (d : Nat) (h : Bytes) : Nat → State → Option ((Nat × Nat) × State)
  | 0, _ => none
  | f + 1, s =>
    match brlScalar inst c.n 128 s with
    | none => none
    | some (k, s) => match ecdsaSign c d k h with
      | some r => some (r, s)
      | none => brlSign inst c d h f s

/-- Bytes of r and of s: the order's byte length. -/
def ordLen (c : Curve) : Nat := (c.n.log2 + 8) / 8

/-- The elliptic curve operations (R411, R417-R419). -/
def brlEc (b inst op : Nat) (pk : BrlKey) (cv : Curve × Nat) (ra rb : BrlRef) (ops : List Bytes) (reg : OpReg) (s : State) :
    Except W16 BrlRes × State :=
  let c := cv.1
  let o := fun i => ops.getD i []
  let pub := fun (s : State) => brlPublic b pk (fun m => (pointBytes c (ecMul c (beNat m) c.g) s).1) s
  let pt := fun (q : EcPoint) (s : State) => let r := pointBytes c q s; (Except.ok { out := r.1 : BrlRes }, r.2)
  let hashOk := fun (x : Bytes) => decide (20 ≤ x.length ∧ x.length ≤ 64)
  match op with
  | 0x20 => brlBlind inst (ecBlind c) (fun s => let p := pub s; (.ok { out := p.1 }, p.2)) s
  | 0x21 =>
    if !hashOk (o 0) then (.error 0x5035, s)
    else match brlSign inst c (beNat pk.mat) (o 0) 64 s with
      | none => (.error 0x5011, s)
      | some (rs, s) => brlBlind inst (ecBlind c + ordLen c) (fun s =>
        let p := pub s
        let good := ecdsaVerify c (fieldBe p.1 1 c.len) (fieldBe p.1 (1 + c.len) c.len) (o 0) rs.1 rs.2
        (.ok { out := beBytes (ordLen c) rs.1 ++ beBytes (ordLen c) rs.2, fence := !good }, p.2)) s
  | 0x22 =>
    if !hashOk (o 1) || (o 2).length != 2 * ordLen c then (.error 0x5035, s)
    else match brlPoint cv (o 0) with
      | none => (.error 0x503D, s)
      | some q =>
        (if ecdsaVerify c q.1 q.2 (o 1) (fieldBe (o 2) 0 (ordLen c)) (fieldBe (o 2) (ordLen c) (ordLen c)) then .ok {}
          else .error 0x5039, s)
  | 0x23 =>
    if rb.loc = 0 then pt (ecMul c (beNat (o 0)) c.g) s
    else match brlPoint cv (o 1) with
      | none => (.error 0x503D, s)
      | some q => pt (ecMul c (beNat (o 0)) (some q)) s
  | 0x24 =>
    if ra.loc ≠ 0 ∨ 16 ≤ ra.reg then (.error 0x5035, s)
    else match brlScalar inst c.n 128 s with
      | none => (.error 0x5011, s)
      | some (k, s) => brlBlind inst (ecBlind c) (fun s =>
        let r := pointBytes c (ecMul c k c.g) s
        (.ok { out := r.1, keyReg := some (ra.reg, { valid := true, key := true, data := beBytes (ordLen c) k }) }, r.2)) s
  | _ =>
    if reg.rsa then (.error 0x5035, s)
    else match brlPoint cv (o 1) with
      | none => (.error 0x503D, s)
      | some q => brlBlind inst (ecBlind c) (fun s =>
        match ecMul c (beNat reg.data) (some q) with
        | some (x, _) => (.ok { secret := beBytes c.len x }, s)
        | none => (.ok { secret := padTo c.len (Config.freeBytes s.freeCtr) }, { s with freeCtr := s.freeCtr + 1 })) s

/-- ML-DSA and ML-KEM operations and LMS (R411, R419, R421). -/
def brlLattice (b inst op param : Nat) (pk : BrlKey) (ops : List Bytes) (s : State) : Except W16 BrlRes × State :=
  let o := fun i => ops.getD i []
  let ds := brlDsa param
  let ks := brlKem param
  match op with
  | 0x30 => brlBlind inst 32 (fun s => let p := brlPublic b pk (fun m => (dsaKeyGen ds m).pk) s; (.ok { out := p.1 }, p.2)) s
  | 0x31 =>
    if 255 < (o 1).length then (.error 0x5035, s)
    else match brlRand inst 4 32 s with
      | none => (.error 0x5011, s)
      | some (rnd, s) => brlBlind inst 32 (fun s =>
        match dsaSign ds (dsaKeyGen ds pk.mat) 128 (dsaMsg (o 1) (o 0)) rnd with
        | none => (.error 0x5036, s)
        | some sig =>
          let p := brlPublic b pk (fun m => (dsaKeyGen ds m).pk) s
          (.ok { out := sig, fence := !dsaVerify ds p.1 (dsaMsg (o 1) (o 0)) sig }, p.2)) s
  | 0x32 =>
    if 255 < (o 2).length ∨ (o 0).length ≠ 32 + 320 * ds.k ∨ (o 3).length ≠ dsaSigLen ds then (.error 0x5035, s)
    else (if dsaVerify ds (o 0) (dsaMsg (o 2) (o 1)) (o 3) then .ok {} else .error 0x5039, s)
  | 0x38 => brlBlind inst 32 (fun s => (.ok { out := (kemKeyGen ks (pk.mat.take 32) (pk.mat.drop 32)).1 }, s)) s
  | 0x39 =>
    if !kemEkOk ks (o 0) then (.error 0x503E, s)
    else match brlRand inst 4 32 s with
      | none => (.error 0x5011, s)
      | some (m, s) => brlBlind inst 32 (fun s => let r := kemEncaps ks (o 0) m; (.ok { out := r.2, secret := r.1 }, s)) s
  | 0x3A =>
    if (o 0).length ≠ kemCtLen ks then (.error 0x503E, s)
    else brlBlind inst 32 (fun s =>
      (.ok { secret := kemDecaps ks (kemKeyGen ks (pk.mat.take 32) (pk.mat.drop 32)).2 (o 0) }, s)) s
  | _ => (if lmsVerify (o 0) (o 1) (o 2) then .ok {} else .error 0x5039, s)

/-- Type of a private key's parameter matches the job's PARAM. -/
def brlParamMatch (op param : Nat) (j : BrlJob) : Bool :=
  (op != 0x20 && op != 0x21 && op != 0x30 && op != 0x31 && op != 0x38 && op != 0x3A) || j.param == param

/-- The operation proper. -/
def brlOp (b : Nat) (j : BrlJob) (ops : List Bytes) (regs : Tab OpReg) (s : State) : Except W16 BrlRes × State :=
  let d := j.desc
  let op := fieldLe d 0 1
  let param := fieldLe d 1 1
  let bits := fieldLe d 0xC 2
  let inst := limbOfBough b
  let ra := brlRef d 0x10
  let o := fun i => beNat (ops.getD i [])
  if op ≤ 0x03 then (brlModular op bits (o 0) (o 1) (o 2), s)
  else if op ≤ 0x11 then brlRsa inst op bits ra j.mat (ops.getD 0 []) (ops.getD 1 []) (tget {} regs ra.reg) s
  else if op < 0x30 then
    match curveOf param s with
    | none => (.error 0x5031, s)
    | some cv => brlEc b inst op j.priv cv ra (brlRef d 0x20) ops (tget {} regs ra.reg) s
  else brlLattice b inst op param j.priv ops s

/-- Registers after the operands have been fetched, and after the output is kept (R407). -/
def brlKeep (regs : Tab OpReg) (r : BrlRef) (x : Bytes) : Tab OpReg :=
  if decide (1 ≤ r.loc ∧ r.loc ≤ 3) && decide (r.reg < 16) then tset {} regs r.reg { valid := true, data := x } else regs

/-- The register that a reference would write into. -/
def brlTarget (r : BrlRef) : Option Nat := if decide (1 ≤ r.loc ∧ r.loc ≤ 3) && decide (r.reg < 16) then some r.reg else none

/-- TO_SLOT's conditions on the secret and OUT_ATTR (R411). -/
def toSlotCode (d : Bytes) (n : Nat) (s : State) : Option W16 :=
  let a := BitVec.ofNat 32 (fieldLe d 8 4)
  let ty := attrType a
  if !((n = 32 ∧ (ty = 2 ∨ ty = 3)) ∨ (n = 48 ∧ ty = 4)) then some 0x5035
  else newSlotCode (fieldLe d 6 2) a s

/-- A job run from its descriptor: what it will deliver at its release (R408-R413), but for the zeroing of ECDH's scalar. `dram`: an
uncorrectable error on a fetch. -/
def brlRun0 (b port : Nat) (j : BrlJob) (dram : Bool) (regs : Tab OpReg) (s : State) : BrlOut × State :=
  let d := j.desc
  let op := fieldLe d 0 1
  let refs := brlOps d
  let out := brlOutRef d
  let ri := refs.zipIdx
  let flags := fieldLe d 2 2
  let reg := fun r => tget {} regs r
  let keyed := ri.any (fun e => e.1.loc == 4 && (reg e.1.reg).key)
  if j.erased && (keyed || fieldLe d 4 2 != 0xFFFF) then (brlRefuse port 0x5007 regs, s)
  else if !brlKnown op || !brlParamOk op (fieldLe d 1 1) (fieldLe d 0xC 2) || fieldLe d 0xE 2 != 0 || decide (1 < flags)
      || (flags == 1 && !brlSecret op) || !ri.all (fun e => brlRefOk (decide (port < 16)) op e.2 e.1 s)
      || !brlRefOk (decide (port < 16)) op 9 out s then (brlFail 0x5035 regs, s)
  else if ri.any (fun e => e.1.loc == 4 && !(reg e.1.reg).valid) then (brlFail 0x5032 regs, s)
  else if ri.any (fun e => (e.1.loc == 4 && (reg e.1.reg).key != brlKeyInput op e.2) || (brlKeyInput op e.2 && e.1.loc != 4))
      || (refs ++ [out]).any (fun r => match brlTarget r with | some k => (reg k).key && op != 0x10 | none => false)
      || (out.loc == 4 && (reg out.reg).key) then (brlFail 0x5035 regs, s)
  else match j.denied with
  | some c => (brlRefuse port c regs, s)
  | none =>
    if !brlParamMatch op (fieldLe d 1 1) j then (brlFail 0x5035 regs, s)
    else if dram && refs.any (fun r => r.loc == 2) then (brlFail 0x5020 regs, s)
    else
      let ops := ri.map (fun e => brlFetch b port j regs e.2 e.1 s)
      let regs1 := if op = 0x10 then regs else ((ri.zip ops).filter (fun e => !brlStreamed op e.1.2)).foldl (fun t e => brlKeep t e.1.1 e.2) regs
      let r := brlOp b j ops regs1 s
      match r.1 with
      | .error c =>
        if op = 0x10 ∧ (c = 0x5005 ∨ c = 0x5037) then
          ({ code := c, secure := c, seen := if port = 16 then c else 0xF000, regs := tset {} regs1 (brlRef d 0x10).reg {} }, r.2)
        else (brlFail c regs1, r.2)
      | .ok x =>
        if x.fence then ({ code := 0x5033, seen := 0x5033, fence := true }, r.2)
        else
          let regs2 := match x.keyReg with | some (k, v) => tset {} regs1 k v | none => regs1
          let bad := x.out != [] && (out.loc == 0 || (out.loc != 4 && decide (out.len < x.out.length)))
          let ts := if flags = 1 then toSlotCode d x.secret.length r.2 else none
          if bad then (brlFail 0x5035 regs1, r.2)
          else match ts with
            | some c => (if c = 0x5035 then brlFail c regs1 else brlRefuse port c regs1, r.2)
            | none =>
              let regs3 := if x.out = [] then regs2
                else if out.loc = 4 then tset {} regs2 out.reg { valid := true, data := x.out } else brlKeep regs2 out x.out
              ({ out := x.out, secret := x.secret, regs := regs3,
                 toSlot := if flags = 1 then some (fieldLe d 6 2, BitVec.ofNat 32 (fieldLe d 8 4)) else none }, r.2)

/-- ECDH's scalar register is zeroed and its tags cleared whatever the job's outcome (R409). -/
def ecdhClear (d : Bytes) (o : BrlOut) : BrlOut :=
  let r := brlRef d 0x10
  let x := tget {} o.regs r.reg
  if fieldLe d 0 1 = 0x25 ∧ r.loc = 4 ∧ x.key = true ∧ x.rsa = false then { o with regs := tset {} o.regs r.reg {} } else o

/-- A job run from its descriptor: what it will deliver at its release. -/
def brlRun (b port : Nat) (j : BrlJob) (dram : Bool) (regs : Tab OpReg) (s : State) : BrlOut × State :=
  let r := brlRun0 b port j dram regs s
  (ecdhClear j.desc r.1, r.2)

/-! ### Submission, start and release -/

/-- A job takes its port with the key that it names (R404, R136), which the vault checks (R130); on a fenced engine its result is 0x5034
(R420). -/
def brlSubmit (b port : Nat) (j : BrlJob) (s : State) : State :=
  let e := eng b s
  let h := fieldLe j.desc 4 2
  let op := fieldLe j.desc 0 1
  let no := brlKeyCode b port op h s
  let j := { j with
    key := if h < 4096 ∧ brlUsages op ≠ [] then some (h, (vslot h s).gen) else none
    mat := if no.isNone && brlUsages op != [] then (vslot h s).mat else []
    param := attrParam (vslot h s).attr, denied := no
    res := if e.fenced then some (brlFail 0x5034 e.regs) else none }
  setEng b { e with ports := tset {} e.ports port j } s

/-- A leaf's store to LEAF_BRL_JOB (R404, R410): discarded on a busy port; its lines are guarded (R410). -/
def brlSubmitLeaf (l desc : Nat) (s : State) : State :=
  let b := boughOfLeaf l
  let x := leafAt l s
  if brlPort (eng b s) (l % 16) ≠ noJob then setLeaf l { x with brl := { x.brl with reject := true } } s
  else
    let a := desc / 16 * 16
    let d := mread 0 x.dmem a 96
    let x := x.guard 9 false a 96
    let x := (brlOps d).foldl (fun (x : Leaf) r => if r.loc = 1 then x.guard 9 false r.addr r.len else x) x
    let o := brlOutRef d
    let x := if o.loc = 1 then x.guard 9 true o.addr o.len else x
    brlSubmit b (l % 16) { desc := d } (setLeaf l x s)

/-- A row of the operations table: the submission of that operation (R411). -/
def brlRow (op : Nat) (w : BrlSender) (s : State) : State :=
  match w with
  | .leaf l desc =>
    if fieldLe (mread 0 (leafAt l.val s).dmem (desc.toNat / 16 * 16) 1) 0 1 == op then
      startWork l.val 0x400 (desc.setWidth 32) (brlSubmitLeaf l.val desc.toNat) s
    else s
  | .taproot b d ops =>
    if brlPort (eng b.val s) 16 = noJob then brlSubmit b.val 16 { desc := [BitVec.ofNat 8 op] ++ (padTo 96 d).drop 1, ops := ops } s
    else s
  | .custody b d ops =>
    if brlPort (eng b.val s) 17 = noJob then brlSubmit b.val 17 { desc := [BitVec.ofNat 8 op] ++ (padTo 96 d).drop 1, ops := ops } s
    else s

/-- The waiting job that starts next: Taproot, custody block, then the leaves in rotation (R404). -/
def brlNext (e : BrlEng) : Option Nat :=
  ([16, 17] ++ (List.range 16).map (fun i => (e.lastLeaf + 1 + i) % 16)).find? (fun p => brlPort e p != noJob)

/-- The submitter that a port stands for: a program swap makes a leaf a new one (R405). -/
def brlWho (b port : Nat) (s : State) : Nat × Nat := (port, if port < 16 then (leafAt (16 * b + port) s).epoch else 0)

/-- The engine's EN (01 R24). -/
def brlOn (b : Nat) (s : State) : Bool := !(tget {} s.dis (256 + b)).off

/-- A result becomes visible to the leaf only at READY; the last one ends when the next job starts (R422). -/
def leafBrlClear (l : Nat) (s : State) : State :=
  modLeaf l (fun x => { x with brl := { x.brl with ready := false, code := 0, len := 0, window := [], read := [] } })  s

/-- The running job's computation; without output of its DRBG nothing of it has happened but the result (06 R152). -/
def brlTry (b p : Nat) (j : BrlJob) (regs : Tab OpReg) (s : State) : BrlJob × State :=
  let r := brlRun b p j j.dram regs s
  ({ j with res := some r.1 }, if r.1.code = 0x5011 then s else r.2)

/-- BURL_JOB_START (R404, R407): the operand RAM is zeroed on a change of submitter, and the job runs. -/
def burlJobStartS (b : Nat) (dram : Bool) (s : State) : State :=
  let e := eng b s
  if e.fenced || e.ports.any (fun p => p.2.running) || !brlOn b s || !boughRuns b s then s
  else match brlNext e with
    | none => s
    | some p =>
      let j := brlPort e p
      let who := brlWho b p s
      let change := e.last != some who
      let s := if change then bump (cBough b 6) s else s
      let s := if p < 16 then leafBrlClear (16 * b + p) s else s
      let regs := if change then [] else e.regs
      let s := setEng b { eng b s with regs := regs, last := some who } s
      let r := brlTry b p { j with running := true, since := s.now, dram := dram } regs s
      modEng b (fun e => { e with ports := tset {} e.ports p r.1 }) r.2

/-- Meaning of BURL_JOB_START. -/
def execBurlJobStart (b : Fin 12) (dram : Bool) (s : State) : Host.Outcome State Fault Refusal := act (burlJobStartS b.val dram) s

/-- Write a job's public output where its OUT reference says. -/
def brlPut (b port : Nat) (o : BrlRef) (x : Bytes) (s : State) : State :=
  match o.loc with
  | 1 =>
    if 16 ≤ port then s
    else if o.addr < 0x10000 then modLeaf (16 * b + port) (fun y => y.deliver o.addr x false) s
    else twigWrite (4 * b + port / 4) (o.addr - 0x100000) x s
  | 2 => workWrite o.addr x s
  | 3 => boughWrite b o.addr x s
  | _ => s

/-- The engine is fenced until the next CORE reset and its operand RAM zeroed (R420). -/
def brlFence (b : Nat) (s : State) : State := modEng b (fun e => { e with fenced := true, regs := [] }) s

/-- A secret for a slot is written before READY: a slot filled meanwhile refuses the job, and a record that is journalled first keeps it at
its port (05 R130, R139). The flag says that the result can be delivered. -/
def brlStore (b port : Nat) (j : BrlJob) (r : BrlOut) (s : State) : Bool × BrlOut × State :=
  match r.toSlot with
  | none => (true, r, s)
  | some (h, a) =>
    if j.orphan then (true, r, s)
    else if r.stored then ((vslot h s).persisted || (vslot h s).mat == [], r, s)
    else if !slotEmpty h s || (vslot h s).span then (true, brlRefuse port 0x5003 r.regs, s)
    else
      let s := slotWrite h r.secret a false s
      if !attrPersist a then (true, r, s)
      else
        let wait := !journalShut s
        let s := journalAct (.key h) s
        let r := { r with stored := true }
        (!wait, r, modEng b (fun e => { e with ports := tset {} e.ports port { j with res := some r } }) s)

/-- A job leaves its port with its result (R422); an orphan's is discarded (R303, R364). -/
def brlDeliver (b port : Nat) (j : BrlJob) (r : BrlOut) (s : State) : State :=
  let n := if r.out = [] ∧ r.toSlot = none then r.secret.length else r.out.length
  let s := modEng b (fun e => { e with
    ports := tset {} e.ports port noJob, regs := if e.fenced then [] else r.regs, lastCode := r.code, lastOp := fieldLe j.desc 0 1,
    lastSub := port, lastLeaf := if port < 16 then port else e.lastLeaf }) s
  if j.orphan then s
  else
    let s := brlPut b port (brlOutRef j.desc) r.out s
    let s := bump (cBough b (if r.code = 0 then 4 else 5)) s
    let s := if r.secure ≠ 0 then
        emit .secure r.secure (if port < 16 then srcLeaf (16 * b + port) else srcBough b) [] s else s
    let s := if r.code = 0x5011 ∨ r.code = 0x5020 ∨ r.code = 0x5034 then emit .fault r.code (srcBough b) [] s else s
    if port < 16 then
      modLeaf (16 * b + port) (fun x => { x.unguard 9 with
        brl := { x.brl with ready := true, code := r.seen, len := min n 0xFFFF,
                            window := if r.toSlot.isSome then [] else r.secret, read := [] }
        events := setBit x.events 6 true }) s
    else if port = 16 then modEng b (fun e => { e with tapRes := some r }) s
    else modEng b (fun e => { e with cusRes := some r }) s

/-- A running job that found no output of its DRBG tries again, and goes on waiting within its 10 ms (06 R152); none where it waits. -/
def brlAgain (b p : Nat) (j : BrlJob) (s : State) : Option (BrlJob × State) :=
  if (j.res.map (·.code)) ≠ some 0x5011 then some (j, s)
  else
    let x := brlTry b p j (eng b s).regs s
    if (x.1.res.map (·.code)) = some 0x5011 ∧ !waitedOut j.since s then none else some x

/-- BURL_JOB_RELEASE (R420, R422): the running job releases its result; an internal fault or a failed check fences the engine.
On a fenced engine the first job waiting ends with 0x5034. -/
def burlJobReleaseS (b : Nat) (f : BrlFault) (s : State) : State :=
  let e := eng b s
  if !boughRuns b s then s
  else if e.fenced then
    match brlNext e with
    | none => s
    | some p => brlDeliver b p (brlPort e p) (brlFail 0x5034 []) s
  else match e.ports.find? (fun p => p.2.running) with
    | none => s
    | some (p, j) =>
      match brlAgain b p j s with
      | none => s
      | some (j, s) =>
      match j.res with
      | none => s
      | some r =>
        let code : W16 := match f with | .guard => 0x5030 | .selfcheck => 0x5033 | .none => if r.fence then 0x5033 else 0
        if code = 0 then
          let x := brlStore b p j r s
          if x.1 then brlDeliver b p j x.2.1 x.2.2 else x.2.2
        else emit .fault code (srcBough b) [] (brlDeliver b p j (brlFail code []) (brlFence b s))

/-- Meaning of BURL_JOB_RELEASE. -/
def execBurlJobRelease (b : Fin 12) (f : BrlFault) (s : State) : Host.Outcome State Fault Refusal := act (burlJobReleaseS b.val f) s

/-- A CUT discards the running job at its release: READY stays 0 and DISCARDED is set (R423); the items discarded. A register that the
job was to keep its output in counts as filled by it (log entry 31). -/
def brlCut (b : Nat) (s : State) : Nat × State :=
  let e := eng b s
  match e.ports.find? (fun p => p.2.running) with
  | none => (0, s)
  | some (p, j) =>
    let s := modEng b (fun e => { e with
      ports := tset {} e.ports p noJob, regs := (j.res.map (·.regs)).getD e.regs, lastCode := 0x503F,
      lastOp := fieldLe j.desc 0 1, lastSub := p, lastLeaf := if p < 16 then p else e.lastLeaf }) s
    let s := bump (cBough b 12) s
    (1, if p < 16 ∧ !j.orphan then
        modLeaf (16 * b + p) (fun x => { x.unguard 9 with
          brl := { x.brl with discarded := true }, events := setBit x.events 6 true }) s
      else s)

/-- The leaf has gone (a fence or a program swap): a queued job is removed, a running one loses its submitter (Coincidences). -/
def brlOrphan (l : Nat) (s : State) : State :=
  let b := boughOfLeaf l
  modEng b (fun e =>
    let j := brlPort e (l % 16)
    if j = noJob then e
    else { e with ports := tset {} e.ports (l % 16) (if j.running then { j with orphan := true } else noJob) }) s

/-- The erase line at every engine (R424): the running job is aborted, key-bearing registers and the cache are cleared. -/
def brlErase (s : State) : State :=
  { s with brl := { s.brl with
    eng := s.brl.eng.foldl (fun t (e : Nat × BrlEng) =>
      let regs := e.2.regs.foldl (fun t r => if r.2.key then t else tset {} t r.1 r.2) []
      let job := fun (p : Nat) (j : BrlJob) =>
        { j with erased := true, mat := [], res := if j.running then some (brlRefuse p 0x5007 regs) else j.res }
      tset {} t e.1 { e.2 with
        cache := [], regs := regs, ports := e.2.ports.foldl (fun t p => tset {} t p.1 (job p.1 p.2)) [] }) [] } }

/-! ### Loading curves (R414-R416) -/

/-- One Miller-Rabin round with a base. -/
def mrRound (n a : Nat) : Bool :=
  let rec go : Nat → Nat → Bool
    | 0, _ => false
    | f + 1, x => x == n - 1 || go f (x * x % n)
  let rec twos : Nat → Nat → Nat → Nat × Nat
    | 0, k, d => (k, d)
    | f + 1, k, d => if d % 2 = 0 then twos f (k + 1) (d / 2) else (k, d)
  let kd := twos (n.log2 + 1) 0 (n - 1)
  let x := powMod a kd.2 n
  x == 1 || go kd.1 x

/-- Trial division below 2,000 and 64 rounds with random bases, free values from `k` (log entry 6). -/
def primeTest (n k : Nat) : Bool :=
  (List.range 1998).all (fun i => n % (i + 2) != 0 || n == i + 2)
    && (List.range 64).all (fun i => mrRound n (2 + leNat (Config.freeBytes (k + i)) % (n - 3)))

/-- The number of the first check of R415 that fails, 0 for none. -/
def curveCheck (r : Bytes) (k : Nat) : Nat :=
  let c := curveOfRec r
  let id := fieldLe r 0 1
  let h := fieldLe r 1 1
  let bits := fieldLe r 2 2
  if !(decide (3 ≤ id ∧ id ≤ 15) && allZero (slice r 4 12) && decide (160 ≤ bits ∧ bits ≤ 576)) then 1
  else if !(c.p.log2 + 1 == bits && decide (3 < c.p)) then 2
  else if !primeTest c.p k then 3
  else if !(decide (c.a < c.p ∧ c.b < c.p ∧ c.gx < c.p ∧ c.gy < c.p)) then 4
  else if (4 * c.a * c.a * c.a + 27 * c.b * c.b) % c.p = 0 then 5
  else if !(decide (1 ≤ h ∧ h ≤ 8)) then 6
  else if !(decide (3 < c.n) && primeTest c.n (k + 64) && decide (bits - 3 ≤ c.n.log2 + 1)) then 7
  else if !(decide (((h * c.n : Int) - c.p - 1) * ((h * c.n : Int) - c.p - 1) ≤ 4 * c.p)) then 8
  else if c.n = c.p then 9
  else if (List.range 100).any (fun i => powMod c.p (i + 1) c.n == 1) then 10
  else if !onCurve c c.gx c.gy then 11
  else if ecMul c c.n c.g ≠ none then 12
  else 0

/-- CURVE_LOAD: BRL_CURVE_CMD with OP LOAD starts the check of the record in BRL_CURVE_BUF. -/
def curveLoadS (s : State) : State :=
  if s.brl.checking.isSome ∨ !s.boot.pf1 then s
  else { s with brl := { s.brl with checking := some (mread 0 s.brl.buf 0 448) } }

/-- Meaning of CURVE_LOAD. -/
def execCurveLoad (s : State) : Host.Outcome State Fault Refusal := act curveLoadS s

/-- The result of a curve operation. -/
def curveEnd (code : W16) (chk : Nat) (s : State) : State :=
  let s : State := { s with brl := { s.brl with curveResult := code, failedCheck := chk } }
  if code = 0 then s else emit .info code (srcTree 0) [] s

/-- CURVE_LOAD_DONE (R415): the record is installed or rejected, and the buffer zeroed. -/
def curveLoadDoneS (s : State) : State :=
  match s.brl.checking with
  | none => s
  | some r =>
    let k := s.freeCtr
    let s : State := { s with brl := { s.brl with checking := none, buf := [] }, freeCtr := s.freeCtr + 128 }
    let id := fieldLe r 0 1
    let f := curveCheck r k
    if f = 1 then curveEnd 0x503A 1 s
    else if tget [] s.brl.curves id ≠ [] then curveEnd 0x503B 0 s
    else if f ≠ 0 then curveEnd 0x503A f s
    else curveEnd 0 0 { s with brl := { s.brl with curves := tset [] s.brl.curves id r } }

/-- Meaning of CURVE_LOAD_DONE. -/
def execCurveLoadDone (s : State) : Host.Outcome State Fault Refusal := act curveLoadDoneS s

/-- CURVE_UNLOAD (R415): refused while a slot names the ID. -/
def curveUnloadS (id : Nat) (s : State) : State :=
  if s.brl.checking.isSome ∨ !s.boot.pf1 then s
  else if s.vault.slots.any (fun e => e.2.mat != [] && attrType e.2.attr == 5 && attrParam e.2.attr == id && decide (3 ≤ id)) then
    curveEnd 0x503C 0 s
  else curveEnd 0 0 { s with brl := { s.brl with curves := tset [] s.brl.curves id [] } }

/-- Meaning of CURVE_UNLOAD. -/
def execCurveUnload (id : Fin 16) (s : State) : Host.Outcome State Fault Refusal := act (curveUnloadS id.val) s

/-- Meaning of the Burl operation 0x01: its submission (R404, R411). -/
def execBrlModexp (w : BrlSender) (s : State) : Host.Outcome State Fault Refusal := act (brlRow 0x01 w) s

/-- Meaning of the Burl operation 0x02: its submission (R404, R411). -/
def execBrlModmul (w : BrlSender) (s : State) : Host.Outcome State Fault Refusal := act (brlRow 0x02 w) s

/-- Meaning of the Burl operation 0x03: its submission (R404, R411). -/
def execBrlModinv (w : BrlSender) (s : State) : Host.Outcome State Fault Refusal := act (brlRow 0x03 w) s

/-- Meaning of the Burl operation 0x10: its submission (R404, R411). -/
def execBrlRsaLoad (w : BrlSender) (s : State) : Host.Outcome State Fault Refusal := act (brlRow 0x10 w) s

/-- Meaning of the Burl operation 0x11: its submission (R404, R411). -/
def execBrlRsaPriv (w : BrlSender) (s : State) : Host.Outcome State Fault Refusal := act (brlRow 0x11 w) s

/-- Meaning of the Burl operation 0x20: its submission (R404, R411). -/
def execBrlEcPub (w : BrlSender) (s : State) : Host.Outcome State Fault Refusal := act (brlRow 0x20 w) s

/-- Meaning of the Burl operation 0x21: its submission (R404, R411). -/
def execBrlEcdsaSign (w : BrlSender) (s : State) : Host.Outcome State Fault Refusal := act (brlRow 0x21 w) s

/-- Meaning of the Burl operation 0x22: its submission (R404, R411). -/
def execBrlEcdsaVerify (w : BrlSender) (s : State) : Host.Outcome State Fault Refusal := act (brlRow 0x22 w) s

/-- Meaning of the Burl operation 0x23: its submission (R404, R411). -/
def execBrlEcMul (w : BrlSender) (s : State) : Host.Outcome State Fault Refusal := act (brlRow 0x23 w) s

/-- Meaning of the Burl operation 0x24: its submission (R404, R411). -/
def execBrlEcdhEph (w : BrlSender) (s : State) : Host.Outcome State Fault Refusal := act (brlRow 0x24 w) s

/-- Meaning of the Burl operation 0x25: its submission (R404, R411). -/
def execBrlEcdh (w : BrlSender) (s : State) : Host.Outcome State Fault Refusal := act (brlRow 0x25 w) s

/-- Meaning of the Burl operation 0x30: its submission (R404, R411). -/
def execBrlMldsaPub (w : BrlSender) (s : State) : Host.Outcome State Fault Refusal := act (brlRow 0x30 w) s

/-- Meaning of the Burl operation 0x31: its submission (R404, R411). -/
def execBrlMldsaSign (w : BrlSender) (s : State) : Host.Outcome State Fault Refusal := act (brlRow 0x31 w) s

/-- Meaning of the Burl operation 0x32: its submission (R404, R411). -/
def execBrlMldsaVerify (w : BrlSender) (s : State) : Host.Outcome State Fault Refusal := act (brlRow 0x32 w) s

/-- Meaning of the Burl operation 0x38: its submission (R404, R411). -/
def execBrlMlkemPub (w : BrlSender) (s : State) : Host.Outcome State Fault Refusal := act (brlRow 0x38 w) s

/-- Meaning of the Burl operation 0x39: its submission (R404, R411). -/
def execBrlMlkemEncaps (w : BrlSender) (s : State) : Host.Outcome State Fault Refusal := act (brlRow 0x39 w) s

/-- Meaning of the Burl operation 0x3A: its submission (R404, R411). -/
def execBrlMlkemDecaps (w : BrlSender) (s : State) : Host.Outcome State Fault Refusal := act (brlRow 0x3A w) s

/-- Meaning of the Burl operation 0x40: its submission (R404, R411). -/
def execBrlLmsVerify (w : BrlSender) (s : State) : Host.Outcome State Fault Refusal := act (brlRow 0x40 w) s

end Sys2Proof.Machine
end

