-- ==== Sys2Proof/Machine/Hollow.lean ====
section
/-!
DEFINITION. Machine/Hollow.lean: hollow channels and knocks (16_hollows.md R427-R444).
-/
namespace Sys2Proof.Machine

/-- A channel. -/
def hchan (c : Nat) (s : State) : Hchan := tget {} s.hlw.chan c
/-- Replace a channel. -/
def setHchan (c : Nat) (x : Hchan) (s : State) : State := { s with hlw := { s.hlw with chan := tset {} s.hlw.chan c x } }
/-- Change a channel. -/
def modHchan (c : Nat) (f : Hchan → Hchan) (s : State) : State := setHchan c (f (hchan c s)) s

/-- Twig of a channel's leaf end. -/
def Hchan.twig (x : Hchan) : Nat := twigOfLeaf x.leaf
/-- Twig memory offset of the area. -/
def Hchan.base (x : Hchan) : Nat := 256 * x.area

/-- The device writes a field of the area (R438). -/
def areaPut (c off : Nat) (b : Bytes) (s : State) : State :=
  let x := hchan c s
  twigWrite x.twig (x.base + off) b s

/-- Offset of message `n`'s slot. -/
def hslot (x : Hchan) (n : Nat) : Nat := if x.notice then 0x100 else 0x100 + 128 * (n % 8)

/-- The slot of the message numbered SEQ: SEQ is 1 for message 0 (R433, R438). -/
def hslotSeq (x : Hchan) (q : W16) : Nat := hslot x (q.toNat + 7)

/-- COLLISIONS and FLAGS as the device rewrites them (R438). -/
def areaStatus (c : Nat) (s : State) : State :=
  let x := hchan c s
  areaPut c 0x10 (leBytes 2 x.collisions.toNat ++ leBytes 2 x.areaFlags.toNat) s

/-! ### Knocks (R442, R443) -/

/-- Ring knock `k`. A knock with SECURE 1 never rings PF0, whatever its TARGET. -/
def ringKnock (k : Nat) (s : State) : State :=
  let x := tget {} s.hlw.knock k
  match x.target with
  | 1 => leafEvent x.leaf 8 s
  | 2 =>
    let s' : State := { s with hlw := { s.hlw with pend0 := setBit s.hlw.pend0 k true } }
    if x.secure || s.hlw.pend0.getLsbD k then s else emitOut (.msix 0 (32 + k)) s'
  | 3 =>
    let s' : State := { s with hlw := { s.hlw with pend1 := setBit s.hlw.pend1 k true } }
    if s.hlw.pend1.getLsbD k then s else emitOut (.msix 1 (32 + k)) s'
  | _ => s

/-- A delivery rings the knock that the channel names. -/
def knockRx (c : Nat) (s : State) : State := let x := hchan c s; if x.rxEn then ringKnock x.knockRx s else s
/-- An acknowledgement rings its knock. -/
def knockAck (c : Nat) (s : State) : State := let x := hchan c s; if x.ackEn then ringKnock x.knockAck s else s

/-! ### Dead receivers (R434, R435) -/

/-- A domain is RUNNING. -/
def domRunning (d : Nat) (s : State) : Bool := (tget {} s.cus.dom d).st == .running

/-- The receiver of a channel is dead. -/
def hdead (x : Hchan) (s : State) : Bool :=
  x.timedOut ||
  (if !x.dirOut then (leafAt x.leaf s).fenced || !boughAlive (boughOfLeaf x.leaf) s
   else match x.outside with
    | 0 => !s.boot.hostUp
    | 1 => !s.boot.hostUp || !s.boot.pf1
    | d => !domRunning (d - 2) s)

/-- An acknowledgement of SEQ `q` reaches the sender: the outside end's queue under IN, the slot and ACKED under OUT. -/
def hAck (c : Nat) (q code : W16) (s : State) : State :=
  let x := hchan c s
  let s :=
    if x.dirOut then
      let s := areaPut c (hslotSeq x q + 0x42) (leBytes 2 code.toNat) s
      let s := setHchan c { x with acked := x.acked + 1 } s
      areaPut c 0x0C (leBytes 4 (x.acked + 1).toNat) s
    else setHchan c { x with acks := x.acks ++ [(q, code)] } s
  knockAck c s

/-- Every command not yet acknowledged is acknowledged with 0x8004; a waiting notice is discarded (R435, R437). -/
def hAbortAll (c : Nat) (s : State) : State :=
  let x := hchan c s
  let s := setHchan c { x with waiting := [], taken := [] } s
  let n := x.waiting.length + x.taken.length
  let s := if n = 0 then s else bumpBy (cHlw c 4) n s
  if x.notice then s else foldS (fun q s => hAck c q 0x8004 s) (x.taken ++ x.waiting.map (·.seq)) s

/-- The channels that their receiver's death reaches under ABORT (R435). -/
def hollowSweep (s : State) : State :=
  foldS (fun (e : Nat × Hchan) s =>
    if e.2.open_ && e.2.abort && hdead e.2 s && (e.2.waiting != [] || e.2.taken != []) then hAbortAll e.1 s else s) s.hlw.chan s

/-! ### Sending and taking -/

/-- Places of a COMMAND channel that are occupied (R430). -/
def Hchan.occupied (x : Hchan) : Nat := x.waiting.length + x.taken.length + x.acks.length

/-- A message joins the channel with the next SEQ: delivered into the area under IN, waiting for the outside end under OUT. A
notice replaces the one that waits (R431, R433, R438). -/
def hAccept (c : Nat) (data : Bytes) (s : State) : State :=
  let x := hchan c s
  let q := x.seq + 1
  let hit := x.notice && x.waiting != []
  let m : HMsg := { seq := q, data := padTo 64 data, at_ := s.now }
  let x' := { x with seq := q, waiting := if x.notice then [m] else x.waiting ++ [m] }
  let s := bump (cHlw c 0) (setHchan c x' s)
  let s := if x.dirOut then areaPut c (hslot x x.posted.toNat + 0x40) (leBytes 2 q.toNat) s
    else
      let s := areaPut c (hslot x x.delivered.toNat) (m.data ++ leBytes 2 q.toNat) s
      let s := modHchan c (fun x => { x with delivered := x.delivered + 1 }) s
      areaPut c 0 (leBytes 4 (x.delivered + 1).toNat) s
  let s :=
    if !hit then s
    else
      let first := if x.dirOut then !x.fCollision else !x.areaFlags.getLsbD 1
      let s := modHchan c (fun y => { y with
        collisions := y.collisions + 1,
        fCollision := y.fCollision || x.dirOut,
        areaFlags := if x.dirOut then y.areaFlags else setBit y.areaFlags 1 true }) s
      let s := bump (cHlw c 3) (areaStatus c s)
      if first then emit .info 0x8008 (srcHollow c) [] s else s
  knockRx c s

/-- An outside end sends on an IN channel: the refusal code, 0 where the message is accepted (R430, R431, R435, R437). -/
def hSend (c : Nat) (data : Bytes) (s : State) : W16 × State :=
  let x := hchan c s
  let refuse := fun (code : W16) => (code, bump (cHlw c 2) s)
  if !x.open_ || x.dirOut then refuse 0x8002
  else if !x.notice && decide (8 ≤ x.occupied) then refuse 0x8001
  else if hdead x s then
    if !x.abort then refuse 0x8003
    else
      let s := bump (cHlw c 4) s
      if x.notice then (0, modHchan c (fun x => { x with fAborted := true }) s)
      else (0, hAck c (x.seq + 1) 0x8004 (modHchan c (fun x => { x with seq := x.seq + 1 }) (bump (cHlw c 0) s)))
  else (0, hAccept c data s)

/-- The outside end takes the next message of an OUT channel. -/
def hTake (c : Nat) (s : State) : Option (HMsg × State) :=
  let x := hchan c s
  if !x.dirOut then none
  else match x.waiting with
    | [] => none
    | m :: r => some (m, bump (cHlw c 1) (setHchan c { x with
        waiting := r, timedOut := false, taken := if x.notice then [] else x.taken ++ [m.seq] } s))

/-- The sender takes the oldest acknowledgement of an IN channel; also after closing (R437). -/
def hAckTake (c : Nat) (s : State) : Option ((W16 × W16) × State) :=
  let x := hchan c s
  match x.acks with
  | [] => none
  | a :: r => if x.dirOut then none else some (a, setHchan c { x with acks := r } s)

/-- The outside receiver of an OUT COMMAND channel acknowledges; false where the SEQ is not the oldest taken (R430, R440). -/
def hRxAck (c : Nat) (q code : W16) (s : State) : Bool × State :=
  let x := hchan c s
  if x.open_ && x.dirOut && !x.notice && x.taken.head? == some q then
    (true, hAck c q code (setHchan c { x with taken := x.taken.tail } s))
  else (false, bump (cHlw c 5) s)

/-! ### Opening and closing (R436, R437) -/

/-- Regions of a twig's memory that the Grain names (13 R352): lane ring region, MKA rings, escape areas. -/
def twigRegions (g : Grain) (t : Nat) : List (Nat × Nat) :=
  let role := fun l => (((g.boughs.getD (l / 16) {}).leaves).getD (l % 16) {}).role
  let lanes := (List.range 4).any (fun k => role (4 * t + k) == 1)
  let lane := match g.canopy with | some c => if lanes then [(c.laneRing, 32768)] else [] | none => []
  let mka := ((g.ports.getD []).filter (fun p => p.secy.any (fun y => y.present == 1 && y.mkaLeaf / 4 == t))).map
    (fun p => (p.mkaRing, 65536))
  let esc := (g.custody.domains.filter (fun d => fieldLe d.2.filter 4 2 != 0xFFFF && fieldLe d.2.filter 4 2 / 4 == t)).map
    (fun d => (fieldLe d.2.filter 0x10 4, 32768))
  lane ++ mka.eraseDups ++ esc.eraseDups

/-- The conditions of an opening (R436). -/
def hOpenOk (c : Nat) (x : Hchan) (s : State) : Bool :=
  let lf := leafAt x.leaf s
  (if c < 16 then x.outside == 1 else x.outside != 1 && decide (x.outside ≤ 33))
    && decide (x.leaf < 192) && lf.released && lf.role != 0 && lf.role != 5
    && (s.grn.grain.boughs.getD (boughOfLeaf x.leaf) {}).freezable == 0
    && decide (x.base + 1280 ≤ 0x40000)
    && (twigRegions s.grn.grain x.twig).all (fun r => !overlaps x.base 1280 r.1 r.2)
    && s.hlw.chan.all (fun e => e.1 == c || !e.2.open_ || e.2.twig != x.twig || !overlaps x.base 1280 e.2.base 1280)

/-- The fields of HLW_nn_CFG. -/
def hCfg (v : W32) (x : Hchan) : Hchan :=
  { x with notice := v.getLsbD 30, dirOut := v.getLsbD 29, abort := v.getLsbD 28, outside := bitsOf v.toNat 27 22,
           leaf := bitsOf v.toNat 21 14 }

/-- CHANNEL_OPEN: PF1 writes HLW_nn_CFG with OPEN 1 (R428, R436). -/
def channelOpenS (c : Nat) (v : W32) (s : State) : State :=
  let x := hchan c s
  if !s.boot.pf1 || x.open_ then s
  else
    let x := hCfg v x
    if hOpenOk c x s then
      let s := setHchan c { x with
        open_ := true, seq := 0, waiting := [], taken := [], acks := [], delivered := 0, takenCnt := 0, posted := 0,
        acked := 0, collisions := 0, areaFlags := 0, timedOut := false } s
      areaPut c 0 (List.replicate 1280 0) { s with hlw := { s.hlw with result := 0 } }
    else setHchan c x { s with hlw := { s.hlw with result := 0x8006 } }

/-- Meaning of CHANNEL_OPEN. -/
def execChannelOpen (c : Fin 64) (v : BitVec 32) (s : State) : Host.Outcome State Fault Refusal := act (channelOpenS c.val v) s

/-- A channel closes (R437). -/
def hClose (c : Nat) (s : State) : State :=
  let x := hchan c s
  if !x.open_ then s
  else
    let s := hAbortAll c s
    let s := areaPut c 0 (List.replicate 1280 0) s
    modHchan c (fun x => { x with open_ := false, waiting := [], taken := [], timedOut := false }) s

/-- CHANNEL_CLOSE: PF1 writes OPEN 0. -/
def channelCloseS (c : Nat) (s : State) : State := if s.boot.pf1 then hClose c s else s

/-- Meaning of CHANNEL_CLOSE. -/
def execChannelClose (c : Fin 64) (s : State) : Host.Outcome State Fault Refusal := act (channelCloseS c.val) s

/-- The channels of a leaf close: its program is swapped, or its role becomes IDLE or SPARE (R437). -/
def closeLeafChannels (l : Nat) (s : State) : State :=
  foldS (fun (e : Nat × Hchan) s => if e.2.open_ && e.2.leaf == l then hClose e.1 s else s) s.hlw.chan s

/-! ### The host end (R429, R440) -/

/-- A function's access to a channel block: `f` where it is the outside end's own; on another party's channel a read gives zero, a write
is discarded, and the access is recorded (R429). -/
def hostChan (pf1 rd : Bool) (c : Nat) (f : State → State) (s : State) : State :=
  if pf1 then (if c < 16 ∧ s.boot.pf1 then f s else s)
  else if c < 16 ∨ !s.grn.installed then s
  else if !s.boot.pf1 then f s
  else if (hchan c s).outside = 0 then f s
  else
    let s := emit .secure 0x8009 (srcHollow c) [] s
    if rd then emitOut (.value 0) s else s

/-- HOLLOW_SEND: the staged message is sent or refused as an Unsupported Request, and staging is zeroed (R440). -/
def hollowSendS (pf1 : Bool) (c : Nat) (s : State) : State :=
  hostChan pf1 false c (fun s =>
    let r := hSend c (mread 0 (hchan c s).tx 0 64) s
    let s := modHchan c (fun x => { x with
      tx := [], fFull := x.fFull || r.1 == 0x8001, fDead := x.fDead || r.1 == 0x8003, fClosed := x.fClosed || r.1 == 0x8002 }) r.2
    if r.1 = 0 then s else emitOut .unsupported s) s

/-- Meaning of HOLLOW_SEND. -/
def execHollowSend (pf1 : Bool) (c : Fin 64) (s : State) : Host.Outcome State Fault Refusal := act (hollowSendS pf1 c.val) s

/-- RX_TAKE: a read of HLW_nn_RX_TAKE. -/
def rxTakeS (pf1 : Bool) (c : Nat) (s : State) : State :=
  hostChan pf1 true c (fun s =>
    match (if (hchan c s).open_ then hTake c s else none) with
    | some (m, s) => emitOut (.value (BitVec.ofNat 64 (2 ^ 31 + m.seq.toNat))) (modHchan c (fun x => { x with rx := m.data }) s)
    | none => emitOut (.value 0) (modHchan c (fun x => { x with fEarly := true }) s)) s

/-- Meaning of RX_TAKE. -/
def execRxTake (pf1 : Bool) (c : Fin 64) (s : State) : Host.Outcome State Fault Refusal := act (rxTakeS pf1 c.val) s

/-- ACK_TAKE: a read of HLW_nn_ACK_TAKE. -/
def ackTakeS (pf1 : Bool) (c : Nat) (s : State) : State :=
  hostChan pf1 true c (fun s =>
    match hAckTake c s with
    | some (a, s) => emitOut (.value (BitVec.ofNat 64 (a.2.toNat * 2 ^ 16 + a.1.toNat))) s
    | none => emitOut (.value 0) (modHchan c (fun x => { x with fEarly := true }) s)) s

/-- Meaning of ACK_TAKE. -/
def execAckTake (pf1 : Bool) (c : Fin 64) (s : State) : Host.Outcome State Fault Refusal := act (ackTakeS pf1 c.val) s

/-- RX_ACK: a write of HLW_nn_RX_ACK with CODE and SEQ. -/
def rxAckS (pf1 : Bool) (c : Nat) (q code : W16) (s : State) : State :=
  hostChan pf1 false c (fun s =>
    let r := hRxAck c q code s
    if r.1 then r.2 else modHchan c (fun x => { x with fAckErr := true }) r.2) s

/-- Meaning of RX_ACK. -/
def execRxAck (pf1 : Bool) (c : Fin 64) (q code : BitVec 16) (s : State) : Host.Outcome State Fault Refusal :=
  act (rxAckS pf1 c.val q code) s

/-- RECEIVER_TIMEOUT (R434): the oldest message not yet taken has waited longer than TIMEOUT_MS. -/
def receiverTimeoutS (t c : Nat) (s : State) : State :=
  let s := atTime t s
  let x := hchan c s
  match x.waiting with
  | m :: _ =>
    if x.open_ && x.timeoutMs != 0 && decide (x.timeoutMs * psMs < s.now - m.at_) then
      hollowSweep (setHchan c { x with timedOut := true } s)
    else s
  | [] => s

/-- Meaning of RECEIVER_TIMEOUT. -/
def execReceiverTimeout (t : Nat) (c : Fin 64) (s : State) : Host.Outcome State Fault Refusal := act (receiverTimeoutS t c.val) s

/-- KNOCK_RING: a write of HLW_KNOCK_RING by a function (R442). -/
def knockRingS (pf1 : Bool) (v : W32) (s : State) : State :=
  if (pf1 && !s.boot.pf1) || (!pf1 && !s.grn.installed) then s
  else foldS (fun k s =>
    if !v.getLsbD k then s
    else if !pf1 && (tget {} s.hlw.knock k).secure then emit .secure 0x8009 (srcTree 11) [] s
    else ringKnock k s) (List.range 32) s

/-- Meaning of KNOCK_RING. -/
def execKnockRing (pf1 : Bool) (v : BitVec 32) (s : State) : Host.Outcome State Fault Refusal := act (knockRingS pf1 v) s

/-! ### The leaf end (R438, R439) -/

/-- A store of TAKEN by the leaf: the take, and for COMMAND the acknowledgement. A message that an abort has already answered
is passed over. -/
def hLeafTaken (c : Nat) (v : W32) (s : State) : State :=
  let x := hchan c s
  if x.dirOut || v != x.takenCnt + 1 || x.takenCnt == x.delivered then
    bump (cHlw c 5) (areaPut c 4 (leBytes 4 x.takenCnt.toNat) s)
  else
    let stale := decide (x.waiting.length < (x.delivered - x.takenCnt).toNat) && !x.notice
    let code := BitVec.ofNat 16 (leNat (twigRead x.twig (x.base + hslot x x.takenCnt.toNat + 0x42) 2 s))
    let s := setHchan c { x with takenCnt := v, timedOut := false, waiting := if stale then x.waiting else x.waiting.tail } s
    match (if stale then none else x.waiting.head?) with
    | some m => let s := bump (cHlw c 1) s; if x.notice then s else hAck c m.seq code s
    | none => s

/-- A store of POSTED by the leaf: one message for sending, or a discard with FULL_ERR or DEAD. -/
def hLeafPosted (c : Nat) (v : W32) (s : State) : State :=
  let x := hchan c s
  let back := fun (s : State) => areaPut c 8 (leBytes 4 x.posted.toNat) s
  let flag := fun (b : Nat) (s : State) =>
    areaStatus c (back (bump (cHlw c 2) (modHchan c (fun x => { x with areaFlags := setBit x.areaFlags b true }) s)))
  if !x.dirOut || v != x.posted + 1 then bump (cHlw c 5) (back s)
  else if !x.notice && decide (8 < (v - x.acked).toNat) then flag 2 s
  else
    let data := twigRead x.twig (x.base + hslot x x.posted.toNat) 64 s
    if hdead x s then
      if !x.abort then flag 0 s
      else
        let s := bump (cHlw c 4) (modHchan c (fun x => { x with posted := v }) s)
        if x.notice then areaStatus c (modHchan c (fun x => { x with areaFlags := setBit x.areaFlags 3 true }) s)
        else
          let q := x.seq + 1
          let s := areaPut c (hslot x x.posted.toNat + 0x40) (leBytes 2 q.toNat) (modHchan c (fun x => { x with seq := q }) s)
          hAck c q 0x8004 (bump (cHlw c 0) s)
    else
      let s := hAccept c data s
      modHchan c (fun x => { x with posted := v }) s

/-- The hollow block observes a store of leaf `l` to its twig's memory (R438, R439). -/
def hollowObserve (l addr n : Nat) (s : State) : State :=
  foldS (fun (e : Nat × Hchan) s =>
    let x := e.2
    if !x.open_ || x.leaf != l then s
    else
      let w := fun o => BitVec.ofNat 32 (leNat (twigRead x.twig (x.base + o) 4 s))
      if overlaps addr n (x.base + 4) 4 then hLeafTaken e.1 (w 4) s
      else if overlaps addr n (x.base + 8) 4 then hLeafPosted e.1 (w 8) s
      else if overlaps addr n (x.base + 0x12) 2 ∧ allZero (twigRead x.twig (x.base + 0x12) 2 s) then
        modHchan e.1 (fun x => { x with areaFlags := 0 }) s
      else s) s.hlw.chan s

end Sys2Proof.Machine
end

