-- ==== Sys2Proof/Machine/Sfdp.lean ====
section
/-!
DEFINITION. Machine/Sfdp.lean: the JESD216 SFDP tables of a serial flash (07 R165), the times and sizes that the cambium takes
from them (08 R202, R204, R206), and the SFDP it presents (08 R212, R213). Bit places are JESD216's and JESD251's (PRESUMED, log
entry 23).
-/
namespace Sys2Proof.Machine

/-- The bytes start with an SFDP header. -/
def sfdpOk (b : Bytes) : Bool := b.take 4 == [0x53, 0x46, 0x44, 0x50]

/-- The parameter tables: ID, revision bytes and body. -/
def sfdpTables (b : Bytes) : List (Nat × Bytes × Bytes) :=
  if !sfdpOk b then []
  else (List.range (fieldLe b 6 1 + 1)).map (fun i =>
    let h := slice b (8 + 8 * i) 8
    (fieldLe h 7 1 * 256 + fieldLe h 0 1, slice h 1 2, slice b (fieldLe h 4 3) (4 * fieldLe h 3 1)))

/-- The body of a table, empty where it is absent. -/
def sfdpTable (id : Nat) (b : Bytes) : Bytes :=
  match (sfdpTables b).find? (fun t => t.1 == id) with | some t => t.2.2 | none => []

/-- The basic flash parameter table. -/
def bfpt (b : Bytes) : Bytes := sfdpTable 0xFF00 b
/-- The xSPI profile 1.0 table. -/
def xspiTable (b : Bytes) : Bytes := sfdpTable 0xFF05 b

/-- DWORD `i` of a table, counted from 1. -/
def dword (t : Bytes) (i : Nat) : Nat := fieldLe t (4 * (i - 1)) 4
/-- The table has DWORD `i`. -/
def hasDword (t : Bytes) (i : Nat) : Bool := decide (4 * i ≤ t.length)

/-- Bytes of the flash; 4 GiB where SFDP gives no density (log entry 23). -/
def flashBytes (b : Bytes) : Nat :=
  let t := bfpt b
  if !hasDword t 2 then 2 ^ 32
  else
    let d := dword t 2
    if bitOf d 31 then 2 ^ (bitsOf d 30 0) / 8 else (d + 1) / 8

/-- Bytes of a flash page; 256 where SFDP gives none. -/
def flashPage (b : Bytes) : Nat := let t := bfpt b; if hasDword t 11 then 2 ^ bitsOf (dword t 11) 7 4 else 256

/-- Erase type `i` of 0 to 3: log2 of its size (0 none) and its opcode. -/
def eraseType (b : Bytes) (i : Nat) : Nat × Nat :=
  let d := dword (bfpt b) (8 + i / 2)
  (bitsOf d (16 * (i % 2) + 7) (16 * (i % 2)), bitsOf d (16 * (i % 2) + 15) (16 * (i % 2) + 8))

/-- The default size of an erase opcode (R193); 64 KiB for an overridden one that SFDP does not list (log entry 23). -/
def eraseDefault (op : Nat) : Nat :=
  match op with | 0x20 => 4096 | 0x21 => 4096 | 0x52 => 32768 | 0x5C => 32768 | _ => 65536

/-- The 4-byte address instruction table. -/
def fourTable (b : Bytes) : Bytes := sfdpTable 0xFF84 b

/-- Opcode of erase type `i` with a 4-byte address, none where the 4-byte table does not give it. -/
def eraseOp4 (b : Bytes) (i : Nat) : Option Nat :=
  let t := fourTable b
  if hasDword t 2 && bitOf (dword t 1) (9 + i) then some (bitsOf (dword t 2) (8 * i + 7) (8 * i)) else none

/-- The erase type of an opcode with a 3-byte or a 4-byte address, none where SFDP lists it nowhere. -/
def eraseTypeOf (b : Bytes) (op : Nat) : Option Nat :=
  (List.range 4).find? (fun i => (eraseType b i).1 != 0 && ((eraseType b i).2 == op || eraseOp4 b i == some op))

/-- Size of an erase. -/
def eraseSize (b : Bytes) (op : Nat) : Nat :=
  match eraseTypeOf b op with
  | some i => 2 ^ (eraseType b i).1
  | none => eraseDefault op

/-- Index of the erase type of a size; the last where none has it. -/
def eraseIndex (b : Bytes) (size : Nat) : Nat := ((List.range 4).find? (fun i => 2 ^ (eraseType b i).1 == size)).getD 3

/-- Typical time of erase type `i` in µs, none where SFDP gives none. -/
def eraseTime (b : Bytes) (i : Nat) : Option Nat :=
  let t := bfpt b
  if !hasDword t 10 || (eraseType b i).1 == 0 then none
  else
    let d := dword t 10 >>> (4 + 7 * i)
    some ((bitsOf d 4 0 + 1) * ([1, 16, 128, 1000].getD (bitsOf d 6 5) 0) * 1000)

/-- Typical page program time in µs. -/
def programTime (b : Bytes) : Option Nat :=
  let t := bfpt b
  if !hasDword t 11 then none
  else
    let d := dword t 11
    some ((bitsOf d 12 8 + 1) * (if bitOf d 13 then 64 else 8))

/-- Typical chip erase time in µs. -/
def chipEraseTime (b : Bytes) : Option Nat :=
  let t := bfpt b
  if !hasDword t 11 then none
  else
    let d := dword t 11
    some ((bitsOf d 28 24 + 1) * ([16, 256, 4000, 64000].getD (bitsOf d 30 29) 0) * 1000)

/-- Suspend latency of an erase or a program in ns; 0 where SFDP gives none. -/
def suspendLatency (b : Bytes) (erase : Bool) : Nat :=
  let t := bfpt b
  if !hasDword t 12 || bitOf (dword t 12) 31 then 0
  else
    let d := dword t 12 >>> (if erase then 24 else 13)
    (bitsOf d 4 0 + 1) * ([128, 1000, 8000, 64000].getD (bitsOf d 6 5) 0)

/-- The dummy cycles of the xSPI table at each listed frequency. -/
def xspiDummies (b : Bytes) : List (Nat × Nat) :=
  let t := xspiTable b
  if !hasDword t 5 then []
  else
    [(100, bitsOf (dword t 5) 11 7), (133, bitsOf (dword t 5) 21 17), (166, bitsOf (dword t 5) 31 27), (200, bitsOf (dword t 4) 11 7)]

/-- Dummy cycles of a mode at a clock, none where SFDP does not support it (R165, R166). -/
def flashDummy (b : Bytes) (mode mhz : Nat) : Option Nat :=
  let t := bfpt b
  if !sfdpOk b || !hasDword t 3 then none
  else match mode with
    | 0 => if mhz ≤ 133 then some 8 else none
    | 1 => if mhz ≤ 133 ∧ bitOf (dword t 1) 22 then some (bitsOf (dword t 3) 20 16 + bitsOf (dword t 3) 23 21) else none
    | 2 => if mhz ≤ 133 ∧ bitOf (dword t 1) 21 then some (bitsOf (dword t 3) 4 0 + bitsOf (dword t 3) 7 5) else none
    | _ => ((xspiDummies b).find? (fun e => decide (mhz ≤ e.1) && e.2 != 0)).map (·.2)

/-- Address bytes that the basic table gives: 3, 4, or either where a 4-byte opcode of the mode (bit `i` of the 4-byte table) decides. -/
def addrWide (b : Bytes) (i : Nat) : Bool :=
  match bitsOf (dword (bfpt b) 1) 18 17 with
  | 0 => false
  | 1 => bitOf (dword (fourTable b) 1) i
  | _ => true

/-- Opcode and address bytes of a read in a mode (R165): the 4-byte opcode where the flash has it. -/
def flashRead (b : Bytes) (mode : Nat) : Nat × Nat :=
  let t := bfpt b
  let pick := fun (i op op4 : Nat) =>
    if addrWide b i then (if bitOf (dword (fourTable b) 1) i then op4 else op, 4) else (op, 3)
  match mode with
  | 0 => pick 1 0x0B 0x0C
  | 1 => pick 4 (bitsOf (dword t 3) 31 24) 0x6C
  | 2 => pick 5 (bitsOf (dword t 3) 15 8) 0xEC
  | _ => (bitsOf (dword (xspiTable b) 1) 15 8, 4)

/-! ### The presented SFDP (R212, R213) -/

/-- C_cmd of a mode. -/
def cmdCycles (mode : Nat) : Nat := match mode with | 3 => 3 | 2 => 16 | _ => 40

/-- t_first in ps times the flash-side clock in MHz. -/
def tFirst (i : FlashInfo) : Nat := max (160000 * i.mhz) (40000 * i.mhz + (cmdCycles i.mode + i.dummy) * 1000000)

/-- D_host at a host frequency in MHz. -/
def dHostAt (i : FlashInfo) (f : Nat) : Nat :=
  max i.dummy ((tFirst i * f + 1000000 * i.mhz - 1) / (1000000 * max 1 i.mhz))

/-- The 1-1-1 limit in MHz. -/
def limit111 (i : FlashInfo) : Nat := min 133 (8000000 * i.mhz / max 1 (tFirst i))

/-- A table with bits [hi:lo] of DWORD `i` replaced; unchanged where it has no such DWORD. -/
def setBits (i hi lo v : Nat) (t : Bytes) : Bytes :=
  if !hasDword t i then t
  else
    let d := dword t i
    let d' := d - (bitsOf d hi lo) * 2 ^ lo + (v % 2 ^ (hi - lo + 1)) * 2 ^ lo
    t.take (4 * (i - 1)) ++ leBytes 4 d' ++ t.drop (4 * i)

/-- The basic table as presented: wait states of at most 31 in their fields, and no mode bits (log entry 23). -/
def bfptShown (i : FlashInfo) (t : Bytes) : Bytes :=
  let d := dHostAt i i.mhz
  let t := setBits 1 22 19 (match i.mode with | 1 => 8 | 2 => 4 | _ => 0) (setBits 1 18 16 2 t)
  let t := setBits 3 23 16 (if i.mode = 1 then min 31 d else 0) (setBits 3 7 0 (if i.mode = 2 then min 31 d else 0) t)
  let t := setBits 4 31 0 0 (setBits 5 4 4 0 (setBits 5 0 0 0 (setBits 6 31 0 0 (setBits 7 31 0 0 t))))
  let t := setBits 14 31 23 0xB9 (setBits 14 22 15 0xAB (setBits 14 14 13 1 (setBits 14 12 8 0 t)))
  let t := setBits 15 19 9 0 t
  setBits 16 31 24 1 (setBits 16 23 14 1 (setBits 16 13 8 0x10 (setBits 17 31 0 0 t)))

/-- The xSPI profile table as presented. A D_host above 31 is presented as 31, the most that its field holds (log entry 23). -/
def xspiShown (i : FlashInfo) (t : Bytes) : Bytes :=
  let v := fun (f old : Nat) => if f ≤ i.mhz ∧ old ≠ 0 then min 31 (dHostAt i f) else 0
  setBits 4 11 7 (v 200 (bitsOf (dword t 4) 11 7)) (setBits 5 31 27 (v 166 (bitsOf (dword t 5) 31 27))
    (setBits 5 21 17 (v 133 (bitsOf (dword t 5) 21 17)) (setBits 5 11 7 (v 100 (bitsOf (dword t 5) 11 7)) t)))

/-- The Tirinjo table: mailbox opcodes, format and domain; limits; D_host; zero. -/
def tirinjoTable (i : FlashInfo) (put get_ d : Nat) : Bytes :=
  leBytes 1 put ++ leBytes 1 get_ ++ [1] ++ leBytes 1 d ++ leBytes 2 i.mhz ++ leBytes 2 (limit111 i)
    ++ leBytes 4 (dHostAt i i.mhz) ++ leBytes 4 0

/-- The presented SFDP of at most 2 KiB; nothing but the Tirinjo table where the flash has none. -/
def sfdpShown (i : FlashInfo) (put get_ d : Nat) : Bytes :=
  let kept := (sfdpTables i.sfdp).filter (fun t => [0xFF00, 0xFF05, 0xFF84, 0xFF87, 0xFF81].contains t.1)
  let ts := kept.map (fun t => (t.1, t.2.1, if t.1 = 0xFF00 then bfptShown i t.2.2 else if t.1 = 0xFF05 then xspiShown i t.2.2 else t.2.2))
  let ts : List (Nat × Bytes × Bytes) := ts ++ [(0xFF7A, [0, 1], tirinjoTable i put get_ d)]
  let base := 8 + 8 * ts.length
  let hs := ts.foldl (fun (a : Bytes × Nat) (t : Nat × Bytes × Bytes) =>
    (a.1 ++ leBytes 1 (t.1 % 256) ++ t.2.1 ++ leBytes 1 (t.2.2.length / 4) ++ leBytes 3 a.2 ++ leBytes 1 (t.1 / 256), a.2 + t.2.2.length))
    (([] : Bytes), base)
  let head := if sfdpOk i.sfdp then slice i.sfdp 4 2 else [6, 1]
  let bodies : Bytes := ts.flatMap (fun t => t.2.2)
  (ascii4 ++ head ++ leBytes 1 (ts.length - 1) ++ [0xFF] ++ hs.1 ++ bodies).take 2048
where
  /-- The signature. -/
  ascii4 : Bytes := [0x53, 0x46, 0x44, 0x50]

end Sys2Proof.Machine
end

