-- ==== Sys2Proof/Machine/Custody.lean ====
section
/-!
DEFINITION. Machine/Custody.lean: custody boot, release and failures (07_custody_boot.md R161-R186), seals, and the custody push
session (09 R229-R231).
-/
namespace Sys2Proof.Machine

/-- Change the custody block. -/
def modCus (f : Cus → Cus) (s : State) : State := { s with cus := f s.cus }
/-- A domain. -/
def cdom (d : Nat) (s : State) : CusDom := tget {} s.cus.dom d
/-- Change a domain. -/
def modCdom (d : Nat) (f : CusDom → CusDom) (s : State) : State := modCus (fun c => { c with dom := tmod {} c.dom d f }) s
/-- The domain's custody bough runs (R171). -/
def cusBoughRuns (d : Nat) (s : State) : Bool := boughRuns (custodyBough (cdom d s) s) s
/-- Change a domain's cambium. -/
def modFlt (d : Nat) (f : Flt → Flt) (s : State) : State := modCdom d (fun x => { x with flt := f x.flt }) s
/-- A domain's entries in the installed Grain. -/
def gdom (d : Nat) (s : State) : GDomain := tget {} s.grn.grain.custody.domains d
/-- The installed Grain configures the domain. -/
def cusConfigured (d : Nat) (s : State) : Bool := s.grn.installed && (gdom d s).policy != []
/-- EN of a custody port. -/
def cusOn (d : Nat) (s : State) : Bool := !(tget {} s.dis (192 + d)).off
/-- A domain's floor. -/
def cusFloor (d : Nat) (s : State) : Nat := tget 0 s.kpf.floors d

/-! ### The policy entry (13 R355) -/

/-- RULE. -/
def polRule (p : Bytes) : Nat := fieldLe p 1 1
/-- FLOOR_MODE is ON_COMMAND. -/
def polOnCommand (p : Bytes) : Bool := fieldLe p 2 1 == 1
/-- Flash mode, of the primary or the recovery flash. -/
def polMode (p : Bytes) (rcv : Bool) : Nat := fieldLe p (if rcv then 6 else 5) 1
/-- Flash clock in MHz. -/
def polMhz (p : Bytes) (rcv : Bool) : Nat := fieldLe p (if rcv then 0xA else 8) 2
/-- Shadow allocation. -/
def polShadow (p : Bytes) : Nat := fieldLe p 0xC 4
/-- Base of slot 0 (A) or 1 (B). -/
def slotBase (p : Bytes) (k : Nat) : Nat := fieldLe p (0x10 + 8 * k) 4
/-- Size of a slot. -/
def slotSize (p : Bytes) (k : Nat) : Nat := fieldLe p (0x14 + 8 * k) 4
/-- A recovery flash is named. -/
def polRecovery (p : Bytes) : Bool := fieldLe p 0x20 4 != 0xFFFFFFFF
/-- The accepted key-block digests. -/
def polKeys (p : Bytes) : List Bytes := (List.range (min 4 (fieldLe p 7 1))).map (fun i => slice p (0x40 + 48 * i) 48)

/-- Base of the recovery image. -/
def polRcvBase (p : Bytes) : Nat := fieldLe p 0x20 4

/-! ### The header (R167-R172) -/

/-- The fields of an image header. -/
def hdrOf (b : Bytes) : CusHdr :=
  { blockLog2 := fieldLe b 6 1, seq := fieldLe b 8 8, svn := fieldLe b 0x10 4, bodyLen := fieldLe b 0x18 4
    blocks := fieldLe b 0x1C 4, headerLen := fieldLe b 0x20 4, tableDigest := slice b 0x38 48
    regions := (List.range (min 16 (fieldLe b 0x24 4))).map (fun i =>
      let o := 0x80 + 16 * i
      (fieldLe b o 4, fieldLe b (o + 4) 4, fieldLe b (o + 8) 4, bitOf (fieldLe b (o + 12) 1) 0, fieldLe b (o + 13) 1)) }

/-- Length of the digest table as stored. -/
def CusHdr.tableLen (h : CusHdr) : Nat := (h.blocks * 48 + 4095) / 4096 * 4096
/-- BODY_OFFSET. -/
def CusHdr.bodyOff (h : CusHdr) : Nat := h.headerLen + h.tableLen
/-- IMAGE_LEN. -/
def CusHdr.imageLen (h : CusHdr) : Nat := h.bodyOff + h.bodyLen
/-- Bytes of block `i`. -/
def CusHdr.blockLen (h : CusHdr) (i : Nat) : Nat := min (2 ^ h.blockLog2) (h.bodyLen - i * 2 ^ h.blockLog2)

/-- The regions are in form (R168); `shadowOnly`: the image is served only from the shadow (R229). -/
def regionsOk (b : Bytes) (h : CusHdr) (shadowOnly : Bool) : Bool :=
  h.regions.all (fun r => r.1 % 4096 == 0 && r.2.1 % 4096 == 0 && decide (4096 ≤ r.2.1) && r.2.2.1 % 4096 == 0
      && decide (r.1 + r.2.1 ≤ h.bodyLen) && decide (r.2.2.2.2 ≤ 7) && (!shadowOnly || r.2.2.2.1))
    && (List.range h.regions.length).all (fun i => decide (fieldLe b (0x80 + 16 * i + 12) 1 < 2) && fieldLe b (0x80 + 16 * i + 14) 2 == 0)
    && allZero (slice b (0x80 + 16 * h.regions.length) (256 - 16 * h.regions.length))
    && disjointRanges (h.regions.map (fun r => (r.1, r.2.1))) && disjointRanges (h.regions.map (fun r => (r.2.2.1, r.2.1)))

/-- Bytes of the SHADOW regions. -/
def shadowBytes (h : CusHdr) : Nat := ((h.regions.filter (fun r => r.2.2.2.1)).map (fun r => r.2.1)).sum

/-- What bytes 0x000 to 0x1FF alone decide of an image's form (R170), for an image of at most `limit` bytes and a shadow of `shadow`
bytes; none: well formed so far. -/
def headTest (d : Nat) (b : Bytes) (limit shadow floor : Nat) (shadowOnly : Bool) (fuseId : Bytes) : Option W16 :=
  let h := hdrOf b
  let form := decide (512 ≤ b.length) && slice b 0 4 == [0x43, 0x49, 0x4D, 0x31] && fieldLe b 4 2 == 1
    && decide (12 ≤ h.blockLog2 ∧ h.blockLog2 ≤ 20) && fieldLe b 7 1 == 0 && decide (1 ≤ h.bodyLen)
    && h.blocks == (h.bodyLen + 2 ^ h.blockLog2 - 1) / 2 ^ h.blockLog2
    && h.headerLen % 4096 == 0 && decide (4096 ≤ h.headerLen ∧ h.headerLen ≤ 65536) && decide (fieldLe b 0x24 4 ≤ 16)
    && allZero (slice b 0x180 128) && decide (h.imageLen ≤ 268435456) && decide (h.imageLen ≤ limit) && regionsOk b h shadowOnly
  let tid := slice b 0x28 16
  if !form then some 0x2002
  else if !bitOf (fieldLe b 0x14 4) d || (!allZero tid && tid != fuseId) then some 0x200E
  else if shadow < shadowBytes h then some 0x2008
  else if h.svn < floor then some 0x2006
  else none

/-- Bytes of a SIGNED structure with `n` keys. -/
def signedLen (b : Bytes) : Nat :=
  let kbl := fieldLe b 6 2
  let n := fieldLe b 4 1
  8 + kbl + ((sigEntries n (b.drop (8 + kbl))).map (fun e => (4 + e.2.length + 3) / 4 * 4)).sum

/-- The whole header is well formed in its SIGNED structure and its key block is accepted (R167, R170). -/
def signedTest (header : Bytes) (keys : List Bytes) : Option W16 :=
  let b := header.drop 0x200
  match parseSigned b with
  | none => some 0x2002
  | some g => if !allZero (b.drop (signedLen b)) then some 0x2002 else if keys.contains g.digest then none else some 0x2003

/-- The signatures that the rule requires pass (R172). -/
def sigTest (header : Bytes) (rule : Nat) : Bool :=
  match parseSigned (header.drop 0x200) with
  | none => false
  | some g => ruleMet rule (verifiedAlgs g (header.take 0x200))

/-- Entry `i` of a digest table. -/
def tableEntry (t : Bytes) (i : Nat) : Bytes := slice t (48 * i) 48

/-- Limit of an image's length by its source (R167). -/
def srcLimit (p : Bytes) (src : Nat) : Nat := if src ≤ 1 then slotSize p src else 268435456

/-- The header test of a domain's attempt. -/
def cusHeadTest (d src : Nat) (b : Bytes) (s : State) : Option W16 :=
  let p := (cdom d s).pol
  headTest d b (srcLimit p src) (polShadow p) (cusFloor d s) (decide (2 ≤ src)) s.fuses.fuseId

/-! ### Failures (R185) -/

/-- A custody failure: RESULT, the SECURE event with the code, the FAULT event with 0xF000. -/
def cusRecord (d : Nat) (code : W16) (outcome src : Nat) (s : State) : State :=
  let s := modCdom d (fun x => { x with result := code }) s
  bump (cCus d 8) (emit .fault 0xF000 (srcDomain d) (d1 d ++ d1 outcome ++ d1 src) (emit .secure code (srcDomain d) [] s))

/-- CUSnn_RST_N is asserted (R162). -/
def rstAssert (d : Nat) (s : State) : State :=
  modCdom d (fun x => { x with released := false, rstAt := if x.released then s.now else x.rstAt }) s

/-- What an attempt has read is discarded (R176). -/
def CusDom.dropAttempt (x : CusDom) : CusDom :=
  { x with header := [], hdr := {}, sigOk := false, table := [], body := [], pendingB := [] }

/-- Custody boot under way in a domain. -/
def cusBooting (x : CusDom) : Bool := x.st == .select || x.st == .verify || x.st == .waitRelease

/-- PHASE reads RUNNING once no domain boots (TAP_BOOT_STAT; log entry 42). -/
def phaseRun (s : State) : State :=
  if s.boot.phase = .custody ∧ s.cus.dom.all (fun e => !cusBooting e.2 && !(e.2.bootDue && e.2.pg)) then setPhase .running s else s

/-- FAILED (R164, R186). -/
def cusFailed (d : Nat) (s : State) : State :=
  let s := modCdom d (fun x => { x.dropAttempt with st := .failed, alert := true, step := .idle, cand := [] }) s
  phaseRun (modCus (fun c => { c with ready := c.ready.filter (· != d) }) s)

/-- The push session ends with a code (R230). -/
def cusPushEnd (code : W16) (s : State) : State :=
  emit .secure code (srcDomain s.cus.push.domain) [] (modCus (fun c => { c with
    push := { c.push with result := code, state := 5, frames := [], stream := [] } }) s)

/-- The push session is open. -/
def cusPushOpen (s : State) : Bool := decide (1 ≤ s.cus.push.state ∧ s.cus.push.state ≤ 3)
/-- The push session holds this domain's attempt. -/
def cusPushing (d : Nat) (s : State) : Bool := cusPushOpen s && s.cus.push.domain == d

/-- The reset pulse of discovery, then the SFDP read in 1-1-1 at 50 MHz (R165). -/
def discoverOut (d cs : Nat) (s : State) : State := emitOut (.flash d cs 0x5A 0 []) (emitOut (.flashReset d) s)

/-- No slot has yielded an image: the recovery flash is next, or the domain is FAILED (R174, R229). -/
def cusNoSlot (d : Nat) (s : State) : State :=
  let x := cdom d s
  if polRecovery x.pol && !x.rcvTried then
    discoverOut d 1 (modCdom d (fun y => { y.dropAttempt with src := 2, rcvTried := true, step := .discovery, st := .select })
      (cusRecord d 0x2001 2 x.src s))
  else cusFailed d (cusRecord d 0x2001 3 x.src s)

/-- T_READ in µs (R166, R177), rounded up. -/
def readTime (len mode mhz : Nat) : Nat :=
  let m := max 1 mhz
  match mode with
  | 0 => (len * 8 + m - 1) / m
  | 1 => (len * 2 + m - 1) / m
  | 2 => (len * 2 + m - 1) / m
  | _ => (len + 2 * m - 1) / (2 * m)

/-- What the registers show of a selected image from its header (CUS_nn_SVN, _SEQ, _PROGRESS, _T_READ). -/
def CusDom.selected (x : CusDom) (h : CusHdr) : CusDom :=
  let r := x.src == 2
  { x with
    seq := BitVec.ofNat 64 h.seq, svn := BitVec.ofNat 32 h.svn, total := h.blocks, accepted := 0
    tRead := BitVec.ofNat 32 (readTime h.imageLen (polMode x.pol r) (polMhz x.pol r)) }

/-- The selected attempt fails with a code: the other candidate, then the recovery sources (R174, R229, R230). -/
def cusFallback (d : Nat) (code : W16) (s : State) : State :=
  let x := cdom d s
  if x.src = 3 then cusPushEnd code (cusFailed d (cusRecord d code 3 3 s))
  else if x.src = 2 then cusFailed d (cusRecord d code 3 2 s)
  else match x.cand with
    | (k, b) :: t =>
      let h := hdrOf b
      let s := cusRecord d code 1 x.src s
      modCdom d (fun y => ({ y.dropAttempt with fallback := true, src := k, cand := t, step := .header, st := .verify }).selected h) s
    | [] => cusNoSlot d (cusRecord d code (if polRecovery x.pol && !x.rcvTried then 2 else 3) x.src s)

/-! ### Update windows closed by events (09 R226) -/

/-- A window's result (R226). A close that the mailbox asked for is shown there 20 µs later. -/
def updResult (d : Nat) (code : W16) (viaMbx : Bool) (s : State) : State :=
  let s := modCdom d (fun y => { y with upd := { y.upd with result := code } }) s
  let s := if viaMbx then modFlt d (fun f => { f with mbx := { f.mbx with ready := true, at_ := s.now + 20 * psUs, code := code, data := [] } }) s
    else s
  emit .secure code (srcDomain d) [] s

/-- No window is open: the result of the last one stands. -/
def Upd.shut (u : Upd) : Upd := { target := u.target, result := u.result }

/-- An open window ends with 0x2034 (R226). The signature jobs of windows closed before run on, and the mailbox no longer waits for
their results (log entry 25). -/
def updAbandon (d : Nat) (s : State) : State :=
  let u := (cdom d s).upd
  let s := modCdom d (fun x => { x with upd := x.upd.shut, closed := x.closed.map (fun u => { u with viaMbx := false }) }) s
  if u.st ≠ 0 then updResult d 0x2034 false s else s

/-! ### Holding a domain (R163, R183, R184) -/

/-- The cambium goes to HELD: busy periods, the mailbox and host-side modes end. -/
def Flt.hold (f : Flt) : Flt :=
  { last := f.last, early := f.early, underrun := f.underrun, f111 := f.f111, fHost := f.fHost, dHost := f.dHost, sfdp := f.sfdp }

/-- A verdict event (R218): LAST_* and the SECURE class. -/
def verdictSend (d : Nat) (v : Verdict) (s : State) : State :=
  emit .secure v.code (srcDomain d) (d1 d ++ d4 v.seq ++ d2 v.code.toNat ++ d1 v.op ++ d4 v.addr) (modFlt d (fun f => { f with last := v }) s)

/-- The verdict events that waited for an escape are sent. -/
def verdictFlush (d : Nat) (s : State) : State :=
  let l := (cdom d s).flt.later
  foldS (verdictSend d) l (modFlt d (fun f => { f with later := [] }) s)

/-- A pending escape is dropped (R221): it ends with its verdict event, whose code the rule leaves open, a free value (R218; log entry
6), and the verdicts after it follow. -/
def escDrop (d : Nat) (s : State) : State :=
  match (cdom d s).flt.esc with
  | none => s
  | some x =>
    let f := drawFree s
    let v : Verdict := { seq := x.seq, code := f.1.setWidth 16, op := x.op, cls := x.cls, addr := x.host }
    verdictFlush d (verdictSend d v (modFlt d (fun f => { f with esc := none }) f.2))

/-- The domain is held: reset asserted, custody boot or filtering abandoned, its window closed; `st` follows. While the anchor is lost a
configured domain stays FAILED (09 R246). -/
def cusHold (d : Nat) (st : CusState) (s : State) : State :=
  let s := rstAssert d (escDrop d (updAbandon d s))
  let s := if cusPushing d s then cusPushEnd 0x2038 s else s
  let st := if st == .held && s.kpf.anchorLost && cusConfigured d s then .failed else st
  let s := modCdom d (fun x => { x.dropAttempt with
    st := st, step := .idle, cand := [], shadow := [], shadowLost := false, rcvTried := false, flt := x.flt.hold }) s
  phaseRun (hollowSweep (modCus (fun c => { c with ready := c.ready.filter (· != d) }) s))

/-! ### Custody boot (R163, R165, R173-R182) -/

/-- PG is high, and has been for 10 ms where it was lost before (R163). -/
def pgReady (x : CusDom) (s : State) : Bool := x.pg && (!x.pgLost || decide (x.pgAt + 10 * psMs ≤ s.now))

/-- CUSTODY_BOOT_START (R163, R165, R246): flash discovery begins under the installed policy, where the life-cycle state lets domains boot
(04 R86). -/
def custodyBootStartS (t d : Nat) (s : State) : State :=
  let s := atTime t s
  let x := cdom d s
  if !x.bootDue || !pgReady x s || !cusConfigured d s || !cusOn d s || !lcsLoads s.boot.lcs || s.kpf.anchorLost
      || x.st == .fenced || x.st == .running then s
  else
    discoverOut d 0 (bump (cCus d 6) (modCdom d (fun x => { x.dropAttempt with
      st := .select, step := .discovery, bootDue := false, pgLost := false, pol := (gdom d s).policy, bootAt := s.now, src := 0
      sealed_ := false, fallback := false, cand := [], rcvTried := false, timeouts := 0, seq := 0, svn := 0, total := 0, accepted := 0
      tRead := 0, tVerify := 0 }) s))

/-- Meaning of CUSTODY_BOOT_START. -/
def execCustodyBootStart (t : Nat) (d : Fin 32) (s : State) : Host.Outcome State Fault Refusal := act (custodyBootStartS t d.val) s

/-- What the domain's mailbox opcodes are: the Grain's, or the defaults (R193). -/
def mbxOps (d : Nat) (s : State) : Nat × Nat :=
  let f := (gdom d s).filter
  if f = [] then (0xF3, 0xF4) else (fieldLe f 8 1, fieldLe f 9 1)

/-- Discovery of a flash that SFDP and the policy describe (R165): none where the mode is not supported. The Grain's override gives read
opcode, address bytes and dummy cycles. -/
def discoverFlash (p sfdp : Bytes) (rcv : Bool) : Option FlashInfo :=
  let mode := polMode p rcv
  let mhz := polMhz p rcv
  let ov := fieldLe p 0x24 4
  if bitOf ov 0 then
    some { sfdp := sfdp, dummy := bitsOf ov 31 24, mode := mode, mhz := mhz, readOp := bitsOf ov 15 8, ab := bitsOf ov 23 16 }
  else
    let r := flashRead sfdp mode
    (flashDummy sfdp mode mhz).map (fun n => { sfdp := sfdp, dummy := n, mode := mode, mhz := mhz, readOp := r.1, ab := r.2 })

/-- A read transaction that the port issues to a flash (R165, R166, 08 R187), with the address in its address bytes. -/
def flashReadOut (d cs : Nat) (i : FlashInfo) (a : Nat) (s : State) : State := emitOut (.flash d cs i.readOp (a % 256 ^ i.ab) []) s

/-- A read of the attempt's image from offset `o`, in one transaction (R166); a pushed image is read from no flash. -/
def imageReadOut (d o : Nat) (s : State) : State :=
  let x := cdom d s
  match x.src with
  | 2 => flashReadOut d 1 x.rcv (polRcvBase x.pol + o) s
  | 3 => s
  | k => flashReadOut d 0 x.info (slotBase x.pol k + o) s

/-- The numbers and bytes of the presented SFDP (R212, R213). -/
def fltPresent (d : Nat) (i : FlashInfo) (s : State) : State :=
  let o := mbxOps d s
  modFlt d (fun f => { f with
    f111 := limit111 i, fHost := i.mhz, dHost := dHostAt i i.mhz, sfdp := sfdpShown i o.1 o.2 d }) s

/-- FLASH_DISCOVERY_DONE (R165, R212). -/
def flashDiscoveryDoneS (d : Nat) (sfdp : Bytes) (s : State) : State :=
  let x := cdom d s
  if x.step != .discovery || !cusOn d s then s
  else match discoverFlash x.pol sfdp (x.src == 2) with
    | none => cusFailed d (cusRecord d 0x2009 3 x.src s)
    | some i =>
      let s := if x.src = 2 then modCdom d (fun y => { y with rcv := i }) s else fltPresent d i (modCdom d (fun y => { y with info := i }) s)
      modCdom d (fun y => { y with step := .select }) s

/-- Meaning of FLASH_DISCOVERY_DONE. -/
def execFlashDiscoveryDone (d : Fin 32) (sfdp : Bytes) (s : State) : Host.Outcome State Fault Refusal :=
  act (flashDiscoveryDoneS d.val sfdp) s

/-- An image is selected from its first 512 bytes (R173). -/
def cusSelect (d src : Nat) (b : Bytes) (cand : List (Nat × Bytes)) (s : State) : State :=
  let h := hdrOf b
  modCdom d (fun x => ({ x with src := src, cand := cand, header := b, hdr := h, step := .header, st := .verify }).selected h) s

/-- A slot that is no candidate is recorded (R173, R185). -/
def cusJudge (d k : Nat) (b : Bytes) (s : State) : Bool × State :=
  match cusHeadTest d k b s with
  | some c => (false, cusRecord d c 0 k s)
  | none => (true, s)

/-- SLOT_SELECT (R173, R229): the first 512 bytes of both slots, or of the recovery image. -/
def slotSelectS (d : Nat) (a b : Bytes) (s : State) : State :=
  let x := cdom d s
  if x.step != .select || !cusOn d s then s
  else if x.src = 2 then
    let s := imageReadOut d 0 s
    match cusHeadTest d 2 (a.take 512) s with
    | some c => cusFailed d (cusRecord d c 3 2 s)
    | none => cusSelect d 2 (a.take 512) [] s
  else
    let a := a.take 512
    let b := b.take 512
    let s := flashReadOut d 0 x.info (slotBase x.pol 1) (flashReadOut d 0 x.info (slotBase x.pol 0) s)
    let ja := cusJudge d 0 a s
    let jb := cusJudge d 1 b ja.2
    let s := jb.2
    match ja.1, jb.1 with
    | false, false => cusNoSlot d s
    | true, false => cusSelect d 0 a [] s
    | false, true => cusSelect d 1 b [] s
    | true, true =>
      let sa := (hdrOf a).seq
      let sb := (hdrOf b).seq
      let s := if sa = sb then emit .info 0x200D (srcDomain d) [] s else s
      if sb ≤ sa then cusSelect d 0 a [(1, b)] s else cusSelect d 1 b [(0, a)] s

/-- Meaning of SLOT_SELECT. -/
def execSlotSelect (d : Fin 32) (a b : Bytes) (s : State) : Host.Outcome State Fault Refusal := act (slotSelectS d.val a b) s

/-- The seal of a header (R180). -/
def sealOf (d src : Nat) (hd pd : Bytes) (s : State) : Bytes :=
  (hmac384 (tapKey (6 + d) s) (ascii "CUS-SEAL-V1" ++ [0] ++ leBytes 1 d ++ leBytes 1 src ++ hd ++ pd)).take 32

/-- A seal record stands for the header (R181). -/
def sealMatches (d src : Nat) (header pol : Bytes) (s : State) : Bool :=
  let r := tget ([], []) s.kpf.seals (4 * d + src)
  !s.boot.keyless && !s.vault.erased && !s.tmp.erased && tapKey (6 + d) s != [] && decide (src ≤ 2) && r.1 != []
    && r.1 == sha384 header && r.2 == sealOf d src r.1 (sha384 pol) s

/-- A whole header is in (R170, R175 step 1, R181). -/
def headComplete (d : Nat) (full : Bytes) (s : State) : State :=
  let x := cdom d s
  match cusHeadTest d x.src (full.take 512) s with
  | some c => cusFallback d c s
  | none =>
    let h := hdrOf full
    let full := full.take h.headerLen
    match (if full.length = h.headerLen then signedTest full (polKeys x.pol) else some 0x2002) with
    | some c => cusFallback d c s
    | none =>
      let ok := sealMatches d x.src full x.pol s
      let s := if ok then bump (cCus d 7) s else s
      modCdom d (fun y => ({ y with header := full, hdr := h, sigOk := ok, sealed_ := ok, step := .table }).selected h) s

/-- HEADER_READ_DONE (R173-R175): the rest of the selected header, or after a fallback the header read again from its start. -/
def headerReadDoneS (d : Nat) (b : Bytes) (s : State) : State :=
  let x := cdom d s
  if x.step != .header || x.src == 3 || !cusOn d s then s else headComplete d (x.header ++ b) (imageReadOut d x.header.length s)

/-- Meaning of HEADER_READ_DONE. -/
def execHeaderReadDone (d : Fin 32) (b : Bytes) (s : State) : Host.Outcome State Fault Refusal := act (headerReadDoneS d.val b) s

/-- A block is accepted into the shadow (R175 step 5). -/
def CusDom.accept (x : CusDom) (b : Bytes) : CusDom := { x with body := x.body ++ b, accepted := x.accepted + 1 }

/-- CUSTODY_SIG_VERIFY_DONE (R172, R175, R176): the Burl engine of the custody bough has ended. -/
def custodySigVerifyDoneS (d : Nat) (s : State) : State :=
  let x := cdom d s
  if (x.step != .table && x.step != .body) || x.sigOk || !cusOn d s || !cusBoughRuns d s then s
  else if sigTest x.header (polRule x.pol) then
    modCdom d (fun x => x.pendingB.foldl CusDom.accept { x with sigOk := true, pendingB := [] }) s
  else cusFallback d 0x2004 s

/-- Meaning of CUSTODY_SIG_VERIFY_DONE. -/
def execCustodySigVerifyDone (d : Fin 32) (s : State) : Host.Outcome State Fault Refusal := act (custodySigVerifyDoneS d.val) s

/-- What an attempt reads at image offset `o`: the flash's bytes, or the pushed stream (R230). -/
def attemptBytes (x : CusDom) (o n : Nat) (b : Bytes) (s : State) : Bytes := if x.src = 3 then slice s.cus.push.stream o n else b

/-- DIGEST_TABLE_CHECKED (R175 step 3): read by the port, hashed by the custody bough's sap unit. -/
def digestTableCheckedS (d : Nat) (b : Bytes) (s : State) : State :=
  let x := cdom d s
  if x.step != .table || !cusOn d s || !cusBoughRuns d s then s
  else
    let n := 48 * x.hdr.blocks
    let s := imageReadOut d x.hdr.headerLen s
    let t := (attemptBytes x x.hdr.headerLen n b s).take n
    if t.length = n ∧ sha384 t = x.hdr.tableDigest then modCdom d (fun y => { y with table := t, step := .body }) s
    else if x.src = 3 ∧ s.cus.push.stream.length < x.hdr.headerLen + n then s
    else cusFallback d 0x2005 s

/-- Meaning of DIGEST_TABLE_CHECKED. -/
def execDigestTableChecked (d : Fin 32) (b : Bytes) (s : State) : Host.Outcome State Fault Refusal :=
  act (digestTableCheckedS d.val b) s

/-- BODY_BLOCK_HASHED (R175 steps 4 and 5, R176): the next block read; `dram`: its shadow lines failed after the retry. -/
def bodyBlockHashedS (d : Nat) (b : Bytes) (dram : Bool) (s : State) : State :=
  let x := cdom d s
  let i := x.accepted + x.pendingB.length
  if x.step != .body || decide (x.hdr.blocks ≤ i) || !cusOn d s || !cusBoughRuns d s then s
  else
    let o := x.hdr.bodyOff + i * 2 ^ x.hdr.blockLog2
    let n := x.hdr.blockLen i
    let b := (attemptBytes x o n b s).take n
    let s := imageReadOut d o s
    if x.src = 3 ∧ s.cus.push.stream.length < o + n then s
    else if b.length ≠ n ∨ sha384 b ≠ tableEntry x.table i then cusFallback d 0x2005 s
    else if dram then cusFallback d 0x200F s
    else modCdom d (fun x => if x.sigOk then x.accept b else { x with pendingB := x.pendingB ++ [b] }) s

/-- Meaning of BODY_BLOCK_HASHED. -/
def execBodyBlockHashed (d : Fin 32) (b : Bytes) (dram : Bool) (s : State) : Host.Outcome State Fault Refusal :=
  act (bodyBlockHashedS d.val b dram) s

/-- The measurement that release fixes (R182). -/
def measOf (x : CusDom) : CusMeas :=
  { hdr := sha384 x.header, seq := x.seq.toNat, svn := x.svn.toNat, src := x.src, sealed_ := x.sealed_
    regions := x.hdr.regions.map (fun r => (r.2.2.2.2, sha384 (slice x.body r.1 r.2.1))) }

/-- The SHADOW regions as the cambium serves them (R191). -/
def shadowOf (x : CusDom) : List (Nat × Bytes) :=
  (x.hdr.regions.filter (fun r => r.2.2.2.1)).map (fun r => (r.2.2.1, slice x.body r.1 r.2.1))

/-- A domain joins those that wait for release: in the order of their verification ends, the lower number first at one time (R80, R182). -/
def readyInsert (s : State) (d : Nat) : List Nat → List Nat
  | [] => [d]
  | e :: t =>
    let a := (cdom d s).readyAt
    let b := (cdom e s).readyAt
    if a < b ∨ (a = b ∧ d < e) then d :: e :: t else e :: readyInsert s d t

/-- A domain waits for release. -/
def cusReady (d : Nat) (s : State) : State := modCus (fun c => { c with ready := readyInsert s d c.ready }) s

/-- CUSTODY_VERIFY_END (R175 step 6, R178, R180, R231). -/
def custodyVerifyEndS (t d : Nat) (s : State) : State :=
  let s := atTime t s
  let x := cdom d s
  if x.step != .body || !x.sigOk || x.accepted != x.hdr.blocks || !cusOn d s then s
  else if x.hdr.svn < cusFloor d s then cusFallback d 0x2006 s
  else
    let wb := decide (x.src = 3) && s.cus.push.writeBack
    let s := modCdom d (fun x => { x with
      st := .waitRelease, step := if wb then .writeBack else .verified, timeouts := 0, readyAt := s.now
      tVerify := BitVec.ofNat 32 ((s.now - x.bootAt) / psUs)
      seals := if x.sealed_ || x.src == 3 then x.seals else x.seals ++ [(x.src, sha384 x.header, sha384 x.pol)] }) s
    if wb then modCus (fun c => { c with push := { c.push with state := 3 } }) s else cusReady d s

/-- Meaning of CUSTODY_VERIFY_END. -/
def execCustodyVerifyEnd (t : Nat) (d : Fin 32) (s : State) : Host.Outcome State Fault Refusal := act (custodyVerifyEndS t d.val) s

/-- The register mirror as the cambium reads it from the flash: status register 1, the identification, the MIRROR list (R200). -/
def mirrorOf (f : Bytes) (regs : List Bytes) : Tab Bytes :=
  let ms := (List.range 8).map (fun i => (fieldLe f (0x1E0 + 4 * i) 1, fieldLe f (0x1E1 + 4 * i) 1))
  let base : Tab Bytes := tset [] (tset [] [] 0x05 (padTo 1 (regs.getD 0 []))) 0x9F (padTo 3 (regs.getD 1 []))
  (ms.zipIdx).foldl (fun t e => if e.1.2 = 0 then t else tset [] t e.1.1 (padTo e.1.2 (regs.getD (e.2 + 2) []))) base

/-- The filter entry of the ROM rule set (R94): every opcode, reads allowed, no mimic, no escape leaf. -/
def romFilter : Bytes :=
  [0, 0xFF, 0, 0, 0xFF, 0xFF, 0, 0, 0xF3, 0xF4, 0, 0, 1, 1, 1, 0] ++ List.replicate 48 0 ++ List.replicate 96 0xFF
    ++ List.replicate 32 0 ++ List.replicate 256 0xFF ++ List.replicate 576 0

/-- The filter entry in force. -/
def fltEntry (d : Nat) (s : State) : Bytes := if (cdom d s).flt.rom then romFilter else (gdom d s).filter

/-- The cambium takes over at release (R188, R200, R207). SEQ counts from each release (log entry 24). -/
def fltRelease (d : Nat) (rom : Bool) (regs : List Bytes) (s : State) : State :=
  let s := modFlt d (fun f => { f.hold with rom := rom }) s
  let e := fltEntry d s
  modFlt d (fun f => { f with
    phase := 1, hostMode := fieldLe e 3 1, mirror := mirrorOf e regs, bootFrom := s.now }) s

/-- A floor raise is needed and the anchor counter is spent (R179): 0x2007, and the domain runs on. -/
def floorSpent (d : Nat) (s : State) : State :=
  emit .fault 0xF000 (srcDomain d) (d1 d ++ d1 7 ++ d1 (cdom d s).src) (emit .secure 0x2007 (srcDomain d) []
    (modCdom d (fun x => { x with result := 0x2007 }) s))

/-- A floor raise to the running image's IMAGE_SVN (R179, R244, R550): `who` 0 at release, 1 PF1, 2 the mailbox. True: an act is
journalled or not needed. -/
def floorRaise (d who : Nat) (s : State) : State :=
  let v := (cdom d s).svn.toNat
  if v ≤ cusFloor d s then s
  else if 4096 ≤ s.fuses.anchor then floorSpent d s
  else
    let s := journalAct (.floor d v who) s
    if journalShut s && decide (who = 1) then modCdom d (fun x => { x with result := 0x2044 }) s else s

/-- A domain is released (R182): measurements fixed, the cambium takes over, an AT_RELEASE floor raise begins. -/
def cusRelease (d : Nat) (regs : List Bytes) (s : State) : State :=
  let s := modCdom d (fun x => { x with
    st := .running, step := .idle, released := true, alert := false, meas := some (measOf x), shadow := shadowOf x
    shadowLost := s.tmp.erased, body := [], pendingB := [], cand := [] }) s
  let s := fltRelease d false regs s
  let s := modCus (fun c => { c with
    ready := c.ready.filter (· != d), lastRelease := some s.now
    push := if c.push.domain = d ∧ 1 ≤ c.push.state ∧ c.push.state ≤ 3 then { c.push with state := 4, stream := [] } else c.push }) s
  phaseRun (if polOnCommand (cdom d s).pol then s else floorRaise d 0 s)

/-- DOMAIN_RELEASE (R80, R182): the first domain that waits and whose PG is high, once the spacing has passed. -/
def domainReleaseS (t : Nat) (regs : List Bytes) (s : State) : State :=
  let s := atTime t s
  let gap : Bool := match s.cus.lastRelease with | none => true | some x => decide (x + s.grn.grain.custody.spacingMs * psMs ≤ s.now)
  match s.cus.ready.find? (fun d => (cdom d s).pg && (cdom d s).st == .waitRelease && cusOn d s && decide ((cdom d s).rstAt + psMs ≤ s.now)) with
  | some d => if gap then cusRelease d regs s else s
  | none => s

/-- Meaning of DOMAIN_RELEASE. -/
def execDomainRelease (t : Nat) (regs : List Bytes) (s : State) : Host.Outcome State Fault Refusal := act (domainReleaseS t regs) s

/-- SEAL_RECORD_WRITE (R180, R227, R231, R550): the oldest seal that the domain owes is journalled. -/
def sealRecordWriteS (d : Nat) (s : State) : State :=
  match (cdom d s).seals with
  | [] => s
  | (src, hd, pd) :: r =>
    journalAct (.sealRec d src hd (sealOf d src hd pd s)) (modCdom d (fun x => { x with seals := r }) s)

/-- Meaning of SEAL_RECORD_WRITE. -/
def execSealRecordWrite (d : Fin 32) (s : State) : Host.Outcome State Fault Refusal := act (sealRecordWriteS d.val) s

/-! ### PG, timeouts, faults, reboot (R163, R183, R185) -/

/-- CUSTODY_PG_FALL (R163). -/
def custodyPgFallS (t d : Nat) (s : State) : State :=
  let s := atTime t s
  let x := cdom d s
  let s := modCdom d (fun x => { x with pg := false, pgLost := true }) s
  match x.st with
  | .select | .verify | .waitRelease | .running =>
    modCdom d (fun x => { x with bootDue := true }) (cusHold d .held (cusRecord d 0x200B 5 x.src s))
  | .failed => if cusPushing d s then cusPushEnd 0x200B (cusFailed d (cusRecord d 0x200B 3 3 s)) else s
  | _ => s

/-- Meaning of CUSTODY_PG_FALL. -/
def execCustodyPgFall (t : Nat) (d : Fin 32) (s : State) : Host.Outcome State Fault Refusal := act (custodyPgFallS t d.val) s

/-- CUSTODY_PG_RESTORE (R163): PG rises; custody boot follows once it has been high for 10 ms. -/
def custodyPgRestoreS (t d : Nat) (s : State) : State :=
  let s := atTime t s
  if (cdom d s).pg then s else modCdom d (fun x => { x with pg := true, pgAt := s.now }) s

/-- Meaning of CUSTODY_PG_RESTORE. -/
def execCustodyPgRestore (t : Nat) (d : Fin 32) (s : State) : Host.Outcome State Fault Refusal := act (custodyPgRestoreS t d.val) s

/-- FLASH_TIMEOUT (R185): a read of the running attempt stalls; the second in a row fails the domain. -/
def flashTimeoutS (d : Nat) (s : State) : State :=
  let x := cdom d s
  if x.step == .idle || x.step == .verified || x.step == .writeBack || x.src == 3 then s
  else
    let s := modCdom d (fun x => { x with timeouts := x.timeouts + 1 }) s
    if 1 ≤ x.timeouts then cusFailed d (cusRecord d 0x200C 3 x.src s) else cusFallback d 0x200C s

/-- Meaning of FLASH_TIMEOUT. -/
def execFlashTimeout (d : Fin 32) (s : State) : Host.Outcome State Fault Refusal := act (flashTimeoutS d.val) s

/-- PORT_FAULT (R185, R186): FENCED until CORE reset. -/
def portFaultS (t d : Nat) (s : State) : State :=
  let s := atTime t s
  let x := cdom d s
  if x.st == .fenced then s
  else modCdom d (fun x => { x with alert := true, bootDue := false }) (cusHold d .fenced (cusRecord d 0x200A 4 x.src s))

/-- Meaning of PORT_FAULT. -/
def execPortFault (t : Nat) (d : Fin 32) (s : State) : Host.Outcome State Fault Refusal := act (portFaultS t d.val) s

/-- A reboot (R183): a FENCED domain ignores it. -/
def cusReboot (d : Nat) (s : State) : State :=
  if (cdom d s).st == .fenced then modCdom d (fun x => { x with result := 0x200A }) s
  else if !cusConfigured d s then s
  else modCdom d (fun x => { x with bootDue := cusOn d s }) (cusHold d .held s)

/-- CUSTODY_REBOOT: CUSnn_CMD.REBOOT by PF1. -/
def custodyRebootS (t d : Nat) (s : State) : State := pf1Do (cusReboot d) (atTime t s)

/-- Meaning of CUSTODY_REBOOT. -/
def execCustodyReboot (t : Nat) (d : Fin 32) (s : State) : Host.Outcome State Fault Refusal := act (custodyRebootS t d.val) s

/-- CUSTODY_RAISE_FLOOR (R179): CUSnn_CMD.RAISE_FLOOR by PF1, under ON_COMMAND only. -/
def custodyRaiseFloorS (d : Nat) (s : State) : State :=
  pf1Do (fun s => if (cdom d s).st == .running && polOnCommand (cdom d s).pol then floorRaise d 1 s else s) s

/-- Meaning of CUSTODY_RAISE_FLOOR. -/
def execCustodyRaiseFloor (d : Fin 32) (s : State) : Host.Outcome State Fault Refusal := act (custodyRaiseFloorS d.val) s

/-- HELD_HOST_TRANSACTION (R164): ignored and counted. -/
def heldHostTransactionS (d : Nat) (s : State) : State := if (cdom d s).st == .running then s else bump (cCus d 5) s

/-- Meaning of HELD_HOST_TRANSACTION. -/
def execHeldHostTransaction (d : Fin 32) (s : State) : Host.Outcome State Fault Refusal := act (heldHostTransactionS d.val) s

/-! ### The custody push session (R230, R231) -/

/-- CUSTODY_PUSH_START (R230). A port that is disabled takes no new work (01 R26), and while the anchor is lost only a recovery window
lets a domain leave FAILED (R246): both are refused like a domain that is not FAILED (log entry 24). -/
def custodyPushStartS (t d : Nat) (wb wbSlot : Bool) (s : State) : State :=
  pf1Do (fun s =>
    let s := modCus (fun c => { c with pushCtl := (d, wb, wbSlot) }) s
    if (cdom d s).st != .failed || cusPushOpen s || !cusOn d s || s.kpf.anchorLost then
      emit .secure 0x2038 (srcDomain d) [] (modCus (fun c => { c with push := { c.push with result := 0x2038 } }) s)
    else
      let s := modCus (fun c => { c with
        push := { state := 1, domain := d, writeBack := wb, wbSlot := wbSlot, lastPost := s.now } }) s
      bump (cCus d 6) (modCdom d (fun x => { x.dropAttempt with
        src := 3, pol := (gdom d s).policy, step := .header, sealed_ := false, fallback := false, bootAt := s.now, seq := 0, svn := 0
        total := 0, accepted := 0, tRead := 0, tVerify := 0 }) s)) (atTime t s)

/-- Meaning of CUSTODY_PUSH_START. -/
def execCustodyPushStart (t : Nat) (d : Fin 32) (wb wbSlot : Bool) (s : State) : Host.Outcome State Fault Refusal :=
  act (custodyPushStartS t d.val wb wbSlot) s

/-- CUSTODY_PUSH_ABORT: the session ends at once; STATE returns to IDLE with RESULT 0x0000 (R102). -/
def custodyPushAbortS (s : State) : State :=
  pf1Do (fun s =>
    if !cusPushOpen s then s
    else
      let d := s.cus.push.domain
      cusFailed d (modCus (fun c => { c with push := { domain := c.push.domain, writeBack := c.push.writeBack, wbSlot := c.push.wbSlot } }) s)) s

/-- Meaning of CUSTODY_PUSH_ABORT. -/
def execCustodyPushAbort (s : State) : Host.Outcome State Fault Refusal := act custodyPushAbortS s

/-- A write into a frame of CUS_PUSH_WIN (R230). -/
def cusPushWrite (off : Nat) (b : Bytes) (s : State) : State :=
  let k := off / 65536 % 8
  modCus (fun c => { c with push := { c.push with frames := tmod [] c.push.frames k (fun f => bufWrite 65536 (off % 65536) b f) } }) s

/-- The pushed header is tested once it is in (R230). -/
def cusPushHead (d : Nat) (s : State) : State :=
  let x := cdom d s
  let st := s.cus.push.stream
  if x.step != .header then s
  else match cusHeadTest d 3 (st.take 512) s with
    | some c => cusFallback d c s
    | none =>
      let h := hdrOf st
      if st.length < h.headerLen then s
      else
        let s := headComplete d (st.take h.headerLen) s
        if (cdom d s).step == .table then
          modCus (fun c => { c with push := { c.push with state := 2, total := (h.imageLen + 65535) / 65536 } }) s
        else s

/-- CUSTODY_PUSH_POST: the next chunk in order joins the stream; a break in the order ends the session (R230). -/
def custodyPushPostS (t k n : Nat) (s : State) : State :=
  pf1Do (fun s =>
    let p := s.cus.push
    if p.state ≠ 1 ∧ p.state ≠ 2 then s
    else if k ≠ p.accepted ∨ n = 0 ∨ 65536 < n then cusPushEnd 0x2036 (cusFailed p.domain s)
    else
      let b := padTo n (tget [] p.frames (k % 8))
      let s := modCus (fun c => { c with push := { c.push with
        stream := c.push.stream ++ b, accepted := c.push.accepted + 1, frames := tset [] c.push.frames (k % 8) [], lastPost := s.now } }) s
      cusPushHead p.domain s) (atTime t s)

/-- Meaning of CUSTODY_PUSH_POST. -/
def execCustodyPushPost (t : Nat) (k : BitVec 12) (n : BitVec 17) (s : State) : Host.Outcome State Fault Refusal :=
  act (custodyPushPostS t k.toNat n.toNat) s

/-- CUSTODY_PUSH_TIMEOUT: 60 s without a post (R230). -/
def custodyPushTimeoutS (t : Nat) (s : State) : State :=
  let s := atTime t s
  let p := s.cus.push
  if (p.state = 1 ∨ p.state = 2) ∧ p.lastPost + 60 * psS ≤ s.now ∧ !(p.total ≠ 0 ∧ p.total ≤ p.accepted) then
    cusPushEnd 0x2037 (cusFailed p.domain s)
  else s

/-- Meaning of CUSTODY_PUSH_TIMEOUT. -/
def execCustodyPushTimeout (t : Nat) (s : State) : Host.Outcome State Fault Refusal := act (custodyPushTimeoutS t) s

/-- The erase of a slot's blocks (R231): the largest type that divides base and size, as opcode and bytes; 4 KiB where SFDP lists none
(log entry 23). -/
def slotErase4 (i : FlashInfo) (base size : Nat) : Nat × Nat :=
  let ts := (List.range 4).filterMap (fun k =>
    let e := eraseType i.sfdp k
    let z := 2 ^ e.1
    if e.1 = 0 ∨ base % z ≠ 0 ∨ size % z ≠ 0 then none
    else some (if i.ab = 4 then (eraseOp4 i.sfdp k).getD e.2 else e.2, z))
  ts.foldl (fun m e => if m.2 < e.2 then e else m) (if i.ab = 4 then 0x21 else 0x20, 4096)

/-- One operation of the port with its WREN before it. -/
def flashWriteOut (d op a : Nat) (b : Bytes) (i : FlashInfo) (s : State) : State :=
  emitOut (.flash d 0 op (a % 256 ^ i.ab) b) (emitOut (.flash d 0 0x06 0 []) s)

/-- The write of a verified image into a slot (R224, R231): its blocks erased, then each page programmed and read back. -/
def writeBackOut (d base size : Nat) (img : Bytes) (s : State) : State :=
  let i := (cdom d s).info
  let e := slotErase4 i base size
  let p := max 1 (flashPage i.sfdp)
  let s := foldS (fun k s => flashWriteOut d e.1 (base + k * e.2) [] i s) (List.range (size / e.2)) s
  foldS (fun (b : Bytes × Nat) s =>
    let a := base + p * b.2
    flashReadOut d 0 i a (flashWriteOut d (if i.ab = 4 then 0x12 else 0x02) a b.1 i s)) (chunks p img).zipIdx s

/-- CUSTODY_WRITE_BACK (R231): `ok`: every erase and program of the slot has ended without an error; `back`: what the pages read back
as. Release has waited. -/
def custodyWriteBackS (back : Option Bytes) (s : State) : State :=
  let p := s.cus.push
  let d := p.domain
  let x := cdom d s
  if p.state ≠ 3 ∨ x.step != .writeBack ∨ !cusOn d s then s
  else
    let k := b2n p.wbSlot
    let img := slice p.stream 0 x.hdr.imageLen
    let s := writeBackOut d (slotBase x.pol k) (slotSize x.pol k) img s
    let s := cusReady d (modCdom d (fun x => { x with step := .verified }) s)
    if back = some img ∧ img.length ≤ slotSize x.pol k then
      modCdom d (fun x => { x with seals := x.seals ++ [(k, sha384 x.header, sha384 x.pol)] }) s
    else emit .secure 0x2039 (srcDomain d) [] (modCus (fun c => { c with push := { c.push with result := 0x2039 } }) s)

/-- Meaning of CUSTODY_WRITE_BACK. -/
def execCustodyWriteBack (back : Option Bytes) (s : State) : Host.Outcome State Fault Refusal := act (custodyWriteBackS back) s

end Sys2Proof.Machine
end

