-- ==== Sys2Proof/Machine/LinkOut.lean ====
section
/-!
DEFINITION. Machine/LinkOut.lean: ports, egress queues, flow control and the transmit side of the rind pipes
(12_link_guard.md R316-R324, R329-R332, R337-R341).
-/
namespace Sys2Proof.Machine

/-- A port's record of the installed Grain (13 R354). -/
def gport (p : Nat) (s : State) : GPort := (s.grn.grain.ports.getD []).getD p {}
/-- The Grain configures the ports. -/
def portsOn (s : State) : Bool := s.grn.installed && s.grn.grain.ports.isSome
/-- Logical ports of a mode (R316). -/
def lportCount (mode : Nat) : Nat := match mode with | 0 => 1 | 1 => 2 | _ => 4
/-- The other port of the guard pair (R319). -/
def partner (p : Nat) (s : State) : Nat :=
  ((List.range 16).find? (fun q => q != p && (gport q s).pair == (gport p s).pair)).getD p

/-- A port. -/
def portAt (p : Nat) (s : State) : Port := tget {} s.lnk.ports p
/-- Change a port. -/
def modPort (p : Nat) (f : Port → Port) (s : State) : State := { s with lnk := { s.lnk with ports := tmod {} s.lnk.ports p f } }
/-- A logical port. -/
def lport (p k : Nat) (s : State) : Lport := tget {} (portAt p s).lports k
/-- Change a logical port. -/
def modLport (p k : Nat) (f : Lport → Lport) (s : State) : State :=
  modPort p (fun x => { x with lports := tmod {} x.lports k f }) s
/-- Change a SecY. -/
def modSecy (p k : Nat) (f : Secy → Secy) (s : State) : State := modLport p k (fun x => { x with secy := f x.secy }) s
/-- A SecY's record of the Grain. -/
def gsecy (p k : Nat) (s : State) : GSecy := (gport p s).secy.getD k {}
/-- The port is PROTECTED (R320). -/
def protectedPort (p : Nat) (s : State) : Bool := (gport p s).prot == 1

/-- A frame outcome counted under its code, with its LINK event (R345, 20 R508). -/
def linkCount (p k : Nat) (code : W16) (s : State) : State := bump (cPort p k (16 + (code.toNat - 0x4003))) s
/-- A frame outcome counted and reported. -/
def linkDrop (p k : Nat) (code : W16) (s : State) : State := emit .link code (srcPort p k) [] (linkCount p k code s)

/-! ### Rates, queue sizes and thresholds (R339, R341) -/

/-- Twice the rate of a logical port in bytes per ns. -/
def rate2 (p : Nat) (s : State) : Nat := 100 / lportCount (gport p s).mode
/-- Egress queue size in bytes (R339). -/
def queueSize (p : Nat) (s : State) : Nat := 2097152 / lportCount (gport p s).mode
/-- Headroom H (R341). -/
def headroom (p : Nat) (s : State) : Nat :=
  let g := gport p s
  rate2 p s * (10 * g.cableM + g.tRNs + 200) / 2 + 2 * 9248
/-- XOFF. -/
def xoffAt (p : Nat) (s : State) : Nat := queueSize p s - headroom p s
/-- Bytes of a frame in its queue, FCS included. -/
def EgFrame.size (f : EgFrame) : Nat := f.data.length + 4
/-- Bytes in an egress queue. -/
def Lport.fill (x : Lport) : Nat := (x.queue.map EgFrame.size).sum

/-- Emit PAUSE (class vector 256) or PFC for every enabled priority, with the quanta (R341). -/
def flowEmit (q p k quanta : Nat) (s : State) : State :=
  let g := gport p s
  if g.flow = 0 then s
  else bump (cPort q k 7) (emitOut (.pause q k (if g.flow = 1 then 256 else g.pfcMask) quanta) s)

/-- The pause state of a queue after a change (R341): XOFF on the partner port, or quanta 0 below XON. -/
def flowUpdate (p k : Nat) (s : State) : State :=
  let x := lport p k s
  if !x.xoff && decide (xoffAt p s ≤ x.fill) then
    flowEmit (partner p s) p k 0xFFFF (modLport p k (fun x => { x with xoff := true }) s)
  else if x.xoff && decide (x.fill < xoffAt p s - 65536) then
    flowEmit (partner p s) p k 0 (modLport p k (fun x => { x with xoff := false }) s)
  else s

/-! ### Transmit protection (R329, R330, R337, R338; IEEE 802.1AE PRESUMED, log entry 4) -/

/-- The suite uses extended packet numbers. -/
def suiteXpn (n : Nat) : Bool := decide (2 ≤ n)
/-- Key length of a suite. -/
def suiteKeyLen (n : Nat) : Nat := if n % 2 = 0 then 16 else 32
/-- One more than the last PN of a suite. -/
def pnEnd (suite : Nat) : Nat := if suiteXpn suite then 2 ^ 64 else 2 ^ 32
/-- The threshold of R337. -/
def pnThreshold (suite : Nat) : Nat := if suiteXpn suite then 0xC000000000000000 else 0xC0000000
/-- GCM's IV for a PN. -/
def macsecIv (suite : Nat) (sci salt : Bytes) (ssci : W32) (pn : Nat) : Bytes :=
  if suiteXpn suite then xorBytes (beBytes 4 ssci.toNat ++ beBytes 8 pn) (padTo 12 salt) else padTo 8 sci ++ beBytes 4 (pn % 2 ^ 32)
/-- Confidentiality offset of a CONF value, none for integrity only. -/
def confOffset (conf : Nat) : Option Nat := match conf with | 0 => none | 1 => some 0 | 2 => some 30 | _ => some 50

/-- A protected frame: SecTAG and ICV added. -/
def macsecProtect (g : GSecy) (an : Nat) (sci : Bytes) (sa : TxSa) (f : Bytes) : Bytes :=
  let body := f.drop 12
  let tci := (if g.sci = 1 then 0x20 else 0) + (if g.conf = 0 then 0 else 0x0C) + an
  let sl := if body.length < 48 then body.length else 0
  let tag := [0x88, 0xE5, BitVec.ofNat 8 tci, BitVec.ofNat 8 sl] ++ beBytes 4 (sa.pn % 2 ^ 32) ++ (if g.sci = 1 then padTo 8 sci else [])
  let hd := f.take 12 ++ tag
  let iv := macsecIv g.suite sci sa.salt sa.ssci sa.pn
  match confOffset g.conf with
  | none => hd ++ body ++ gcmTag sa.key iv (hd ++ body) []
  | some o =>
    let ct := gcmCrypt sa.key iv (body.drop o)
    hd ++ body.take o ++ ct ++ gcmTag sa.key iv (hd ++ body.take o) ct

/-- The MKA leaf of a SecY, or the spare that stands in for it (Coincidences). -/
def mkaLeafOf (p k : Nat) (s : State) : Nat := (roleLeaf (gsecy p k s).mkaLeaf s).getD (gsecy p k s).mkaLeaf
/-- Change an MKA leaf's registers. -/
def modMka (l : Nat) (f : Mka → Mka) (s : State) : State := { s with lnk := { s.lnk with mka := tmod {} s.lnk.mka l f } }

/-- The next transmit PN of a SecY has reached the threshold (R337): the bit in LNK_MKA_PNEV, and the event. -/
def pnCheck (p k pn : Nat) (s : State) : State :=
  if pnThreshold (gsecy p k s).suite ≤ pn ∧ !(lport p k s).secy.thresh then
    let s := modSecy p k (fun y => { y with thresh := true }) s
    let s := modMka (mkaLeafOf p k s) (fun m => { m with pnev := setBit m.pnev (4 * p + k) true }) s
    emit .info 0x4006 (srcPort p k) [] s
  else s

/-- A frame that the transmit pipe cannot protect is dropped; the first of a stall sets TX_STALLED with its event (R338). -/
def txStall (p k : Nat) (s : State) : State :=
  let y := (lport p k s).secy
  let s := linkCount p k 0x4007 (modSecy p k (fun y => { y with stalled := true }) s)
  if y.stalled then s else emit .link 0x4007 (srcPort p k) [] s

/-- The transmit pipe: the bytes for the wire without FCS, none for a frame that is dropped. -/
def txPipe (p k : Nat) (f : EgFrame) (s : State) : Option Bytes × State :=
  if !protectedPort p s || f.plain then
    (some f.data, if protectedPort p s then bump (cSecy (4 * p + k) 0) s else s)
  else
    let y := (lport p k s).secy
    let g := gsecy p k s
    match y.cur with
    | none => (none, txStall p k s)
    | some (sc, an) =>
      let sa := tget {} y.tx (4 * sc + an)
      if sa.key = [] ∨ pnEnd g.suite ≤ sa.pn then (none, txStall p k s)
      else
        let x := macsecProtect g an (tget [] y.txSci sc) sa f.data
        let s := modSecy p k (fun y => { y with tx := tset {} y.tx (4 * sc + an) { sa with pn := sa.pn + 1 } }) s
        let n := f.data.length - 12
        let s := if g.conf = 0 then bumpBy (cSecy (4 * p + k) 9) n (bump (cSecy (4 * p + k) 7) s)
          else bumpBy (cSecy (4 * p + k) 10) n (bump (cSecy (4 * p + k) 8) s)
        (some x, pnCheck p k (sa.pn + 1) s)

/-- The FCS of a frame as sent, and inverted for a stomped one (R324). -/
def fcsOf (b : Bytes) : Bytes := leBytes 4 (crc32 b)
/-- A frame leaves on the wire. -/
def wireOut (p k : Nat) (bad : Bool) (b : Bytes) (s : State) : State :=
  let f := if bad then (fcsOf b).map (fun x => ~~~x) else fcsOf b
  bumpBy (cPort p k 3) (b.length + 4) (bump (cPort p k 2) (emitOut (.frame p k (b ++ f)) s))

/-- EN of an egress pipe (R344). -/
def txpOn (p : Nat) (s : State) : Bool := !(tget {} s.dis (240 + p)).off
/-- EN of an ingress pipe. -/
def rxpOn (p : Nat) (s : State) : Bool := !(tget {} s.dis (224 + p)).off

/-- The queue's first frame is held by PAUSE or PFC (R340). -/
def lportPaused (x : Lport) (prio : Nat) (s : State) : Bool := decide (s.now < x.pausedUntil) || decide (s.now < tget 0 x.pfc prio)

/-- Frames dropped because their logical port is down, counted for the event of its recovery (01 R23, Coincidences). -/
def lportLose (p k n : Nat) (s : State) : State := modLport p k (fun x => { x with lost := x.lost + n }) s

/-- The ORDER event of a recovery in which `n` items of promise `promise` were dropped (20 R510). -/
def orderLost (code src : W16) (promise n : Nat) (s : State) : State :=
  if n = 0 then s else emit .order code src (d1 promise ++ d4 n) s

/-- A frame joins an egress queue; false where it is dropped at a full queue or a port that is down (R339, Coincidences). -/
def egressPut (p k : Nat) (f : EgFrame) (s : State) : Bool × State :=
  let x := lport p k s
  if !x.up then (false, lportLose p k 1 s)
  else if queueSize p s < x.fill + f.size then (false, linkDrop p k 0x400B s)
  else (true, flowUpdate p k (modLport p k (fun x => { x with queue := x.queue ++ [f] }) s))

/-- A frame passed on from the partner port: on the wire at once in CUT_THROUGH with an empty queue, else queued (R323, R324).
`bad`: its end does not verify, so that it is ended with an inverted FCS, counted as STOMPED. -/
def egressForward (p k : Nat) (bad : Bool) (f : EgFrame) (s : State) : Bool × State :=
  let x := lport p k s
  if x.up && (gport p s).fwd == 0 && x.queue == [] && !lportPaused x f.prio s && txpOn p s then
    let r := txPipe p k f s
    match r.1 with
    | none => (true, r.2)
    | some b => (true, if bad then linkDrop p k 0x4009 (wireOut p k true b r.2) else wireOut p k false b r.2)
  else if bad then (false, s)
  else
    let r := egressPut p k f s
    (true, r.2)

/-- EGRESS_FRAME_SENT (R339, R340): the first frame of the queue leaves through the egress pipe. -/
def egressFrameSentS (t p k : Nat) (s : State) : State :=
  let s := atTime t s
  let x := lport p k s
  match x.queue with
  | [] => s
  | f :: rest =>
    if !x.up || !txpOn p s || lportPaused x f.prio s then s
    else
      let r := txPipe p k f (modLport p k (fun x => { x with queue := rest }) s)
      let s := match r.1 with | some b => wireOut p k false b r.2 | none => r.2
      flowUpdate p k s

/-- Meaning of EGRESS_FRAME_SENT. -/
def execEgressFrameSent (t : Nat) (p : Fin 16) (k : Fin 4) (s : State) : Host.Outcome State Fault Refusal :=
  act (egressFrameSentS t p.val k.val) s

/-- One pause quantum, ps (R340). -/
def quantumPs (p : Nat) (s : State) : Nat := 1280 * lportCount (gport p s).mode

/-- PAUSE_RECEIVE (R340): PAUSE stops the queue for its quanta, PFC each enabled class; a frame of the kind that the Grain does not
enable is not honoured. -/
def pauseReceiveS (t p k : Nat) (pfc : Bool) (classes : BitVec 8) (quanta : List Nat) (s : State) : State :=
  let s := bump (cPort p k 6) (atTime t s)
  let g := gport p s
  let u := fun q => s.now + q * quantumPs p s
  if !pfc && g.flow == 1 then modLport p k (fun x => { x with pausedUntil := u (quanta.getD 0 0) }) s
  else if pfc && g.flow == 2 then
    modLport p k (fun x => { x with pfc := (List.range 8).foldl (fun m i =>
      if classes.getLsbD i && bitOf g.pfcMask i then tset 0 m i (u (quanta.getD i 0)) else m) x.pfc }) s
  else s

/-- Meaning of PAUSE_RECEIVE. -/
def execPauseReceive (t : Nat) (p : Fin 16) (k : Fin 4) (pfc : Bool) (classes : BitVec 8) (quanta : List Nat) (s : State) :
    Host.Outcome State Fault Refusal := act (pauseReceiveS t p.val k.val pfc classes quanta) s

/-- PAUSE_QUANTA_EXPIRY (R340): pauses that have run out end. -/
def pauseQuantaExpiryS (t p k : Nat) (s : State) : State :=
  let s := atTime t s
  modLport p k (fun x => { x with
    pausedUntil := if x.pausedUntil ≤ s.now then 0 else x.pausedUntil
    pfc := x.pfc.foldl (fun m e => if e.2 ≤ s.now then m else tset 0 m e.1 e.2) [] }) s

/-- Meaning of PAUSE_QUANTA_EXPIRY. -/
def execPauseQuantaExpiry (t : Nat) (p : Fin 16) (k : Fin 4) (s : State) : Host.Outcome State Fault Refusal :=
  act (pauseQuantaExpiryS t p.val k.val) s

/-- PAUSE_REFRESH (R341): repeated while the queue stays at or above XON, or while the ingress pipe that feeds it is off (R344). -/
def pauseRefreshS (t p k : Nat) (s : State) : State :=
  let s := atTime t s
  if (lport p k s).xoff || !rxpOn (partner p s) s then flowEmit (partner p s) p k 0xFFFF s else s

/-- Meaning of PAUSE_REFRESH. -/
def execPauseRefresh (t : Nat) (p : Fin 16) (k : Fin 4) (s : State) : Host.Outcome State Fault Refusal :=
  act (pauseRefreshS t p.val k.val) s

/-- LINK_UP (R316): the queue starts empty. The port has recovered, and the frames it dropped while down are told of (01 R23; log entry
26). -/
def linkUpS (t p k : Nat) (s : State) : State :=
  let s := atTime t s
  if !portsOn s || !s.nrg.laneGroups.getLsbD p || (lport p k s).up || decide (lportCount (gport p s).mode ≤ k) then s
  else
    let n := (lport p k s).lost
    orderLost 0x4001 (srcPort p k) 5 n
      (emit .info 0x4002 (srcPort p k) [] (modLport p k (fun x => { x with up := true, queue := [], xoff := false, lost := 0 }) s))

/-- Meaning of LINK_UP. -/
def execLinkUp (t : Nat) (p : Fin 16) (k : Fin 4) (s : State) : Host.Outcome State Fault Refusal := act (linkUpS t p.val k.val) s

/-- LINK_DOWN (R316): frames queued for the port are dropped and counted (Coincidences). -/
def linkDownS (t p k : Nat) (s : State) : State :=
  let s := atTime t s
  if !(lport p k s).up then s
  else
    emit .link 0x4001 (srcPort p k) [] (modLport p k (fun x =>
      { x with up := false, queue := [], pausedUntil := 0, pfc := [], xoff := false, lost := x.lost + x.queue.length }) s)

/-- Meaning of LINK_DOWN. -/
def execLinkDown (t : Nat) (p : Fin 16) (k : Fin 4) (s : State) : Host.Outcome State Fault Refusal := act (linkDownS t p.val k.val) s

/-! ### Frames that the device originates (R321, R327) -/

/-- IPv4 header checksum over 16-bit words. -/
def ipSum (b : Bytes) : Nat :=
  let v := ((chunks 2 b).map (fun c => beNat (padTo 2 c))).sum
  let v := v % 65536 + v / 65536
  let v := v % 65536 + v / 65536
  65535 - v

/-- Bytes of `b` with those at `o` replaced by `x`. -/
def patch (b : Bytes) (o : Nat) (x : Bytes) : Bytes := b.take o ++ x ++ b.drop (o + x.length)

/-- A downlink or rein: the template's header, its lengths and checksum filled in, then the envelope (R327). The UDP header stands at
L3_OFF + 20, and its length field 4 bytes into it (log entry 26). -/
def templated (t env : Bytes) : EgFrame :=
  let n := fieldLe t 0 1
  let fl := fieldLe t 1 1
  let l3 := fieldLe t 2 1
  let hd := slice t 0x10 n
  let total := n + env.length - l3
  let hd := if bitOf fl 1 then patch hd (l3 + 24) (beBytes 2 (total - 20) ++ [0, 0]) else hd
  let hd := if bitOf fl 0 then
      let h := patch (patch hd (l3 + 2) (beBytes 2 total)) (l3 + 10) [0, 0]
      patch h (l3 + 10) (beBytes 2 (ipSum (slice h l3 20)))
    else hd
  { data := hd ++ env, prio := fieldLe t 3 1 % 8 }

/-- A return template of the Grain. -/
def template (n : Nat) (s : State) : Bytes := s.grn.grain.sieve.templates.getD n []

end Sys2Proof.Machine
end

