-- ==== Sys2Proof/Machine/CanopyBase.lean ====
section
/-!
DEFINITION. Machine/CanopyBase.lean: contexts, ranges, buckets, lanes, intake entries, records and drops of Canopy
(10_canopy_service.md R249-R255, R277-R282; 11_canopy_pressure_and_failure.md R291-R301).
-/
namespace Sys2Proof.Machine

/-- The CANOPY section of the installed Grain. -/
def gcan (s : State) : GCanopy := s.grn.grain.canopy.getD {}
/-- The Grain has a CANOPY section. -/
def canopyOn (s : State) : Bool := s.grn.installed && s.grn.grain.canopy.isSome
/-- Change the CNP block. -/
def modCnp (f : Cnp → Cnp) (s : State) : State := { s with cnp := f s.cnp }

/-! ### Contexts (R249-R251) -/

/-- SENSOR_ID of a context index, in the own range or the takeover range (R249, R310). -/
def ctxSensor (i : Nat) (s : State) : Nat :=
  if i < (gcan s).idCount then (gcan s).idBase + i else s.cnp.tkBase.toNat + (i - (gcan s).idCount)

/-- A context. -/
def ctxAt (i : Nat) (s : State) : Ctx := tget {} s.cnp.ctx i
/-- Write a context. -/
def setCtx (i : Nat) (c : Ctx) (s : State) : State := modCnp (fun n => { n with ctx := tset {} n.ctx i c }) s

/-- The 64 bytes of a context (R250). -/
def Ctx.bytes (id : Nat) (c : Ctx) : Bytes :=
  leBytes 8 id ++ leBytes 4 c.lastFcnt.toNat ++ leBytes 4 c.ceiling.toNat ++ leBytes 8 c.window.toNat
    ++ beBytes 8 c.nonce.toNat ++ leBytes 8 c.lastSlot.toNat ++ leBytes 2 c.epoch.toNat ++ leBytes 1 c.st ++ [c.flags, c.cls, c.miss]
    ++ leBytes 2 c.rekeyGen.toNat ++ leBytes 4 c.owner.toNat ++ leBytes 8 c.leapSlot.toNat ++ leBytes 4 0

/-- A context from its 64 bytes; SENSOR_ID is not taken (R251). -/
def ctxOf (b : Bytes) : Ctx :=
  { lastFcnt := BitVec.ofNat 32 (fieldLe b 8 4), ceiling := BitVec.ofNat 32 (fieldLe b 0xC 4)
    window := BitVec.ofNat 64 (fieldLe b 0x10 8), nonce := BitVec.ofNat 64 (fieldBe b 0x18 8)
    lastSlot := BitVec.ofNat 64 (fieldLe b 0x20 8), epoch := BitVec.ofNat 16 (fieldLe b 0x28 2), st := fieldLe b 0x2A 1
    flags := BitVec.ofNat 8 (fieldLe b 0x2B 1 % 8), cls := BitVec.ofNat 8 (fieldLe b 0x2C 1)
    miss := BitVec.ofNat 8 (fieldLe b 0x2D 1), rekeyGen := BitVec.ofNat 16 (fieldLe b 0x2E 2)
    owner := BitVec.ofNat 32 (fieldLe b 0x30 4), leapSlot := BitVec.ofNat 64 (fieldLe b 0x34 8) }

/-- FLAGS.REKEY_DUE. -/
def Ctx.rekeyDue (c : Ctx) : Bool := c.flags.getLsbD 0
/-- FLAGS.FLOOR_RESTORED. -/
def Ctx.floorRestored (c : Ctx) : Bool := c.flags.getLsbD 1
/-- FLAGS.NEAR_END. -/
def Ctx.nearEnd (c : Ctx) : Bool := c.flags.getLsbD 2

/-- The own range is another member's to serve (R311): it was taken over and is not handed back. -/
def ownServed (s : State) : Bool :=
  match ownMember s with
  | some m => tget 0 s.grv.served m != 0
  | none => false

/-- The context index of a sensor in a range that this device serves (R249, R310). -/
def ctxIndex (id : Nat) (s : State) : Option Nat :=
  let g := gcan s
  if g.idBase ≤ id ∧ id < g.idBase + g.idCount ∧ !ownServed s then some (id - g.idBase)
  else if (s.cnp.tkState = 1 ∨ s.cnp.tkState = 2) ∧ s.cnp.tkBase.toNat ≤ id ∧ id < s.cnp.tkBase.toNat + s.cnp.tkCount then
    some (g.idCount + (id - s.cnp.tkBase.toNat))
  else none

/-! ### Buckets, lanes and channels (R254, R279, R304) -/

/-- Bucket of a sensor ID (R254). -/
def bucketOf (id : Nat) : Nat :=
  ([0, 10, 20, 30, 40, 50, 60].map (fun k => (id >>> k) % 1024)).foldl (· ^^^ ·) 0

/-- LANE_TABLE in force. -/
def laneOf (b : Nat) (s : State) : Nat :=
  let m := tget 0 s.cnp.moved b
  if m = 0 then ((gcan s).laneTable.getD b 0).toNat else m - 1

/-- Record channel of a bucket. -/
def channelOf (b : Nat) (s : State) : Nat := ((gcan s).channelMap.getD b 0).toNat % 32

/-- A lane's ring. -/
def laneAt (l : Nat) (s : State) : Lane := tget {} s.cnp.lanes l
/-- Change a lane's ring. -/
def modLane (l : Nat) (f : Lane → Lane) (s : State) : State := modCnp (fun n => { n with lanes := tmod {} n.lanes l f }) s

/-- The lane's watchdog counts from now (R302). -/
def laneWork (l : Nat) (s : State) : State := modLane l (fun x => { x with since := s.now }) s

/-- The leaf serves as a Canopy lane: its role, or a spare that has taken a lane (R302). -/
def isLane (l : Nat) (s : State) : Bool := (leafAt l s).role == roleLane || s.cnp.sparesUsed.contains l

/-- EN of a lane (R287). -/
def laneOn (l : Nat) (s : State) : Bool := !(tget {} s.dis l).off

/-- Count a refusal code against a lane (20 R508). -/
def laneCode (l : Nat) (code : W16) (s : State) : State :=
  if 0x3001 ≤ code.toNat ∧ code.toNat ≤ 0x3010 then bump (cLane l (16 + (code.toNat - 0x3001))) s else s

/-- Count a code against the lane of a sensor's bucket (log entry 20). -/
def sensorCode (id : Nat) (code : W16) (s : State) : State := laneCode (laneOf (bucketOf id) s) code s

/-! ### Envelopes and entries (R252, R253, R291, R293) -/

/-- Limb of a port (01 R15). -/
def limbOfPort (p : Nat) : Nat := p / 4

/-- SENSOR_ID of an envelope's frame, zero-filled where the envelope ends early. -/
def envSensor (env : Bytes) : Nat := beNat (padTo 8 (slice env 0x1C 8))

/-- The envelope is one that reaches a lane (R252, R253): VERSION, KIND, LEN and its length. -/
def envGood (env : Bytes) : Bool :=
  fieldBe env 0 1 == 1 && fieldBe env 1 1 == 1 && decide (24 ≤ fieldBe env 2 2 ∧ fieldBe env 2 2 ≤ 224)
    && decide (0x18 + fieldBe env 2 2 ≤ env.length)

/-- Bytes that an entry occupies in the share and in spill (R293). -/
def entrySize (env : Bytes) : Nat := 8 + (env.length + 7) / 8 * 8

/-- The intake entry of an envelope that arrived on a port with a return template; its whole envelope stands in `frame` until the
dispatcher reads it. -/
def entryOf (p k tmpl : Nat) (env : Bytes) : Entry :=
  { limb := limbOfPort p, port := p, lport := k, template := tmpl, sensor := BitVec.ofNat 64 (envSensor env)
    rx := BitVec.ofNat 64 (fieldBe env 0xC 8), gw := BitVec.ofNat 64 (fieldBe env 4 8)
    radio := BitVec.ofNat 32 (fieldBe env 0x14 4), frame := env, size := entrySize env }

/-- The sensor frame of an entry. -/
def Entry.sframe (e : Entry) : Bytes := slice e.frame 0x18 (fieldBe e.frame 2 2)

/-- The entry of a handle. -/
def entryAt (h : W32) (s : State) : Option Entry := s.cnp.entries.find? (fun e => e.handle == h)
/-- Change the entry of a handle. -/
def modEntry (h : W32) (f : Entry → Entry) (s : State) : State :=
  modCnp (fun n => { n with entries := n.entries.map (fun e => if e.handle == h then f e else e) }) s
/-- An entry is released from the share and from its lane. -/
def releaseEntry (h : W32) (s : State) : State :=
  modCnp (fun n => { n with
    entries := n.entries.filter (fun e => e.handle != h)
    lanes := n.lanes.foldl (fun t x => tset {} t x.1 { x.2 with ring := x.2.ring.filter (· != h) }) [] }) s

/-- Bytes of a limb's share in use. -/
def shareUsed (l : Nat) (s : State) : Nat :=
  ((s.cnp.entries.filter (fun e => e.limb == l && e.place != 0)).map (·.size)).sum
/-- Bytes of a limb's share. -/
def shareSize : Nat := 4194304
/-- Bytes of a spill page. -/
def spillPage : Nat := 2097152
/-- The limb's queue extends into spill. -/
def spilling (l : Nat) (s : State) : Bool := s.cnp.entries.any (fun e => e.limb == l && e.place == 0)

/-- Pages that a spill stream from `h` to `t` touches. -/
def pagesOf (h t : Nat) : Nat := if t ≤ h then 0 else (t + spillPage - 1) / spillPage - h / spillPage
/-- Pages that all limbs hold, the given limb's stream ending at `t`. -/
def spillPages (l t : Nat) (s : State) : Nat :=
  ((List.range 4).map (fun k => pagesOf (tget 0 s.cnp.spHead k) (if k = l then t else tget 0 s.cnp.spTail k))).sum
/-- Spill bytes in use. -/
def spillUsed (s : State) : Nat := ((s.cnp.entries.filter (fun e => e.place == 0)).map (·.size)).sum

/-- FILL in permille (R295). -/
def fillNow (s : State) : Nat :=
  let intake := ((s.cnp.entries.filter (fun e => e.place != 0)).map (·.size)).sum
  (intake + spillUsed s) * 1000 / (4 * shareSize + (gcan s).spillBytes)

/-! ### Records (R277-R282) -/

/-- Record length (R277). -/
def Rec.size (r : Rec) : Nat := 48 + r.payload.length

/-- A record's bytes, in wire order or little-endian (R277). -/
def Rec.bytes (be : Bool) (r : Rec) : Bytes :=
  let n := fun k v => if be then beBytes k v else leBytes k v
  n 1 r.kind ++ n 1 r.flags ++ n 1 r.aport ++ n 1 r.payload.length ++ n 4 r.fcnt.toNat ++ n 8 r.sensor.toNat ++ n 8 r.rseq.toNat
    ++ n 8 r.rx.toNat ++ n 8 r.gw.toNat ++ n 2 r.epoch.toNat ++ n 1 r.port ++ n 1 r.lane ++ n 4 r.radio.toNat ++ r.payload

/-- A record channel. -/
def chanAt (c : Nat) (s : State) : Chan := tget {} s.cnp.chans c
/-- Change a record channel. -/
def modChan (c : Nat) (f : Chan → Chan) (s : State) : State := modCnp (fun n => { n with chans := tmod {} n.chans c f }) s
/-- Bytes of a channel's output buffer in use. -/
def Chan.used (x : Chan) : Nat := (x.buf.map Rec.size).sum
/-- A record of `n` bytes fits the channel's 64 KiB buffer (R282). -/
def chanRoom (c n : Nat) (s : State) : Bool := decide ((chanAt c s).used + n ≤ 65536)

/-- A record joins its channel with the next RSEQ (R259, R279). -/
def pushRec (c : Nat) (r : Rec) (s : State) : State :=
  let s := modChan c (fun x => { x with rseq := x.rseq + 1, buf := x.buf ++ [{ r with rseq := x.rseq + 1 }] }) s
  let s := bump (cChan c 0) s
  if r.kind = 4 then bumpBy (cChan c 2) r.fcnt.toNat (bump (cChan c 1) s) else s

/-! ### Drops (R299-R301) -/

/-- Code of a drop cause. -/
def dropCode (cause : Nat) : W16 :=
  match cause with
  | 1 => 0x3007 | 2 => 0x3014 | 3 => 0x300E | 4 => 0x3016 | 5 => 0x3015 | 6 => 0x3018 | _ => 0x7010

/-- A cause's activity after one more drop, with its first event (R301). -/
def dropNote (cause limb : Nat) (s : State) : State :=
  let d := tget {} s.cnp.drops cause
  let s := modCnp (fun n => { n with
    lastDrop := some s.now, drops := tset {} n.drops cause { active := true, count := d.count + 1, last := s.now } }) s
  let s := bump (cLimb limb (8 + cause)) s
  if d.active then s else emit .canopy (dropCode cause) (srcLimb limb) [] s

/-- Add a drop to what its channel's next LOSS record of the cause covers (R300): sensor IDs from `lo` to `hi`. -/
def lossAdd (c cause limb : Nat) (lo hi rx : W64) (s : State) : State :=
  modChan c (fun x => { x with loss := tmod {} x.loss cause (fun a =>
    if a.count = 0 then { a with count := 1, lo := lo, hi := hi, rx := rx, limb := limb }
    else { a with count := a.count + 1, lo := if lo < a.lo then lo else a.lo, hi := if a.hi < hi then hi else a.hi }) }) s

/-- Key of a sensor's own LOSS record of cause 5 among a channel's losses (R300, R306). -/
def lostKey (id : Nat) : Nat := 5 + 8 * (id + 1)

/-- An envelope is dropped (R299-R301). -/
def dropEnv (cause : Nat) (e : Entry) (s : State) : State :=
  lossAdd (channelOf (bucketOf e.sensor.toNat) s) cause e.limb e.sensor e.sensor e.rx (dropNote cause e.limb s)

/-- The LOSS record of what a channel has lost for a cause (R300). -/
def lossRec (cause : Nat) (a : LossAcc) : Rec :=
  { kind := 4, aport := cause, fcnt := BitVec.ofNat 32 a.count, sensor := a.lo, gw := a.hi, rx := a.rx, port := a.limb }

/-! ### Host payloads (R276) -/

/-- A DOWNLINK_DONE record; fields that the rules leave open for an outcome without a downlink are free (log entry 21). -/
def downlinkDone (p : Payload) (outcome : Nat) (sent : Option Dlink) (s : State) : State :=
  let b := bucketOf p.sensor.toNat
  let c := channelOf b s
  let epoch := match ctxIndex p.sensor.toNat s with | some i => (ctxAt i s).epoch | none => 0
  let f := drawFree s
  let g := drawFree f.2
  let r : Rec := { kind := 2, aport := outcome, fcnt := p.tag, sensor := p.sensor, epoch := epoch, lane := laneOf b s }
  match sent with
  | some d => bump (cChan c 4) (pushRec c { r with rx := d.slot, gw := d.gw, port := d.port, radio := d.radio } s)
  | none =>
    bump (cChan c 5) (pushRec c { r with gw := f.1, radio := g.1.setWidth 32, port := (g.1 >>> 32).toNat % 256 } g.2)

/-- Pending payload of a sensor. -/
def payloadOf (id : W64) (s : State) : Option Payload := s.cnp.payloads.find? (fun p => p.sensor == id)
/-- Take a sensor's pending payload out. -/
def payloadDrop (id : W64) (s : State) : State := modCnp (fun n => { n with payloads := n.payloads.filter (fun p => p.sensor != id) }) s

/-- A payload returns to pending after its downlink was not sent; a newer one for the sensor replaces it (R276, R308). -/
def payloadBack (p : Payload) (s : State) : State :=
  if (payloadOf p.sensor s).isSome then downlinkDone p 1 none s else modCnp (fun n => { n with payloads := n.payloads ++ [p] }) s

end Sys2Proof.Machine
end

