-- ==== Sys2Proof/Machine/CanopyFrame.lean ====
section
/-!
DEFINITION. Machine/CanopyFrame.lean: sensor frames and their protection (10_canopy_service.md R261-R263, 05 R121), the requests
OPEN and COMMIT of the profile program, leases and downlinks (R256-R275).
-/
namespace Sys2Proof.Machine

/-! ### Keys and protection (05 R121, R262) -/

/-- SJK of a sensor. -/
def keySjk (root : Bytes) (id : Nat) : Bytes := kdfC root "CNP-SJK" (beBytes 8 id) 128
/-- SRK of a sensor's epoch. -/
def keySrk (root : Bytes) (id epoch : Nat) : Bytes := kdfC root "CNP-SRK" (beBytes 8 id ++ beBytes 2 epoch) 256
/-- SMK of a session. -/
def keySmk (srk : Bytes) (nonce : W64) : Bytes := kdfC srk "CNP-SMK" (beBytes 8 nonce.toNat) 128
/-- SEK of a session. -/
def keySek (srk : Bytes) (nonce : W64) : Bytes := kdfC srk "CNP-SEK" (beBytes 8 nonce.toNat) 128

/-- The MIC of a frame whose bytes before it are `b` (R262). -/
def frameMic (key : Bytes) (dir epoch : Nat) (b : Bytes) : Bytes :=
  let b0 := [0x49] ++ beBytes 1 dir ++ beBytes 2 epoch ++ slice b 0xC 4 ++ List.replicate 7 0 ++ beBytes 1 (fieldBe b 3 1)
  (cmac key (b0 ++ b)).take 8

/-- CTR encryption or decryption of a payload (R262). -/
def frameCrypt (key : Bytes) (dir id fcnt : Nat) (m : Bytes) : Bytes :=
  ctrCrypt key ([0x01] ++ beBytes 1 dir ++ beBytes 8 id ++ beBytes 4 fcnt ++ beBytes 2 1) m

/-- A frame of the device's: header, payload as sent, and MIC (R261-R263). -/
def downFrame (key : Bytes) (epoch mtype aport id fcnt : Nat) (payload : Bytes) : Bytes :=
  let b := beBytes 1 mtype ++ [0] ++ beBytes 1 aport ++ beBytes 1 payload.length ++ beBytes 8 id ++ beBytes 4 fcnt ++ payload
  b ++ frameMic key 1 epoch b

/-- MTYPE of a frame. -/
def fType (f : Bytes) : Nat := fieldBe f 0 1
/-- FCTRL.LISTEN. -/
def fListen (f : Bytes) : Bool := bitOf (fieldBe f 1 1) 0
/-- PLEN. -/
def fPlen (f : Bytes) : Nat := fieldBe f 3 1
/-- SENSOR_ID. -/
def fSensor (f : Bytes) : Nat := fieldBe f 4 8
/-- FCNT. -/
def fFcnt (f : Bytes) : Nat := fieldBe f 0xC 4
/-- The frame is a join request. -/
def fJoin (f : Bytes) : Bool := fType f == 0x20
/-- Payload as sent. -/
def fPayload (f : Bytes) : Bytes := slice f 0x10 (fPlen f)

/-- A well-formed uplink (R261, R270). -/
def frameGood (f : Bytes) : Bool :=
  decide (fPlen f ≤ 200) && f.length == 24 + fPlen f && decide (fieldBe f 1 1 < 2)
    && (match fType f with
        | 0x10 => decide (1 ≤ fieldBe f 2 1 ∧ fieldBe f 2 1 ≤ 223)
        | 0x20 => fieldBe f 2 1 == 0 && fPlen f == 8 && fListen f && decide (fieldBe f 0x14 1 ≤ 15) && allZero (slice f 0x15 3)
        | _ => false)

/-! ### OPEN (R256, R257, R260) -/

/-- The tag's request changed. -/
def modReq (l t : Nat) (f : SapReq → SapReq) (s : State) : State :=
  let x := sapTag l t s
  setSapTag l t { x with req := x.req.map f } s

/-- The fleet root named by an OPEN may serve it (R129, R130, R248): none, or the reason of the refusal. -/
def fleetCheck (l n : Nat) (s : State) : Option W16 :=
  if 4096 ≤ n then some 0x5008
  else match keyCheck (.bough (boughOfLeaf l)) 4 [3] n s with
    | some c => some c
    | none => if attrDest (vslot n s).attr = 1 then none else some 0x5002

/-- A request that names a fleet root is accepted: its checks and the material it runs on to its end (05 R130, R136). -/
def fleetTake (s : State) (o : OpenRec) : OpenRec :=
  { o with gen := (vslot o.fleet s).gen, root := (vslot o.fleet s).mat, bad := fleetCheck o.leaf o.fleet s }

/-- What an OPEN finds: CODE, the SECURE reason, and the plaintext of a data frame with a good MIC (R257). -/
def openRun (o : OpenRec) (e : Entry) (s : State) : W16 × W16 × Bytes :=
  let f := e.sframe
  let c := ctxAt o.ctx s
  let id := ctxSensor o.ctx s
  match o.bad with
  | some x => (0xF000, x, [])
  | none =>
    if !frameGood f || fSensor f != id then (0x3002, 0, [])
    else
      let root := o.root
      let b := f.take (16 + fPlen f)
      let mic := f.drop (16 + fPlen f)
      if fJoin f then (if frameMic (keySjk root id) 0 0 b = mic then 0 else 0x3001, 0, [])
      else
        let srk := keySrk root id c.epoch.toNat
        if frameMic (keySmk srk c.nonce) 0 c.epoch.toNat b = mic then
          (0, 0, frameCrypt (keySek srk c.nonce) 0 id (fFcnt f) (fPayload f))
        else (0x3001, 0, [])

/-- The 128 bytes of an OPEN result (R257). -/
def openResult (o : OpenRec) (f : Bytes) (id : Nat) : Bytes :=
  let join := if fJoin f then padTo 8 (fPayload f) else List.replicate 8 0
  leBytes 2 o.code.toNat ++ leBytes 1 (fType f) ++ leBytes 1 (fieldBe f 1 1) ++ leBytes 4 (fFcnt f) ++ leBytes 1 (fieldBe f 2 1)
    ++ leBytes 1 (fPlen f) ++ [0, 0] ++ leBytes 4 o.token.toNat ++ o.read.bytes id ++ join ++ List.replicate 40 0

/-- A context command's effect (R288): 1 BLOCK, 2 UNBLOCK, 3 FORGET, 4 READ. A payload pending for the sensor ends with
UNKNOWN when the context is blocked or forgotten (Coincidences). -/
def ctxManage (op i : Nat) (s : State) : State :=
  let c := ctxAt i s
  let id := BitVec.ofNat 64 (ctxSensor i s)
  let gone := fun s => match payloadOf id s with
    | some p => downlinkDone p 4 none (payloadDrop id s)
    | none => s
  match op with
  | 1 => gone (setCtx i { c with st := 2 } s)
  | 2 => setCtx i { c with st := if c.epoch = 0 then 0 else 1 } s
  | 3 => gone (setCtx i { c with st := 0 } s)
  | _ => modCnp (fun n => { n with ctxData := c.bytes id.toNat }) s

/-- The context is lost and not yet rebuilt (R306). -/
def ctxLost (i : Nat) (s : State) : Bool := s.cnp.rebuild.contains i || s.cnp.rebuildWait.contains i

/-- An OPEN begins: its result is computed and will be delivered at READY; a context command acts and is done. -/
def openStart (o : OpenRec) (s : State) : State :=
  if o.mgmt ≠ 0 then ctxManage o.mgmt o.ctx s
  else match entryAt o.entry s with
    | none =>
      modReq o.leaf o.tag (fun r => { r with entry := none, code := 0xF000, len := 128, out := List.replicate 128 0 }) s
    | some e =>
      let r := openRun o e s
      let d := drawFree s
      let o := { o with
        begun := true, token := d.1.setWidth 32, code := r.1, micOk := r.1 == 0, plain := r.2.2, read := ctxAt o.ctx s }
      let out := openResult o e.sframe (ctxSensor o.ctx s)
      let s := modReq o.leaf o.tag (fun q => { q with entry := none, code := o.code, len := 128, out := out, secure := r.2.1 }) d.2
      let s := modCnp (fun n => { n with opens := n.opens ++ [o] }) s
      let s := laneWork o.leaf (bump (cLane o.leaf 0) s)
      let b := boughOfLeaf o.leaf
      let s := if o.code = 0xF000 then bump (cBough b 2) s else s
      bumpBy (cBough b 3) (if o.code = 0xF000 ∨ o.code = 0x3002 then 0 else openBlocks e.sframe) s
where
  /-- AES block operations of an OPEN: derivations, CMAC with its subkeys, and decryption (05 R117, R262). -/
  openBlocks (f : Bytes) : Nat :=
    (if fJoin f then 3 else 10) + (16 + 16 + fPlen f + 15) / 16 + 1 + (if fJoin f then 0 else (fPlen f + 15) / 16)

/-- Waiting OPENs whose context has become free begin, in order (R260); those of a disabled lane stay queued (01 R26). `seen`: contexts of the OPENs before them. -/
def beginFrom : List OpenRec → List Nat → State → State
  | [], _, s => s
  | o :: t, seen, s =>
    if o.begun then beginFrom t (o.ctx :: seen) (modCnp (fun n => { n with opens := n.opens ++ [o] }) s)
    else if seen.contains o.ctx || s.cnp.held.any (fun h => h.opn.ctx == o.ctx) || ctxLost o.ctx s
        || (o.mgmt == 0 && !laneOn o.leaf s) then
      beginFrom t (o.ctx :: seen) (modCnp (fun n => { n with opens := n.opens ++ [o] }) s)
    else beginFrom t (if o.mgmt = 0 then o.ctx :: seen else seen) (openStart o s)

/-- All waiting OPENs tried. -/
def beginOpens (s : State) : State := beginFrom s.cnp.opens [] (modCnp (fun n => { n with opens := [] }) s)

/-- CANOPY_OPEN (R256, R257, R260; 14 R396): the request takes its tag; a fifth outstanding OPEN of a lane is discarded. -/
def canopyOpenS (l t desc : Nat) (s : State) : State :=
  if !leafCanIssue l s then s
  else if (sapTag l t s).req.isSome || decide (4 ≤ (s.cnp.opens.filter (fun o => o.mgmt == 0 && o.leaf == l)).length) then
    modLeaf l (fun y => { y with sapReject := true }) s
  else
    let q := mread 0 (leafAt l s).dmem desc 16
    let h := BitVec.ofNat 32 (fieldLe q 0 4)
    let out := fieldLe q 0xC 4
    let good := decide (desc + 16 ≤ 0x10000) && fieldLe q 0xA 2 == 0 && out % 128 == 0 && decide (out + 128 ≤ 0x10000)
      && !overlaps out 128 desc 16 && isLane l s && s.cnp.st == 3
      && (match entryAt h s with | some e => e.place == 2 && e.lane == l | none => false)
      && s.cnp.opens.all (fun o => o.mgmt != 0 || o.entry != h) && s.cnp.held.all (fun x => x.opn.entry != h)
    if !good then sapTake l t { op := 0x40, code := 0xF000, dst := out } [(desc, 16)] 0 s
    else
      let s := sapTake l t { op := 0x40, dst := out, entry := some (h.toNat, fieldLe q 4 4) } [(desc, 16)] 128 s
      let o : OpenRec := fleetTake s { leaf := l, tag := t, entry := h, ctx := fieldLe q 4 4, fleet := fieldLe q 8 2, out := out }
      beginOpens (modCnp (fun n => { n with opens := n.opens ++ [o] }) (laneWork l s))

/-- Meaning of CANOPY_OPEN. -/
def execCanopyOpen (l : Fin 192) (t : Fin 8) (desc : BitVec 16) (s : State) : Host.Outcome State Fault Refusal :=
  act (canopyOpenS l.val t.val desc.toNat) s

/-! ### Downlinks (R269-R276, R307) -/

/-- LEAP_GAP has passed since the last leap or re-key downlink (R269). -/
def leapFree (c : Ctx) (rx : W64) (s : State) : Bool := decide (c.leapSlot.toNat + (gcan s).leapGap ≤ rx.toNat)

/-- The commit unit permits the downlink that a COMMIT asks for (R259, R269, R272, R274, R307). `acc`: ACCEPT. -/
def downAllowed (down : Nat) (acc : Bool) (reason : Nat) (o : OpenRec) (new : Ctx) (e : Entry) (s : State) : Bool :=
  let f := e.sframe
  let c := o.read
  down == 0 || (fListen f &&
    (match down with
     | 1 => !acc && o.micOk && (reason == 0x3005 || (reason == 0x3004 && c.floorRestored)) && leapFree c e.rx s
              && decide (c.lastFcnt.toNat < 0xFFFFFFFF)
     | 2 => leapFree c e.rx s &&
              (if o.micOk then c.rekeyDue || c.rekeyGen != s.cnp.rekeyGen
               else !acc && o.code == 0x3001 && (decide ((gcan s).missLimit ≤ new.miss.toNat) || (c.st == 0 && c.floorRestored)))
     | 3 => acc && !fJoin f
     | 4 => acc && fJoin f
     | _ => false))

/-- The frame of a downlink (R262, R263, R269-R272), from the context after the commit. -/
def downBytes (down : Nat) (o : OpenRec) (new : Ctx) (f : Bytes) (p : Option Payload) : Bytes :=
  let id := fSensor f
  let root := o.root
  let sjk := keySjk root id
  let n := fFcnt f
  match down with
  | 1 => downFrame sjk 0 0xB0 0 id n (beBytes 4 (o.read.lastFcnt.toNat + 1))
  | 2 => downFrame sjk 0 0xB1 0 id n []
  | 4 =>
    let m := keySrk root id new.epoch.toNat ++ beBytes 2 new.epoch.toNat ++ [new.cls] ++ List.replicate 5 0
    downFrame sjk new.epoch.toNat 0xA0 0 id n (frameCrypt sjk 1 id n m)
  | _ =>
    let srk := keySrk root id new.epoch.toNat
    let d := p.getD {}
    downFrame (keySmk srk new.nonce) new.epoch.toNat 0x90 d.aport id n (frameCrypt (keySek srk new.nonce) 1 id n d.data)

/-- What became of a downlink that a commit asked for. -/
inductive DownEnd where
  | none | queued | late | dropped
deriving DecidableEq, Repr

/-- A downlink is built and queued for D1 or D2, or is LATE, or cannot be sent (R274, R275). RADIO of a downlink envelope is
free (log entry 21). -/
def downBuild (down : Nat) (o : OpenRec) (new : Ctx) (e : Entry) (s : State) : DownEnd × State :=
  let id := BitVec.ofNat 64 (fSensor e.sframe)
  let p := if down = 3 then payloadOf id s else none
  if down = 0 ∨ (down = 3 ∧ p = none) then (.none, s)
  else if s.slt.st = .adrift ∨ 65536 ≤ s.cnp.deadline.length then (.dropped, s)
  else
    let g := (gcan s).cls.getD (new.cls.toNat % 16) {}
    let r := e.rx.toNat
    let d1 := r + g.rx1 - g.lead
    let d2 := r + g.rx2 - g.lead
    let now := s.slt.slot.toNat
    if d1 ≤ now ∧ d2 ≤ now then (.late, s)
    else
      let x := if now < d1 then (d1, r + g.rx1) else (d2, r + g.rx2)
      let fr := drawFree s
      let d : Dlink := {
        slot := BitVec.ofNat 64 x.1, txSlot := BitVec.ofNat 64 x.2, port := e.port, lport := e.lport,
        template := e.template, gw := e.gw, radio := fr.1.setWidth 32, sensor := id,
        frame := downBytes down o new e.sframe p, payload := p }
      (.queued, payloadDrop' p (modCnp (fun n => { n with deadline := n.deadline ++ [d] }) fr.2))
where
  /-- The payload is taken from the pending ones. -/
  payloadDrop' (p : Option Payload) (s : State) : State := match p with | some x => payloadDrop x.sensor s | none => s

/-! ### COMMIT (R258, R259, R264-R267) -/

/-- The ACCEPT breaks R259 or R264. -/
def acceptBad (o : OpenRec) (new : Ctx) (behind : Bool) (f : Bytes) : Bool :=
  let c := o.read
  let n := fFcnt f
  let last := c.lastFcnt.toNat
  !o.micOk || c.st == 2 || c.st == 4 || c.st == 3 || last == 0xFFFFFFFF || n == 0 || (!fJoin f && c.st == 0)
    || decide (new.lastFcnt.toNat < last) || (!fJoin f && !behind && new.lastFcnt == c.lastFcnt) || (!behind && decide (n ≤ last))
    || (behind && (new.lastFcnt != c.lastFcnt || decide (last < n) || decide (64 ≤ last - n)
          || !new.window.getLsbD (last - n) || c.window.getLsbD (last - n)))

/-- The COMMIT is refused with COMMIT_INVALID (R259). -/
def commitBad (o : OpenRec) (e : Entry) (q : Bytes) (s : State) : Bool :=
  let acc := fieldLe q 4 1 == 0
  let new := ctxOf (q.drop 16)
  decide (1 < fieldLe q 4 1) || (acc && acceptBad o new (bitOf (fieldLe q 8 1) 0) e.sframe)
    || !downAllowed (fieldLe q 5 1) acc (fieldLe q 6 2) o new e s

/-- A sap tag's COMMIT is done with its code. -/
def commitReady (l t : Nat) (code : W16) (s : State) : State :=
  modReq l t (fun r => { r with commit := none, code := code }) (laneWork l s)

/-- An invalid COMMIT (R259): the FAULT event, and the entry counts as refused and is released. -/
def commitInvalid (l t : Nat) (h : Option W32) (s : State) : State :=
  let s := commitReady l t 0x300C (emit .fault 0x300C (srcLeaf l) [] (laneCode l 0x300C s))
  match h with
  | some h => releaseEntry h (bump (cLane l 2) s)
  | none => s

/-- A COMMIT that names a slot which may no longer serve it (05 R130, R141): 0xF000, and its entry is released as refused (log entry 20). -/
def commitRefused (l t : Nat) (why : W16) (h : W32) (s : State) : State :=
  let s := modReq l t (fun r => { r with commit := none, code := 0xF000, secure := why }) (bump (cBough (boughOfLeaf l) 2) s)
  releaseEntry h (laneCode l 0xF000 (bump (cLane l 2) s))

/-- Flags of a record from the end of its downlink (R278). -/
def downFlag (d : DownEnd) : Nat := match d with | .none => 0 | .queued => 0x10 | .late => 0x02 | .dropped => 0x80

/-- Codes of a downlink that is not sent, counted (R289). -/
def downCount (l : Nat) (d : DownEnd) (s : State) : State :=
  match d with
  | .late => laneCode l 0x300A (bump (cLane l 4) s)
  | .dropped => laneCode l 0x300B s
  | _ => s

/-- The refusal of a frame that exhausts its counter or epoch (R264, R270), so that STATE becomes RETIRED (log entry 22). -/
def retires (o : OpenRec) (f : Bytes) : Bool :=
  o.micOk && (o.read.st == 3 || o.read.lastFcnt == 0xFFFFFFFF || (fJoin f && o.read.epoch == 0xFFFF))

/-- A refusal commit acts (R259): MISS, FLAGS and LEAP_SLOT are written, and no record is emitted. -/
def refuseAct (h : HeldCommit) (e : Entry) (s : State) : State :=
  let o := h.opn
  let new := ctxOf (h.req.drop 16)
  let reason := BitVec.ofNat 16 (fieldLe h.req 6 2)
  let c := ctxAt o.ctx s
  let c := { c with miss := new.miss, flags := new.flags, leapSlot := new.leapSlot }
  let c := if reason = 0x3006 ∧ retires o e.sframe then { c with st := 3 } else c
  let d := downBuild (fieldLe h.req 5 1) o c e s
  let s := setCtx o.ctx c (downCount h.leaf d.1 d.2)
  let s := laneCode h.leaf reason (bump (cLane h.leaf 2) s)
  let s := if reason = 0x3001 ∨ reason = 0x3003 ∨ reason = 0x3005 ∨ reason = 0x3006 ∨ reason = 0x3010 then
      emit .canopy reason (srcLeaf h.leaf) [] s else s
  commitReady h.leaf h.tag 0 (releaseEntry o.entry s)

/-- A renewal of a context's lease to a ceiling (R267, R236). -/
def renewLease (i : Nat) (target : Nat) (s : State) : State :=
  journalAct (.lease i target) (modCnp (fun n => { n with renew := tset 0 n.renew i (BitVec.ofNat 32 target) }) s)

/-- The early renewal of a commit that is not held (R267). -/
def renewEarly (i : Nat) (last : Nat) (s : State) : State :=
  let l := (gcan s).leaseStep
  let c := (ctxAt i s).ceiling.toNat
  if c ≤ last + l / 4 ∧ tget 0 s.cnp.renew i = 0 ∧ c < 0xFFFFFFFF then renewLease i (min (c + l) 0xFFFFFFFF) s else s

/-- The record of an accepted frame (R277, R278). -/
def acceptRec (h : HeldCommit) (e : Entry) (c : Ctx) (d : DownEnd) : Rec :=
  let f := e.sframe
  let rf := fieldLe h.req 8 1
  { kind := if fJoin f then 3 else 1
    flags := b2n (bitOf rf 0) + 0x20 * b2n (bitOf rf 5) + 4 * b2n e.spilled + 8 * b2n e.retried + 0x40 * b2n c.rekeyDue + downFlag d
    aport := if fJoin f then 0 else fieldBe f 2 1, fcnt := BitVec.ofNat 32 (fFcnt f), sensor := BitVec.ofNat 64 (fSensor f)
    rx := e.rx, gw := e.gw, epoch := c.epoch, port := e.port, lane := h.leaf, radio := e.radio, payload := h.opn.plain }

/-- An accepting commit acts (R259): context, record, downlink and entry in one act; NEAR_END with its event (R266). -/
def acceptAct (h : HeldCommit) (e : Entry) (s : State) : State :=
  let o := h.opn
  let i := o.ctx
  let old := ctxAt i s
  let c : Ctx := { ctxOf (h.req.drop 16) with ceiling := old.ceiling }
  let near := decide (0xFFFF0000 ≤ c.lastFcnt.toNat) && !old.nearEnd
  let c : Ctx := if near then { c with flags := c.flags ||| 5 } else c
  let d := downBuild (fieldLe h.req 5 1) o c e s
  let s := setCtx i c (downCount h.leaf d.1 d.2)
  let s := if near then emit .canopy 0x3013 (srcLeaf h.leaf) [] s else s
  let s := pushRec (channelOf (bucketOf (fSensor e.sframe)) s) (acceptRec h e c d.1) s
  let s := renewEarly i c.lastFcnt.toNat (bump (cLane h.leaf 1) s)
  commitReady h.leaf h.tag 0 (releaseEntry o.entry s)

/-- The lease that an ACCEPT above the ceiling needs (R267): a pending renewal is waited for, else its own is journalled. -/
def leaseNeed (i last : Nat) (s : State) : State :=
  if tget 0 s.cnp.renew i ≠ 0 then s
  else
    let l := max 1 (gcan s).leaseStep
    let c := (ctxAt i s).ceiling.toNat
    renewLease i (min (c + (last - c + l - 1) / l * l) 0xFFFFFFFF) s

/-- One commit tried: it acts, or stays held for its lease, for room in its channel, or behind an earlier one of its lane
(R260, R267, R282); one whose context was lost while it was held is refused (R306, log entry 22). `blocked`: lanes that wait for room. -/
def commitTry (h : HeldCommit) (blocked : List Nat) (s : State) : List Nat × State :=
  let keep := fun (h : HeldCommit) s => modCnp (fun n => { n with held := n.held ++ [h] }) s
  match entryAt h.opn.entry s with
  | none => (blocked, commitReady h.leaf h.tag 0x300C s)
  | some e =>
    let acc := fieldLe h.req 4 1 == 0
    let last := (ctxOf (h.req.drop 16)).lastFcnt.toNat
    if ctxLost h.opn.ctx s then (blocked, keep h s)
    else if (ctxAt h.opn.ctx s).st = 4 ∧ h.opn.read.st ≠ 4 then
      (blocked, commitReady h.leaf h.tag 0x3009
        (releaseEntry h.opn.entry (laneCode h.leaf 0x3009 (bump (cLane h.leaf 2) s))))
    else if blocked.contains h.leaf then (blocked, keep h s)
    else if !acc then (blocked, refuseAct h e s)
    else if (ctxAt h.opn.ctx s).ceiling.toNat < last then
      (blocked, keep { h with leased := true }
        (leaseNeed h.opn.ctx last (if h.leased then s else bump (cLane h.leaf 5) s)))
    else
      let c := channelOf (bucketOf (fSensor e.sframe)) s
      if chanRoom c (48 + h.opn.plain.length) s then (blocked, acceptAct h e s)
      else (h.leaf :: blocked, keep { h with waited := true } (if h.waited then s else bump (cChan c 3) s))

/-- Held commits tried in order. -/
def commitFrom : List HeldCommit → List Nat → State → State
  | [], _, s => s
  | h :: t, b, s =>
    let r := commitTry h b s
    commitFrom t r.1 r.2

/-- All held commits tried, then the OPENs that waited for them. -/
def runHeld (s : State) : State :=
  beginOpens (commitFrom s.cnp.held [] (modCnp (fun n => { n with held := [] }) s))

/-- A COMMIT whose token names no OPEN: one that a CUT discarded is discarded with it and has no effect, its entry stays held and its CODE is
free (01 R28; log entry 31); any other token is stale (R259). -/
def commitStray (l t : Nat) (tok : W32) (s : State) : State :=
  if (laneAt l s).cut.contains tok then
    let f := drawFree s
    commitReady l t (f.1.setWidth 16) (modLane l (fun x => { x with cut := x.cut.erase tok }) f.2)
  else commitInvalid l t none s

/-- CANOPY_COMMIT (R258, R259). -/
def canopyCommitS (l t desc : Nat) (s : State) : State :=
  if !leafCanIssue l s then s
  else if (sapTag l t s).req.isSome then modLeaf l (fun y => { y with sapReject := true }) s
  else
    let q := mread 0 (leafAt l s).dmem desc 80
    if 0x10000 < desc + 80 ∨ fieldLe q 9 7 ≠ 0 then sapTake l t { op := 0x41, code := 0xF000 } [(desc, 80)] 0 s
    else
      let s := laneWork l (sapTake l t { op := 0x41, commit := some q } [(desc, 80)] 0 s)
      let tok := BitVec.ofNat 32 (fieldLe q 0 4)
      match s.cnp.opens.find? (fun o => o.begun && o.leaf == l && o.token == tok) with
      | none => commitStray l t tok s
      | some o =>
        let s := modCnp (fun n => { n with opens := n.opens.filter (fun x => x.mgmt != 0 || x.entry != o.entry) }) s
        match entryAt o.entry s with
        | none => beginOpens (commitInvalid l t none s)
        | some e =>
          let o := fleetTake s o
          match o.bad with
          | some c => beginOpens (commitRefused l t c o.entry s)
          | none =>
            if commitBad o e q s then beginOpens (commitInvalid l t (some o.entry) s)
            else runHeld (modCnp (fun n => { n with held := n.held ++ [{ leaf := l, tag := t, opn := o, req := q }] }) s)

/-- Meaning of CANOPY_COMMIT. -/
def execCanopyCommit (l : Fin 192) (t : Fin 8) (desc : BitVec 16) (s : State) : Host.Outcome State Fault Refusal :=
  act (canopyCommitS l.val t.val desc.toNat) s

/-- A lease act is done: journalled here, and by the buddy in a grove (R267, R309). -/
def leaseDone (a : JAct) (s : State) : Bool :=
  match a with
  | .lease i v => !mirrorWaits i v s
  | _ => false

/-- HELD_COMMIT_COMPLETE (R267): acknowledged leases raise their ceilings, and the commits that waited for them act. -/
def heldCommitCompleteS (s : State) : State :=
  let d := s.kpf.acked.filter (fun a => leaseDone a s)
  let s : State := { s with kpf := { s.kpf with acked := s.kpf.acked.filter (fun a => !leaseDone a s) } }
  runHeld (foldS (fun a s => match a with
    | .lease i v =>
      modCnp (fun n => { n with
        ctx := tmod {} n.ctx i (fun c => { c with ceiling := if c.ceiling.toNat < v then BitVec.ofNat 32 v else c.ceiling })
        renew := tset 0 n.renew i 0 }) s
    | _ => s) d s)

/-- Meaning of HELD_COMMIT_COMPLETE. -/
def execHeldCommitComplete (s : State) : Host.Outcome State Fault Refusal := act heldCommitCompleteS s

end Sys2Proof.Machine
end

