-- ==== Sys2Proof/Machine/Canopy.lean ====
section
/-!
DEFINITION. Machine/Canopy.lean: from the port to a lane (10_canopy_service.md R252-R255; 11_canopy_pressure_and_failure.md
R291-R301), envelopes for other members (19 R499), reins, and the dispatch of downlinks (10 R275).
-/
namespace Sys2Proof.Machine

/-! ### Envelopes out of range (01 R36, 19 R499) -/

/-- The member whose range holds a sensor ID, none where no range does. -/
def memberOfSensor (id : Nat) (s : State) : Option Nat :=
  (groveMembers s).findIdx? (fun m => decide (m.idBase ≤ id ∧ id < m.idBase + m.idCount))

/-- An envelope that cannot be forwarded (R499). -/
def envUnreachable (e : Entry) (s : State) : State := bump (cGrove 6) (sensorCode e.sensor.toNat 0x3008 s)

/-- An envelope of KIND 0x01 outside every range that the member serves (R499): forwarded with its limb number to the member that
serves its range, else dropped and counted. -/
def envForeign (e : Entry) (s : State) : State :=
  match memberOfSensor e.sensor.toNat s with
  | none => sensorCode e.sensor.toNat 0x3008 s
  | some m =>
    let x := tget 0 s.grv.served m
    let dst := if x = 0 then m else x - 1
    let sec := s.now / psS
    let n := if s.grv.fwd.1 = sec then s.grv.fwd.2 else 0
    if dst = memberNo s ∨ s.grv.isolated ∨ s.grv.lost.contains dst ∨ 1000000 ≤ n then envUnreachable e s
    else
      let r := ringSend dst (.forward (Fin.ofNat 4 e.limb) e.frame) s
      if r.1 then bump (cLimb e.limb 4) (modGrv (fun g => { g with fwd := (sec, n + 1) }) r.2) else envUnreachable e s

/-! ### Reins (R295-R297) -/

/-- Gateway table index (R296). -/
def gwIndex (g : W64) : Nat :=
  let n := g.toNat
  (n % 65536) ^^^ (n / 65536 % 65536) ^^^ (n / 2 ^ 32 % 65536) ^^^ (n / 2 ^ 48)

/-- The envelope of a rein (R297). -/
def reinEnv (gw : W64) (s : State) : Bytes :=
  let g := gcan s
  let n := s.cnp.level
  let now := s.slt.slot.toNat
  [1, 0x82] ++ beBytes 2 24 ++ beBytes 8 gw.toNat ++ beBytes 8 now ++ beBytes 4 0
    ++ beBytes 1 n ++ [0] ++ beBytes 2 (fillNow s) ++ beBytes 4 (g.reinHold * n) ++ beBytes 8 (now + 2 * g.reinGap)
    ++ beBytes 1 (memberNo s) ++ List.replicate 7 0

/-- A frame of the device joins a port's egress queue with a return template; false where the port is down or the queue full, which counts
as 0x300B alone (R275, R308, 12 R339). -/
def sendTemplated (p k tmpl : Nat) (env : Bytes) (s : State) : Bool × State :=
  let f := templated (template tmpl s) env
  let x := lport p k s
  if !x.up || decide (queueSize p s < x.fill + f.size) then (false, s) else egressPut p k f s

/-- The gateway of an envelope is reined where its level differs or its gap has passed (R296). -/
def reinGateway (e : Entry) (s : State) : State :=
  let i := gwIndex e.gw
  let x := tget {} s.cnp.gws i
  let x : Gw := if x.gw = e.gw then x else { gw := e.gw }
  let n := s.cnp.level
  let due := n != x.level || (n != 0 && decide (x.slot.toNat + (gcan s).reinGap ≤ s.slt.slot.toNat))
  if !due then s
  else
    let sec := s.now / psS
    let c := if s.cnp.reins.1 = sec then s.cnp.reins.2 else 0
    if (gcan s).reinRate ≤ c then bump (cLimb e.limb 3) s
    else
      let s := modCnp (fun m => { m with
        reins := (sec, c + 1), gws := tset {} m.gws i { gw := e.gw, level := n, slot := s.slt.slot } }) s
      let r := sendTemplated e.port e.lport e.template (reinEnv e.gw s) s
      if r.1 then bump (cLimb e.limb 2) r.2 else sensorCode e.sensor.toNat 0x300B r.2

/-! ### Admission (R291-R293, R299) -/

/-- Admissions of a limb in the last 10 µs (R292). -/
def recentAdmits (l : Nat) (s : State) : List Nat := (tget [] s.cnp.admits l).filter (fun x => decide (s.now < x + 10 * psUs))

/-- An entry takes its place in its limb's queue, or is dropped as INTAKE_FULL (R291). -/
def intakePut (e : Entry) (s : State) : State :=
  let l := e.limb
  let f := drawFree s
  let put := fun (e : Entry) (s : State) => modCnp (fun n => { n with
    entries := n.entries ++ [{ e with handle := f.1.setWidth 32 }], admits := tset [] n.admits l (s.now :: recentAdmits l s) })
    (bump (cLimb l 0) s)
  if !spilling l s && decide (shareUsed l s + e.size ≤ shareSize) then put { e with place := 1 } f.2
  else
    let h := tget 0 s.cnp.spHead l
    let t := tget 0 s.cnp.spTail l
    let b := if h = t then 0 else t
    let s0 := if h = t then modCnp (fun n => { n with spHead := tset 0 n.spHead l 0, spTail := tset 0 n.spTail l 0 }) s else s
    if spillPages l (b + e.size) s0 ≤ (gcan s).spillBytes / spillPage then
      let s := bump (cLimb l 1) (put { e with place := 0, spilled := true } { s0 with freeCtr := f.2.freeCtr })
      modCnp (fun n => { n with spTail := tset 0 n.spTail l (b + e.size) }) s
    else dropEnv 1 e s0

/-- An envelope at a limb's intake: not this member's, above the rate limit, shed, or queued (R292, R299, R36, R497). What the rate counts
are the envelopes that take an entry. -/
def intakeAdmit (e : Entry) (s : State) : State :=
  let good := envGood e.frame
  if good && (s.grv.isolated || (ctxIndex e.sensor.toNat s).isNone) then envForeign e s
  else if 160 ≤ (recentAdmits e.limb s).length then dropEnv 2 e s
  else if good && s.cnp.shed && fieldBe e.frame 0x18 1 == 0x20 then dropEnv 3 e s
  else intakePut e s

/-- An envelope that arrives at a limb's intake: a rein for its gateway (R296), then admission. -/
def intakeArrive (e : Entry) (s : State) : State :=
  intakeAdmit e (if fieldBe e.frame 1 1 == 1 then reinGateway e s else s)

/-- ENVELOPE_DIVERT (R291, R292, R299); after the erase line the envelope drops with 0x7010 (18 R468). -/
def envelopeDivertS (t : Nat) (s : State) : State :=
  let s := atTime t s
  match s.cnp.inbound with
  | [] => s
  | e :: rest =>
    let s := modCnp (fun n => { n with inbound := rest }) s
    if s.tmp.erased then dropNote 7 e.limb s else if canopyOn s then intakeArrive e s else s

/-- Meaning of ENVELOPE_DIVERT. -/
def execEnvelopeDivert (t : Nat) (s : State) : Host.Outcome State Fault Refusal := act (envelopeDivertS t) s

/-! ### Dispatch (R249, R253, R255) -/

/-- The context index of a queued entry: entries of a range in hand-back are still served (R312). -/
def queuedIndex (id : Nat) (s : State) : Option Nat :=
  if s.cnp.tkState = 3 ∧ s.cnp.tkBase.toNat ≤ id ∧ id < s.cnp.tkBase.toNat + s.cnp.tkCount then
    some ((gcan s).idCount + (id - s.cnp.tkBase.toNat))
  else ctxIndex id s

/-- The old lane still holds entries of a bucket that drains (13 R363). -/
def drainLeft (d : Nat × Nat) (s : State) : Bool :=
  s.cnp.entries.any (fun x => x.place == 2 && x.lane + 1 == d.2 && bucketOf x.sensor.toNat == d.1)

/-- Entries of a range that is being built or transferred, or of a bucket that drains from its old lane, wait (R310, R312, 13 R363). -/
def entryHeld (e : Entry) (s : State) : Bool :=
  (match queuedIndex e.sensor.toNat s with
   | some i => if i < (gcan s).idCount then s.cnp.rangeHeld else s.cnp.tkState == 1
   | none => false)
  || (s.grn.drains.any (fun d => d.1 == bucketOf e.sensor.toNat && drainLeft d s))

/-- A lane's ring can take an entry: its leaf runs, it is enabled, and it has not fallen 256 entries behind (R255, R287). -/
def laneTakes (l : Nat) (s : State) : Bool :=
  let x := laneAt l s
  leafAlive l s && laneOn l s && decide ((x.head - x.consumed).toNat < 256)

/-- The dispatcher can act on an entry of the share now. -/
def dispatchable (e : Entry) (s : State) : Bool :=
  e.place == 1 && s.cnp.st == 3 && (!envGood e.frame || (queuedIndex e.sensor.toNat s).isNone
    || (!entryHeld e s && laneTakes (laneOf (bucketOf e.sensor.toNat) s) s))

/-- The 32 bytes of a ring entry (R255). -/
def ringEntry (e : Entry) (ctx : Nat) : Bytes :=
  leBytes 4 e.handle.toNat ++ leBytes 4 ctx ++ leBytes 8 e.sensor.toNat ++ leBytes 8 e.rx.toNat ++ leBytes 2 e.sframe.length
    ++ leBytes 1 e.port ++ leBytes 1 (b2n e.spilled + 2 * b2n e.retried) ++ leBytes 4 0

/-- Address of a lane's next ring entry in its twig's memory (R255). -/
def laneSlot (l : Nat) (s : State) : Nat := (gcan s).laneRing + 8192 * (l % 4) + 32 * ((laneAt l s).head.toNat % 256)

/-- One entry dispatched: malformed ones are released, ones out of range forwarded, the others appended to their lane's ring. -/
def dispatchEntry (e : Entry) (s : State) : State :=
  if !envGood e.frame then releaseEntry e.handle (sensorCode e.sensor.toNat 0x3002 s)
  else match queuedIndex e.sensor.toNat s with
    | none => envForeign e (releaseEntry e.handle s)
    | some i =>
      let l := laneOf (bucketOf e.sensor.toNat) s
      let s := twigWrite (twigOfLeaf l) (laneSlot l s) (ringEntry e i) (if e.retried then bump (cLane l 3) s else s)
      let s := modLane l (fun x => { x with
        head := x.head + 1, ring := x.ring ++ [e.handle], since := if x.ring = [] then s.now else x.since }) s
      modEntry e.handle (fun e => { e with place := 2, lane := l, ctx := i }) s

/-- ENVELOPE_DISPATCH (R253): the limb's oldest entry of the share whose lane can take it; a full lane does not hold back the
others (log entry 20). -/
def envelopeDispatchS (l : Nat) (s : State) : State :=
  match s.cnp.entries.find? (fun e => e.limb == l && dispatchable e s) with
  | some e => dispatchEntry e s
  | none => s

/-- Meaning of ENVELOPE_DISPATCH. -/
def execEnvelopeDispatch (l : Fin 4) (s : State) : Host.Outcome State Fault Refusal := act (envelopeDispatchS l.val) s

/-- The oldest spill entry of a limb leaves spill: its bytes leave the stream. -/
def spillTake (l : Nat) (e : Entry) (s : State) : State :=
  modCnp (fun n => { n with spHead := tmod 0 n.spHead l (· + e.size) }) s

/-- Spill entries return to the share in order while they fit; one with an uncorrectable error is dropped with cause 4 (R291, R299). -/
def spillReturnFrom (l : Nat) : List Entry → List (Option Nat) → State → State
  | [], _, s => s
  | e :: t, bad, s =>
    if shareSize < shareUsed l s + e.size then s
    else
      let s := spillTake l e s
      match bad.headD none with
      | some ch =>
        spillReturnFrom l t bad.tail (dropEnv 4 e (releaseEntry e.handle (bump (cDram ch 1) s)))
      | none => spillReturnFrom l t bad.tail (modEntry e.handle (fun e => { e with place := 1 }) s)

/-- SPILL_RETURN (R291). -/
def spillReturnS (l : Nat) (bad : List (Option Nat)) (s : State) : State :=
  spillReturnFrom l (s.cnp.entries.filter (fun e => e.limb == l && e.place == 0)) bad s

/-- Meaning of SPILL_RETURN. -/
def execSpillReturn (l : Fin 4) (bad : List (Option (Fin 4))) (s : State) : Host.Outcome State Fault Refusal :=
  act (spillReturnS l.val (bad.map (fun b => b.map (·.val)))) s

/-- LANE_CONSUMED_WRITE (R255). -/
def laneConsumedWriteS (l : Nat) (v : W32) (s : State) : State :=
  if leafCanIssue l s then modLane l (fun x => { x with consumed := v }) s else s

/-- Meaning of LANE_CONSUMED_WRITE. -/
def execLaneConsumedWrite (l : Fin 192) (v : BitVec 32) (s : State) : Host.Outcome State Fault Refusal :=
  act (laneConsumedWriteS l.val v) s

/-! ### Pressure (R295, R300, R301) -/

/-- The rein level moves towards FILL one level at a time, each change with its event. -/
def levelMove : Nat → Nat → State → State
  | 0, _, s => s
  | n + 1, fill, s =>
    let g := gcan s
    let l := s.cnp.level
    let go := fun k => emit .info 0x3012 (srcLimb 0) [] (modCnp (fun c => { c with level := k }) s)
    if l < 3 ∧ g.reinMark.getD l 1001 ≤ fill then levelMove n fill (go (l + 1))
    else if 0 < l ∧ fill + g.reinHyst < g.reinMark.getD (l - 1) 0 then levelMove n fill (go (l - 1))
    else s

/-- FILL_EVALUATION (R295). -/
def fillEvaluationS (t : Nat) (s : State) : State :=
  let s := atTime t s
  if !canopyOn s then s
  else
    let g := gcan s
    let f := fillNow s
    let s := levelMove 3 f (modCnp (fun n => { n with fill := f }) s)
    modCnp (fun n => { n with shed := if g.joinMark ≤ f then true else if f + g.reinHyst < g.joinMark then false else n.shed }) s

/-- Meaning of FILL_EVALUATION. -/
def execFillEvaluation (t : Nat) (s : State) : Host.Outcome State Fault Refusal := act (fillEvaluationS t) s

/-- LOSS records of a channel that are due and fit (R300); a loss of cause 5 stands by its sensor (`lostKey`). -/
def lossEmit (c : Nat) : List (Nat × LossAcc) → State → State
  | [], s => s
  | (cause, a) :: t, s =>
    let due : Bool := match a.last with | none => true | some x => decide (x + psMs ≤ s.now)
    if a.count ≠ 0 ∧ due ∧ chanRoom c 48 s then
      lossEmit c t (modChan c (fun x => { x with
          loss := tset {} x.loss cause (if cause < 8 then { last := some s.now } else {}) }) (pushRec c (lossRec (cause % 8) a) s))
    else lossEmit c t s

/-- LOSS_RECORD_EMIT (R300). -/
def lossRecordEmitS (t c : Nat) (s : State) : State :=
  let s := atTime t s
  lossEmit c (chanAt c s).loss s

/-- Meaning of LOSS_RECORD_EMIT. -/
def execLossRecordEmit (t : Nat) (c : Fin 32) (s : State) : Host.Outcome State Fault Refusal := act (lossRecordEmitS t c.val) s

/-- DROP_SUMMARY_TIMER (R301): causes without a drop for 10 ms end with their summary event. -/
def dropSummaryTimerS (t : Nat) (s : State) : State :=
  let s := atTime t s
  foldS (fun (d : Nat × DropState) s =>
    if d.2.active && decide (d.2.last + 10 * psMs ≤ s.now) then
      emit .canopy (dropCode d.1) (srcLimb 0) [] (modCnp (fun n => { n with drops := tset {} n.drops d.1 {} }) s)
    else s) s.cnp.drops s

/-- Meaning of DROP_SUMMARY_TIMER. -/
def execDropSummaryTimer (t : Nat) (s : State) : Host.Outcome State Fault Refusal := act (dropSummaryTimerS t) s

/-! ### Dispatch of downlinks (R275, R308) -/

/-- A downlink that is not sent at its edge: counted, its payload pending again. -/
def downLost (d : Dlink) (s : State) : State :=
  let s := sensorCode d.sensor.toNat 0x300B s
  match d.payload with
  | some p => payloadBack p s
  | none => s

/-- The envelope of a downlink (R252). -/
def downEnv (d : Dlink) : Bytes :=
  [1, 0x81] ++ beBytes 2 d.frame.length ++ beBytes 8 d.gw.toNat ++ beBytes 8 d.txSlot.toNat ++ beBytes 4 d.radio.toNat ++ d.frame

/-- One downlink whose dispatch slot has come; one whose slot a forward step has passed is not sent (Coincidences). -/
def downSend (d : Dlink) (s : State) : State :=
  if d.slot ≠ s.slt.slot ∨ s.slt.st = .adrift then downLost d s
  else
    let r := sendTemplated d.port d.lport d.template (downEnv d) s
    if !r.1 then downLost d r.2
    else match d.payload with
      | some p => downlinkDone p 0 (some d) r.2
      | none => r.2

end Sys2Proof.Machine
end

