-- ==== Sys2Proof/Machine/CanopyHost.lean ====
section
/-!
DEFINITION. Machine/CanopyHost.lean: what the host does with Canopy: record rings and record frames (10_canopy_service.md
R280-R282), the downlink queue (R276), Ring store images (R283-R286), and context commands (R288).
-/
namespace Sys2Proof.Machine

/-! ### Rings (R276, R280, 20 R514) -/

/-- RING_CONS_WRITE (R280): CONS of the downlink queue is not writable. -/
def ringConsWriteS (r : RingId) (v : W64) (s : State) : State :=
  match r with
  | .record c => modChan c.val (fun x => { x with ring := x.ring.writeCons v.toNat }) s
  | .dlq => s
  | .pf1 => evRoom true (setEvRing true { s.tel.pf1 with reg := s.tel.pf1.reg.writeCons v.toNat } s)
  | .pf0 => evRoom false (setEvRing false { s.tel.pf0 with reg := s.tel.pf0.reg.writeCons v.toNat } s)

/-- Meaning of RING_CONS_WRITE. -/
def execRingConsWrite (r : RingId) (v : BitVec 64) (s : State) : Host.Outcome State Fault Refusal := act (ringConsWriteS r v) s

/-- An event ring after a write of its CTRL (20 R514): enabling ends a stop, and so does the host's own disable. -/
def EventRing.writeCtrl (r : EventRing) (v : W32) : EventRing :=
  let reg := r.reg.writeCtrl v
  if 10 ≤ bitsOf v.toNat 8 4 ∧ bitsOf v.toNat 8 4 ≤ 20 then
    { r with reg := reg, enabledSince := r.enabledSince || reg.en, stopped := false }
  else { r with reg := reg }

/-- RING_CTRL_WRITE (R280). -/
def ringCtrlWriteS (r : RingId) (v : W32) (s : State) : State :=
  match r with
  | .record c => modChan c.val (fun x => { x with ring := x.ring.writeCtrl v }) s
  | .dlq => modCnp (fun n => { n with dlqReg := n.dlqReg.writeCtrl v }) s
  | .pf1 => evRoom true (setEvRing true (s.tel.pf1.writeCtrl v) s)
  | .pf0 => evRoom false (setEvRing false (s.tel.pf0.writeCtrl v) s)

/-- Meaning of RING_CTRL_WRITE. -/
def execRingCtrlWrite (r : RingId) (v : BitVec 32) (s : State) : Host.Outcome State Fault Refusal := act (ringCtrlWriteS r v) s

/-- RECORD_RING_WRITE (R280): the channel's oldest record is written at slot PROD with its stamp; commits that waited for room act. -/
def recordRingWriteS (c : Nat) (s : State) : State :=
  let x := chanAt c s
  match x.buf with
  | [] => s
  | r :: rest =>
    if !x.ring.en || x.ring.isFull then s
    else
      let b := padTo 0xFC (r.bytes false) ++ leBytes 4 (b2n x.ring.phase)
      let s := { s with hostMem := mwrite 0 s.hostMem (x.ring.slotAddr 256) b }
      let s := modChan c (fun x => { x with buf := rest, ring := x.ring.advance }) s
      runHeld (if x.ring.irqs then emitOut (.msix 0 c) s else s)

/-- Meaning of RECORD_RING_WRITE. -/
def execRecordRingWrite (c : Fin 16) (s : State) : Host.Outcome State Fault Refusal := act (recordRingWriteS c.val) s

/-- The records that one frame takes (R281): at most 32, at most 8,192 bytes after the header, each padded to 8 bytes. -/
def frameTake : Nat → Nat → List Rec → List Bytes × List Rec
  | 0, _, l => ([], l)
  | _, _, [] => ([], [])
  | n + 1, room, r :: t =>
    let b := padTo ((r.size + 7) / 8 * 8) (r.bytes true)
    if room < b.length then ([], r :: t)
    else
      let x := frameTake n (room - b.length) t
      (b :: x.1, x.2)

/-- RECORD_FRAME_EMIT (R281): the frame joins its inner port's egress queue; a port that is down or whose queue is full takes no
records (R294, R308). The source address is free (log entry 21). -/
def recordFrameEmitS (c : Nat) (s : State) : State :=
  let x := chanAt (16 + c) s
  let g := (gcan s).recCh.getD c {}
  let r := frameTake 32 8192 x.buf
  if r.1 = [] then s
  else
    let fr := drawFree s
    let vlan : Bytes := if g.vlan = 0 then [] else [0x81, 0x00] ++ beBytes 2 g.vlan
    let f : EgFrame := {
      data := padTo 6 g.da ++ beBytes 6 (fr.1.toNat % 2 ^ 48) ++ vlan ++ [0x88, 0xB5, 0x43, 1] ++ beBytes 1 r.1.length ++ [0]
        ++ r.1.flatten
      prio := g.vlan / 8192 % 8 }
    let l := lport g.port g.lport s
    if !l.up || decide (queueSize g.port s < l.fill + f.size) then s
    else runHeld (egressPut g.port g.lport f (modChan (16 + c) (fun x => { x with buf := r.2 }) fr.2)).2

/-- Meaning of RECORD_FRAME_EMIT. -/
def execRecordFrameEmit (c : Fin 16) (s : State) : Host.Outcome State Fault Refusal := act (recordFrameEmitS c.val) s

/-! ### The downlink queue (R276) -/

/-- DLQ_PROD_WRITE (R276). -/
def dlqProdWriteS (v : W64) (s : State) : State :=
  modCnp (fun n =>
    let q := n.dlqReg
    if q.prod ≤ v.toNat ∧ v.toNat ≤ q.cons + 2 ^ q.size then { n with dlqReg := { q with prod := v.toNat } }
    else { n with dlqReg := { q with ptrErr := true } }) s

/-- Meaning of DLQ_PROD_WRITE. -/
def execDlqProdWrite (v : BitVec 64) (s : State) : Host.Outcome State Fault Refusal := act (dlqProdWriteS v) s

/-- A host payload arrives (R276). -/
def payloadArrive (p : Payload) (s : State) : State :=
  let st := match ctxIndex p.sensor.toNat s with | some i => (ctxAt i s).st | none => 5
  if st ≠ 1 then downlinkDone p 4 none s
  else match payloadOf p.sensor s with
    | some o => modCnp (fun n => { n with payloads := n.payloads ++ [p] }) (downlinkDone o 1 none (payloadDrop p.sensor s))
    | none =>
      if 65536 ≤ s.cnp.payloads.length then downlinkDone p 3 none s
      else modCnp (fun n => { n with payloads := n.payloads ++ [p] }) s

/-- DLQ_ENTRY_FETCH (R276): the entry at CONS, once its PHASE shows that the host has written it. -/
def dlqEntryFetchS (s : State) : State :=
  let q := s.cnp.dlqReg
  if !q.en || decide (q.prod ≤ q.cons) then s
  else
    let b := mread 0 s.hostMem (q.base.toNat + 256 * (q.cons % 2 ^ q.size)) 256
    if bitOf (fieldLe b 14 1) 0 != ((q.cons / 2 ^ q.size) % 2 == 0) then s
    else
      let p : Payload := { sensor := BitVec.ofNat 64 (fieldLe b 0 8), tag := BitVec.ofNat 32 (fieldLe b 8 4), aport := fieldLe b 12 1,
                           data := slice b 16 (min 200 (fieldLe b 13 1)),
                           expire := s.slt.slot + BitVec.ofNat 64 (gcan s).dlTtl }
      payloadArrive p (modCnp (fun n => { n with dlqReg := { n.dlqReg with cons := n.dlqReg.cons + 1 } }) s)

/-- Meaning of DLQ_ENTRY_FETCH. -/
def execDlqEntryFetch (s : State) : Host.Outcome State Fault Refusal := act dlqEntryFetchS s

/-- DL_TTL_EXPIRY (R276): payloads whose time has passed end with EXPIRED. -/
def dlTtlExpiryS (s : State) : State :=
  let late := fun (p : Payload) => decide (p.expire.toNat ≤ s.slt.slot.toNat)
  foldS (fun p s => downlinkDone p 2 none s) (s.cnp.payloads.filter late)
    (modCnp (fun n => { n with payloads := n.payloads.filter (fun p => !late p) }) s)

/-- Meaning of DL_TTL_EXPIRY. -/
def execDlTtlExpiry (s : State) : Host.Outcome State Fault Refusal := act dlTtlExpiryS s

/-! ### Ring store images (R283-R286) -/

/-- Chunks of an image of the own range (R284). -/
def imgChunks (s : State) : Nat := ((gcan s).idCount + 63) / 64

/-- The image header (R284). -/
def imgHeader (s : State) : Bytes :=
  ascii "CRS1" ++ leBytes 2 1 ++ leBytes 2 0 ++ padTo 16 s.fuses.fuseId ++ leBytes 8 s.slt.slot.toNat ++ leBytes 8 (gcan s).idBase
    ++ leBytes 4 (gcan s).idCount ++ leBytes 4 (imgChunks s) ++ leBytes 8 s.kpf.seq ++ leBytes 8 0

/-- GCM's IV of a chunk (R284). -/
def imgIv (slot : Nat) (i : Nat) : Bytes := [0x80] ++ beBytes 7 slot ++ beBytes 4 i
/-- Additional data of a chunk. -/
def imgAad (hdr : Bytes) (i : Nat) : Bytes := hdr.take 0x38 ++ beBytes 4 i
/-- Host offset of a chunk in its image. -/
def imgOff (i : Nat) : Nat := 64 + 4112 * i

/-- The 4,096 bytes of the contexts of a chunk; indexes past the range are zero. -/
def chunkPlain (i : Nat) (s : State) : Bytes :=
  (List.range 64).flatMap (fun k =>
    let n := 64 * i + k
    if n < (gcan s).idCount then (ctxAt n s).bytes (ctxSensor n s) else List.replicate 64 0)

/-- A result of an image command, with its FAULT event (R283, R285). -/
def imgRefuse (s : State) : State := emit .fault 0x300F (srcLimb 0) [] (modCnp (fun n => { n with imgResult := 0x300F }) s)

/-- An export begins (R283): it needs the RUNNING state, an anchored timebase and STORE_F. The writing is C1 work (kind by log entry 36). -/
def imgExport (s : State) : State :=
  if s.cnp.st ≠ 3 ∨ s.cnp.img.isSome then s
  else if !s.slt.anchored || tapKey 46 s == [] then imgRefuse s
  else
    let h := imgHeader s
    let s := modCnp (fun n => { n with imgResult := 0, img := some { addr := n.imgAddr, slot := s.slt.slot, header := h } }) s
    queueJobAs false .imgExport 3 none { s with hostMem := mwrite 0 s.hostMem s.cnp.imgAddr.toNat h }

/-- Meaning of IMAGE_EXPORT. -/
def execImageExport (s : State) : Host.Outcome State Fault Refusal := act (pf1Do imgExport) s

/-- Meaning of IMAGE_PERIOD_EXPIRY (R283): nothing where IMAGE_PERIOD is 0. -/
def execImagePeriodExpiry (s : State) : Host.Outcome State Fault Refusal :=
  act (fun s => if (gcan s).imagePeriod = 0 then s else imgExport s) s

/-- IMAGE_EXPORT_DONE (R283, R284): once the ledger has admitted the export, the chunks, each sealed as its contexts stand at the end (log
entry 20). -/
def imageExportDoneS (s : State) : State :=
  match s.cnp.img with
  | none => s
  | some m =>
    if !s.nrg.admitted.any (fun j => j.act == .imgExport) then s
    else
    let k := tapKey 46 s
    let s := foldS (fun i s =>
      let iv := imgIv m.slot.toNat i
      let ct := gcmCrypt k iv (chunkPlain i s)
      { s with hostMem := mwrite 0 s.hostMem (m.addr.toNat + imgOff i) (ct ++ gcmTag k iv (imgAad m.header i) ct) })
      (List.range (imgChunks s)) s
    jobDone .imgExport <| modCnp (fun n => { n with img := none, st := if n.stopDue then 0 else n.st, stopDue := false }) s

/-- Meaning of IMAGE_EXPORT_DONE. -/
def execImageExportDone (s : State) : Host.Outcome State Fault Refusal := act imageExportDoneS s

/-- One chunk of an image to restore (R285). -/
def imgChunkIn (hdr : Bytes) (i : Nat) (s : State) : State :=
  let k := tapKey 46 s
  let b := mread 0 s.hostMem (s.cnp.imgAddr.toNat + imgOff i) 4112
  let iv := imgIv (fieldLe hdr 0x18 8) i
  let ct := b.take 4096
  if k = [] ∨ gcmTag k iv (imgAad hdr i) ct ≠ b.drop 4096 then modCnp (fun n => { n with badChunks := min 0x7FFF (n.badChunks + 1) }) s
  else
    let p := gcmCrypt k iv ct
    foldS (fun j s =>
      let n := 64 * i + j
      if n < (gcan s).idCount then setCtx n (ctxOf (slice p (64 * j) 64)) s else s) (List.range 64) s

/-- IMAGE_RESTORE (R285). -/
def imageRestoreS (s : State) : State :=
  if s.cnp.st ≠ 1 then s
  else
    let h := mread 0 s.hostMem s.cnp.imgAddr.toNat 64
    if slice h 8 16 ≠ padTo 16 s.fuses.fuseId ∨ fieldLe h 0x20 8 ≠ (gcan s).idBase ∨ fieldLe h 0x28 4 ≠ (gcan s).idCount
        ∨ fieldLe h 0x2C 4 ≠ imgChunks s then imgRefuse s
    else
      let s := modCnp (fun n => { n with badChunks := 0, imgResult := 0 }) s
      modCnp (fun n => { n with st := 2 }) (foldS (imgChunkIn h) (List.range (imgChunks s)) s)

/-- Meaning of IMAGE_RESTORE. -/
def execImageRestore (s : State) : Host.Outcome State Fault Refusal := act (pf1Do imageRestoreS) s

/-- WAIT_IMAGE ends without an image (R285). -/
def imageSkipS (s : State) : State := if s.cnp.st = 1 then modCnp (fun n => { n with st := 2 }) s else s

/-- Meaning of IMAGE_SKIP. -/
def execImageSkip (s : State) : Host.Outcome State Fault Refusal := act (pf1Do imageSkipS) s

/-- Meaning of IMAGE_WAIT_EXPIRY (R285). -/
def execImageWaitExpiry (s : State) : Host.Outcome State Fault Refusal := act (fun s => imageSkipS s) s

/-- A context with its restored ceiling (R268). -/
def ctxFloor (c : Nat) (x : Ctx) : Ctx :=
  let x := { x with ceiling := BitVec.ofNat 32 c }
  if x.lastFcnt.toNat < c then
    { x with lastFcnt := BitVec.ofNat 32 c, window := 0xFFFFFFFFFFFFFFFF, flags := x.flags ||| 2 }
  else x

/-- The member goes on without its buddy (R309). -/
def unmirror (s : State) : State :=
  let s := modGrv (fun g => { g with mirrors := [] }) s
  if s.cnp.unmirrored then s else emit .fault 0x3019 (srcLimb 0) [] (modCnp (fun n => { n with unmirrored := true }) s)

/-- RING_STORE_BUILD_DONE (R268, R311): every context takes its ceiling, the greater of the journal's and, in a grove, of the buddy's
mirror, and the lanes start. A member whose buddy has sent nothing within IMAGE_WAIT builds from its own journal and goes on UNMIRRORED; one whose range
is taken over, or still to be handed back, does not build it. -/
def ringStoreBuildDoneS (s : State) : State :=
  if s.cnp.st ≠ 2 ∨ ownServed s ∨ s.cnp.rangeHeld then s
  else
    let n := (gcan s).idCount
    let alone := inGrove s && !s.grv.ceilGot && decide (1 < groveSize s)
    if alone && decide (s.now < s.boot.installedAt + (gcan s).imageWait * psS) then s
    else
    let s := if alone then unmirror s else s
    let ceils := if inGrove s then s.grv.ceil.foldl (fun t e => tmod 0 t e.1 (max e.2)) s.kpf.ceilings else s.kpf.ceilings
    let low := s.cnp.ctx.foldl (fun t e => if e.1 < n then tset {} t e.1 { e.2 with ceiling := 0 } else tset {} t e.1 e.2) []
    let all := ceils.foldl (fun t e => if e.1 < n then tmod {} t e.1 (ctxFloor e.2) else t) low
    let s := modGrv (fun g => { g with ceil := [], ceilGot := false }) s
    modCnp (fun c => { c with st := 3, ctx := all }) s

/-- Meaning of RING_STORE_BUILD_DONE. -/
def execRingStoreBuildDone (s : State) : Host.Outcome State Fault Refusal := act ringStoreBuildDoneS s

/-! ### Context commands (R288) -/

/-- A context command (R288): it takes its turn in the order of the context's commits. -/
def ctxCommand (op : Nat) (tk : Bool) (i : Nat) (s : State) : State :=
  let n := (gcan s).idCount
  let ok := if tk then s.cnp.tkState != 0 && decide (i < s.cnp.tkCount) else decide (i < n)
  if !ok then modCnp (fun c => { c with result := 0x3008 }) s
  else
    beginOpens (modCnp (fun c => { c with
      result := 0, opens := c.opens ++ [{ ctx := if tk then n + i else i, mgmt := op }] }) s)

/-- Meaning of CTX_READ. -/
def execCtxRead (tk : Bool) (i : BitVec 22) (s : State) : Host.Outcome State Fault Refusal := act (pf1Do (ctxCommand 4 tk i.toNat)) s
/-- Meaning of CTX_BLOCK. -/
def execCtxBlock (tk : Bool) (i : BitVec 22) (s : State) : Host.Outcome State Fault Refusal := act (pf1Do (ctxCommand 1 tk i.toNat)) s
/-- Meaning of CTX_UNBLOCK. -/
def execCtxUnblock (tk : Bool) (i : BitVec 22) (s : State) : Host.Outcome State Fault Refusal := act (pf1Do (ctxCommand 2 tk i.toNat)) s
/-- Meaning of CTX_FORGET. -/
def execCtxForget (tk : Bool) (i : BitVec 22) (s : State) : Host.Outcome State Fault Refusal := act (pf1Do (ctxCommand 3 tk i.toNat)) s

end Sys2Proof.Machine
end

