-- ==== Sys2Proof/Machine/CanopyFault.lean ====
section
/-!
DEFINITION. Machine/CanopyFault.lean: lost context lines, leases without a buddy, takeover and hand-back of a range
(11_canopy_pressure_and_failure.md R306, R309-R312).
-/
namespace Sys2Proof.Machine

/-! ### Lost lines (R306) -/

/-- The greatest ceiling known for a context index (R238, R306): its own, and for a takeover index the mirrored one (R309). -/
def knownCeiling (i : Nat) (s : State) : Nat :=
  let n := (gcan s).idCount
  let own := tget 0 s.kpf.ceilings i
  if i < n then own else max own (tget 0 s.kpf.buddyCeil (i - n))

/-- CONTEXT_LINE_LOST (R306): counted, and entered in the rebuild table of 64. -/
def contextLineLostS (i ch : Nat) (mac : Bool) (s : State) : State :=
  let n := (gcan s).idCount + (if s.cnp.tkState = 0 then 0 else s.cnp.tkCount)
  if !canopyOn s || decide (n ≤ i) then s
  else
    let s := bump (cDram ch (if mac then 2 else 1)) s
    if ctxLost i s then s
    else if s.cnp.rebuild.length < 64 then modCnp (fun c => { c with rebuild := c.rebuild ++ [i] }) s
    else modCnp (fun c => { c with rebuildWait := c.rebuildWait ++ [i] }) s

/-- Meaning of CONTEXT_LINE_LOST. -/
def execContextLineLost (i : BitVec 22) (ch : Fin 4) (mac : Bool) (s : State) : Host.Outcome State Fault Refusal :=
  act (contextLineLostS i.toNat ch.val mac) s

/-- The context that a lost line is rewritten as. -/
def lostCtx (c : Nat) : Ctx :=
  { lastFcnt := BitVec.ofNat 32 c, ceiling := BitVec.ofNat 32 c, window := 0xFFFFFFFFFFFFFFFF, flags := 2, epoch := 0x8000, st := 4 }

/-- The loss of a sensor's line (R299-R301, R306); limb and RX_SLOT are those of an OPEN that waits for the context, else free. -/
def lineLoss (i : Nat) (s : State) : State :=
  let id := ctxSensor i s
  let e := (s.cnp.opens.find? (fun o => o.ctx == i && o.mgmt == 0)).bind (fun o => entryAt o.entry s)
  let f := drawFree s
  let limb := match e with | some e => e.limb | none => f.1.toNat % 4
  let rx := match e with | some e => e.rx | none => f.1
  let w := BitVec.ofNat 64 id
  lossAdd (channelOf (bucketOf id) s) (lostKey id) limb w w rx (dropNote 5 limb f.2)

/-- CONTEXT_REBUILD_DONE (R306): the line is written anew, the next waiting context enters the table, and the OPENs that waited
complete. -/
def contextRebuildDoneS (i : Nat) (s : State) : State :=
  if !s.cnp.rebuild.contains i then s
  else
    let s := setCtx i (lostCtx (knownCeiling i s)) s
    let n := (s.cnp.opens.filter (fun o => o.ctx == i && o.mgmt == 0)).length
    let s := orderLost 0x3015 (srcLimb 0) 1 n (emit .fault 0x3015 (srcLimb 0) [] (lineLoss i s))
    let s := modCnp (fun c => { c with
      rebuild := c.rebuild.filter (· != i) ++ c.rebuildWait.take 1, rebuildWait := c.rebuildWait.drop 1 }) s
    runHeld s

/-- Meaning of CONTEXT_REBUILD_DONE. -/
def execContextRebuildDone (i : BitVec 22) (s : State) : Host.Outcome State Fault Refusal := act (contextRebuildDoneS i.toNat) s

/-! ### Leases without a buddy (R309) -/

/-- BUDDY_ACK_TIMEOUT (R309): 10 ms after the first sending of a page the member goes on without its buddy. -/
def buddyAckTimeoutS (t : Nat) (s : State) : State :=
  let s := atTime t s
  if s.grv.mirrors.any (fun p => decide (p.first + 10 * psMs ≤ s.now)) then unmirror s else s

/-- Meaning of BUDDY_ACK_TIMEOUT. -/
def execBuddyAckTimeout (t : Nat) (s : State) : Host.Outcome State Fault Refusal := act (buddyAckTimeoutS t) s

/-! ### Takeover (R310) -/

/-- A member's range. -/
def memberRange (m : Nat) (s : State) : GMember := (groveMembers s).getD m {}

/-- TAKEOVER_START (R310): a buddy that has been ordered to holds the lost range's envelopes and builds its contexts. -/
def takeoverStartS (t : Nat) (s : State) : State :=
  let s := atTime t s
  match s.grv.tkOrder with
  | some m =>
    let s := modGrv (fun g => { g with tkOrder := none }) s
    if canopyOn s && inGrove s && buddyOf m s == memberNo s && m != memberNo s && s.cnp.tkState == 0 then
      let g := memberRange m s
      modCnp (fun c => { c with
        tkMember := m, tkState := 1, tkBase := BitVec.ofNat 64 g.idBase, tkCount := g.idCount })
        (modGrv (fun x => { x with served := tset 0 x.served m (memberNo s + 1) }) s)
    else s
  | none => s

/-- Meaning of TAKEOVER_START. -/
def execTakeoverStart (t : Nat) (s : State) : Host.Outcome State Fault Refusal := act (takeoverStartS t) s

/-- A takeover context built from its mirrored ceiling. -/
def takeoverCtx (c : Nat) : Ctx :=
  { lastFcnt := BitVec.ofNat 32 c, ceiling := BitVec.ofNat 32 c, window := 0xFFFFFFFFFFFFFFFF, flags := if 0 < c then 2 else 0,
    epoch := 0x8000, st := 0 }

/-- TAKEOVER_BUILD_DONE (R310): every context of the range is built, and its held envelopes are served. -/
def takeoverBuildDoneS (t : Nat) (s : State) : State :=
  let s := atTime t s
  if s.cnp.tkState ≠ 1 then s
  else
    let n := (gcan s).idCount
    let built := (List.range s.cnp.tkCount).map (fun k => (n + k, takeoverCtx (knownCeiling (n + k) s)))
    emit .fault 0x3017 (srcLimb 0) [] (modCnp (fun c => { c with tkState := 2, ctx := tfilter (fun i => decide (i < n)) c.ctx ++ built }) s)

/-- Meaning of TAKEOVER_BUILD_DONE. -/
def execTakeoverBuildDone (t : Nat) (s : State) : Host.Outcome State Fault Refusal := act (takeoverBuildDoneS t) s

/-! ### Hand-back (R312, 19 R504) -/

/-- The hand-back's slot edge (R312, R53): the buddy stops admitting the range, its own member holds it, and every member sends
the range's envelopes to that member again. -/
def handbackEdge (s : State) : State :=
  let g := s.grv
  if g.handbackAt = 0 ∨ s.slt.slot.toNat < g.handbackAt.toNat then s
  else
    let m := g.handMember
    let buddy := s.cnp.tkState == 2 && s.cnp.tkMember == m
    let own := inGrove s && memberNo s == m
    let s := modGrv (fun g => { g with
      handbackAt := 0, served := tset 0 g.served m 0, back := g.back.filter (· != m),
      handEdge := if buddy then s.now else g.handEdge }) s
    let s := if buddy then modCnp (fun c => { c with tkState := 3 }) s else s
    if own then modCnp (fun c => { c with rangeHeld := true }) s else s

/-- Entries of the range in hand-back that are still queued, dispatched or not. -/
def handbackQueued (s : State) : List Entry :=
  s.cnp.entries.filter (fun e =>
    decide (s.cnp.tkBase.toNat ≤ e.sensor.toNat ∧ e.sensor.toNat < s.cnp.tkBase.toNat + s.cnp.tkCount))

/-- One entry of the range dropped 1 s after the edge (R299 cause 6, R312). -/
def handbackDrop (e : Entry) (s : State) : State :=
  let lo := s.cnp.tkBase
  lossAdd (channelOf (bucketOf e.sensor.toNat) s) 6 e.limb lo (lo + BitVec.ofNat 64 (s.cnp.tkCount - 1)) e.rx
    (dropNote 6 e.limb (releaseEntry e.handle s))

/-- A list in groups of `n`. -/
def groupsOf {α : Type} (n : Nat) : Nat → List α → List (List α)
  | 0, _ => []
  | _, [] => []
  | k + 1, l => l.take n :: groupsOf n k (l.drop n)

/-- The contexts of the takeover range as they are sent (R312). -/
def handbackContexts (s : State) : List (BitVec 22 × Bytes) :=
  let n := (gcan s).idCount
  (List.range s.cnp.tkCount).map (fun k => (BitVec.ofNat 22 k, (ctxAt (n + k) s).bytes (ctxSensor (n + k) s)))

/-- Groups sent to a member one frame each, the last one marked. -/
def xferSend {α : Type} (m : Nat) (mk : List α → Bool → RingBody) : List (List α) → State → State
  | [], s => ringTo m (mk [] true) s
  | [g], s => ringTo m (mk g true) s
  | g :: t, s => xferSend m mk t (ringTo m (mk g false) s)

/-- HANDBACK_DRAIN_EXPIRY (R312): once no entry of the range is queued, and at the latest 1 s after the edge, the buddy drops what is
left, sends the contexts with their ceilings, and zeroes them; its mirror keeps the ceilings it held. -/
def handbackDrainExpiryS (t : Nat) (s : State) : State :=
  let s := atTime t s
  let q := handbackQueued s
  if s.cnp.tkState ≠ 3 ∨ (q ≠ [] ∧ s.now < s.grv.handEdge + psS) then s
  else
    let n := (gcan s).idCount
    let s := orderLost 0x3018 (srcLimb 0) 1 q.length (foldS handbackDrop q s)
    let l := handbackContexts s
    let s := xferSend s.cnp.tkMember .xferCtx (groupsOf 3 l.length l) s
    modCnp (fun c => { c with
      tkState := 0, tkMember := 0, tkBase := 0, tkCount := 0,
      ctx := tfilter (fun i => decide (i < n)) c.ctx }) s

/-- Meaning of HANDBACK_DRAIN_EXPIRY. -/
def execHandbackDrainExpiry (t : Nat) (s : State) : Host.Outcome State Fault Refusal := act (handbackDrainExpiryS t) s

/-- HANDBACK_TRANSFER_DONE (R312): the member takes the transferred contexts and ceilings and serves its range again. -/
def handbackTransferDoneS (t : Nat) (s : State) : State :=
  let s := atTime t s
  if !(s.cnp.rangeHeld && s.grv.xferGot) then s
  else
    let n := (gcan s).idCount
    let x := tfilter (fun i => decide (i < n)) s.grv.xfer
    let ceils := x.foldl (fun t e => tmod 0 t e.1 (max e.2.ceiling.toNat)) s.kpf.ceilings
    let s := modCnp (fun c => { c with
      st := 3, rangeHeld := false, ctx := x ++ tfilter (fun i => !decide (i < n)) c.ctx })
      { s with kpf := { s.kpf with ceilings := ceils } }
    emit .fault 0x3018 (srcLimb 0) [] (modGrv (fun g => { g with xfer := [], xferGot := false }) s)

/-- Meaning of HANDBACK_TRANSFER_DONE. -/
def execHandbackTransferDone (t : Nat) (s : State) : Host.Outcome State Fault Refusal := act (handbackTransferDoneS t) s

end Sys2Proof.Machine
end

