-- ==== Sys2Proof/Machine/Grove.lean ====
section
/-!
DEFINITION. Machine/Grove.lean: the grove ring (19_attestation_and_grove.md R493-R504): neighbours, time, heartbeats and loss,
mirrors, forwarded envelopes, the crown's Grain, transfers and relayed accesses.
-/
namespace Sys2Proof.Machine

/-- SOURCE of the grove ports. -/
def srcGrove : W16 := srcTree 12

/-! ### Ports (R493, R56) -/

/-- GROVE_PORT_UP. -/
def grovePortUpS (t : Nat) (east : Bool) (s : State) : State :=
  modGrv (fun g => if east then { g with east := true } else { g with west := true }) (atTime t s)

/-- Meaning of GROVE_PORT_UP. -/
def execGrovePortUp (t : Nat) (east : Bool) (s : State) : Host.Outcome State Fault Refusal := act (grovePortUpS t east) s

/-- GROVE_PORT_DOWN (R56): with both ports down a member leaves LOCKED for HOLDOVER. -/
def grovePortDownS (t : Nat) (east : Bool) (s : State) : State :=
  let s := modGrv (fun g =>
    if east then { g with east := false, misE := false, reqE := none } else { g with west := false, misW := false, reqW := none })
    (atTime t s)
  if onRing s && !s.grv.east && !s.grv.west && ownTime s == .locked then enterOwn .holdover s else s

/-- Meaning of GROVE_PORT_DOWN. -/
def execGrovePortDown (t : Nat) (east : Bool) (s : State) : Host.Outcome State Fault Refusal := act (grovePortDownS t east) s

/-- RING_FRAME_BAD (R493): a frame whose CRC fails is dropped and counted. -/
def ringFrameBadS (t : Nat) (east : Bool) (b : Bytes) (s : State) : State :=
  let s := atTime t s
  if portUp east s && !ringGood b then bump (cGrove 2) s else s

/-- Meaning of RING_FRAME_BAD. -/
def execRingFrameBad (t : Nat) (east : Bool) (b : Bytes) (s : State) : Host.Outcome State Fault Refusal := act (ringFrameBadS t east b) s

/-- ISOLATION_TIMEOUT (R497): 25 ms without a frame. -/
def isolationTimeoutS (t : Nat) (s : State) : State :=
  let s := atTime t s
  if inGrove s && !s.grv.isolated && decide (s.grv.heard + 25 * psMs ≤ s.now) then
    emit .fault 0x1033 srcGrove [] (modGrv (fun g => { g with isolated := true }) s)
  else s

/-- Meaning of ISOLATION_TIMEOUT. -/
def execIsolationTimeout (t : Nat) (s : State) : Host.Outcome State Fault Refusal := act (isolationTimeoutS t) s

/-! ### The crown's Grain (R495, R108) -/

/-- The running block of an offer as 256 frames of 256 bytes to every member. -/
def offerSend (o : Offer) (s : State) : State :=
  let b := (s.grv.grains.getD o.index (0, 0, [])).2.2.getD o.block []
  foldS (fun i s => ringBoth ringAll (.grainBlock (slice b (256 * i) 256)) s) (List.range 256) s

/-- An offer begins for some members, unless one runs. -/
def offerStart (i : Nat) (takers : List Nat) (s : State) : State :=
  if s.grv.offer.isSome || takers.isEmpty || decide (s.grv.grains.length ≤ i) then s
  else
    let g := s.grv.grains.getD i (0, 0, [])
    let o : Offer := { index := i, takers := takers }
    let s := ringBoth ringAll (.control (.offer (BitVec.ofNat 64 g.1) (BitVec.ofNat 64 g.2.1))) s
    offerSend o (modGrv (fun x => { x with offer := some o }) s)

/-- The first Grain of the crown's that follows an installed GRAIN_SEQ. -/
def offerFor (q : Nat) (s : State) : Option Nat := s.grv.grains.findIdx? (fun g => decide (q < g.2.1))

/-- After an installation the crown offers its Grain to every member. -/
def offerAll (s : State) : State :=
  if !isCrown s then s
  else
    let s := modGrv (fun g => { g with offer := none }) s
    offerStart (s.grv.grains.length - 1)
      (((List.range (groveSize s)).drop 1).filter (fun m => !s.grv.lost.contains m)) s

/-- The offer goes on once every member that takes it has acknowledged the block. -/
def offerNext (s : State) : State :=
  match s.grv.offer with
  | none => s
  | some o =>
    if o.takers.any (fun m => !o.acked.contains m) then s
    else
      let n := (s.grv.grains.getD o.index (0, 0, [])).2.2.length
      if o.takers.isEmpty || decide (n ≤ o.block + 1) then modGrv (fun g => { g with offer := none }) s
      else
        let o := { o with block := o.block + 1, acked := [] }
        offerSend o (modGrv (fun g => { g with offer := some o }) s)

/-- A member no longer takes the offer. -/
def offerDrop (m : Nat) (s : State) : State :=
  offerNext (modGrv (fun g => { g with offer := g.offer.map (fun o => { o with takers := o.takers.filter (· != m) }) }) s)

/-- A member takes an offer of the crown's (R108): a session of the ring. -/
def offerTake (base seq : Nat) (s : State) : State :=
  let q := grnInstalledSeq s
  let may := s.boot.pwrgood && !s.boot.stopped && (s.grn.installed || dramUp s) && !isCrown s && (s.boot.src == 2 || s.grn.installed)
  if may && (base == 0 || base == q) && decide (q < seq) && (!s.grn.push.isOpen || s.grn.push.source == 3) then
    setPush { s.grn.push.emptied with state := 1, iface := false, store := false, source := 3, result := 0 }
      (modGrv (fun g => { g with rx := [], rxCount := 0 }) s)
  else s

/-- A frame of a Grain block (R495): its place in the block is SEQ mod 256 (log entry 33). The whole block is posted and
acknowledged; one with a frame missing is asked for again. -/
def grainFrame (f : RingFrame) (d : Bytes) (s : State) : State :=
  let p := s.grn.push
  let open_ := p.isOpen && p.source == 3
  let i := f.seq.toNat % 256
  if !open_ then (if i = 255 ∧ s.boot.src = 2 then ringTo 0 (.control .leave) s else s)
  else
    let rx := tset [] (if i = 0 then [] else s.grv.rx) i (d.take 256)
    let n := if i = 0 then 1 else s.grv.rxCount + 1
    let s := modGrv (fun g => { g with rx := rx, rxCount := n }) s
    if i ≠ 255 then s
    else
      let k := p.nextPost
      let b := (rx.map (·.2)).flatten
      let fr := pushFrame p false k
      let s := modGrv (fun g => { g with rx := [], rxCount := 0 }) s
      if n == 256 && fr.posted.isNone then
        ringTo 0 (.control (.blockAck (BitVec.ofNat 12 k)))
          (setPush { setFrame p false k { fr with posted := some (k, b) } with nextPost := k + 1 } s)
      else ringTo 0 (.control (.blockAsk (BitVec.ofNat 12 k))) s

/-- GRAIN_BLOCK. -/
def ringGrainBlockS (t : Nat) (east : Bool) (f : RingFrame) (s : State) : State :=
  ringRx t east f 6 (fun s => match f.body with
    | .grainBlock d => if f.src = 0 ∧ !isCrown s then grainFrame f d s else s
    | _ => s) s

/-- Meaning of GRAIN_BLOCK. -/
def execRingGrainBlock (t : Nat) (east : Bool) (f : RingFrame) (s : State) : Host.Outcome State Fault Refusal :=
  act (ringGrainBlockS t east f) s

/-! ### HELLO (R494, R495, R503) -/

/-- The member that lies on a port. -/
def expected (east : Bool) (s : State) : Nat :=
  let n := max 1 (groveSize s)
  if east then (memberNo s + 1) % n else (memberNo s + n - 1) % n

/-- The neighbour on a port is or is not the expected member (R494). -/
def helloNeighbour (east : Bool) (id : Bytes) (s : State) : State :=
  if !inGrove s then s
  else
    let bad := padTo 16 id != padTo 16 (memberRange (expected east s) s).fuseId
    let was := if east then s.grv.misE else s.grv.misW
    let s := modGrv (fun g => if east then { g with misE := bad } else { g with misW := bad }) s
    if bad && !was then emit .fault 0x1030 srcGrove [] s else s

/-- The member watches another for loss: the crown every other member, member 1 the crown (R502). -/
def watches (m : Nat) (s : State) : Bool :=
  inGrove s && decide (m < groveSize s) && ((isCrown s && m != 0) || (memberNo s == 1 && m == 0))

/-- A lost member is heard again (R503): the west neighbour sends it its ceilings, and it learns who serves its range. -/
def memberBack (m : Nat) (s : State) : State :=
  let srv := tget 0 s.grv.served m
  let s := modGrv (fun g => { g with
    lost := g.lost.filter (· != m), withheld := g.withheld.filter (· != m),
    back := if srv = 0 then g.back else g.back.filter (· != m) ++ [m] }) s
  let s := ringBoth ringAll (.control (.back (Fin.ofNat 64 m))) (emit .info 0x1032 srcGrove (d1 m) s)
  if srv = 0 then s else ringTo m (.control (.serves (Fin.ofNat 64 m) (Fin.ofNat 64 (srv - 1)))) s

/-- What HELLO tells a watching member about another (R495, R503). -/
def helloMember (id : Bytes) (q : Nat) (s : State) : State :=
  match (groveMembers s).findIdx? (fun g => padTo 16 g.fuseId == padTo 16 id) with
  | none => s
  | some m =>
    let s := modGrv (fun g => { g with helloSeq := tset 0 g.helloSeq m q }) s
    let s := if watches m s && s.grv.lost.contains m && decide (grnInstalledSeq s ≤ q) then memberBack m s else s
    if isCrown s && m != 0 then
      match offerFor q s with
      | some i => offerStart i [m] s
      | none => s
    else s

/-- HELLO: it passes over a miswired port, and goes on round the ring as R495 and R503 have the crown hear every member
(log entry 33). A SEQ of 0 shows that its sender has restarted: its sequences start anew. -/
def ringHelloS (t : Nat) (east : Bool) (f : RingFrame) (s : State) : State :=
  let s := atTime t s
  match f.body with
  | .hello id q =>
    if !portUp east s || padTo 16 id == padTo 16 s.fuses.fuseId then s
    else
      let s := ringHeard east f s
      let s := if f.hops = 0 then helloNeighbour east id s else s
      if !portPasses east s then s
      else
        let s := if f.seq = 0 then
            modGrv (fun g => { g with seqIn := tfilter (fun k => k / 65536 != f.src.toNat) g.seqIn }) s else s
        helloMember id q.toNat (if ringGoesOn f s then ringForward east f s else s)
  | _ => s

/-- Meaning of HELLO. -/
def execRingHello (t : Nat) (east : Bool) (f : RingFrame) (s : State) : Host.Outcome State Fault Refusal := act (ringHelloS t east f) s

/-- HELLO_TIMER (R493): on each port that is up, whoever lies on it. -/
def helloTimerS (t : Nat) (s : State) : State :=
  let s := atTime t s
  if !s.boot.romRunning then s
  else
    let q := ringNew ringAll (.hello s.fuses.fuseId (BitVec.ofNat 64 (grnInstalledSeq s))) s
    whenB q.2.grv.west (ringOut false q.1) (whenB q.2.grv.east (ringOut true q.1) q.2)

/-- Meaning of HELLO_TIMER. -/
def execHelloTimer (t : Nat) (s : State) : Host.Outcome State Fault Refusal := act (helloTimerS t) s

/-! ### Time (R496, R56) -/

/-- SYNC_TIMER (R496): the crown's time in both directions. -/
def syncTimerS (t : Nat) (s : State) : State :=
  let s := atTime t s
  if !isCrown s then s
  else
    let x := taiPs s
    ringBoth ringAll (.sync (BitVec.ofNat 48 (x / psS)) (BitVec.ofNat 32 (x % psS / 1000)) 0 (Fin.ofNat 3 s.slt.st.num) s.slt.anchored) s

/-- Meaning of SYNC_TIMER. -/
def execSyncTimer (t : Nat) (s : State) : Host.Outcome State Fault Refusal := act (syncTimerS t) s

/-- A time state by its number. -/
def timeStateOf (n : Nat) : TimeState := if n = 0 then .locked else if n = 1 then .holdover else .adrift

/-- A SYNC acts on a member (R50, R55, R56): the crown's state, and, once the crown is ANCHORED, its TAI of now: sending time plus CORR,
which holds every residence and hop delay. The first sets the phase; a later one is measured against the member's own TAI, and
corrects phase and rate. -/
def syncUse (sec ns corr st : Nat) (anchored : Bool) (s : State) : State :=
  if !onRing s then s
  else
    let c := timeStateOf st
    let s := enterTime (s.slt.ringSt.worse c) { s with slt := { s.slt with crownState := c } }
    let tai := sec * psS + ns * 1000 + corr
    if !anchored then s
    else if !s.slt.timed then acceptTime tai s.now s
    else measured (((taiPs s : Int) - tai) / 1000) s

/-- SYNC (R496): CORR grows by the delay of the hop on which the frame arrived and, where it goes on, by its residence; of the two
directions the one with fewer hops is used. -/
def ringSyncS (t : Nat) (east : Bool) (f : RingFrame) (res : Nat) (s : State) : State :=
  let s := atTime t s
  match f.body with
  | .sync sec ns corr st anchored =>
    if !portUp east s then s
    else
      let s := ringHeard east f s
      if !portPasses east s || isCrown s then s
      else
        let c := corr + BitVec.ofNat 64 (if east then s.grv.hopE else s.grv.hopW)
        let s := if ringGoesOn f s then
            ringForward east { f with body := .sync sec ns (c + BitVec.ofNat 64 res) st anchored } s else s
        let q := f.seq.toNat
        let d : Nat := match s.grv.syncSeq with | none => 1 | some l => (q + 65536 - l) % 65536
        if 32768 ≤ d ∨ (d = 0 ∧ s.grv.syncHops ≤ f.hops.toNat) then s
        else
          syncUse sec.toNat ns.toNat c.toNat st.val anchored
            (modGrv (fun g => { g with syncSeq := some q, syncHops := f.hops.toNat }) s)
  | _ => s

/-- Meaning of SYNC. -/
def execRingSync (t : Nat) (east : Bool) (f : RingFrame) (res : Nat) (s : State) : Host.Outcome State Fault Refusal :=
  act (ringSyncS t east f res) s

/-- A DELAY_REQ out of one port. -/
def delayAsk (east : Bool) (s : State) : State :=
  if !portPasses east s then s
  else
    let q := ringNew (expected east s) .delayReq s
    ringOut east q.1 (modGrv (fun g => if east then { g with reqE := some s.now } else { g with reqW := some s.now }) q.2)

/-- DELAY_TIMER (R496). -/
def delayTimerS (t : Nat) (s : State) : State :=
  let s := atTime t s
  if inGrove s then delayAsk false (delayAsk true s) else s

/-- Meaning of DELAY_TIMER. -/
def execDelayTimer (t : Nat) (s : State) : Host.Outcome State Fault Refusal := act (delayTimerS t) s

/-- DELAY_REQ (R496): answered on the port on which it arrived. -/
def ringDelayReqS (t : Nat) (east : Bool) (f : RingFrame) (s : State) : State :=
  ringRx t east f 3 (fun s =>
    let q := ringNew f.src.toNat (.delayResp 0) s
    ringOut east q.1 q.2) s

/-- Meaning of DELAY_REQ. -/
def execRingDelayReq (t : Nat) (east : Bool) (f : RingFrame) (s : State) : Host.Outcome State Fault Refusal :=
  act (ringDelayReqS t east f) s

/-- DELAY_RESP (R496): half of the round trip without the time for which the answer was held. -/
def ringDelayRespS (t : Nat) (east : Bool) (f : RingFrame) (s : State) : State :=
  ringRx t east f 4 (fun s => match f.body, (if east then s.grv.reqE else s.grv.reqW) with
    | .delayResp h, some r =>
      let d := (s.now - r - h) / 2
      modGrv (fun g => if east then { g with hopE := d, reqE := none } else { g with hopW := d, reqW := none }) s
    | _, _ => s) s

/-- Meaning of DELAY_RESP. -/
def execRingDelayResp (t : Nat) (east : Bool) (f : RingFrame) (s : State) : Host.Outcome State Fault Refusal :=
  act (ringDelayRespS t east f) s

/-! ### Heartbeats and loss (R502) -/

/-- HEARTBEAT_TIMER (R493): to the crown; the crown's own goes to member 1, which watches it (R502). -/
def heartbeatTimerS (t : Nat) (s : State) : State :=
  let s := atTime t s
  if !inGrove s || decide (groveSize s ≤ 1) then s
  else ringBoth (if isCrown s then 1 else 0) (.heartbeat s.cnp.unmirrored (BitVec.ofNat 64 s.kpf.seq)) s

/-- Meaning of HEARTBEAT_TIMER. -/
def execHeartbeatTimer (t : Nat) (s : State) : Host.Outcome State Fault Refusal := act (heartbeatTimerS t) s

/-- HEARTBEAT (R502). -/
def ringHeartbeatS (t : Nat) (east : Bool) (f : RingFrame) (s : State) : State :=
  ringRx t east f 5 (fun s => match f.body with
    | .heartbeat u q =>
      let m := f.src.toNat
      modGrv (fun g => { g with
        beat := tset 0 g.beat m (s.now + 1), beatSeq := tset 0 g.beatSeq m q.toNat
        beatUnmirrored := g.beatUnmirrored.filter (· != m) ++ (if u then [m] else []) }) s
    | _ => s) s

/-- Meaning of HEARTBEAT. -/
def execRingHeartbeat (t : Nat) (east : Bool) (f : RingFrame) (s : State) : Host.Outcome State Fault Refusal :=
  act (ringHeartbeatS t east f) s

/-- GRV_PRESENT: heartbeat heard in the last 50 ms. -/
def grvPresent (s : State) : Nat :=
  ((List.range 64).filter (fun m => tget 0 s.grv.beat m != 0 && decide (s.now < tget 0 s.grv.beat m + 50 * psMs))).foldl
    (fun n m => n + 2 ^ m) 0

/-- A lost member's range goes to its buddy (R502, R310), and every member learns of it (R499). -/
def takeoverOrder (m : Nat) (s : State) : State :=
  let b := buddyOf m s
  let s := if b = memberNo s then modGrv (fun g => { g with tkOrder := some m }) s
    else ringTo b (.control (.takeover (Fin.ofNat 64 m))) s
  ringBoth ringAll (.control (.serves (Fin.ofNat 64 m) (Fin.ofNat 64 b))) (modGrv (fun g => { g with served := tset 0 g.served m (b + 1) }) s)

/-- MEMBER_LOSS_TIMEOUT (R502): 50 ms without a heartbeat, counted from installation for a member never heard. -/
def memberLossTimeoutS (t m : Nat) (s : State) : State :=
  let s := atTime t s
  let b := tget 0 s.grv.beat m
  let last := max (b - 1) s.boot.installedAt
  if !watches m s || s.grv.isolated || s.grv.lost.contains m || decide (s.now < last + 50 * psMs) then s
  else
    let s := offerDrop m (modGrv (fun g => { g with lost := g.lost ++ [m] }) s)
    if s.grv.beatUnmirrored.contains m then
      emit .fault 0x1034 srcGrove (d1 m) (modGrv (fun g => { g with withheld := g.withheld ++ [m] }) s)
    else takeoverOrder m (emit .fault 0x1031 srcGrove (d1 m) s)

/-- Meaning of MEMBER_LOSS_TIMEOUT. -/
def execMemberLossTimeout (t : Nat) (m : Fin 64) (s : State) : Host.Outcome State Fault Refusal :=
  act (memberLossTimeoutS t m.val) s

/-- FORCE_TAKEOVER (R502): of a lost member withheld. -/
def forceTakeoverS (m : Nat) (s : State) : State :=
  if s.grv.withheld.contains m then
    takeoverOrder m (modGrv (fun g => { g with withheld := g.withheld.filter (· != m) }) s)
  else s

/-- Meaning of FORCE_TAKEOVER. -/
def execForceTakeover (m : Fin 64) (s : State) : Host.Outcome State Fault Refusal := act (pf1Do (forceTakeoverS m.val)) s

/-- HANDBACK_AT_WRITE (R504): the crown arms a hand-back of the first member that is back, or refuses. -/
def handbackAtWriteS (v : W64) (s : State) : State :=
  match s.grv.back with
  | m :: _ =>
    if isCrown s && s.grv.handbackAt == 0 && decide (s.slt.slot.toNat < v.toNat) then
      ringBoth ringAll (.control (.handback (Fin.ofNat 64 m) v)) (modGrv (fun g => { g with handbackAt := v, handMember := m }) s)
    else emit .secure 0x1036 srcGrove [] s
  | [] => emit .secure 0x1036 srcGrove [] s

/-- Meaning of HANDBACK_AT_WRITE. -/
def execHandbackAtWrite (v : BitVec 64) (s : State) : Host.Outcome State Fault Refusal := act (pf1Do (handbackAtWriteS v)) s

/-! ### Mirrors (R501) -/

/-- MIRROR_RESEND_TIMER (R501): pages unacknowledged for 2 ms, up to four times. -/
def mirrorResendTimerS (t : Nat) (s : State) : State :=
  let s := atTime t s
  let due := fun (p : MirrorPage) => decide (p.last + 2 * psMs ≤ s.now) && decide (p.sent ≤ 4)
  let b := buddyOf (memberNo s) s
  let s' := foldS (fun (p : MirrorPage) s => bump (cGrove 5)
      (ringTo b (.leaseMirror (p.entries.map (fun e => (BitVec.ofNat 22 e.1, BitVec.ofNat 32 e.2)))) s)) (s.grv.mirrors.filter due) s
  modGrv (fun g => { g with
    mirrors := g.mirrors.map (fun p => if due p then { p with last := s.now, sent := p.sent + 1 } else p) }) s'

/-- Meaning of MIRROR_RESEND_TIMER. -/
def execMirrorResendTimer (t : Nat) (s : State) : Host.Outcome State Fault Refusal := act (mirrorResendTimerS t) s

/-- LEASE_MIRROR (R501): the buddy journals the entries; one that serves a takeover mirrors no one (R503). -/
def ringLeaseMirrorS (t : Nat) (east : Bool) (f : RingFrame) (s : State) : State :=
  ringRx t east f 7 (fun s => match f.body with
    | .leaseMirror l =>
      if buddyOf f.src.toNat s = memberNo s ∧ s.cnp.tkState = 0 then
        foldS (fun (e : BitVec 22 × BitVec 32) s => journalAct (.buddy f.src.toNat e.1.toNat e.2.toNat) s) l s
      else s
    | _ => s) s

/-- Meaning of LEASE_MIRROR. -/
def execRingLeaseMirror (t : Nat) (east : Bool) (f : RingFrame) (s : State) : Host.Outcome State Fault Refusal :=
  act (ringLeaseMirrorS t east f) s

/-- LEASE_ACK (R501): the buddy has journalled these entries. -/
def ringLeaseAckS (t : Nat) (east : Bool) (f : RingFrame) (s : State) : State :=
  ringRx t east f 8 (fun s => match f.body with
    | .leaseAck l =>
      if f.src.toNat ≠ buddyOf (memberNo s) s then s
      else
        let done := l.map (fun e => (e.1.toNat, e.2.toNat))
        modGrv (fun g => { g with
          mirrors := (g.mirrors.map (fun p => { p with entries := p.entries.filter (fun e => !done.contains e) })).filter
            (fun p => !p.entries.isEmpty) }) s
    | _ => s) s

/-- Meaning of LEASE_ACK. -/
def execRingLeaseAck (t : Nat) (east : Bool) (f : RingFrame) (s : State) : Host.Outcome State Fault Refusal :=
  act (ringLeaseAckS t east f) s

/-! ### Forwarded envelopes (R499) -/

/-- FORWARD: the envelope is admitted as if it had arrived on a port of its limb; which one, and so where its downlink leaves, is
free (log entry 21). -/
def ringForwardS (t : Nat) (east : Bool) (f : RingFrame) (s : State) : State :=
  ringRx t east f 9 (fun s => match f.body with
    | .forward limb env =>
      if !canopyOn s then s
      else
        let d := drawFree s
        let n := d.1.toNat
        intakeArrive (entryOf (4 * limb.val + n % 4) (n / 4 % 4) (n / 16 % 256) env) (bump (cLimb limb.val 5) d.2)
    | _ => s) s

/-- Meaning of FORWARD. -/
def execRingForward (t : Nat) (east : Bool) (f : RingFrame) (s : State) : Host.Outcome State Fault Refusal :=
  act (ringForwardS t east f) s

/-! ### CONTROL and XFER (R495, R502-R504, 11 R311, R312) -/

/-- Ceilings as they are sent. -/
def ceilList (t : Tab Nat) : List (BitVec 22 × BitVec 32) := t.map (fun e => (BitVec.ofNat 22 e.1, BitVec.ofNat 32 e.2))

/-- Ceilings sent to a member. -/
def ceilSend (m : Nat) (own : Bool) (t : Tab Nat) (s : State) : State :=
  xferSend m (.xferCeil own) (groupsOf 32 t.length (ceilList t)) s

/-- What a CONTROL frame does. -/
def controlDo (src : Nat) (c : RingCtl) (s : State) : State :=
  match c with
  | .takeover m => if buddyOf m.val s = memberNo s then modGrv (fun g => { g with tkOrder := some m.val }) s else s
  | .serves m b => modGrv (fun g => { g with served := tset 0 g.served m.val (if m = b then 0 else b.val + 1) }) s
  | .back m =>
    if inGrove s && buddyOf (memberNo s) s == m.val && m.val != memberNo s then
      ceilSend m.val false (tfilter (fun i => decide (i < (gcan s).idCount)) s.kpf.ceilings) s
    else s
  | .mirrorReady =>
    if src = buddyOf (memberNo s) s then modCnp (fun n => { n with unmirrored := false }) s else s
  | .ceilAsk =>
    if buddyOf src s = memberNo s then
      let n := (gcan s).idCount
      let held := (tfilter (fun i => decide (n ≤ i)) s.kpf.ceilings).foldl (fun t e => tmod 0 t (e.1 - n) (max e.2)) s.kpf.buddyCeil
      ceilSend src true held s
    else s
  | .handback m slot => if src = 0 then modGrv (fun g => { g with handbackAt := slot, handMember := m.val }) s else s
  | .offer base seq => if src = 0 then offerTake base.toNat seq.toNat s else s
  | .blockAck k =>
    offerNext (modGrv (fun g => { g with offer := g.offer.map (fun o =>
      if o.block = k.toNat ∧ !o.acked.contains src then { o with acked := o.acked ++ [src] } else o) }) s)
  | .blockAsk k =>
    (match s.grv.offer with
     | some o => if o.block = k.toNat then offerSend o s else s
     | none => s)
  | .leave => offerDrop src s

/-- CONTROL. -/
def ringControlS (t : Nat) (east : Bool) (f : RingFrame) (s : State) : State :=
  ringRx t east f 10 (fun s => match f.body with
    | .control c => controlDo f.src.toNat c s
    | _ => s) s

/-- Meaning of CONTROL. -/
def execRingControl (t : Nat) (east : Bool) (f : RingFrame) (s : State) : Host.Outcome State Fault Refusal :=
  act (ringControlS t east f) s

/-- Ceilings received: of the own range before a build (R311), or of the west neighbour to be mirrored, whose end starts a
checkpoint (R503). -/
def ceilTake (own : Bool) (l : List (BitVec 22 × BitVec 32)) (last : Bool) (s : State) : State :=
  let put := fun (t : Tab Nat) => l.foldl (fun t e => tmod 0 t e.1.toNat (max e.2.toNat)) t
  if own then modGrv (fun g => { g with ceil := put g.ceil, ceilGot := g.ceilGot || last }) s
  else
    let s : State := { s with kpf := { s.kpf with buddyCeil := put s.kpf.buddyCeil } }
    if last then ckptStart (modGrv (fun g => { g with fill := some (journalSeq s) }) { s with kpf := { s.kpf with ckpt := none } }) else s

/-- Contexts received in a hand-back (R312). -/
def ctxTake (l : List (BitVec 22 × Bytes)) (last : Bool) (s : State) : State :=
  modGrv (fun g => { g with
    xfer := l.foldl (fun t e => tset {} t e.1.toNat (ctxOf e.2)) g.xfer, xferGot := g.xferGot || last }) s

/-- XFER. -/
def ringXferS (t : Nat) (east : Bool) (f : RingFrame) (s : State) : State :=
  ringRx t east f 11 (fun s => match f.body with
    | .xferCeil own l last =>
      if own then (if f.src.toNat = buddyOf (memberNo s) s then ceilTake true l last s else s)
      else if buddyOf f.src.toNat s = memberNo s then ceilTake false l last s else s
    | .xferCtx l last => if s.cnp.rangeHeld then ctxTake l last s else s
    | _ => s) s

/-- Meaning of XFER. -/
def execRingXfer (t : Nat) (east : Bool) (f : RingFrame) (s : State) : Host.Outcome State Fault Refusal := act (ringXferS t east f) s

/-! ### Relayed register accesses (R500): the crown's side -/

/-- GRV_RELAY_ACCESS: one REG_REQ to the member and address that GRV_RELAY_SEL names. On a device other than the crown the window has
no register behind it (00 R13). -/
def grvRelayAccessS (t off : Nat) (wide : Bool) (w : Option W64) (s : State) : State :=
  let s := atTime t s
  if !isCrown s then (if w.isSome then s else emitOut (.value 0) s)
  else
    let m := s.grv.relaySel.toNat / 2 ^ 26
    let a := BitVec.ofNat 32 (s.grv.relaySel.toNat % 65536 * 65536 + off)
    let s := ringTo m (.regReq a wide w) s
    modGrv (fun g => { g with relays := g.relays ++ [{ member := m, since := s.now, write := w.isSome }] }) s

/-- Meaning of GRV_RELAY_ACCESS. -/
def execGrvRelayAccess (t : Nat) (off : BitVec 16) (wide : Bool) (w : Option (BitVec 64)) (s : State) :
    Host.Outcome State Fault Refusal :=
  act (pf1Do (grvRelayAccessS t off.toNat wide w)) s

/-- REG_RESP: the oldest access to its sender completes. -/
def ringRegRespS (t : Nat) (east : Bool) (f : RingFrame) (s : State) : State :=
  ringRx t east f 15 (fun s => match f.body with
    | .regResp v =>
      let mine := fun (r : Relay) => r.member == f.src.toNat
      (match s.grv.relays.find? mine with
       | some r =>
         let rest := s.grv.relays.takeWhile (fun x => !mine x) ++ (s.grv.relays.dropWhile (fun x => !mine x)).drop 1
         let s := modGrv (fun g => { g with relays := rest }) s
         if r.write then s else emitOut (.value v) s
       | none => s)
    | _ => s) s

/-- Meaning of REG_RESP. -/
def execRingRegResp (t : Nat) (east : Bool) (f : RingFrame) (s : State) : Host.Outcome State Fault Refusal :=
  act (ringRegRespS t east f) s

/-- RELAY_TIMEOUT: accesses unanswered for 100 µs; a read returns zero, a write is lost. -/
def relayTimeoutS (t : Nat) (s : State) : State :=
  let s := atTime t s
  let late := fun (r : Relay) => decide (r.since + 100 * psUs ≤ s.now)
  let l := s.grv.relays.filter late
  let s := modGrv (fun g => { g with
    relays := g.relays.filter (fun r => !late r), relayTimeout := g.relayTimeout || !l.isEmpty }) s
  foldS (fun (r : Relay) s => (fun s => if r.write then s else emitOut (.value 0) s) (bump (cGrove 3) s)) l s

/-- Meaning of RELAY_TIMEOUT. -/
def execRelayTimeout (t : Nat) (s : State) : Host.Outcome State Fault Refusal := act (relayTimeoutS t) s

end Sys2Proof.Machine
end

