-- ==== Sys2Proof/Machine/Attest.lean ====
section
/-!
DEFINITION. Machine/Attest.lean: identity, measurement blocks and evidence reports (19_attestation_and_grove.md R481-R492).
-/
namespace Sys2Proof.Machine

/-- Change the ATT block. -/
def modAtt (f : Att → Att) (s : State) : State := { s with att := f s.att }

/-! ### Identity (R481-R484) -/

/-- The device has a DEVID seed (R484). -/
def hasDevid (s : State) : Bool := tapKey 3 s != []

/-- GRAIN_MEAS (R485). -/
def grainMeas (s : State) : Bytes := padTo 48 s.grn.meas

/-- GRAIN_MEAS ‖ SVN ‖ LCS in wire order (R481). -/
def aliasContext (s : State) : Bytes :=
  grainMeas s ++ beBytes 2 (if s.grn.installed then s.grn.grain.svn else 0) ++ beBytes 1 s.boot.lcs.num

/-- The P-384 private scalar of a layer: candidate 0 of the seed, then the retries (R481). -/
def attScalarFrom (devid : Bytes) (label : String) (ctx : Bytes) : Nat → Nat → Bytes → Nat
  | 0, _, _ => 1
  | f + 1, k, c =>
    let n := beNat c
    if n + 1 < curveP384.n then n + 1
    else attScalarFrom devid label ctx f (k + 1) (kdfH devid (label ++ "-RETRY") (ctx ++ beBytes 1 (k + 1)) 384)

/-- A layer's keys: the P-384 scalar and the ML-DSA-87 seed. -/
structure AttKeys where
  d : Nat
  xi : Bytes

/-- The keys of a layer (R481). -/
def attKeys (label : String) (ctx : Bytes) (s : State) : AttKeys :=
  let devid := tapKey 3 s
  let seed := kdfH devid label ctx 640
  { d := attScalarFrom devid label ctx 255 0 (seed.take 48), xi := seed.drop 48 }

/-- The DeviceID keys. -/
def deviceKeys (s : State) : AttKeys := attKeys "ATT-DEVID-KEY" [] s
/-- The Alias keys. -/
def aliasKeys (s : State) : AttKeys := attKeys "ATT-ALIAS" (aliasContext s) s

/-- The P-384 public point, uncompressed. -/
def attPoint (k : AttKeys) : Bytes :=
  match ecMul curveP384 k.d curveP384.g with
  | some (x, y) => [4] ++ beBytes 48 x ++ beBytes 48 y
  | none => []

/-- ALG, LEN, value and zeros to a multiple of 4 (13 R348). -/
def sigEntry (alg : Nat) (v : Bytes) : Bytes :=
  let b := leBytes 2 alg ++ leBytes 2 v.length ++ v
  padTo ((b.length + 3) / 4 * 4) b

/-- The key block of a layer (13 R348). -/
def attKeyBlock (k : AttKeys) : Bytes := sigEntry 1 (attPoint k) ++ sigEntry 2 (dsaKeyGen dsa87 k.xi).pk

/-- Bough whose Burl engine signs for the Taproot (03 R73, 15 R420): the helper bough, else the first running one, else the first frozen
one, among those whose engine stands. -/
def attBough (s : State) : Nat :=
  let ok := fun (b : Nat) => !(tget {} s.brl.eng b).fenced
  let h := s.boot.helper.getD 0
  if boughRuns h s && ok h then h
  else
    let l := (List.range 12).filter ok
    (l.find? (fun b => boughRuns b s)).getD ((l.find? (fun b => (boughNrg b s).power == .frozen)).getD h)

/-- DRBG instance that this engine draws from (06 R150). -/
def attDrbg (s : State) : Nat := limbOfBough (attBough s)

/-- An ECDSA P-384 signature r ‖ s by the Burl engine; where its generator is starved the whole request waits or ends (06 R152). -/
def attSign (k : AttKeys) (m : Bytes) (s : State) : Bytes × State :=
  match brlSign (attDrbg s) curveP384 k.d (sha384 m) 64 s with
  | some (r, s) => (beBytes 48 r.1 ++ beBytes 48 r.2, s)
  | none => ([], starved s)

/-- An ML-DSA-87 signature by the Burl engine, likewise. -/
def attSignPq (k : AttKeys) (m : Bytes) (s : State) : Bytes × State :=
  match brlRand (attDrbg s) 4 32 s with
  | some (rnd, s) => ((dsaSign dsa87 (dsaKeyGen dsa87 k.xi) 128 (dsaMsg [] m) rnd).getD [], s)
  | none => ([], starved s)

/-- A SIGNED structure of a layer's key block over a message (13 R348). -/
def attSigned (k : AttKeys) (m : Bytes) (s : State) : Bytes × State :=
  let kb := attKeyBlock k
  let a := attSign k m s
  let b := attSignPq k m a.2
  (ascii "SIG1" ++ [2, 0] ++ leBytes 2 kb.length ++ kb ++ sigEntry 1 a.1 ++ sigEntry 2 b.1, b.2)

/-- The endorsement of the Alias key block (R483). -/
def attEndorse (s : State) : Bytes × State :=
  attSigned (deviceKeys s) (ascii "ATT-ENDORSE" ++ padTo 16 s.fuses.fuseId ++ aliasContext s ++ sha384 (attKeyBlock (aliasKeys s))) s

/-- The two certificates of slot 0, DER (R482, R488). -/
def attCerts (s : State) : Bytes × Bytes :=
  let id := padTo 16 s.fuses.fuseId
  let dp := attPoint (deviceKeys s)
  (Config.deviceCert id dp,
   Config.aliasCert id dp (attPoint (aliasKeys s)) (grainMeas s) (if s.grn.installed then s.grn.grain.svn else 0))

/-! ### Measurement blocks (R486) -/

/-- One block in the SPDM measurement block format (DSP0274; PRESUMED, log entry 35). -/
def measBlock (i typ : Nat) (v : Bytes) : Bytes :=
  beBytes 1 i ++ [1] ++ leBytes 2 (v.length + 3) ++ beBytes 1 typ ++ leBytes 2 v.length ++ v

/-- 48 zero bytes. -/
def zeros48 : Bytes := List.replicate 48 0

/-- The fused owner keys as a mask. -/
def ownerKeyMask (s : State) : Nat :=
  ((s.fuses.ownerKeys.zipIdx).filter (fun e => e.1 != [])).foldl (fun n e => n + 2 ^ e.2) 0

/-- KPF_STAT [5:0]. -/
def kpfLow (s : State) : Nat :=
  b2n (decide (4096 ≤ s.fuses.anchor)) * 32 + b2n s.kpf.ckpt.isSome * 16 + b2n s.kpf.keylessRead * 8 + b2n s.kpf.formatted * 4
    + (mirOut s).toNat

/-- CNP_TAKEOVER. -/
def cnpTakeover (s : State) : Nat := s.cnp.tkMember * 256 + s.cnp.tkState

/-- Boughs that are fenced. -/
def fencedBoughs (s : State) : Nat :=
  ((List.range 12).filter (fun b => (boughNrg b s).power == .fenced)).foldl (fun n b => n + 2 ^ b) 0

/-- Public halves of the TIK (R486): ML-KEM-1024 ek ‖ P-384 point; empty without keys. -/
def tikPublic (s : State) : Bytes :=
  let tik := tikSeed s
  if tik = [] then []
  else (kemKeyGen kem1024 (tik.take 32) (slice tik 32 32)).1 ++ attPoint { d := tikScalar tik, xi := [] }

/-- BRL_CURVES.LOADED. -/
def curveMask (s : State) : Nat := s.brl.curves.foldl (fun n e => n + 2 ^ e.1) 7

/-- A domain's custody block. -/
def measCustody (d : Nat) (m : CusMeas) (s : State) : Bytes :=
  let v := padTo 48 m.hdr ++ leBytes 8 m.seq ++ leBytes 4 m.svn ++ leBytes 4 (tget 0 s.kpf.floors d) ++ leBytes 1 m.src
    ++ leBytes 1 (b2n m.sealed_) ++ leBytes 6 0
    ++ (List.range 8).flatMap (fun i =>
      let r := m.regions.filter (fun r => r.1 == i)
      if r.isEmpty then zeros48 else sha384 (r.flatMap (·.2)))
  measBlock (0x10 + d) 0x81 v

/-- The blocks present, in index order, each with its index (R486); places of bits inside a raw value that the rule does not give are
those of the registers named (log entry 35). -/
def measBlocks (s : State) : List (Nat × Bytes) :=
  let g := s.grn
  let svn := if g.installed then g.grain.svn else 0
  let am := if g.installed && g.grain.amendments != [] then sha384 g.grain.amendments else zeros48
  let clear := (s.vault.slots.filter (fun e => e.2.clear)).length
  let curves := (s.brl.curves.map (fun e => sha384 e.2)).flatten
  let tik := tikPublic s
  let fixed := [
    (1, measBlock 1 0x00 Config.romDigest), (2, measBlock 2 0x01 am), (3, measBlock 3 0x03 (grainMeas s)),
    (4, measBlock 4 0x87 (leBytes 2 svn ++ leBytes 2 s.fuses.svn ++ leBytes 2 s.fuses.anchor ++ leBytes 2 0
      ++ leBytes 8 (grnInstalledSeq s) ++ leBytes 1 g.partials ++ leBytes 7 0)),
    (5, measBlock 5 0x82 (leBytes 1 s.boot.lcs.num ++ leBytes 1 (b2n s.lcy.completed * 8 + b2n s.lcy.invalid * 4)
      ++ leBytes 1 (ownerKeyMask s) ++ leBytes 1 (b2n s.fuses.bootSet) ++ leBytes 4 s.lcy.grantScope.toNat
      ++ leBytes 2 s.lcy.grantBoughs.toNat ++ leBytes 6 0)),
    (6, measBlock 6 0x82 (leBytes 2 s.fuses.evidence ++ leBytes 1 (s.tmp.first.getD 0) ++ leBytes 1 (b2n s.tmp.erased)
      ++ leBytes 1 (b2n s.boot.keyless) ++ leBytes 1 0 ++ leBytes 2 s.tmp.incident.toNat ++ leBytes 2 s.fuses.tamperOff.toNat
      ++ leBytes 6 0)),
    (7, measBlock 7 0x82 (leBytes 2 clear ++ leBytes 2 (curveMask s) ++ leBytes 4 0
      ++ (if tik = [] then zeros48 else sha384 tik) ++ curves)),
    (8, measBlock 8 0x82 (leBytes 1 (s.slt.st.num + 32 * b2n s.slt.anchored) ++ leBytes 1 s.cnp.st ++ leBytes 4 (cnpTakeover s)
      ++ leBytes 1 (b2n s.cnp.unmirrored) ++ leBytes 1 (kpfLow s) ++ leBytes 1 (b2n s.cus.weaker) ++ leBytes 2 (fencedBoughs s)
      ++ leBytes 5 0))]
  fixed ++ (List.range 32).filterMap (fun d => (cdom d s).meas.map (fun m => (0x10 + d, measCustody d m s)))

/-! ### Reports (R491, R492) -/

/-- Zeros up to a multiple of 4. -/
def align4 (b : Bytes) : Bytes := padTo ((b.length + 3) / 4 * 4) b

/-- The member's own report and whether it was built without keys (R491). -/
def memberReport (nonce : Bytes) (chain : Bool) (s : State) : (Bytes × Bool) × State :=
  let keyless := !hasDevid s
  let blocks := (measBlocks s).flatMap (·.2)
  let certs := if chain && !keyless then (attCerts s).1 ++ (attCerts s).2 else []
  let head := ascii "ATR1" ++ leBytes 2 1 ++ leBytes 1 (memberNo s) ++ leBytes 1 (b2n keyless + 2 * b2n (chain && !keyless))
    ++ padTo 16 s.fuses.fuseId ++ padTo 32 nonce ++ leBytes 8 s.slt.slot.toNat ++ leBytes 4 blocks.length ++ leBytes 4 certs.length
  let body := head ++ blocks ++ certs
  if keyless then ((body, true), s)
  else
    let e := attEndorse s
    let b := align4 (align4 body ++ e.1)
    let g := attSigned (aliasKeys e.2) b e.2
    ((b ++ g.1, false), g.2)

/-- Bytes that a buffer must hold (R492). -/
def attNeed (grove : Bool) (s : State) : Nat := 64 + 24576 * (if grove then max 1 (groveSize s) else 1)

/-- A report's end in starvation (06 R152): nothing is written, READY sets with 0x5011 (log entry 34). -/
def attStarved (s : State) : State :=
  match s.att.job with
  | none => s
  | some j =>
    let s := if j.periodic then jobDone .attest s else s
    starved (c0End j.bough (modAtt (fun a => { a with job := none, ready := true, result := 0x5011 }) s))

/-- The own part of the report under way, with a nonce of DRBG_T for a periodic one; on the crown the members are asked for theirs. -/
def attBuildTry (s : State) : State :=
  match s.att.job with
  | none => s
  | some j =>
    if j.built then s
    else match (if j.periodic then drbgRequest 4 false 32 s else some (j.nonce, s)) with
      | none => attStarved s
      | some (n, x) =>
        let r := memberReport n j.chain { x with ent := { x.ent with hungry := false } }
        if r.2.ent.hungry then attStarved s
        else
          let me := if j.grove then memberNo s else 0
          let j := { j with nonce := n, built := true, parts := tset [] [] me r.1.1, got := [me], keyless := r.1.2 }
          let s := modAtt (fun a => { a with job := some j }) r.2
          if j.grove then ringBoth ringAll (.evidenceReq n j.chain) s else s

/-- The own part, as soon as it has its randomness (06 R152). -/
def attBuild (s : State) : State := orWait .report attBuildTry s

/-- A report begins: its bough thaws where it is frozen (03 R73), and it is awaited from the other members of a grove. -/
def attBegin (grove chain periodic : Bool) (nonce : Bytes) (addr : Nat) (s : State) : State :=
  let grove := grove && isCrown s
  let b := attBough s
  let wait := if grove then (List.range (groveSize s)).filter (· != memberNo s) else []
  let j : AttJob := {
    bough := b, periodic := periodic, grove := grove, chain := chain, nonce := nonce, addr := addr, wait := wait, since := s.now }
  attBuild (c0Begin b (modAtt (fun a => { a with job := some j, ready := false }) s))

/-- The nonce of the registers. -/
def attNonce (s : State) : Bytes := (List.range 8).flatMap (fun i => leBytes 4 (tget 0 s.att.nonce i).toNat)

/-- ATT_GO (R492). -/
def attGoS (t : Nat) (grove chain : Bool) (s : State) : State :=
  let s := modAtt (fun a => { a with grove := grove, chain := chain }) (atTime t s)
  if s.att.job.isSome then emit .info 0x5040 (srcTree 0) [] (modAtt (fun a => { a with result := 0x5040 }) s)
  else if s.att.len.toNat < attNeed (grove && isCrown s) s then
    emit .info 0x5043 (srcTree 0) [] (modAtt (fun a => { a with result := 0x5043 }) s)
  else attBegin grove chain false (attNonce s) s.att.addr.toNat s

/-- Meaning of ATT_GO. -/
def execAttGo (t : Nat) (grove chain : Bool) (s : State) : Host.Outcome State Fault Refusal := act (pf1Do (attGoS t grove chain)) s

/-- ATT_PERIOD_EXPIRY (R492, 03 R67): PERIOD slots after the last periodic report a round of kind 4 is submitted to the ledger. -/
def attPeriodDue (t : Nat) (s : State) : State :=
  let s := atTime t s
  let a := s.att
  if a.period = 0 ∨ s.slt.slot.toNat < a.lastSlot + a.period.toNat then s
  else queueJobAs ((workEntry s 4).cls == 2) .attest 4 (some (attBough s)) (modAtt (fun a => { a with lastSlot := s.slt.slot.toNat }) s)

/-- An admitted round begins once no other report is under way (R492): a periodic report into the next half of the buffer, with a nonce of
DRBG_T. It writes nothing into a buffer that is too small. -/
def attRound (s : State) : State :=
  let a := s.att
  if a.job.isSome || !jobReady .attest s then s
  else
  let s := jobBegin .attest s
  if a.len.toNat < attNeed (a.grove && isCrown s) s then
    emit .info 0x5043 (srcTree 0) [] (modAtt (fun a => { a with result := 0x5043 }) (jobDone .attest s))
  else
    attBegin a.grove a.chain true [] (a.addr.toNat + (if a.half then a.len.toNat / 2 else 0)) (modAtt (fun a => { a with half := !a.half }) s)

/-- EVIDENCE_TIMEOUT (R492): members that have not answered within 100 ms are missing. -/
def evidenceTimeoutS (t : Nat) (s : State) : State :=
  let s := atTime t s
  match s.att.job with
  | some j => if j.since + 100 * psMs ≤ s.now then modAtt (fun a => { a with job := some { j with wait := [] } }) s else s
  | none => s

/-- Meaning of EVIDENCE_TIMEOUT. -/
def execEvidenceTimeout (t : Nat) (s : State) : Host.Outcome State Fault Refusal := act (evidenceTimeoutS t) s

/-- Zeros up to a multiple of 8. -/
def align8 (b : Bytes) : Bytes := padTo ((b.length + 7) / 8 * 8) b

/-- The bytes of a grove report (R492). -/
def groveReport (j : AttJob) (s : State) : Bytes :=
  let n := groveSize s
  let got := (List.range n).filter (fun m => j.got.contains m)
  let missing := ((List.range n).filter (fun m => !j.got.contains m)).foldl (fun x m => x + 2 ^ m) 0
  padTo 64 (ascii "GRR1" ++ leBytes 2 1 ++ leBytes 1 n ++ leBytes 1 got.length ++ padTo 32 j.nonce ++ leBytes 8 missing)
    ++ got.flatMap (fun m => align8 (tget [] j.parts m))

/-- REPORT_DONE (R492): once the own part is built, its bough runs and no member is awaited, the report stands in host memory. -/
def reportDoneS (t : Nat) (s : State) : State :=
  let s := atTime t s
  match s.att.job with
  | none => s
  | some j =>
    if j.wait ≠ [] ∨ !j.built ∨ (boughNrg j.bough s).power = .frozen then s
    else
      let s := c0End j.bough (if j.periodic then jobDone .attest s else s)
      let b := if j.grove then groveReport j s else tget [] j.parts 0
      let s := modAtt (fun a => { a with
        job := none, ready := true, present := if j.grove then j.got.length else a.present,
        result := if j.keyless then 0x5041 else 0 }) { s with hostMem := mwrite 0 s.hostMem j.addr b }
      attRound (if j.keyless then emit .secure 0x5041 (srcTree 0) [] s else s)

/-- Meaning of REPORT_DONE. -/
def execReportDone (t : Nat) (s : State) : Host.Outcome State Fault Refusal := act (reportDoneS t) s

/-! ### Evidence on the ring (R492) -/

/-- A report's parts of at most 256 bytes sent to a member. -/
def evidenceSend (m : Nat) : List Bytes → State → State
  | [], s => ringTo m (.evidence [] true) s
  | [x], s => ringTo m (.evidence x true) s
  | x :: t, s => evidenceSend m t (ringTo m (.evidence x false) s)

/-- The member's report for the crown; a starved one is not sent, so that the crown counts the member as missing (log entry 34). -/
def evidenceTry (m : Nat) (n : Bytes) (chain : Bool) (s : State) : State :=
  let r := memberReport n chain { s with ent := { s.ent with hungry := false } }
  if r.2.ent.hungry then starved s else evidenceSend m (chunks 256 r.1.1) r.2

/-- A member's report is asked for: its bough thaws if it is frozen, and the report waits for its randomness. -/
def evidenceGive (m : Nat) (n : Bytes) (chain : Bool) (s : State) : State :=
  orWait (.evidence m n chain) (evidenceTry m n chain) (needThaw (attBough s) s)

/-- EVIDENCE_REQ: the member builds its own report. -/
def ringEvidenceReqS (t : Nat) (east : Bool) (f : RingFrame) (s : State) : State :=
  ringRx t east f 12 (fun s => match f.body with
    | .evidenceReq n c => evidenceGive f.src.toNat n c s
    | _ => s) s

/-- Meaning of EVIDENCE_REQ. -/
def execRingEvidenceReq (t : Nat) (east : Bool) (f : RingFrame) (s : State) : Host.Outcome State Fault Refusal :=
  act (ringEvidenceReqS t east f) s

/-- EVIDENCE: part of a member's report. -/
def ringEvidenceS (t : Nat) (east : Bool) (f : RingFrame) (s : State) : State :=
  ringRx t east f 13 (fun s => match f.body, s.att.job with
    | .evidence d last, some j =>
      let m := f.src.toNat
      if !j.wait.contains m then s
      else
        let j := { j with parts := tset [] j.parts m (tget [] j.parts m ++ d) }
        let j := if last then { j with got := j.got ++ [m], wait := j.wait.filter (· != m) } else j
        modAtt (fun a => { a with job := some j }) s
    | _, _ => s) s

/-- Meaning of EVIDENCE. -/
def execRingEvidence (t : Nat) (east : Bool) (f : RingFrame) (s : State) : Host.Outcome State Fault Refusal :=
  act (ringEvidenceS t east f) s

end Sys2Proof.Machine
end

