-- ==== Sys2Proof/Machine/Cambium.lean ====
section
/-!
DEFINITION. Machine/Cambium.lean: the cambium filter (08_cambium_filter.md R187-R221): classes, the judgement of host
transactions, reads, presented status, mimic, host-side state and escapes.
-/
namespace Sys2Proof.Machine

/-! ### The filter entry (R195) -/

/-- FILL. -/
def eFill (e : Bytes) : Byte := e.getD 1 0
/-- FLAGS.MIMIC_DEFAULT. -/
def eMimic (e : Bytes) : Bool := bitOf (fieldLe e 2 1) 0
/-- The opcode is allowed in a phase (1 BOOT, 2 RUNTIME, 3 UPDATE). -/
def eAllows (e : Bytes) (phase op : Nat) : Bool := bitOf (fieldLe e (0x40 + 32 * (phase - 1) + op / 8) 1) (op % 8)
/-- The opcode always escapes. -/
def eEscapes (e : Bytes) (op : Nat) : Bool := bitOf (fieldLe e (0xA0 + op / 8) 1) (op % 8)
/-- CLASS_OVR of an opcode. -/
def eOvr (e : Bytes) (op : Nat) : Nat := fieldLe e (0xC0 + op) 1
/-- The MIRROR entries in use: opcode, length, busy bit, active low. -/
def eMirror (e : Bytes) : List (Nat × Nat × Nat × Bool) :=
  ((List.range 8).map (fun i =>
    let o := 0x1E0 + 4 * i
    (fieldLe e o 1, fieldLe e (o + 1) 1, fieldLe e (o + 2) 1, bitOf (fieldLe e (o + 3) 1) 0))).filter (fun m => m.2.1 != 0)
/-- The four MODE_SWITCH patterns. -/
def eSwitch (e : Bytes) : List Bytes := records e 0x1C0 8 4
/-- The rules in order. -/
def eRules (e : Bytes) : List Bytes := records e 0x200 16 (min 32 (fieldLe e 0 1))

/-- Class of the device default table (R193). -/
def classDefault (op : Nat) : Nat :=
  if [0x03, 0x13, 0x0B, 0x0C, 0x6B, 0x6C, 0xEB, 0xEC, 0xEE].contains op then 0
  else if [0x05, 0x9F].contains op then 1
  else if op == 0x5A then 2
  else if [0x06, 0x04].contains op then 3
  else if [0x02, 0x12, 0x32, 0x34, 0x38, 0x3E].contains op then 4
  else if [0x20, 0x21, 0x52, 0x5C, 0xD8, 0xDC].contains op then 5
  else if [0x60, 0xC7].contains op then 6
  else if [0x01, 0x31, 0x11, 0x71].contains op then 7
  else if [0x42, 0x44, 0x48].contains op then 8
  else if [0xB7, 0xE9].contains op then 9
  else if [0x66, 0x99].contains op then 10
  else if [0xB9, 0xAB].contains op then 11
  else if [0x75, 0xB0, 0x7A, 0x30].contains op then 12
  else 14

/-- Class of an opcode (R193): the mailbox opcodes, the overrides, the defaults, the mirror list. -/
def fltClass (e : Bytes) (op : Nat) : Nat :=
  if op = fieldLe e 8 1 ∨ op = fieldLe e 9 1 then 13
  else
    let c := eOvr e op
    if c = 0x18 then 8
    else if c ≠ 0xFF then c
    else if classDefault op = 14 ∧ (eMirror e).any (fun m => m.1 == op) then 1
    else classDefault op

/-- A SECURITY opcode is read-direction (R193). -/
def secRead (e : Bytes) (op : Nat) : Bool := eOvr e op == 0x18 || (op == 0x48 && eOvr e op == 0xFF)

/-- A command with 4-byte opcode (R193). -/
def wideOp (op : Nat) : Bool := [0x13, 0x0C, 0x6C, 0xEC, 0xEE, 0x12, 0x34, 0x3E, 0x21, 0x5C, 0xDC].contains op

/-- Permission byte at a host address: of the lowest rule that contains it, else DEFAULT_PERM (R196). -/
def permAt (e : Bytes) (phase a : Nat) : Nat :=
  match (eRules e).find? (fun r => decide (fieldLe r 0 4 ≤ a ∧ a < fieldLe r 0 4 + fieldLe r 4 4)) with
  | some r => fieldLe r (8 + (phase - 1)) 1
  | none => fieldLe e (0xC + (phase - 1)) 1

/-- Address bytes of an addressed command (R193). -/
def addrBytes (f : Flt) (op : Nat) : Nat := if wideOp op || f.hostMode == 3 || f.addr4 then 4 else 3

/-- A host address as received, in the host-visible space (R191). -/
def hostAddr (d op addr : Nat) (s : State) : Nat :=
  let x := cdom d s
  (if addrBytes x.flt op = 4 then addr % 2 ^ 32 else addr % 2 ^ 24) % flashBytes x.info.sfdp

/-! ### Verdicts and answers (R218) -/

/-- Data driven to the host. -/
def spiOut (d : Nat) (b : Bytes) (s : State) : State := if b = [] then s else emitOut (.spi d b) s
/-- FILL for `n` data bytes. -/
def spiFill (d n : Nat) (s : State) : State := spiOut d (List.replicate n (eFill (fltEntry d s))) s

/-- A verdict event in transaction order: one after a pending escape waits for it. -/
def verdict (d : Nat) (v : Verdict) (s : State) : State :=
  if (cdom d s).flt.esc.isSome then modFlt d (fun f => { f with later := f.later ++ [v] }) s else verdictSend d v s

/-- Count a code of R219. -/
def fltCount (d : Nat) (code : W16) (s : State) : State :=
  if 0x2020 ≤ code.toNat ∧ code.toNat ≤ 0x202D then bump (cCus d (16 + (code.toNat - 0x2020))) s else s

/-- A refused transaction's verdict. -/
def fltRefuse (d op cls addr : Nat) (code : W16) (s : State) : State :=
  let v : Verdict := { seq := (cdom d s).flt.seq, code := code, op := op, cls := cls, addr := addr }
  verdict d v (bump (cCus d 2) (fltCount d code s))

/-- Nominal time of an operation in µs (R206). -/
def nominalUs (d op cls : Nat) (e : Bytes) (s : State) : Nat :=
  let b := (cdom d s).info.sfdp
  let er := fun i => (eraseTime b i).getD (fieldLe e (0x1C + 4 * i) 4)
  match cls with
  | 4 => (programTime b).getD (fieldLe e 0x18 4)
  | 5 => er ((eraseTypeOf b op).getD (eraseIndex b (eraseSize b op)))
  | 6 => (chipEraseTime b).getD (fieldLe e 0x28 4)
  | _ => fieldLe e 0x14 4

/-- The mimic timer starts (R206). -/
def mimicStart (d op cls : Nat) (e : Bytes) (s : State) : State :=
  let us := nominalUs d op cls e s
  bump (cCus d 3) (modFlt d (fun f => { f with
    mimic := some (s.now + us * psUs), mimicErase := cls == 5 || cls == 6, wip := true }) s)

/-- A refused write, with mimic or without (R205, R206). -/
def fltRefuseW (d op cls addr : Nat) (code : W16) (mimic : Bool) (s : State) : State :=
  let s := modFlt d (fun f => { f with wip := false }) (fltRefuse d op cls addr code s)
  if mimic && !(cdom d s).flt.rom then mimicStart d op cls (fltEntry d s) s else s

/-- A busy period (R203). -/
def Flt.busy (f : Flt) : Bool := f.fwd.isSome || f.mimic.isSome || f.suspended || f.esc.isSome

/-- One host transaction of a class whose command phase completes (R189, R193, R194, R203, R218): `go` is its handling, with the
filter entry in force; `n` data bytes are driven where it is ignored or void. In deep power-down a command takes its SEQ and does nothing
more. -/
def fltTxn (d cls op : Nat) (ext : Bool) (addr n : Nat) (go : Bytes → State → State) (s : State) : State :=
  let x := cdom d s
  let e := fltEntry d s
  if x.st != .running || !cusOn d s then bump (cCus d 5) s
  else if fltClass e op ≠ cls then s
  else
    let s := bump (cCus d 0) (modFlt d (fun f => { f with seq := f.seq + 1, resetArmed := f.resetArmed && cls == 10 && !f.dpd }) s)
    if x.flt.dpd && !(cls == 11 && op != 0xB9) then s
    else if x.flt.hostMode = 3 ∧ !ext then spiFill d n (fltRefuse d op cls addr 0x2028 s)
    else if x.flt.busy && ! [1, 2, 10, 12, 13].contains cls && !(x.flt.suspended && cls == 0) then
      spiFill d n (fltCount d 0x202C s)
    else go e s

/-- The opcode bitmap of the phase, first of the judgement (R197). -/
def fltBitmap (d op cls addr n : Nat) (write : Bool) (go : Bytes → State → State) (e : Bytes) (s : State) : State :=
  if eAllows e (cdom d s).flt.phase op then go e s
  else if write then fltRefuseW d op cls addr 0x2020 (eMimic e) s
  else spiFill d n (fltRefuse d op cls addr 0x2020 s)

/-- An allowed transaction that the cambium handles itself. -/
def fltDone (d : Nat) (f : Flt → Flt) (s : State) : State := bump (cCus d 1) (modFlt d f s)

/-! ### Reads (R191, R198-R200) -/

/-- The SHADOW byte at a host address. -/
def shadowAt (x : CusDom) (a : Nat) : Option Byte :=
  match x.shadow.find? (fun r => decide (r.1 ≤ a ∧ a < r.1 + r.2.length)) with
  | some r => some (r.2.getD (a - r.1) 0)
  | none => none

/-- A read of `n` bytes: the data, whether a page was refused and its first address, whether the shadow was lost. `flash`: what the
flash returns at the addresses that R191 gives, byte by byte. -/
def readBytes (x : CusDom) (e : Bytes) (a n size : Nat) (flash : Bytes) : Bytes × Option Nat × Bool :=
  (List.range n).foldl (fun (r : Bytes × Option Nat × Bool) i =>
    let p := (a + i) % max 1 size
    if permAt e x.flt.phase p % 2 = 0 then (r.1 ++ [eFill e], r.2.1.orElse (fun _ => some p), r.2.2)
    else match shadowAt x p with
      | some b => if x.shadowLost then (r.1 ++ [eFill e], r.2.1, true) else (r.1 ++ [b], r.2.1, r.2.2)
      | none => (r.1 ++ [flash.getD i 0xFF], r.2.1, r.2.2)) ([], none, false)

/-- The flash address of a host address (R191): inside a region of the running image, its place in the slot. -/
def flashAddr (x : CusDom) (a : Nat) : Nat :=
  match x.hdr.regions.find? (fun r => decide (r.2.2.1 ≤ a ∧ a < r.2.2.1 + r.2.1)) with
  | some r => slotBase x.pol x.src + x.hdr.bodyOff + r.1 + (a - r.2.2.1)
  | none => a

/-- First addresses of the parts of a read in each 4 KiB page, with the wrap at the density (R191, R198). -/
def readPages (a n size : Nat) : List Nat :=
  (((List.range n).filter (fun i => i == 0 || (a + i) % 4096 == 0 || (a + i) % max 1 size == 0)).map (fun i => (a + i) % max 1 size))

/-- The reads that the cambium issues to the flash for a host read (R187, R191, R198): of each allowed page that no shadow serves. -/
def readOut (d a n : Nat) (e : Bytes) (s : State) : State :=
  let x := cdom d s
  foldS (fun p s =>
    if permAt e x.flt.phase p % 2 = 0 ∨ (shadowAt x p).isSome then s else flashReadOut d 0 x.info (flashAddr x p) s)
    (readPages a n (flashBytes x.info.sfdp)) s

/-- HOST_READ (R198, R199, R214): `outrun`: data byte from which the host outran the buffer. -/
def hostReadS (d op : Nat) (ext : Bool) (addr n : Nat) (flash : Bytes) (outrun : Option Nat) (s : State) : State :=
  let a := hostAddr d op addr s
  fltTxn d 0 op ext a n (fltBitmap d op 0 a n false (fun e s =>
    let x := cdom d s
    if (op = 0x03 ∨ op = 0x13) ∧ x.flt.hostMode ≠ 0 then spiFill d n (fltRefuse d op 0 a 0x2020 s)
    else
      let s := readOut d a n e s
      let r := readBytes x e a n (flashBytes x.info.sfdp) flash
      let data := match outrun with | some k => r.1.take k ++ List.replicate (n - k) (eFill e) | none => r.1
      let s := match r.2.1 with | some p => fltRefuse d op 0 p 0x2021 s | none => bump (cCus d 1) s
      let s := if r.2.2 then emit .fault 0x202D (srcDomain d) [] (fltCount d 0x202D s) else s
      let s := if outrun.isSome then
          emit .fault 0x2029 (srcDomain d) [] (fltCount d 0x2029 (modFlt d (fun f => { f with underrun := true }) s)) else s
      spiOut d data s)) s

/-- Meaning of HOST_READ. -/
def execHostRead (d : Fin 32) (op : BitVec 8) (ext : Bool) (addr : BitVec 32) (n : Nat) (flash : Bytes) (outrun : Option Nat) (s : State) :
    Host.Outcome State Fault Refusal := act (hostReadS d.val op.toNat ext addr.toNat n flash outrun) s

/-- A mirrored register, with its error bits clear behind a mimic timer (R206). -/
def mirrorVal (f : Flt) (op : Nat) (b : Bytes) : Nat :=
  let v := BitVec.ofNat 32 (leNat b)
  (if f.errClear then v &&& ~~~ Config.errorBits op else v).toNat

/-- The presented status (R201). -/
def shownStatus (f : Flt) : Nat := mirrorVal f 0x05 ((tget [] f.mirror 0x05).take 1) / 4 * 4 + 2 * b2n f.wel + b2n f.wip

/-- A mirrored register as presented, none where the opcode has no mirror entry (R200, R201). -/
def shownReg (f : Flt) (e : Bytes) (op : Nat) : Option Bytes :=
  if op = 0x05 then some (leBytes 1 (shownStatus f))
  else match (eMirror e).find? (fun m => m.1 == op) with
    | some m =>
      let v := mirrorVal f op (tget [] f.mirror op)
      let w := if m.2.2.1 < 8 * m.2.1 then (BitVec.ofNat 32 v |> fun x => (setBit x m.2.2.1 (f.wip != m.2.2.2)).toNat) else v
      some (leBytes m.2.1 w)
    | none => if op = 0x9F then some (tget [] f.mirror 0x9F) else none

/-- `n` bytes of a register read over and over. -/
def cycleTo (b : Bytes) (n : Nat) : Bytes := (List.range n).map (fun i => b.getD (i % max 1 b.length) 0)

/-- HOST_REG_READ (R200, R201). -/
def hostRegReadS (d op : Nat) (ext : Bool) (n : Nat) (s : State) : State :=
  fltTxn d 1 op ext 0 n (fltBitmap d op 1 0 n false (fun e s =>
    match shownReg (cdom d s).flt e op with
    | some b => spiOut d (cycleTo b n) (bump (cCus d 1) s)
    | none => spiFill d n (fltRefuse d op 1 0 0x2020 s))) s

/-- Meaning of HOST_REG_READ. -/
def execHostRegRead (d : Fin 32) (op : BitVec 8) (ext : Bool) (n : Nat) (s : State) : Host.Outcome State Fault Refusal :=
  act (hostRegReadS d.val op.toNat ext n) s

/-- HOST_SFDP_READ (R212); bytes beyond the presented SFDP are free (log entry 6). -/
def hostSfdpReadS (d op : Nat) (ext : Bool) (addr n : Nat) (s : State) : State :=
  let a := addr % 2 ^ 24
  fltTxn d 2 op ext a n (fltBitmap d op 2 a n false (fun _ s =>
    let b := slice (cdom d s).flt.sfdp a n
    let s := spiOut d (b ++ padTo (n - b.length) (Config.freeBytes s.freeCtr)) { s with freeCtr := s.freeCtr + 1 }
    bump (cCus d 1) s)) s

/-- Meaning of HOST_SFDP_READ. -/
def execHostSfdpRead (d : Fin 32) (op : BitVec 8) (ext : Bool) (addr : BitVec 32) (n : Nat) (s : State) : Host.Outcome State Fault Refusal :=
  act (hostSfdpReadS d.val op.toNat ext addr.toNat n) s

/-! ### Host-side state (R201, R207) -/

/-- WREN (R201). -/
def wrenS (d op : Nat) (ext : Bool) (s : State) : State :=
  if op = 0x04 then s
  else fltTxn d 3 op ext 0 0 (fltBitmap d op 3 0 0 false (fun _ s => fltDone d (fun f => { f with wel := true }) s)) s

/-- Meaning of WREN. -/
def execWren (d : Fin 32) (op : BitVec 8) (ext : Bool) (s : State) : Host.Outcome State Fault Refusal := act (wrenS d.val op.toNat ext) s

/-- WRDI (R201). -/
def wrdiS (d : Nat) (ext : Bool) (s : State) : State :=
  fltTxn d 3 0x04 ext 0 0 (fltBitmap d 0x04 3 0 0 false (fun _ s => fltDone d (fun f => { f with wel := false }) s)) s

/-- Meaning of WRDI. -/
def execWrdi (d : Fin 32) (ext : Bool) (s : State) : Host.Outcome State Fault Refusal := act (wrdiS d.val ext) s

/-- ENTER_4BYTE_MODE (R193, R207): an opcode of the class but 0xE9. -/
def enter4byteModeS (d op : Nat) (ext : Bool) (s : State) : State :=
  if op = 0xE9 then s
  else fltTxn d 9 op ext 0 0 (fltBitmap d op 9 0 0 false (fun _ s => fltDone d (fun f => { f with addr4 := true }) s)) s

/-- Meaning of ENTER_4BYTE_MODE. -/
def execEnter4byteMode (d : Fin 32) (o : HostOp) (s : State) :
    Host.Outcome State Fault Refusal := act (enter4byteModeS d.val o.op.toNat o.ext) s

/-- EXIT_4BYTE_MODE (R193, R207): an opcode of the class but 0xB7. -/
def exit4byteModeS (d op : Nat) (ext : Bool) (s : State) : State :=
  if op = 0xB7 then s
  else fltTxn d 9 op ext 0 0 (fltBitmap d op 9 0 0 false (fun _ s => fltDone d (fun f => { f with addr4 := false }) s)) s

/-- Meaning of EXIT_4BYTE_MODE. -/
def execExit4byteMode (d : Fin 32) (o : HostOp) (s : State) :
    Host.Outcome State Fault Refusal := act (exit4byteModeS d.val o.op.toNat o.ext) s

/-- HOST_RESET_COMMAND (R193, R207): 0x66 arms, 0x99 right after it resets the host side; a forwarded operation runs on. Another opcode of
the class is taken as the one that `second` says (log entry 23). -/
def hostResetCommandS (d op : Nat) (second ext : Bool) (s : State) : State :=
  if op = (if second then 0x66 else 0x99) then s
  else fltTxn d 10 op ext 0 0 (fltBitmap d op 10 0 0 false (fun e s =>
    if !second then fltDone d (fun f => { f with resetArmed := true }) s
    else if !(cdom d s).flt.resetArmed then fltDone d id s
    else fltDone d (fun f => { f with
      resetArmed := false, addr4 := false, hostMode := fieldLe e 3 1, wel := false, dpd := false, mimic := none, mimicLeft := 0, errClear := false
      suspended := f.suspended && f.fwd.isSome, wip := f.wip && (f.fwd.isSome || f.esc.isSome) }) s)) s

/-- Meaning of HOST_RESET_COMMAND. -/
def execHostResetCommand (d : Fin 32) (o : HostOp) (second : Bool) (s : State) : Host.Outcome State Fault Refusal :=
  act (hostResetCommandS d.val o.op.toNat second o.ext) s

/-- DEEP_POWER_DOWN (R193, R207): an opcode of the class but 0xAB. -/
def deepPowerDownS (d op : Nat) (ext : Bool) (s : State) : State :=
  if op = 0xAB then s
  else fltTxn d 11 op ext 0 0 (fltBitmap d op 11 0 0 false (fun _ s => fltDone d (fun f => { f with dpd := true }) s)) s

/-- Meaning of DEEP_POWER_DOWN. -/
def execDeepPowerDown (d : Fin 32) (o : HostOp) (s : State) :
    Host.Outcome State Fault Refusal := act (deepPowerDownS d.val o.op.toNat o.ext) s

/-- DEEP_POWER_DOWN_RELEASE (R193, R207): an opcode of the class but 0xB9. -/
def deepPowerDownReleaseS (d op : Nat) (ext : Bool) (s : State) : State :=
  if op = 0xB9 then s
  else fltTxn d 11 op ext 0 0 (fltBitmap d op 11 0 0 false (fun _ s => fltDone d (fun f => { f with dpd := false }) s)) s

/-- Meaning of DEEP_POWER_DOWN_RELEASE. -/
def execDeepPowerDownRelease (d : Fin 32) (o : HostOp) (s : State) :
    Host.Outcome State Fault Refusal := act (deepPowerDownReleaseS d.val o.op.toNat o.ext) s

/-- SUSPEND (R204): of a forwarded operation, forwarded, and `busy` is the flash's busy bit after it; of a mimic timer, it pauses. -/
def suspendS (t d op : Nat) (ext busy : Bool) (s : State) : State :=
  if op = 0x7A ∨ op = 0x30 then s
  else fltTxn d 12 op ext 0 0 (fltBitmap d op 12 0 0 false (fun _ s =>
    let f := (cdom d s).flt
    if f.suspended || f.esc.isSome then fltCount d 0x202C s
    else if f.fwd.isSome then
      emitOut (.flash d 0 op 0 []) (fltDone d (fun f => { f with suspended := true, wip := busy }) s)
    else match f.mimic with
      | some e =>
        let lat := suspendLatency (cdom d s).info.sfdp f.mimicErase
        fltDone d (fun f => { f with suspended := true, mimicLeft := e - s.now, suspDue := s.now + lat * 1000 }) s
      | none => fltCount d 0x202C s)) (atTime t s)

/-- Meaning of SUSPEND. -/
def execSuspend (t : Nat) (d : Fin 32) (op : BitVec 8) (ext busy : Bool) (s : State) : Host.Outcome State Fault Refusal :=
  act (suspendS t d.val op.toNat ext busy) s

/-- RESUME (R204). -/
def resumeS (t d op : Nat) (ext busy : Bool) (s : State) : State :=
  if op = 0x75 ∨ op = 0xB0 then s
  else fltTxn d 12 op ext 0 0 (fltBitmap d op 12 0 0 false (fun _ s =>
    let f := (cdom d s).flt
    if !f.suspended then fltCount d 0x202C s
    else if f.fwd.isSome then
      emitOut (.flash d 0 op 0 []) (fltDone d (fun f => { f with suspended := false, wip := busy }) s)
    else fltDone d (fun f => { f with suspended := false, wip := true, mimic := some (s.now + f.mimicLeft), mimicLeft := 0 }) s))
    (atTime t s)

/-- Meaning of RESUME. -/
def execResume (t : Nat) (d : Fin 32) (op : BitVec 8) (ext busy : Bool) (s : State) : Host.Outcome State Fault Refusal :=
  act (resumeS t d.val op.toNat ext busy) s

/-- SUSPEND_LATENCY_EXPIRY (R204): once the suspend latency of SFDP has passed, the paused mimic timer's WIP reads 0. -/
def suspendLatencyExpiryS (d : Nat) (s : State) : State :=
  let f := (cdom d s).flt
  if f.suspended && f.mimic.isSome then atTime f.suspDue (modFlt d (fun f => { f with wip := false }) s) else s

/-- Meaning of SUSPEND_LATENCY_EXPIRY. -/
def execSuspendLatencyExpiry (d : Fin 32) (s : State) : Host.Outcome State Fault Refusal := act (suspendLatencyExpiryS d.val) s

/-- UNKNOWN_OPCODE (R193): refused; the target drives nothing. An opcode that CLASS_OVR puts into the class MAILBOX beside the two of the
mailbox carries no mailbox frame: it takes its SEQ, and the bitmap judges it (log entry 23). -/
def unknownOpcodeS (d op : Nat) (ext : Bool) (s : State) : State :=
  let e := fltEntry d s
  if fltClass e op = 13 ∧ op ≠ fieldLe e 8 1 ∧ op ≠ fieldLe e 9 1 then fltTxn d 13 op ext 0 0 (fltBitmap d op 13 0 0 false (fun _ s => fltDone d id s)) s
  else fltTxn d 14 op ext 0 0 (fun _ s => fltRefuse d op 14 0 0x2020 s) s

/-- Meaning of UNKNOWN_OPCODE. -/
def execUnknownOpcode (d : Fin 32) (op : BitVec 8) (ext : Bool) (s : State) : Host.Outcome State Fault Refusal :=
  act (unknownOpcodeS d.val op.toNat ext) s

/-- HOST_CS_EARLY_DEASSERT (R218, Coincidences): the transaction is void; SEQ does not increment. -/
def hostCsEarlyDeassertS (d : Nat) (s : State) : State := if (cdom d s).st == .running then s else bump (cCus d 5) s

/-- Meaning of HOST_CS_EARLY_DEASSERT. -/
def execHostCsEarlyDeassert (d : Fin 32) (s : State) : Host.Outcome State Fault Refusal := act (hostCsEarlyDeassertS d.val) s

/-- HOST_SECURITY_READ (R193): refused with FILL in every phase. -/
def hostSecurityReadS (d op : Nat) (ext : Bool) (addr n : Nat) (s : State) : State :=
  let a := hostAddr d op addr s
  fltTxn d 8 op ext a n (fun e s => if secRead e op then spiFill d n (fltRefuse d op 8 a 0x2020 s) else s) s

/-- Meaning of HOST_SECURITY_READ. -/
def execHostSecurityRead (d : Fin 32) (op : BitVec 8) (ext : Bool) (addr : BitVec 32) (n : Nat) (s : State) :
    Host.Outcome State Fault Refusal := act (hostSecurityReadS d.val op.toNat ext addr.toNat n) s

/-! ### Writes (R192, R197, R202, R209-R211, R223-R228) -/

/-- The escape leaf in force: the entry's, or once it is fenced the spare that the Grain names (R211). -/
def escLeaf (e : Bytes) (s : State) : Option Nat :=
  let l := fieldLe e 4 2
  if 192 ≤ l then none else roleLeaf l s

/-- The 576 bytes of an escape descriptor (R209). -/
def Esc.bytes (x : Esc) (d : Nat) : Bytes :=
  leBytes 4 x.seq ++ leBytes 1 d ++ leBytes 1 x.phase ++ leBytes 1 x.op ++ leBytes 1 x.cls ++ leBytes 4 x.addr ++ leBytes 1 x.ab
    ++ leBytes 1 x.reason ++ leBytes 2 x.data.length ++ leBytes 1 x.status ++ List.replicate 47 0 ++ padTo 512 x.data

/-- The descriptor is written and the escape is pending for 50 µs (R209, R211). -/
def escPlace (d : Nat) (x : Esc) (s : State) : State :=
  let s := twigWrite (twigOfLeaf x.leaf) x.at_ (x.bytes d) s
  modFlt d (fun f => { f with esc := some { x with due := s.now + 50 * psUs }, wip := true }) s

/-- A write escapes, or is refused for want of an escape leaf (R197, R209). -/
def escBegin (d op cls host addr ab reason : Nat) (data : Bytes) (status : Nat) (e : Bytes) (s : State) : State :=
  match escLeaf e s with
  | none => fltRefuseW d op cls host 0x2025 (eMimic e) s
  | some l =>
    let f := (cdom d s).flt
    bump (cCus d 4) (escPlace d {
      seq := f.seq, phase := f.phase, op := op, cls := cls, host := host, addr := addr, ab := ab, reason := reason
      data := data.take 512, status := status, leaf := l, at_ := fieldLe e 0x10 4 + 1024 * d, mimic := eMimic e } s)

/-- A window becomes BROKEN (R225). -/
def updBreak (d : Nat) (code : W16) (s : State) : State :=
  modCdom d (fun x => { x with upd := if x.upd.st = 1 then { x.upd with st := 2, code := code } else x.upd }) s

/-- Base and size of the window's target slot. -/
def updSlot (x : CusDom) : Nat × Nat := (slotBase x.pol (b2n x.upd.target), slotSize x.pol (b2n x.upd.target))

/-- Bytes 0x10 to 0x13 of the target slot that a program carries, by offset: byte `j` of the wrapped data lies `j` behind `addr`, around
the page (R202, R228). -/
def svnCarried (x : CusDom) (addr : Nat) (data : Bytes) : List (Nat × Byte) :=
  let p := max 1 (flashPage x.info.sfdp)
  (data.zipIdx).filterMap (fun e =>
    let o := addr / p * p + (addr % p + e.2) % p - (updSlot x).1
    if (updSlot x).1 ≤ addr / p * p + (addr % p + e.2) % p ∧ 0x10 ≤ o ∧ o < 0x14 then some (o, e.1) else none)

/-- The IMAGE_SVN that the window's programs have carried so far and one more; a byte not yet carried counts 0. -/
def svnCarry (x : CusDom) (addr : Nat) (data : Bytes) : Tab Byte :=
  (svnCarried x addr data).foldl (fun t e => tset 0 t e.1 e.2) x.upd.svnBytes

/-- What an operation that is being forwarded does to the update window: order of programs and erases (R224-R226). True: the program
is to be read back. `lo` to `hi`: the bytes it reaches. -/
def updNote (d cls addr lo hi : Nat) (data : Bytes) (s : State) : Bool × State :=
  let x := cdom d s
  let u := updSlot x
  if x.upd.st = 0 ∨ !overlaps lo (hi - lo) u.1 u.2 then (false, s)
  else
    let svn := if cls = 4 then svnCarry x addr data else if lo ≤ u.1 + 0x13 then [] else x.upd.svnBytes
    let s := modCdom d (fun x => { x with upd := { x.upd with lastAt := s.now, svnBytes := svn } }) s
    if x.upd.st ≠ 1 then (false, s)
    else if cls = 4 then
      if addr = u.1 + x.upd.bytes.length ∧ hi = addr + data.length then (true, s) else (false, updBreak d 0x2032 s)
    else if lo < u.1 + x.upd.bytes.length then (false, updBreak d 0x2032 s) else (false, s)

/-- An operation is forwarded with the cambium's own WREN before it (R201, R202). -/
def fltForward (d op cls addr lo hi : Nat) (data : Bytes) (s : State) : State :=
  let r := updNote d cls addr lo hi data s
  let s := emitOut (.flash d 0 op addr data) (emitOut (.flash d 0 0x06 0 []) r.2)
  fltDone d (fun f => { f with wip := true, fwd := some { op := op, cls := cls, addr := addr, data := data, check := r.1 } }) s

/-- Program data after the page wrap: the last byte for each place stands (R202). -/
def pageWrap (p : Nat) (data : Bytes) : Bytes :=
  if data.length ≤ p then data
  else (List.range p).map (fun j => data.getD (j + p * ((data.length - 1 - j) / p)) 0)

/-- The bytes that a program or an erase reaches, from and to. -/
def opRange (d op cls a n : Nat) (s : State) : Nat × Nat :=
  let b := (cdom d s).info.sfdp
  if cls = 5 then
    let z := max 1 (eraseSize b op)
    (a / z * z, a / z * z + z)
  else
    let p := max 1 (flashPage b)
    if a % p + n ≤ p then (a, a + n) else (a / p * p, a / p * p + p)

/-- The 4 KiB pages of a range. -/
def pages4k (lo hi : Nat) : List Nat := if hi ≤ lo then [] else (List.range ((hi - 1) / 4096 - lo / 4096 + 1)).map (fun i => (lo / 4096 + i) * 4096)

/-- The range lies wholly in the open window's target slot (R223). -/
def inTarget (x : CusDom) (lo hi : Nat) : Bool :=
  let u := updSlot x
  x.flt.phase == 3 && x.upd.st != 0 && decide (u.1 ≤ lo ∧ hi ≤ u.1 + u.2)

/-- A program into the target slot brings an IMAGE_SVN above the floor while the anchor counter is spent (R228). -/
def svnSpent (d addr : Nat) (data : Bytes) (lo hi : Nat) (s : State) : Bool :=
  let x := cdom d s
  let t := svnCarry x addr data
  decide (4096 ≤ s.fuses.anchor) && inTarget x lo hi && svnCarried x addr data != []
    && decide (cusFloor d s < leNat ((List.range 4).map (fun i => tget 0 t (0x10 + i))))

/-- The judgement of a program or an erase once its opcode is allowed (R192, R197, R223, R228). -/
def judgeWrite (d op cls a : Nat) (data : Bytes) (status : Nat) (e : Bytes) (s : State) : State :=
  let x := cdom d s
  let r := opRange d op cls a data.length s
  let ps := pages4k r.1 r.2
  let perm := fun p => permAt e x.flt.phase p
  let slot := decide (x.src ≤ 1) && overlaps r.1 (r.2 - r.1) (slotBase x.pol x.src) (slotSize x.pol x.src)
  let bit := if cls = 4 then 1 else 2
  let tgt := inTarget x r.1 r.2
  let ab := addrBytes x.flt op
  if x.flt.rom then fltRefuseW d op cls a 0xF000 false s
  else if ps.any (fun p => x.hdr.regions.any (fun g => decide (g.2.2.1 ≤ p ∧ p < g.2.2.1 + g.2.1))) then
    fltRefuseW d op cls a 0x2022 (eMimic e) s
  else if slot then fltRefuseW d op cls a 0x2023 (eMimic e) s
  else if cls == 4 && svnSpent d a data r.1 r.2 s then updBreak d 0x2007 (fltRefuseW d op cls a 0x2007 (eMimic e) s)
  else if eEscapes e op then escBegin d op cls a a ab 0 data status e s
  else if tgt then fltForward d op cls a r.1 r.2 data s
  else if ps.any (fun p => bitOf (perm p) 3) then escBegin d op cls a a ab 1 data status e s
  else match ps.find? (fun p => !bitOf (perm p) bit) with
    | none => fltForward d op cls a r.1 r.2 data s
    | some p => fltRefuseW d op cls a 0x2021 (bitOf (perm p) 4) s

/-- A write with WEL 0 is dropped and counted (R201); else WEL clears and the write is judged. -/
def fltWrite (d op cls a : Nat) (go : Nat → Bytes → State → State) (e : Bytes) (s : State) : State :=
  let f := (cdom d s).flt
  if !f.wel then bump (cCus d 10) s
  else fltBitmap d op cls a 0 true (go (shownStatus f)) e (modFlt d (fun f => { f with wel := false }) s)

/-- HOST_PROGRAM (R202). -/
def hostProgramS (t d op : Nat) (ext : Bool) (addr : Nat) (data : Bytes) (s : State) : State :=
  let s := atTime t s
  let a := hostAddr d op addr s
  let w := pageWrap (max 1 (flashPage (cdom d s).info.sfdp)) data
  fltTxn d 4 op ext a 0 (fltWrite d op 4 a (fun st e s => judgeWrite d op 4 a w st e s)) s

/-- Meaning of HOST_PROGRAM. -/
def execHostProgram (t : Nat) (d : Fin 32) (op : BitVec 8) (ext : Bool) (addr : BitVec 32) (data : Bytes) (s : State) :
    Host.Outcome State Fault Refusal := act (hostProgramS t d.val op.toNat ext addr.toNat data) s

/-- HOST_ERASE (R202). -/
def hostEraseS (t d op : Nat) (ext : Bool) (addr : Nat) (s : State) : State :=
  let s := atTime t s
  let a := hostAddr d op addr s
  fltTxn d 5 op ext a 0 (fltWrite d op 5 a (fun st e s => judgeWrite d op 5 a [] st e s)) s

/-- Meaning of HOST_ERASE. -/
def execHostErase (t : Nat) (d : Fin 32) (op : BitVec 8) (ext : Bool) (addr : BitVec 32) (s : State) : Host.Outcome State Fault Refusal :=
  act (hostEraseS t d.val op.toNat ext addr.toNat) s

/-- HOST_CHIP_ERASE (R192): under the ROM rule set like every erase, 0xF000 (04 R94). -/
def hostChipEraseS (t d op : Nat) (ext : Bool) (s : State) : State :=
  fltTxn d 6 op ext 0 0 (fltWrite d op 6 0 (fun _ e s =>
    fltRefuseW d op 6 0 (if (cdom d s).flt.rom then 0xF000 else 0x2024) (eMimic e) s)) (atTime t s)

/-- Meaning of HOST_CHIP_ERASE. -/
def execHostChipErase (t : Nat) (d : Fin 32) (op : BitVec 8) (ext : Bool) (s : State) : Host.Outcome State Fault Refusal :=
  act (hostChipEraseS t d.val op.toNat ext) s

/-- The MODE_SWITCH pattern that a register write matches in opcode, address and data (R207): its NEW_MODE. -/
def switchMode (e : Bytes) (op ab addr : Nat) (data : Bytes) : Option Nat :=
  ((eSwitch e).find? (fun p => fieldLe p 0 1 == op && fieldLe p 1 1 == ab && (ab == 0 || fieldLe p 2 4 == addr)
    && data == [p.getD 6 0])).map (fun p => fieldLe p 7 1)

/-- A register or security write once its opcode is allowed (R197, R207). -/
def regWrite (d op cls ab addr : Nat) (data : Bytes) (status : Nat) (e : Bytes) (s : State) : State :=
  match switchMode e op ab addr data with
  | some m => fltDone d (fun f => { f with hostMode := m }) s
  | none => escBegin d op cls addr addr ab 2 data status e s

/-- HOST_REG_WRITE (R197, R201, R207): with `ab` address bytes. -/
def hostRegWriteS (t d op : Nat) (ext : Bool) (ab addr : Nat) (data : Bytes) (s : State) : State :=
  fltTxn d 7 op ext addr 0 (fltWrite d op 7 addr (fun st e s => regWrite d op 7 ab addr data st e s)) (atTime t s)

/-- Meaning of HOST_REG_WRITE. -/
def execHostRegWrite (t : Nat) (d : Fin 32) (op : BitVec 8) (ext : Bool) (ab : Fin 5) (addr : BitVec 32) (data : Bytes) (s : State) :
    Host.Outcome State Fault Refusal := act (hostRegWriteS t d.val op.toNat ext ab.val addr.toNat data) s

/-- HOST_SECURITY_WRITE (R197, R201): WEL 0 does not drop it, and it clears WEL. -/
def hostSecurityWriteS (t d op : Nat) (ext : Bool) (ab addr : Nat) (data : Bytes) (s : State) : State :=
  fltTxn d 8 op ext addr 0 (fun e s =>
    if secRead e op then s
    else
      let st := shownStatus (cdom d s).flt
      fltBitmap d op 8 addr 0 true (regWrite d op 8 ab addr data st) e (modFlt d (fun f => { f with wel := false }) s)) (atTime t s)

/-- Meaning of HOST_SECURITY_WRITE. -/
def execHostSecurityWrite (t : Nat) (d : Fin 32) (op : BitVec 8) (ext : Bool) (ab : Fin 5) (addr : BitVec 32) (data : Bytes) (s : State) :
    Host.Outcome State Fault Refusal := act (hostSecurityWriteS t d.val op.toNat ext ab.val addr.toNat data) s

/-! ### Ends of busy periods (R202, R206, R209-R211) -/

/-- FORWARDED_OP_DONE (R200, R202, R224): the busy bit has cleared and the mirror is refreshed; a program of an open window keeps WIP 1
until its read-back. -/
def forwardedOpDoneS (d : Nat) (regs : List Bytes) (s : State) : State :=
  match (cdom d s).flt.fwd with
  | none => s
  | some w =>
    let e := fltEntry d s
    let s := modFlt d (fun f => { f with mirror := mirrorOf e regs, suspended := false, errClear := false }) s
    if w.check ∧ !w.polled then
      flashReadOut d 0 (cdom d s).info w.addr (modFlt d (fun f => { f with fwd := some { w with polled := true } }) s)
    else modFlt d (fun f => { f with fwd := none, wip := false }) s

/-- Meaning of FORWARDED_OP_DONE. -/
def execForwardedOpDone (d : Fin 32) (regs : List Bytes) (s : State) : Host.Outcome State Fault Refusal :=
  act (forwardedOpDoneS d.val regs) s

/-- MIMIC_TIMER_EXPIRY (R206). -/
def mimicTimerExpiryS (t d : Nat) (s : State) : State :=
  let s := atTime t s
  let f := (cdom d s).flt
  match f.mimic with
  | some e => if !f.suspended && decide (e ≤ s.now) then 
      modFlt d (fun f => { f with mimic := none, wip := false, wel := false, errClear := true }) s else s
  | none => s

/-- Meaning of MIMIC_TIMER_EXPIRY. -/
def execMimicTimerExpiry (t : Nat) (d : Fin 32) (s : State) : Host.Outcome State Fault Refusal := act (mimicTimerExpiryS t d.val) s

/-- A pending escape ends with its verdict event, and the verdicts after it follow (R218). -/
def escClose (d : Nat) (x : Esc) (code : W16) (s : State) : State :=
  let v : Verdict := { seq := x.seq, code := code, op := x.op, cls := x.cls, addr := x.host }
  verdictFlush d (verdictSend d v (fltCount d code (modFlt d (fun f => { f with esc := none, wip := false }) s)))

/-- A pending escape is refused. -/
def escRefuse (d : Nat) (x : Esc) (code : W16) (mimic : Bool) (s : State) : State :=
  let s := bump (cCus d 2) (escClose d x code s)
  if mimic then mimicStart d x.op x.cls (fltEntry d s) s else s

/-- ESCAPE_VERDICT (R210): a write of FLT_ESC_VERDICT by leaf `l`. What is forwarded into an update window's slot is tested once more
(09 R228). -/
def escapeVerdictS (l : Nat) (v : W32) (s : State) : State :=
  let d := bitsOf v.toNat 7 3
  match (cdom d s).flt.esc with
  | some x =>
    if x.leaf ≠ l ∨ bitsOf v.toNat 31 8 ≠ x.seq % 2 ^ 24 then modCus (fun c => { c with badVerdicts := c.badVerdicts + 1 }) s
    else
      let data := fun (s : State) => twigRead (twigOfLeaf l) (x.at_ + 0x40) x.data.length s
      let go := fun (b : Bytes) s =>
        let r := opRange d x.op x.cls x.addr b.length s
        if x.cls == 4 && svnSpent d x.addr b r.1 r.2 s then updBreak d 0x2007 (escRefuse d x 0x2007 x.mimic s)
        else fltForward d x.op x.cls x.addr r.1 (if x.cls = 4 ∨ x.cls = 5 then r.2 else r.1) b (escClose d x 0 s)
      match bitsOf v.toNat 1 0 with
      | 0 => go x.data s
      | 1 => go (data s) s
      | 2 => escRefuse d x 0x2026 false s
      | _ => escRefuse d x 0x2026 true s
  | none => modCus (fun c => { c with badVerdicts := c.badVerdicts + 1 }) s

/-- Meaning of ESCAPE_VERDICT. -/
def execEscapeVerdict (l : Fin 192) (v : BitVec 32) (s : State) : Host.Outcome State Fault Refusal :=
  act (fun s => if leafCanIssue l.val s then escapeVerdictS l.val v s else s) s

/-- ESCAPE_TIMEOUT (R211). -/
def escapeTimeoutS (t d : Nat) (s : State) : State :=
  let s := atTime t s
  match (cdom d s).flt.esc with
  | some x => if x.due ≤ s.now then escRefuse d x 0x2027 x.mimic s else s
  | none => s

/-- Meaning of ESCAPE_TIMEOUT. -/
def execEscapeTimeout (t : Nat) (d : Fin 32) (s : State) : Host.Outcome State Fault Refusal := act (escapeTimeoutS t d.val) s

/-- An escape leaf has been fenced (R211): pending descriptors go to the spare and their 50 µs start again, or end with 0x2027. -/
def escLeafFenced (l : Nat) (s : State) : State :=
  foldS (fun d s =>
    match (cdom d s).flt.esc with
    | some x =>
      if x.leaf ≠ l then s
      else match escLeaf (fltEntry d s) s with
        | some n => escPlace d { x with leaf := n } s
        | none => escRefuse d x 0x2027 x.mimic s
    | none => s) (List.range 32) s

/-- FLT_ESC_PEND as leaf `l` sees its level: an escape waits for its verdict. -/
def escPends (l : Nat) (s : State) : Bool :=
  (List.range 32).any (fun d => match (cdom d s).flt.esc with | some x => x.leaf == l | none => false)

/-- FLT_ESC_PEND. -/
def fltEscPend (s : State) : Nat := ((List.range 32).map (fun d => b2n (cdom d s).flt.esc.isSome * 2 ^ d)).sum

/-! ### The end of BOOT (R188, R190) -/

/-- BOOT ends: RUNTIME. -/
def bootEnd (d : Nat) (s : State) : State :=
  if (cdom d s).flt.phase = 1 then modFlt d (fun f => { f with phase := 2 }) s else s

/-- BOOT_LIMIT_EXPIRY (R188). -/
def bootLimitExpiryS (t d : Nat) (s : State) : State :=
  let s := atTime t s
  let n := fieldLe (fltEntry d s) 6 2
  if n ≠ 0 ∧ (cdom d s).flt.bootFrom + n * psS ≤ s.now then bootEnd d s else s

/-- Meaning of BOOT_LIMIT_EXPIRY. -/
def execBootLimitExpiry (t : Nat) (d : Fin 32) (s : State) : Host.Outcome State Fault Refusal := act (bootLimitExpiryS t d.val) s

/-- Meaning of FLT_BOOT_DONE (R188): FLT_nn_CMD.BOOT_DONE by PF1. -/
def execFltBootDone (d : Fin 32) (s : State) : Host.Outcome State Fault Refusal := act (pf1Do (bootEnd d.val)) s

end Sys2Proof.Machine
end

