-- ==== Sys2Proof/Machine/Ptp.lean ====
section
/-!
DEFINITION. Machine/Ptp.lean: the IEEE 1588 time receiver (02_slot_time.md R44). Message layouts, the order of data sets and the delay
formulas are those of IEEE 1588-2019 (PRESUMED, log entry 18).
-/
namespace Sys2Proof.Machine

/-- The comparison string of an Announce (default data set order): priority1, clock quality, priority2, grandmaster identity, steps
removed, then the sender's identity. -/
def announceKey (m : Bytes) : Bytes :=
  slice m 47 1 ++ slice m 48 4 ++ slice m 52 1 ++ slice m 53 8 ++ slice m 61 2 ++ slice m 20 10

/-- A timestamp of 10 bytes in ns. -/
def ptpTime (m : Bytes) (off : Nat) : Nat := fieldBe m off 6 * 1000000000 + fieldBe m (off + 6) 4

/-- correctionField in whole ns. -/
def ptpCorr (m : Bytes) : Int := (BitVec.ofNat 64 (fieldBe m 8 8)).toInt / 65536

/-- Half of a round trip, never negative. -/
def halfTrip (x : Int) : Nat := (x / 2).toNat

/-- The device's port identity: its clock identity and port number 1. -/
def ptpIdentity : Bytes := padTo 8 Config.ptpClockId ++ [0, 1]

/-- A message of the device: Ethernet header with EtherType 0x88F7 and the multicast address of the type, the 34-byte header of the
given type, domain, sequenceId and correction, and the body. -/
def ptpFrame (typ dom : Nat) (seq : W16) (corr body : Bytes) : Bytes :=
  let da : Bytes := if typ = 1 then [0x01, 0x1B, 0x19, 0, 0, 0] else [0x01, 0x80, 0xC2, 0, 0, 0x0E]
  let n := 34 + body.length
  let hdr : Bytes := [BitVec.ofNat 8 typ, 2] ++ beBytes 2 n ++ [BitVec.ofNat 8 dom, 0, 0, 0] ++ padTo 8 corr
    ++ List.replicate 4 0 ++ ptpIdentity ++ beBytes 2 seq.toNat ++ [if typ = 1 then 1 else 5, 0x7F]
  da ++ padTo 6 Config.ptpMac ++ [0x88, 0xF7] ++ hdr ++ body

/-- A message joins the egress queue of the named port (R44, 12 R321). -/
def ptpSend (typ : Nat) (seq : W16) (corr body : Bytes) (s : State) : State :=
  let g := s.grn.grain.time
  (egressPut g.ptpPort g.ptpLport { data := ptpFrame typ g.ptpDomain seq corr body } s).2

/-- A change of the receiver's state. -/
def modPtp (f : Ptp → Ptp) (s : State) : State := { s with slt := { s.slt with ptp := f s.slt.ptp } }

/-- A Delay_Req leaves after each Sync, and a Pdelay_Req after each Announce of the chosen transmitter: the spec supports both delays
and names no interval (log entry 18). -/
def ptpAsk (peer : Bool) (s : State) : State :=
  let q := s.slt.ptp.seq
  let t := s.now / 1000
  ptpSend (if peer then 2 else 1) q [] (List.replicate (if peer then 20 else 10) 0)
    (modPtp (fun p => { p with seq := q + 1, req := if peer then p.req else some (q, t), preq := if peer then some (q, t) else p.preq }) s)

/-- The time a Sync that arrived at `t2` (ns) gives: T1, its correction and the path delay (R44, R50); then the device asks for the
delay. -/
def ptpSync (t2 t1 : Nat) (corr : Int) (s : State) : State :=
  let s := modPtp (fun p => { p with t1 := t1, t2 := t2, corr := corr, waitFollow := none }) s
  let n := ((t1 : Int) + corr + s.slt.ptp.delayNs).toNat
  ptpAsk false (acceptTime (n * 1000) (t2 * 1000) s)

/-- The message answers the device's request `q`. -/
def ptpMine (m : Bytes) (q : W16) : Bool := slice m 44 10 == ptpIdentity && fieldBe m 30 2 == q.toNat

/-- A Delay_Resp completes the end-to-end delay. -/
def ptpDelayResp (m : Bytes) (s : State) : State :=
  let p := s.slt.ptp
  match p.req with
  | some (q, t3) =>
    if ptpMine m q then
      let d := halfTrip (((p.t2 : Int) - t3) + ((ptpTime m 34 : Int) - p.t1) - p.corr - ptpCorr m)
      modPtp (fun p => { p with req := none, delayNs := d }) s
    else s
  | none => s

/-- A Pdelay_Resp, whose Follow_Up gives the time of its sending unless it is one-step. -/
def ptpPdelayResp (m : Bytes) (s : State) : State :=
  let p := s.slt.ptp
  let t4 := s.now / 1000
  match p.preq with
  | some (q, t1) =>
    if !ptpMine m q then s
    else if bitOf (fieldLe m 6 1) 1 then modPtp (fun p => { p with presp := some (t4, ptpTime m 34, ptpCorr m) }) s
    else modPtp (fun p => { p with preq := none, delayNs := halfTrip ((t4 : Int) - t1 - ptpCorr m) }) s
  | none => s

/-- A Pdelay_Resp_Follow_Up. -/
def ptpPdelayFollow (m : Bytes) (s : State) : State :=
  let p := s.slt.ptp
  match p.preq, p.presp with
  | some (q, t1), some (t4, t2, c) =>
    if ptpMine m q then
      let d := halfTrip (((t4 : Int) - t1) - ((ptpTime m 34 : Int) - t2) - c - ptpCorr m)
      modPtp (fun p => { p with preq := none, presp := none, delayNs := d }) s
    else s
  | _, _ => s

/-- A neighbour's Pdelay_Req is answered at once, one-step. -/
def ptpPdelayReq (m : Bytes) (s : State) : State :=
  ptpSend 3 (BitVec.ofNat 16 (fieldBe m 30 2)) (slice m 8 8) (List.replicate 10 0 ++ slice m 20 10) s

/-- PTP_MESSAGE (R44): only from the named port, logical port and domain; Announce chooses the transmitter, Sync and Follow_Up give
T1, the delay messages the path delay. Never the transmitter state; management messages are not supported. -/
def ptpMessageS (t : Nat) (port lport : Nat) (m : Bytes) (s : State) : State :=
  let s := atTime t s
  let g := s.grn.grain.time
  let p := s.slt.ptp
  let src := slice m 20 10
  let seq := fieldBe m 30 2
  if !(sourceNamed 2 s && g.ptpPort == port && g.ptpLport == lport && fieldLe m 4 1 == g.ptpDomain
       && fieldLe m 1 1 % 16 == 2 && 34 ≤ m.length) then s
  else match fieldLe m 0 1 % 16 with
  | 11 =>
    let k := announceKey m
    if p.best = [] ∨ src = p.parent ∨ beNat k < beNat p.best then
      ptpAsk true (modPtp (fun p => { p with best := k, parent := src, utc := BitVec.ofNat 16 (fieldBe m 44 2) }) s)
    else s
  | 0 =>
    if src ≠ p.parent then s
    else if bitOf (fieldLe m 6 1) 1 then
      modPtp (fun p => { p with t2 := s.now / 1000, waitFollow := some (seq, ptpCorr m) }) s
    else ptpSync (s.now / 1000) (ptpTime m 34) (ptpCorr m) s
  | 8 =>
    match p.waitFollow with
    | some (q, c) => if src = p.parent ∧ q = seq then ptpSync p.t2 (ptpTime m 34) (c + ptpCorr m) s else s
    | none => s
  | 9 => if src ≠ p.parent then s else ptpDelayResp m s
  | 2 => ptpPdelayReq m s
  | 3 => ptpPdelayResp m s
  | 10 => ptpPdelayFollow m s
  | _ => s

/-- Meaning of PTP_MESSAGE. -/
def execPtpMessage (t : Nat) (port : Fin 16) (lport : Fin 4) (m : Bytes) (s : State) : Host.Outcome State Fault Refusal :=
  act (ptpMessageS t port lport m) s

/-- The 1588 message in a punted frame, from its L3 start (R44): behind EtherType 0x88F7, or in a UDP datagram to port 319 or 320 over
IPv4. -/
def ptpOf (etype : Nat) (b : Bytes) : Option Bytes :=
  let ihl := fieldBe b 0 1 % 16 * 4
  if etype = 0x88F7 then some b
  else if etype = 0x0800 ∧ fieldBe b 0 1 / 16 = 4 ∧ fieldBe b 9 1 = 17 ∧ (fieldBe b (ihl + 2) 2 = 319 ∨ fieldBe b (ihl + 2) 2 = 320) then
    some (slice b (ihl + 8) (fieldBe b (ihl + 4) 2 - 8))
  else none

end Sys2Proof.Machine
end

