-- ==== Sys2Proof/Machine/LinkIn.lean ====
section
/-!
DEFINITION. Machine/LinkIn.lean: the receive side of the rind pipes, the sieve and the MKA rings (12_link_guard.md R318-R333,
R344). IEEE 802.1AE's own rules are PRESUMED (log entry 4).
-/
namespace Sys2Proof.Machine

/-! ### The ingress pipe (R322, R331) -/

/-- What the ingress pipe makes of a frame. -/
inductive RxEnd where
  /-- A frame in the clear that goes on. -/
  | pass (f : Bytes)
  /-- A frame whose ICV fails, with the bytes that a cut-through path has sent on. -/
  | fail (f : Bytes)
  /-- A frame dropped before its ICV is looked at, with its code. -/
  | drop (code : W16)
deriving DecidableEq, Repr

/-- The fields of a SecTAG (IEEE 802.1AE): AN, SCI where it is carried, encrypted, short length, PN, and the bytes that it takes. -/
structure SecTag where
  an : Nat := 0
  sci : Option Bytes := none
  enc : Bool := false
  chg : Bool := false
  sl : Nat := 0
  pn : Nat := 0
  len : Nat := 8
deriving DecidableEq, Repr

/-- The SecTAG of a frame, none where it is not a valid one. -/
def secTagOf (f : Bytes) : Option SecTag :=
  let tci := fieldBe f 14 1
  let sc := bitOf tci 5
  let n := if sc then 16 else 8
  if bitOf tci 7 ∨ (sc ∧ (bitOf tci 6 ∨ bitOf tci 4)) ∨ 48 ≤ fieldBe f 15 1 ∨ f.length < 12 + n + 16 then none
  else some {
    an := tci % 4, sci := if sc then some (slice f 20 8) else none, enc := bitOf tci 3, chg := bitOf tci 2
    sl := fieldBe f 15 1, pn := fieldBe f 16 4, len := n }

/-- The SC of a tag: by its SCI, or the only receive SC (R331). -/
def rxScOf (y : Secy) (t : SecTag) : Option Nat :=
  match t.sci with
  | some x => (y.rxSci.find? (fun e => e.2 == x)).map (·.1)
  | none => match y.rxSci with | [e] => some e.1 | _ => none

/-- The packet number of a frame; under XPN its upper half follows the lowest acceptable one. -/
def rxPn (suite : Nat) (lowest low : Nat) : Nat :=
  if suiteXpn suite then
    let hi := lowest / 2 ^ 32
    if low < 2 ^ 31 ∧ 2 ^ 31 ≤ lowest % 2 ^ 32 then (hi + 1) * 2 ^ 32 + low else hi * 2 ^ 32 + low
  else low

/-- Secure data, ICV and additional data of a tagged frame. -/
def secSplit (g : GSecy) (f : Bytes) (t : SecTag) : Bytes × Bytes × Bytes :=
  let body := f.drop (12 + t.len)
  let d := if t.sl = 0 then body.take (body.length - 16) else body.take t.sl
  let icv := if t.sl = 0 then body.drop (body.length - 16) else slice body t.sl 16
  let o := if t.enc then (confOffset g.conf).getD 0 else d.length
  (d, icv, f.take (12 + t.len) ++ d.take o)

/-- The user data of a tagged frame when its ICV matches. -/
def secOpen (g : GSecy) (sci : Bytes) (sa : RxSa) (pn : Nat) (f : Bytes) (t : SecTag) : Bytes × Bool :=
  let x := secSplit g f t
  let iv := macsecIv g.suite sci sa.salt sa.ssci pn
  let o := if t.enc then (confOffset g.conf).getD 0 else x.1.length
  let ct := x.1.drop o
  (f.take 12 ++ x.1.take o ++ gcmCrypt sa.key iv ct, x.2.1 == gcmTag sa.key iv x.2.2 ct)

/-- A frame of SecY `n` accepted by an SA: its PN bounds move, and the first one sets LNK_MKA_RXEV (R336). -/
def rxAccept (p k i pn : Nat) (s : State) : State :=
  let sa := tget {} (lport p k s).secy.rx i
  let next := max sa.next (pn + 1)
  let s := modSecy p k (fun y => { y with rx := tset {} y.rx i {
    sa with next := next, lowest := max sa.lowest (next - (gsecy p k s).replay), accepted := true } }) s
  if sa.accepted then s else modMka (mkaLeafOf p k s) (fun m => { m with rxev := setBit m.rxev (4 * p + k) true }) s

/-- A frame of no SA in use: passed unverified under CHECK where it is not changed, else dropped with NO_SA. -/
def rxNoSa (p k : Nat) (g : GSecy) (c : Option Nat) (f : Bytes) (t : SecTag) (s : State) : RxEnd × State :=
  let n := 4 * p + k
  let x := f.take 12 ++ (secSplit g f t).1
  if g.validate = 1 ∧ !t.chg then
    (.pass x, match c with | some c => bump (cSecySc n c 7) s | none => bump (cSecy n 4) s)
  else (.drop 0x4005, match c with | some c => bump (cSecySc n c 6) s | none => bump (cSecy n 5) s)

/-- The ingress pipe of a PROTECTED port on a tagged frame (R331). -/
def rxTagged (p k : Nat) (f : Bytes) (s : State) : RxEnd × State :=
  let n := 4 * p + k
  let g := gsecy p k s
  let y := (lport p k s).secy
  match secTagOf f with
  | none => (.drop 0x4003, bump (cSecy n 3) s)
  | some t =>
    match rxScOf y t with
    | none => rxNoSa p k g none f t s
    | some c =>
      let i := 4 * c + t.an
      let sa := tget {} y.rx i
      if sa.key = [] ∨ !sa.inUse then rxNoSa p k g (some c) f t s
      else
        let pn := rxPn g.suite sa.lowest t.pn
        let late := decide (pn < sa.lowest)
        let x := secOpen g (tget [] y.rxSci c) sa pn f t
        if late ∧ g.validate = 0 then (.drop 0x4004, bump (cSecySc n c 3) s)
        else if !x.2 ∨ pn = 0 then (.fail x.1, bump (cSecySc n c (if g.validate = 0 then 2 else 1)) s)
        else
          let s := bumpBy (cSecy n (if t.enc then 12 else 11)) (x.1.length - 12) s
          (.pass x.1, bump (cSecySc n c (if late then 4 else 0)) (rxAccept p k i pn s))

/-- The ingress pipe (R320, R331). -/
def rxPipe (p k : Nat) (f : Bytes) (s : State) : RxEnd × State :=
  if !protectedPort p s then (.pass f, s)
  else if slice f 12 2 = [0x88, 0xE5] then rxTagged p k f s
  else if (gsecy p k s).validate = 0 then (.drop 0x4008, bump (cSecy (4 * p + k) 2) s)
  else (.pass f, bump (cSecy (4 * p + k) 1) s)

/-! ### The MKA ring (R333) -/

/-- An EAPOL frame of a PROTECTED port goes to the ring of the SecY's MKA leaf. -/
def mkaFrame (p k : Nat) (f : Bytes) (s : State) : State :=
  let l := mkaLeafOf p k s
  let m := tget {} s.lnk.mka l
  if 32 ≤ (m.head - m.consumed).toNat ∨ 2040 < f.length then linkDrop p k 0x400F s
  else
    let a := (gport p s).mkaRing + 2048 * (m.head.toNat % 32)
    let b := leBytes 1 (4 * p + k) ++ leBytes 1 k ++ leBytes 2 f.length ++ leBytes 4 0 ++ f
    modMka l (fun m => { m with head := m.head + 1 }) (twigWrite (twigOfLeaf l) a b s)

/-- MKA_CONSUMED_WRITE (R333). -/
def mkaConsumedWriteS (l : Nat) (v : W32) (s : State) : State :=
  if leafCanIssue l s then modMka l (fun m => { m with consumed := v }) s else s

/-- Meaning of MKA_CONSUMED_WRITE. -/
def execMkaConsumedWrite (l : Fin 192) (v : BitVec 32) (s : State) : Host.Outcome State Fault Refusal :=
  act (mkaConsumedWriteS l.val v) s

/-! ### The sieve (R325, R326) -/

/-- Offset of the EtherType after at most two VLAN tags. -/
def etypeOff (f : Bytes) : Nat :=
  let tag := fun o => slice f o 2 == [0x81, 0x00] || slice f o 2 == [0x88, 0xA8]
  if tag 12 then (if tag 16 then 20 else 16) else 12

/-- Priority of a frame: the PCP of its outermost tag, 0 untagged (R340). -/
def framePrio (f : Bytes) : Nat := if etypeOff f = 12 then 0 else fieldBe f 14 2 / 8192

/-- A sieve entry matches a frame of a logical port (R325). -/
def sieveMatch (e f : Bytes) (k : Nat) : Bool :=
  let eo := etypeOff f
  let l3 := eo + 2
  let m := fieldBe e 2 1
  bitOf (fieldBe e 1 1) k
    && (!bitOf m 0 || slice f eo 2 == slice e 4 2)
    && (!bitOf m 1 || (eo != 12 && fieldBe f 14 2 % 4096 == fieldBe e 6 2 % 4096))
    && (!bitOf m 2 || f.take 6 == slice e 8 6)
    && (!bitOf m 3 ||
        (let o := l3 + fieldBe e 3 1
         decide (o + 8 ≤ f.length) && (fieldBe f o 8 ^^^ fieldBe e 16 8) &&& fieldBe e 24 8 == 0))
    && (fieldBe e 0 1 != 1 || decide (l3 + fieldBe e 14 1 + 24 ≤ f.length))

/-- The entry that decides a frame, none where it is forwarded. -/
def sieveOf (p k : Nat) (f : Bytes) (s : State) : Option Bytes :=
  (s.grn.grain.sieve.entries.getD p []).find? (fun e => sieveMatch e f k)

/-- A frame forwarded to the partner port (R321, R323, R324). `code`: 0, or why its end fails. -/
def rxForward (p k : Nat) (f : Bytes) (bad : Bool) (code : W16) (s : State) : State :=
  let r := egressForward (partner p s) k bad { data := f, prio := framePrio f } s
  if bad && !r.1 && code != 0 then linkDrop p k code r.2 else r.2

/-- The sieve acts on a frame that has left the ingress pipe (R326). -/
def sieveAct (p k : Nat) (f : Bytes) (bad : Bool) (code : W16) (s : State) : State :=
  let drop := fun (s : State) => if code = 0 then s else linkDrop p k code s
  match sieveOf p k f s with
  | none => rxForward p k f bad code s
  | some e =>
    match fieldBe e 0 1 with
    | 1 =>
      if bad then drop s
      else
        let env := f.drop (etypeOff f + 2 + fieldBe e 14 1)
        modCnp (fun n => { n with inbound := n.inbound ++ [entryOf p k (fieldBe e 15 1) env] }) (bump (cPort p k 4) s)
    | 2 =>
      let g := s.grn.grain.time
      let s := if !bad && g.ptpPort == p && g.ptpLport == k then
          let s := bump (cPort p k 5) s
          match ptpOf (fieldBe f (etypeOff f) 2) (f.drop (etypeOff f + 2)) with
          | some m => ptpMessageS s.now p k m s
          | none => s
        else s
      rxForward p k f bad code s
    | 3 => if bad then drop s else linkDrop p k 0x400D s
    | _ => rxForward p k f bad code s

/-- A frame through the ingress pipe and the sieve (R322). One that fails its ICV or its FCS may have started on the egress wire (R324); one
that fails an earlier check never has. A frame with a bad FCS moves no SA. -/
def rxFrame (p k : Nat) (w : Bytes) (s : State) : State :=
  let f := w.take (w.length - 4)
  let bad := w.drop (w.length - 4) != fcsOf f
  if s.slp.state != 0 then s
  else if protectedPort p s && slice f 12 2 == [0x88, 0x8E] then (if bad then s else mkaFrame p k f s)
  else
    let r := rxPipe p k f s
    match r.1 with
    | .pass f => sieveAct p k f bad 0 (if bad then s else r.2)
    | .fail f => if bad then sieveAct p k f true 0 s else sieveAct p k f true 0x4003 r.2
    | .drop c => if bad then s else linkDrop p k c r.2

/-- A MAC control frame: PAUSE, or PFC with its class vector and quanta (R340). -/
def macControl (p k : Nat) (f : Bytes) (s : State) : State :=
  match fieldBe f 14 2 with
  | 0x0001 => pauseReceiveS s.now p k false 0 [fieldBe f 16 2] s
  | 0x0101 =>
    pauseReceiveS s.now p k true (BitVec.ofNat 8 (fieldBe f 16 2)) ((List.range 8).map (fun i => fieldBe f (18 + 2 * i) 2)) s
  | _ => s

/-- FRAME_RECEIVE (R318, R322, R344). -/
def frameReceiveS (t p k : Nat) (w : Bytes) (s : State) : State :=
  let s := atTime t s
  if !(lport p k s).up then s
  else
    let s := bumpBy (cPort p k 1) w.length (bump (cPort p k 0) s)
    if (if protectedPort p s then 9248 else 9216) < w.length then linkDrop p k 0x400E s
    else if slice w 12 2 = [0x88, 0x08] then macControl p k w s
    else if rxpOn p s then rxFrame p k w s
    else
      let held := (((portAt p s).heldRx.filter (fun e => e.1 == k)).map (fun e => e.2.length)).sum
      if held + w.length ≤ headroom p s then modPort p (fun x => { x with heldRx := x.heldRx ++ [(k, w)] }) s
      else linkCount p k 0x400C (bump (cPort p k 8) s)

/-- Meaning of FRAME_RECEIVE. -/
def execFrameReceive (t : Nat) (p : Fin 16) (k : Fin 4) (w : Bytes) (s : State) : Host.Outcome State Fault Refusal :=
  act (frameReceiveS t p.val k.val w) s

end Sys2Proof.Machine
end

