-- ==== Sys2Proof/Machine/Mka.lean ====
section
/-!
DEFINITION. Machine/Mka.lean: the sap operations of the MKA program (12_link_guard.md R332-R338) and READY of every sap request
(14_leaf_isa.md R398).
-/
namespace Sys2Proof.Machine

/-- An MKA request (log entry 9: the layout that R334 leaves open). -/
structure MkaReq where
  secy : Nat
  sel : Nat
  sc : Nat
  an : Nat
  key : Nat
  out1 : Nat
  out2 : Nat
  len : Nat
  src : Nat
  dst : Nat
  attr1 : W32
  attr2 : W32

/-- The fields of a 48-byte request. -/
def mkaReq (b : Bytes) : MkaReq :=
  { secy := fieldLe b 0 1, sel := fieldLe b 1 1, sc := fieldLe b 2 1, an := fieldLe b 3 1, key := fieldLe b 4 2, out1 := fieldLe b 6 2
    out2 := fieldLe b 8 2, len := fieldLe b 0xA 2, src := fieldLe b 0xC 4, dst := fieldLe b 0x10 4
    attr1 := BitVec.ofNat 32 (fieldLe b 0x14 4), attr2 := BitVec.ofNat 32 (fieldLe b 0x18 4) }

/-- A SecY that the Grain assigns to the requesting leaf (R334). -/
def mkaOwns (l n : Nat) (s : State) : Bool :=
  decide (n < 64) && (leafAt l s).role == roleMka && protectedPort (n / 4) s && (gsecy (n / 4) (n % 4) s).present == 1
    && mkaLeafOf (n / 4) (n % 4) s == l

/-- The KDF of IEEE 802.1X-2020 for a key of the CAK's length. -/
def mkaKdf (cak : Bytes) (label : String) (ckn : Bytes) : Bytes :=
  let n := 8 * cak.length
  ((List.range ((cak.length + 15) / 16)).flatMap (fun i =>
    cmac cak (beBytes 1 (i + 1) ++ ascii label ++ [0] ++ padTo 16 ckn ++ beBytes 2 n))).take cak.length

/-- A refused MKA operation (R334), with the vault's code where a slot is the reason (05 R131). -/
def mkaNo (op : Nat) (why : W16) : SapReq := { op := op, code := 0xF000, secure := 0x400A, why := why }

/-- The first code of a list of checks, 0 where all pass. -/
def firstCode (l : List (Option W16)) : W16 := (l.findSome? id).getD 0

/-- A slot that a rind pipe may use for an SA (R330, 05 R128, R130): an AES key, of usage ENCRYPT for the GCM seal of a transmit SA and of
usage DECRYPT for the GCM open of a receive SA (log entry 27). -/
def saSlotCode (tx : Bool) (n : Nat) (s : State) : Option W16 := keyCheck .rind (if tx then 0 else 1) [1, 2] n s

/-- A SAK slot that SAK_WRAP wraps (05 R128, R130): one with RIND and EXPORT, of either usage of an SA. -/
def sakWrapCode (n : Nat) (s : State) : Option W16 :=
  match (if attrUsage (vslot n s).attr = 1 then saSlotCode false n s else saSlotCode true n s) with
  | some c => some c
  | none => if attrExport (vslot n s).attr then none else some 0x500A

/-- A new SAK slot: EMPTY, within policy, with RIND, of the usage of an SA and of the suite's length. -/
def sakTargetCode (n suite : Nat) (a : W32) (s : State) : Option W16 :=
  match newSlotCode n a s with
  | some c => some c
  | none =>
    if attrRind a && attrUsage a ≤ 1 && matLen a s == suiteKeyLen suite && (attrType a == 1 || attrType a == 2) then none else some 0x5009

/-- A new slot for the ICK or the KEK: one of the leaf's bough (05 R121), of the usage and of the CAK's length. -/
def mkaKeyTarget (l n : Nat) (a : W32) (usages : List Nat) (len : Nat) (s : State) : Option W16 :=
  match newSlotCode n a s with
  | some c => some c
  | none =>
    if !a.getLsbD (boughOfLeaf l) then some 0x5008
    else if !usages.contains (attrUsage a) then some 0x5002
    else if matLen a s ≠ len then some 0x5009 else none

/-- MKA_KEYS: the CAK slot is derive-only with DEST CHAIN. -/
def mkaKeysRun (l : Nat) (r : MkaReq) (s : State) : SapReq :=
  let b := KeyUser.bough (boughOfLeaf l)
  let cak := (vslot r.key s).mat
  let why := firstCode [
    keyCheck b 4 [2, 3] r.key s, (if attrDest (vslot r.key s).attr = 1 then none else some 0x5002),
    mkaKeyTarget l r.out1 r.attr1 [6] cak.length s, mkaKeyTarget l r.out2 r.attr2 [2, 3] cak.length s]
  if why ≠ 0 ∨ r.len = 0 ∨ 32 < r.len ∨ !localOk r.src r.len ∨ r.out1 = r.out2 then mkaNo 0x48 why
  else
    let ckn := localRead l r.src r.len s
    { op := 0x48, key := some (r.key, (vslot r.key s).gen)
      toSlots := [(r.out1, r.attr1, mkaKdf cak "IEEE8021 ICK" ckn), (r.out2, r.attr2, mkaKdf cak "IEEE8021 KEK" ckn)] }

/-- SAK_NEW. -/
def sakNewRun (l : Nat) (r : MkaReq) (s : State) : SapReq × State :=
  let g := gsecy (r.secy / 4) (r.secy % 4) s
  match sakTargetCode r.out1 g.suite r.attr1 s with
  | some c => (mkaNo 0x49 c, s)
  | none => sapDraw l { op := 0x49, toSlots := [(r.out1, r.attr1, [])], draw := some (suiteKeyLen g.suite, s.now) } s

/-- SAK_WRAP: the SAK slot carries EXPORT (05 R128). -/
def sakWrapRun (l : Nat) (r : MkaReq) (s : State) : SapReq :=
  let g := gsecy (r.secy / 4) (r.secy % 4) s
  let why := firstCode [keyCheck (.bough (boughOfLeaf l)) 2 [2] r.key s, sakWrapCode r.out1 s]
  if why ≠ 0 ∨ (vslot r.out1 s).mat.length ≠ suiteKeyLen g.suite ∨ r.dst % 128 ≠ 0 ∨ 0x10000 < r.dst + suiteKeyLen g.suite + 8 then
    mkaNo 0x4A why
  else
    let w := kwWrap (vslot r.key s).mat (vslot r.out1 s).mat
    { op := 0x4A, len := w.length, dst := r.dst, out := w, once := true, key := some (r.key, (vslot r.key s).gen) }

/-- SAK_UNWRAP: a failed integrity check leaves the slot EMPTY. -/
def sakUnwrapRun (l : Nat) (r : MkaReq) (s : State) : SapReq :=
  let g := gsecy (r.secy / 4) (r.secy % 4) s
  let why := firstCode [keyCheck (.bough (boughOfLeaf l)) 3 [2] r.key s, sakTargetCode r.out1 g.suite r.attr1 s]
  if why ≠ 0 ∨ r.len ≠ suiteKeyLen g.suite + 8 ∨ !localOk r.src r.len then mkaNo 0x4B why
  else match kwUnwrap (vslot r.key s).mat (localRead l r.src r.len s) with
    | some k => { op := 0x4B, toSlots := [(r.out1, r.attr1, k)], key := some (r.key, (vslot r.key s).gen) }
    | none => { op := 0x4B, code := 0xF000, secure := 0x400A, why := 0x5005 }

/-- SA_INSTALL (R335): refused into the current transmit SA, or into a receive SA that has accepted a frame. -/
def saInstallRun (l : Nat) (b : Bytes) (s : State) : SapReq × State :=
  let n := fieldLe b 0 1
  let p := n / 4
  let k := n % 4
  let dir := fieldLe b 1 1
  let sc := fieldLe b 2 1
  let an := fieldLe b 3 1
  let h := fieldLe b 4 2
  let g := gsecy p k s
  let y := (lport p k s).secy
  let i := 4 * sc + an
  let pn := fieldLe b 0x10 8
  let xpn := suiteXpn g.suite
  let form := decide (dir ≤ 1 ∧ sc < (if dir = 0 then 64 else 4) ∧ an ≤ 3) && fieldLe b 6 2 == 0 && allZero (slice b 0x28 8)
    && (xpn || allZero (slice b 0x18 16)) && decide (pn < pnEnd g.suite) && (dir == 0 || pn != 0)
  let busy := if dir = 1 then y.cur == some (sc, an) && (tget {} y.tx i).key != [] else (tget {} y.rx i).accepted
  let why := firstCode [saSlotCode (dir == 1) h s]
  if !mkaOwns l n s || !form || busy then (mkaNo 0x4C 0, s)
  else if why ≠ 0 ∨ (vslot h s).mat.length ≠ suiteKeyLen g.suite then (mkaNo 0x4C why, s)
  else
    let key := (vslot h s).mat
    let gen := (vslot h s).gen
    let sci := slice b 8 8
    let ssci := BitVec.ofNat 32 (fieldLe b 0x18 4)
    let salt := slice b 0x1C 12
    let ok : SapReq := { op := 0x4C }
    (ok, modSecy p k (fun y =>
      if dir = 1 then
        { y with txSci := tset [] y.txSci sc sci
                 tx := tset {} y.tx i { slot := h, gen := gen, key := key, pn := pn, ssci := ssci, salt := salt } }
      else
        { y with rxSci := tset [] y.rxSci sc sci
                 rx := tset {} y.rx i { slot := h, gen := gen, key := key, lowest := pn, next := pn, ssci := ssci, salt := salt } }) s)

/-- SA_SELECT: SEL 0 makes a transmit SC and AN current, 1 enables and 2 retires a receive SA (R334, R338). -/
def saSelectRun (l : Nat) (r : MkaReq) (s : State) : SapReq × State :=
  let p := r.secy / 4
  let k := r.secy % 4
  let y := (lport p k s).secy
  let i := 4 * r.sc + r.an
  let ok : SapReq := { op := 0x4D }
  if !mkaOwns l r.secy s ∨ 2 < r.sel ∨ 3 < r.an ∨ (if r.sel = 0 then 4 else 64) ≤ r.sc then (mkaNo 0x4D 0, s)
  else if r.sel = 0 then
    if (tget {} y.tx i).key = [] then (mkaNo 0x4D 0, s)
    else
      let s := modSecy p k (fun y => { y with cur := some (r.sc, r.an), stalled := false, thresh := false }) s
      (ok, pnCheck p k (tget {} y.tx i).pn s)
  else if (tget {} y.rx i).key = [] then (mkaNo 0x4D 0, s)
  else if r.sel = 1 then (ok, modSecy p k (fun y => { y with rx := tmod {} y.rx i (fun a => { a with inUse := true }) }) s)
  else (ok, modSecy p k (fun y => { y with rx := tset {} y.rx i {} }) s)

/-- MKPDU_SEND: an EAPOL frame from twig memory into the SecY's egress queue, unprotected (R334). -/
def mkpduRun (l : Nat) (r : MkaReq) (s : State) : SapReq × State :=
  let p := r.secy / 4
  let k := r.secy % 4
  if r.len < 64 ∨ 1518 < r.len ∨ r.src < 0x100000 ∨ !localOk r.src r.len then (mkaNo 0x4E 0, s)
  else
    let f := localRead l r.src r.len s
    let ok : SapReq := { op := 0x4E }
    (ok, (egressPut p k { data := f, plain := true, prio := framePrio f } s).2)

/-- An MKA operation as the sap unit runs it. -/
def mkaRun (l op : Nat) (b : Bytes) (s : State) : SapReq × State :=
  let r := mkaReq b
  if op = 0x4C then saInstallRun l b s
  else if !mkaOwns l r.secy s then (mkaNo op 0, s)
  else match op with
    | 0x48 => (mkaKeysRun l r s, s)
    | 0x49 => sakNewRun l r s
    | 0x4A => (sakWrapRun l r s, s)
    | 0x4B => (sakUnwrapRun l r s, s)
    | 0x4D => saSelectRun l r s
    | _ => mkpduRun l r s

/-- Submission of an MKA operation (14 R396, R397). -/
def mkaSubmit (op l t desc : Nat) (s : State) : State :=
  if !leafCanIssue l s then s
  else if (sapTag l t s).req.isSome then modLeaf l (fun y => { y with sapReject := true }) s
  else
    let b := mread 0 (leafAt l s).dmem desc 48
    let r := if 0x10000 < desc + 48 then (mkaNo op 0, s) else mkaRun l op b s
    sapTake l t r.1 [(desc, 48)] r.1.out.length r.2

/-- Meaning of MKA_KEYS. -/
def execMkaKeys (l : Fin 192) (t : Fin 8) (desc : BitVec 16) (s : State) : Host.Outcome State Fault Refusal :=
  act (mkaSubmit 0x48 l.val t.val desc.toNat) s
/-- Meaning of SAK_NEW. -/
def execSakNew (l : Fin 192) (t : Fin 8) (desc : BitVec 16) (s : State) : Host.Outcome State Fault Refusal :=
  act (mkaSubmit 0x49 l.val t.val desc.toNat) s
/-- Meaning of SAK_WRAP. -/
def execSakWrap (l : Fin 192) (t : Fin 8) (desc : BitVec 16) (s : State) : Host.Outcome State Fault Refusal :=
  act (mkaSubmit 0x4A l.val t.val desc.toNat) s
/-- Meaning of SAK_UNWRAP. -/
def execSakUnwrap (l : Fin 192) (t : Fin 8) (desc : BitVec 16) (s : State) : Host.Outcome State Fault Refusal :=
  act (mkaSubmit 0x4B l.val t.val desc.toNat) s
/-- Meaning of SA_INSTALL. -/
def execSaInstall (l : Fin 192) (t : Fin 8) (desc : BitVec 16) (s : State) : Host.Outcome State Fault Refusal :=
  act (mkaSubmit 0x4C l.val t.val desc.toNat) s
/-- Meaning of SA_SELECT. -/
def execSaSelect (l : Fin 192) (t : Fin 8) (desc : BitVec 16) (s : State) : Host.Outcome State Fault Refusal :=
  act (mkaSubmit 0x4D l.val t.val desc.toNat) s
/-- Meaning of MKPDU_SEND. -/
def execMkpduSend (l : Fin 192) (t : Fin 8) (desc : BitVec 16) (s : State) : Host.Outcome State Fault Refusal :=
  act (mkaSubmit 0x4E l.val t.val desc.toNat) s

/-- A request's remaining steps at its READY: its draw (06 R152), its slots, of which one filled meanwhile refuses it as R130 says, and
the journalling of their records (05 R139). -/
def sapReadyStep (l t : Nat) (r : SapReq) (s : State) : State :=
  let d := sapDraw l r s
  let keep := fun (r : SapReq) (s : State) => setSapTag l t { sapTag l t s with req := some r } s
  if d.1.draw.isSome then keep d.1 d.2
  else if d.1.toSlots.any (fun e => !slotEmpty e.1 s || (vslot e.1 s).span) then
    sapFinish l t { d.1 with code := 0xF000, toSlots := [], secure := 0x5003 } d.2
  else
    let w := if d.1.toSlots = [] then d else sapStore d.1 d.2
    if sapStored w.1 w.2 then sapFinish l t w.1 w.2 else keep w.1 w.2

/-- SAP_REQUEST_READY (14 R398): the tag's output and result are complete. An OPEN waits for its context, a COMMIT until it has
acted (10 R259, R260). -/
def sapRequestReadyS (l t : Nat) (s : State) : State :=
  match (sapTag l t s).req with
  | none => s
  | some r => if r.entry.isSome || r.commit.isSome || !leafAlive l s then s else sapReadyStep l t r s

/-- Meaning of SAP_REQUEST_READY. -/
def execSapRequestReady (l : Fin 192) (t : Fin 8) (s : State) : Host.Outcome State Fault Refusal :=
  act (sapRequestReadyS l.val t.val) s

end Sys2Proof.Machine
end

