-- ==== Sys2Proof/Machine/LeafWindow.lean ====
section
/-!
DEFINITION. Machine/LeafWindow.lean: the register window of a leaf (14_leaf_isa.md R376 and the registers it lists).
-/
namespace Sys2Proof.Machine

/-- PENDING's level events, which hold as long as their condition does (R393). -/
def leafLevels (l : Nat) (s : State) : W16 :=
  let x := leafAt l s
  let n := laneAt l s
  let m := tget {} s.lnk.mka l
  let a := setBit (0 : W16) 2 (isLane l s && n.head != n.consumed)
  let b := setBit a 3 (x.role == roleMka && (m.head != m.consumed || m.pnev != 0 || m.rxev != 0))
  setBit b 4 (escPends l s)

/-- PENDING (R389, R393): latched edges and levels. -/
def leafPending (l : Nat) (s : State) : W16 := (leafAt l s).events ||| leafLevels l s

/-- COUNT of LEAF_TIMER in the leaf's present cycle. -/
def Leaf.count (x : Leaf) : Nat := match x.timer with | some d => d - x.cyc | none => 0

/-- Word `i` of a leaf's Burl result window. -/
def LeafBrl.word (b : LeafBrl) (i : Nat) : W32 := BitVec.ofNat 32 (leNat (slice b.window (4 * i) 4))

/-- A load of LEAF_BRL_OUT_nn (15 R422): nothing before READY, and a secret word only once. -/
def brlOutLoad (l i : Nat) (s : State) : W32 × State :=
  let x := leafAt l s
  let b := x.brl
  if !b.ready then (0, setLeaf l { x with brl := { b with early := true } } s)
  else if b.window.length ≤ 4 * i then (0, s)
  else if tget false b.read i then (0, setLeaf l { x with brl := { b with twice := true } } s)
  else (b.word i, setLeaf l { x with brl := { b with read := tset false b.read i true } } s)

/-- LEAF_BRL_STAT. -/
def brlStat (l : Nat) (s : State) : Nat :=
  let b := (leafAt l s).brl
  let j := brlPort (eng (boughOfLeaf l) s) (l % 16)
  let mine := j != noJob && !j.orphan
  b2n b.ready + 2 * b2n mine + 4 * b2n (mine && j.running) + 8 * b2n b.reject + 16 * b2n b.early + 32 * b2n b.twice
    + 64 * b2n b.discarded

/-- LEAF_BRL_RESIDENT: registers of this leaf's program. -/
def brlResident (l : Nat) (s : State) : Nat :=
  let e := eng (boughOfLeaf l) s
  if e.last != some (brlWho (boughOfLeaf l) (l % 16) s) then 0
  else ((List.range 16).map (fun r =>
    let o := tget {} e.regs r
    b2n o.valid * 2 ^ r + b2n o.key * 2 ^ (16 + r))).sum

/-- CHK_nn_STAT. -/
def Chk.stat (c : Chk) : Nat :=
  b2n c.ready + 8 * b2n c.early + 16 * b2n c.overrun + 32 * b2n c.cfgErr + 64 * b2n c.dropped + 128 * b2n c.intrude
    + 256 * c.fifo.length

/-- A load from the check unit: RESULT and RAW before READY read zero with EARLY (06 R159). -/
def chkLoad (u o : Nat) (s : State) : W32 × State :=
  let c := chk u s
  let early := fun (v : W32) => if c.ready then (v, s) else (0, setChk u { c with early := true } s)
  match o with
  | 0x00 => (BitVec.ofNat 32 (c.width + 64 * b2n c.refIn + 128 * b2n c.refOut), s)
  | 0x04 => (c.poly, s) | 0x08 => (c.init, s) | 0x0C => (c.xorOut, s)
  | 0x20 => (BitVec.ofNat 32 c.stat, s)
  | 0x24 => early c.result
  | 0x28 => early c.raw
  | 0x2C => (c.bytes, s)
  | _ => (0, s)

/-- LEAF_SAP_STAT. -/
def sapStat (l : Nat) (s : State) : Nat :=
  let x := leafAt l s
  let busy := ((List.range 8).map (fun t => b2n (tget {} x.tags t).req.isSome * 2 ^ t)).sum
  let opens := (s.cnp.opens.filter (fun o => o.mgmt == 0 && o.leaf == l)).length
  (255 - busy) * 2 ^ 16 + busy * 2 ^ 8 + opens * 2 ^ 4 + 8 * b2n x.sapTwice + 4 * b2n x.sapReject

/-- A load of LEAF_SAP_RES_t: zero with EARLY before READY (R399). -/
def sapResLoad (l t : Nat) (s : State) : W32 × State :=
  let g := sapTag l t s
  if g.req.isSome then (0, modLeaf l (fun x => { x with early := true }) s) else (g.res, s)

/-- A 32-bit load from window offset `o`, with the value and the load's own effects. -/
def winLoad (l o : Nat) (s : State) : W32 × State :=
  let x := leafAt l s
  let n := laneAt l s
  let m := tget {} s.lnk.mka l
  let v := fun (k : Nat) => (BitVec.ofNat 32 k, s)
  if o = 0x04 then v (sapStat l s)
  else if 0x20 ≤ o ∧ o < 0x40 then sapResLoad l ((o - 0x20) / 4) s
  else if o = 0x404 then v (brlStat l s)
  else if o = 0x408 then
    if x.brl.ready then v (x.brl.code.toNat * 2 ^ 16 + x.brl.len % 2 ^ 16)
    else (0, setLeaf l { x with brl := { x.brl with early := true } } s)
  else if o = 0x40C then v (brlResident l s)
  else if 0x500 ≤ o ∧ o < 0x600 then brlOutLoad l ((o - 0x500) / 4) s
  else if o = 0x604 then
    v (x.dmaResult.toNat * 2 ^ 16 + 4 * b2n x.dmaReject + 2 * b2n x.dmaDone + b2n x.xfer.isSome)
  else if 0x800 ≤ o ∧ o < 0x830 then chkLoad (boughOfLeaf l) (o - 0x800) s
  else if o = 0xA00 then v (8 * b2n x.unmapped + 4 * b2n x.misalign + 2 * b2n x.undef + b2n x.sat)
  else if o = 0xA04 then v x.count
  else if o = 0xC00 ∧ isLane l s then (n.head, s)
  else if o = 0xC04 ∧ isLane l s then (n.consumed, s)
  else if o = 0xF04 ∧ x.role = roleEscape then v (fltEscPend s)
  else if x.role ≠ roleMka then (0, s)
  else match o with
    | 0xE00 => (m.head, s)
    | 0xE04 => (m.consumed, s)
    | 0xE10 => (m.pnev.extractLsb' 0 32, s)
    | 0xE14 => (m.pnev.extractLsb' 32 32, s)
    | 0xE18 => (m.rxev.extractLsb' 0 32, s)
    | 0xE1C => (m.rxev.extractLsb' 32 32, s)
    | _ => (0, s)

/-- A store to LEAF_SAP_REQ: the submission of its operation (R396). -/
def sapReqStore (l : Nat) (v : W32) (s : State) : State :=
  let op := bitsOf v.toNat 31 24
  let t := bitsOf v.toNat 18 16
  let d := bitsOf v.toNat 15 4 * 16
  if op = 0x40 then canopyOpenS l t d s
  else if op = 0x41 then canopyCommitS l t d s
  else if 0x48 ≤ op ∧ op ≤ 0x4E then mkaSubmit op l t d s
  else sapSubmit l t op d s

/-- A store to the check unit by this leaf (06 R155). -/
def chkStore (l : Nat) (o : Nat) (v : W32) (s : State) : State :=
  let u := boughOfLeaf l
  let who : ChkUser := .leaf ⟨l % 16, Nat.mod_lt _ (by decide)⟩
  match o with
  | 0x00 => chkConfigWriteS u who .cfg v s
  | 0x04 => chkConfigWriteS u who .poly v s
  | 0x08 => chkConfigWriteS u who .init v s
  | 0x0C => chkConfigWriteS u who .xorOut v s
  | 0x10 => if v.getLsbD 0 then chkStartS u who s else chkWrite u who (fun _ s => s) s
  | 0x14 => chkDataWriteS u who 0 v s
  | 0x18 => chkDataWriteS u who 1 v s
  | 0x1C => chkDataWriteS u who 2 v s
  | 0x20 => chkWrite u who (fun c s => setChk u { c with
      early := c.early && !v.getLsbD 3, overrun := c.overrun && !v.getLsbD 4, cfgErr := c.cfgErr && !v.getLsbD 5
      dropped := c.dropped && !v.getLsbD 6, intrude := c.intrude && !v.getLsbD 7 } s) s
  | 0x24 => chkWrite u who (fun _ s => s) s
  | 0x28 => chkWrite u who (fun _ s => s) s
  | 0x2C => chkWrite u who (fun _ s => s) s
  | _ => s

/-- A store to LEAF_TIMER in the leaf's present cycle: it reaches zero COUNT cycles later (log entry 7). -/
def timerStore (l : Nat) (v : W32) (s : State) : State :=
  modLeaf l (fun x => { x with timer := if v = 0 then none else some (x.cyc + v.toNat) }) s

/-- A 32-bit store to window offset `o`. -/
def winStore (l o : Nat) (v : W32) (s : State) : State :=
  let x := leafAt l s
  let half : Nat → W64 := fun k => if k = 0 then v.setWidth 64 else v.setWidth 64 <<< 32
  if o = 0x00 then sapReqStore l v s
  else if o = 0x04 then setLeaf l { x with sapTwice := x.sapTwice && !v.getLsbD 3, sapReject := x.sapReject && !v.getLsbD 2 } s
  else if o = 0x400 then brlSubmitLeaf l (v.toNat % 2 ^ 16) s
  else if o = 0x404 then
    setLeaf l { x with brl := { x.brl with
      reject := x.brl.reject && !v.getLsbD 3, early := x.brl.early && !v.getLsbD 4, twice := x.brl.twice && !v.getLsbD 5
      discarded := x.brl.discarded && !v.getLsbD 6 } } s
  else if o = 0x600 then dmaSubmit l (v.toNat % 2 ^ 16) s
  else if o = 0x604 then setLeaf l { x with dmaReject := x.dmaReject && !v.getLsbD 2 } s
  else if 0x800 ≤ o ∧ o < 0x830 then chkStore l (o - 0x800) v s
  else if o = 0xA00 then
    setLeaf l { x with
      unmapped := x.unmapped && !v.getLsbD 3, misalign := x.misalign && !v.getLsbD 2, undef := x.undef && !v.getLsbD 1 } s
  else if o = 0xA04 then timerStore l v s
  else if o = 0xC04 ∧ isLane l s then laneConsumedWriteS l v s
  else if o = 0xF00 ∧ x.role = roleEscape then escapeVerdictS l v s
  else if x.role ≠ roleMka then s
  else match o with
    | 0xE04 => mkaConsumedWriteS l v s
    | 0xE10 => modMka l (fun m => { m with pnev := m.pnev &&& ~~~ (half 0) }) s
    | 0xE14 => modMka l (fun m => { m with pnev := m.pnev &&& ~~~ (half 1) }) s
    | 0xE18 => modMka l (fun m => { m with rxev := m.rxev &&& ~~~ (half 0) }) s
    | 0xE1C => modMka l (fun m => { m with rxev := m.rxev &&& ~~~ (half 1) }) s
    | _ => s

end Sys2Proof.Machine
end

