-- ==== Sys2Proof/Machine/Update.lean ====
section
/-!
DEFINITION. Machine/Update.lean: update windows (09_recovery_and_keep_flash.md R222-R228) and the flash mailbox (08 R215-R217,
16 R441).
-/
namespace Sys2Proof.Machine

/-! ### Update windows -/

/-- An opening or a close that is refused: 0x2035 (R222). -/
def updRefuse (d : Nat) (s : State) : State :=
  emit .secure 0x2035 (srcDomain d) [] (modCdom d (fun x => { x with upd := { x.upd with result := 0x2035 } }) s)

/-- A window opens, or the reason it does not (R222). -/
def updOpen (d : Nat) (target : Bool) (s : State) : Bool × State :=
  let x := cdom d s
  if x.flt.phase = 2 ∧ x.upd.st = 0 ∧ x.src ≠ b2n target then
    let s := modCdom d (fun x => { x with upd := { st := 1, target := target, result := x.upd.result, lastAt := s.now } }) s
    (true, modFlt d (fun f => { f with phase := 3 }) s)
  else
    (false, updRefuse d s)

/-- UPDATE_OPEN (R222): CUS_nn_UPD_CMD.OPEN with TARGET by PF1. -/
def updateOpenS (t d : Nat) (target : Bool) (s : State) : State := pf1Do (fun s => (updOpen d target s).2) (atTime t s)

/-- Meaning of UPDATE_OPEN. -/
def execUpdateOpen (t : Nat) (d : Fin 32) (target : Bool) (s : State) : Host.Outcome State Fault Refusal :=
  act (updateOpenS t d.val target) s

/-- What the bytes programmed so far fail, as far as they decide (R224, R225). The signatures are checked apart. -/
def updCheck (d : Nat) (b : Bytes) (s : State) : Option W16 :=
  let x := cdom d s
  let h := hdrOf b
  if b.length < 512 then none
  else match headTest d (b.take 512) (updSlot x).2 (polShadow x.pol) 0 false s.fuses.fuseId with
    | some c => some c
    | none =>
      if b.length < h.headerLen then none
      else match signedTest (b.take h.headerLen) (polKeys x.pol) with
        | some c => some c
        | none =>
          let n := 48 * h.blocks
          let t := slice b h.headerLen n
          if b.length < h.headerLen + n then none
          else if sha384 t ≠ h.tableDigest then some 0x2005
          else if (List.range h.blocks).any (fun i =>
              let o := h.bodyOff + i * 2 ^ h.blockLog2
              decide (o + h.blockLen i ≤ b.length) && sha384 (slice b o (h.blockLen i)) != tableEntry t i) then some 0x2005
          else none

/-- Bytes join the window in order; the header complete starts the signature job (R224). -/
def updFeed (d : Nat) (data : Bytes) (s : State) : State :=
  let x := cdom d s
  if x.upd.st ≠ 1 then s
  else
    let b := x.upd.bytes ++ data
    let h := hdrOf b
    let due := decide (x.upd.bytes.length < h.headerLen ∧ h.headerLen ≤ b.length ∧ 512 ≤ b.length)
    let s := modCdom d (fun x => { x with upd := { x.upd with bytes := b, sigDue := x.upd.sigDue || due } }) s
    match updCheck d b s with
    | some c => updBreak d c s
    | none => s

/-- UPDATE_READBACK (R224, R225): the programmed bytes as read back. -/
def updateReadbackS (d : Nat) (flash : Bytes) (s : State) : State :=
  match (cdom d s).flt.fwd with
  | some w =>
    if w.check && w.polled then
      let s := modFlt d (fun f => { f with fwd := none, wip := false }) s
      if flash = w.data then updFeed d w.data s else updBreak d 0x2033 s
    else s
  | none => s

/-- Meaning of UPDATE_READBACK. -/
def execUpdateReadback (d : Fin 32) (flash : Bytes) (s : State) : Host.Outcome State Fault Refusal := act (updateReadbackS d.val flash) s

/-- The result of a closed window whose content is judged (R226, R227): a seal is owed on 0x2030. IMAGE_SVN below the floor gives 0x2006
(log entry 25). -/
def updFinish (d : Nat) (u : Upd) (s : State) : State :=
  let x := cdom d s
  let b := u.bytes
  let h := hdrOf b
  if b.length < 512 ∨ b.length < h.imageLen then updResult d 0x2031 u.viaMbx s
  else if !u.sigOk then updResult d 0x2004 u.viaMbx s
  else if h.svn < cusFloor d s then updResult d 0x2006 u.viaMbx s
  else
    let e := (b2n u.target, sha384 (b.take h.headerLen), sha384 x.pol)
    updResult d 0x2030 u.viaMbx (bump (cCus d 9) (modCdom d (fun x => { x with seals := x.seals ++ [e] }) s))

/-- A window is closed (R226): the phase returns to RUNTIME; a running signature job is waited for. -/
def updClose (d : Nat) (viaMbx : Bool) (s : State) : State :=
  let u := { (cdom d s).upd with viaMbx := viaMbx }
  let s := modFlt d (fun f => { f with phase := if f.phase = 3 then 2 else f.phase }) s
  let s := modCdom d (fun x => { x with upd := x.upd.shut }) s
  if u.st = 2 then updResult d u.code viaMbx s
  else if u.sigDue then modCdom d (fun x => { x with closed := x.closed ++ [u] }) s
  else updFinish d u s

/-- UPDATE_CLOSE: CUS_nn_UPD_CMD.CLOSE by PF1; without a window, 0x2035 (log entry 25). -/
def updateCloseS (t d : Nat) (s : State) : State :=
  pf1Do (fun s =>
    if (cdom d s).upd.st = 0 then updRefuse d s else updClose d false s) (atTime t s)

/-- Meaning of UPDATE_CLOSE. -/
def execUpdateClose (t : Nat) (d : Fin 32) (s : State) : Host.Outcome State Fault Refusal := act (updateCloseS t d.val) s

/-- The signatures of a window's image pass (R172, R224). -/
def updSig (u : Upd) (pol : Bytes) : Bool := sigTest (u.bytes.take (hdrOf u.bytes).headerLen) (polRule pol)

/-- UPDATE_SIG_VERIFY_DONE (R224-R226): the oldest signature job of the domain's windows ends at the custody bough; a window closed
meanwhile gets its result. -/
def updateSigVerifyDoneS (t d : Nat) (s : State) : State :=
  let s := atTime t s
  let x := cdom d s
  if !cusBoughRuns d s then s
  else match x.closed with
    | u :: r => updFinish d { u with sigOk := updSig u x.pol } (modCdom d (fun x => { x with closed := r }) s)
    | [] =>
      if !x.upd.sigDue then s
      else
        let ok := updSig x.upd x.pol
        let s := modCdom d (fun x => { x with upd := { x.upd with sigDue := false, sigOk := ok && x.upd.st != 2 } }) s
        if ok then s else updBreak d 0x2004 s

/-- Meaning of UPDATE_SIG_VERIFY_DONE. -/
def execUpdateSigVerifyDone (t : Nat) (d : Fin 32) (s : State) : Host.Outcome State Fault Refusal := act (updateSigVerifyDoneS t d.val) s

/-- UPDATE_ABANDON_TIMEOUT (R226): 600 s without a program or erase into the target slot. -/
def updateAbandonTimeoutS (t d : Nat) (s : State) : State :=
  let s := atTime t s
  let u := (cdom d s).upd
  if u.st ≠ 0 ∧ u.lastAt + 600 * psS ≤ s.now then
    updAbandon d (modFlt d (fun f => { f with phase := if f.phase = 3 then 2 else f.phase }) s)
  else s

/-- Meaning of UPDATE_ABANDON_TIMEOUT. -/
def execUpdateAbandonTimeout (t : Nat) (d : Fin 32) (s : State) : Host.Outcome State Fault Refusal :=
  act (updateAbandonTimeoutS t d.val) s

/-! ### The mailbox -/

/-- MBX_FUNCS permits a function group. -/
def mbxGroup (e : Bytes) (g : Nat) : Bool := bitOf (fieldLe e 0xA 2) g

/-- The result of a PUT, READY (R217). -/
def mbxDone (d tag : Nat) (code : W16) (data : Bytes) (s : State) : State :=
  modFlt d (fun f => { f with mbx := { tag := tag, ready := true, at_ := s.now, code := code, data := data } }) s

/-- A function or channel that is not permitted (R217). -/
def mbxDenied (d op addr tag : Nat) (s : State) : State := mbxDone d tag 0xF000 [] (fltRefuse d op 13 addr 0x202A s)

/-- One MBX_PUT (R215-R217): accepted in every phase after release; `go` is the function of a permitted group, `no` what a group that is not
permitted brings about beside its result. -/
def mbxPutOr (t d fn g arg tag : Nat) (data : Bytes) (ext : Bool) (no go : State → State) (s : State) : State :=
  let s := atTime t s
  let op := fieldLe (fltEntry d s) 8 1
  let addr := fn * 2 ^ 24 + arg * 2 ^ 16 + tag
  fltTxn d 13 op ext addr 0 (fun e s =>
    let m := (cdom d s).flt.mbx
    if data.length ≠ 64 ∨ !m.ready ∨ s.now < m.at_ then fltRefuse d op 13 addr 0x202B s
    else if !mbxGroup e g then no (mbxDenied d op addr tag s)
    else go (bump (cCus d 1) s)) s

/-- An MBX_PUT whose refusal does nothing more. -/
def mbxPut (t d fn g arg tag : Nat) (data : Bytes) (ext : Bool) (go : State → State) (s : State) : State :=
  mbxPutOr t d fn g arg tag data ext id go s

/-- A hollow channel that the domain may use: its outside end is the domain (16 R441). -/
def mbxChannel (d c : Nat) (s : State) : Bool := decide (16 ≤ c ∧ c < 64) && (hchan c s).outside == d + 2

/-- MBX_HOLLOW_SEND (R441): an acknowledgement whose bytes above its return code are not zero is a malformed frame (log entry 25). -/
def mbxHollowSendS (t d arg tag : Nat) (data : Bytes) (ext : Bool) (s : State) : State :=
  let c := hchan arg s
  let data := if mbxChannel d arg s && c.open_ && c.dirOut && !c.notice && !allZero (data.drop 4) then [] else data
  mbxPut t d 0x01 0 arg tag data ext (fun s =>
    let x := hchan arg s
    if !mbxChannel d arg s then mbxDenied d (fieldLe (fltEntry d s) 8 1) (2 ^ 24 + arg * 2 ^ 16 + tag) tag s
    else if x.open_ && x.dirOut && !x.notice then
      let r := hRxAck arg (BitVec.ofNat 16 (fieldLe data 0 2)) (BitVec.ofNat 16 (fieldLe data 2 2)) s
      mbxDone d tag (if r.1 then 0 else 0x8007) [] r.2
    else
      let r := hSend arg data s
      mbxDone d tag r.1 (if r.1 = 0 then leBytes 2 (hchan arg r.2).seq.toNat else []) r.2) s

/-- Meaning of MBX_HOLLOW_SEND. -/
def execMbxHollowSend (t : Nat) (d : Fin 32) (arg : BitVec 8) (tag : BitVec 16) (data : Bytes) (ext : Bool) (s : State) :
    Host.Outcome State Fault Refusal := act (mbxHollowSendS t d.val arg.toNat tag.toNat data ext) s

/-- MBX_BOOT_DONE (R188, R216). -/
def mbxBootDoneS (t d arg tag : Nat) (data : Bytes) (ext : Bool) (s : State) : State :=
  mbxPut t d 0x10 1 arg tag data ext (fun s => mbxDone d tag 0 [] (bootEnd d s)) s

/-- Meaning of MBX_BOOT_DONE. -/
def execMbxBootDone (t : Nat) (d : Fin 32) (arg : BitVec 8) (tag : BitVec 16) (data : Bytes) (ext : Bool) (s : State) :
    Host.Outcome State Fault Refusal := act (mbxBootDoneS t d.val arg.toNat tag.toNat data ext) s

/-- MBX_RAISE_FLOOR (R179, R216, R220, R244, R550): the result waits for the raise. -/
def mbxRaiseFloorS (t d arg tag : Nat) (data : Bytes) (ext : Bool) (s : State) : State :=
  mbxPut t d 0x11 2 arg tag data ext (fun s =>
    let x := cdom d s
    if !polOnCommand x.pol || decide (x.svn.toNat ≤ cusFloor d s) then mbxDone d tag 0 [] s
    else if 4096 ≤ s.fuses.anchor then mbxDone d tag 0xF000 [] (floorRaise d 2 s)
    else if journalShut s then mbxDone d tag 0x2044 [] (floorRaise d 2 s)
    else floorRaise d 2 (modFlt d (fun f => { f with mbx := { tag := tag, ready := false } }) s)) s

/-- Meaning of MBX_RAISE_FLOOR. -/
def execMbxRaiseFloor (t : Nat) (d : Fin 32) (arg : BitVec 8) (tag : BitVec 16) (data : Bytes) (ext : Bool) (s : State) :
    Host.Outcome State Fault Refusal := act (mbxRaiseFloorS t d.val arg.toNat tag.toNat data ext) s

/-- MBX_REBOOT (R183, R216). -/
def mbxRebootS (t d arg tag : Nat) (data : Bytes) (ext : Bool) (s : State) : State :=
  mbxPut t d 0x12 3 arg tag data ext (fun s => cusReboot d (mbxDone d tag 0 [] s)) s

/-- Meaning of MBX_REBOOT. -/
def execMbxReboot (t : Nat) (d : Fin 32) (arg : BitVec 8) (tag : BitVec 16) (data : Bytes) (ext : Bool) (s : State) :
    Host.Outcome State Fault Refusal := act (mbxRebootS t d.val arg.toNat tag.toNat data ext) s

/-- MBX_UPDATE_OPEN (R222): ARG 0 slot A, 1 slot B, and 64 zero data bytes; with other bytes the frame is malformed (log entry 25). A
refusal, for want of the function group too, shows the domain 0xF000. -/
def mbxUpdateOpenS (t d arg tag : Nat) (data : Bytes) (ext : Bool) (s : State) : State :=
  let data := if allZero data then data else []
  mbxPutOr t d 0x13 4 arg tag data ext (updRefuse d) (fun s =>
    if 1 < arg then mbxDone d tag 0xF000 [] (updRefuse d s)
    else
      let r := updOpen d (arg == 1) s
      mbxDone d tag (if r.1 then 0 else 0xF000) [] r.2) s

/-- Meaning of MBX_UPDATE_OPEN. -/
def execMbxUpdateOpen (t : Nat) (d : Fin 32) (arg : BitVec 8) (tag : BitVec 16) (data : Bytes) (ext : Bool) (s : State) :
    Host.Outcome State Fault Refusal := act (mbxUpdateOpenS t d.val arg.toNat tag.toNat data ext) s

/-- MBX_UPDATE_CLOSE (R226): the code itself, READY 20 µs after the close or the signature job's end. -/
def mbxUpdateCloseS (t d arg tag : Nat) (data : Bytes) (ext : Bool) (s : State) : State :=
  mbxPut t d 0x14 4 arg tag data ext (fun s =>
    if (cdom d s).upd.st = 0 then mbxDone d tag 0xF000 [] (updRefuse d s)
    else updClose d true (modFlt d (fun f => { f with mbx := { tag := tag, ready := false } }) s)) s

/-- Meaning of MBX_UPDATE_CLOSE. -/
def execMbxUpdateClose (t : Nat) (d : Fin 32) (arg : BitVec 8) (tag : BitVec 16) (data : Bytes) (ext : Bool) (s : State) :
    Host.Outcome State Fault Refusal := act (mbxUpdateCloseS t d.val arg.toNat tag.toNat data ext) s

/-- MBX_CUSTODY_INFO (R216). -/
def mbxCustodyInfoS (t d arg tag : Nat) (data : Bytes) (ext : Bool) (s : State) : State :=
  mbxPut t d 0x15 5 arg tag data ext (fun s =>
    let x := cdom d s
    mbxDone d tag 0 (padTo 64 (leBytes 8 x.seq.toNat ++ leBytes 4 x.svn.toNat ++ leBytes 4 (cusFloor d s) ++ leBytes 1 x.src
      ++ leBytes 1 x.flt.phase)) s) s

/-- Meaning of MBX_CUSTODY_INFO. -/
def execMbxCustodyInfo (t : Nat) (d : Fin 32) (arg : BitVec 8) (tag : BitVec 16) (data : Bytes) (ext : Bool) (s : State) :
    Host.Outcome State Fault Refusal := act (mbxCustodyInfoS t d.val arg.toNat tag.toNat data ext) s

/-- The result word and 64 data bytes of an MBX_GET (R215, R217). -/
def mbxWord (d : Nat) (code : W16) (low : Nat) (data : Bytes) (s : State) : State :=
  spiOut d (leBytes 4 (code.toNat * 65536 + low) ++ padTo 64 data) s

/-- MBX_RESULT (R217): before READY a zero word and zero data, and EARLY. -/
def mbxResultS (t d : Nat) (ext : Bool) (s : State) : State :=
  let s := atTime t s
  let op := fieldLe (fltEntry d s) 9 1
  fltTxn d 13 op ext (0x80 * 2 ^ 24) 68 (fun _ s =>
    let m := (cdom d s).flt.mbx
    let s := bump (cCus d 1) s
    if m.ready && decide (m.at_ ≤ s.now) then mbxWord d m.code m.tag m.data s
    else mbxWord d 0 0 [] (modFlt d (fun f => { f with early := true }) s)) s

/-- Meaning of MBX_RESULT. -/
def execMbxResult (t : Nat) (d : Fin 32) (ext : Bool) (s : State) : Host.Outcome State Fault Refusal := act (mbxResultS t d.val ext) s

/-- MBX_HOLLOW_RECV (R441). -/
def mbxHollowRecvS (t d c : Nat) (ext : Bool) (s : State) : State :=
  let s := atTime t s
  let op := fieldLe (fltEntry d s) 9 1
  let addr := 0x81 * 2 ^ 24 + c * 2 ^ 16
  fltTxn d 13 op ext addr 68 (fun e s =>
    let x := hchan c s
    if !mbxGroup e 6 || !mbxChannel d c s || (!x.dirOut && x.notice) then
      mbxWord d 0xF000 0 [] (fltRefuse d op 13 addr 0x202A s)
    else
      let s := bump (cCus d 1) s
      if x.dirOut then
        match (if x.open_ then hTake c s else none) with
        | some (m, s) => mbxWord d 0 m.seq.toNat m.data s
        | none => mbxWord d 0x8005 0 [] s
      else match hAckTake c s with
        | some (a, s) => mbxWord d 0 a.1.toNat (leBytes 2 a.2.toNat) s
        | none => mbxWord d 0x8005 0 [] s) s

/-- Meaning of MBX_HOLLOW_RECV. -/
def execMbxHollowRecv (t : Nat) (d : Fin 32) (c : BitVec 8) (ext : Bool) (s : State) : Host.Outcome State Fault Refusal :=
  act (mbxHollowRecvS t d.val c.toNat ext) s

end Sys2Proof.Machine
end

