-- ==== Sys2Proof/Machine/Disable.lean ====
section
/-!
DEFINITION. Machine/Disable.lean: the disable group of Canopy lanes, custody ports, rind pipes and Burl engines (01 R24-R31;
07 R184, 08 R221, 10 R287, 12 R344, 15 R423). A frame and an SPI transaction are whole in one command, so none is in flight
between two commands (log entry 31).
-/
namespace Sys2Proof.Machine

/-- Key of a unit in the table of groups. -/
def unitKey : UnitId → Nat
  | .lane l => l.val
  | .custody d => 192 + d.val
  | .rxp p => 224 + p.val
  | .txp p => 240 + p.val
  | .burl b => 256 + b.val

/-- A unit's group. -/
def disOf (u : UnitId) (s : State) : Dis := tget {} s.dis (unitKey u)
/-- Change a unit's group. -/
def modDis (u : UnitId) (f : Dis → Dis) (s : State) : State := { s with dis := tmod {} s.dis (unitKey u) f }

/-- A group that acts: a lane's only on a Canopy-lane leaf (CNP_LANE_nnn_CTRL). -/
def disActs (u : UnitId) (s : State) : Bool :=
  match u with
  | .lane l => isLane l.val s
  | _ => true

/-- Work in flight that a DRAIN finishes (R27, R28; 08 R221). -/
def disBusy (u : UnitId) (s : State) : Bool :=
  match u with
  | .lane l =>
    s.cnp.opens.any (fun o => o.mgmt == 0 && o.begun && o.leaf == l.val) || s.cnp.held.any (fun h => h.leaf == l.val)
  | .custody d => (cdom d.val s).flt.esc.isSome
  | .rxp _ => false
  | .txp _ => false
  | .burl b => (eng b.val s).ports.any (fun p => p.2.running)

/-- The lane's OPENs and held COMMITs are discarded (R28): the entries stay held, and a later COMMIT of a discarded OPEN has no effect. The
CODE of a discarded COMMIT is free (log entry 31). -/
def laneCut (l : Nat) (s : State) : Nat × State :=
  let held := s.cnp.held.filter (fun h => h.leaf == l)
  let open_ := s.cnp.opens.filter (fun o => o.mgmt == 0 && o.begun && o.leaf == l)
  let s := modCnp (fun n => { n with
    held := n.held.filter (fun h => h.leaf != l)
    opens := n.opens.filter (fun o => o.mgmt != 0 || !o.begun || o.leaf != l) }) s
  let s := modLane l (fun x => { x with cut := x.cut ++ open_.map (·.token) }) s
  let s := foldS (fun (h : HeldCommit) s => let f := drawFree s; commitReady l h.tag (f.1.setWidth 16) f.2) held s
  let n := held.length + open_.length
  (n, beginOpens (if n = 0 then s else bumpBy (cLane l 6) n s))

/-- A CUT discards what is in flight (R28); the number of items. Of a custody port these are the escape that waits, the blocks not accepted
yet, and the part of the image that is being read. -/
def disDiscard (u : UnitId) (s : State) : Nat × State :=
  match u with
  | .lane l => laneCut l.val s
  | .custody d =>
    let x := cdom d.val s
    let reads := x.step == .header || x.step == .table || (x.step == .body && decide (x.accepted + x.pendingB.length < x.hdr.blocks))
    (b2n x.flt.esc.isSome + x.pendingB.length + b2n (reads && x.src != 3),
      escDrop d.val (modCdom d.val (fun x => { x with pendingB := [] }) s))
  | .rxp _ => (0, s)
  | .txp _ => (0, s)
  | .burl b => brlCut b.val s

/-- The disable becomes a CUT. -/
def disCut (u : UnitId) (s : State) : State :=
  let r := disDiscard u s
  modDis u (fun d => { d with cut := true, discarded := d.discarded + r.1 }) r.2

/-- What quiescence brings about in the unit: a custody port holds its domain (07 R184, R185). -/
def disQuiet (u : UnitId) (s : State) : State :=
  match u with
  | .custody d =>
    let x := cdom d.val s
    if !cusConfigured d.val s || x.st == .fenced then s
    else
      let g := disOf u s
      let s := if cusBooting x && g.cut then cusRecord d.val 0x2010 6 x.src s else s
      cusHold d.val .held s
  | _ => s

/-- Code and SOURCE of the one event of a disable (R31). -/
def disEvent (u : UnitId) : W16 × W16 :=
  match u with
  | .lane l => (0x300D, srcLeaf l.val)
  | .custody d => (0x2010, srcDomain d.val)
  | .rxp p => (0x400C, srcPort p.val 0)
  | .txp p => (0x400C, srcPort p.val 0)
  | .burl b => (0x503F, srcBough b.val)

/-- Work that a disable refused and kept is taken up after the enable (R26). -/
def disResume (u : UnitId) (s : State) : State :=
  match u with
  | .lane l => beginOpens (laneWork l.val s)
  | .custody d => if cusConfigured d.val s then modCdom d.val (fun x => { x with bootDue := true }) s else s
  | .rxp p =>
    let q := (portAt p.val s).heldRx
    let s := modPort p.val (fun x => { x with heldRx := [] }) s
    let s := foldS (fun (e : Nat × Bytes) s => rxFrame p.val e.1 e.2 s) q s
    let t := partner p.val s
    foldS (fun k s => if (lport t k s).xoff then s else flowEmit p.val t k 0 s) (List.range (lportCount (gport t s).mode)) s
  | _ => s

/-- The unit accepts work again (R30). -/
def disOn (u : UnitId) (s : State) : State :=
  disResume u (modDis u (fun d => { d with off := false, enPending := false, quiesced := false }) s)

/-- A disable completes: QUIESCED, its one event, and an enable that waited (R25, R30, R31). -/
def disFinish (u : UnitId) (s : State) : State :=
  let s := disQuiet u s
  let d := disOf u s
  let e := disEvent u
  let s := emit .info e.1 e.2 (d2 e.2.toNat ++ d1 (b2n d.cut) ++ d1 (b2n d.bound) ++ d4 d.discarded) s
  let s := modDis u (fun d => { d with quiesced := true, running := false, cut := false, bound := false, discarded := 0 }) s
  if d.enPending then disOn u s else s

/-- XOFF of a disabled ingress pipe (12 R344). -/
def disXoff (u : UnitId) (s : State) : State :=
  match u with
  | .rxp p =>
    let t := partner p.val s
    foldS (fun k s => flowEmit p.val t k 0xFFFF s) (List.range (lportCount (gport t s).mode)) s
  | _ => s

/-- EN written 0 with a MODE (R24, R26, R29). A pending enable is withdrawn, and a new DRAIN clears ESCALATED, which is about the last DRAIN
(log entry 31). -/
def disStart (u : UnitId) (cut : Bool) (s : State) : State :=
  let d := disOf u s
  if !disActs u s then s
  else if d.running then
    let s := modDis u (fun d => { d with mode := cut, enPending := false }) s
    if cut && !d.cut then disCut u s else s
  else if d.off then modDis u (fun d => { d with mode := cut }) s
  else
    let s := modDis u (fun d => { d with
      off := true, mode := cut, running := true, quiesced := false, escalated := if cut then d.escalated else false }) s
    disXoff u (if cut then disCut u s else s)

/-- Meaning of DISABLE_START: a write through PF1. -/
def execDisableStart (u : UnitId) (cut : Bool) (s : State) : Host.Outcome State Fault Refusal := act (pf1Do (disStart u cut)) s

/-- MODE written 1 during a DRAIN (R29): a CUT at once, ESCALATED 0. -/
def modeCutS (u : UnitId) (s : State) : State :=
  let d := disOf u s
  if d.running && !d.cut then disCut u (modDis u (fun d => { d with mode := true }) s) else s

/-- Meaning of MODE_CUT_DURING_DRAIN. -/
def execModeCutDuringDrain (u : UnitId) (s : State) : Host.Outcome State Fault Refusal := act (pf1Do (modeCutS u)) s

/-- A DRAIN reaches its bound (R27). -/
def disBound (u : UnitId) (s : State) : State :=
  let d := disOf u s
  if d.running && !d.cut then disCut u (modDis u (fun d => { d with escalated := true, bound := true }) s) else s

/-- Meaning of DRAIN_BOUND_EXPIRY. -/
def execDrainBoundExpiry (u : UnitId) (s : State) : Host.Outcome State Fault Refusal := act (disBound u) s

/-- DISABLE_COMPLETE (R31): the last work in flight has ended. -/
def disComplete (u : UnitId) (s : State) : State :=
  let d := disOf u s
  if d.running && (d.cut || !disBusy u s) then disFinish u s else s

/-- Meaning of DISABLE_COMPLETE. -/
def execDisableComplete (u : UnitId) (s : State) : Host.Outcome State Fault Refusal := act (disComplete u) s

/-- EN written 1 with a MODE (R29, R30): pending until the running disable completes. -/
def disEnable (u : UnitId) (cut : Bool) (s : State) : State :=
  let d := disOf u s
  if !disActs u s then s
  else
    let s := if cut then modeCutS u s else s
    let s := modDis u (fun d => { d with mode := cut }) s
    if d.running then modDis u (fun d => { d with enPending := true }) s
    else if d.off then disOn u s
    else s

/-- Meaning of ENABLE_WRITE. -/
def execEnableWrite (u : UnitId) (cut : Bool) (s : State) : Host.Outcome State Fault Refusal := act (pf1Do (disEnable u cut)) s

end Sys2Proof.Machine
end

