-- ==== Sys2Proof/Machine/GrainCheck.lean ====
section
/-!
DEFINITION. Machine/GrainCheck.lean: the structural checks of a Grain that stands in staging (04 R111; 13 R347-R362 and the rules of
the other chapters that refuse a Grain with 0x1015).
-/
namespace Sys2Proof.Machine

/-- Every leaf entry of a Grain with its global number. -/
def leavesOf (g : Grain) : List (Nat × LeafEntry) := (g.boughs.flatMap (fun b => b.leaves)).zipIdx.map (fun e => (e.2, e.1))
/-- Role that a Grain gives a leaf; roleIdle beyond the leaves. -/
def roleIn (g : Grain) (l : Nat) : Nat := (((g.boughs.getD (l / 16) {}).leaves).getD (l % 16) {}).role

/-- Trained DRAM in bytes. -/
def dramBytes (s : State) : Nat :=
  (([0, 1, 2, 3].filter (fun c => s.boot.dramTrained.getLsbD c)).map (fun c => s.boot.dramGib.getD c 0)).sum * 2 ^ 30

/-- Two MiB. -/
def mib2 : Nat := 2097152

/-- ID_COUNT of the west neighbour of a member: the range that it takes over as buddy (R352). -/
def westCount (ms : List GMember) (m : Nat) : Nat := (ms.getD ((m + ms.length - 1) % max 1 ms.length) {}).idCount

/-- The device's place in a Grain's member map. -/
def placeIn (g : Grain) (s : State) : Option Nat :=
  match g.grove with
  | none => none
  | some ms => ms.findIdx? (fun m => m.fuseId == s.fuses.fuseId)

/-- The takeover ID_COUNT of R352. -/
def takeoverCount (g : Grain) (s : State) : Nat :=
  match g.grove, placeIn g s with
  | some ms, some m => westCount ms m
  | _, _ => 0

/-- MEMORY (R352). -/
def memoryOk (g : Grain) (s : State) : Bool :=
  let m := g.memory
  let ps := [m.ring, m.spill, m.shadows, m.work]
  let dram := dramBytes s
  let c := g.canopy.getD {}
  let need := (g.custody.domains.map (fun e => polShadow e.2.policy)).sum
  (ps ++ [m.stage]).all (fun p => p.base % mib2 == 0 && p.bytes % mib2 == 0 && decide (p.base + p.bytes ≤ dram))
    && disjointRanges (ps.map (fun p => (p.base, p.bytes))) && decide ((ps.map (·.bytes)).sum ≤ dram)
    && decide (64 * (c.idCount + takeoverCount g s) ≤ m.ring.bytes) && m.spill.bytes == c.spillBytes
    && decide (need ≤ m.shadows.bytes) && decide (m.shadows.bytes ≤ 4096 * mib2)
    && m.work.base == 0 && decide (32 * mib2 ≤ m.work.bytes)
    && m.stage.bytes == 16 * mib2 && decide (m.stage.base + m.stage.bytes ≤ m.work.bytes)

/-- No two regions that sections name overlap in one twig, and each lies in the twig's memory (R352, R255, R195). -/
def twigOk (g : Grain) : Bool :=
  (List.range 48).all (fun t =>
    (twigRegions g t).all (fun r => decide (r.1 + r.2 ≤ 262144)) && disjointRanges (twigRegions g t))

/-- A SecY record of a protected port (R330, R333, R354). -/
def secyOk (g : Grain) (y : GSecy) : Bool :=
  decide (y.present ≤ 1) && (y.present == 0 ||
    (decide (y.suite ≤ 3) && decide (y.conf ≤ 3) && decide (y.sci ≤ 1) && decide (y.validate ≤ 1) && roleIn g y.mkaLeaf == roleMka
      && decide (64 ≤ y.cakSlot ∧ y.cakSlot < 4096)))

/-- One port's ranges, and its headroom H against half a queue (R316, R341, R354); `s` holds the Grain under test.  KR1 runs
only as 4×100G, MODE 2 (DEDUCED, log 42). -/
def portOk (g : Grain) (p : Nat) (x : GPort) (s : State) : Bool :=
  decide (x.mode ≤ 2) && decide (x.elec ≤ 1) && (x.elec == 0 || x.mode == 2) && decide (x.pair ≤ 7) && decide (x.outer ≤ 1) && decide (x.prot ≤ 1)
    && decide (x.fwd ≤ 1) && decide (x.flow ≤ 2) && (x.prot == 0 || x.secy.all (secyOk g))
    && decide (2 * headroom p s ≤ queueSize p s)

/-- The guard pairs (R319): each has one outer and one inner port of one limb and one mode. -/
def pairsOk (l : List GPort) : Bool :=
  (List.range 8).all (fun n =>
    let ps := l.zipIdx.filter (fun e => e.1.pair == n)
    match ps with
    | [a, b] => a.1.outer != b.1.outer && a.2 / 4 == b.2 / 4 && a.1.mode == b.1.mode
    | _ => false)

/-- PORTS. -/
def portsOk (g : Grain) (s : State) : Bool :=
  match g.ports with
  | none => true
  | some l =>
    let s : State := { s with grn := { s.grn with grain := g } }
    pairsOk l && l.zipIdx.all (fun e => portOk g e.2 e.1 s)

/-- SIEVE (R325, R327): the entries' ranges, and each template that an entry names. -/
def sieveOk (v : GSieve) : Bool :=
  v.entries.all (fun l => l.all (fun e =>
    decide (fieldLe e 0 1 ≤ 3) && decide (fieldLe e 3 1 ≤ 120) && (fieldLe e 0 1 != 1 ||
      (decide (fieldLe e 0xE 1 ≤ 120) && decide (fieldLe e 0xF 1 ≤ 63)
        && (let n := fieldLe (v.templates.getD (fieldLe e 0xF 1) []) 0 1; decide (14 ≤ n ∧ n ≤ 112))))))
    && v.templates.all (fun t => decide (fieldLe t 0 1 ≤ 112))

/-- ESC_BITMAP holds no read-direction opcode (R196). -/
def escOk (e : Bytes) : Bool :=
  (List.range 256).all (fun o => !eEscapes e o || !(([0, 1, 2, 13].contains (fltClass e o)) || (fltClass e o == 8 && secRead e o)))

/-- A filter entry (R195, R196, R208) of a domain whose configured mode is `mode`. -/
def filterOk (g : Grain) (mode : Nat) (e : Bytes) : Bool :=
  let put := fieldLe e 8 1
  let get := fieldLe e 9 1
  let leaf := fieldLe e 4 2
  decide (fieldLe e 0 1 ≤ 32) && decide (fieldLe e 2 1 ≤ 1) && (fieldLe e 3 1 == 0 || fieldLe e 3 1 == mode) && decide (fieldLe e 6 2 ≤ 3600)
    && (eRules e).all (fun r => fieldLe r 0 4 % 4096 == 0 && fieldLe r 4 4 % 4096 == 0 && decide (4096 ≤ fieldLe r 4 4))
    && (leaf == 0xFFFF || (decide (leaf < 192) && roleIn g leaf == roleEscape)) && fieldLe e 0x10 4 % 32768 == 0
    && (List.range 256).all (fun o => decide (eOvr e o ≤ 14) || eOvr e o == 0x18 || eOvr e o == 0xFF)
    && put != get && [put, get].all (fun o => (eOvr e o == 13 || eOvr e o == 14 || eOvr e o == 0xFF)
        && (eOvr e o != 0xFF || (classDefault o == 14 && !(eMirror e).any (fun m => m.1 == o))))
    && escOk e
    && (eSwitch e).all (fun p => fieldLe p 7 1 == 0 || fieldLe p 7 1 == mode)
    && (eMirror e).all (fun m => decide (m.2.1 ≤ 4) && (decide (m.2.2.1 ≤ 31) || m.2.2.1 == 0xFF))

/-- A policy entry (R171, R355). -/
def policyOk (d : Nat) (p : Bytes) : Bool :=
  let kc := fieldLe p 7 1
  fieldLe p 0 1 == d && decide (polRule p ≤ 2) && decide (fieldLe p 2 1 ≤ 1) && decide (fieldLe p 3 1 < 12)
    && (decide (fieldLe p 4 1 < 12) || fieldLe p 4 1 == 0xFF) && decide (polMode p false ≤ 3) && decide (polMode p true ≤ 3)
    && decide (1 ≤ kc ∧ kc ≤ 4) && decide (polShadow p ≤ 268435456) && allZero (slice p (0x40 + 48 * kc) (48 * (4 - kc)))

/-- CUSTODY (R80, R171, R195, R196, R208, R355). -/
def custodyOk (g : Grain) : Bool :=
  (g.custody.domains == [] || decide (1 ≤ g.custody.spacingMs ∧ g.custody.spacingMs ≤ 1000))
    && g.custody.domains.all (fun e => policyOk e.1 e.2.policy && filterOk g (polMode e.2.policy false) e.2.filter)

/-- One CLASS entry (R274). -/
def classOk (c : GClass) : Bool :=
  decide (1 ≤ c.rx1) && decide (c.rx1 + 1 ≤ c.rx2 ∧ c.rx2 ≤ 1023) && decide (1 ≤ c.lead ∧ c.lead ≤ c.rx1)

/-- Bits of the boughs that hold a Canopy lane. -/
def laneBoughs (g : Grain) : List Nat :=
  (List.range 12).filter (fun b => ((g.boughs.getD b {}).leaves).any (fun l => l.role == roleLane))

/-- The slot policy's terms for the fleet root (R129, R248). -/
def fleetOk (g : Grain) (c : GCanopy) : Bool :=
  match g.slotPolicy.find? (fun e => decide (e.first ≤ c.fleetSlot ∧ c.fleetSlot < e.first + e.num)) with
  | none => false
  | some e => e.types.getLsbD 3 && e.usages.getLsbD 4 && e.dest.getLsbD 1 && !e.dest.getLsbD 2
      && (laneBoughs g).all (fun b => e.boughs.getLsbD b)

/-- CANOPY (R248, R274, R290); without it no leaf is a Canopy lane (R350). -/
def canopyOk (g : Grain) : Bool :=
  match g.canopy with
  | none => (leavesOf g).all (fun e => e.2.role != roleLane)
  | some c =>
    decide (1 ≤ c.idCount ∧ c.idCount ≤ 4194304) && decide (64 ≤ c.fleetSlot ∧ c.fleetSlot ≤ 4095) && fleetOk g c
      && c.laneTable.all (fun l => decide (l.toNat < 192) && roleIn g l.toNat == roleLane)
      && c.channelMap.all (fun n => decide (n.toNat ≤ 31)) && c.laneRing % 32768 == 0
      && decide (64 ≤ c.leaseStep ∧ c.leaseStep ≤ 65536) && decide (1 ≤ c.dlTtl ∧ c.dlTtl ≤ 16777215)
      && decide (c.imageWait ≤ 600) && (c.imagePeriod == 0 || decide (3600 ≤ c.imagePeriod ∧ c.imagePeriod ≤ 604800))
      && (c.spillBytes == 0 || (decide (32 * mib2 ≤ c.spillBytes ∧ c.spillBytes ≤ 4096 * mib2) && c.spillBytes % mib2 == 0))
      && decide (c.reinMark.getD 0 0 < c.reinMark.getD 1 0 ∧ c.reinMark.getD 1 0 < c.reinMark.getD 2 0)
      && decide (c.reinMark.getD 2 0 ≤ 1000) && decide (10 ≤ c.reinHyst ∧ c.reinHyst ≤ 500)
      && decide (c.reinHyst < c.reinMark.getD 0 0) && decide (c.joinMark ≤ 1001)
      && decide (1000 ≤ c.reinRate ∧ c.reinRate ≤ 1000000)
      && c.laneSpare.all (fun n => n == 0xFFFF || (decide (n < 192) && roleIn g n == roleSpare))
      && c.cls.all classOk && c.recCh.all (fun r => decide (r.port < 16) && decide (r.lport < 4))

/-- Two lists of identities hold no repeat. -/
def noDupB : List Bytes → Bool
  | [] => true
  | a :: t => !t.contains a && noDupB t

/-- GROVE (R290, R356, R498), and CANOPY's range against the member's own entry (R356; log entry 33). -/
def groveOk (g : Grain) (s : State) : Bool :=
  match g.grove with
  | none => true
  | some ms =>
    decide (16 ≤ ms.length ∧ ms.length ≤ 64) && noDupB (ms.map (·.fuseId)) && disjointRanges (ms.map (fun m => (m.idBase, m.idCount)))
      && ms.zipIdx.all (fun e => decide (e.1.idCount + westCount ms e.2 ≤ 4194304))
      && (match g.canopy with
          | none => true
          | some c =>
            let own := ms.getD ((placeIn g s).getD ms.length) {}
            own.fuseId == s.fuses.fuseId && own.idBase == c.idBase && own.idCount == c.idCount)

/-- The vendor's signature over an AMENDMENTS section (R86, R358). -/
def amendSigned (b : Bytes) : Bool :=
  b == [] ||
    (let e := amendCodeEnd b
     match parseSigned (b.drop e) with
     | none => false
     | some g => g.digest == Config.vendorKeyDigest && allVerify g (b.take e))

/-- The fields that only a restart may change (R362). -/
def restartNeeded (a b : Grain) : Bool :=
  let id := fun (g : Grain) => g.canopy.map (fun c => (c.idBase, c.idCount, c.fleetSlot))
  let mem := fun (g : Grain) => g.grove.map (fun l => l.map (fun m => (m.idBase, m.idCount)))
  a.time.epochSec != b.time.epochSec || a.time.epochNs != b.time.epochNs || a.time.slotUs != b.time.slotUs
    || a.memory.ring != b.memory.ring || a.memory.shadows != b.memory.shadows || a.memory.stage != b.memory.stage
    || id a != id b || mem a != mem b || a.amendments != b.amendments

/-- Every check that gives 0x1015. -/
def structureOk (g : Grain) (s : State) : Bool :=
  g.boughs.length == 12 && g.boughs.all (boughOk g) && decide (g.pf1 ≤ 1) && timeOk g.time && energyOk g.time.slotUs g.energy
    && slotPolicyOk g.slotPolicy && signersOk g.signers && g.programs.all (fun e => programOk e.2) && memoryOk g s && twigOk g
    && portsOk g s && sieveOk g.sieve && custodyOk g && decide (3600 ≤ g.ckptPeriodS) && canopyOk g && groveOk g s
    && amendOk g.amendments

/-- The Grain in staging, laid over the installed one where it is partial. -/
def stagedGrain (s : State) : Grain :=
  let head := tget [] s.grn.push.staging 0
  let body := stagedBody s.grn.push
  if (headFields head).isPartial then parsePartial s.grn.grain head body else parseFull head body

/-- Every block but the final one is 64 KiB long, and the body has BODY_LEN bytes (R98, R346). -/
def blocksFull (p : Push) : Bool :=
  (p.staging.dropLast).all (fun e => e.2.length == 65536)
    && (stagedBody p).length == (headFields (tget [] p.staging 0)).bodyLen

/-- The code of the first structural failure, none when the Grain may be installed (R111, R347, R360, R362, R367). The codes are
tried in the order 0x1025, 0x1015 for the bundle, 0x1018, 0x1015, 0x1016, 0x1026 (log entry 42). -/
def grainRefusal (s : State) : Option W16 :=
  let head := tget [] s.grn.push.staging 0
  let g := stagedGrain s
  if (headFields head).isPartial && !partialTypesOk head then some 0x1025
  else if !sectionsOk head (stagedBody s.grn.push) || !blocksFull s.grn.push then some 0x1015
  else if s.boot.src == 2 && (placeIn g s).isNone then some 0x1018
  else if !structureOk g s then some 0x1015
  else if !amendSigned g.amendments then some 0x1016
  else if s.grn.installed && restartNeeded s.grn.grain g then some 0x1026
  else none

end Sys2Proof.Machine
end

