-- ==== Sys2Proof/Machine/LeafExec.lean ====
section
/-!
DEFINITION. Machine/LeafExec.lean: issue and completion on a leaf (14_leaf_isa.md R368-R372, R374, R389-R395): the list of
completions in flight, the delay slots, the accumulator's fitting, WAIT, and the timer.
-/
namespace Sys2Proof.Machine

/-! ### Registers, flags and the accumulator -/

/-- A register; w0 reads as zero (R373). -/
def Leaf.reg (x : Leaf) (r : BitVec 5) : W32 := if r = 0 then 0 else tget 0 x.w r.toNat

/-- Flag Z. -/
def zOf (r : W32) : Bool := r == 0
/-- Flag N. -/
def nOf (r : W32) : Bool := r.msb

/-- The flags word (R374). -/
def Leaf.flagsWord (x : Leaf) : W32 :=
  BitVec.ofNat 32 (b2n x.z + 2 * b2n x.n + 4 * b2n x.c + 8 * b2n x.v + 256 * b2n x.dz + 512 * b2n x.acv + 1024 * b2n x.early)

/-- An exact accumulator result fitted to 72 bits under SAT (R391). -/
def Leaf.fit (x : Leaf) (r : Int) : Leaf :=
  let hi : Int := 2 ^ 71 - 1
  let lo : Int := -(2 ^ 71)
  if lo ≤ r ∧ r ≤ hi then { x with acc := BitVec.ofInt 72 r }
  else { x with acv := true, acc := BitVec.ofInt 72 (if x.sat then (if hi < r then hi else lo) else r) }

/-- A completion that changes the leaf itself. -/
def Leaf.complete (x : Leaf) (e : LeafEff) : Leaf :=
  match e with
  | .reg r v => if r = 0 then x else { x with w := tset 0 x.w r v }
  | .flags z n c v => { x with z := z.getD x.z, n := n.getD x.n, c := c.getD x.c, v := v.getD x.v }
  | .accLoad p => x.fit p
  | .accAdd p => x.fit (x.acc.toInt + p)
  | .accShr n => { x with acc := x.acc.sshiftRight n }
  | .accShl n => if 72 ≤ n then { x with acc := 0 } else x.fit (x.acc.toInt * 2 ^ n)
  | .accPart sel v =>
    let a := x.acc
    { x with acc := match sel with
        | 0 => a.extractLsb' 32 40 ++ v
        | 1 => a.extractLsb' 64 8 ++ v ++ a.extractLsb' 0 32
        | _ => v.extractLsb' 0 8 ++ a.extractLsb' 0 64 }
  | .accClr => { x with acc := 0 }
  | .satMode b => { x with sat := b }
  | .setDz => { x with dz := true }
  | .mtf w => { x with early := x.early && !w.getLsbD 10, acv := x.acv && !w.getLsbD 9, dz := x.dz && !w.getLsbD 8 }
  | .store _ _ _ => x
  | .swap _ _ _ => x

/-- Memory of the leaf's own takes a store; a public or secret word that is overwritten is no longer read-once (R399). -/
def leafCommit (l : Nat) (twig : Bool) (a : Nat) (b : Bytes) (s : State) : State :=
  if twig then hollowObserve l a b.length (twigWrite (twigOfLeaf l) a b s)
  else modLeaf l (fun x => { x with dmem := mwrite 0 x.dmem a b, once := tset 0 x.once (a / 4) 0 }) s

/-- A completion (R369, R372). -/
def leafComplete (l : Nat) (e : LeafEff) (s : State) : State :=
  match e with
  | .store twig a b => leafCommit l twig a b s
  | .swap twig a v => leafCommit l twig a (leBytes 4 v.toNat) s
  | e => modLeaf l (fun x => x.complete e) s

/-- LEAF_TIMER reaches zero in a cycle up to the present one (R393). -/
def Leaf.tick (x : Leaf) : Leaf :=
  match x.timer with
  | some d => if d ≤ x.cyc then { x with timer := none, timerHit := some d, events := setBit x.events 1 true } else x
  | none => x

/-- Every completion of cycles up to the present one (R369), in order, and the timer. -/
def leafSettle (l : Nat) (s : State) : State :=
  let x := leafAt l s
  let due := x.flight.takeWhile (fun e => decide (e.1 ≤ x.cyc))
  let s := setLeaf l { x with flight := x.flight.dropWhile (fun e => decide (e.1 ≤ x.cyc)) } s
  modLeaf l Leaf.tick (foldS (fun (e : Nat × LeafEff) s => leafComplete l e.2 s) due s)

/-! ### Issue -/

/-- A completion enters the list after those of its cycle; MTF's clearing of sticky flags enters before them, for a flag set in the
same cycle ends set (R370, R374). -/
def flightAdd (due : Nat) (e : LeafEff) (f : List (Nat × LeafEff)) : List (Nat × LeafEff) :=
  let p : Nat × LeafEff → Bool := match e with
    | .mtf _ => fun x => decide (x.1 < due)
    | _ => fun x => decide (x.1 ≤ due)
  f.takeWhile p ++ (due, e) :: f.dropWhile p

/-- The running instruction's effect at distance `d`. -/
def leafPush (l d : Nat) (e : LeafEff) (s : State) : State :=
  modLeaf l (fun x => { x with flight := flightAdd (x.cyc + d) e x.flight }) s

/-- The instruction word at pc. -/
def Leaf.word (x : Leaf) : W32 := BitVec.ofNat 32 (leNat (mread 0 x.imem x.pc.toNat 4))

/-- Transfers under way, one delay slot further: the one with no slot left takes effect (R371). -/
def Leaf.next (x : Leaf) : Leaf :=
  let r := x.redirects.map (fun e => (e.1 - 1, e.2))
  let pc := match r.find? (fun e => e.1 == 0) with | some e => e.2 | none => x.pc + 4
  { x with pc := pc, redirects := r.filter (fun e => e.1 != 0) }

/-- The next cycle and the next instruction. -/
def leafAdvance (l : Nat) (s : State) : State := modLeaf l (fun x => { x.next with cyc := x.cyc + 1 }) s

/-- A leaf issues an instruction (R368): its command has an effect where that instruction stands at the leaf's pc. -/
def leafIssue (l : Nat) (i : LInsn) (f : State → State) (s : State) : State :=
  if leafCanIssue l s && leafDecode (leafAt l s).word == i then leafAdvance l (f (leafSettle l s)) else s

/-- A register result at distance `d`. -/
def leafReg (l d : Nat) (rd : BitVec 5) (v : W32) (s : State) : State := leafPush l d (.reg rd.toNat v) s

/-- A taken transfer: its own two delay slots follow (R371). -/
def leafJump (l : Nat) (target : BitVec 16) (s : State) : State :=
  modLeaf l (fun x => { x with redirects := x.redirects ++ [(3, target)] }) s

/-- A target relative to the transfer's address, modulo 64 KiB (R388). -/
def leafRel (x : Leaf) (off : Int) : BitVec 16 := x.pc + BitVec.ofInt 16 (4 * off)

/-! ### WAIT (R394, R395) -/

/-- The bits of the defined events (R393). -/
def definedEvents : W16 := 0x01FF

/-- The cycle in which the last instruction before a WAIT has completed. -/
def Leaf.drained (x : Leaf) : Nat := x.flight.foldl (fun c e => max c e.1) x.cyc

/-- A waiting leaf looks at its events: with a masked one, or a mask of none, the WAIT completes. -/
def waitLook (l : Nat) (s : State) : State :=
  match (leafAt l s).waiting with
  | none => s
  | some (rd, mask) =>
    let v := leafPending l s &&& mask
    if v ≠ 0 ∨ mask &&& definedEvents = 0 then
      leafAdvance l (leafPush l 1 (.reg rd (v.setWidth 32)) (modLeaf l (fun x => { x with waiting := none }) s))
    else s

/-- A waiting leaf's cycles pass (R394, R395): none while its bough is frozen. -/
def waitPass (l cyc : Nat) (s : State) : State :=
  if boughRuns (boughOfLeaf l) s && leafRuns l s && !(leafAt l s).halted then
    waitLook l (leafSettle l (modLeaf l (fun x => { x with cyc := max x.cyc cyc }) s))
  else s

/-- WAIT: it drains, then looks. -/
def waitS (l : Nat) (rd : BitVec 5) (mask : W16) (s : State) : State :=
  if leafCanIssue l s && leafDecode (leafAt l s).word == LInsn.wait rd mask then
    waitPass l (leafAt l s).drained (modLeaf l (fun x => { x with waiting := some (rd.toNat, mask) }) (leafSettle l s))
  else s

/-- Meaning of WAIT. -/
def execLeafWait (l : Fin 192) (rd : BitVec 5) (mask : BitVec 16) (s : State) : Host.Outcome State Fault Refusal :=
  act (waitS l.val rd mask) s

/-- WAIT_WAKE: cycles pass for the waiting leaf, and it looks. -/
def waitWakeS (l n : Nat) (s : State) : State :=
  if (leafAt l s).waiting.isSome then waitPass l ((leafAt l s).cyc + n) s else s

/-- Meaning of WAIT_WAKE. -/
def execLeafWaitWake (l : Fin 192) (cycles : Nat) (s : State) : Host.Outcome State Fault Refusal := act (waitWakeS l.val cycles) s

/-- LEAF_TIMER_EXPIRY (R393): a waiting leaf's cycles pass until its timer reaches zero; an issuing leaf's timer acts as its
cycles pass, and has nothing to add. -/
def leafTimerS (l : Nat) (s : State) : State :=
  let x := leafAt l s
  match x.timer with
  | none => s
  | some d => if x.waiting.isSome then waitPass l d s else if d ≤ x.cyc then modLeaf l Leaf.tick s else s

/-- Meaning of LEAF_TIMER_EXPIRY. -/
def execLeafTimer (l : Fin 192) (s : State) : Host.Outcome State Fault Refusal := act (leafTimerS l.val) s

/-- RESULT_COMPLETION (R369): what is due by the leaf's present cycle completes. -/
def leafResultS (l : Nat) (s : State) : State :=
  if leafRuns l s && boughRuns (boughOfLeaf l) s then leafSettle l s else s

/-- Meaning of RESULT_COMPLETION. -/
def execLeafResult (l : Fin 192) (s : State) : Host.Outcome State Fault Refusal := act (leafResultS l.val) s

end Sys2Proof.Machine
end

