-- ==== Sys2Proof/Machine/LeafLoad.lean ====
section
/-!
DEFINITION. Machine/LeafLoad.lean: loading a leaf's program, thawing a bough, fences and lane moves (13 R357, R364; 03 R73, R74;
01 R35; 11 R302-R305).
-/
namespace Sys2Proof.Machine

/-- A leaf zeroed and loaded with a Grain entry's program (R32, R357, R364); IDLE and SPARE leaves are held. -/
def loadLeaf (l : Nat) (e : LeafEntry) (s : State) : State :=
  let p := tget {} s.grn.grain.programs e.program
  let run := e.role != roleIdle && e.role != roleSpare
  let x : Leaf := {
    role := e.role, program := if run then e.program else 0xFFFF, released := run, epoch := (leafAt l s).epoch + 1
    imem := if run then mwrite 0 [] 0 p.imem else [], dmem := if run then mwrite 0 [] 0 p.dmem else [] }
  setLeaf l x { s with boot := { s.boot with leafRun := setBit s.boot.leafRun l run } }

/-- Requests in flight of a leaf that stops are discarded (R303, R403, 15 Coincidences). -/
def leafDrop (l : Nat) (s : State) : State :=
  let s := modCnp (fun n => { n with
    opens := n.opens.filter (fun o => o.mgmt != 0 || o.leaf != l), held := n.held.filter (fun h => h.leaf != l) }) s
  let s := modLane l (fun x => { x with cut := [] }) s
  brlOrphan l (modLeaf l (fun x => { x with tags := [], guards := [], xfer := none, waiting := none, flight := [] }) s)

/-! ### Thaw (03 R73, R74) -/

/-- A frozen bough runs again, and the start-work writes queued meanwhile act. -/
def thawBough (b : Nat) (s : State) : State :=
  if (boughNrg b s).power = .frozen then
    let q := (boughNrg b s).queued
    let s := modBough b (fun x => { x with power := .running, queued := [], thawDue := false }) s
    foldS (fun (e : Nat × Nat × W32) s => winStore e.1 e.2.1 e.2.2 s) q { s with nrg := { s.nrg with lastThaw := some s.now } }
  else s

/-- BOUGH_THAW (R73): a bough that something needs, at most one per 5 µs. -/
def boughThawS (t b : Nat) (s : State) : State :=
  let s := atTime t s
  let free := match s.nrg.lastThaw with | some l => decide (l + 5 * psUs ≤ s.now) | none => true
  if free && thawNeeded b s then thawBough b s else s

/-- Meaning of BOUGH_THAW. -/
def execBoughThaw (t : Nat) (b : Fin 12) (s : State) : Host.Outcome State Fault Refusal := act (boughThawS t b.val) s

/-! ### Fences (R35, R302-R305) -/

/-- A spare can take a role: it waits as a spare, it is not fenced, and its bough is not (R302, R305). -/
def spareFree (l : Nat) (s : State) : Bool :=
  decide (l < 192) && (leafAt l s).role == roleSpare && !(leafAt l s).fenced && boughAlive (boughOfLeaf l) s
    && !s.cnp.sparesUsed.contains l

/-- A spare takes a role with the program of the leaf that had it; its frozen bough has to thaw (R73; log entry 32). -/
def spareTake (sp l : Nat) (s : State) : State :=
  let x := leafAt l s
  loadLeaf sp { role := x.role, program := x.program } (needThaw (boughOfLeaf sp) s)

/-- The Canopy lanes left for a spread (R304): the limb's, else the device's, ascending. -/
def lanesLeft (l : Nat) (s : State) : List Nat :=
  let all := (List.range 192).filter (fun k => isLane k s && leafAlive k s && k != l)
  let near := all.filter (fun k => limbOfBough (boughOfLeaf k) == limbOfBough (boughOfLeaf l))
  if near = [] then all else near

/-- One held entry goes back to the front of the queue with RETRY, and into its new ring where that can take it (R302). -/
def reDispatch (h : W32) (s : State) : State :=
  match entryAt h s with
  | none => s
  | some e =>
    if dispatchable e s then dispatchEntry e s else s

/-- Entries of a lane's ring, in dispatch order, become held entries of the share again (R302). -/
def laneUnload (l : Nat) (s : State) : List W32 × State :=
  let hs := (laneAt l s).ring
  let es := hs.filterMap (fun h => entryAt h s)
  let back := es.map (fun e => { e with retried := true, place := 1 })
  (hs, modLane l (fun _ => {}) (modCnp (fun n => { n with
    entries := back ++ n.entries.filter (fun e => !hs.contains e.handle) }) s))

/-- A fenced lane moves (R302, R304): its buckets to the spare or spread, its held entries re-dispatched. -/
def moveLane (l : Nat) (s : State) : State :=
  let buckets := (List.range 1024).filter (fun b => laneOf b s == l)
  let sp := (gcan s).laneSpare.getD l 0xFFFF
  let useSp := spareFree sp s
  let s := if useSp then modCnp (fun n => { n with sparesUsed := n.sparesUsed ++ [sp] }) (spareTake sp l s) else s
  let targets := if useSp then [sp] else lanesLeft l s
  let moved := if targets = [] then s.cnp.moved
    else (buckets.zipIdx).foldl (fun t e => tset 0 t e.1 (targets.getD (e.2 % targets.length) 0 + 1)) s.cnp.moved
  let r := laneUnload l (modCnp (fun n => { n with moved := moved }) s)
  let n := r.1.length
  let s := foldS reDispatch r.1 r.2
  let new := if useSp then sp else 0xFF
  let s := modCnp (fun c => { c with moveOld := l, moveNew := new, moveRetried := min n 0xFFFF }) s
  beginOpens (emit .fault 0x3011 (srcLeaf l) (d1 l ++ d1 new ++ d2 buckets.length ++ d4 n) s)

/-- The fence itself: the leaf stops, and what it has in flight is discarded; a disable in progress completes with ESCALATED
(11 Coincidences). -/
def fenceMark (l : Nat) (s : State) : State :=
  if !decide (l < 192) || (leafAt l s).fenced then s
  else
    let s := modLeaf l (fun x => { x with fenced := true }) s
    let s := bump (cBough (boughOfLeaf l) 9) s
    let u : UnitId := .lane (Fin.ofNat 192 l)
    let d := disOf u s
    let s := if !d.running then s
      else if d.cut then disFinish u s
      else disFinish u (disBound u s)
    leafDrop l s

/-- The role of a fenced leaf moves (R35): a lane under R302, another role to the spare that the Grain names. -/
def fenceMove (l : Nat) (s : State) : State :=
  let x := leafAt l s
  let s :=
    if isLane l s then moveLane l s
    else if x.role = roleMka ∨ x.role = roleEscape ∨ x.role = roleTelemetry then
      let sp := (grainLeaf l s).spare
      if spareFree sp s then spareTake sp l s else s
    else s
  hollowSweep (if x.role = roleEscape then escLeafFenced l s else s)

/-- The blocks that custody domains have in hashing at a bough that fails are lost with it: the next custody bough takes them anew (07
Coincidences). -/
def custodyBlocksLost (b : Nat) (s : State) : State :=
  foldS (fun (e : Nat × CusDom) s =>
    if custodyBough e.2 s = b then modCdom e.1 (fun x => { x with pendingB := [] }) s else s) s.cus.dom s

/-- A bough is fenced (R305): its engine, every leaf of it, and every lane moves. -/
def fenceBough (b : Nat) (s : State) : State :=
  if (boughNrg b s).power = .fenced then s
  else
    let s := custodyBlocksLost b s
    let s := brlFence b (modBough b (fun x => { x with power := .fenced }) s)
    let ls := ((List.range 16).map (fun i => 16 * b + i)).filter (fun l => leafAlive l s)
    hollowSweep (foldS fenceMove ls (foldS fenceMark ls s))

/-- A leaf is fenced (R35): the third of its bough within 1 s fences the bough (R305). -/
def fenceLeaf (l : Nat) (s : State) : State :=
  if (leafAt l s).fenced || !decide (l < 192) then s
  else
    let b := boughOfLeaf l
    let old := (tget [] s.lvs.fences b).filter (fun t => decide (s.now ≤ t + psS))
    let s := { s with lvs := { s.lvs with fences := tset [] s.lvs.fences b (s.now :: old) } }
    let s := fenceMove l (fenceMark l s)
    if 2 ≤ old.length then fenceBough b s else s

/-- The lane is held up by its own idleness, not by R260 or R306, nor by its EN, for 200 µs (R302, log entry 32). -/
def laneStuck (l : Nat) (s : State) : Bool :=
  isLane l s && leafAlive l s && laneOn l s && (laneAt l s).ring != []
    && s.cnp.opens.all (fun o => o.mgmt != 0 || o.begun || o.leaf != l) && s.cnp.held.all (fun h => h.leaf != l)
    && decide ((laneAt l s).since + 200 * psUs ≤ s.now)

/-- LANE_WATCHDOG_EXPIRY (R302). -/
def laneWatchdogExpiryS (t l : Nat) (s : State) : State :=
  let s := atTime t s
  if laneStuck l s then fenceLeaf l s else s

/-- Meaning of LANE_WATCHDOG_EXPIRY. -/
def execLaneWatchdogExpiry (t : Nat) (l : Fin 192) (s : State) : Host.Outcome State Fault Refusal :=
  act (laneWatchdogExpiryS t l.val) s

/-- LEAF_PARITY_ERROR (14 R379, R35). -/
def leafParityErrorS (t l : Nat) (s : State) : State := fenceLeaf l (atTime t s)

/-- Meaning of LEAF_PARITY_ERROR. -/
def execLeafParityError (t : Nat) (l : Fin 192) (s : State) : Host.Outcome State Fault Refusal := act (leafParityErrorS t l.val) s

/-- BOUGH_FENCE (R305): a fault of the sap unit or the bough memory. -/
def boughFenceS (t b : Nat) (s : State) : State :=
  let s := atTime t s
  if boughAlive b s then fenceBough b s else s

/-- Meaning of BOUGH_FENCE. -/
def execBoughFence (t : Nat) (b : Fin 12) (s : State) : Host.Outcome State Fault Refusal := act (boughFenceS t b.val) s

end Sys2Proof.Machine
end

