-- ==== Sys2Proof/Machine/Spdm.lean ====
section
/-!
DEFINITION. Machine/Spdm.lean: the SPDM responder (19_attestation_and_grove.md R487-R490). Message and key formats are those of
DMTF DSP0274 and DSP0277 (PRESUMED, log entry 35).
-/
namespace Sys2Proof.Machine

/-- A transport's number. -/
def spdmPort : SpdmPort → Nat
  | .pf0 => 0 | .pf1 => 1 | .i3c => 2

/-- The transport exists (R487). -/
def spdmLive (p : SpdmPort) (s : State) : Bool :=
  s.boot.romRunning && (match p with | .pf1 => s.boot.pf1 | _ => true)

/-- The connection of a transport. -/
def spdmConn (p : Nat) (s : State) : SpdmConn := tget {} s.spdm.conns p
/-- Change the connection of a transport. -/
def modConn (p : Nat) (f : SpdmConn → SpdmConn) (s : State) : State :=
  { s with spdm := { s.spdm with conns := tmod {} s.spdm.conns p f } }

/-- Request codes. -/
def spdmCode (m : Bytes) : Nat := fieldLe m 1 1
/-- Param1 of a message. -/
def spdmP1 (m : Bytes) : Nat := fieldLe m 2 1
/-- Param2 of a message. -/
def spdmP2 (m : Bytes) : Nat := fieldLe m 3 1

/-- The version byte of answers before and after negotiation. -/
def spdmVer (c : SpdmConn) : Nat := if c.version = 0 then 0x10 else c.version

/-- A message's first four bytes. -/
def spdmHead (v code p1 p2 : Nat) : Bytes := [BitVec.ofNat 8 v, BitVec.ofNat 8 code, BitVec.ofNat 8 p1, BitVec.ofNat 8 p2]

/-- An ERROR answer. -/
def spdmError (c : SpdmConn) (code data : Nat) : Bytes := spdmHead (spdmVer c) 0x7F code data

/-! ### Version, capabilities, algorithms (R487, R488) -/

/-- GET_VERSION: versions 1.2 and 1.3; the connection and its sessions start anew. -/
def spdmVersion (p : Nat) (m : Bytes) (s : State) : Bytes × State :=
  let a := spdmHead 0x10 0x04 0 0 ++ [0, 2, 0x00, 0x12, 0x00, 0x13]
  let s := modConn p (fun _ => { state := 1, vca := m.take 4 ++ a }) s
  (a, { s with spdm := { s.spdm with sessions := s.spdm.sessions.filter (fun x => x.port != p) } })

/-- CAPABILITIES flags of R488: CERT, CHAL, MEAS with signature, MEAS_FRESH, ENCRYPT, MAC, KEY_EX and ALIAS_CERT. -/
def spdmCaps : Nat := 2 + 4 + 16 + 32 + 64 + 128 + 512 + 262144

/-- GET_CAPABILITIES; the sizes that the rules do not give are free (log entry 21). -/
def spdmCapabilities (p : Nat) (m : Bytes) (s : State) : Bytes × State :=
  let v := fieldLe m 0 1
  let f := drawFree s
  let a := spdmHead v 0x61 0 0 ++ [0, 16, 0, 0] ++ leBytes 4 spdmCaps ++ leBytes 8 f.1.toNat
  (a, modConn p (fun c => { c with version := v, state := 2, vca := c.vca ++ m ++ a }) f.2)

/-- The algorithm structures of a request: type and supported bits. -/
def algStructs : Nat → Bytes → List (Nat × Nat)
  | 0, _ => []
  | n + 1, b => (fieldLe b 0 1, fieldLe b 2 2) :: algStructs n (b.drop (4 + 4 * (fieldLe b 1 1 % 16)))

/-- The one algorithm of each type that the device offers (R488). -/
def algOffered (t : Nat) : Nat := if t = 2 then 0x10 else if t = 3 then 2 else if t = 5 then 1 else 0

/-- NEGOTIATE_ALGORITHMS: ECDSA P-384, SHA-384, secp384r1, AES-256-GCM and the SPDM key schedule, of what the requester offers. -/
def spdmAlgorithms (p : Nat) (m : Bytes) (c : SpdmConn) (s : State) : Bytes × State :=
  let st := algStructs (spdmP1 m) (m.drop (32 + 4 * (fieldLe m 0x1C 1 + fieldLe m 0x1D 1)))
  let sel := st.flatMap (fun e => leBytes 1 e.1 ++ [0x20] ++ leBytes 2 (e.2 &&& algOffered e.1))
  let body := leBytes 1 (fieldLe m 6 1 &&& 1) ++ leBytes 1 (fieldLe m 7 1 &&& 2) ++ leBytes 4 (if fieldLe m 6 1 &&& 1 = 0 then 0 else 4)
    ++ leBytes 4 (fieldLe m 8 4 &&& 0x80) ++ leBytes 4 (fieldLe m 0xC 4 &&& 2) ++ List.replicate 16 0 ++ sel
  let a := spdmHead c.version 0x63 st.length 0 ++ leBytes 2 (6 + body.length) ++ body
  (a, modConn p (fun c => { c with state := 3, vca := c.vca ++ m ++ a }) s)

/-! ### Certificates and signatures (R488) -/

/-- The slot 0 certificate chain with its header and root hash. -/
def spdmChain (s : State) : Bytes :=
  let c := attCerts s
  let b := sha384 c.1 ++ c.1 ++ c.2
  leBytes 2 (b.length + 4) ++ [0, 0] ++ b

/-- The bytes that an SPDM signature is made over, from a context string and a transcript. -/
def spdmToSign (v : Nat) (ctx : String) (transcript : Bytes) : Bytes :=
  let pre := ascii (if v = 0x13 then "dmtf-spdm-v1.3.*" else "dmtf-spdm-v1.2.*")
  pre ++ pre ++ pre ++ pre ++ List.replicate (36 - ctx.length) 0 ++ ascii ctx ++ sha384 transcript

/-- A signature by the Alias P-384 key. -/
def spdmSign (v : Nat) (ctx : String) (transcript : Bytes) (s : State) : Bytes × State :=
  attSign (aliasKeys s) (spdmToSign v ctx transcript) s

/-- A measurement summary hash of the type that a request names: none, of the trusted computing base, which the rules do not
delimit (free, log entry 35), or of every block. -/
def measSummary (typ : Nat) (s : State) : Bytes × State :=
  if typ = 0 then ([], s)
  else if typ = 0xFF then (sha384 ((measBlocks s).flatMap (·.2)), s)
  else let f := drawFree s; (padTo 48 (Config.freeBytes f.1.toNat), f.2)

/-- RequesterContext of a version 1.3 request at an offset. -/
def reqContext (v off : Nat) (m : Bytes) : Bytes := if v = 0x13 then padTo 8 (slice m off 8) else []

/-- GET_DIGESTS. -/
def spdmDigests (p : Nat) (m : Bytes) (c : SpdmConn) (s : State) : Bytes × State :=
  let a := spdmHead c.version 0x01 0 1 ++ sha384 (spdmChain s)
  (a, modConn p (fun c => { c with msgB := c.msgB ++ m ++ a }) s)

/-- GET_CERTIFICATE of slot 0; the other slots are empty. -/
def spdmCertificate (p : Nat) (m : Bytes) (c : SpdmConn) (s : State) : Bytes × State :=
  let ch := spdmChain s
  let off := fieldLe m 4 2
  if spdmP1 m % 16 ≠ 0 ∨ ch.length ≤ off then (spdmError c 0x01 0, s)
  else
    let part := slice ch off (fieldLe m 6 2)
    let a := spdmHead c.version 0x02 0 0 ++ leBytes 2 part.length ++ leBytes 2 (ch.length - off - part.length) ++ part
    (a, modConn p (fun c => { c with msgB := c.msgB ++ m ++ a }) s)

/-- CHALLENGE. -/
def spdmChallengeAuth (p : Nat) (m : Bytes) (c : SpdmConn) (s : State) : Bytes × State :=
  if spdmP1 m ≠ 0 then (spdmError c 0x01 0, s)
  else match drbgRequest 4 false 32 s with
    | none => (spdmError c 0x05 0, starved s)
    | some (n, s) =>
      let h := measSummary (spdmP2 m) s
      let a := spdmHead c.version 0x03 0 1 ++ sha384 (spdmChain s) ++ n ++ h.1 ++ [0, 0] ++ reqContext c.version 36 m
      let g := spdmSign c.version "responder-challenge_auth signing" (c.vca ++ c.msgB ++ m ++ a) h.2
      (a ++ g.1, modConn p (fun c => { c with msgB := [] }) g.2)

/-- The measurement record of an operation: none for 0, every block for 0xFF, else one. -/
def measSelect (op : Nat) (s : State) : Option (List Bytes) :=
  let b := measBlocks s
  if op = 0 then some []
  else if op = 0xFF then some (b.map (·.2))
  else match b.find? (fun e => e.1 == op) with
    | some e => some [e.2]
    | none => none

/-- GET_MEASUREMENTS (R486), with a signature where it is asked for. -/
def spdmMeasurements (p : Nat) (m : Bytes) (c : SpdmConn) (s : State) : Bytes × State :=
  let sig := bitOf (spdmP1 m) 0
  let op := spdmP2 m
  match measSelect op s with
  | none => (spdmError c 0x01 0, s)
  | some l =>
    match drbgRequest 4 false 32 s with
    | none => (spdmError c 0x05 0, starved s)
    | some (n, s) =>
      let r := l.flatten
      let a := spdmHead c.version 0x60 (if op = 0 then (measBlocks s).length else 0) 0 ++ leBytes 1 l.length ++ leBytes 3 r.length
        ++ r ++ n ++ [0, 0] ++ reqContext c.version (if sig then 37 else 4) m
      let tr := c.msgL ++ m ++ a
      if sig then
        let g := spdmSign c.version "responder-measurements signing" (c.vca ++ tr) s
        (a ++ g.1, modConn p (fun c => { c with msgL := [] }) g.2)
      else (a, modConn p (fun c => { c with msgL := tr }) s)

/-! ### Sessions (R489, R490) -/

/-- HKDF-Expand of at most one block with the SPDM key schedule's label. -/
def spdmExpand (v : Nat) (prk : Bytes) (label : String) (ctx : Bytes) (n : Nat) : Bytes :=
  let info := leBytes 2 n ++ ascii (if v = 0x13 then "spdm1.3 " else "spdm1.2 ") ++ ascii label ++ ctx
  (hmac384 prk (info ++ [1])).take n

/-- An ephemeral P-384 scalar of DRBG_T, each candidate after a reseed (06 R151). -/
def spdmEphemeral : Nat → State → Option (Nat × State)
  | 0, _ => none
  | f + 1, s =>
    match drbgRequest 4 true 48 s with
    | none => none
    | some (x, s) =>
      let n := beNat x
      if n + 1 < curveP384.n then some (n + 1, s) else spdmEphemeral f s

/-- The least session number of the responder's that is not in use. -/
def spdmFreeId (s : State) : Nat :=
  (((List.range 9).map (· + 1)).find? (fun i => !s.spdm.sessions.any (fun x => x.rsp == i))).getD 1

/-- KEY_EXCHANGE (R489): one of 8 sessions, with its handshake secrets. -/
def spdmKeyExchangeRsp (p : Nat) (m : Bytes) (c : SpdmConn) (s : State) : Bytes × State :=
  let px := fieldBe m 40 48
  let py := fieldBe m 88 48
  if 8 ≤ s.spdm.sessions.length then (spdmError c 0x0A 0, s)
  else if spdmP2 m ≠ 0 ∨ m.length < 138 ∨ !onCurve curveP384 px py then (spdmError c 0x01 0, s)
  else match spdmEphemeral 64 s with
    | none => (spdmError c 0x05 0, starved s)
    | some (d, s) =>
      match drbgRequest 4 false 32 s, ecMul curveP384 d curveP384.g, ecMul curveP384 d (some (px, py)) with
      | some (rnd, s), some (gx, gy), some (zx, _) =>
        let h := measSummary (spdmP1 m) s
        let id := spdmFreeId h.2
        let a := spdmHead c.version 0x64 0 0 ++ leBytes 2 id ++ [0, 0] ++ rnd ++ beBytes 48 gx ++ beBytes 48 gy ++ h.1 ++ [0, 0]
        let tr := c.vca ++ sha384 (spdmChain h.2) ++ m ++ a
        let g := spdmSign c.version "responder-key_exchange_rsp signing" tr h.2
        let th1 := sha384 (tr ++ g.1)
        let hs := hmac384 zeros48 (beBytes 48 zx)
        let s0 := spdmExpand c.version hs "req hs data" th1 48
        let s1 := spdmExpand c.version hs "rsp hs data" th1 48
        let mac := hmac384 (spdmExpand c.version s1 "finished" [] 48) th1
        let master := hmac384 (spdmExpand c.version hs "derived" [] 48) zeros48
        let x : SpdmSession := {
          req := fieldLe m 4 2, rsp := id, port := p, transcript := tr ++ g.1 ++ mac, reqSecret := s0, rspSecret := s1,
          master := master }
        (a ++ g.1 ++ mac, { g.2 with spdm := { g.2.spdm with sessions := g.2.spdm.sessions ++ [x] } })
      | _, _, _ => (spdmError c 0x05 0, s)

/-! ### One plain request -/

/-- The request needs a signature or a certificate (R490). -/
def spdmNeedsKeys (m : Bytes) : Bool :=
  match spdmCode m with
  | 0x81 | 0x82 | 0x83 | 0xE4 => true
  | 0xE0 => bitOf (spdmP1 m) 0
  | _ => false

/-- The answer to a request whose turn it is, by its code, on a connection. In a session neither negotiation nor KEY_EXCHANGE is
served. -/
def spdmAnswer (p : Nat) (inner : Bool) (m : Bytes) (s : State) : Bytes × State :=
  let c := spdmConn p s
  let code := spdmCode m
  let known := [0x81, 0x82, 0x83, 0xE0, 0xE1, 0xE3, 0xE4].contains code
  if code = 0x84 ∧ !inner then spdmVersion p m s
  else if !known then (spdmError c 0x07 code, s)
  else if c.state ≠ (if code = 0xE1 then 1 else if code = 0xE3 then 2 else 3) ∨ (inner ∧ code = 0xE4) then (spdmError c 0x04 0, s)
  else if code = 0xE1 then
    (if fieldLe m 0 1 = 0x12 ∨ fieldLe m 0 1 = 0x13 then spdmCapabilities p m s else (spdmError c 0x41 0, s))
  else if fieldLe m 0 1 ≠ c.version then (spdmError c 0x41 0, s)
  else if spdmNeedsKeys m && !hasDevid s then (spdmError c 0x05 0, s)
  else match code with
    | 0xE3 => spdmAlgorithms p m c s
    | 0x81 => spdmDigests p m c s
    | 0x82 => spdmCertificate p m c s
    | 0x83 => spdmChallengeAuth p m c s
    | 0xE0 => spdmMeasurements p m c s
    | _ => spdmKeyExchangeRsp p m c s

/-- A request's answer on its connection. A measurement transcript ends with any other request. -/
def spdmServe (p : Nat) (m : Bytes) (s : State) : State :=
  let s := if spdmCode m = 0xE0 then s else modConn p (fun c => { c with msgL := [] }) s
  let r := spdmAnswer p false m s
  if r.2.ent.hungry then starved (emitOut (.reply (spdmError (spdmConn p s) 0x05 0)) s) else emitOut (.reply r.1) r.2

/-- The Taproot's signing bough thaws for a request that needs it (03 R73). -/
def spdmWake (m : Bytes) (s : State) : State := if spdmNeedsKeys m then needThaw (attBough s) s else s

/-- A request outside a session (R487, R489): Busy while another is handled, RequestResynch once after an installation that changed
GRAIN_MEAS. One that needs randomness waits for it (06 R152). -/
def spdmRequestS (row : Nat → Bool) (q : SpdmPort) (busy : Bool) (m : Bytes) (s : State) : State :=
  let p := spdmPort q
  if !spdmLive q s || !row (spdmCode m) then s
  else
    let c := spdmConn p s
    if busy then emitOut (.reply (spdmError c 0x03 0)) s
    else if c.resync && spdmCode m != 0x84 then
      emitOut (.reply (spdmError c 0x43 0)) (modConn p (fun c => { c with resync := false }) s)
    else orWait (.spdm p false m) (spdmServe p m) (spdmWake m s)

/-- Meaning of GET_VERSION. -/
def execSpdmGetVersion (p : SpdmPort) (busy : Bool) (m : Bytes) (s : State) : Host.Outcome State Fault Refusal :=
  act (spdmRequestS (· == 0x84) p busy m) s
/-- Meaning of GET_CAPABILITIES. -/
def execSpdmGetCapabilities (p : SpdmPort) (busy : Bool) (m : Bytes) (s : State) : Host.Outcome State Fault Refusal :=
  act (spdmRequestS (· == 0xE1) p busy m) s
/-- Meaning of NEGOTIATE_ALGORITHMS. -/
def execSpdmNegotiateAlgorithms (p : SpdmPort) (busy : Bool) (m : Bytes) (s : State) : Host.Outcome State Fault Refusal :=
  act (spdmRequestS (· == 0xE3) p busy m) s
/-- Meaning of GET_DIGESTS. -/
def execSpdmGetDigests (p : SpdmPort) (busy : Bool) (m : Bytes) (s : State) : Host.Outcome State Fault Refusal :=
  act (spdmRequestS (· == 0x81) p busy m) s
/-- Meaning of GET_CERTIFICATE. -/
def execSpdmGetCertificate (p : SpdmPort) (busy : Bool) (m : Bytes) (s : State) : Host.Outcome State Fault Refusal :=
  act (spdmRequestS (· == 0x82) p busy m) s
/-- Meaning of CHALLENGE. -/
def execSpdmChallenge (p : SpdmPort) (busy : Bool) (m : Bytes) (s : State) : Host.Outcome State Fault Refusal :=
  act (spdmRequestS (· == 0x83) p busy m) s
/-- Meaning of GET_MEASUREMENTS. -/
def execSpdmGetMeasurements (p : SpdmPort) (busy : Bool) (m : Bytes) (s : State) : Host.Outcome State Fault Refusal :=
  act (spdmRequestS (· == 0xE0) p busy m) s
/-- Meaning of KEY_EXCHANGE. -/
def execSpdmKeyExchange (p : SpdmPort) (busy : Bool) (m : Bytes) (s : State) : Host.Outcome State Fault Refusal :=
  act (spdmRequestS (· == 0xE4) p busy m) s
/-- Meaning of UNSUPPORTED_REQUEST: any code that no other row serves; FINISH and END_SESSION exist in a session only. -/
def execSpdmUnsupportedRequest (p : SpdmPort) (busy : Bool) (m : Bytes) (s : State) : Host.Outcome State Fault Refusal :=
  act (spdmRequestS (fun c => ! [0x81, 0x82, 0x83, 0x84, 0xE0, 0xE1, 0xE3, 0xE4].contains c) p busy m) s

/-! ### Secured messages (R489, R490; DSP0277) -/

/-- Bytes of a record's sequence number: two on MCTP, none on DOE. -/
def seqBytes (p n : Nat) : Bytes := if p = 2 then leBytes 2 n else []

/-- Key and IV of one direction for a sequence number. -/
def spdmKeyIv (v : Nat) (secret : Bytes) (n : Nat) : Bytes × Bytes :=
  (spdmExpand v secret "key" [] 32, xorBytes (spdmExpand v secret "iv" [] 12) (padTo 12 (leBytes 8 n)))

/-- A record's plaintext, where its tag holds. -/
def spdmOpen (v : Nat) (x : SpdmSession) (b : Bytes) : Option Bytes :=
  let sl := (seqBytes x.port x.reqSeq).length
  let len := fieldLe b (4 + sl) 2
  let aad := b.take (6 + sl)
  let ct := slice b (6 + sl) (len - 16)
  let k := spdmKeyIv v x.reqSecret x.reqSeq
  if len < 18 ∨ slice b 4 sl ≠ seqBytes x.port x.reqSeq ∨ gcmTag k.1 k.2 aad ct ≠ slice b (6 + sl + ct.length) 16 then none
  else
    let pt := gcmCrypt k.1 k.2 ct
    some (slice pt 2 (fieldLe pt 0 2))

/-- A record of the responder's. -/
def spdmSeal (v : Nat) (x : SpdmSession) (m : Bytes) : Bytes :=
  let k := spdmKeyIv v x.rspSecret x.rspSeq
  let pt := leBytes 2 m.length ++ m
  let aad := leBytes 2 x.req ++ leBytes 2 x.rsp ++ seqBytes x.port x.rspSeq ++ leBytes 2 (pt.length + 16)
  let ct := gcmCrypt k.1 k.2 pt
  aad ++ ct ++ gcmTag k.1 k.2 aad ct

/-- Change a session. -/
def modSession (rsp : Nat) (f : SpdmSession → SpdmSession) (s : State) : State :=
  { s with spdm := { s.spdm with sessions := s.spdm.sessions.map (fun x => if x.rsp == rsp then f x else x) } }
/-- End a session. -/
def endSession (rsp : Nat) (s : State) : State :=
  { s with spdm := { s.spdm with sessions := s.spdm.sessions.filter (fun x => x.rsp != rsp) } }

/-- An answer sealed in a session. -/
def sessionReply (v : Nat) (x : SpdmSession) (a : Bytes) (s : State) : State :=
  modSession x.rsp (fun y => { y with rspSeq := y.rspSeq + 1 }) (emitOut (.reply (spdmSeal v x a)) s)

/-- FINISH: the requester's verify data, and then the application secrets. -/
def sessionFinish (c : SpdmConn) (x : SpdmSession) (m : Bytes) (s : State) : State :=
  let v := c.version
  let want := hmac384 (spdmExpand v x.reqSecret "finished" [] 48) (sha384 (x.transcript ++ m.take 4))
  if x.done then sessionReply v x (spdmError c 0x04 0) s
  else if slice m 4 48 ≠ want then endSession x.rsp (sessionReply v x (spdmError c 0x06 0) s)
  else
    let a := spdmHead v 0x65 0 0
    let th2 := sha384 (x.transcript ++ m.take 52 ++ a)
    modSession x.rsp (fun y => { y with
      done := true, reqSecret := spdmExpand v x.master "req app data" th2 48, rspSecret := spdmExpand v x.master "rsp app data" th2 48,
      transcript := [], reqSeq := 0, rspSeq := 0 }) (sessionReply v x a s)

/-- The message inside a record. -/
def sessionInner (p : Nat) (c : SpdmConn) (x : SpdmSession) (m : Bytes) (s : State) : State :=
  match spdmCode m with
  | 0xE5 => sessionFinish c x m s
  | 0xEC => endSession x.rsp (sessionReply c.version x (spdmHead c.version 0x6C 0 0) s)
  | _ =>
    if !x.done then sessionReply c.version x (spdmError c 0x04 0) s
    else
      let r := spdmAnswer p true m s
      if r.2.ent.hungry then starved (sessionReply c.version x (spdmError c 0x05 0) s) else sessionReply c.version x r.1 r.2

/-- A record with its session, while that stands with its keys. -/
def spdmRecord (p : Nat) (b : Bytes) (s : State) : Option SpdmSession :=
  s.spdm.sessions.find? (fun x => x.port == p && x.req == fieldLe b 0 2 && x.rsp == fieldLe b 2 2)

/-- The message of a record handled in its session; nothing where the session has gone meanwhile. -/
def spdmServeSecured (p : Nat) (b : Bytes) (s : State) : State :=
  match spdmRecord p b s with
  | none => s
  | some x => match spdmOpen (spdmConn p s).version x b with
    | none => s
    | some m =>
      sessionInner p (spdmConn p s) { x with reqSeq := x.reqSeq + 1 } m (modSession x.rsp (fun y => { y with reqSeq := y.reqSeq + 1 }) s)

/-- A secured record whose inner message belongs to the row. A record of a session whose keys were cleared, or that does not open,
gets DecryptError in the clear, and the latter ends the session; one of no session gets InvalidSession. -/
def spdmSecuredS (row : Nat → Bool) (q : SpdmPort) (busy : Bool) (b : Bytes) (s : State) : State :=
  let p := spdmPort q
  let c := spdmConn p s
  if !spdmLive q s then s
  else if busy then (if row 0 then emitOut (.reply (spdmError c 0x03 0)) s else s)
  else if c.resync then
    (if row 0 then emitOut (.reply (spdmError c 0x43 0)) (modConn p (fun c => { c with resync := false }) s) else s)
  else match spdmRecord p b s with
    | none => if row 0 then emitOut (.reply (spdmError c 0x02 0)) s else s
    | some x =>
      if x.cleared then (if row 0 then emitOut (.reply (spdmError c 0x06 0)) s else s)
      else match spdmOpen c.version x b with
        | none => if row 0 then endSession x.rsp (emitOut (.reply (spdmError c 0x06 0)) s) else s
        | some m => if row (spdmCode m) then orWait (.spdm p true b) (spdmServeSecured p b) (spdmWake m s) else s

/-- Meaning of FINISH: a record that carries it. -/
def execSpdmFinish (p : SpdmPort) (busy : Bool) (m : Bytes) (s : State) : Host.Outcome State Fault Refusal :=
  act (spdmSecuredS (· == 0xE5) p busy m) s
/-- Meaning of END_SESSION: a record that carries it. -/
def execSpdmEndSession (p : SpdmPort) (busy : Bool) (m : Bytes) (s : State) : Host.Outcome State Fault Refusal :=
  act (spdmSecuredS (· == 0xEC) p busy m) s
/-- Meaning of SECURED_MESSAGE: a record that carries any other request, or that does not open. -/
def execSpdmSecuredMessage (p : SpdmPort) (busy : Bool) (m : Bytes) (s : State) : Host.Outcome State Fault Refusal :=
  act (spdmSecuredS (fun c => c != 0xE5 && c != 0xEC) p busy m) s

/-- An installation that changes GRAIN_MEAS ends every session and connection (R489). -/
def spdmResync (s : State) : State :=
  { dropWaits (fun r => match r with | .spdm .. => true | _ => false) s with spdm := {
      sessions := [], conns := [0, 1, 2].foldl (fun t p => tset {} t p { resync := true }) [] } }

/-- The reset of a transport ends its connection and sessions (R489). -/
def spdmPortReset (p : Nat) (s : State) : State :=
  { dropWaits (fun r => match r with | .spdm q .. => q == p | _ => false) s with spdm := {
      conns := tset {} s.spdm.conns p {}, sessions := s.spdm.sessions.filter (fun x => x.port != p) } }

/-- The erase line clears the session keys (R490). -/
def spdmErase (s : State) : State :=
  { s with spdm := { s.spdm with sessions := s.spdm.sessions.map (fun x => { x with
      cleared := true, reqSecret := [], rspSecret := [], master := [] }) } }

end Sys2Proof.Machine
end

