-- ==== Sys2Proof/Machine/Tamper.lean ====
section
/-!
DEFINITION. Machine/Tamper.lean: the tamper monitors and the hardware erase line (18_tamper.md R464-R480; 05 R142, 06 R153).
-/
namespace Sys2Proof.Machine

/-! ### The erase line (R142, R153, R468) -/

/-- Every SA of a SecY retired (12 Coincidences): a current transmit SA ends with TX_SA_LOST. -/
def saWipe (p : Nat) (e : Nat × Lport) (s : State) : State :=
  let lost := match e.2.secy.cur with
    | some (sc, an) => (tget ({} : TxSa) e.2.secy.tx (4 * sc + an)).key != []
    | none => false
  let s := modLport p e.1 (fun x => { x with secy := { x.secy with rx := [], tx := [] } }) s
  if lost then emit .link 0x4010 (srcPort p e.1) [] (bump (cPort p e.1 29) s) else s

/-- Every SA of the device retired. -/
def saWipeAll (s : State) : State :=
  foldS (fun (e : Nat × Port) s => foldS (saWipe e.1) e.2.lports s) s.lnk.ports s

/-- A sap request in flight at the erase: READY at its nominal time with 0xF000 and zero output (14 Coincidences). -/
def SapReq.erased (r : SapReq) : SapReq :=
  { r with
    code := 0xF000, out := List.replicate r.out.length 0, toSlots := [], secure := 0, mid := none, entry := none, commit := none
    mka := none, why := 0, draw := none, awaits := [] }

/-- The erase line at the sap units. -/
def sapErase (s : State) : State :=
  { s with lvs := { s.lvs with leaf := s.lvs.leaf.foldl (fun t e => tset {} t e.1 { e.2 with
      tags := e.2.tags.foldl (fun u g => tset {} u g.1 { g.2 with req := g.2.req.map SapReq.erased, mid := none }) [] }) [] } }

/-- The erase line at the DRBGs (R153): every instance is cleared and instantiates again before it gives output. -/
def drbgErase (s : State) : State := { s with ent := { s.ent with drbg := [] } }

/-- An act that the erase leaves without a journal page (R550): dropped with 0x2044, its requester answered. -/
def actDropped (a : JAct) (s : State) : State :=
  let s := keepDropped s
  match a with
  | .floor d _ 1 => modCdom d (fun x => { x with result := 0x2044 }) s
  | .floor d _ 2 => mbxDone d (cdom d s).flt.mbx.tag 0x2044 [] s
  | _ => s

/-- `n` writes of other kinds are dropped (R550). -/
def dropMany (n : Nat) (s : State) : State := foldS (fun _ s => keepDropped s) (List.range n) s

/-- The seal records that domains are still owed are dropped (R550). -/
def sealsDrop (s : State) : State :=
  let n := ((s.cus.dom.map (fun e => e.2.seals.length))).sum
  dropMany n { s with cus := { s.cus with dom := s.cus.dom.foldl (fun t e => tset {} t e.1 { e.2 with seals := [] }) [] } }

/-- The erase line at the keep flash (R468, R550): nothing is written any more; the page in programming stops where it is, and a flush
in progress stops. Every act, page, owed store, checkpoint, copy and log page is dropped. A fuse step whose ANCHOR record was
acknowledged is still burned. -/
def keepErase (s : State) : State :=
  let lost := s.kpf.acts ++ (s.kpf.pages.map (·.acts)).flatten
  let n := b2n s.grn.storeDue + b2n s.kpf.ckpt.isSome + b2n s.kpf.copying + s.kpf.logDue.length
  let s := progStop s
  let s : State := { s with
    kpf := { s.kpf with acts := [], pages := [], ckpt := none, logDue := [], formatDue := [], copying := false }
    grn := { s.grn with storeDue := false, storeBlocks := [] }
    nrg := { s.nrg with pending := 0, flush := if s.nrg.flush = .idle then .idle else .done } }
  reserveUpdate (sealsDrop (dropMany n (foldS actDropped lost s)))

/-- The erase line at Canopy (R468): it stops as under a CUT, and the entries held in intake and spill drop under cause 7, one LOSS
record for each channel that has some. -/
def canopyErase (s : State) : State :=
  let es := s.cnp.entries
  let s := modCnp (fun n => { n with
    st := 0, entries := [], opens := [], held := [], renew := [], rebuild := [], rebuildWait := [], spHead := [], spTail := []
    lanes := n.lanes.foldl (fun t e => tset {} t e.1 { e.2 with ring := [] }) [] }) s
  let s := foldS (dropEnv 7) es s
  foldS (fun c s => lossEmit c ((chanAt c s).loss.filter (fun e => e.1 == 7)) s) (List.range 32) s

/-- The end of a debug grant (R461) with its cause: 1 DBG_LOCK, 2 tamper, 3 replaced. -/
def grantEnd (cause : Nat) (s : State) : State :=
  if s.lcy.unlocked then
    emit .lifecycle 0x6015 (srcTree 0) (d1 cause)
      { s with lcy := { s.lcy with unlocked := false, grantBoughs := 0, grantScope := 0 } }
  else s

/-- The hardware erase line rises, with every effect of R468 and R469. -/
def eraseLine (s : State) : State :=
  let s := saWipeAll (sapErase (drbgErase (spdmErase (brlErase (vaultErase s)))))
  let s := foldS needThaw (List.range 12) s
  let s : State := { s with
    tmp := { s.tmp with erased := true }
    boot := { s.boot with keyless := true, eraseSince3 := true }
    slp := { s.slp with standby := {} }
    cus := { s.cus with dom := s.cus.dom.foldl (fun t e => tset {} t e.1 { e.2 with
      shadowLost := e.2.shadowLost || e.2.shadow != [] }) [] } }
  grantEnd 2 (canopyErase (keepErase s))

/-- ERASE_ALL (R470): the same line, no evidence step, no latch, and 0x7007 in place of 0x7001. -/
def keyEraseAllS (t : Nat) (s : State) : State :=
  keyEnd 0 (eraseLine (emit .lifecycle 0x7007 (srcTree 1) [] (atTime t s)))

/-- Meaning of ERASE_ALL. -/
def execKeyEraseAll (t : Nat) (s : State) : Host.Outcome State Fault Refusal := act (keyOp (keyEraseAllS t)) s

/-! ### Firing (R467-R474) -/

/-- Step 6 of R82 has been taken at this start. -/
def pastStep6 (s : State) : Bool :=
  s.boot.romRunning && s.boot.phase != .rom && s.boot.phase != .fuses && s.boot.phase != .entropy

/-- The state drives the erase line and the evidence counter (R473). -/
def lcsDrives (s : State) : Bool := s.boot.lcs != .seed && s.boot.lcs != .felled

/-- All 256 evidence steps are burned (R472). -/
def evidenceSat (s : State) : Bool := decide (256 ≤ s.fuses.evidence)

/-- Change the TMP block. -/
def modTmp (f : Tmp → Tmp) (s : State) : State := { s with tmp := f s.tmp }

/-- The source is removed from the response by its fuse (R478). -/
def srcDisabled (n : Nat) (s : State) : Bool := s.fuses.tamperOff.getLsbD n

/-- An incident begins with its first source (R467, R471, R472): a step is due, unless the counter is saturated or not driven. -/
def incidentBegin (n : Nat) (s : State) : State :=
  if s.tmp.first.isSome then s
  else
    let s := modTmp (fun x => { x with first := some n, burnDue := lcsDrives s && !evidenceSat s }) s
    if evidenceSat s then emit .tamper 0x7003 (srcTree 0) [] s else s

/-- The latch is cleared where no step will be burned (R471-R473): in SEED and FELLED at once, with a saturated counter once step 6
is past. -/
def latchRelease (s : State) : State :=
  if !lcsDrives s || (evidenceSat s && pastStep6 s) then modTmp (fun x => { x with latch := 0 }) s else s

/-- One enabled source fires (R467 steps 1 and 6), or a disabled one meets its condition (R478). -/
def sourceFire (n : Nat) (s : State) : State :=
  if srcDisabled n s then emit .secure 0x7004 (srcTree 0) [] s
  else
    let latch := s.tmp.first.isNone || s.tmp.burnDue
    let s := modTmp (fun x => { x with
      incident := setBit x.incident n true, latch := if latch then setBit x.latch n true else x.latch }) s
    let first := s.tmp.first.isNone
    let s := emit .tamper 0x7001 (srcTree 0) (d1 n) s
    latchRelease (if first then incidentBegin n s else s)

/-- The sources of a mask, ascending. -/
def maskBits (m : BitVec 16) : List Nat := (List.range 16).filter (fun n => m.getLsbD n)

/-- The sources that fire and respond, with the erase line (R467, R473): before step 6 the event is only latched (R83). -/
def fireAll (ns : List Nat) (s : State) : State :=
  let live := ns.any (fun n => !srcDisabled n s)
  let s := foldS sourceFire ns s
  if live && lcsDrives s && pastStep6 s && !s.tmp.erased then eraseLine s else s

/-- Sources whose firing acts now: main power good, armed, and not the one being stimulated (R464, R475). -/
def armedSources (m : BitVec 16) (s : State) : List Nat :=
  (maskBits m).filter (fun n => (decide (n < 4) || s.boot.monitorsArmed) && s.tmp.stimLeft.head? != some n)

/-- TAMPER_FIRE: the sources that fire in one cycle, and what the detectors read. -/
def tamperFireS (t : Nat) (srcs raw : BitVec 16) (s : State) : State :=
  let s := atTime t s
  if !s.boot.pwrgood then s
  else fireAll (armedSources srcs s) (modTmp (fun x => { x with raw := raw }) s)

/-- Meaning of TAMPER_FIRE. -/
def execTamperFire (t : Nat) (srcs raw : BitVec 16) (s : State) : Host.Outcome State Fault Refusal := actAny (tamperFireS t srcs raw) s

/-- The 0x7001 record of the standby domain (R474, R511): no slot time, STAMP.STANDBY. -/
def standbyEvent (n : Nat) : EventRec :=
  { code := 0x7001, cls := 0, source := srcTree 0, sourceLast := srcTree 0, count := 1, detail := d1 n, standby := true }

/-- One standby source fires with main power off (R474). -/
def standbyFire (n : Nat) (s : State) : State :=
  if srcDisabled n s then s
  else
    alarmPut (standbyEvent n) { s with
      tmp := { s.tmp with latch := setBit s.tmp.latch n true }, slp := { s.slp with standby := {} } }

/-- STANDBY_TAMPER_FIRE (R474): sources 0 to 3, on VSTBY alone. -/
def standbyTamperFireS (srcs : BitVec 4) (s : State) : State :=
  if s.boot.pwrgood || !s.boot.vstby then s
  else foldS standbyFire ([0, 1, 2, 3].filter (fun n => srcs.getLsbD n)) s

/-- Meaning of STANDBY_TAMPER_FIRE. -/
def execStandbyTamperFire (srcs : BitVec 4) (s : State) : Host.Outcome State Fault Refusal := actAny (standbyTamperFireS srcs) s

/-- A life-cycle transition is programming its copies (17 R458). -/
def lcsMoving (s : State) : Bool := match s.lcy.pending with | some (.move _) => true | _ => false

/-- The evidence step is burned and the latch cleared (R471): from step 6 on, with VFUSE in range, not once PFW_N has asserted, and
after a transition that is programming its copies (Coincidences). -/
def evidenceBurnS (s : State) : State :=
  if s.tmp.burnDue && !lcsMoving s && s.boot.vfuse && pastStep6 s && !s.nrg.pfw then
    modTmp (fun x => { x with burnDue := false, latch := 0 }) { s with fuses := { s.fuses with evidence := s.fuses.evidence + 1 } }
  else s

/-- Meaning of EVIDENCE_BURN. -/
def execEvidenceBurn (s : State) : Host.Outcome State Fault Refusal := act evidenceBurnS s

/-- The latch found set at step 4 (R474): 0x7002 with the latched sources, and the incident of this start. -/
def latchFound (s : State) : State :=
  if s.tmp.latch = 0 then s
  else
    let s : State := { s with boot := { s.boot with latchSeen := true, keyless := true } }
    let s := emit .tamper 0x7002 (srcTree 0) (d2 s.tmp.latch.toNat) s
    latchRelease (incidentBegin ((maskBits s.tmp.latch).headD 0) s)

/-! ### Built-in stimulation (R475-R477) -/

/-- A pass over a mask begins. -/
def stimBegin (mask : BitVec 16) (s : State) : State :=
  modTmp (fun x => { x with stimLeft := maskBits mask, stimDone := 0, stimPass := 0 }) s

/-- STIM_GO (R476, R477): a GO during a pass is ignored with 0x7008. -/
def stimGoS (mask : BitVec 16) (s : State) : State :=
  let s := modTmp (fun x => { x with stimMask := mask }) s
  if s.tmp.stimLeft != [] then
    emit .secure 0x7008 (srcTree 0) [] (modTmp (fun x => { x with result := 0x7008 }) s)
  else stimBegin mask s

/-- Meaning of STIM_GO. -/
def execStimGo (mask : BitVec 16) (s : State) : Host.Outcome State Fault Refusal := act (pf1Do (stimGoS mask)) s

/-- STIM_WINDOW_END (R476-R478): the stimulated source passes or fails; a real condition present at the end fires it. -/
def stimWindowEndS (t : Nat) (pass real : Bool) (s : State) : State :=
  let s := atTime t s
  match s.tmp.stimLeft with
  | [] => s
  | n :: rest =>
    let ok := pass && !real
    let s := modTmp (fun x => { x with
      stimLeft := rest, stimDone := setBit x.stimDone n true, stimPass := setBit x.stimPass n ok }) s
    let s := if ok then s else emit .tamper 0x7005 (srcTree 0) [] s
    let s := fireAll ((if real then [n] else []) ++ (if !ok && !srcDisabled n s then [15] else [])) s
    if rest = [] then
      modTmp (fun x => { x with result := if x.stimPass = x.stimDone then 0 else 0x7005 }) s
    else s

/-- Meaning of STIM_WINDOW_END. -/
def execStimWindowEnd (t : Nat) (pass real : Bool) (s : State) : Host.Outcome State Fault Refusal := act (stimWindowEndS t pass real) s

/-! ### Disable fuses (R478, R479) -/

/-- A key block that stands as the owner's (17 R457). -/
def ownerSigner (g : Signed) (s : State) : Bool :=
  if s.grn.installed then
    ruleMet s.grn.grain.signers.ownerRule (g.keys.map (·.alg))
      && (match s.fuses.ownerKeys.findIdx? (· == g.digest) with
          | some i => g.digest != [] && s.grn.grain.signers.ownerMask.getLsbD i
          | none => false)
  else ruleMet 2 (g.keys.map (·.alg)) && s.fuses.ownerKeys.contains g.digest

/-- A signature structure by the vendor, or by an owner, over a message (17 R457). -/
def signedBy (vendor : Bool) (g : Signed) (msg : Bytes) (s : State) : Bool :=
  (if vendor then g.digest == Config.vendorKeyDigest else ownerSigner g s) && allVerify g msg

/-- A fresh challenge at a buffer's start; a DRBG_T without output leaves 0x5011. -/
def freshChallenge (s : State) : Option (Bytes × State) := drbgRequest 4 false 32 s

/-- TMP_DIS_CMD.BUSY: a request waits for its time or for VFUSE. -/
def disBusyNow (s : State) : Bool := s.tmp.disBusy || decide (s.now < s.tmp.disAt)

/-- The challenge of a request, drawn at once or waited for (06 R152). -/
def disChallengeDraw (s : State) : State :=
  orWait .disChallenge (fun s => match freshChallenge s with
    | some (c, s) => modTmp (fun x => { x with buf := mwrite 0 [] 0 c, disChallenge := some c, result := 0 }) s
    | none => starved (modTmp (fun x => { x with disChallenge := none, result := 0x5011 }) s)) s

/-- DISABLE_CHALLENGE (R479). -/
def disableChallengeS (t : Nat) (s : State) : State :=
  let s := atTime t s
  if disBusyNow s then s
  else
    let s := modTmp (fun x => { x with buf := [], disReady := true, disAt := s.now + 10 * psMs }) s
    disChallengeDraw s

/-- Meaning of DISABLE_CHALLENGE: written by PF1 or through the debug TAP. -/
def execDisableChallenge (t : Nat) (s : State) : Host.Outcome State Fault Refusal := act (disableChallengeS t) s

/-- A disable token is accepted (R479). -/
def disTokenOk (b : Bytes) (s : State) : Bool :=
  let vendor := s.boot.lcs == .sapling
  (vendor || s.boot.lcs == .grafted)
    && slice b 0 4 == ascii "TDT1" && fieldLe b 4 2 != 0 && fieldLe b 6 2 == 0 && slice b 8 16 == padTo 16 s.fuses.fuseId
    && s.tmp.disChallenge == some (slice b 0x18 32)
    && (match parseSigned (b.drop 0x38) with | some g => signedBy vendor g (b.take 0x38) s | none => false)

/-- Fuse writes of an accepted token, once VFUSE is in range (R532). -/
def disBurn (s : State) : State :=
  match s.tmp.disPending with
  | some (c, m) =>
    if s.boot.vfuse then
      modTmp (fun x => { x with disPending := none, disBusy := false, result := c })
        { s with fuses := { s.fuses with tamperOff := s.fuses.tamperOff ||| m } }
    else s
  | none => s

/-- DISABLE_REQUEST (R479): the token leaves the buffer, the challenge is consumed, the fuses are burned or 0x7006. -/
def disableRequestS (t : Nat) (s : State) : State :=
  let s := atTime t s
  if disBusyNow s then s
  else
    let b := mread 0 s.tmp.buf 0 4096
    let ok := disTokenOk b s
    let s := modTmp (fun x => { x with buf := [], disChallenge := none, disReady := true, disAt := s.now + 10 * psMs }) s
    if ok then disBurn (modTmp (fun x => { x with disBusy := true, disPending := some (0, BitVec.ofNat 16 (fieldLe b 4 2)) }) s)
    else emit .secure 0x7006 (srcTree 0) [] (modTmp (fun x => { x with result := 0x7006 }) s)

/-- Meaning of DISABLE_REQUEST. -/
def execDisableRequest (t : Nat) (s : State) : Host.Outcome State Fault Refusal := act (disableRequestS t) s

/-! ### The alarm ring (20 R517) -/

/-- ALARM_N is asserted while the alarm ring holds an entry. -/
def alarmBall (s : State) : Bool := s.tel.alarm != []

/-- ALARM_POP: PF1 removes the oldest entry; an open overflow entry closes. -/
def alarmPopS (s : State) : State :=
  { s with tel := { s.tel with alarm := s.tel.alarm.drop 1, alarmOverflow := false } }

/-- Meaning of ALARM_POP. -/
def execAlarmPop (s : State) : Host.Outcome State Fault Refusal := act (pf1Do alarmPopS) s

end Sys2Proof.Machine
end

