-- ==== Sys2Proof/Machine/Install.lean ====
section
/-!
DEFINITION. Machine/Install.lean: the installation of a Grain as one act (04 R106, R111; 13 R359-R366) and what follows it:
power-on of the boughs, release of the leaves, program swaps, lanes that drain, and boughs that power down (03 R80; 04 R112, R113).
-/
namespace Sys2Proof.Machine

/-! ### Twig areas and check units (R155, R366) -/

/-- The areas of twig memory that sections give to one leaf: its lane ring, its MKA rings and its descriptor areas. -/
def leafAreas (g : Grain) (l : Nat) : List (Nat × Nat) :=
  let lane := match g.canopy with
    | some c => if roleIn g l = roleLane then [(c.laneRing + 8192 * (l % 4), 8192)] else []
    | none => []
  let mka := ((g.ports.getD []).filter (fun p => p.secy.any (fun y => y.present == 1 && y.mkaLeaf == l))).map (fun p => (p.mkaRing, 65536))
  let esc := (g.custody.domains.filter (fun d => fieldLe d.2.filter 4 2 == l)).map (fun d => (fieldLe d.2.filter 0x10 4, 32768))
  lane ++ mka.eraseDups ++ esc.eraseDups

/-- Zero an area of a twig's memory. -/
def twigZero (t : Nat) (a : Nat × Nat) (s : State) : State :=
  { s with lvs := { s.lvs with
    twig := tmod [] s.lvs.twig t (fun m => tfilter (fun k => !decide (a.1 ≤ k ∧ k < a.1 + a.2)) m) } }

/-- Areas that the new Grain gives to a leaf and the old one did not are zeroed (R366). -/
def areasZero (old new : Grain) (s : State) : State :=
  foldS (fun l s =>
    foldS (twigZero (twigOfLeaf l)) ((leafAreas new l).filter (fun a => !(leafAreas old l).contains a)) s) (List.range 192) s

/-- Check units whose owner changes are zeroed, WIDTH too (R155). -/
def chkOwners (g : Grain) (s : State) : State :=
  foldS (fun b s =>
    let o := (g.boughs.getD b {}).chkOwner
    if (chk b s).owner = o then s else setChk b { owner := o, width := 0 } s) (List.range 12) s

/-! ### Ports (R317, R363) -/

/-- The port's lanes start again at a re-grain: its pipes are disabled in CUT mode until they have started, and frames that waited in
its ingress buffer are discarded and counted (R317, R345). -/
def portRestart (p : Nat) (s : State) : State :=
  let down := fun (u : UnitId) (s : State) => if (disOf u s).off then s else disComplete u (disStart u true s)
  let on := !(disOf (.rxp (Fin.ofNat 16 p)) s).off || !(disOf (.txp (Fin.ofNat 16 p)) s).off
  let s := down (.txp (Fin.ofNat 16 p)) (down (.rxp (Fin.ofNat 16 p)) s)
  let s := foldS (fun k s => linkDownS s.now p k s) [0, 1, 2, 3] s
  let s := foldS (fun (e : Nat × Bytes) s => bump (cPort p e.1 8) s) (portAt p s).heldRx s
  let s : State := { s with nrg := { s.nrg with laneGroups := setBit s.nrg.laneGroups p false } }
  modPort p (fun x => { x with restart := on, heldRx := [] }) s

/-- The ports of a re-grain: those whose mode, pair or protection changes start again, those that a Grain without PORTS holds down go
down, and the SAs of removed SecYs are retired (R350, R363). `s` holds the old Grain. -/
def portsChange (new : Grain) (s : State) : State :=
  foldS (fun p s =>
    let a := gport p s
    let b := (new.ports.getD []).getD p {}
    let s := if new.ports.isNone then foldS (fun k s => linkDownS s.now p k s) [0, 1, 2, 3] s
      else if a.mode != b.mode || a.pair != b.pair || a.prot != b.prot then portRestart p s else s
    foldS (fun k s =>
      if (a.secy.getD k {}).present = 1 ∧ ¬((b.secy.getD k {}).present = 1 ∧ b.prot = 1) then modSecy p k (fun _ => {}) s else s)
      [0, 1, 2, 3] s) (List.range 16) s

/-- LANE_GROUP_START (R80, R317): a port's group of four lanes starts, and a port that started again is enabled. -/
def laneGroupStartS (t p : Nat) (s : State) : State :=
  let s := atTime t s
  let free := match s.nrg.lastGroup with | some l => decide (l + 10 * psUs ≤ s.now) | none => true
  if !portsOn s || !free || (List.range 16).find? (fun i => !s.nrg.laneGroups.getLsbD i) != some p then s
  else
    let s : State := { s with nrg := { s.nrg with laneGroups := setBit s.nrg.laneGroups p true, lastGroup := some s.now } }
    if (portAt p s).restart then
      let up := fun (u : UnitId) (s : State) => if (disOf u s).off then disOn u s else s
      up (.txp (Fin.ofNat 16 p)) (up (.rxp (Fin.ofNat 16 p)) (modPort p (fun x => { x with restart := false }) s))
    else s

/-- Meaning of LANE_GROUP_START. -/
def execLaneGroupStart (t : Nat) (port : Fin 16) (s : State) : Host.Outcome State Fault Refusal := act (laneGroupStartS t port.val) s

/-! ### Custody (04 R95, R96, R114; 07 and 08, Coincidences) -/

/-- Domains that a Grain configures. -/
def domainsOf (g : Grain) : List Nat := g.custody.domains.map (·.1)

/-- Domains that a re-grain removes: disabled in CUT mode and held. `s` holds the old Grain. -/
def custodyRemove (new : Grain) (s : State) : State :=
  foldS (fun d s =>
    let u : UnitId := .custody (Fin.ofNat 32 d)
    if (domainsOf new).contains d then s
    else
      let s := modCdom d (fun x => { x with meas := none }) s
      if (disOf u s).off then s else disComplete u (disStart u true s)) (domainsOf s.grn.grain) s

/-- The image that the bootstrap released would fail the installed policy of D00 (R96): slot, form, shadow, floor, keys, signatures, or the
flash mode. -/
def bootstrapWeaker (s : State) : Bool :=
  let x := cdom 0 s
  let p := (gdom 0 s).policy
  p != [] && !((headTest 0 (x.header.take 512) (srcLimit p x.src) (polShadow p) (cusFloor 0 s) false s.fuses.fuseId).isNone
    && (signedTest x.header (polKeys p)).isNone && sigTest x.header (polRule p) && (discoverFlash p x.info.sfdp false).isSome)

/-- D00 runs under the bootstrap. -/
def bootstrapRuns (s : State) : Bool := s.boot.bootstrapped && (cdom 0 s).st == .running && (cdom 0 s).flt.rom

/-- Custody at an installation: the Grain's rules and slots for a bootstrapped D00, and custody boot of each domain newly configured; while
the anchor is lost every configured domain is FAILED instead (09 R246). -/
def custodyInstall (old : List Nat) (s : State) : State :=
  let s :=
    if bootstrapRuns s && cusConfigured 0 s then
      let s := modCdom 0 (fun x => { x with pol := (gdom 0 s).policy }) (modFlt 0 (fun f => { f with rom := false, bootFrom := s.now }) s)
      if bootstrapWeaker s then bootCode .secure 0x1021 (srcDomain 0) (modCus (fun c => { c with weaker := true }) s) else s
    else s
  let may := lcsLoads s.boot.lcs
  foldS (fun d s =>
    if old.contains d || (cdom d s).st == .running || (cdom d s).st == .fenced then s
    else if s.kpf.anchorLost then cusFailed d s
    else if !may then s
    else modCdom d (fun x => { x with bootDue := cusOn d s }) s) (domainsOf s.grn.grain) s

/-! ### Canopy (10 R285, R286; 11 R302, R311; 13 R363) -/

/-- Buckets that change lane while their old lane holds entries of them: bucket to old lane + 1. -/
def drainsOf (before : List Nat) (s : State) : Tab Nat :=
  (before.zipIdx).foldl (fun t e =>
    if laneOf e.2 s != e.1 && drainLeft (e.2, e.1 + 1) s then tset 0 t e.2 (e.1 + 1) else t) []

/-- Lanes that the Grain names and that are fenced move again under its spares (13 Coincidences). -/
def lanesRepair (s : State) : State :=
  foldS (fun l s =>
    if (leafAt l s).fenced && isLane l s && (List.range 1024).any (fun b => laneOf b s == l) then moveLane l s else s)
    (List.range 192) s

/-- A build of the Ring store begins: its first state, and the ceilings asked of the buddy (R285, R286, R311). A keyless start leaves
the contexts unread and CNP stopped (log entry 42). -/
def canopyBegin (s : State) : State :=
  let wake := s.slp.resume && s.slp.resumeSeq == s.grn.grain.seq
  let s := modCnp (fun n => { n with ctx := if wake then n.ctx else [] }) s
  if s.boot.keyless then s
  else
    let s := modCnp (fun n => { n with st := if wake || (gcan s).imageWait == 0 then 2 else 1 }) s
    if inGrove s && decide (1 < groveSize s) then ringTo (buddyOf (memberNo s) s) (.control .ceilAsk) s else s

/-- Canopy at an installation. `before` is the lane of each bucket under the old Grain, `had` whether that one had Canopy. -/
def canopyInstall (before : List Nat) (had : Bool) (s : State) : State :=
  if !canopyOn s then
    if !had then s
    else if s.cnp.img.isSome then modCnp (fun n => { n with stopDue := true }) s
    else modCnp (fun n => { n with st := 0 }) s
  else if !had then canopyBegin s
  else
    let s := modCnp (fun n => { n with moved := [], sparesUsed := [] }) s
    lanesRepair { s with grn := { s.grn with drains := drainsOf before s } }

/-! ### Leaves and boughs (R112, R363-R365) -/

/-- A leaf of a bough that has power no longer holds the role or program that the Grain gives it (R364). -/
def swapNeeded (old : Grain) (l : Nat) (s : State) : Bool :=
  let b := boughOfLeaf l
  let x := leafAt l s
  let e := grainLeaf l s
  let on := (boughNrg b s).power == .running || (boughNrg b s).power == .frozen
  on && !s.boot.releaseQueue.contains b && !x.fenced && (x.role != e.role || (x.released && (x.program != e.program
      || tget {} old.programs e.program != tget {} s.grn.grain.programs e.program)))

/-- The swaps of an installation, with those of the last one still pending (13 Coincidences). -/
def swapsOf (old : Grain) (s : State) : List Nat :=
  (List.range 192).filter (fun l => s.grn.swaps.contains l || swapNeeded old l s)

/-- A frozen bough with swaps: one C1 job of kind 6 for each while it stays freezable, else a thaw (R365). -/
def swapThaw (b : Nat) (s : State) : State :=
  let n := (s.grn.swaps.filter (fun l => boughOfLeaf l == b)).length
  if n = 0 ∨ (boughNrg b s).power ≠ .frozen then s
  else if boughFreezable b s then foldS (fun _ s => queueJobAs false .none 6 (some b) s) (List.range n) s
  else needThaw b s

/-- Boughs at an installation: those to be powered, those to be powered down, and the releases (R112, R363). -/
def boughsInstall (old : Grain) (first : Bool) (s : State) : State :=
  let want := fun (b : Nat) => (s.grn.grain.boughs.getD b {}).power == 1
  let st := fun (b : Nat) => (boughNrg b s).power
  let bs := List.range 12
  let up := bs.filter (fun b => want b && st b == .off)
  let down := bs.filter (fun b => !want b && (st b == .running || st b == .frozen))
  let rel := if first then (match s.boot.helper with | some h => if want h then [h] else [] | none => []) else []
  let s : State := { s with
    boot := { s.boot with installedAt := s.now, releases := 0, powerQueue := up, releaseQueue := s.boot.releaseQueue ++ rel }
    grn := { s.grn with powerDown := down } }
  let s : State := { s with grn := { s.grn with swaps := swapsOf old s } }
  foldS swapThaw bs (foldS (fun b s => needThaw b s) down s)

/-! ### The act of installation -/

/-- Once every bough has been powered and released, the roles of boughs that failed move, and PHASE goes on. -/
def bringUpDone (s : State) : State :=
  if s.boot.powerQueue ≠ [] ∨ s.boot.releaseQueue ≠ [] then s
  else
    let ls := s.boot.failed.flatMap (fun b => (List.range 16).map (fun i => 16 * b + i))
    let s := foldS fenceMove ls { s with boot := { s.boot with failed := [] } }
    if s.boot.phase = .boughs then phaseRun (setPhase .custody s) else s

/-- The Grain in force from a re-grain on: TIME waits for the next slot edge, ENERGY but for its hold-up declaration for the next period
boundary (R363). -/
def inForce (old new : Grain) (first : Bool) : Grain :=
  if first then new
  else { new with time := old.time, energy := { old.energy with holdupUj := new.energy.holdupUj, keepTpp := new.energy.keepTpp } }

/-- GRAIN_MEAS after one more installed head (19 R485). -/
def measNext (partialG : Bool) (meas digest : Bytes) : Bytes :=
  sha384 ((if partialG then padTo 48 meas else List.replicate 48 0) ++ digest)

/-- A Grain's blocks wait to be stored, as C1 work that start-up does not wait for (R107; kind by log entry 36). A later Grain takes the
place of one that waits. -/
def storeQueue (blocks : Tab Bytes) (s : State) : State :=
  let s := jobDone .store { s with
    grn := { s.grn with storeDue := true, storeBlocks := blocks }
    nrg := { s.nrg with jobs := s.nrg.jobs.filter (fun j => j.act != .store) } }
  queueJobAs false .store 3 none s

/-- The installed Grain's state, with its measurement, its heads, and the write that STORE owes (R107, R360). -/
def grainTake (g : Grain) (first : Bool) (s : State) : State :=
  let p := s.grn.push
  let h := sha384 (tget [] p.staging 0)
  let store := p.store && decide (p.source ≤ 1) && !g.partialG
  let s : State := { s with grn := { s.grn with
    installed := true, grain := inForce s.grn.grain g first
    timeNext := if first then none else if g.partialG then s.grn.timeNext else some g.time
    energyNext := if first then none else if g.partialG then s.grn.energyNext else some g.energy
    partials := if g.partialG then s.grn.partials + 1 else 0
    heads := if g.partialG then s.grn.heads ++ [h] else [h]
    meas := measNext g.partialG s.grn.meas h } }
  if store then storeQueue p.staging s else s

/-- Keys at an installation (05 R118-R120, R127, R139, R140). -/
def keysInstall (first : Bool) (oldSvn : Nat) (s : State) : State :=
  let s := deriveGrain s.grn.grain.svn s
  let s := if first then loadKeys s else if oldSvn < s.grn.grain.svn then markRewrap s else s
  policyErase s

/-- Ledger and timebase at an installation (R38, R50, R62, R76). -/
def ledgerInstall (first : Bool) (s : State) : State :=
  let e := s.grn.grain.energy
  let s := reserveUpdate { s with nrg := { s.nrg with nMax := nMaxOf e.holdupUj e.keepTpp } }
  if first then budgetTurn true (sltInstall true { s with kpf := { s.kpf with ckptAt := 0 } }) else s

/-- The blocks of the crown's Grain, for its members (19 R495). -/
def crownKeeps (g : Grain) (blocks : List Bytes) (s : State) : State :=
  if !isCrown s then s
  else
    let e := (g.baseSeq, g.seq, blocks)
    offerAll (modGrv (fun x => { x with grains := if g.partialG then x.grains ++ [e] else [e] }) s)

/-- The parts of range `a` that lie outside range `b`; ranges by first and last + 1. -/
def rangeDiff (a b : Nat × Nat) : List (Nat × Nat) :=
  [(a.1, min a.2 b.1), (max a.1 b.2, a.2)].filter (fun r => decide (r.1 < r.2))

/-- A partition's page groups. -/
def groupRange (p : Part) : Nat × Nat := (p.base / groupBytes, (p.base + p.bytes) / groupBytes)

/-- The SPILL and WORK page groups that change partition, each once, as first group and count (13 R363). -/
def groupsMoved (old new : GMemory) : List (Nat × Nat) :=
  let wo := groupRange old.work
  let wn := groupRange new.work
  let so := groupRange old.spill
  let sn := groupRange new.spill
  (rangeDiff wo wn ++ rangeDiff wn wo ++ (rangeDiff so sn).flatMap (fun r => rangeDiff r wn)
    ++ (rangeDiff sn so).flatMap (fun r => rangeDiff r wo)).map (fun r => (r.1, r.2 - r.1))

/-- Page groups of each half of the ROM region (R90). -/
def romHalf : Nat := 16

/-- The ROM region passes to WORK under new page-group keys (R90): its staging half at the installation, and with it the other half unless
that serves a bootstrapped D00. -/
def romRegionPass (s : State) : State :=
  let s := rekeyGroups 0 romHalf s
  if bootstrapRuns s then s else rekeyGroups romHalf romHalf { s with boot := { s.boot with romRegion := false } }

/-- A Grain that has passed every check is installed as one act (R111). -/
def installNow (s : State) : State :=
  let g := stagedGrain s
  let first := !s.grn.installed
  let old := s.grn.grain
  let blocks := s.grn.push.staging.map (·.2)
  let had := canopyOn s
  let before := if had then (List.range 1024).map (fun b => laneOf b s) else []
  let doms := if first then [] else domainsOf old
  let s := if first then s else portsChange g (custodyRemove g s)
  let s := grainTake g first s
  let s := setPush { s.grn.push.emptied with state := 4, result := 0 } s
  let s : State := { s with
    boot := { s.boot with
      pf1Pending := s.grn.grain.pf1 == 1 && !s.boot.pf1 } }
  let s := if first then romRegionPass s else foldS (fun (e : Nat × Nat) s => rekeyGroups e.1 e.2 s) (groupsMoved old.memory g.memory) s
  let s := ledgerInstall first (keysInstall first old.svn s)
  let s := chkOwners g (areasZero old g s)
  let s := boughsInstall old first s
  let s := canopyInstall before had (custodyInstall doms s)
  let s := spdmResync s
  crownKeeps g blocks (bringUpDone (if first then setPhase .boughs s else s))

/-- The steps of SVN_COMMIT are burned before any section acts (R359). -/
def svnBurn (g : Grain) (s : State) : State :=
  if g.svnCommit then { s with fuses := { s.fuses with svn := max s.fuses.svn g.svn } } else s

/-- GRAIN_INSTALL (R111, R359, R362, R367): `lvl` the NRG_LVL balls. A re-grain waits while the Ring store is being built, and an
installation that burns steps waits for VFUSE (21 R532). -/
def grainInstallS (t : Nat) (lvl : BitVec 2) (s : State) : State :=
  let s := atTime t s
  let p := s.grn.push
  if p.state ≠ 3 ∨ p.result = 0x1027 then s
  else if s.grn.installed && (s.cnp.st == 1 || s.cnp.st == 2) then s
  else match grainRefusal s with
    | some c =>
      if c = 0x1026 ∧ p.store ∧ p.source ≤ 1 ∧ !(stagedGrain s).partialG then
        emit .info 0x1027 (srcTree 0) [] (setPush { s.grn.push with result := 0x1027 } (storeQueue p.staging s))
      else endPush c s
    | none =>
      let g := stagedGrain s
      let s := if s.grn.installed || s.boot.phase == .install then s else setPhase .install s
      if g.svnCommit && decide (s.fuses.svn < g.svn) && !s.boot.vfuse then s
      else installNow (svnBurn g { s with nrg := { s.nrg with lvlBalls := lvl } })

/-- Meaning of GRAIN_INSTALL. -/
def execGrainInstall (t : Nat) (lvl : BitVec 2) (s : State) : Host.Outcome State Fault Refusal := act (grainInstallS t lvl) s

/-! ### The stored copies (R106) -/

/-- `n` bytes of a copy from byte `off` of its range, page by page, as each mirror in use holds the page. -/
def keepPageChoices (c off n : Nat) (s : State) : List (List Bytes) :=
  (List.range ((n + 255) / 256)).map (fun i =>
    ((mirrors s).map (fun m => (mir m s).read (grainBase c + off / 256 + i))).eraseDups)

/-- A choice of pages that passes a test, the earlier mirror's page first. A page of a copy has no check of its own: it fails when the
bytes it belongs to fail theirs, and is then read from the other mirror (log entry 13). -/
def pickPages (n : Nat) (test : Bytes → Bool) : List (List Bytes) → List Bytes → Option Bytes
  | [], acc => let b := (acc.reverse.flatten).take n; if test b then some b else none
  | ps :: t, acc => ps.findSome? (fun p => pickPages n test t (p :: acc))

/-- A copy's head that verifies; an erased range is empty. -/
def keepHead (c : Nat) (s : State) : Option Bytes :=
  pickPages 65536 (fun h => (headTests h s).isNone) (keepPageChoices c 0 65536 s) []

/-- The copies whose heads verify, the higher GRAIN_SEQ first. -/
def keepCopies (s : State) : List Nat :=
  match keepHead 0 s, keepHead 1 s with
  | some a, some b => if (headFields a).seq < (headFields b).seq then [1, 0] else [0, 1]
  | some _, none => [0]
  | none, some _ => [1]
  | none, none => []

/-- Posted length of block `k` (R98, R235): 64 KiB, the final one the rest of the body. -/
def blockLen (h : Bytes) (k : Nat) : Nat :=
  let f := headFields h
  if k + 1 < f.blocks then 65536 else f.bodyLen - 65536 * (f.blocks - 2)

/-- A body block of a copy whose digest is the head's. -/
def keepBody (h : Bytes) (c k : Nat) (s : State) : Option Bytes :=
  pickPages (blockLen h k) (fun b => sha384 b == headDigestOf h k) (keepPageChoices c (65536 * k) (blockLen h k) s) []

/-- A whole copy as staging. -/
def keepStage (c : Nat) (s : State) : Option (Tab Bytes) :=
  match keepHead c s with
  | none => none
  | some h =>
    (List.range ((headFields h).blocks - 1)).foldl (fun (t : Option (Tab Bytes)) i =>
      match t, keepBody h c (i + 1) s with
      | some t, some b => some (tset [] t (i + 1) b)
      | _, _ => none) (some [(0, h)])

/-- The first copy of a list that verifies throughout goes to staging; the next ones stay to be tried should it not install. -/
def keepTry : List Nat → State → State
  | [], s =>
    let s := bootCode .fault 0x1020 srcKeep { s with grn := { s.grn with keepOrder := [] } }
    if s.boot.src = 3 then stopBoot s else s
  | c :: cs, s =>
    match keepStage c s with
    | none => keepTry cs (endPush 0x1012 s)
    | some b =>
      setPush { s.grn.push.emptied with
        state := 3, source := 2, iface := false, staging := b, total := b.length, accepted := b.length, result := 0 }
        (setPhase .verify { s with grn := { s.grn with keepOrder := cs } })

/-- KEEP_GRAIN_READ (R106): in the KEEP modes, before any Grain; an open push session ends the attempt. -/
def keepGrainReadS (t : Nat) (s : State) : State :=
  let s := atTime t s
  let p := s.grn.push
  if s.grn.installed || (grainBough s).isNone || !(s.boot.src == 0 || s.boot.src == 3) then s
  else if p.isOpen then (if p.source = 2 then s else { s with grn := { s.grn with keepTried := true, keepOrder := [] } })
  else if !s.grn.keepTried then keepTry (keepCopies s) { s with grn := { s.grn with keepTried := true } }
  else if p.state = 5 ∧ p.source = 2 then keepTry s.grn.keepOrder (setPush { s.grn.push with source := 0 } s)
  else s

/-- Meaning of KEEP_GRAIN_READ. -/
def execKeepGrainRead (t : Nat) (s : State) : Host.Outcome State Fault Refusal := act (keepGrainReadS t) s

/-! ### Power-on and release (R80, R112, R113) -/

/-- A bough fails its power-on self-test (R112, 17 R451): it is fenced, with its leaves in the roles that the Grain gives them. -/
def boughFail (b : Nat) (s : State) : State :=
  let s := modBough b (fun x => { x with power := .fenced }) s
  let s := foldS (fun i s =>
    let l := 16 * b + i
    let e := grainLeaf l s
    setLeaf l { role := e.role, program := e.program, fenced := true } s) (List.range 16) s
  let s : State := { s with
    boot := { s.boot with failed := s.boot.failed ++ [b] }, lcy := { s.lcy with mbist := setBit s.lcy.mbist b true } }
  bootCode .fault 0x1022 (srcBough b) (brlFence b s)

/-- A bough is powered: its memories, its engine but for the CORE registers BRL_nn_STAT.FENCED and BRL_nn_LAST (00 R10), and its check
unit are zeroed, and it passes or fails its self-test. -/
def boughPowered (b : Nat) (ok : Bool) (s : State) : State :=
  let s : State := { s with
    lvs := { s.lvs with
      leaf := tfilter (fun l => l / 16 != b) s.lvs.leaf, twig := tfilter (fun t => t / 4 != b) s.lvs.twig
      bough := tset [] s.lvs.bough b [] }
    brl := { s.brl with eng := tmod {} s.brl.eng b (fun e => {
      fenced := e.fenced, lastCode := e.lastCode, lastOp := e.lastOp, lastSub := e.lastSub }) } }
  let s := setChk b { owner := (s.grn.grain.boughs.getD b {}).chkOwner } s
  if ok then
    let s := modBough b (fun _ => { power := .running }) s
    { s with boot := { s.boot with releaseQueue := s.boot.releaseQueue ++ [b] } }
  else boughFail b s

/-- BOUGH_POWER_ON (R80, R112): the first bough that waits, 25 µs after the one before. -/
def boughPowerOnS (t : Nat) (ok : Bool) (s : State) : State :=
  let s := atTime t s
  let free : Bool := match s.nrg.lastPower with | some l => decide (l + 25 * psUs ≤ s.now) | none => true
  match s.boot.powerQueue with
  | [] => s
  | b :: bs =>
    if !free then s
    else
      let s : State := { s with nrg := { s.nrg with lastPower := some s.now }, boot := { s.boot with powerQueue := bs } }
      bringUpDone (boughPowered b ok s)

/-- Meaning of BOUGH_POWER_ON. -/
def execBoughPowerOn (t : Nat) (ok : Bool) (s : State) : Host.Outcome State Fault Refusal := act (boughPowerOnS t ok) s

/-- The earliest time of the next release (R112). -/
def releaseAt (s : State) : Nat := s.boot.installedAt + 25 * psUs / 2 + 25 * psUs * s.boot.releases

/-- LEAF_RELEASE (R112, R113): the leaves of the first bough that waits are loaded and released. -/
def leafReleaseS (t : Nat) (s : State) : State :=
  let s := atTime t s
  match s.boot.releaseQueue with
  | [] => s
  | b :: bs =>
    if s.now < releaseAt s then s
    else
      let s : State := { s with boot := { s.boot with releaseQueue := bs, releases := s.boot.releases + 1 } }
      bringUpDone (foldS (fun i s => loadLeaf (16 * b + i) (grainLeaf (16 * b + i) s) s) (List.range 16) s)

/-- Meaning of LEAF_RELEASE. -/
def execLeafRelease (t : Nat) (s : State) : Host.Outcome State Fault Refusal := act (leafReleaseS t) s

/-! ### Swaps and power-down (R363-R366) -/

/-- The leaf's role work has stopped (R364 step 1): no bucket drains from it, and no escape awaits its verdict. -/
def roleWorkDone (l : Nat) (s : State) : Bool :=
  !s.grn.drains.any (fun d => d.2 == l + 1 && drainLeft d s)
    && !s.cus.dom.any (fun e => match e.2.flt.esc with | some x => x.leaf == l | none => false)

/-- Results in flight retire into the old context (R364 step 2). -/
def leafRetire (l : Nat) (s : State) : State := leafSettle l (modLeaf l (fun x => { x with cyc := x.drained }) s)

/-- One of the bough's swap jobs has ended (R69, R365). -/
def swapJobEnd (b : Nat) (s : State) : State :=
  { s with nrg := { s.nrg with admitted := s.nrg.admitted.eraseP (fun j => j.kind == 6 && j.bough == some b) } }

/-- PROGRAM_SWAP (R364-R366, 16 R437): its channels close, the leaf is zeroed, loaded and released under the program that the Grain gives it. A fenced leaf's swap
is abandoned; a frozen bough's waits. -/
def programSwapS (l : Nat) (s : State) : State :=
  if !s.grn.swaps.contains l then s
  else
    let done := fun (s : State) => ({ s with grn := { s.grn with swaps := s.grn.swaps.filter (· != l) } } : State)
    if (leafAt l s).fenced then done s
    else if !boughRuns (boughOfLeaf l) s || !roleWorkDone l s then s
    else
      let e := grainLeaf l s
      let s := closeLeafChannels l (leafDrop l (leafRetire l s))
      let s := if (leafAt l s).role = e.role then s else modLane l (fun _ => {}) s
      swapJobEnd (boughOfLeaf l) (hollowSweep (done (loadLeaf l e s)))

/-- Meaning of PROGRAM_SWAP. -/
def execProgramSwap (l : Fin 192) (s : State) : Host.Outcome State Fault Refusal := act (programSwapS l.val) s

/-- The Burl engine has no job at any port. -/
def burlIdle (b : Nat) (s : State) : Bool := (eng b s).ports.all (fun e => e.2 == noJob)

/-- BOUGH_POWER_DOWN (R92, R363): after its swaps and its Burl job; the helper bough after the last custody verification. -/
def boughPowerDownS (b : Nat) (s : State) : State :=
  let busy := s.grn.swaps.any (fun l => boughOfLeaf l == b) || !burlIdle b s
    || (s.boot.helper == some b && s.cus.dom.any (fun e => e.2.st == .select || e.2.st == .verify || (e.2.bootDue && e.2.pg)))
  if !s.grn.powerDown.contains b || busy then s
  else
    let s := modBough b (fun _ => { power := .off }) s
    let s : State := { s with
      grn := { s.grn with powerDown := s.grn.powerDown.filter (· != b) }
      boot := { s.boot with helper := if s.boot.helper = some b then none else s.boot.helper } }
    hollowSweep s

/-- Meaning of BOUGH_POWER_DOWN. -/
def execBoughPowerDown (b : Fin 12) (s : State) : Host.Outcome State Fault Refusal := act (boughPowerDownS b.val) s

/-! ### Draining buckets (R363) -/

/-- The entries of a draining bucket that the old lane still holds go back to the front of the queue with RETRY and to the new lane
(11 R302 step 3), and what the old lane had begun for them is dropped (R303). -/
def drainMove (d : Nat × Nat) (s : State) : State :=
  let l := d.2 - 1
  let hit := fun (x : Entry) => x.place == 2 && x.lane == l && bucketOf x.sensor.toNat == d.1
  let hs := (laneAt l s).ring.filter (fun h => match entryAt h s with | some x => hit x | none => false)
  let es := (hs.filterMap (fun h => entryAt h s)).map (fun e => { e with retried := true, place := 1 })
  let s := modCnp (fun n => { n with
    entries := es ++ n.entries.filter (fun e => !hs.contains e.handle)
    opens := n.opens.filter (fun o => o.mgmt != 0 || !hs.contains o.entry), held := n.held.filter (fun h => !hs.contains h.opn.entry) }) s
  foldS reDispatch hs (modLane l (fun x => { x with ring := x.ring.filter (fun h => !hs.contains h) }) s)

/-- BUCKET_DRAIN_EXPIRY (R363): 64 µs have passed. -/
def bucketDrainExpiryS (s : State) : State :=
  let ds := s.grn.drains
  beginOpens (foldS drainMove ds { s with grn := { s.grn with drains := [] } })

/-- Meaning of BUCKET_DRAIN_EXPIRY. -/
def execBucketDrainExpiry (s : State) : Host.Outcome State Fault Refusal := act bucketDrainExpiryS s

/-! ### The bootstrap of D00 (R93-R97) -/

/-- The first failing test of a whole bootstrap image (R93), none when it may be released. -/
def bootstrapTest (b : Bytes) (s : State) : Option W16 :=
  let h := hdrOf b
  let hd := b.take h.headerLen
  match headTest 0 (b.take 512) 33554432 33554432 (cusFloor 0 s) false s.fuses.fuseId with
  | some c => some c
  | none =>
    match (if hd.length = h.headerLen then signedTest hd [s.fuses.bootKey] else some 0x2002) with
    | some c => some c
    | none =>
      let ok := match parseSigned (hd.drop 0x200) with
        | some g => g.keys.any (fun k => k.alg == 1) && allVerify g (hd.take 0x200)
        | none => false
      let t := slice b h.headerLen (48 * h.blocks)
      let blocks := (List.range h.blocks).all (fun i =>
        sha384 (slice b (h.bodyOff + i * 2 ^ h.blockLog2) (h.blockLen i)) == tableEntry t i)
      if !ok then some 0x2004
      else if sha384 t != h.tableDigest || !blocks || decide (b.length < h.imageLen) then some 0x2005 else none

/-- A slot judged as a candidate from bytes 0x000 to 0x1FF (07 R173, R185). -/
def bootstrapJudge (k : Nat) (b : Bytes) (s : State) : Bool × State :=
  match headTest 0 (b.take 512) 33554432 33554432 (cusFloor 0 s) false s.fuses.fuseId with
  | some c => (false, cusRecord 0 c 0 k s)
  | none => (true, s)

/-- The candidates, the higher SEQ first (07 R173). -/
def bootstrapOrder (a b : Bytes) (s : State) : List (Nat × Bytes) × State :=
  let ja := bootstrapJudge 0 a s
  let jb := bootstrapJudge 1 b ja.2
  let l := (if ja.1 then [(0, a)] else []) ++ (if jb.1 then [(1, b)] else [])
  let sa := (hdrOf a).seq
  let sb := (hdrOf b).seq
  if ja.1 && jb.1 then
    (if sa < sb then l.reverse else l, if sa = sb then emit .info 0x200D (srcDomain 0) [] jb.2 else jb.2)
  else (l, jb.2)

/-- The bootstrap fails (R97): D00 stays held with its alert. -/
def bootstrapFail (s : State) : State :=
  bootCode .secure 0x1005 (srcDomain 0) (modCdom 0 (fun x => { x with st := .failed, alert := true, bootDue := false }) s)

/-- Every verified region as the bootstrap shadow serves it (R94). -/
def bootShadow (x : CusDom) : List (Nat × Bytes) := x.hdr.regions.map (fun r => (r.2.2.1, slice x.body r.1 r.2.1))

/-- D00 is released under the ROM rule set (R93, R94), by the port's read in 1-1-1 at 50 MHz, since no Grain names a mode (log entry 42). -/
def bootstrapRelease (src : Nat) (fb : Bool) (b : Bytes) (i : FlashInfo) (since : Nat) (regs : List Bytes) (s : State) : State :=
  let h := hdrOf b
  let s := modCdom 0 (fun x => ({ x with
    src := src, fallback := fb, pol := [], header := b.take h.headerLen, hdr := h, body := slice b h.bodyOff h.bodyLen
    bootAt := min since s.now, info := i }).selected h) s
  let s := modCdom 0 (fun x => { x with
    st := .running, step := .idle, released := true, alert := false, bootDue := false, pgLost := false, accepted := h.blocks
    tRead := BitVec.ofNat 32 (readTime h.imageLen i.mode i.mhz), tVerify := BitVec.ofNat 32 ((s.now - x.bootAt) / psUs)
    meas := some (measOf x), shadow := bootShadow x, shadowLost := s.tmp.erased, body := [] }) s
  let s := fltRelease 0 true regs (fltPresent 0 i s)
  let s := modCus (fun c => { c with lastRelease := some s.now }) s
  { s with boot := { s.boot with bootstrapped := true } }

/-- The candidates in order (07 R174, R185); `fb`: one before has failed. -/
def bootstrapTry (i : FlashInfo) (since : Nat) (regs : List Bytes) : Bool → List (Nat × Bytes) → State → State
  | _, [], s => bootstrapFail (cusRecord 0 0x2001 3 (cdom 0 s).src s)
  | fb, (k, b) :: t, s =>
    match bootstrapTest b s with
    | none => bootstrapRelease k fb b i since regs s
    | some c => bootstrapTry i since regs true t (cusRecord 0 c (if t = [] then 3 else 1) k (modCdom 0 (fun x => { x with src := k, fallback := fb }) s))

/-- DOMAIN0_BOOTSTRAP (R93-R97, 09 R246; again after a loss of PG, 07 R163): the images that D00's two slots hold, its flash's SFDP and the
registers of the mirror; `since` is the time at which flash discovery began. -/
def domain0BootstrapS (t since : Nat) (a b : Bytes) (f : FlashSeen) (s : State) : State :=
  let s := atTime t s
  let x := cdom 0 s
  if !s.fuses.bootSet || !lcsLoads s.boot.lcs || s.grn.installed || (grainBough s).isNone || !dramUp s || !s.kpf.replayed
      || x.st != .held || !pgReady x s || !cusOn 0 s || (s.boot.bootstrapped && !x.bootDue) then s
  else
    let s := discoverOut 0 0 (bump (cCus 0 6) (modCdom 0 (fun x => { x with
      src := 0, fallback := false, seq := 0, svn := 0, total := 0, accepted := 0, tRead := 0, tVerify := 0 }) s))
    if s.kpf.anchorLost then bootstrapFail s
    else match flashDummy f.sfdp 0 50 with
      | none => bootstrapFail (cusRecord 0 0x2009 3 0 s)
      | some n =>
        let r := flashRead f.sfdp 0
        let o := bootstrapOrder a b s
        bootstrapTry { sfdp := f.sfdp, dummy := n, readOp := r.1, ab := r.2 } since f.regs false o.1 o.2

/-- Meaning of DOMAIN0_BOOTSTRAP. -/
def execDomain0Bootstrap (t since : Nat) (a b : Bytes) (f : FlashSeen) (s : State) : Host.Outcome State Fault Refusal :=
  act (domain0BootstrapS t since a b f) s

/-- BOOTSTRAP_SHADOW_COPY_DONE (R90, R95): reads come from the copy, and the ROM region's other half passes to WORK. -/
def bootstrapShadowCopyDoneS (s : State) : State :=
  if s.grn.installed && s.boot.bootstrapped && !s.boot.shadowCopied then
    rekeyGroups romHalf romHalf { s with boot := { s.boot with shadowCopied := true, romRegion := false } }
  else s

/-- Meaning of BOOTSTRAP_SHADOW_COPY_DONE. -/
def execBootstrapShadowCopyDone (s : State) : Host.Outcome State Fault Refusal := act bootstrapShadowCopyDoneS s

end Sys2Proof.Machine
end

