-- ==== Sys2Proof/Machine/Edge.lean ====
section
/-!
DEFINITION. Machine/Edge.lean: the slot edge with the events armed for it (02_slot_time.md R49-R54), and the acts that end keys and
floors: old material zeroed (05 R136), an anchor step burned and the owner's floors (09 R244-R247).
-/
namespace Sys2Proof.Machine

/-- An event that acts at a slot edge (R53), or a number of period boundaries with nothing between them. -/
inductive EdgeAct where
  | mark | boundary (n : Nat) | swap (slot : Nat) | rekey | checkpoint | down (d : Dlink)
deriving DecidableEq, Repr

/-- Its place in the order of R53. -/
def EdgeAct.order : EdgeAct → Nat
  | .mark => 1 | .boundary _ => 2 | .swap _ | .rekey => 3 | .checkpoint => 4 | .down _ => 5

/-- `a` acts no later than `b`: by slot number, then by the table of R53 (R52). -/
def edgeLe (a b : Nat × EdgeAct) : Bool := decide (a.1 < b.1) || (a.1 == b.1 && decide (a.2.order ≤ b.2.order))

/-- Insert after those of the same place. -/
def edgeInsert (a : Nat × EdgeAct) : List (Nat × EdgeAct) → List (Nat × EdgeAct)
  | [] => [a]
  | b :: t => if edgeLe b a then b :: edgeInsert a t else a :: b :: t

/-- The events in the order in which they act. -/
def edgeSort (l : List (Nat × EdgeAct)) : List (Nat × EdgeAct) := l.foldl (fun acc a => edgeInsert a acc) []

/-- The period boundaries of the slots above `lo` put among the other events of an edge, each in its own slot and place (R52). -/
def withBoundaries (hi p : Nat) : Nat → List (Nat × EdgeAct) → List (Nat × EdgeAct)
  | lo, [] => if boundariesIn lo hi p = 0 then [] else [(hi, .boundary (boundariesIn lo hi p))]
  | lo, a :: t =>
    let upTo := if a.2.order ≤ 2 then a.1 - 1 else a.1
    let n := boundariesIn lo upTo p
    (if n = 0 then [] else [(upTo, .boundary n)]) ++ a :: withBoundaries hi p (max lo upTo) t

/-- The slot at which an event armed for slot `a` counts: one that was armed for a passed slot acts at the next edge (R53). -/
def edgeSlot (lo a : Nat) : Nat := max (lo + 1) a

/-- Slot of the ring mark of an edge: the edge's own for a periodic mark, else the one-shot mark's (R52). -/
def markSlot (lo : Nat) (s : State) : Nat :=
  let hi := s.slt.slot.toNat
  if periodHit lo hi s.slt.curPeriod.toNat s.slt.curPhase.toNat then hi
  else match s.slt.oneShot with | some a => edgeSlot lo a.toNat | none => hi

/-- Every event that acts at the edge which moved the slot number on from `lo`. -/
def edgeActs (lo : Nat) (s : State) : List (Nat × EdgeAct) :=
  let hi := s.slt.slot.toNat
  let m : List (Nat × EdgeAct) := [(markSlot lo s, .mark)]
  let k := (s.vault.staged.filter (fun e => decide (e.2.at_.toNat ≤ hi))).map (fun e => (edgeSlot lo e.2.at_.toNat, EdgeAct.swap e.1))
  let r : List (Nat × EdgeAct) :=
    if s.cnp.rekeyAt = 0 ∨ hi < s.cnp.rekeyAt.toNat then [] else [(edgeSlot lo s.cnp.rekeyAt.toNat, .rekey)]
  let c : List (Nat × EdgeAct) := if ckptSlot s ≤ hi then [(edgeSlot lo (ckptSlot s), .checkpoint)] else []
  let d := (s.cnp.deadline.filter (fun d => decide (d.slot.toNat ≤ hi))).map (fun d => (edgeSlot lo d.slot.toNat, EdgeAct.down d))
  withBoundaries hi s.grn.grain.energy.periodSlots lo (edgeSort (m ++ k ++ r ++ c ++ d))

/-- CNP_REKEY_GEN increments, and the arming is spent (10 R273). -/
def rekeyEdge (s : State) : State := modCnp (fun c => { c with rekeyGen := c.rekeyGen + 1, rekeyAt := 0 }) s

/-- An armed replacement commits, and its persisted record is journalled (R136, R139). -/
def swapEdge (slot : Nat) (s : State) : State :=
  let x := tget {} s.vault.staged slot
  let s := replaceCommit slot x s
  if attrPersist x.attr then journalAct (.key slot) s else s

/-- A scheduled checkpoint begins (R237). -/
def checkpointEdge (s : State) : State := ckptStart { s with kpf := { s.kpf with ckptAt := s.slt.slot.toNat } }

/-- One event of an edge; `st0` is the time state in force before the edge. -/
def edgeAct (lo st0 : Nat) (a : Nat × EdgeAct) (s : State) : State :=
  match a.2 with
  | .mark => markEdge lo st0 s
  | .boundary n => ledgerBoundaries n s
  | .swap n => swapEdge n s
  | .rekey => rekeyEdge s
  | .checkpoint => checkpointEdge s
  | .down d => downSend d (modCnp (fun c => { c with deadline := c.deadline.filter (· != d) }) s)

/-- The TIME fields of a re-grain take effect (13 R363). -/
def timeTake (s : State) : State :=
  match s.grn.timeNext with
  | none => s
  | some t => sltInstall false { s with grn := { s.grn with timeNext := none, grain := { s.grn.grain with time := t } } }

/-- The edge's SLOT event on every leaf (14 R393); a frozen leaf keeps it latched. -/
def slotEvents (s : State) : State :=
  { s with lvs := { s.lvs with leaf := s.lvs.leaf.foldl (fun t e =>
      tset {} t e.1 (if e.2.released then { e.2 with events := setBit e.2.events 0 true } else e.2)) [] } }

/-- SLOT_EDGE (R49-R54): the slot number moves on, what is armed for it acts in order, a step is noted after the counters of the last
slot have been captured (R53), and the leaves see the event. -/
def slotEdgeS (t : Nat) (m : Meter) (lvl : BitVec 2) (s : State) : State :=
  let s := meter m (atTime t s)
  let s : State := { s with nrg := { s.nrg with lvlBalls := lvl } }
  let lo := s.slt.slot.toNat
  let st0 := s.slt.st.num
  let r := advanceSlot t (timeTake s)
  if r.2.moved then slotEvents (handbackEdge (stepNote r.2 (foldS (edgeAct lo st0) (edgeActs lo r.1) r.1))) else r.1

/-- Meaning of SLOT_EDGE. -/
def execSlotEdge (t : Nat) (m : Meter) (lvl : BitVec 2) (s : State) : Host.Outcome State Fault Refusal := act (slotEdgeS t m lvl) s

/-! ### Old material -/

/-- A request that a sap unit or a Burl engine accepted under an older generation of a slot has not ended (R136). -/
def oldHeld (n : Nat) (s : State) : Bool :=
  let g := (vslot n s).gen
  s.lvs.leaf.any (fun e => e.2.tags.any (fun t =>
    match t.2.req with
    | some r => (match r.key with | some k => k.1 == n && k.2 != g | none => false)
    | none => false))
  || s.brl.eng.any (fun e => e.2.ports.any (fun j => match j.2.key with | some k => k.1 == n && k.2 != g | none => false))
  || s.cnp.opens.any (fun o => o.fleet == n && o.gen != g) || s.cnp.held.any (fun h => h.opn.fleet == n && h.opn.gen != g)

/-- OLD_MATERIAL_ZERO (R136, R141): the replaced or erased material is zeroed once the last request that holds it has ended. -/
def keyOldMaterialZeroS (n : Nat) (s : State) : State :=
  if oldHeld n s then s else setVslot n { vslot n s with old := [] } s

/-- Meaning of OLD_MATERIAL_ZERO. -/
def execKeyOldMaterialZero (slot : BitVec 12) (s : State) : Host.Outcome State Fault Refusal :=
  act (keyOldMaterialZeroS slot.toNat) s

/-! ### The anchor -/

/-- The result of a floor raise to who asked for it (R244). -/
def floorDone (a : JAct) (s : State) : State :=
  match a with
  | .floor d _ 1 => modCdom d (fun x => { x with result := 0 }) s
  | .floor d _ 2 => mbxDone d (cdom d s).flt.mbx.tag 0 [] s
  | _ => s

/-- A floor raise that waits when the counter is spent (R179, R244): not needed any more, or refused with 0x2007. -/
def floorLate (a : JAct) (s : State) : State :=
  match a with
  | .floor d v w =>
    if v ≤ cusFloor d s then floorDone a s
    else
      let s := floorSpent d s
      if w = 2 then mbxDone d (cdom d s).flt.mbx.tag 0xF000 [] s else s
  | _ => s

/-- The last step is burned (R247): the raises that wait end. -/
def floorsSpent (s : State) : State :=
  let isFloor := fun (a : JAct) => match a with | .floor _ _ _ => true | _ => false
  let l := s.kpf.acts.filter isFloor
  foldS floorLate l { s with kpf := { s.kpf with acts := s.kpf.acts.filter (fun a => !isFloor a) } }

/-- ANCHOR_BURN_DONE (R244, R245, R247; 21 R532): the step is burned, and only now do the floors and the results change. -/
def anchorBurnDoneS (s : State) : State :=
  match s.kpf.burnTo with
  | none => s
  | some (n, fl) =>
    if !s.boot.vfuse then s
    else
      let acts := s.kpf.burning
      let s : State := { s with fuses := { s.fuses with anchor := n } }
      let s : State := bump (cDevice 10) { s with kpf := { s.kpf with
        floors := (fl.zipIdx).foldl (fun t e => tset 0 t e.2 e.1) [], burnTo := none, burning := [] } }
      let s := foldS floorDone acts s
      if 4096 ≤ n then floorsSpent s else s

/-- Meaning of ANCHOR_BURN_DONE. -/
def execAnchorBurnDone (s : State) : Host.Outcome State Fault Refusal := act anchorBurnDoneS s

/-- FLOOR_SET_GO (R246): while a recovery window is open after ANCHOR_LOST, the owner's floors go into an ANCHOR record. -/
def floorSetGoS (s : State) : State :=
  if s.boot.pf1 && s.vault.window.isSome && s.kpf.anchorLost then
    journalAct (.floorSet ((List.range 32).map (fun d => (tget 0 s.cus.floorSet d).toNat))) s
  else s

/-- Meaning of FLOOR_SET_GO. -/
def execFloorSetGo (s : State) : Host.Outcome State Fault Refusal := act floorSetGoS s

end Sys2Proof.Machine
end

