-- ==== Sys2Proof/Machine/LeafAlu.lean ====
section
/-!
DEFINITION. Machine/LeafAlu.lean: ALU and immediate operations (14_leaf_isa.md R381-R383, R390).
-/
namespace Sys2Proof.Machine

/-- A result with the flags that its operation updates. -/
structure AluRes where
  r : W32
  c : Option Bool := none
  v : Option Bool := none

/-- A sum with carry in: result, carry out, signed overflow (R382). -/
def addc (a b : W32) (cin : Bool) : AluRes :=
  let sum := a.toNat + b.toNat + b2n cin
  let exact : Int := a.toInt + b.toInt + b2n cin
  let r := BitVec.ofNat 32 sum
  { r := r, c := some (decide (2 ^ 32 ≤ sum)), v := some (decide (r.toInt ≠ exact)) }

/-- A left shift; V is 0 (R381, R382). -/
def shiftLeft (a : W32) (n : Nat) : AluRes :=
  { r := if n < 32 then a <<< n else 0, v := some false, c := if n = 0 then none else some (decide (n ≤ 32) && a.getLsbD (32 - n)) }

/-- A right shift, arithmetic or logical. -/
def shiftRight (arith : Bool) (a : W32) (n : Nat) : AluRes :=
  let out := if n ≤ 32 then a.getLsbD (n - 1) else arith && a.msb
  { r := if arith then a.sshiftRight (min n 32) else a >>> (min n 32), v := some false, c := if n = 0 then none else some out }

/-- A rotation; C follows bit 31 unless the amount is 0 modulo 32, and V is unchanged. -/
def rotRight (a : W32) (n : Nat) : AluRes :=
  let r := a.rotateRight (n % 32)
  { r := r, c := if n % 32 = 0 then none else some r.msb }

/-- 1 or 0. -/
def flagWord (b : Bool) : W32 := if b then 1 else 0

/-- Leading zeros (R381). -/
def clz32 (a : W32) : W32 := if a = 0 then 32 else BitVec.ofNat 32 (31 - a.toNat.log2)

/-- Byte reversal (R381). -/
def bswap32 (a : W32) : W32 := a.extractLsb' 0 8 ++ a.extractLsb' 8 8 ++ a.extractLsb' 16 8 ++ a.extractLsb' 24 8

/-- The two-source functions. -/
def aluFn (o : AluOp) (c : Bool) (a b : W32) : AluRes :=
  match o with
  | .add => addc a b false
  | .addc => addc a b c
  | .sub => addc a (~~~b) true
  | .subc => addc a (~~~b) c
  | .and => { r := a &&& b }
  | .or => { r := a ||| b }
  | .xor => { r := a ^^^ b }
  | .andn => { r := a &&& ~~~b }
  | .min => { r := if a.slt b then a else b }
  | .max => { r := if a.slt b then b else a }
  | .minu => { r := if a.ult b then a else b }
  | .maxu => { r := if a.ult b then b else a }
  | .slt => { r := flagWord (a.slt b) }
  | .sltu => { r := flagWord (a.ult b) }
  | .sll => shiftLeft a b.toNat
  | .srl => shiftRight false a b.toNat
  | .sra => shiftRight true a b.toNat
  | .ror => rotRight a b.toNat

/-- The one-source functions. -/
def unFn (o : UnOp) (a : W32) : AluRes :=
  match o with
  | .neg => aluFn .sub false 0 a
  | .clz => { r := clz32 a }
  | .bswap => { r := bswap32 a }

/-- Shifts by an immediate amount. -/
def shFn (o : ShOp) (a : W32) (n : Nat) : AluRes :=
  match o with
  | .slli => shiftLeft a n
  | .srli => shiftRight false a n
  | .srai => shiftRight true a n
  | .rori => rotRight a n

/-- The result goes to rd, and with `f` the flags update (R381): C and V where the operation gives them. -/
def aluEnd (l : Nat) (f : Bool) (rd : BitVec 5) (x : AluRes) (s : State) : State :=
  let s := leafReg l 1 rd x.r s
  if f then leafPush l 1 (.flags (some (zOf x.r)) (some (nOf x.r)) x.c x.v) s else s

/-- An instruction of two sources. -/
def aluS (l : Nat) (o : AluOp) (f : Bool) (rd rs rt : BitVec 5) (s : State) : State :=
  leafIssue l (.alu o f rd rs rt) (fun s =>
    let x := leafAt l s
    aluEnd l f rd (aluFn o x.c (x.reg rs) (x.reg rt)) s) s

/-- An instruction of one source: NEG always updates its flags (R381). -/
def unS (l : Nat) (o : UnOp) (f : Bool) (rd rs : BitVec 5) (s : State) : State :=
  leafIssue l (.un o f rd rs) (fun s => aluEnd l (f || o == .neg) rd (unFn o ((leafAt l s).reg rs)) s) s

/-- A shift by an immediate amount. -/
def shS (l : Nat) (o : ShOp) (f : Bool) (rd rs amt : BitVec 5) (s : State) : State :=
  leafIssue l (.sh o f rd rs amt) (fun s => aluEnd l f rd (shFn o ((leafAt l s).reg rs) amt.toNat) s) s

/-- The immediate operations (R383). -/
def immFn (o : ImmOp) (a : W32) (i : BitVec 16) : AluRes :=
  let x := i.signExtend 32
  let z := i.setWidth 32
  match o with
  | .addi => addc a x false
  | .andi => { r := a &&& z }
  | .ori => { r := a ||| z }
  | .xori => { r := a ^^^ z }
  | .slti => { r := flagWord (a.slt x) }
  | .sltiu => { r := flagWord (a.ult x) }
  | .addiS => addc a x false

/-- An immediate instruction: only ADDI.S updates flags. -/
def immS (l : Nat) (o : ImmOp) (rd rs : BitVec 5) (i : BitVec 16) (s : State) : State :=
  leafIssue l (.imm o rd rs i) (fun s => aluEnd l (o == .addiS) rd (immFn o ((leafAt l s).reg rs) i) s) s

/-- LUI. -/
def luiS (l : Nat) (rd : BitVec 5) (i : BitVec 16) (s : State) : State :=
  leafIssue l (.lui rd i) (leafReg l 1 rd (i ++ (0 : BitVec 16))) s

/-- CMPI: the flags of rs + not sext(imm) + 1. -/
def cmpiS (l : Nat) (rs : BitVec 5) (i : BitVec 16) (s : State) : State :=
  leafIssue l (.cmpi rs i) (fun s =>
    aluEnd l true 0 (aluFn .sub false ((leafAt l s).reg rs) (i.signExtend 32)) s) s

/-- Meaning of ADD. -/
def execLeafAdd (l : Fin 192) (f : Bool) (rd rs rt : BitVec 5) (s : State) : Host.Outcome State Fault Refusal :=
  act (aluS l.val .add f rd rs rt) s

/-- Meaning of ADDC. -/
def execLeafAddc (l : Fin 192) (f : Bool) (rd rs rt : BitVec 5) (s : State) : Host.Outcome State Fault Refusal :=
  act (aluS l.val .addc f rd rs rt) s

/-- Meaning of SUB. -/
def execLeafSub (l : Fin 192) (f : Bool) (rd rs rt : BitVec 5) (s : State) : Host.Outcome State Fault Refusal :=
  act (aluS l.val .sub f rd rs rt) s

/-- Meaning of SUBC. -/
def execLeafSubc (l : Fin 192) (f : Bool) (rd rs rt : BitVec 5) (s : State) : Host.Outcome State Fault Refusal :=
  act (aluS l.val .subc f rd rs rt) s

/-- Meaning of AND. -/
def execLeafAnd (l : Fin 192) (f : Bool) (rd rs rt : BitVec 5) (s : State) : Host.Outcome State Fault Refusal :=
  act (aluS l.val .and f rd rs rt) s

/-- Meaning of OR. -/
def execLeafOr (l : Fin 192) (f : Bool) (rd rs rt : BitVec 5) (s : State) : Host.Outcome State Fault Refusal :=
  act (aluS l.val .or f rd rs rt) s

/-- Meaning of XOR. -/
def execLeafXor (l : Fin 192) (f : Bool) (rd rs rt : BitVec 5) (s : State) : Host.Outcome State Fault Refusal :=
  act (aluS l.val .xor f rd rs rt) s

/-- Meaning of ANDN. -/
def execLeafAndn (l : Fin 192) (f : Bool) (rd rs rt : BitVec 5) (s : State) : Host.Outcome State Fault Refusal :=
  act (aluS l.val .andn f rd rs rt) s

/-- Meaning of MIN. -/
def execLeafMin (l : Fin 192) (f : Bool) (rd rs rt : BitVec 5) (s : State) : Host.Outcome State Fault Refusal :=
  act (aluS l.val .min f rd rs rt) s

/-- Meaning of MAX. -/
def execLeafMax (l : Fin 192) (f : Bool) (rd rs rt : BitVec 5) (s : State) : Host.Outcome State Fault Refusal :=
  act (aluS l.val .max f rd rs rt) s

/-- Meaning of MINU. -/
def execLeafMinu (l : Fin 192) (f : Bool) (rd rs rt : BitVec 5) (s : State) : Host.Outcome State Fault Refusal :=
  act (aluS l.val .minu f rd rs rt) s

/-- Meaning of MAXU. -/
def execLeafMaxu (l : Fin 192) (f : Bool) (rd rs rt : BitVec 5) (s : State) : Host.Outcome State Fault Refusal :=
  act (aluS l.val .maxu f rd rs rt) s

/-- Meaning of SLT. -/
def execLeafSlt (l : Fin 192) (f : Bool) (rd rs rt : BitVec 5) (s : State) : Host.Outcome State Fault Refusal :=
  act (aluS l.val .slt f rd rs rt) s

/-- Meaning of SLTU. -/
def execLeafSltu (l : Fin 192) (f : Bool) (rd rs rt : BitVec 5) (s : State) : Host.Outcome State Fault Refusal :=
  act (aluS l.val .sltu f rd rs rt) s

/-- Meaning of SLL. -/
def execLeafSll (l : Fin 192) (f : Bool) (rd rs rt : BitVec 5) (s : State) : Host.Outcome State Fault Refusal :=
  act (aluS l.val .sll f rd rs rt) s

/-- Meaning of SRL. -/
def execLeafSrl (l : Fin 192) (f : Bool) (rd rs rt : BitVec 5) (s : State) : Host.Outcome State Fault Refusal :=
  act (aluS l.val .srl f rd rs rt) s

/-- Meaning of SRA. -/
def execLeafSra (l : Fin 192) (f : Bool) (rd rs rt : BitVec 5) (s : State) : Host.Outcome State Fault Refusal :=
  act (aluS l.val .sra f rd rs rt) s

/-- Meaning of ROR. -/
def execLeafRor (l : Fin 192) (f : Bool) (rd rs rt : BitVec 5) (s : State) : Host.Outcome State Fault Refusal :=
  act (aluS l.val .ror f rd rs rt) s

/-- Meaning of NEG. -/
def execLeafNeg (l : Fin 192) (f : Bool) (rd rs : BitVec 5) (s : State) : Host.Outcome State Fault Refusal :=
  act (unS l.val .neg f rd rs) s

/-- Meaning of CLZ. -/
def execLeafClz (l : Fin 192) (f : Bool) (rd rs : BitVec 5) (s : State) : Host.Outcome State Fault Refusal :=
  act (unS l.val .clz f rd rs) s

/-- Meaning of BSWAP. -/
def execLeafBswap (l : Fin 192) (f : Bool) (rd rs : BitVec 5) (s : State) : Host.Outcome State Fault Refusal :=
  act (unS l.val .bswap f rd rs) s

/-- Meaning of SLLI. -/
def execLeafSlli (l : Fin 192) (f : Bool) (rd rs amt : BitVec 5) (s : State) : Host.Outcome State Fault Refusal :=
  act (shS l.val .slli f rd rs amt) s

/-- Meaning of SRLI. -/
def execLeafSrli (l : Fin 192) (f : Bool) (rd rs amt : BitVec 5) (s : State) : Host.Outcome State Fault Refusal :=
  act (shS l.val .srli f rd rs amt) s

/-- Meaning of SRAI. -/
def execLeafSrai (l : Fin 192) (f : Bool) (rd rs amt : BitVec 5) (s : State) : Host.Outcome State Fault Refusal :=
  act (shS l.val .srai f rd rs amt) s

/-- Meaning of RORI. -/
def execLeafRori (l : Fin 192) (f : Bool) (rd rs amt : BitVec 5) (s : State) : Host.Outcome State Fault Refusal :=
  act (shS l.val .rori f rd rs amt) s

/-- Meaning of ADDI. -/
def execLeafAddi (l : Fin 192) (rd rs : BitVec 5) (i : BitVec 16) (s : State) : Host.Outcome State Fault Refusal :=
  act (immS l.val .addi rd rs i) s

/-- Meaning of ANDI. -/
def execLeafAndi (l : Fin 192) (rd rs : BitVec 5) (i : BitVec 16) (s : State) : Host.Outcome State Fault Refusal :=
  act (immS l.val .andi rd rs i) s

/-- Meaning of ORI. -/
def execLeafOri (l : Fin 192) (rd rs : BitVec 5) (i : BitVec 16) (s : State) : Host.Outcome State Fault Refusal :=
  act (immS l.val .ori rd rs i) s

/-- Meaning of XORI. -/
def execLeafXori (l : Fin 192) (rd rs : BitVec 5) (i : BitVec 16) (s : State) : Host.Outcome State Fault Refusal :=
  act (immS l.val .xori rd rs i) s

/-- Meaning of SLTI. -/
def execLeafSlti (l : Fin 192) (rd rs : BitVec 5) (i : BitVec 16) (s : State) : Host.Outcome State Fault Refusal :=
  act (immS l.val .slti rd rs i) s

/-- Meaning of SLTIU. -/
def execLeafSltiu (l : Fin 192) (rd rs : BitVec 5) (i : BitVec 16) (s : State) : Host.Outcome State Fault Refusal :=
  act (immS l.val .sltiu rd rs i) s

/-- Meaning of ADDI.S. -/
def execLeafAddiS (l : Fin 192) (rd rs : BitVec 5) (i : BitVec 16) (s : State) : Host.Outcome State Fault Refusal :=
  act (immS l.val .addiS rd rs i) s

/-- Meaning of LUI. -/
def execLeafLui (l : Fin 192) (rd : BitVec 5) (i : BitVec 16) (s : State) : Host.Outcome State Fault Refusal :=
  act (luiS l.val rd i) s

/-- Meaning of CMPI. -/
def execLeafCmpi (l : Fin 192) (rs : BitVec 5) (i : BitVec 16) (s : State) : Host.Outcome State Fault Refusal :=
  act (cmpiS l.val rs i) s

end Sys2Proof.Machine
end

