-- ==== Sys2Proof/Machine/LeafCtl.lean ====
section
/-!
DEFINITION. Machine/LeafCtl.lean: control transfer and system operations (14_leaf_isa.md R371, R374, R380, R388, R389, R394).
-/
namespace Sys2Proof.Machine

/-- A condition holds (R388). -/
def condHolds (c : LeafCond) (x : Leaf) : Bool :=
  match c with
  | .alw => true
  | .zs => x.z | .zc => !x.z | .cs => x.c | .cc => !x.c | .ns => x.n | .nc => !x.n | .vs => x.v | .vc => !x.v
  | .gtu => x.c && !x.z | .leu => !x.c || x.z
  | .ges => x.n == x.v | .lts => x.n != x.v
  | .gts => !x.z && x.n == x.v | .les => x.z || x.n != x.v

/-- B.cond. -/
def bcondS (l : Nat) (c : LeafCond) (off : BitVec 22) (s : State) : State :=
  leafIssue l (.bcond c off) (fun s =>
    let x := leafAt l s
    if condHolds c x then leafJump l (leafRel x off.toInt) s else s) s

/-- BZ and BNZ. -/
def bzS (l : Nat) (onNonzero : Bool) (rs : BitVec 5) (off : BitVec 16) (s : State) : State :=
  leafIssue l (.bz onNonzero rs off) (fun s =>
    let x := leafAt l s
    if (x.reg rs != 0) == onNonzero then leafJump l (leafRel x off.toInt) s else s) s

/-- The link: the address after both delay slots. -/
def leafLink (x : Leaf) : W32 := BitVec.ofNat 32 (x.pc.toNat + 12)

/-- J and JAL. -/
def jS (l : Nat) (link : Bool) (off : BitVec 26) (s : State) : State :=
  leafIssue l (.j link off) (fun s =>
    let x := leafAt l s
    leafJump l (leafRel x off.toInt) (if link then leafReg l 1 31 (leafLink x) s else s)) s

/-- A target from a register, bits [1:0] ignored, modulo 64 KiB. -/
def leafTarget (v : W32) : BitVec 16 := BitVec.ofNat 16 (v.toNat / 4 * 4)

/-- JR. -/
def jrS (l : Nat) (rs : BitVec 5) (s : State) : State :=
  leafIssue l (.jr rs) (fun s => leafJump l (leafTarget ((leafAt l s).reg rs)) s) s

/-- JALR. -/
def jalrS (l : Nat) (rd rs : BitVec 5) (s : State) : State :=
  leafIssue l (.jalr rd rs) (fun s =>
    let x := leafAt l s
    leafJump l (leafTarget (x.reg rs)) (leafReg l 1 rd (leafLink x) s)) s

/-- EVCLR: an event that arrives in its cycle stays set (R394). -/
def evclrS (l : Nat) (mask : BitVec 16) (s : State) : State :=
  leafIssue l (.evclr mask) (modLeaf l (fun x =>
    let e := x.events &&& ~~~mask
    { x with events := if x.timerHit = some x.cyc then setBit e 1 (x.events.getLsbD 1) else e })) s

/-- MFF. -/
def mffS (l : Nat) (rd : BitVec 5) (s : State) : State :=
  leafIssue l (.mff rd) (fun s => leafReg l 1 rd (leafAt l s).flagsWord s) s

/-- MTF: the arithmetic flags from rs[3:0], and the sticky flags that rs[10:8] clears. -/
def mtfS (l : Nat) (rs : BitVec 5) (s : State) : State :=
  leafIssue l (.mtf rs) (fun s =>
    let w := (leafAt l s).reg rs
    leafPush l 1 (.mtf w)
      (leafPush l 1 (.flags (some (w.getLsbD 0)) (some (w.getLsbD 1)) (some (w.getLsbD 2)) (some (w.getLsbD 3))) s)) s

/-- LEAF: the leaf's numbers. -/
def leafNumber (l : Nat) : W32 := BitVec.ofNat 32 (l + 2 ^ 8 * (l / 16) + 2 ^ 12 * (l % 16))

/-- MFS (R389): CYC_LO and SLOT_LO latch their high halves. -/
def mfsS (l : Nat) (rd : BitVec 5) (sel : Fin 6) (s : State) : State :=
  leafIssue l (.mfs rd sel) (fun s =>
    let x := leafAt l s
    let now := s.slt.slot
    match sel.val with
    | 0 => leafReg l 1 rd (BitVec.ofNat 32 x.cyc) (setLeaf l { x with cycHi := BitVec.ofNat 32 (x.cyc / 2 ^ 32) } s)
    | 1 => leafReg l 1 rd x.cycHi s
    | 2 => leafReg l 1 rd (leafNumber l) s
    | 3 => leafReg l 1 rd ((leafPending l s).setWidth 32) s
    | 4 => leafReg l 1 rd (now.extractLsb' 0 32) (setLeaf l { x with slotHi := now.extractLsb' 32 32 } s)
    | _ => leafReg l 1 rd x.slotHi s) s

/-- An undefined encoding (R380): pc advances and UNDEF sets. -/
def undefinedS (l : Nat) (s : State) : State := leafIssue l .undef (modLeaf l (fun x => { x with undef := true })) s

/-- Meaning of B.cond. -/
def execLeafBcond (l : Fin 192) (c : LeafCond) (off : BitVec 22) (s : State) : Host.Outcome State Fault Refusal :=
  act (bcondS l.val c off) s

/-- Meaning of BZ. -/
def execLeafBz (l : Fin 192) (rs : BitVec 5) (off : BitVec 16) (s : State) : Host.Outcome State Fault Refusal :=
  act (bzS l.val false rs off) s

/-- Meaning of BNZ. -/
def execLeafBnz (l : Fin 192) (rs : BitVec 5) (off : BitVec 16) (s : State) : Host.Outcome State Fault Refusal :=
  act (bzS l.val true rs off) s

/-- Meaning of J. -/
def execLeafJ (l : Fin 192) (off : BitVec 26) (s : State) : Host.Outcome State Fault Refusal :=
  act (jS l.val false off) s

/-- Meaning of JAL. -/
def execLeafJal (l : Fin 192) (off : BitVec 26) (s : State) : Host.Outcome State Fault Refusal :=
  act (jS l.val true off) s

/-- Meaning of JR. -/
def execLeafJr (l : Fin 192) (rs : BitVec 5) (s : State) : Host.Outcome State Fault Refusal :=
  act (jrS l.val rs) s

/-- Meaning of JALR. -/
def execLeafJalr (l : Fin 192) (rd rs : BitVec 5) (s : State) : Host.Outcome State Fault Refusal :=
  act (jalrS l.val rd rs) s

/-- Meaning of EVCLR. -/
def execLeafEvclr (l : Fin 192) (mask : BitVec 16) (s : State) : Host.Outcome State Fault Refusal :=
  act (evclrS l.val mask) s

/-- Meaning of MFF. -/
def execLeafMff (l : Fin 192) (rd : BitVec 5) (s : State) : Host.Outcome State Fault Refusal :=
  act (mffS l.val rd) s

/-- Meaning of MTF. -/
def execLeafMtf (l : Fin 192) (rs : BitVec 5) (s : State) : Host.Outcome State Fault Refusal :=
  act (mtfS l.val rs) s

/-- Meaning of MFS. -/
def execLeafMfs (l : Fin 192) (rd : BitVec 5) (sel : Fin 6) (s : State) : Host.Outcome State Fault Refusal :=
  act (mfsS l.val rd sel) s

/-- Meaning of the undefined encodings. -/
def execLeafUndefined (l : Fin 192) (s : State) : Host.Outcome State Fault Refusal :=
  act (undefinedS l.val) s

end Sys2Proof.Machine
end

