-- ==== Sys2Proof/Machine/LeafMac.lean ====
section
/-!
DEFINITION. Machine/LeafMac.lean: multiply, accumulator and divide (14_leaf_isa.md R386, R387, R390-R392).
-/
namespace Sys2Proof.Machine

/-- A multiply into a register. -/
def mulFn (o : MulOp) (a b : W32) : W32 :=
  match o with
  | .mul => a * b
  | .mulhu => BitVec.ofNat 32 (a.toNat * b.toNat / 2 ^ 32)
  | .mulhs => BitVec.ofInt 32 (a.toInt * b.toInt / 2 ^ 32)

/-- MUL, MULHU, MULHS. -/
def mulS (l : Nat) (o : MulOp) (rd rs rt : BitVec 5) (s : State) : State :=
  leafIssue l (.mul o rd rs rt) (fun s => let x := leafAt l s; leafReg l 2 rd (mulFn o (x.reg rs) (x.reg rt)) s) s

/-- What a multiply does to the accumulator at its completion. -/
def macFn (o : MacOp) (a b : W32) : LeafEff :=
  match o with
  | .mula => .accLoad (a.toInt * b.toInt)
  | .mac => .accAdd (a.toInt * b.toInt)
  | .macu => .accAdd (a.toNat * b.toNat)
  | .msu => .accAdd (-(a.toInt * b.toInt))
  | .msuu => .accAdd (-(a.toNat * b.toNat : Int))

/-- MULA, MAC, MACU, MSU, MSUU. -/
def macS (l : Nat) (o : MacOp) (rs rt : BitVec 5) (s : State) : State :=
  leafIssue l (.mac o rs rt) (fun s => let x := leafAt l s; leafPush l 2 (macFn o (x.reg rs) (x.reg rt)) s) s

/-- A part of the accumulator. -/
def accPart (a : BitVec 72) (sel : Nat) : W32 :=
  match sel with
  | 0 => a.extractLsb' 0 32
  | 1 => a.extractLsb' 32 32
  | _ => (a.extractLsb' 64 8).signExtend 32

/-- MFA. -/
def mfaS (l : Nat) (rd : BitVec 5) (sel : Fin 3) (s : State) : State :=
  leafIssue l (.mfa rd sel) (fun s => leafReg l 1 rd (accPart (leafAt l s).acc sel.val) s) s

/-- MFAT: the clamped accumulator, V telling of the clamp. -/
def mfatS (l : Nat) (rd : BitVec 5) (s : State) : State :=
  leafIssue l (.mfat rd) (fun s =>
    let a := (leafAt l s).acc.toInt
    let hi : Int := 2 ^ 31 - 1
    let lo : Int := -(2 ^ 31)
    let r := if hi < a then hi else if a < lo then lo else a
    leafPush l 1 (.flags none none none (some (decide (r ≠ a)))) (leafReg l 1 rd (BitVec.ofInt 32 r) s)) s

/-- MTA. -/
def mtaS (l : Nat) (sel : Fin 3) (rs : BitVec 5) (s : State) : State :=
  leafIssue l (.mta sel rs) (fun s => leafPush l 1 (.accPart sel.val ((leafAt l s).reg rs)) s) s

/-- ACLR. -/
def aclrS (l : Nat) (s : State) : State := leafIssue l .aclr (leafPush l 1 .accClr) s

/-- ASHR and ASHL. -/
def ashS (l : Nat) (left : Bool) (sel : BitVec 7) (s : State) : State :=
  leafIssue l (.ashift left sel) (leafPush l 3 (if left then .accShl sel.toNat else .accShr sel.toNat)) s

/-- ACCM. -/
def accmS (l : Nat) (sat : Bool) (s : State) : State := leafIssue l (.accm sat) (leafPush l 1 (.satMode sat)) s

/-- Quotient and remainder (R387, R390). -/
def divFn (signed : Bool) (a b : W32) : W32 × W32 :=
  if signed then
    if b = 0 then (if a.msb then 1 else -1, a)
    else (BitVec.ofInt 32 (a.toInt.tdiv b.toInt), BitVec.ofInt 32 (a.toInt.tmod b.toInt))
  else if b = 0 then (0xFFFFFFFF, a)
  else (a / b, a % b)

/-- DIVU and DIVS: quotient to an even register, remainder to the next, V and DZ, all at distance 18. -/
def divS (l : Nat) (signed : Bool) (rp : BitVec 4) (rs rt : BitVec 5) (s : State) : State :=
  leafIssue l (.div signed rp rs rt) (fun s =>
    let x := leafAt l s
    let a := x.reg rs
    let b := x.reg rt
    let q := divFn signed a b
    let s := leafPush l 18 (.reg (2 * rp.toNat) q.1) s
    let s := leafPush l 18 (.reg (2 * rp.toNat + 1) q.2) s
    let s := leafPush l 18 (.flags none none none (some (signed && a == 0x80000000 && b == 0xFFFFFFFF))) s
    if b = 0 then leafPush l 18 .setDz s else s) s

/-- Meaning of MUL. -/
def execLeafMul (l : Fin 192) (rd rs rt : BitVec 5) (s : State) : Host.Outcome State Fault Refusal :=
  act (mulS l.val .mul rd rs rt) s

/-- Meaning of MULHU. -/
def execLeafMulhu (l : Fin 192) (rd rs rt : BitVec 5) (s : State) : Host.Outcome State Fault Refusal :=
  act (mulS l.val .mulhu rd rs rt) s

/-- Meaning of MULHS. -/
def execLeafMulhs (l : Fin 192) (rd rs rt : BitVec 5) (s : State) : Host.Outcome State Fault Refusal :=
  act (mulS l.val .mulhs rd rs rt) s

/-- Meaning of MULA. -/
def execLeafMula (l : Fin 192) (rs rt : BitVec 5) (s : State) : Host.Outcome State Fault Refusal :=
  act (macS l.val .mula rs rt) s

/-- Meaning of MAC. -/
def execLeafMac (l : Fin 192) (rs rt : BitVec 5) (s : State) : Host.Outcome State Fault Refusal :=
  act (macS l.val .mac rs rt) s

/-- Meaning of MACU. -/
def execLeafMacu (l : Fin 192) (rs rt : BitVec 5) (s : State) : Host.Outcome State Fault Refusal :=
  act (macS l.val .macu rs rt) s

/-- Meaning of MSU. -/
def execLeafMsu (l : Fin 192) (rs rt : BitVec 5) (s : State) : Host.Outcome State Fault Refusal :=
  act (macS l.val .msu rs rt) s

/-- Meaning of MSUU. -/
def execLeafMsuu (l : Fin 192) (rs rt : BitVec 5) (s : State) : Host.Outcome State Fault Refusal :=
  act (macS l.val .msuu rs rt) s

/-- Meaning of MFA. -/
def execLeafMfa (l : Fin 192) (rd : BitVec 5) (sel : Fin 3) (s : State) : Host.Outcome State Fault Refusal :=
  act (mfaS l.val rd sel) s

/-- Meaning of MFAT. -/
def execLeafMfat (l : Fin 192) (rd : BitVec 5) (s : State) : Host.Outcome State Fault Refusal :=
  act (mfatS l.val rd) s

/-- Meaning of MTA. -/
def execLeafMta (l : Fin 192) (sel : Fin 3) (rs : BitVec 5) (s : State) : Host.Outcome State Fault Refusal :=
  act (mtaS l.val sel rs) s

/-- Meaning of ACLR. -/
def execLeafAclr (l : Fin 192) (s : State) : Host.Outcome State Fault Refusal :=
  act (aclrS l.val) s

/-- Meaning of ASHR. -/
def execLeafAshr (l : Fin 192) (sel : BitVec 7) (s : State) : Host.Outcome State Fault Refusal :=
  act (ashS l.val false sel) s

/-- Meaning of ASHL. -/
def execLeafAshl (l : Fin 192) (sel : BitVec 7) (s : State) : Host.Outcome State Fault Refusal :=
  act (ashS l.val true sel) s

/-- Meaning of ACCM. -/
def execLeafAccm (l : Fin 192) (sat : Bool) (s : State) : Host.Outcome State Fault Refusal :=
  act (accmS l.val sat) s

/-- Meaning of DIVU. -/
def execLeafDivu (l : Fin 192) (rp : BitVec 4) (rs rt : BitVec 5) (s : State) : Host.Outcome State Fault Refusal :=
  act (divS l.val false rp rs rt) s

/-- Meaning of DIVS. -/
def execLeafDivs (l : Fin 192) (rp : BitVec 4) (rs rt : BitVec 5) (s : State) : Host.Outcome State Fault Refusal :=
  act (divS l.val true rp rs rt) s

end Sys2Proof.Machine
end

