-- ==== Sys2Proof/Machine/LeafMem.lean ====
section
/-!
DEFINITION. Machine/LeafMem.lean: loads, stores and SWAPW (14_leaf_isa.md R372, R375-R378, R384, R385, R397, R399).
-/
namespace Sys2Proof.Machine

/-- Width of an access in bytes. -/
def MemOp.bytes : MemOp → Nat
  | .lw | .sw => 4 | .lh | .lhu | .sh => 2 | .lb | .lbu | .sb => 1
/-- The access is a store. -/
def MemOp.stores : MemOp → Bool
  | .sw | .sh | .sb => true | _ => false
/-- A loaded value as the register takes it. -/
def MemOp.extend (o : MemOp) (v : Nat) : W32 :=
  match o with
  | .lh => (BitVec.ofNat 16 v).signExtend 32
  | .lb => (BitVec.ofNat 8 v).signExtend 32
  | _ => BitVec.ofNat 32 v

/-- Effective address and base update of a mode (R384). -/
def leafEa (x : Leaf) (rb : BitVec 5) (m : LeafMode) : W32 × Option W32 :=
  let b := x.reg rb
  match m with
  | .off i => (b + i.signExtend 32, none)
  | .post i => (b, some (b + i.signExtend 32))
  | .pre i => (b - i.setWidth 32, some (b - i.setWidth 32))
  | .idx ri sc => (b + x.reg ri <<< sc.toNat, none)

/-- Where an aligned address lies (R375). -/
inductive LeafPlace where
  | data (a : Nat)
  | twig (a : Nat)
  | window (o : Nat)
  | none
deriving DecidableEq, Repr

/-- The map of R375. -/
def leafPlace (a : Nat) : LeafPlace :=
  if a < 0x10000 then .data a
  else if 0x100000 ≤ a ∧ a < 0x140000 then .twig (a - 0x100000)
  else if 0x1000000 ≤ a ∧ a < 0x1001000 then .window (a - 0x1000000)
  else .none

/-- LEAF_STAT.UNMAPPED. -/
def setUnmapped (l : Nat) (s : State) : State := modLeaf l (fun x => { x with unmapped := true }) s
/-- EARLY. -/
def setEarly (l : Nat) (s : State) : State := modLeaf l (fun x => { x with early := true }) s
/-- MISALIGN where the access is not aligned to its width (R377). -/
def checkAlign (l n : Nat) (ea : W32) (s : State) : State :=
  if ea.toNat % n ≠ 0 then modLeaf l (fun x => { x with misalign := true }) s else s

/-- A load of data memory: guarded lines and read-once words (R397, R399). -/
def dataLoad (l a n : Nat) (s : State) : Nat × State :=
  let x := leafAt l s
  if x.guarded a true then (0, setEarly l s)
  else match tget 0 x.once (a / 4) with
    | 0 => (leNat (mread 0 x.dmem a n), s)
    | 1 => (leNat (mread 0 x.dmem a n), setLeaf l { x with once := tset 0 x.once (a / 4) 2 } s)
    | _ => (0, setLeaf l { x with sapTwice := true } s)

/-- A load of `n` bytes at EA: its value and its own effects, in the cycle of issue. -/
def leafLoad (l n : Nat) (ea : W32) (s : State) : Nat × State :=
  let s := checkAlign l n ea s
  match leafPlace (ea.toNat / n * n) with
  | .data a => dataLoad l a n s
  | .twig a => (leNat (twigRead (twigOfLeaf l) a n s), s)
  | .window o => if n = 4 then let r := winLoad l o s; (r.1.toNat, r.2) else (0, setUnmapped l s)
  | .none => (0, setUnmapped l s)

/-- A store of `b` at EA: memory takes it two cycles later (R372), a register in the cycle of issue. -/
def leafStore (l : Nat) (b : Bytes) (ea : W32) (s : State) : State :=
  let n := b.length
  let s := checkAlign l n ea s
  match leafPlace (ea.toNat / n * n) with
  | .data a => if (leafAt l s).guarded a false then setEarly l s else leafPush l 2 (.store false a b) s
  | .twig a => leafPush l 2 (.store true a b) s
  | .window o => if n = 4 then winStore l o (BitVec.ofNat 32 (leNat b)) s else setUnmapped l s
  | .none => setUnmapped l s

/-- The base update of a mode. -/
def leafBase (l : Nat) (rb : BitVec 5) (u : Option W32) (s : State) : State :=
  match u with
  | some v => leafReg l 1 rb v s
  | none => s

/-- A load or store (R384, R385). -/
def memS (l : Nat) (o : MemOp) (rd rb : BitVec 5) (m : LeafMode) (s : State) : State :=
  leafIssue l (.mem o rd rb m) (fun s =>
    let x := leafAt l s
    let ea := leafEa x rb m
    let s := leafBase l rb ea.2 s
    if o.stores then leafStore l (leBytes o.bytes (x.reg rd).toNat) ea.1 s
    else
      let r := leafLoad l o.bytes ea.1 s
      leafReg l 3 rd (o.extend r.1) r.2) s

/-- The newest swap of a word of twig memory that is still to reach it (R378): the leaf's own, else another's of the twig. -/
def pendingSwap (l a : Nat) (s : State) : Option W32 :=
  let of := fun (k : Nat) => ((leafAt k s).flight.filterMap (fun e =>
    match e.2 with | .swap true b v => if b = a then some v else none | _ => none)).getLast?
  let others := (List.range 4).map (fun k => 4 * twigOfLeaf l + k)
  (of l).or ((others.filter (· != l)).filterMap of).getLast?

/-- SWAPW (R384, R385): in twig memory the word that the swap before it left; data memory gives the same result. -/
def swapwS (l : Nat) (rd rb : BitVec 5) (i : BitVec 13) (s : State) : State :=
  leafIssue l (.swapw rd rb i) (fun s =>
    let x := leafAt l s
    let ea := (leafEa x rb (.off i)).1
    let v := x.reg rd
    let s := checkAlign l 4 ea s
    match leafPlace (ea.toNat / 4 * 4) with
    | .twig a =>
      let old := (pendingSwap l a s).getD (BitVec.ofNat 32 (leNat (twigRead (twigOfLeaf l) a 4 s)))
      leafReg l 3 rd old (leafPush l 2 (.swap true a v) s)
    | .data a =>
      let mine := (x.flight.filterMap (fun e =>
        match e.2 with | .swap false b v => if b = a then some v else none | _ => none)).getLast?
      let r := dataLoad l a 4 s
      let s := if x.guarded a false then setEarly l r.2 else leafPush l 2 (.swap false a v) r.2
      leafReg l 3 rd (if x.guarded a true then 0 else mine.getD (BitVec.ofNat 32 r.1)) s
    | .window _ => leafReg l 3 rd 0 (setUnmapped l s)
    | .none => leafReg l 3 rd 0 (setUnmapped l s)) s

/-- Meaning of LW. -/
def execLeafLw (l : Fin 192) (rd rb : BitVec 5) (m : LeafMode) (s : State) : Host.Outcome State Fault Refusal :=
  act (memS l.val .lw rd rb m) s

/-- Meaning of LH. -/
def execLeafLh (l : Fin 192) (rd rb : BitVec 5) (m : LeafMode) (s : State) : Host.Outcome State Fault Refusal :=
  act (memS l.val .lh rd rb m) s

/-- Meaning of LHU. -/
def execLeafLhu (l : Fin 192) (rd rb : BitVec 5) (m : LeafMode) (s : State) : Host.Outcome State Fault Refusal :=
  act (memS l.val .lhu rd rb m) s

/-- Meaning of LB. -/
def execLeafLb (l : Fin 192) (rd rb : BitVec 5) (m : LeafMode) (s : State) : Host.Outcome State Fault Refusal :=
  act (memS l.val .lb rd rb m) s

/-- Meaning of LBU. -/
def execLeafLbu (l : Fin 192) (rd rb : BitVec 5) (m : LeafMode) (s : State) : Host.Outcome State Fault Refusal :=
  act (memS l.val .lbu rd rb m) s

/-- Meaning of SW. -/
def execLeafSw (l : Fin 192) (rd rb : BitVec 5) (m : LeafMode) (s : State) : Host.Outcome State Fault Refusal :=
  act (memS l.val .sw rd rb m) s

/-- Meaning of SH. -/
def execLeafSh (l : Fin 192) (rd rb : BitVec 5) (m : LeafMode) (s : State) : Host.Outcome State Fault Refusal :=
  act (memS l.val .sh rd rb m) s

/-- Meaning of SB. -/
def execLeafSb (l : Fin 192) (rd rb : BitVec 5) (m : LeafMode) (s : State) : Host.Outcome State Fault Refusal :=
  act (memS l.val .sb rd rb m) s

/-- Meaning of SWAPW. -/
def execLeafSwapw (l : Fin 192) (rd rb : BitVec 5) (i : BitVec 13) (s : State) : Host.Outcome State Fault Refusal :=
  act (swapwS l.val rd rb i) s

end Sys2Proof.Machine
end

