-- ==== Sys2Proof/Machine/LifeBase.lean ====
section
/-!
DEFINITION. Machine/LifeBase.lean: the life-cycle code, its vote, the wipe sets and fuse programming (17_life_cycle_and_debug.md
R445-R448, R457, R458).
-/
namespace Sys2Proof.Machine

/-- Codeword of a life-cycle state (R445). -/
def lcsWord (n : Nat) : W16 := [(0 : W16), 0x0007, 0x003F, 0x01FF, 0x0FFF].getD n 0xFFFF

/-- The state of a number. -/
def lcsOf (n : Nat) : Lcs :=
  match n with | 0 => .seed | 1 => .sapling | 2 => .grafted | 3 => .standing | 4 => .returned | _ => .felled

/-- The state whose codeword a copy holds. -/
def lcsRead (w : W16) : Option Nat := (List.range 6).find? (fun n => lcsWord n == w)

/-- The transitions of R457. -/
def lcsAllowed (s t : Nat) : Bool :=
  match s, t with
  | 0, 1 | 1, 2 | 2, 3 | 1, 4 | 2, 4 | 3, 4 | 0, 5 | 1, 5 | 2, 5 | 3, 5 | 4, 5 => true
  | _, _ => false

/-- A vote: a state, an interrupted transition to finish, or none (R446). -/
inductive Vote where
  | state (n : Nat)
  | finish (n : Nat)
  | invalid
deriving DecidableEq, Repr

/-- The vote over copies 0, 1 and 2 (R446). -/
def lcsVote (c0 c1 c2 : W16) : Vote :=
  let two := fun (a b : W16) => if a = b then lcsRead a else none
  match (two c0 c1).orElse (fun _ => (two c0 c2).orElse (fun _ => two c1 c2)) with
  | some n => .state n
  | none =>
    match lcsRead c0, lcsRead c2 with
    | some t, some s =>
      if lcsAllowed s t && c1 &&& lcsWord s == lcsWord s && c1 &&& lcsWord t == c1 then .finish t else .invalid
    | _, _ => .invalid

/-- A copy of the life-cycle fuses. -/
def lcsCopy (i : Nat) (s : State) : W16 := s.fuses.lcs.getD i 0

/-- Programs the first `n` copies to a state's code; fuses only gain bits (R446). -/
def lcsProgram (n to_ : Nat) (s : State) : State :=
  { s with fuses := { s.fuses with lcs := (List.range 3).map (fun i =>
      if i < n then lcsCopy i s ||| lcsWord to_ else lcsCopy i s) } }

/-- A transition cut short after `k` whole copies, with the free `bits` of the copy after them (R446). -/
def lcsPart (n k : Nat) (bits : W16) (s : State) : State :=
  { s with fuses := { s.fuses with lcs := (List.range 3).map (fun i =>
      lcsCopy i s ||| (if i < k then lcsWord n else if i = k then lcsWord n &&& bits else 0)) } }

/-- All ones. -/
def onesLike (n : Nat) : Bytes := List.replicate n 0xFF

/-- The fuse part of a state's wipe set (R448, R457). -/
def wipeFuses (n : Nat) (s : State) : State :=
  let f := s.fuses
  match n with
  | 4 => { s with fuses := { f with hsO := some (onesLike 32) } }
  | 5 => { s with fuses := { f with
      hsV := some (onesLike 32), hsO := some (onesLike 32), ownerKeys := List.replicate 4 (onesLike 48), bootKey := onesLike 48
      bootSet := true, trims := f.trims.map (fun b => onesLike b.length) } }
  | _ => s

/-- The whole keep flash erased (R457, R448). -/
def keepWipe (s : State) : State := { s with kpf := { s.kpf with m0 := {}, m1 := {}, acts := [], pages := [], prog := none } }

/-- KEY and KEY_ERASE records taken out of a mirror: their sectors are erased and the other pages written back (log entry 13). -/
def Mirror.dropKeys (m : Mirror) : Mirror :=
  { m with pages := m.pages.filter (fun e => e.1 < ringPage 0 0 || decide (ringPage journalSectors 0 ≤ e.1) || e.1 % sectorPages == 0
      || ((recOf e.2).typ != 5 && (recOf e.2).typ != 6)) }

/-- Vault slots 64 to 4,095 erased (R457). -/
def vaultWipe (s : State) : State := foldS (fun (e : Nat × VSlot) s => slotErase e.1 s) s.vault.slots s

/-- KEY and KEY_ERASE records taken out of the journal (R457). -/
def journalDropKeys (s : State) : State :=
  { s with kpf := { s.kpf with
    m0 := s.kpf.m0.dropKeys, m1 := s.kpf.m1.dropKeys, keyRecs := []
    acts := s.kpf.acts.filter (fun a => match a with | .key _ | .keyErase _ => false | _ => true) } }

/-- The wipe set of a transition (R457), after its code is programmed. -/
def wipeSet (n : Nat) (s : State) : State :=
  match n with
  | 2 => journalDropKeys (vaultWipe s)
  | 4 | 5 => keepWipe (wipeFuses n (vaultErase s))
  | _ => s

/-- A CORE reset or a loss of power while a transition's copies are being programmed (R446, R448): how far they stand is free (log entry 39), and
once the transition has taken effect its wipe is complete; RETURNED and FELLED complete theirs at the next start. -/
def lcsStop (s : State) : State :=
  match s.lcy.pending with
  | some (.move n) =>
    if s.boot.vfuse && s.fuses.lcs.any (· != lcsWord n) then
      let f := drawFree s
      let t := lcsPart n (f.1.toNat % 4) (BitVec.ofNat 16 (f.1.toNat / 4)) f.2
      if n = 2 ∧ lcsCopy 1 t ≠ lcsCopy 1 s then journalDropKeys t else t
    else s
  | _ => s

/-- Owner key hash `i`, empty while unprogrammed. -/
def ownerKey (i : Nat) (s : State) : Bytes := s.fuses.ownerKeys.getD i []

/-- Some owner key hash is fused. -/
def anyOwner (s : State) : Bool := s.fuses.ownerKeys.any (· != [])

/-- A fuse action (R457, R115): owner key hash 0 to 3, the first in one operation with HS_O from DRBG_T, which is none while it has no
output; 4 the bootstrap hash and fuse. -/
def fuseAct (i : Nat) (dg : Bytes) (s : State) : Option State :=
  if i = 4 then some { s with fuses := { s.fuses with bootKey := dg, bootSet := true } }
  else
    let fused := fun (s : State) =>
      ({ s with fuses := { s.fuses with ownerKeys := (List.range 4).map (fun j => if j = i then dg else ownerKey j s) } } : State)
    if anyOwner s || s.fuses.hsO.isSome then some (fused s)
    else (drbgRequest 4 true 32 s).map (fun r => fused { r.2 with fuses := { r.2.fuses with hsO := some r.1 } })

/-- Fuse writes that the last start found unfinished (R446, R458), carried out once VFUSE is in range (21 R532) and, for the first owner
key, once DRBG_T gives HS_O. -/
def retryFuses (s : State) : State :=
  if !s.boot.vfuse then s
  else
    let clear := fun (s : State) => ({ s with lcy := { s.lcy with retry := none } } : State)
    let s := match s.lcy.retry with
      | some (.move t) => clear (lcsProgram 3 t s)
      | some (.fuse i d) => ((fuseAct i d s).map clear).getD s
      | _ => clear s
    if (s.boot.lcs = .returned ∨ s.boot.lcs = .felled) ∧ !s.lcy.invalid ∧ !s.boot.senseBad then wipeFuses s.boot.lcs.num s else s

/-- The vote at step 4 of a start with its events, and the wipe set of RETURNED and FELLED (R446-R448). -/
def lcsStart (s : State) : State :=
  let wiped := fun (n : Nat) (s : State) =>
    let s : State := { s with boot := { s.boot with lcs := lcsOf n } }
    if n = 4 ∨ n = 5 then keepWipe s else s
  match lcsVote (lcsCopy 0 s) (lcsCopy 1 s) (lcsCopy 2 s) with
  | .state n => retryFuses (wiped n s)
  | .finish n =>
    let s := wiped n { s with lcy := { s.lcy with retry := some (.move n), completed := true } }
    retryFuses (emit .lifecycle 0x6002 (srcTree 0) [] s)
  | .invalid =>
    emit .lifecycle 0x6001 (srcTree 0) []
      { s with lcy := { s.lcy with invalid := true }, boot := { s.boot with lcs := .felled } }

end Sys2Proof.Machine
end

