-- ==== Sys2Proof/Machine/Power.lean ====
section
/-!
DEFINITION. Machine/Power.lean: power, resets and sleep (00 R10; 03 R75-R79; 04 R81-R86; 16 R434; 20 R514; 21 R527-R536,
R543-R547).
-/
namespace Sys2Proof.Machine

/-! ### Reset (R10) -/

/-- CORE, HOST and BOUGH reset: what survives is the standby domain, the fuses, the keep flash, the host's memory, the DRAM
contexts that a wake may use (21 R535), the levels of the balls, and a fuse write to be retried (17 R458). A mirror that was out of
use is copied to before it returns (09 R234). -/
def coreReset (s : State) : State :=
  let s := progStop (lcsStop s)
  { pending := s.pending, now := s.now, out := s.out, hostMem := s.hostMem, freeCtr := s.freeCtr, fuses := s.fuses
    tel := { alarm := s.tel.alarm, alarmOverflow := s.tel.alarmOverflow }
    boot := { vstby := s.boot.vstby, pwrgood := s.boot.pwrgood, vfuse := s.boot.vfuse, srcBalls := s.boot.srcBalls }
    kpf := { m0 := s.kpf.m0, m1 := s.kpf.m1, copyDue := mirOut s }
    tmp := { latch := s.tmp.latch }, lcy := { retry := s.lcy.retry }, slp := { standby := s.slp.standby }
    cnp := { ctx := s.cnp.ctx }, nrg := { lvlBalls := s.nrg.lvlBalls, pfwBall := s.nrg.pfwBall } }

/-- The hourly records of a page of the mission log whose CRC stands. -/
def logRecords (b : Bytes) : List Bytes := (chunks 32 b).filter (fun r => fieldLe r 0x1C 4 == crc32c (r.take 0x1C))

/-- Pages of the log that are not erased in some mirror in use, in order (21 R546). -/
def logPagesUsed (s : State) : List Nat :=
  (((mirrors s).foldl (fun t m => tmerge false t ((mir m s).pages.map (fun e => (e.1, true)))) []).map (·.1)).filter
    (fun k => decide (logBase ≤ k) && decide (k < logBase + logRange))

/-- The records of the log: mirror 0's page, or the other's where none of its records stands. -/
def logHours (s : State) : List Bytes :=
  ((logPagesUsed s).filter (· != logBase)).flatMap (fun k =>
    (((mirrors s).map (fun m => logRecords ((mir m s).read k))).find? (· != [])).getD [])

/-- TAP_LIFE, HOUR and the next page as the log leaves them (21 R545-R547): the screening of an ESG-6416-XV counts 144 units. -/
def lifeStart (s : State) : State :=
  if !s.fuses.xv then s
  else
    let rs := logHours s
    let last := (rs.map (fun r => fieldLe r 0 4)).getLastD 0
    let next := (((logPagesUsed s).getLast?).map (fun k => k - logBase + 1)).getD 1
    { s with
      env := { s.env with lifeMilli := 144000 + (rs.map (fun r => fieldLe r 0x14 4)).sum, hour := last, full := decide (logRange ≤ next) }
      kpf := { s.kpf with logNext := max 1 next } }

/-- The device leaves reset (R82 steps 1 to 4): straps; a self-test that fails stops start-up before a fuse is sensed; then the main
monitors are armed (R83), and fuses, vote and standby latch are read. -/
def startUp (i : StartIn) (s : State) : State :=
  let s : State := { s with boot := { s.boot with pwrgood := true, t0 := s.now, src := i.strap, srcBalls := i.strap, phase := .rom } }
  if !i.mbistOk then stopBoot { s with lcy := { s.lcy with mbist := 0x1000 } }
  else
    let s := setPhase .fuses { s with boot := { s.boot with monitorsArmed := true } }
    let s : State :=
      if i.fuseOk then lcsStart s
      else bootCode .fault 0x1001 (srcTree 2) { s with boot := { s.boot with lcs := .felled, senseBad := true } }
    latchFound (lifeStart s)

/-- PWRGOOD_RISE (R82, R527, R528): with a main rail out of its range the device stays in reset, and the rise counts from the moment
at which every rail is in range. -/
def pwrgoodRiseS (t : Nat) (rails : Bool) (i : StartIn) (s : State) : State :=
  let s := atTime t s
  if s.boot.pwrgood || !s.boot.vstby || !rails then s else startUp i (coreReset s)

/-- Meaning of PWRGOOD_RISE. -/
def execPwrgoodRise (t : Nat) (rails : Bool) (i : StartIn) (s : State) : Host.Outcome State Fault Refusal :=
  actAny (pwrgoodRiseS t rails i) s

/-- Main power is no longer good: CORE and HOST reset, the main monitors are disarmed (R529), and VFUSE has to come again. -/
def pwrgoodFallS (t : Nat) (s : State) : State :=
  let s := coreReset (atTime t s)
  { s with boot := { s.boot with pwrgood := false, vfuse := false } }

/-- Meaning of PWRGOOD_FALL. -/
def execPwrgoodFall (t : Nat) (s : State) : Host.Outcome State Fault Refusal := actAny (pwrgoodFallS t) s

/-- RAIL_FAULT (R528): as if PWRGOOD had fallen. -/
def railFaultS (t : Nat) (s : State) : State := if s.boot.pwrgood then pwrgoodFallS t s else atTime t s

/-- Meaning of RAIL_FAULT. -/
def execRailFault (t : Nat) (s : State) : Host.Outcome State Fault Refusal := actAny (railFaultS t) s

/-- A full device reset (R10): a fall and a new rise of PWRGOOD within the device. -/
def fullReset (i : StartIn) (s : State) : State := startUp i (coreReset s)

/-- FULL_DEVICE_RESET. -/
def fullDeviceResetS (t : Nat) (i : StartIn) (s : State) : State :=
  let s := atTime t s
  if s.boot.pwrgood then fullReset i s else s

/-- Meaning of FULL_DEVICE_RESET. -/
def execFullDeviceReset (t : Nat) (i : StartIn) (s : State) : Host.Outcome State Fault Refusal := actAny (fullDeviceResetS t i) s

/-- VSTBY_LOSS (R10, 18 and 21 Coincidences): every STBY register resets. -/
def vstbyLossS (t : Nat) (s : State) : State :=
  let s := atTime t s
  { s with
    boot := { s.boot with vstby := false }, tmp := { s.tmp with latch := 0 }, slp := { s.slp with standby := {} }
    tel := { s.tel with alarm := [], alarmOverflow := false, alarmSeq := [] } }

/-- Meaning of VSTBY_LOSS. -/
def execVstbyLoss (t : Nat) (s : State) : Host.Outcome State Fault Refusal := actAny (vstbyLossS t) s

/-- VSTBY_RETURN (R527). -/
def vstbyReturnS (t : Nat) (s : State) : State :=
  let s := atTime t s
  { s with boot := { s.boot with vstby := true } }

/-- Meaning of VSTBY_RETURN. -/
def execVstbyReturn (t : Nat) (s : State) : Host.Outcome State Fault Refusal := actAny (vstbyReturnS t) s

/-! ### The host link (R10, R99, R434, R514) -/

/-- An event ring at a host link reset: a ring that was enabled counts its records as lost from now on. -/
def EventRing.linkReset (r : EventRing) : EventRing := { r with reg := {}, stopped := r.reg.en || r.stopped }

/-- HOST_LINK_RESET: HOST registers, staging and SPDM transports reset, and PF1 appears when the Grain grants it. -/
def hostLinkResetS (s : State) : State :=
  let s : State := { s with
    boot := { s.boot with hostUp := false, pf1 := s.grn.installed && s.grn.grain.pf1 == 1, pf1Pending := false }
    tel := { s.tel with pf1 := s.tel.pf1.linkReset, pf0 := s.tel.pf0.linkReset }
    cnp := { s.cnp with
      chans := s.cnp.chans.foldl (fun t e => tset {} t e.1 { e.2 with ring := {} }) [], dlqReg := {} }
    hlw := { s.hlw with
      chan := s.hlw.chan.foldl (fun t e => tset {} t e.1 (if e.1 < 16 then { e.2 with tx := [] } else e.2)) [] } }
  hollowSweep (spdmPortReset 0 (spdmPortReset 1 s))

/-- Meaning of HOST_LINK_RESET. -/
def execHostLinkReset (s : State) : Host.Outcome State Fault Refusal := act hostLinkResetS s

/-- HOST_LINK_TRAINED (R434). -/
def hostLinkTrainedS (s : State) : State := { s with boot := { s.boot with hostUp := true } }

/-- Meaning of HOST_LINK_TRAINED. -/
def execHostLinkTrained (s : State) : Host.Outcome State Fault Refusal := act hostLinkTrainedS s

/-! ### The fuse supply (R532) -/

/-- VFUSE_IN_RANGE: fuse writes that wait for it are carried out: HS_V (05 R115), an unfinished life-cycle write, disable fuses,
and security version steps (R359). The evidence and anchor steps follow as EVIDENCE_BURN and ANCHOR_BURN_DONE. -/
def vfuseInRangeS (t : Nat) (s : State) : State :=
  let s := atTime t s
  if !s.boot.pwrgood then s
  else disBurn (retryFuses (serveDue 8 { s with boot := { s.boot with vfuse := true } }))

/-! ### Power failure (R75-R79) -/

/-- A custody port at a power-fail warning (07 R162, Coincidences; 08 R189, R221; 09 R226): the domain is held, its escape, its window and
its pending blocks are dropped, and no command goes to its flash. -/
def cusStop (d : Nat) (s : State) : State :=
  let x := cdom d s
  if x.st == .running || cusBooting x || cusPushing d s then cusHold d .held s else s

/-- Uncommitted work abandoned at step 3 of R78: nothing stopped has passed its commit point. -/
def stopWork (s : State) : State :=
  let s := foldS cusStop (List.range 32) s
  { s with
    cnp := { s.cnp with inbound := [], opens := [], held := [], renew := [] }
    slt := { s.slt with collecting := none }
    grn := { s.grn with push := if s.grn.push.isOpen then { s.grn.push.emptied with state := 0 } else s.grn.push } }

/-- PFW_ASSERT (R78 steps 2 and 3). -/
def pfwAssertS (t : Nat) (s : State) : State :=
  let s := atTime t s
  let s : State := { s with nrg := { s.nrg with pfwBall := true, pfwHigh := none } }
  if !s.boot.pwrgood then s
  else
    let s : State := if s.nrg.pfw then s else bump (cDevice 11) { s with nrg := { s.nrg with pfw := true } }
    if s.nrg.flush = .idle ∧ s.slp.state ≠ 2 then
      stopWork { s with nrg := { s.nrg with flushing := true, flush := .settle } }
    else s

/-- Meaning of PFW_ASSERT. -/
def execPfwAssert (t : Nat) (s : State) : Host.Outcome State Fault Refusal := actAny (pfwAssertS t) s

/-- FLUSH_SETTLE_END (R78 steps 4 and 5): the closing record joins the pending pages; the keep port writes journal pages only. A device
that writes no page is done: one without keys, and one that has not read its journal yet, so that no SEQ for a record is known (log
entry 36). -/
def flushSettleEndS (s : State) : State :=
  if s.nrg.flush ≠ .settle then s
  else
    let s : State := { s with nrg := { s.nrg with flush := .pages }, kpf := { s.kpf with acts := [], formatDue := [], logDue := [] } }
    let own : Bool := match s.kpf.prog with | some p => p.kind == .record || p.kind == .header | none => true
    let s := if own then s else progStop s
    if journalShut s || !s.kpf.replayed then flushMaybeDone { s with kpf := { s.kpf with pages := [] } }
    else
      let a : JAct := .close s.slt.slot.toNat
      pushPage { recd := recordOf [a] s.kpf.seq s, acts := [a] } s

/-- Meaning of FLUSH_SETTLE_END. -/
def execFlushSettleEnd (s : State) : Host.Outcome State Fault Refusal := actAny flushSettleEndS s

/-- PFW_DEASSERT (R79). -/
def pfwDeassertS (t : Nat) (s : State) : State :=
  let s := atTime t s
  { s with nrg := { s.nrg with pfwBall := false, pfw := false, pfwHigh := some s.now } }

/-- Meaning of PFW_DEASSERT. -/
def execPfwDeassert (t : Nat) (s : State) : Host.Outcome State Fault Refusal := actAny (pfwDeassertS t) s

/-- PFW_RECOVERY_RESET (R79): the flush is done and PFW_N has been high for 10 ms. -/
def pfwRecoveryResetS (t : Nat) (i : StartIn) (s : State) : State :=
  let s := atTime t s
  let high := match s.nrg.pfwHigh with | some h => decide (h + 10 * psMs ≤ s.now) | none => false
  if s.boot.pwrgood && s.nrg.flush == .done && !s.nrg.pfwBall && high then fullReset i s else s

/-- Meaning of PFW_RECOVERY_RESET. -/
def execPfwRecoveryReset (t : Nat) (i : StartIn) (s : State) : Host.Outcome State Fault Refusal :=
  actAny (pfwRecoveryResetS t i) s

/-! ### Sleep (R534-R536) -/

/-- SLEEP_ENTER: diversion and forwarding stop, and every custody port is disabled in DRAIN mode. -/
def sleepEnterS (t : Nat) (s : State) : State :=
  let s := atTime t s
  if s.slp.state ≠ 0 then s
  else foldS (fun d s => disStart (.custody (Fin.ofNat 32 d)) false s) (List.range 32)
    { s with slp := { s.slp with state := 1 } }

/-- Meaning of SLEEP_ENTER: a write of TAP_SLEEP.ENTER by PF1. -/
def execSleepEnter (t : Nat) (s : State) : Host.Outcome State Fault Refusal := act (pf1Do (sleepEnterS t)) s

/-- Steps 1 to 4 have ended: domains held, egress, intake and spill empty, no page pending. -/
def sleepDrained (s : State) : Bool :=
  s.cus.dom.all (fun e => !e.2.released) && s.cnp.entries == [] && s.cnp.inbound == [] && s.cnp.held == []
    && s.kpf.acts == [] && s.kpf.pages == []
    && s.lnk.ports.all (fun e => e.2.lports.all (fun x => x.2.queue == []))

/-- A channel's records written to its host ring while it has room. -/
def drainRing (c : Nat) : Nat → State → State
  | 0, s => s
  | n + 1, s => drainRing c n (recordRingWriteS c s)

/-- The standby key register (R533) written at step 5: valid while the DRAM keys stand. The counter tree's root is free (log
entry 6). -/
def standbyWrite (s : State) : State :=
  let f := drawFree s
  let s := f.2
  let ks := (List.range 6).map (fun i => tapKey (40 + i) s)
  if s.tmp.erased then s
  else { s with slp := { s.slp with standby := {
    valid := true, keys := ks, root := padTo 48 (Config.freeBytes f.1.toNat), grainSeq := grnInstalledSeq s } } }

/-- SLEEP_READY (R534 steps 3 to 6): pending payloads end as EXPIRED, records are written, the lanes are disabled, the standby key
register is written, and every clock but the standby domain's stops. -/
def sleepReadyS (t : Nat) (s : State) : State :=
  let s := atTime t s
  if s.slp.state ≠ 1 ∨ !sleepDrained s then s
  else
    let ps := s.cnp.payloads
    let s := foldS (fun (p : Payload) s => downlinkDone p 2 none s) ps (modCnp (fun n => { n with payloads := [] }) s)
    let s := foldS (fun c s => drainRing c (chanAt c s).buf.length s) (List.range 16) s
    let s := foldS (fun l s =>
      let u : UnitId := .lane (Fin.ofNat 192 l)
      disComplete u (disStart u false s)) (List.range 192) s
    let s := standbyWrite s
    { s with slp := { s.slp with state := 2 } }

/-- Meaning of SLEEP_READY. -/
def execSleepReady (t : Nat) (s : State) : Host.Outcome State Fault Refusal := act (sleepReadyS t) s

/-! ### Temperature and the mission log (R543-R547) -/

/-- TEMP_SAMPLE (R543): four limb sensors and the Taproot's. -/
def tempSampleS (limbs : BitVec 32) (taproot : BitVec 8) (s : State) : State :=
  { s with env := { s.env with temp := (0#24 ++ taproot ++ limbs) } }

/-- Meaning of TEMP_SAMPLE. -/
def execTempSample (limbs : BitVec 32) (taproot : BitVec 8) (s : State) : Host.Outcome State Fault Refusal :=
  act (tempSampleS limbs taproot) s

/-- Life use of an hour in thousandths (R545): minutes by band, weighted. -/
def hourLife (m : BitVec 32) : Nat :=
  let b := fun i => bitsOf m.toNat (8 * i + 7) (8 * i)
  (b 0 + 3 * b 1 + 15 * b 2 + 15 * b 3) * 1000 / 60

/-- One hourly record (R546). GAP is unknown before the timebase is anchored, 0 after an hour logged in the same run, and free for
the first hour of a run (log entry 6). -/
def hourRecord (hour gap : Nat) (tjMax tjMean : Byte) (m : BitVec 32) (joule : Nat) : Bytes :=
  let b := leBytes 4 hour ++ leBytes 4 gap ++ [tjMax, tjMean] ++ leBytes 4 m.toNat ++ leBytes 2 0 ++ leBytes 4 joule
    ++ leBytes 4 (hourLife m) ++ leBytes 4 0
  b ++ leBytes 4 (crc32c b)

/-- A complete page of the log (21 R546): C1 work, or dropped where nothing is written (09 R550); its hours are then not logged. -/
def logPage (s : State) : State :=
  let b := s.env.page.flatten
  let s : State := { s with env := { s.env with page := [] } }
  if journalShut s then keepDropped { s with env := { s.env with lost := s.env.lost + 8 } }
  else queueJobAs false .log 3 none { s with kpf := { s.kpf with logDue := s.kpf.logDue ++ [b] } }

/-- MISSION_LOG_HOUR (R545, R546): life use grows; on an ESG-6416-XV with pages left the hour is recorded, and a page is written once 8
are complete. GAP is unknown before the timebase is anchored, the hours lost in this run behind a record of it, and free in its first
record (log entry 6). -/
def missionLogHourS (t : Nat) (tjMax tjMean : Byte) (m : BitVec 32) (s : State) : State :=
  let s := atTime t s
  if !s.fuses.xv then s
  else
    let s : State := { s with env := { s.env with lifeMilli := s.env.lifeMilli + hourLife m } }
    if s.env.full || s.boot.lcs.num < 2 then s
    else
      let f := drawFree s
      let gap := if !s.slt.anchored then 0xFFFFFFFF else if s.env.logged then s.env.lost else f.1.toNat % 2 ^ 32
      let s := if s.slt.anchored && !s.env.logged then f.2 else s
      let hour := s.env.hour + 1 + (if gap = 0xFFFFFFFF then 0 else gap)
      let joule := (s.nrg.total - s.env.energyAt).toNat / 1000000
      let r := hourRecord hour gap tjMax tjMean m joule
      let s : State := { s with env := { s.env with
        page := s.env.page ++ [r], hour := hour, energyAt := s.nrg.total, logged := true, lost := 0 } }
      if 8 ≤ s.env.page.length then logPage s else s

/-- Meaning of MISSION_LOG_HOUR. -/
def execMissionLogHour (t : Nat) (tjMax tjMean : BitVec 8) (m : BitVec 32) (s : State) : Host.Outcome State Fault Refusal :=
  act (missionLogHourS t tjMax tjMean m) s

end Sys2Proof.Machine
end

