-- ==== Sys2Proof/Machine/Life.lean ====
section
/-!
DEFINITION. Machine/Life.lean: life-cycle requests, debug authorisation and the debug TAP (17_life_cycle_and_debug.md R449-R463).
-/
namespace Sys2Proof.Machine

/-- Change the LCY block. -/
def modLcy (f : Lcy → Lcy) (s : State) : State := { s with lcy := f s.lcy }

/-- LCY_BUF's bytes. -/
def lcyBuf (n : Nat) (s : State) : Bytes := mread 0 s.lcy.buf 0 n

/-- A request (R455): served unless one is in progress; the buffer is zeroed at its start, after its input `b` is taken. A request
during BUSY leaves 0x6012 in the SECURE class alone. -/
def lcyRequest (t : Nat) (go : Bytes → State → State) (s : State) : State :=
  let s := atTime t s
  if s.lcy.busy then emit .secure 0x6012 (srcTree 0) [] s
  else
    let b := lcyBuf 16384 s
    go b (modLcy (fun x => { x with busy := true, ready := false, since := s.now, buf := [], pending := some .done }) s)

/-- The request is refused: its code follows at READY, and the SECURE class takes it (R462). -/
def lcyRefuse (code : W16) (s : State) : State :=
  emit .secure code (srcTree 0) [] (modLcy (fun x => { x with pending := some (.refused code) }) s)

/-- Through PF1's BAR2 or the debug TAP. -/
def lcyPath (viaTap : Bool) (f : State → State) (s : State) : State := if viaTap || s.boot.pf1 then f s else s

/-! ### Transitions (R455-R458) -/

/-- TRANS_CHALLENGE's challenge at LCY_BUF 0x000, none while DRBG_T has no output. -/
def transDraw (s : State) : Option State :=
  (freshChallenge s).map (fun r => modLcy (fun x => { x with buf := mwrite 0 [] 0 r.1, transChallenge := some r.1, pending := some .done }) r.2)

/-- A challenge is drawn at the request, or waited for until its READY (06 R152). -/
def lcyChallenge (dbg : Bool) (draw : State → Option State) (s : State) : State :=
  (draw s).getD (modLcy (fun x => { x with pending := some (.challenge dbg) }) s)

/-- TRANS_CHALLENGE (R455). -/
def transChallengeS (t : Nat) (s : State) : State := lcyRequest t (fun _ s => lcyChallenge false transDraw s) s

/-- Meaning of TRANS_CHALLENGE. -/
def execTransChallenge (viaTap : Bool) (t : Nat) (s : State) : Host.Outcome State Fault Refusal :=
  act (lcyPath viaTap (transChallengeS t)) s

/-- The action is allowed from the voted state (R457). To SAPLING goes through the debug TAP only. -/
def lcyActionAllowed (viaTap : Bool) (a : Nat) (s : State) : Bool :=
  if a ≤ 5 then lcsAllowed s.boot.lcs.num a && (a != 1 || viaTap)
  else decide (0x10 ≤ a ∧ a ≤ 0x14) && s.boot.lcs == .grafted

/-- No signature is asked of a move out of SEED (R457). -/
def lcyUnsigned (a : Nat) (s : State) : Bool := (a == 1 || a == 5) && s.boot.lcs == .seed

/-- The signer that the table allows, and every declared signature (R457). -/
def lcySigned (a : Nat) (b payload : Bytes) (s : State) : Bool :=
  match parseSigned (b.drop 0x80) with
  | none => false
  | some g =>
    let m := b.take 0x80
    if 0x10 ≤ a ∧ a ≤ 0x13 ∧ !anyOwner s then g.digest == payload && allVerify g m
    else signedBy (s.boot.lcs == .sapling || s.boot.lcs == .returned) g m s

/-- The prerequisite of R457. -/
def lcyPrereq (a : Nat) (s : State) : Bool :=
  match a with
  | 1 => !allZero s.fuses.fuseId && s.fuses.trims.isSome
  | 2 => s.fuses.hsV.isSome
  | 3 => anyOwner s && s.fuses.hsO.isSome
  | 0x14 => !s.fuses.bootSet && allZero s.fuses.bootKey
  | _ => if 0x10 ≤ a then ownerKey (a - 0x10) s == [] else true

/-- The first failing test of a token in the order of R457. -/
def tokenTest (viaTap : Bool) (b : Bytes) (ch : Option Bytes) (s : State) : Option W16 :=
  let a := fieldLe b 4 1
  let payload := slice b 0x38 48
  match ch with
  | none => some 0x6012
  | some c =>
    if fieldLe b 5 1 ≠ s.boot.lcs.num ∨ !lcyActionAllowed viaTap a s then some 0x6003
    else if !(slice b 0 4 == ascii "LCT1" && fieldLe b 6 2 == 0 && allZero (slice b 0x68 24) && (decide (0x10 ≤ a) || allZero payload)
        && slice b 8 16 == padTo 16 s.fuses.fuseId && slice b 0x18 32 == c && (lcyUnsigned a s || lcySigned a b payload s)) then
      some 0x6004
    else if !lcyPrereq a s then some 0x6005
    else none

/-- TRANS_REQUEST (R455-R458): the challenge is consumed; an accepted transition records 0x6007 at once. -/
def transRequestS (viaTap : Bool) (t : Nat) (s : State) : State :=
  lcyRequest t (fun b s =>
    let ch := s.lcy.transChallenge
    let s := modLcy (fun x => { x with transChallenge := none }) s
    match tokenTest viaTap b ch s with
    | some c => lcyRefuse c s
    | none =>
      let a := fieldLe b 4 1
      if a ≤ 5 then
        emit .lifecycle 0x6007 (srcTree 0) (d1 s.boot.lcs.num ++ d1 a) (modLcy (fun x => { x with pending := some (.move a) }) s)
      else modLcy (fun x => { x with pending := some (.fuse (a - 0x10) (slice b 0x38 48)) }) s) s

/-- Meaning of TRANS_REQUEST. -/
def execTransRequest (viaTap : Bool) (t : Nat) (s : State) : Host.Outcome State Fault Refusal :=
  act (lcyPath viaTap (transRequestS viaTap t)) s

/-! ### Debug unlock (R459-R462) -/

/-- LCY_DBG_REQ's word. -/
def dbgReqWord (s : State) : Nat := s.lcy.reqBoughs.toNat * 2 ^ 16 + s.lcy.reqScope.toNat
/-- LCY_DBG_GRANT's word. -/
def dbgGrantWord (s : State) : Nat := s.lcy.grantBoughs.toNat * 2 ^ 16 + s.lcy.grantScope.toNat

/-- The challenge message (R459). -/
def dbgMessage (nonce : Bytes) (s : State) : Bytes :=
  ascii "DBC1" ++ leBytes 2 1 ++ leBytes 1 s.boot.lcs.num
    ++ leBytes 1 (((List.range 4).map (fun i => b2n (ownerKey i s != []) * 2 ^ i)).sum)
    ++ padTo 16 s.fuses.fuseId ++ nonce ++ leBytes 8 (grnInstalledSeq s)
    ++ leBytes 2 (if s.grn.installed then s.grn.grain.svn else 0) ++ leBytes 2 s.fuses.evidence ++ leBytes 4 (dbgReqWord s) ++ leBytes 8 0

/-- DBG_CHALLENGE's message, none while DRBG_T has no output. -/
def dbgDraw (s : State) : Option State :=
  (freshChallenge s).map (fun r =>
    let m := dbgMessage r.1 r.2
    modLcy (fun x => { x with buf := mwrite 0 [] 0 m, dbgChallenge := some m, pending := some .done }) r.2)

/-- DBG_CHALLENGE (R459). -/
def dbgChallengeS (t : Nat) (s : State) : State := lcyRequest t (fun _ s => lcyChallenge true dbgDraw s) s

/-- Meaning of DBG_CHALLENGE. -/
def execDbgChallenge (viaTap : Bool) (t : Nat) (s : State) : Host.Outcome State Fault Refusal :=
  act (lcyPath viaTap (dbgChallengeS t)) s

/-- A signature structure by Tirinjo's debug key (R460): its block declares ECDSA P-384 and ML-DSA-87. -/
def debugSigned (b m : Bytes) : Bool :=
  match parseSigned b with
  | some g =>
    g.digest == Config.debugKeyDigest && g.keys.length == 2 && (g.keys.map (·.alg)).contains 1 && (g.keys.map (·.alg)).contains 2
      && allVerify g m
  | none => false

/-- Both structures verify, or the vendor's alone in RETURNED (R460, R461). -/
def dbgSigned (b : Bytes) (s : State) : Bool :=
  let m := b.take 0x40
  let r := b.drop 0x40
  if s.boot.lcs = .returned then fieldLe r 0 4 == 0 && debugSigned (r.drop 4) m
  else
    match parseSigned r with
    | some g => signedBy false g m s && debugSigned (r.drop ((signedLen r + 3) / 4 * 4)) m
    | none => false

/-- The first failing test of a response (R461). -/
def responseTest (b : Bytes) (ch : Option Bytes) (s : State) : Option W16 :=
  let scope := fieldLe b 0x38 4
  let boughs := fieldLe b 0x3C 2
  match ch with
  | none => some 0x6012
  | some m =>
    if !(slice b 0 4 == ascii "DBR1" && fieldLe b 4 2 == 1 && fieldLe b 6 2 == 0 && fieldLe b 0x3E 2 == 0
        && slice b 8 48 == sha384 m && decide (scope < 16) && decide (boughs < 4096) && dbgSigned b s) then some 0x6010
    else if bitOf scope 2 && s.boot.lcs == .grafted then some 0x6013
    else if boughs ≠ 0 ∧ !(bitOf scope 1 || bitOf scope 3) then some 0x6010
    else none

/-- DBG_RESPONSE (R460-R462): within 2 s of the previous one it is not evaluated. -/
def dbgResponseS (t : Nat) (s : State) : State :=
  lcyRequest t (fun b s =>
    let ch := s.lcy.dbgChallenge
    let soon := match s.lcy.lastResponse with | some l => decide (s.now < l + 2 * psS) | none => false
    let s := modLcy (fun x => { x with dbgChallenge := none, lastResponse := some s.now }) s
    if soon then lcyRefuse 0x6011 s
    else
      match responseTest b ch s with
      | some c => lcyRefuse c s
      | none => modLcy (fun x => { x with pending := some (.grant (fieldLe b 0x38 4) (fieldLe b 0x3C 2)) }) s) s

/-- Meaning of DBG_RESPONSE. -/
def execDbgResponse (viaTap : Bool) (t : Nat) (s : State) : Host.Outcome State Fault Refusal :=
  act (lcyPath viaTap (dbgResponseS t)) s

/-- DBG_LOCK (R461): the grant ends. -/
def dbgLockS (t : Nat) (s : State) : State := lcyRequest t (fun _ s => grantEnd 1 s) s

/-- Meaning of DBG_LOCK. -/
def execDbgLock (viaTap : Bool) (t : Nat) (s : State) : Host.Outcome State Fault Refusal := act (lcyPath viaTap (dbgLockS t)) s

/-! ### READY (R455, R458, R461) -/

/-- The action programs fuses. -/
def LcyAct.fuses : LcyAct → Bool
  | .move _ | .fuse _ _ => true
  | .refused _ | .grant _ _ | .challenge _ | .done => false

/-- The request ends with a result. -/
def lcyEnd (code : W16) (s : State) : State :=
  modLcy (fun x => { x with result := code, ready := true, busy := false, pending := none, waitFuse := false }) s

/-- A fuse that failed to read back (R458): retried at the next start. -/
def lcyFuseFail (a : LcyAct) (s : State) : State :=
  emit .secure 0x6006 (srcTree 0) [] (lcyEnd 0x6006 (modLcy (fun x => { x with retry := some a }) s))

/-- The act of a request at its READY: `copies` fuse copies read back well (3: all); a transition ends in a full device reset. -/
def lcyDo (a : LcyAct) (copies : Nat) (i : StartIn) (s : State) : State :=
  match a with
  | .refused c => lcyEnd c s
  | .done => lcyEnd 0 s
  | .challenge dbg =>
    match (if dbg then dbgDraw s else transDraw s) with
    | some s => lcyEnd 0 s
    | none => starved (lcyEnd 0x5011 (modLcy (fun x =>
        if dbg then { x with dbgChallenge := none } else { x with transChallenge := none }) s))
  | .grant sc b =>
    let s := grantEnd 3 s
    lcyEnd 0 (emit .lifecycle 0x6014 (srcTree 0) (d4 sc ++ d2 b)
      (modLcy (fun x => { x with unlocked := true, grantScope := BitVec.ofNat 4 sc, grantBoughs := BitVec.ofNat 12 b }) s))
  | .move n =>
    let s := lcsProgram copies n s
    if copies < 3 then lcyFuseFail a s else fullReset i (wipeSet n s)
  | .fuse k d =>
    if copies < 3 then lcyFuseFail a s
    else match fuseAct k d s with
      | some s => lcyEnd 0 (emit .lifecycle 0x6008 (srcTree 0) (d1 (0x10 + k)) s)
      | none => starved (lcyEnd 0x5011 s)

/-- LCY_RESULT_READY (R455, R458, R461): 10 ms after the request; an act that programs fuses waits for VFUSE (21 R532). -/
def lcyResultReadyS (t : Nat) (copies : Nat) (i : StartIn) (s : State) : State :=
  let s := atTime t s
  match s.lcy.pending with
  | some a =>
    if !s.lcy.busy || decide (s.now < s.lcy.since + 10 * psMs) then s
    else if a.fuses && !s.boot.vfuse then modLcy (fun x => { x with waitFuse := true }) s
    else lcyDo a copies i s
  | none => s

/-- Meaning of LCY_RESULT_READY. -/
def execLcyResultReady (t : Nat) (copies : Fin 4) (i : StartIn) (s : State) : Host.Outcome State Fault Refusal :=
  act (lcyResultReadyS t copies.val i) s

/-- VFUSE_IN_RANGE (R532), with the life-cycle request that waits. -/
def vfuseS (t : Nat) (copies : Nat) (i : StartIn) (s : State) : State :=
  let s := vfuseInRangeS t s
  match s.lcy.pending with
  | some a => if s.boot.pwrgood && s.lcy.waitFuse then lcyDo a copies i s else s
  | none => s

/-- Meaning of VFUSE_IN_RANGE. -/
def execVfuseInRange (t : Nat) (copies : Fin 4) (i : StartIn) (s : State) : Host.Outcome State Fault Refusal :=
  actAny (vfuseS t copies.val i) s

/-! ### LCY registers (R450, R453) -/

/-- Codes of a refused request or response (R463). -/
def lcyRefusals : List W16 := [0x6003, 0x6004, 0x6005, 0x6010, 0x6011, 0x6012, 0x6013]

/-- RESULT as a reader sees it: the debug TAP sees 0xF000 for a refusal, but in SEED and FELLED (R462). -/
def lcyResultSeen (viaTap : Bool) (s : State) : W16 :=
  if viaTap && lcyRefusals.contains s.lcy.result && s.boot.lcs != .seed && s.boot.lcs != .felled then 0xF000 else s.lcy.result

/-- A 32-bit word of the LCY block. -/
def lcyRead (viaTap : Bool) (off : Nat) (s : State) : Nat :=
  let y := s.lcy
  if off = 0 then
    (lcyResultSeen viaTap s).toNat * 2 ^ 16 + b2n y.unlocked * 2 ^ 15 + s.boot.lcs.num * 2 ^ 8 + b2n y.completed * 8 + b2n y.invalid * 4
      + b2n y.ready * 2 + b2n y.busy
  else if off = 8 then dbgReqWord s
  else if off = 0xC then dbgGrantWord s
  else if off = 0x10 then (lcsCopy 1 s).toNat * 2 ^ 16 + (lcsCopy 0 s).toNat
  else if off = 0x14 then (lcsCopy 2 s).toNat
  else if off = 0x18 then y.mbist.toNat
  else if 0x1000 ≤ off ∧ off < 0x5000 then leNat (mread 0 y.buf (off / 4 * 4 - 0x1000) 4)
  else 0

/-- A write of a word of the LCY block: LCY_CMD starts its operation, an OP that its table does not list nothing (00 R553). -/
def lcyWrite (viaTap : Bool) (t off : Nat) (v : W32) (s : State) : State :=
  if off = 4 then
    match v.toNat % 256 with
    | 1 => transChallengeS t s | 2 => transRequestS viaTap t s | 3 => dbgChallengeS t s | 4 => dbgResponseS t s | 5 => dbgLockS t s
    | _ => s
  else if off = 8 then modLcy (fun x => { x with reqBoughs := v.extractLsb' 16 12, reqScope := v.extractLsb' 0 4 }) s
  else if 0x1000 ≤ off ∧ off < 0x5000 then
    modLcy (fun x => { x with buf := mwrite 0 x.buf (off / 4 * 4 - 0x1000) (leBytes 4 v.toNat) }) s
  else s

/-- LCY_ACCESS (R453): the capture returns the data of the previous read. -/
def lcyAccessS (t : Nat) (write : Bool) (off : Nat) (v : W32) (s : State) : State :=
  let s := emitOut (.value (s.lcy.capLcy.setWidth 64)) (atTime t s)
  if write then lcyWrite true t off v s
  else modLcy (fun x => { x with capLcy := BitVec.ofNat 32 (lcyRead true off s) }) s

/-- Meaning of LCY_ACCESS. -/
def execLcyAccess (t : Nat) (write : Bool) (off v : BitVec 32) (s : State) : Host.Outcome State Fault Refusal :=
  act (lcyAccessS t write off.toNat v) s

/-! ### The debug address space (R449, R454) -/

/-- The state opens DBG_ACCESS without a grant (R449). -/
def dbgOpen (s : State) : Bool := s.boot.lcs == .seed || s.boot.lcs == .sapling || s.boot.lcs == .felled

/-- A bit of SCOPE is in force, [0] OBSERVE, [1] LEAF, [2] TRACE, [3] MEMTEST, over bough `b`: open states have every scope everywhere, but
MEMTEST not in SAPLING; a grant has its own over its boughs, and OBSERVE and TRACE without any. -/
def dbgScope (bit b : Nat) (s : State) : Bool :=
  (dbgOpen s && (bit != 3 || s.boot.lcs != .sapling))
    || (s.lcy.unlocked && s.lcy.grantScope.getLsbD bit && (bit % 2 == 0 || s.lcy.grantBoughs.getLsbD b))

/-- LEAF scope over a leaf of the device. -/
def dbgLeaf (l : Nat) (s : State) : Bool := decide (l < 192) && dbgScope 1 (boughOfLeaf l) s

/-- The first HALT attaches and fences a leaf without zeroing it; its results in flight and its WAIT stay. -/
def leafHalt (l : Nat) (s : State) : State :=
  let x := leafAt l s
  let s := if x.attached then s
    else modLeaf l (fun y => { y with attached := true, flight := x.flight, waiting := x.waiting }) (fenceLeaf l s)
  modLeaf l (fun y => { y with halted := true }) s

/-- One instruction of a leaf, as its own command runs it. -/
def leafRun (l : Nat) (i : LInsn) (s : State) : State :=
  match i with
  | .alu o f rd rs rt => aluS l o f rd rs rt s
  | .un o f rd rs => unS l o f rd rs s
  | .sh o f rd rs a => shS l o f rd rs a s
  | .imm o rd rs i => immS l o rd rs i s
  | .lui rd i => luiS l rd i s
  | .cmpi rs i => cmpiS l rs i s
  | .mem o rd rb m => memS l o rd rb m s
  | .swapw rd rb i => swapwS l rd rb i s
  | .mul o rd rs rt => mulS l o rd rs rt s
  | .mac o rs rt => macS l o rs rt s
  | .mfa rd sel => mfaS l rd sel s
  | .mfat rd => mfatS l rd s
  | .mta sel rs => mtaS l sel rs s
  | .aclr => aclrS l s
  | .ashift left sel => ashS l left sel s
  | .accm sat => accmS l sat s
  | .div sg rp rs rt => divS l sg rp rs rt s
  | .bcond c off => bcondS l c off s
  | .bz nz rs off => bzS l nz rs off s
  | .j link off => jS l link off s
  | .jr rs => jrS l rs s
  | .jalr rd rs => jalrS l rd rs s
  | .wait rd m => modLeaf l (fun x => { x with waiting := some (rd.toNat, m) }) (leafSettle l s)
  | .evclr m => evclrS l m s
  | .mff rd => mffS l rd s
  | .mtf rs => mtfS l rs s
  | .mfs rd sel => mfsS l rd sel s
  | .undef => undefinedS l s

/-- A cycle of a waiting leaf: once it has drained it looks; without an event one cycle passes. -/
def waitCycle (l : Nat) (s : State) : State :=
  let s := leafSettle l s
  let w := if (leafAt l s).flight = [] then waitLook l s else s
  if (leafAt l w).waiting.isSome then leafSettle l (modLeaf l (fun x => { x with cyc := x.cyc + 1 }) w) else w

/-- STEP (R454): one cycle of a halted leaf. -/
def leafStep (l : Nat) (s : State) : State :=
  if !(leafAt l s).halted then s
  else
    let s := modLeaf l (fun x => { x with halted := false }) s
    let s :=
      if !leafRuns l s || !boughRuns (boughOfLeaf l) s then s
      else if (leafAt l s).waiting.isSome then waitCycle l s
      else match leafDecode (leafAt l s).word with
        | .wait rd m => waitCycle l (leafRun l (.wait rd m) s)
        | i => leafRun l i s
    modLeaf l (fun x => { x with halted := true }) s

/-- RESUME (R454). -/
def leafResume (l : Nat) (s : State) : State := modLeaf l (fun x => { x with halted := false }) s

/-- Under LEAF scope over the leaf. -/
def dbgDo (l : Nat) (f : State → State) (s : State) : State := if dbgLeaf l s then f s else s

/-- Meaning of HALT. -/
def execDbgHalt (t : Nat) (l : Fin 192) (s : State) : Host.Outcome State Fault Refusal :=
  act (fun s => dbgDo l.val (leafHalt l.val) (atTime t s)) s
/-- Meaning of STEP. -/
def execDbgStep (l : Fin 192) (s : State) : Host.Outcome State Fault Refusal := act (dbgDo l.val (leafStep l.val)) s
/-- Meaning of RESUME_LEAF. -/
def execResumeLeaf (l : Fin 192) (s : State) : Host.Outcome State Fault Refusal := act (dbgDo l.val (leafResume l.val)) s

/-- A register of a leaf as the debugger reads it (R454). -/
def dbgRegRead (x : Leaf) (o : Nat) : W32 :=
  if o = 0x20004 then x.pc.setWidth 32
  else if 0x20080 ≤ o ∧ o < 0x20100 then x.reg (BitVec.ofNat 5 ((o - 0x20080) / 4))
  else if o = 0x20100 then x.flagsWord
  else if o = 0x20110 then x.acc.extractLsb' 0 32
  else if o = 0x20114 then x.acc.extractLsb' 32 32
  else if o = 0x20118 then (x.acc.extractLsb' 64 8).setWidth 32
  else 0

/-- A register of a leaf as the debugger writes it. -/
def dbgRegWrite (o : Nat) (v : W32) (x : Leaf) : Leaf :=
  if o = 0x20004 then { x with pc := v.setWidth 16 }
  else if 0x20080 ≤ o ∧ o < 0x20100 then x.complete (.reg ((o - 0x20080) / 4) v)
  else if o = 0x20100 then
    { x with
      z := v.getLsbD 0, n := v.getLsbD 1, c := v.getLsbD 2, v := v.getLsbD 3, dz := v.getLsbD 8, acv := v.getLsbD 9
      early := v.getLsbD 10 }
  else if o = 0x20110 then x.complete (.accPart 0 v)
  else if o = 0x20114 then x.complete (.accPart 1 v)
  else if o = 0x20118 then x.complete (.accPart 2 v)
  else x

/-- A read of a leaf's area: memories and control under LEAF, registers under OBSERVE or LEAF. -/
def dbgLeafRead (l o : Nat) (s : State) : W32 :=
  let x := leafAt l s
  let w := fun (m : Tab Byte) (a : Nat) => BitVec.ofNat 32 (leNat (mread 0 m (a / 4 * 4) 4))
  if o < 0x20000 then (if !dbgLeaf l s then 0 else if o < 0x10000 then w x.imem o else w x.dmem (o - 0x10000))
  else if o = 0x20000 then (if dbgLeaf l s then BitVec.ofNat 32 (8 * b2n x.attached) else 0)
  else if dbgLeaf l s || dbgScope 0 0 s then dbgRegRead x o
  else 0

/-- A write to a leaf's area, under LEAF. -/
def dbgLeafWrite (l o : Nat) (v : W32) (s : State) : State :=
  let b := leBytes 4 v.toNat
  if !dbgLeaf l s then s
  else if o < 0x10000 then modLeaf l (fun x => { x with imem := mwrite 0 x.imem (o / 4 * 4) b }) s
  else if o < 0x20000 then modLeaf l (fun x => { x with dmem := mwrite 0 x.dmem ((o - 0x10000) / 4 * 4) b }) s
  else if o = 0x20000 then
    let s := if v.getLsbD 0 then leafHalt l s else s
    let s := if v.getLsbD 1 then leafStep l s else s
    if v.getLsbD 2 then leafResume l s else s
  else modLeaf l (dbgRegWrite o v) s

/-- MEMTEST on a bough fences it first (R454). -/
def memtestEnter (b : Nat) (s : State) : State := if boughAlive b s then fenceBough b s else s

/-- A read of the debug address space. The MEMTEST port's layout and the ROM's pc values are not stated: a read there is free (log
entry 6). -/
def dbgRead (a : Nat) (s : State) : W32 × State :=
  if a < 0xC0000000 then (dbgLeafRead (a / 2 ^ 20) (a % 2 ^ 20) s, s)
  else if a < 0xC0C00000 then
    let t := (a - 0xC0000000) / 2 ^ 18
    let o := (a - 0xC0000000) % 2 ^ 18 / 4 * 4
    if dbgScope 1 (t / 4) s then
      (BitVec.ofNat 32 (leNat (mread 0 (tget [] s.lvs.twig t) o 4)), s) else (0, s)
  else if 0xE0000000 ≤ a ∧ a < 0xEC000000 then
    let b := (a - 0xE0000000) / 2 ^ 24
    if dbgScope 3 b s then
      let f := drawFree (memtestEnter b s)
      (f.1.setWidth 32, f.2)
    else (0, s)
  else if a = 0xF0000000 ∧ dbgScope 2 0 s then
    let f := drawFree s
    (f.1.setWidth 32, f.2)
  else (0, s)

/-- A write to the debug address space. -/
def dbgWrite (a : Nat) (v : W32) (s : State) : State :=
  if a < 0xC0000000 then dbgLeafWrite (a / 2 ^ 20) (a % 2 ^ 20) v s
  else if a < 0xC0C00000 then
    let t := (a - 0xC0000000) / 2 ^ 18
    if dbgScope 1 (t / 4) s then
      twigWrite t ((a - 0xC0000000) % 2 ^ 18 / 4 * 4) (leBytes 4 v.toNat) s
    else s
  else if 0xE0000000 ≤ a ∧ a < 0xEC000000 then
    let b := (a - 0xE0000000) / 2 ^ 24
    if dbgScope 3 b s then memtestEnter b s else s
  else s

/-- DBG_ACCESS (R453, R454): a state that does not open it selects BYPASS, whose data register captures zero. -/
def dbgAccessS (t : Nat) (write : Bool) (a : Nat) (v : W32) (s : State) : State :=
  let s := atTime t s
  if !(dbgOpen s || s.lcy.unlocked) then emitOut (.value 0) s
  else
    let s := emitOut (.value (s.lcy.capDbg.setWidth 64)) s
    if write then dbgWrite a v s
    else
      let r := dbgRead a s
      modLcy (fun x => { x with capDbg := r.1 }) r.2

/-- Meaning of DBG_ACCESS. -/
def execDbgAccess (t : Nat) (write : Bool) (a v : BitVec 32) (s : State) : Host.Outcome State Fault Refusal :=
  act (dbgAccessS t write a.toNat v) s

/-! ### Boundary scan (R452) -/

/-- IDCODE: the identification, on either TAP while main power is good. -/
def idcodeS (s : State) : State := if s.boot.pwrgood then emitOut (.reply (leBytes 4 Config.idcode.toNat)) s else s

/-- Meaning of IDCODE. -/
def execIdcode (s : State) : Host.Outcome State Fault Refusal := actAny idcodeS s

/-- EXTEST: in SAPLING, GRAFTED and STANDING the device stops as at step 3 of 03 R78, until a CORE reset. -/
def extestS (s : State) : State :=
  if !s.boot.pwrgood then s
  else match s.boot.lcs with
    | .sapling | .grafted | .standing => stopWork (modLcy (fun x => { x with extest := true }) s)
    | .seed | .returned | .felled => s

/-- Meaning of EXTEST. -/
def execExtest (s : State) : Host.Outcome State Fault Refusal := actAny extestS s

/-- SAMPLE/PRELOAD: the cells are read out, and the preloaded values stand for EXTEST; their order is the description file's. -/
def samplePreloadS (captured shifted : Bytes) (s : State) : State :=
  if s.boot.pwrgood then modLcy (fun x => { x with cells := shifted }) (emitOut (.reply captured) s) else s

/-- Meaning of SAMPLE_PRELOAD. -/
def execSamplePreload (captured shifted : Bytes) (s : State) : Host.Outcome State Fault Refusal :=
  actAny (samplePreloadS captured shifted) s

end Sys2Proof.Machine
end

