-- ==== Sys2Proof/Machine/RegRead.lean ====
section
/-!
DEFINITION. Machine/RegRead.lean: the register blocks of BAR2 as a read shows them (00_scope.md R7, R13; the register tables of every
chapter). A word is 32 bits; an address in no row reads 0.
-/
namespace Sys2Proof.Machine

/-- The word at offset `o` of a 64-bit register at offset `b`. -/
def halfOf (b o v : Nat) : Nat := (v >>> (8 * (o - b))) % 2 ^ 32

/-- Bit mask of the numbers below `n` that pass a test. -/
def maskOf (n : Nat) (f : Nat → Bool) : Nat := ((List.range n).map (fun i => b2n (f i) * 2 ^ i)).sum

/-- An output that a read or write on the ring does not show on this device. -/
def busOutput (o : Output) : Bool := match o with | .value _ => true | .unsupported => true | _ => false

/-- The value that a read row shows, and the state after the read's own effect. -/
def readVia (f : State → State) (s : State) : Nat × State :=
  let r := f { s with out := [] }
  let v := r.out.foldl (fun n o => match o with | .value w => w.toNat | _ => n) 0
  (v, { r with out := s.out ++ r.out.filter (fun o => !busOutput o) })

/-- TAP (21 R536, R543, R547). -/
def tapRead (o : Nat) (s : State) : Nat :=
  if o = 0 then b2n s.slp.woke * 128 + s.slp.state * 4
  else if o = 8 ∨ o = 12 then halfOf 8 o s.env.temp.toNat
  else if o = 16 ∧ s.fuses.xv then 2 ^ 31 + b2n s.env.full * 2 ^ 30 + s.env.lifeMilli / 1000
  else 0

/-- SLT (02). -/
def sltRead (o : Nat) (s : State) : Nat × State :=
  let x := s.slt
  if o = 0 then readVia (sltNowReadS false) s
  else if o = 0x24 then readVia sltMarkStatReadS s
  else
    let v :=
      if o = 4 then x.latchHi.toNat
      else if o = 8 then
        (if x.source ≤ 1 then x.quality.toNat else 0) * 2 ^ 12 + b2n x.leapPending * 2 ^ 11 + b2n x.ref10mOk * 2 ^ 10 + b2n x.ppsOk * 2 ^ 9 + b2n x.todOk * 2 ^ 8
          + x.source * 2 ^ 6 + b2n x.anchored * 32 + b2n x.stepped * 16 + x.st.num
      else if o = 0xC then x.offset.toNat
      else if o = 0x10 then x.holdLeft
      else if o = 0x20 then x.markPeriod.toNat * 2 ^ 16 + x.markPhase.toNat
      else if o = 0x28 ∨ o = 0x2C then halfOf 0x28 o x.markAt.toNat
      else if o = 0x30 then b2n x.hold * 2
      else if o = 0x38 ∨ o = 0x3C then halfOf 0x38 o x.markLast.toNat
      else 0
    (v, s)

/-- NRG_BOUGH_STATE's code of a power state. -/
def BoughPower.code : BoughPower → Nat
  | .off => 0 | .running => 1 | .frozen => 2 | .fenced => 3

/-- NRG (03). -/
def nrgRead (o : Nat) (s : State) : Nat :=
  let x := s.nrg
  if o = 0 then
    x.result.toNat * 2 ^ 16 + b2n x.pfw * 512 + b2n x.flushing * 256 + b2n x.reserveFull * 128 + b2n x.offAccess * 64
      + b2n x.c1Overdue * 32 + b2n x.overBudget * 16 + x.level.toNat
  else if o = 8 ∨ o = 0xC then halfOf 8 o (b2n x.hostEn * 2 ^ 63 + x.hostUj.toNat)
  else if o = 0x10 ∨ o = 0x14 then halfOf 0x10 o (min x.eff (2 ^ 48 - 1))
  else if o = 0x18 ∨ o = 0x1C then halfOf 0x18 o x.spent.toNat
  else if o = 0x20 ∨ o = 0x24 then halfOf 0x20 o x.lastSpent.toNat
  else if o = 0x28 ∨ o = 0x2C then halfOf 0x28 o x.total.toNat
  else if o = 0x30 then x.pending * 2 ^ 16 + x.nMax
  else if o = 0x34 then ((List.range 12).map (fun b => (boughNrg b s).power.code * 4 ^ b)).sum
  else 0

/-- HLW_nn_STAT (16). -/
def hlwStat (x : Hchan) : Nat :=
  (if x.dirOut then x.waiting.length else 0) * 2 ^ 24 + x.acks.length * 2 ^ 20 + (if x.open_ && !x.dirOut then 8 - x.occupied else 0) * 2 ^ 16
    + b2n x.fAborted * 512 + b2n x.fClosed * 256 + b2n x.fDead * 128 + b2n x.fFull * 64 + b2n x.fAckErr * 32 + b2n x.fCollision * 16
    + b2n x.fEarly * 8 + b2n x.open_ * 4 + b2n x.dirOut * 2 + b2n x.notice

/-- A channel block (16). -/
def chanRead (pf1 : Bool) (c o : Nat) (s : State) : Nat × State :=
  if o = 0x44 then readVia (ackTakeS pf1 c) s
  else if o = 0x48 then readVia (rxTakeS pf1 c) s
  else readVia (hostChan pf1 true c (fun s =>
    let x := hchan c s
    let v := if 0x50 ≤ o ∧ o < 0x90 then leNat (slice x.rx (o - 0x50) 4) else if o = 0x90 then hlwStat x else 0
    emitOut (.value (BitVec.ofNat 64 v)) s)) s

/-- HLW_nn_CFG, HLW_nn_AREA and HLW_nn_KNOCKS. -/
def chanCfg (o : Nat) (x : Hchan) : Nat :=
  if o = 0 then
    b2n x.open_ * 2 ^ 31 + b2n x.notice * 2 ^ 30 + b2n x.dirOut * 2 ^ 29 + b2n x.abort * 2 ^ 28 + x.outside * 2 ^ 22 + x.leaf * 2 ^ 14
  else if o = 4 then x.timeoutMs * 2 ^ 16 + x.area
  else if o = 8 then b2n x.rxEn * 2 ^ 15 + x.knockRx * 256 + b2n x.ackEn * 128 + x.knockAck
  else 0

/-- The HLW block (16). -/
def hlwRead (o : Nat) (s : State) : Nat × State :=
  if o < 0x1000 then chanRead true (o / 256) (o % 256) s
  else
    let k := tget {} s.hlw.knock ((o - 0x5000) / 4)
    let v :=
      if 0x4000 ≤ o ∧ o < 0x4400 then chanCfg (o % 16) (hchan ((o - 0x4000) / 16) s)
      else if o = 0x4400 then s.hlw.result.toNat * 2 ^ 16
      else if 0x5000 ≤ o ∧ o < 0x5080 then b2n k.secure * 1024 + k.target * 256 + k.leaf
      else if o = 0x5104 then s.hlw.pend1.toNat
      else 0
    (v, s)

/-- Seconds left of the recovery window, rounded up. -/
def rcvLeft (s : State) : Nat := if s.vault.window.isSome then (s.vault.windowEnd - s.now + psS - 1) / psS else 0

/-- The KEY block (05). -/
def keyRead (o : Nat) (s : State) : Nat × State :=
  let x := s.vault
  if 0x1000 ≤ o ∧ o < 0x5000 then readVia (keyBufReadS ((o - 0x1000) / 4)) s
  else if (o = 0x20 ∨ o = 0x24 ∨ o = 0x28) ∧ !x.ready then (0, { s with vault := { x with early := true } })
  else
    let v :=
      if o = 8 ∨ o = 0xC then halfOf 8 o x.arg.toNat
      else if o = 0x10 then x.expectKcv * 256
      else if o = 0x14 then x.wrap.toNat
      else if o = 0x18 then
        x.result.toNat * 2 ^ 16 + b2n (x.staged != []) * 16 + b2n x.twice * 8 + b2n x.early * 4 + b2n x.ready * 2 + b2n x.busy
      else if o = 0x20 ∨ o = 0x24 then halfOf 0x20 o x.info.toNat
      else if o = 0x28 then x.infoExt.toNat
      else if o = 0x2C then rcvLeft s
      else 0
    (v, s)

/-- The ENT block (06). -/
def entRead (o : Nat) (s : State) : Nat × State :=
  let x := s.ent
  if 0x40 ≤ o ∧ o < 0x80 then readVia (entOutReadS ((o - 0x40) / 4)) s
  else
    let v :=
      if o = 0 then
        x.result.toNat * 2 ^ 16 + maskOf 4 (fun i => (noise i s).fenced) * 2 ^ 12 + x.failed.toNat * 256
          + maskOf 4 (fun i => (noise i s).healthy) * 16 + b2n x.twice * 8 + b2n x.early * 4 + b2n x.ready * 2 + b2n x.valid
      else if o = 4 then x.words.toNat * 2
      else 0
    (v, s)

/-- The TMP block (18). -/
def tmpRead (o : Nat) (s : State) : Nat :=
  let x := s.tmp
  if o = 0 then
    x.result.toNat * 2 ^ 16 + x.first.getD 0 * 2 ^ 12 + b2n (x.stimLeft != []) * 16 + b2n (evidenceSat s) * 8
      + b2n (x.burnDue && !s.boot.vfuse) * 4 + b2n x.erased * 2 + b2n s.boot.keyless
  else if o = 4 then x.raw.toNat
  else if o = 8 then x.incident.toNat
  else if o = 0xC then x.latch.toNat
  else if o = 0x10 then s.fuses.evidence
  else if o = 0x14 then s.fuses.tamperOff.toNat
  else if o = 0x18 then x.stimMask.toNat
  else if o = 0x1C then x.stimDone.toNat * 2 ^ 16 + x.stimPass.toNat
  else if o = 0x20 then b2n (x.disReady && !disBusyNow s) * 8 + b2n (disBusyNow s) * 4
  else if 0x1000 ≤ o ∧ o < 0x2000 then leNat (mread 0 x.buf (o - 0x1000) 4)
  else 0

/-- The FLT block (08). -/
def fltRead (o : Nat) (s : State) : Nat :=
  if o = 0 then fltEscPend s
  else if 0x100 ≤ o ∧ o < 0x900 then
    let x := (cdom ((o - 0x100) / 64) s).flt
    match (o - 0x100) % 64 with
    | 0 =>
      x.last.code.toNat * 2 ^ 16 + b2n x.esc.isSome * 2 ^ 15 + b2n x.mimic.isSome * 2 ^ 14 + b2n (bitOf (shownStatus x) 0) * 2 ^ 13
        + b2n x.wel * 2 ^ 12 + b2n x.suspended * 2 ^ 11 + b2n x.dpd * 2 ^ 10 + b2n x.addr4 * 512 + x.hostMode * 64 + b2n x.early * 8
        + b2n x.underrun * 4 + x.phase
    | 4 => x.last.seq
    | 8 => x.last.addr
    | 12 => x.last.cls * 256 + x.last.op
    | 16 => x.f111 * 2 ^ 24 + x.fHost * 2 ^ 16 + x.dHost
    | _ => 0
  else 0

/-- The KPF block (09). -/
def kpfRead (o : Nat) (s : State) : Nat :=
  if o = 0 then s.kpf.result.toNat * 2 ^ 16 + kpfLow s
  else if o = 8 ∨ o = 0xC then halfOf 8 o s.kpf.seq
  else if o = 0x10 then s.fuses.anchor
  else if o = 0x14 then s.kpf.freeSectors
  else if o = 0x18 ∨ o = 0x1C then halfOf 0x18 o s.kpf.ckptSeq
  else 0

/-- The status word of a disable group (01 R25). -/
def disStat (u : UnitId) (s : State) : Nat :=
  let d := disOf u s
  b2n d.enPending * 4 + b2n d.escalated * 2 + b2n d.quiesced
/-- Its control word. -/
def disCtrl (u : UnitId) (s : State) : Nat := let d := disOf u s; b2n d.mode * 4 + b2n (!d.off || d.enPending)

/-- The CNP block (10, 11). -/
def cnpRead (o : Nat) (s : State) : Nat :=
  let x := s.cnp
  if 0x1000 ≤ o ∧ o < 0x1600 then
    let l := (o - 0x1000) / 8
    let u := UnitId.lane (Fin.ofNat 192 l)
    if o % 8 = 0 then disCtrl u s
    else min 255 ((laneAt l s).head - (laneAt l s).consumed).toNat * 256 + disStat u s
  else if 0x40 ≤ o ∧ o < 0x80 then leNat (slice x.ctxData (o - 0x40) 4)
  else if o = 0 then x.result.toNat * 2 ^ 16 + x.st
  else if o = 8 ∨ o = 0xC then halfOf 8 o x.rekeyAt.toNat
  else if o = 0x10 then x.rekeyGen.toNat
  else if o = 0x18 ∨ o = 0x1C then halfOf 0x18 o x.imgAddr.toNat
  else if o = 0x24 then x.imgResult.toNat * 2 ^ 16 + b2n x.img.isSome * 2 ^ 15 + x.badChunks
  else if o = 0x100 then
    let dropping := match x.lastDrop with | some t => decide (s.now < t + 100 * psUs) | none => false
    x.fill * 2 ^ 16 + b2n x.unmirrored * 1024 + b2n x.shed * 512 + b2n dropping * 256 + x.level * 16
      + maskOf 4 (fun l => spilling l s)
  else if o = 0x108 ∨ o = 0x10C then halfOf 0x108 o (spillUsed s)
  else if o = 0x110 ∨ o = 0x114 then halfOf 0x110 o (gcan s).spillBytes
  else if o = 0x118 then x.moveOld * 2 ^ 24 + x.moveNew * 2 ^ 16 + min 65535 x.moveRetried
  else if o = 0x11C then cnpTakeover s
  else 0

/-- Port `p` trains its link: its lanes run and a logical port has not come up. -/
def training (p : Nat) (s : State) : Bool :=
  portsOn s && s.nrg.laneGroups.getLsbD p && (List.range (lportCount (gport p s).mode)).any (fun k => !(lport p k s).up)

/-- The registers of SecY `k` of port `p` (12). -/
def secyRead (p k o : Nat) (s : State) : Nat :=
  let y := (lport p k s).secy
  let n := match y.cur with | some (sc, an) => 4 * sc + an | none => 0
  if o = 0 ∨ o = 4 then halfOf 0 o (if y.cur.isSome then (tget {} y.tx n).pn else 0)
  else if o = 8 then
    let scs := ((y.rx.filter (fun e => e.2.inUse)).map (fun e => e.1 / 4)).eraseDups.length
    scs * 256 + b2n y.stalled * 128 + b2n y.thresh * 64 + (n % 4) * 16 + (n / 4) * 4 + b2n y.cur.isSome * 2
      + b2n ((gsecy p k s).present == 1)
  else 0

/-- The registers of port `p` (12). -/
def portRead (p o : Nat) (s : State) : Nat :=
  let g := gport p s
  let n := lportCount g.mode
  let pn := Fin.ofNat 16 p
  if o = 0 then
    if !portsOn s then 0
    else
      maskOf n (fun k => (lport (partner p s) k s).xoff) * 2 ^ 16
        + maskOf n (fun k => (List.range 8).any (fun c => lportPaused (lport p k s) c s)) * 2 ^ 12 + maskOf n (fun k => (lport p k s).up) * 256
        + g.prot * 128 + g.outer * 64 + b2n (g.fwd == 1) * 32 + b2n (training p s) * 16 + g.mode
  else if o = 0x10 then disCtrl (.rxp pn) s
  else if o = 0x14 then disStat (.rxp pn) s
  else if o = 0x18 then disCtrl (.txp pn) s
  else if o = 0x1C then disStat (.txp pn) s
  else if o = 0x20 then
    if portsOn s then ((List.range n).map (fun k => min 255 ((lport p k s).fill * 256 / queueSize p s) * 256 ^ k)).sum else 0
  else if 0x40 ≤ o ∧ o < 0xC0 then secyRead p ((o - 0x40) / 32) ((o - 0x40) % 32) s
  else 0

/-- The LNK block (12). -/
def lnkRead (o : Nat) (s : State) : Nat :=
  if o = 0 ∨ o = 4 then
    if !portsOn s then 0
    else halfOf 0 o (((List.range 16).map (fun p =>
      let g := gport p s
      p * 256 ^ g.pair * (if g.outer = 1 then 16 else 1))).sum)
  else if 0x100 ≤ o ∧ o < 0x1100 then portRead ((o - 0x100) / 256) ((o - 0x100) % 256) s
  else 0

/-- The BRL block (15); the registers of a powered-down bough read 0 with OFF_ACCESS (03 R74). -/
def brlRead (o : Nat) (s : State) : Nat × State :=
  if 0x100 ≤ o ∧ o < 0x400 then
    let b := (o - 0x100) / 64
    if boughOff b s then (0, offAccess b s)
    else
      let e := eng b s
      let u := UnitId.burl (Fin.ofNat 12 b)
      let v := match (o - 0x100) % 64 with
        | 0 => disCtrl u s
        | 4 =>
          (e.ports.filter (fun p => !p.2.running)).length * 256 + b2n (e.ports.any (fun p => p.2.running)) * 16 + b2n e.fenced * 8
            + disStat u s
        | 8 => e.lastCode.toNat * 2 ^ 16 + e.lastOp * 256 + e.lastSub
        | _ => 0
      (v, s)
  else if o = 0 then (curveMask s, s)
  else if o = 8 then (s.brl.curveResult.toNat * 2 ^ 16 + s.brl.failedCheck * 256 + b2n s.brl.checking.isSome, s)
  else (0, s)

/-- The ATT block (19). -/
def attRead (o : Nat) (s : State) : Nat :=
  let x := s.att
  if o = 0 then b2n x.chain * 4 + b2n x.grove * 2
  else if o = 4 then x.result.toNat * 2 ^ 16 + x.present * 256 + b2n x.ready * 2 + b2n x.job.isSome
  else if o = 8 ∨ o = 0xC then halfOf 8 o x.addr.toNat
  else if o = 0x10 then x.len.toNat
  else if o = 0x14 then x.period.toNat
  else if 0x20 ≤ o ∧ o < 0x40 then (tget 0 x.nonce ((o - 0x20) / 4)).toNat
  else 0

/-- The GRV block (19) without the relay window. -/
def grvRead (o : Nat) (s : State) : Nat :=
  let x := s.grv
  if o = 0 then
    memberNo s * 2 ^ 20 + (if !inGrove s then 0 else if isCrown s then 1 else 2) * 2 ^ 14 + b2n x.relayTimeout * 128 + b2n x.isolated * 64
      + b2n (x.misE || x.misW) * 32 + b2n x.west * 16 + b2n x.east * 8
  else if o = 8 ∨ o = 0xC then halfOf 8 o (grvPresent s)
  else if o = 0x10 ∨ o = 0x14 then halfOf 0x10 o (maskOf 64 (fun m => x.lost.contains m))
  else if o = 0x20 ∨ o = 0x24 then halfOf 0x20 o x.handbackAt.toNat
  else if o = 0x28 then x.relaySel.toNat
  else 0

/-- The state number of a domain. -/
def CusState.num : CusState → Nat
  | .held => 0 | .select => 1 | .verify => 2 | .waitRelease => 3 | .running => 4 | .failed => 5 | .fenced => 6

/-- The registers of a domain (07, 09). -/
def cdomRead (d o : Nat) (s : State) : Nat :=
  let x := cdom d s
  let u := UnitId.custody (Fin.ofNat 32 d)
  match o with
  | 0 => disCtrl u s
  | 4 =>
    x.result.toNat * 2 ^ 16 + x.st.num * 2 ^ 12 + x.src * 2 ^ 10 + b2n x.sealed_ * 512 + b2n x.fallback * 256 + b2n x.pg * 128
      + disStat u s
  | 0xC => x.svn.toNat
  | 0x10 => cusFloor d s
  | 0x14 => min 65535 x.total * 2 ^ 16 + min 65535 x.accepted
  | 0x18 | 0x1C => halfOf 0x18 o x.seq.toNat
  | 0x20 => x.tRead.toNat
  | 0x24 => x.tVerify.toNat
  | 0x28 => x.upd.result.toNat * 2 ^ 16 + b2n x.upd.sigOk * 8 + b2n x.upd.target * 4 + x.upd.st
  | 0x2C => x.upd.bytes.length
  | _ => 0

/-- The CUS block (07, 09). -/
def cusRead (o : Nat) (s : State) : Nat :=
  let p := s.cus.push
  let k := s.cus.pushCtl
  if 0x100 ≤ o ∧ o < 0x900 then cdomRead ((o - 0x100) / 64) ((o - 0x100) % 64) s
  else if o = 0 then maskOf 32 (fun d => (cdom d s).st == .running)
  else if o = 4 then maskOf 32 (fun d => (cdom d s).alert)
  else if o = 0x10 then k.1 * 256 + b2n k.2.2 * 16 + b2n k.2.1 * 8
  else if o = 0x18 then p.result.toNat * 2 ^ 16 + p.state
  else if o = 0x1C then p.total * 2 ^ 16 + p.accepted
  else if 0x40 ≤ o ∧ o < 0xC0 then (tget 0 s.cus.floorSet ((o - 0x40) / 4)).toNat
  else 0

/-- A word of an event or record ring's registers (10 R280, 20 R514). -/
def ringRead (o : Nat) (r : DmaRing) : Nat :=
  if o = 0 ∨ o = 4 then halfOf 0 o r.base.toNat
  else if o = 8 then r.size * 16 + b2n r.sizeErr * 4 + b2n r.ptrErr * 2 + b2n r.en
  else if o = 0x10 ∨ o = 0x14 then halfOf 0x10 o r.prod
  else if o = 0x18 ∨ o = 0x1C then halfOf 0x18 o r.cons
  else 0

/-- The TEL block (20): live counters from 0x10_0000, each at the instant of the read. -/
def telRead (o : Nat) (s : State) : Nat :=
  let q := s.tel.quotaReg
  if 0x100000 ≤ o ∧ o < 0x200000 then halfOf 0 (o % 8) (tget 0 s.tel.ctr ((o - 0x100000) / 8 * 8)).toNat
  else if o < 0x20 then ringRead o s.tel.pf1.reg
  else if o = 0x20 ∨ o = 0x24 then halfOf 0x20 o (q.order * 2 ^ 32 + q.fault * 2 ^ 16 + q.secure)
  else if o = 0x28 ∨ o = 0x2C then halfOf 0x28 o (q.info * 2 ^ 32 + q.link * 2 ^ 16 + q.canopy)
  else if o = 0x40 then b2n s.tel.alarmOverflow * 256 + s.tel.alarm.length
  else if 0x80 ≤ o ∧ o < 0xC0 then
    match s.tel.alarm with
    | e :: _ => leNat (slice (e.bytes false) (o - 0x80) 4)
    | [] => 0
  else 0

/-- A 32-bit word of BAR2 (00 R13), with the read's own effect on the state. -/
def bar2Word (a : Nat) (s : State) : Nat × State :=
  let at_ := fun (b n : Nat) => decide (b ≤ a ∧ a < b + n)
  if at_ 0x00000 0x1000 then (tapRead a s, s)
  else if at_ 0x10000 0x10000 then hlwRead (a - 0x10000) s
  else if at_ 0x20000 0x8000 then keyRead (a - 0x20000) s
  else if at_ 0x28000 0x1000 then entRead (a - 0x28000) s
  else if at_ 0x30000 0x8000 then (lcyRead false (a - 0x30000) s, s)
  else if at_ 0x38000 0x2000 then (tmpRead (a - 0x38000) s, s)
  else if at_ 0x40000 0x1000 then (fltRead (a - 0x40000) s, s)
  else if at_ 0x41000 0x1000 then (kpfRead (a - 0x41000) s, s)
  else if at_ 0x42000 0x2000 then (cnpRead (a - 0x42000) s, s)
  else if at_ 0x44000 0x2000 then (lnkRead (a - 0x44000) s, s)
  else if at_ 0x46000 0x2000 then brlRead (a - 0x46000) s
  else if at_ 0x48000 0x1000 then (attRead (a - 0x48000) s, s)
  else if at_ 0x49000 0x1000 then sltRead (a - 0x49000) s
  else if at_ 0x4A000 0x1000 then (nrgRead (a - 0x4A000) s, s)
  else if at_ 0x60000 0x10000 then (grvRead (a - 0x60000) s, s)
  else if at_ 0x100000 0x100000 then (cusRead (a - 0x100000) s, s)
  else if at_ 0x200000 0x200000 then (telRead (a - 0x200000) s, s)
  else (0, s)

/-- A 64-bit access reaches two registers of one powered-down bough: one access, one event (03 R74). -/
def offWide (a : Nat) (s : State) : Bool := decide (0x46100 ≤ a ∧ a < 0x46400) && a % 64 != 60 && boughOff ((a - 0x46100) / 64) s

/-- A read of BAR2: 32 bits, or 64 bits at one instant (02 R40). -/
def bar2Read (a : Nat) (wide : Bool) (s : State) : W64 × State :=
  let a := a / 4 * 4
  if wide && a == 0x49000 then
    let r := readVia (sltNowReadS true) s
    (BitVec.ofNat 64 r.1, r.2)
  else if wide && offWide a s then (0, (bar2Word a s).2)
  else
    let lo := bar2Word a s
    if wide then
      let hi := bar2Word (a + 4) lo.2
      (BitVec.ofNat 64 (hi.1 * 2 ^ 32 + lo.1), hi.2)
    else (BitVec.ofNat 64 lo.1, lo.2)

/-- A ring-mark bank (20 R507): tags, HEADER, and each counter that it holds. -/
def bankRead (b : MarkBank) (o : Nat) : Nat :=
  if o < 8 then halfOf 0 o b.lead.toNat
  else if o < 0x10 then halfOf 8 o (b2n b.provisional + 2 * b.state + b.stale.toNat * 2 ^ 16)
  else if 0xFFFF8 ≤ o then halfOf 0xFFFF8 o b.trail.toNat
  else if o < 0x100 then 0
  else halfOf 0 (o % 8) (tget 0 b.ctr (o / 8 * 8)).toNat

/-- A 32-bit word of BAR0 (00 R13), with the read's own effect on the state. Before the first installation only the identity and status
region and the push window read anything but 0 (04 R99). -/
def bar0Get (a : Nat) (s : State) : Nat × State :=
  if a < 0x1000 then (identWord a s, s)
  else if a < 0x2000 then sltRead (a - 0x1000) s
  else if a < 0x3000 then (nrgRead (a - 0x2000) s, s)
  else if 0x1000000 ≤ a ∧ a < 0x2000000 then
    (leNat (slice (pushFrame s.grn.push false (a / 65536 % 256)).data (a % 65536) 4), s)
  else if !s.grn.installed then (0, s)
  else if 0x101000 ≤ a ∧ a < 0x104000 then chanRead false ((a - 0x100000) / 256) (a % 256) s
  else if a = 0x104004 then (s.hlw.pend0.toNat, s)
  else if 0x200000 ≤ a ∧ a < 0x300000 then (bankRead s.slt.bank0 (a - 0x200000), s)
  else if 0x300000 ≤ a ∧ a < 0x400000 then (bankRead s.slt.bank1 (a - 0x300000), s)
  else if 0x400000 ≤ a ∧ a < 0x400400 then (ringRead (a % 64) (chanAt ((a - 0x400000) / 64) s).ring, s)
  else if 0x400800 ≤ a ∧ a < 0x400820 then (ringRead (a - 0x400800) s.cnp.dlqReg, s)
  else if 0x400C00 ≤ a ∧ a < 0x400C20 then (ringRead (a - 0x400C00) s.tel.pf0.reg, s)
  else (0, s)

/-- A read of BAR0 by PF0: 32 bits, or 64 bits at one instant. No row of the command table reads a register that has no behaviour of its
own: this is what such a read returns. -/
def bar0Read (a : Nat) (wide : Bool) (s : State) : W64 × State :=
  let a := a / 4 * 4
  if wide && a == 0x1000 then
    let r := readVia (sltNowReadS true) s
    (BitVec.ofNat 64 r.1, r.2)
  else
    let lo := bar0Get a s
    if wide then
      let hi := bar0Get (a + 4) lo.2
      (BitVec.ofNat 64 (hi.1 * 2 ^ 32 + lo.1), hi.2)
    else (BitVec.ofNat 64 lo.1, lo.2)

end Sys2Proof.Machine
end

