-- ==== Sys2Proof/Machine/RegWrite.lean ====
section
/-!
DEFINITION. Machine/RegWrite.lean: register writes of the host by address (00_scope.md R7-R9, R13, R553; 04 R99; 03 R74), and the
register accesses that the crown relays over the ring (19 R500). A write that starts an operation starts the operation of its row.
-/
namespace Sys2Proof.Machine

/-- The value that a write leaves in a 64-bit register at offset `b`: whole, or one half replaced. -/
def merge64 (b o : Nat) (wide : Bool) (old v : Nat) : Nat :=
  if wide then v % 2 ^ 64
  else if o = b then old / 2 ^ 32 * 2 ^ 32 + v % 2 ^ 32
  else v % 2 ^ 32 * 2 ^ 32 + old % 2 ^ 32

/-- Offset `o` lies in the 64-bit register at `b`. -/
def in64 (b o : Nat) : Bool := o == b || o == b + 4

/-- A W1C bit after a write. -/
def w1c (old : Bool) (v i : Nat) : Bool := old && !bitOf v i

/-! ### Blocks of both functions -/

/-- SLT (02). HOLD of SLT_MARK_CMD acts before GO of the same write is judged: the spec gives no order (log entry 18). -/
def sltWrite (o : Nat) (wide : Bool) (v : Nat) (s : State) : State :=
  if o = 8 then { s with slt := { s.slt with stepped := w1c s.slt.stepped v 4 } }
  else if o = 0x20 then sltMarkCtrlWriteS (BitVec.ofNat 32 v) s
  else if in64 0x28 o then { s with slt := { s.slt with markAt := BitVec.ofNat 64 (merge64 0x28 o wide s.slt.markAt.toNat v) } }
  else if o = 0x30 then
    let s := if bitOf v 1 = s.slt.hold then s else markHoldS (bitOf v 1) s
    if bitOf v 0 then markGoS s else s
  else s

/-- NRG (03). -/
def nrgWrite (pf1 : Bool) (o : Nat) (wide : Bool) (v : Nat) (s : State) : State :=
  if o = 0 then
    { s with nrg := { s.nrg with
      offAccess := w1c s.nrg.offAccess v 6, c1Overdue := w1c s.nrg.c1Overdue v 5, overBudget := w1c s.nrg.overBudget v 4 } }
  else if in64 8 o then
    let w := merge64 8 o wide (b2n s.nrg.hostEn * 2 ^ 63 + s.nrg.hostUj.toNat) v
    budgetHostWriteS pf1 (bitOf w 63) (BitVec.ofNat 48 w) s
  else s

/-- A channel block (16). -/
def chanWrite (pf1 : Bool) (c o v : Nat) (s : State) : State :=
  if o = 0x40 then (if bitOf v 0 then hollowSendS pf1 c s else s)
  else if o = 0x4C then rxAckS pf1 c (BitVec.ofNat 16 v) (BitVec.ofNat 16 (v / 2 ^ 16)) s
  else hostChan pf1 false c (modHchan c (fun x =>
    if o < 0x40 then { x with tx := mwrite 0 x.tx o (leBytes 4 v) }
    else if o = 0x90 then
      { x with
        fAborted := w1c x.fAborted v 9, fClosed := w1c x.fClosed v 8, fDead := w1c x.fDead v 7, fFull := w1c x.fFull v 6,
        fAckErr := w1c x.fAckErr v 5, fCollision := w1c x.fCollision v 4, fEarly := w1c x.fEarly v 3 }
    else x)) s

/-! ### Blocks of PF1 -/

/-- The configuration of a channel (16 R428): OPEN opens or closes it, and the other fields take a write only while it is closed
(R436). -/
def chanCfgWrite (c o v : Nat) (s : State) : State :=
  if o = 0 then
    if bitOf v 31 then channelOpenS c (BitVec.ofNat 32 v) s
    else if (hchan c s).open_ then channelCloseS c s
    else modHchan c (hCfg (BitVec.ofNat 32 v)) s
  else if (hchan c s).open_ then s
  else if o = 4 then modHchan c (fun x => { x with timeoutMs := bitsOf v 31 16, area := bitsOf v 9 0 }) s
  else if o = 8 then
    modHchan c (fun x => { x with
      rxEn := bitOf v 15, knockRx := bitsOf v 12 8, ackEn := bitOf v 7, knockAck := bitsOf v 4 0 }) s
  else s

/-- The HLW block (16). -/
def hlwWrite (o v : Nat) (s : State) : State :=
  if o < 0x1000 then chanWrite true (o / 256) (o % 256) v s
  else if 0x4000 ≤ o ∧ o < 0x4400 then chanCfgWrite ((o - 0x4000) / 16) (o % 16) v s
  else if 0x5000 ≤ o ∧ o < 0x5080 then
    { s with hlw := { s.hlw with
      knock := tset {} s.hlw.knock ((o - 0x5000) / 4) { secure := bitOf v 10, target := bitsOf v 9 8, leaf := bitsOf v 7 0 } } }
  else if o = 0x5100 then knockRingS true (BitVec.ofNat 32 v) s
  else if o = 0x5104 then { s with hlw := { s.hlw with pend1 := s.hlw.pend1 &&& ~~~(BitVec.ofNat 32 v) } }
  else s

/-- KEY_CMD (05): an OP that its table does not list starts nothing (00 R553). -/
def keyCmdWrite (t v : Nat) (s : State) : State :=
  let slot := bitsOf v 27 16
  match v % 256 with
  | 1 => keyOp (keyInstall true slot) s
  | 2 => keyOp (keyInstall false slot) s
  | 3 => keyOp (keyReplaceS (bitOf v 8) slot) s
  | 4 => keyOp (keyExportCmd slot) s
  | 5 => keyOp (keyEraseSlotS slot) s
  | 6 => keyOp (keyEraseAllS t) s
  | 7 => keyOp (keyInfoS slot) s
  | 8 => keyOp (rcvChallengeCmd t) s
  | 9 => keyOp rcvOpenS s
  | _ => s

/-- The KEY block (05). -/
def keyWrite (t o : Nat) (wide : Bool) (v : Nat) (s : State) : State :=
  let x := s.vault
  if o = 0 then keyCmdWrite t v s
  else if in64 8 o then { s with vault := { x with arg := BitVec.ofNat 64 (merge64 8 o wide x.arg.toNat v) } }
  else if o = 0x10 then { s with vault := { x with expectKcv := bitsOf v 31 8 } }
  else if o = 0x14 then { s with vault := { x with wrap := BitVec.ofNat 12 v } }
  else if o = 0x18 then { s with vault := { x with twice := w1c x.twice v 3, early := w1c x.early v 2 } }
  else if 0x1000 ≤ o ∧ o < 0x5000 then
    { s with vault := { x with
      buf := mwrite 0 x.buf (o - 0x1000) (leBytes 4 v), bufRead := tset false x.bufRead ((o - 0x1000) / 4) false } }
  else s

/-- The ENT block (06). -/
def entWrite (o v : Nat) (s : State) : State :=
  let x := s.ent
  if o = 0 then
    { s with ent := { x with
      failed := x.failed &&& ~~~(BitVec.ofNat 4 (v / 256)), twice := w1c x.twice v 3, early := w1c x.early v 2 } }
  else if o = 4 then
    if bitOf v 0 then entRequestS (BitVec.ofNat 4 (v / 2)) s
    else { s with ent := { x with words := BitVec.ofNat 4 (v / 2) } }
  else s

/-- The TMP block (18). -/
def tmpWrite (t o v : Nat) (s : State) : State :=
  if o = 8 then modTmp (fun x => { x with incident := x.incident &&& ~~~(BitVec.ofNat 16 v) }) s
  else if o = 0x18 then
    if bitOf v 16 then stimGoS (BitVec.ofNat 16 v) s else modTmp (fun x => { x with stimMask := BitVec.ofNat 16 v }) s
  else if o = 0x20 then
    let s := if bitOf v 0 then disableChallengeS t s else s
    if bitOf v 1 then disableRequestS t s else s
  else if 0x1000 ≤ o ∧ o < 0x2000 then modTmp (fun x => { x with buf := mwrite 0 x.buf (o - 0x1000) (leBytes 4 v) }) s
  else s

/-- The FLT block (08). -/
def fltWrite1 (o v : Nat) (s : State) : State :=
  if 0x100 ≤ o ∧ o < 0x900 then
    let d := (o - 0x100) / 64
    match (o - 0x100) % 64 with
    | 0 => modFlt d (fun f => { f with early := w1c f.early v 3, underrun := w1c f.underrun v 2 }) s
    | 0x14 => if bitOf v 0 then bootEnd d s else s
    | _ => s
  else s

/-- A control word of a disable group: EN and MODE (01 R24, R29, R30). -/
def disCtrlWrite (u : UnitId) (v : Nat) (s : State) : State :=
  if bitOf v 0 then disEnable u (bitOf v 2) s else disStart u (bitOf v 2) s
/-- A write of its status word. -/
def disStatWrite (u : UnitId) (v : Nat) (s : State) : State := modDis u (fun d => { d with escalated := w1c d.escalated v 1 }) s

/-- CNP_CTX_CMD (10 R288). -/
def ctxCmdWrite (v : Nat) (s : State) : State :=
  let op := match bitsOf v 25 24 with | 0 => 4 | n => n
  ctxCommand op (bitOf v 23) (bitsOf v 21 0) s

/-- The CNP block (10, 11). -/
def cnpWrite (o : Nat) (wide : Bool) (v : Nat) (s : State) : State :=
  if 0x1000 ≤ o ∧ o < 0x1600 then
    let u := UnitId.lane (Fin.ofNat 192 ((o - 0x1000) / 8))
    if o % 8 = 0 then disCtrlWrite u v s else disStatWrite u v s
  else if in64 8 o then modCnp (fun c => { c with rekeyAt := BitVec.ofNat 64 (merge64 8 o wide c.rekeyAt.toNat v) }) s
  else if in64 0x18 o then modCnp (fun c => { c with imgAddr := BitVec.ofNat 64 (merge64 0x18 o wide c.imgAddr.toNat v) }) s
  else if o = 0x20 then
    let s := if bitOf v 2 then imageSkipS s else s
    let s := if bitOf v 1 then imageRestoreS s else s
    if bitOf v 0 then imgExport s else s
  else if o = 0x30 then ctxCmdWrite v s
  else s

/-- The LNK block (12). -/
def lnkWrite (o v : Nat) (s : State) : State :=
  if 0x100 ≤ o ∧ o < 0x1100 then
    let p := Fin.ofNat 16 ((o - 0x100) / 256)
    match (o - 0x100) % 256 with
    | 0x10 => disCtrlWrite (.rxp p) v s
    | 0x14 => disStatWrite (.rxp p) v s
    | 0x18 => disCtrlWrite (.txp p) v s
    | 0x1C => disStatWrite (.txp p) v s
    | _ => s
  else s

/-- BRL_CURVE_CMD (15): an OP that its table does not list starts nothing (00 R553). -/
def curveCmdWrite (v : Nat) (s : State) : State :=
  match v % 4 with
  | 1 => curveLoadS s
  | 2 => curveUnloadS (bitsOf v 11 8) s
  | _ => s

/-- The BRL block (15); a write for a powered-down bough is discarded with OFF_ACCESS (03 R74). -/
def brlWrite (o v : Nat) (s : State) : State :=
  if 0x100 ≤ o ∧ o < 0x400 then
    let b := (o - 0x100) / 64
    let u := UnitId.burl (Fin.ofNat 12 b)
    if boughOff b s then offAccess b s
    else match (o - 0x100) % 64 with
      | 0 => disCtrlWrite u v s
      | 4 => disStatWrite u v s
      | _ => s
  else if o = 4 then curveCmdWrite v s
  else if 0x1000 ≤ o ∧ o < 0x11C0 then { s with brl := { s.brl with buf := mwrite 0 s.brl.buf (o - 0x1000) (leBytes 4 v) } }
  else s

/-- The ATT block (19). -/
def attWrite (t o : Nat) (wide : Bool) (v : Nat) (s : State) : State :=
  if o = 0 then
    if bitOf v 0 then attGoS t (bitOf v 1) (bitOf v 2) s else modAtt (fun a => { a with grove := bitOf v 1, chain := bitOf v 2 }) s
  else if in64 8 o then modAtt (fun a => { a with addr := BitVec.ofNat 64 (merge64 8 o wide a.addr.toNat v) }) s
  else if o = 0x10 then modAtt (fun a => { a with len := BitVec.ofNat 32 v }) s
  else if o = 0x14 then modAtt (fun a => { a with period := BitVec.ofNat 32 v }) s
  else if 0x20 ≤ o ∧ o < 0x40 then modAtt (fun a => { a with nonce := tset 0 a.nonce ((o - 0x20) / 4) (BitVec.ofNat 32 v) }) s
  else s

/-- The GRV block (19) with its relay window. -/
def grvWrite (t o : Nat) (wide : Bool) (v : Nat) (s : State) : State :=
  if 0x10000 ≤ o then grvRelayAccessS t (o - 0x10000) wide (some (BitVec.ofNat 64 v)) s
  else if o = 0 then modGrv (fun g => { g with relayTimeout := w1c g.relayTimeout v 7 }) s
  else if o = 0x18 then (if bitOf v 0 then forceTakeoverS (bitsOf v 13 8) s else s)
  else if in64 0x20 o then handbackAtWriteS (BitVec.ofNat 64 (merge64 0x20 o wide s.grv.handbackAt.toNat v)) s
  else if o = 0x28 then modGrv (fun g => { g with relaySel := BitVec.ofNat 32 v &&& 0xFC00FFFF }) s
  else s

/-- CUS_PUSH_CTRL (09 R230): ABORT acts before START in one write. -/
def cusPushCtrl (t v : Nat) (s : State) : State :=
  let s := modCus (fun c => { c with pushCtl := (bitsOf v 12 8, bitOf v 3, bitOf v 4) }) s
  let s := if bitOf v 1 then custodyPushAbortS s else s
  if bitOf v 0 then custodyPushStartS t (bitsOf v 12 8) (bitOf v 3) (bitOf v 4) s else s

/-- The registers of a domain (07, 09); CLOSE acts before OPEN in one write. -/
def cdomWrite (t d o v : Nat) (s : State) : State :=
  let u := UnitId.custody (Fin.ofNat 32 d)
  match o with
  | 0 => disCtrlWrite u v s
  | 4 => disStatWrite u v s
  | 8 =>
    let s := if bitOf v 1 then custodyRaiseFloorS d s else s
    if bitOf v 0 then custodyRebootS t d s else s
  | 0x30 =>
    let s := if bitOf v 1 then updateCloseS t d s else s
    if bitOf v 0 then updateOpenS t d (bitOf v 2) s else s
  | _ => s

/-- The CUS block (07, 09). -/
def cusWrite (t o v : Nat) (s : State) : State :=
  if 0x80000 ≤ o then cusPushWrite (o - 0x80000) (leBytes 4 v) s
  else if 0x100 ≤ o ∧ o < 0x900 then cdomWrite t ((o - 0x100) / 64) ((o - 0x100) % 64) v s
  else if o = 0x10 then cusPushCtrl t v s
  else if o = 0x14 then custodyPushPostS t (bitsOf v 28 17) (bitsOf v 16 0) s
  else if 0x40 ≤ o ∧ o < 0xC0 then
    if s.vault.window.isSome then modCus (fun c => { c with floorSet := tset 0 c.floorSet ((o - 0x40) / 4) (BitVec.ofNat 32 v) }) s else s
  else if o = 0xC0 then (if bitOf v 0 then floorSetGoS s else s)
  else s

/-- BASE of a ring. -/
def ringBaseWrite (r : RingId) (f : W64 → W64) (s : State) : State :=
  match r with
  | .record c => modChan c.val (fun x => { x with ring := { x.ring with base := f x.ring.base } }) s
  | .dlq => modCnp (fun n => { n with dlqReg := { n.dlqReg with base := f n.dlqReg.base } }) s
  | .pf1 => setEvRing true { s.tel.pf1 with reg := { s.tel.pf1.reg with base := f s.tel.pf1.reg.base } } s
  | .pf0 => setEvRing false { s.tel.pf0 with reg := { s.tel.pf0.reg with base := f s.tel.pf0.reg.base } } s

/-- A ring's registers. -/
def ringReg (r : RingId) (s : State) : DmaRing :=
  match r with
  | .record c => (chanAt c.val s).ring
  | .dlq => s.cnp.dlqReg
  | .pf1 => s.tel.pf1.reg
  | .pf0 => s.tel.pf0.reg

/-- A write of a ring's registers (10 R276, R280; 20 R514). -/
def ringWrite (r : RingId) (o : Nat) (wide : Bool) (v : Nat) (s : State) : State :=
  if in64 0 o then ringBaseWrite r (fun b => BitVec.ofNat 64 (merge64 0 o wide b.toNat v)) s
  else if o = 8 then ringCtrlWriteS r (BitVec.ofNat 32 v) s
  else if in64 0x10 o then
    if r = .dlq then dlqProdWriteS (BitVec.ofNat 64 (merge64 0x10 o wide (ringReg r s).prod v)) s else s
  else if in64 0x18 o then ringConsWriteS r (BitVec.ofNat 64 (merge64 0x18 o wide (ringReg r s).cons v)) s
  else s

/-- The TEL block (20). -/
def telWrite (o : Nat) (wide : Bool) (v : Nat) (s : State) : State :=
  let q := s.tel.quotaReg
  if o < 0x20 then ringWrite .pf1 o wide v s
  else if in64 0x20 o then
    let w := merge64 0x20 o wide (q.order * 2 ^ 32 + q.fault * 2 ^ 16 + q.secure) v
    { s with tel := { s.tel with quotaReg := { q with secure := bitsOf w 15 0, fault := bitsOf w 31 16, order := bitsOf w 47 32 } } }
  else if in64 0x28 o then
    let w := merge64 0x28 o wide (q.info * 2 ^ 32 + q.link * 2 ^ 16 + q.canopy) v
    { s with tel := { s.tel with quotaReg := { q with canopy := bitsOf w 15 0, link := bitsOf w 31 16, info := bitsOf w 47 32 } } }
  else if o = 0x44 then (if bitOf v 0 then alarmPopS s else s)
  else s

/-- Registers of BAR2 that a 64-bit write reaches as one. -/
def wide2 (a : Nat) : Bool :=
  [0x20008, 0x42008, 0x42018, 0x48008, 0x49028, 0x4A008, 0x60020, 0x200000, 0x200010, 0x200018, 0x200020, 0x200028].contains a
    || (decide (0x70000 ≤ a) && decide (a < 0x80000))

/-- A write of BAR2 (00 R13): the low 32 bits of `v`, or all 64 where the register takes them as one. -/
def bar2Word1 (t a : Nat) (wide : Bool) (v : Nat) (s : State) : State :=
  let at_ := fun (b n : Nat) => decide (b ≤ a ∧ a < b + n)
  let w := v % 2 ^ 32
  if a = 0 then (if bitOf v 0 then sleepEnterS t s else s)
  else if at_ 0x10000 0x10000 then hlwWrite (a - 0x10000) w s
  else if at_ 0x20000 0x8000 then keyWrite t (a - 0x20000) wide v s
  else if at_ 0x28000 0x1000 then entWrite (a - 0x28000) w s
  else if at_ 0x30000 0x8000 then lcyWrite false t (a - 0x30000) (BitVec.ofNat 32 v) s
  else if at_ 0x38000 0x2000 then tmpWrite t (a - 0x38000) w s
  else if at_ 0x40000 0x1000 then fltWrite1 (a - 0x40000) w s
  else if at_ 0x42000 0x2000 then cnpWrite (a - 0x42000) wide v s
  else if at_ 0x44000 0x2000 then lnkWrite (a - 0x44000) w s
  else if at_ 0x46000 0x2000 then brlWrite (a - 0x46000) w s
  else if at_ 0x48000 0x1000 then attWrite t (a - 0x48000) wide v s
  else if at_ 0x49000 0x1000 then sltWrite (a - 0x49000) wide v s
  else if at_ 0x4A000 0x1000 then nrgWrite true (a - 0x4A000) wide v s
  else if at_ 0x60000 0x20000 then grvWrite t (a - 0x60000) wide v s
  else if at_ 0x100000 0x100000 then cusWrite t (a - 0x100000) w s
  else if at_ 0x200000 0x100000 then telWrite (a - 0x200000) wide v s
  else s

/-- A write of BAR2 of 32 or 64 bits. A 64-bit write over two 32-bit registers acts as two, the lower address first: the spec does not
say (log entry 41). -/
def bar2Write (t a : Nat) (wide : Bool) (v : Nat) (s : State) : State :=
  let a := a / 4 * 4
  if wide && offWide a s then bar2Word1 t a false (v % 2 ^ 32) s
  else if wide && !wide2 a then bar2Word1 t (a + 4) false (v / 2 ^ 32) (bar2Word1 t a false (v % 2 ^ 32) s)
  else bar2Word1 t a wide v s

/-- Registers of BAR0 that a 64-bit write reaches as one. -/
def wide0 (a : Nat) : Bool :=
  [0x1028, 0x2008].contains a || (decide (0x400000 ≤ a) && decide (a < 0x401000) && [0, 0x10, 0x18].contains (a % 0x20))

/-- A write of BAR0 (00 R13): before the first installation only the identity and status region and the push window decode (04 R99). -/
def bar0Word (a : Nat) (wide : Bool) (v : Nat) (s : State) : State :=
  let w := v % 2 ^ 32
  if a < 0x1000 then identWrite false a w s
  else if 0x1000000 ≤ a ∧ a < 0x2000000 then pushFrameWriteS (a / 65536 % 256) (a % 65536) (leBytes (if wide then 8 else 4) v) s
  else if a < 0x2000 then sltWrite (a - 0x1000) wide v s
  else if a < 0x3000 then nrgWrite false (a - 0x2000) wide v s
  else if !s.grn.installed then s
  else if 0x101000 ≤ a ∧ a < 0x104000 then chanWrite false ((a - 0x100000) / 256) (a % 256) w s
  else if a = 0x104000 then knockRingS false (BitVec.ofNat 32 v) s
  else if a = 0x104004 then { s with hlw := { s.hlw with pend0 := s.hlw.pend0 &&& ~~~(BitVec.ofNat 32 v) } }
  else if 0x400000 ≤ a ∧ a < 0x400400 then ringWrite (.record (Fin.ofNat 16 ((a - 0x400000) / 64))) (a % 64) wide v s
  else if 0x400800 ≤ a ∧ a < 0x400820 then ringWrite .dlq (a - 0x400800) wide v s
  else if 0x400C00 ≤ a ∧ a < 0x400C20 then ringWrite .pf0 (a - 0x400C00) wide v s
  else s

/-- A write of BAR0 of 32 or 64 bits. -/
def bar0Write (a : Nat) (wide : Bool) (v : Nat) (s : State) : State :=
  let a := a / 4 * 4
  if wide && !wide0 a && !decide (0x1000000 ≤ a) then bar0Word (a + 4) false (v / 2 ^ 32) (bar0Word a false (v % 2 ^ 32) s)
  else bar0Word a wide v s

/-- REGISTER_WRITE (00 R7-R9, R13; 04 R99): a write by PF0 to BAR0, or by PF1, while it is present, to BAR2. -/
def registerWriteS (t : Nat) (pf1 : Bool) (a : Nat) (wide : Bool) (v : Nat) (s : State) : State :=
  let s := atTime t s
  if pf1 then (if s.boot.pf1 then bar2Write t a wide v s else s) else bar0Write a wide v s

/-- Meaning of REGISTER_WRITE. -/
def execRegisterWrite (t : Nat) (pf1 : Bool) (a : BitVec 32) (wide : Bool) (v : BitVec 64) (s : State) :
    Host.Outcome State Fault Refusal := act (registerWriteS t pf1 a.toNat wide v.toNat) s

/-- The OP that the register's table lists (00 R553). -/
def opListed (r : CmdReg) (v : Nat) : Bool :=
  match r with
  | .key => decide (1 ≤ v % 256 ∧ v % 256 ≤ 9)
  | .lcy => decide (1 ≤ v % 256 ∧ v % 256 ≤ 5)
  | .curve => v % 4 == 1 || v % 4 == 2

/-- A write of a command register by PF1. -/
def cmdWrite (t : Nat) (r : CmdReg) (v : Nat) (s : State) : State :=
  match r with
  | .key => keyCmdWrite t v s
  | .lcy => lcyWrite false t 4 (BitVec.ofNat 32 v) s
  | .curve => curveCmdWrite v s

/-- UNDEFINED_OP_WRITE (00 R553): an OP that the table does not list starts nothing. A listed one belongs to its own row. -/
def undefinedOpWriteS (t : Nat) (r : CmdReg) (v : Nat) (s : State) : State :=
  if opListed r v then s else pf1Do (cmdWrite t r v) s

/-- Meaning of UNDEFINED_OP_WRITE. -/
def execUndefinedOpWrite (t : Nat) (r : CmdReg) (v : BitVec 32) (s : State) : Host.Outcome State Fault Refusal :=
  act (undefinedOpWriteS t r v.toNat) s

/-! ### Accesses that the crown relays (19 R500) -/

/-- A relayed access acts as PF1 of a member whose Grain grants PF1, host link or not (log entry 33). -/
def asPf1 {α : Type} (f : State → α × State) (d : α) (s : State) : α × State :=
  if s.boot.pf1 then f s
  else if s.grn.installed && s.grn.grain.pf1 == 1 then
    let r := f { s with boot := { s.boot with pf1 := true } }
    (r.1, { r.2 with boot := { r.2.boot with pf1 := false } })
  else (d, s)

/-- The access and its answer's value. -/
def relayAccess (t a : Nat) (wide : Bool) (w : Option W64) (s : State) : W64 × State :=
  match w with
  | none => bar2Read a wide s
  | some v =>
    let r := bar2Write t a wide v.toNat { s with out := [] }
    (0, { r with out := s.out ++ r.out.filter (fun o => !busOutput o) })

/-- REG_REQ (R500): the access acts on this member's BAR2 and is answered. -/
def ringRegReqS (t : Nat) (east : Bool) (f : RingFrame) (s : State) : State :=
  ringRx t east f 14 (fun s => match f.body with
    | .regReq a wide w =>
      let r := asPf1 (relayAccess t a.toNat wide w) 0 s
      ringTo f.src.toNat (.regResp r.1) r.2
    | _ => s) s

/-- Meaning of REG_REQ. -/
def execRingRegReq (t : Nat) (east : Bool) (f : RingFrame) (s : State) : Host.Outcome State Fault Refusal :=
  act (ringRegReqS t east f) s

end Sys2Proof.Machine
end

