-- ==== Sys2Proof/Machine/Waits.lean ====
section
/-!
DEFINITION. Machine/Waits.lean: requests that wait for random output, and what a conditioned block, a new instance and the end of 10 ms do to
them (06_entropy_and_check_units.md R148-R154).
-/
namespace Sys2Proof.Machine

/-- A waiting request tried again, with the time at which it began to wait. -/
def entTryAgain (e : EntReq × Nat) (s : State) : State :=
  let s : State := { s with ent := { s.ent with waited := some e.2 } }
  let s := match e.1 with
    | .rcvChallenge => orWait e.1 rcvChallengeS s
    | .keyExport n => orWait e.1 (keyExportS n) s
    | .disChallenge => disChallengeDraw s
    | .report => attBuild s
    | .evidence m n c => orWait e.1 (evidenceTry m n c) s
    | .spdm p false m => orWait e.1 (spdmServe p m) s
    | .spdm p true b => orWait e.1 (spdmServeSecured p b) s
  { s with ent := { s.ent with waited := none } }

/-- Every waiting request tried again, in the order in which they came. -/
def entReplay (s : State) : State := foldS entTryAgain s.ent.waits { s with ent := { s.ent with waits := [] } }

/-- CONDITIONED_BLOCK (R148-R153): the block goes to what has waited for it. -/
def conditionedBlockS (t : Nat) (samples : Bytes) (s : State) : State := entReplay (retryFuses (conditionBlock t samples s))

/-- Meaning of CONDITIONED_BLOCK. -/
def execConditionedBlock (t : Nat) (samples : Bytes) (s : State) : Host.Outcome State Fault Refusal :=
  act (conditionedBlockS t samples) s

/-- DRBG_INSTANTIATE (R150, R153): requests that waited for the instance are served. -/
def drbgInstantiateS (t i : Nat) (s : State) : State := entReplay (retryFuses (drbgInstantiate t i s))

/-- Meaning of DRBG_INSTANTIATE. -/
def execDrbgInstantiate (t : Nat) (i : Fin 5) (s : State) : Host.Outcome State Fault Refusal := act (drbgInstantiateS t i.val) s

/-- When the requests that wait began to. -/
def waitStarts (s : State) : List Nat := (if s.ent.running then [s.ent.since] else []) ++ s.ent.waits.map (·.2)

/-- ENT_STARVED_TIMEOUT (R152): the request that has waited longest has done so for 10 ms, and ends with ENT_STARVED. -/
def entStarvedTimeoutS (s : State) : State :=
  match waitStarts s with
  | [] => s
  | t :: l => entReplay (hostStarved (atTime (l.foldl min t + 10 * psMs) s))

/-- Meaning of ENT_STARVED_TIMEOUT. -/
def execEntStarvedTimeout (s : State) : Host.Outcome State Fault Refusal := act entStarvedTimeoutS s

end Sys2Proof.Machine
end

