-- ==== Sys2Proof/Machine/Work.lean ====
section
/-!
DEFINITION. Machine/Work.lean: the work that the energy ledger admits (03_energy_ledger.md R67-R71) and what an admitted job does: a periodic
attestation round (19 R492), a compaction of the journal (09 R239), a stored Grain (04 R107), a mirror's copy (09 R234), a mission log page
(21 R546), a rewrap of key records (05 R140) and an early reseed (06 R151).
-/
namespace Sys2Proof.Machine

/-- An admitted job that has not begun does its work. A stored Grain, a rewrap and an export go on with their own commands; an early
reseed without a conditioned block is shed (log entry 36). -/
def jobStart (a : JobAct) (s : State) : State :=
  if !jobReady a s then s
  else match a with
    | .attest => attRound s
    | .compact => jobDone .compact (compactStep (jobBegin .compact s))
    | .copyBack => copyBegin (jobBegin .copyBack s)
    | .log => keepNext (jobBegin .log s)
    | .reseed i =>
      let s := jobDone (.reseed i) s
      (drbgReseedNow i s).getD s
    | .none | .store | .rewrap | .imgExport => s

/-- An admission point (R69), and the work of what it admits. -/
def admitNow (s : State) : State :=
  let s := admissionPoint s
  foldS jobStart (s.nrg.admitted.map Job.act) s

/-- A job of the act waits or is admitted. -/
def jobStands (a : JobAct) (s : State) : Bool := (s.nrg.jobs ++ s.nrg.admitted).any (fun j => j.act == a)

/-- The device submits a job of its own, unless one of the act stands already. -/
def jobAsk (c2 : Bool) (a : JobAct) (kind : Nat) (s : State) : State :=
  admitNow (if jobStands a s then s else queueJobAs c2 a kind none s)

/-- WORK_JOB_SUBMIT (R67, R69): a job of the class that the Grain's entry gives its kind; a kind without an entry is no job. -/
def workJobSubmitS (t kind : Nat) (bough : Option Nat) (pC0 : Nat) (m : Meter) (s : State) : State :=
  let s := measureC0 pC0 (meter m (atTime t s))
  if (workEntry s kind).cls = 0 then s else admitNow (queueJob kind bough s)

/-- Meaning of WORK_JOB_SUBMIT. -/
def execWorkJobSubmit (t : Nat) (kind : Fin 16) (bough : Option (Fin 12)) (pC0 : Nat) (m : Meter) (s : State) :
    Host.Outcome State Fault Refusal := act (workJobSubmitS t kind.val (bough.map (·.val)) pC0 m) s

/-- JOB_ADMISSION (R69, R70). -/
def jobAdmissionS (t pC0 : Nat) (m : Meter) (s : State) : State := admitNow (measureC0 pC0 (meter m (atTime t s)))

/-- Meaning of JOB_ADMISSION. -/
def execJobAdmission (t pC0 : Nat) (m : Meter) (s : State) : Host.Outcome State Fault Refusal := act (jobAdmissionS t pC0 m) s

/-- ATT_PERIOD_EXPIRY (19 R492, 03 R67). -/
def attPeriodExpiryS (t : Nat) (s : State) : State := admitNow (attPeriodDue t s)

/-- Meaning of ATT_PERIOD_EXPIRY. -/
def execAttPeriodExpiry (t : Nat) (s : State) : Host.Outcome State Fault Refusal := act (attPeriodExpiryS t) s

/-- JOURNAL_COMPACTION (09 R239): C1 work, and C0 work while fewer than 32 sectors are free; a checkpoint starts with fewer than 64. -/
def journalCompactionS (s : State) : State :=
  let s := if s.kpf.replayed && decide (s.kpf.freeSectors < 64) then ckptStart s else s
  if s.kpf.freeSectors < 32 then compactStep s else jobAsk false .compact 3 s

/-- Meaning of JOURNAL_COMPACTION. -/
def execJournalCompaction (s : State) : Host.Outcome State Fault Refusal := act journalCompactionS s

/-- GRAIN_STORE_WRITE (04 R107): the admitted store is written; it is dropped where nothing is written (09 R550). -/
def grainStoreWriteS (bad0 bad1 : List (Nat × Bytes)) (s : State) : State :=
  if !s.grn.storeDue then s
  else if journalShut s then jobDone .store (keepDropped { s with grn := { s.grn with storeDue := false, storeBlocks := [] } })
  else if s.nrg.admitted.any (fun j => j.act == .store) then grainStore bad0 bad1 s
  else s

/-- Meaning of GRAIN_STORE_WRITE. -/
def execGrainStoreWrite (bad0 bad1 : List (Nat × Bytes)) (s : State) : Host.Outcome State Fault Refusal := act (grainStoreWriteS bad0 bad1) s

/-- DRBG_RESEED (06 R151): a due reseed at once, C0 work; an earlier one is a C2 job. -/
def drbgReseedS (t i : Nat) (s : State) : State :=
  let s := atTime t s
  if !(drbg i s).on then s
  else if drbgDue (drbg i s) s then (drbgReseedNow i s).getD s
  else jobAsk true (.reseed i) 8 s

/-- Meaning of DRBG_RESEED. -/
def execDrbgReseed (t : Nat) (i : Fin 5) (s : State) : Host.Outcome State Fault Refusal := act (drbgReseedS t i.val) s

/-- KEY_REWRAP (05 R140): one record of the admitted rewrap, which ends with the last one. -/
def keyRewrapOne (s : State) : State :=
  if s.nrg.admitted.any (fun j => j.act == .rewrap) then
    let s := keyRewrapS s
    if s.vault.rewrap = [] then jobDone .rewrap s else s
  else s

/-- The rewrap is submitted as C1 work, and goes on once admitted. -/
def keyRewrapWork (s : State) : State :=
  if s.vault.rewrap = [] then jobDone .rewrap s else keyRewrapOne (jobAsk false .rewrap 3 s)

/-- Meaning of KEY_REWRAP. -/
def execKeyRewrap (s : State) : Host.Outcome State Fault Refusal := act keyRewrapWork s

end Sys2Proof.Machine
end

