-- ==== Sys2Proof/Machine/Dispatch.lean ====
section
/-!
DEFINITION. Machine/Dispatch.lean: one arm for each command of spec/opcode_table.json, each a direct call of its meaning.
-/
namespace Sys2Proof.Machine

def exec (i : Instr) (s : State) : Host.Outcome State Fault Refusal :=
  match i with
  | .pwrgoodRise a b c => Sys2Proof.Machine.execPwrgoodRise a b c s
  | .pwrgoodFall a => Sys2Proof.Machine.execPwrgoodFall a s
  | .vstbyLoss a => Sys2Proof.Machine.execVstbyLoss a s
  | .hostLinkReset => Sys2Proof.Machine.execHostLinkReset s
  | .fullDeviceReset a b => Sys2Proof.Machine.execFullDeviceReset a b s
  | .railFault a => Sys2Proof.Machine.execRailFault a s
  | .vfuseInRange a b c => Sys2Proof.Machine.execVfuseInRange a b c s
  | .registerWrite a b c d e => Sys2Proof.Machine.execRegisterWrite a b c d e s
  | .undefinedOpWrite a b c => Sys2Proof.Machine.execUndefinedOpWrite a b c s
  | .disableStart a b => Sys2Proof.Machine.execDisableStart a b s
  | .modeCutDuringDrain a => Sys2Proof.Machine.execModeCutDuringDrain a s
  | .drainBoundExpiry a => Sys2Proof.Machine.execDrainBoundExpiry a s
  | .disableComplete a => Sys2Proof.Machine.execDisableComplete a s
  | .enableWrite a b => Sys2Proof.Machine.execEnableWrite a b s
  | .ppsEdge a => Sys2Proof.Machine.execPpsEdge a s
  | .todMessage a b c => Sys2Proof.Machine.execTodMessage a b c s
  | .ptpMessage a b c d => Sys2Proof.Machine.execPtpMessage a b c d s
  | .phaseMeasurement a b c d => Sys2Proof.Machine.execPhaseMeasurement a b c d s
  | .phaseSourceLoss a => Sys2Proof.Machine.execPhaseSourceLoss a s
  | .holdoverExpiry => Sys2Proof.Machine.execHoldoverExpiry s
  | .slotEdge a b c => Sys2Proof.Machine.execSlotEdge a b c s
  | .ringMarkDone => Sys2Proof.Machine.execRingMarkDone s
  | .sltMarkCtrlWrite a => Sys2Proof.Machine.execSltMarkCtrlWrite a s
  | .markGo => Sys2Proof.Machine.execMarkGo s
  | .markHold a => Sys2Proof.Machine.execMarkHold a s
  | .sltMarkStatRead => Sys2Proof.Machine.execSltMarkStatRead s
  | .sltNowRead a => Sys2Proof.Machine.execSltNowRead a s
  | .budgetHostWrite a b c => Sys2Proof.Machine.execBudgetHostWrite a b c s
  | .workJobSubmit a b c d e => Sys2Proof.Machine.execWorkJobSubmit a b c d e s
  | .jobAdmission a b c => Sys2Proof.Machine.execJobAdmission a b c s
  | .workJobEnd a => Sys2Proof.Machine.execWorkJobEnd a s
  | .boughFreeze a => Sys2Proof.Machine.execBoughFreeze a s
  | .boughThaw a b => Sys2Proof.Machine.execBoughThaw a b s
  | .pfwAssert a => Sys2Proof.Machine.execPfwAssert a s
  | .flushSettleEnd => Sys2Proof.Machine.execFlushSettleEnd s
  | .pfwDeassert a => Sys2Proof.Machine.execPfwDeassert a s
  | .pfwRecoveryReset a b => Sys2Proof.Machine.execPfwRecoveryReset a b s
  | .boughPowerOn a b => Sys2Proof.Machine.execBoughPowerOn a b s
  | .laneGroupStart a b => Sys2Proof.Machine.execLaneGroupStart a b s
  | .coreClockLock a => Sys2Proof.Machine.execCoreClockLock a s
  | .entStartupTestDone a b c => Sys2Proof.Machine.execEntStartupTestDone a b c s
  | .entropyTimeout a => Sys2Proof.Machine.execEntropyTimeout a s
  | .dramTrainingDone a b c => Sys2Proof.Machine.execDramTrainingDone a b c s
  | .helperBoughStart a b => Sys2Proof.Machine.execHelperBoughStart a b s
  | .domain0Bootstrap a b c d e => Sys2Proof.Machine.execDomain0Bootstrap a b c d e s
  | .pushStart a b => Sys2Proof.Machine.execPushStart a b s
  | .pushAbort a b => Sys2Proof.Machine.execPushAbort a b s
  | .pushPost a b c => Sys2Proof.Machine.execPushPost a b c s
  | .pushFrameWrite a b c => Sys2Proof.Machine.execPushFrameWrite a b c s
  | .i3cRegisterAccess a b => Sys2Proof.Machine.execI3cRegisterAccess a b s
  | .pushTimeout => Sys2Proof.Machine.execPushTimeout s
  | .grainHeadVerify => Sys2Proof.Machine.execGrainHeadVerify s
  | .grainBlockAccept => Sys2Proof.Machine.execGrainBlockAccept s
  | .grainInstall a b => Sys2Proof.Machine.execGrainInstall a b s
  | .keepGrainRead a => Sys2Proof.Machine.execKeepGrainRead a s
  | .grainStoreWrite a b => Sys2Proof.Machine.execGrainStoreWrite a b s
  | .leafRelease a => Sys2Proof.Machine.execLeafRelease a s
  | .programSwap a => Sys2Proof.Machine.execProgramSwap a s
  | .boughPowerDown a => Sys2Proof.Machine.execBoughPowerDown a s
  | .bucketDrainExpiry => Sys2Proof.Machine.execBucketDrainExpiry s
  | .keyWriteClear a => Sys2Proof.Machine.execKeyWriteClear a s
  | .keyImport a => Sys2Proof.Machine.execKeyImport a s
  | .keyReplace a b => Sys2Proof.Machine.execKeyReplace a b s
  | .keyOldMaterialZero a => Sys2Proof.Machine.execKeyOldMaterialZero a s
  | .keyExport a => Sys2Proof.Machine.execKeyExport a s
  | .keyEraseSlot a => Sys2Proof.Machine.execKeyEraseSlot a s
  | .keyEraseAll a => Sys2Proof.Machine.execKeyEraseAll a s
  | .keyInfo a => Sys2Proof.Machine.execKeyInfo a s
  | .rcvChallenge a => Sys2Proof.Machine.execRcvChallenge a s
  | .rcvOpen => Sys2Proof.Machine.execRcvOpen s
  | .recoveryWindowExpiry => Sys2Proof.Machine.execRecoveryWindowExpiry s
  | .keyBufRead a => Sys2Proof.Machine.execKeyBufRead a s
  | .keyRecordJournalled a => Sys2Proof.Machine.execKeyRecordJournalled a s
  | .keyRewrap => Sys2Proof.Machine.execKeyRewrap s
  | .vaultZeroizeDone => Sys2Proof.Machine.execVaultZeroizeDone s
  | .entHealthFail a b => Sys2Proof.Machine.execEntHealthFail a b s
  | .conditionedBlock a b => Sys2Proof.Machine.execConditionedBlock a b s
  | .drbgReseed a b => Sys2Proof.Machine.execDrbgReseed a b s
  | .drbgInstantiate a b => Sys2Proof.Machine.execDrbgInstantiate a b s
  | .entStarvedTimeout => Sys2Proof.Machine.execEntStarvedTimeout s
  | .entRequest a => Sys2Proof.Machine.execEntRequest a s
  | .entOutputReady a => Sys2Proof.Machine.execEntOutputReady a s
  | .entOutRead a => Sys2Proof.Machine.execEntOutRead a s
  | .chkConfigWrite a b c d => Sys2Proof.Machine.execChkConfigWrite a b c d s
  | .chkStart a b => Sys2Proof.Machine.execChkStart a b s
  | .chkDataWrite a b c d => Sys2Proof.Machine.execChkDataWrite a b c d s
  | .chkAbsorb a => Sys2Proof.Machine.execChkAbsorb a s
  | .chkResultRead a b => Sys2Proof.Machine.execChkResultRead a b s
  | .custodyBootStart a b => Sys2Proof.Machine.execCustodyBootStart a b s
  | .flashDiscoveryDone a b => Sys2Proof.Machine.execFlashDiscoveryDone a b s
  | .slotSelect a b c => Sys2Proof.Machine.execSlotSelect a b c s
  | .headerReadDone a b => Sys2Proof.Machine.execHeaderReadDone a b s
  | .custodySigVerifyDone a => Sys2Proof.Machine.execCustodySigVerifyDone a s
  | .digestTableChecked a b => Sys2Proof.Machine.execDigestTableChecked a b s
  | .bodyBlockHashed a b c => Sys2Proof.Machine.execBodyBlockHashed a b c s
  | .custodyVerifyEnd a b => Sys2Proof.Machine.execCustodyVerifyEnd a b s
  | .domainRelease a b => Sys2Proof.Machine.execDomainRelease a b s
  | .sealRecordWrite a => Sys2Proof.Machine.execSealRecordWrite a s
  | .custodyPgFall a b => Sys2Proof.Machine.execCustodyPgFall a b s
  | .custodyPgRestore a b => Sys2Proof.Machine.execCustodyPgRestore a b s
  | .flashTimeout a => Sys2Proof.Machine.execFlashTimeout a s
  | .portFault a b => Sys2Proof.Machine.execPortFault a b s
  | .custodyReboot a b => Sys2Proof.Machine.execCustodyReboot a b s
  | .custodyRaiseFloor a => Sys2Proof.Machine.execCustodyRaiseFloor a s
  | .heldHostTransaction a => Sys2Proof.Machine.execHeldHostTransaction a s
  | .hostRead a b c d e f g => Sys2Proof.Machine.execHostRead a b c d e f g s
  | .hostRegRead a b c d => Sys2Proof.Machine.execHostRegRead a b c d s
  | .hostSfdpRead a b c d e => Sys2Proof.Machine.execHostSfdpRead a b c d e s
  | .wren a b c => Sys2Proof.Machine.execWren a b c s
  | .wrdi a b => Sys2Proof.Machine.execWrdi a b s
  | .hostProgram a b c d e f => Sys2Proof.Machine.execHostProgram a b c d e f s
  | .hostErase a b c d e => Sys2Proof.Machine.execHostErase a b c d e s
  | .hostChipErase a b c d => Sys2Proof.Machine.execHostChipErase a b c d s
  | .hostRegWrite a b c d e f g => Sys2Proof.Machine.execHostRegWrite a b c d e f g s
  | .hostSecurityWrite a b c d e f g => Sys2Proof.Machine.execHostSecurityWrite a b c d e f g s
  | .hostSecurityRead a b c d e => Sys2Proof.Machine.execHostSecurityRead a b c d e s
  | .enter4byteMode a b => Sys2Proof.Machine.execEnter4byteMode a b s
  | .exit4byteMode a b => Sys2Proof.Machine.execExit4byteMode a b s
  | .hostResetCommand a b c => Sys2Proof.Machine.execHostResetCommand a b c s
  | .deepPowerDown a b => Sys2Proof.Machine.execDeepPowerDown a b s
  | .deepPowerDownRelease a b => Sys2Proof.Machine.execDeepPowerDownRelease a b s
  | .suspend a b c d e => Sys2Proof.Machine.execSuspend a b c d e s
  | .resume a b c d e => Sys2Proof.Machine.execResume a b c d e s
  | .unknownOpcode a b c => Sys2Proof.Machine.execUnknownOpcode a b c s
  | .hostCsEarlyDeassert a => Sys2Proof.Machine.execHostCsEarlyDeassert a s
  | .forwardedOpDone a b => Sys2Proof.Machine.execForwardedOpDone a b s
  | .mimicTimerExpiry a b => Sys2Proof.Machine.execMimicTimerExpiry a b s
  | .escapeVerdict a b => Sys2Proof.Machine.execEscapeVerdict a b s
  | .escapeTimeout a b => Sys2Proof.Machine.execEscapeTimeout a b s
  | .bootLimitExpiry a b => Sys2Proof.Machine.execBootLimitExpiry a b s
  | .fltBootDone a => Sys2Proof.Machine.execFltBootDone a s
  | .mbxHollowSend a b c d e f => Sys2Proof.Machine.execMbxHollowSend a b c d e f s
  | .mbxBootDone a b c d e f => Sys2Proof.Machine.execMbxBootDone a b c d e f s
  | .mbxRaiseFloor a b c d e f => Sys2Proof.Machine.execMbxRaiseFloor a b c d e f s
  | .mbxReboot a b c d e f => Sys2Proof.Machine.execMbxReboot a b c d e f s
  | .mbxUpdateOpen a b c d e f => Sys2Proof.Machine.execMbxUpdateOpen a b c d e f s
  | .mbxUpdateClose a b c d e f => Sys2Proof.Machine.execMbxUpdateClose a b c d e f s
  | .mbxCustodyInfo a b c d e f => Sys2Proof.Machine.execMbxCustodyInfo a b c d e f s
  | .mbxResult a b c => Sys2Proof.Machine.execMbxResult a b c s
  | .mbxHollowRecv a b c d => Sys2Proof.Machine.execMbxHollowRecv a b c d s
  | .updateOpen a b c => Sys2Proof.Machine.execUpdateOpen a b c s
  | .updateClose a b => Sys2Proof.Machine.execUpdateClose a b s
  | .updateReadback a b => Sys2Proof.Machine.execUpdateReadback a b s
  | .updateSigVerifyDone a b => Sys2Proof.Machine.execUpdateSigVerifyDone a b s
  | .updateAbandonTimeout a b => Sys2Proof.Machine.execUpdateAbandonTimeout a b s
  | .custodyPushStart a b c d => Sys2Proof.Machine.execCustodyPushStart a b c d s
  | .custodyPushAbort => Sys2Proof.Machine.execCustodyPushAbort s
  | .custodyPushPost a b c => Sys2Proof.Machine.execCustodyPushPost a b c s
  | .custodyPushTimeout a => Sys2Proof.Machine.execCustodyPushTimeout a s
  | .custodyWriteBack a => Sys2Proof.Machine.execCustodyWriteBack a s
  | .journalAppend => Sys2Proof.Machine.execJournalAppend s
  | .keepPageDone a b => Sys2Proof.Machine.execKeepPageDone a b s
  | .keepPageTimeout => Sys2Proof.Machine.execKeepPageTimeout s
  | .journalReplay => Sys2Proof.Machine.execJournalReplay s
  | .checkpointDone a => Sys2Proof.Machine.execCheckpointDone a s
  | .journalCompaction => Sys2Proof.Machine.execJournalCompaction s
  | .anchorBurnDone => Sys2Proof.Machine.execAnchorBurnDone s
  | .floorSetGo => Sys2Proof.Machine.execFloorSetGo s
  | .envelopeDivert a => Sys2Proof.Machine.execEnvelopeDivert a s
  | .envelopeDispatch a => Sys2Proof.Machine.execEnvelopeDispatch a s
  | .spillReturn a b => Sys2Proof.Machine.execSpillReturn a b s
  | .laneConsumedWrite a b => Sys2Proof.Machine.execLaneConsumedWrite a b s
  | .canopyOpen a b c => Sys2Proof.Machine.execCanopyOpen a b c s
  | .canopyCommit a b c => Sys2Proof.Machine.execCanopyCommit a b c s
  | .heldCommitComplete => Sys2Proof.Machine.execHeldCommitComplete s
  | .dlqProdWrite a => Sys2Proof.Machine.execDlqProdWrite a s
  | .dlqEntryFetch => Sys2Proof.Machine.execDlqEntryFetch s
  | .dlTtlExpiry => Sys2Proof.Machine.execDlTtlExpiry s
  | .recordRingWrite a => Sys2Proof.Machine.execRecordRingWrite a s
  | .recordFrameEmit a => Sys2Proof.Machine.execRecordFrameEmit a s
  | .ringConsWrite a b => Sys2Proof.Machine.execRingConsWrite a b s
  | .ringCtrlWrite a b => Sys2Proof.Machine.execRingCtrlWrite a b s
  | .lossRecordEmit a b => Sys2Proof.Machine.execLossRecordEmit a b s
  | .dropSummaryTimer a => Sys2Proof.Machine.execDropSummaryTimer a s
  | .fillEvaluation a => Sys2Proof.Machine.execFillEvaluation a s
  | .imagePeriodExpiry => Sys2Proof.Machine.execImagePeriodExpiry s
  | .imageExport => Sys2Proof.Machine.execImageExport s
  | .imageExportDone => Sys2Proof.Machine.execImageExportDone s
  | .imageRestore => Sys2Proof.Machine.execImageRestore s
  | .imageSkip => Sys2Proof.Machine.execImageSkip s
  | .imageWaitExpiry => Sys2Proof.Machine.execImageWaitExpiry s
  | .ringStoreBuildDone => Sys2Proof.Machine.execRingStoreBuildDone s
  | .ctxRead a b => Sys2Proof.Machine.execCtxRead a b s
  | .ctxBlock a b => Sys2Proof.Machine.execCtxBlock a b s
  | .ctxUnblock a b => Sys2Proof.Machine.execCtxUnblock a b s
  | .ctxForget a b => Sys2Proof.Machine.execCtxForget a b s
  | .laneWatchdogExpiry a b => Sys2Proof.Machine.execLaneWatchdogExpiry a b s
  | .leafParityError a b => Sys2Proof.Machine.execLeafParityError a b s
  | .boughFence a b => Sys2Proof.Machine.execBoughFence a b s
  | .contextLineLost a b c => Sys2Proof.Machine.execContextLineLost a b c s
  | .contextRebuildDone a => Sys2Proof.Machine.execContextRebuildDone a s
  | .buddyAckTimeout a => Sys2Proof.Machine.execBuddyAckTimeout a s
  | .takeoverStart a => Sys2Proof.Machine.execTakeoverStart a s
  | .takeoverBuildDone a => Sys2Proof.Machine.execTakeoverBuildDone a s
  | .handbackDrainExpiry a => Sys2Proof.Machine.execHandbackDrainExpiry a s
  | .handbackTransferDone a => Sys2Proof.Machine.execHandbackTransferDone a s
  | .frameReceive a b c d => Sys2Proof.Machine.execFrameReceive a b c d s
  | .egressFrameSent a b c => Sys2Proof.Machine.execEgressFrameSent a b c s
  | .pauseReceive a b c d e f => Sys2Proof.Machine.execPauseReceive a b c d e f s
  | .pauseQuantaExpiry a b c => Sys2Proof.Machine.execPauseQuantaExpiry a b c s
  | .pauseRefresh a b c => Sys2Proof.Machine.execPauseRefresh a b c s
  | .linkUp a b c => Sys2Proof.Machine.execLinkUp a b c s
  | .linkDown a b c => Sys2Proof.Machine.execLinkDown a b c s
  | .mkaConsumedWrite a b => Sys2Proof.Machine.execMkaConsumedWrite a b s
  | .mkaKeys a b c => Sys2Proof.Machine.execMkaKeys a b c s
  | .sakNew a b c => Sys2Proof.Machine.execSakNew a b c s
  | .sakWrap a b c => Sys2Proof.Machine.execSakWrap a b c s
  | .sakUnwrap a b c => Sys2Proof.Machine.execSakUnwrap a b c s
  | .saInstall a b c => Sys2Proof.Machine.execSaInstall a b c s
  | .saSelect a b c => Sys2Proof.Machine.execSaSelect a b c s
  | .mkpduSend a b c => Sys2Proof.Machine.execMkpduSend a b c s
  | .leafAdd a b c d e => Sys2Proof.Machine.execLeafAdd a b c d e s
  | .leafAddc a b c d e => Sys2Proof.Machine.execLeafAddc a b c d e s
  | .leafSub a b c d e => Sys2Proof.Machine.execLeafSub a b c d e s
  | .leafSubc a b c d e => Sys2Proof.Machine.execLeafSubc a b c d e s
  | .leafAnd a b c d e => Sys2Proof.Machine.execLeafAnd a b c d e s
  | .leafOr a b c d e => Sys2Proof.Machine.execLeafOr a b c d e s
  | .leafXor a b c d e => Sys2Proof.Machine.execLeafXor a b c d e s
  | .leafAndn a b c d e => Sys2Proof.Machine.execLeafAndn a b c d e s
  | .leafNeg a b c d => Sys2Proof.Machine.execLeafNeg a b c d s
  | .leafMin a b c d e => Sys2Proof.Machine.execLeafMin a b c d e s
  | .leafMax a b c d e => Sys2Proof.Machine.execLeafMax a b c d e s
  | .leafMinu a b c d e => Sys2Proof.Machine.execLeafMinu a b c d e s
  | .leafMaxu a b c d e => Sys2Proof.Machine.execLeafMaxu a b c d e s
  | .leafSlt a b c d e => Sys2Proof.Machine.execLeafSlt a b c d e s
  | .leafSltu a b c d e => Sys2Proof.Machine.execLeafSltu a b c d e s
  | .leafSll a b c d e => Sys2Proof.Machine.execLeafSll a b c d e s
  | .leafSrl a b c d e => Sys2Proof.Machine.execLeafSrl a b c d e s
  | .leafSra a b c d e => Sys2Proof.Machine.execLeafSra a b c d e s
  | .leafRor a b c d e => Sys2Proof.Machine.execLeafRor a b c d e s
  | .leafSlli a b c d e => Sys2Proof.Machine.execLeafSlli a b c d e s
  | .leafSrli a b c d e => Sys2Proof.Machine.execLeafSrli a b c d e s
  | .leafSrai a b c d e => Sys2Proof.Machine.execLeafSrai a b c d e s
  | .leafRori a b c d e => Sys2Proof.Machine.execLeafRori a b c d e s
  | .leafClz a b c d => Sys2Proof.Machine.execLeafClz a b c d s
  | .leafBswap a b c d => Sys2Proof.Machine.execLeafBswap a b c d s
  | .leafAddi a b c d => Sys2Proof.Machine.execLeafAddi a b c d s
  | .leafAndi a b c d => Sys2Proof.Machine.execLeafAndi a b c d s
  | .leafOri a b c d => Sys2Proof.Machine.execLeafOri a b c d s
  | .leafXori a b c d => Sys2Proof.Machine.execLeafXori a b c d s
  | .leafSlti a b c d => Sys2Proof.Machine.execLeafSlti a b c d s
  | .leafSltiu a b c d => Sys2Proof.Machine.execLeafSltiu a b c d s
  | .leafLui a b c => Sys2Proof.Machine.execLeafLui a b c s
  | .leafAddiS a b c d => Sys2Proof.Machine.execLeafAddiS a b c d s
  | .leafCmpi a b c => Sys2Proof.Machine.execLeafCmpi a b c s
  | .leafLw a b c d => Sys2Proof.Machine.execLeafLw a b c d s
  | .leafLh a b c d => Sys2Proof.Machine.execLeafLh a b c d s
  | .leafLhu a b c d => Sys2Proof.Machine.execLeafLhu a b c d s
  | .leafLb a b c d => Sys2Proof.Machine.execLeafLb a b c d s
  | .leafLbu a b c d => Sys2Proof.Machine.execLeafLbu a b c d s
  | .leafSw a b c d => Sys2Proof.Machine.execLeafSw a b c d s
  | .leafSh a b c d => Sys2Proof.Machine.execLeafSh a b c d s
  | .leafSb a b c d => Sys2Proof.Machine.execLeafSb a b c d s
  | .leafSwapw a b c d => Sys2Proof.Machine.execLeafSwapw a b c d s
  | .leafMul a b c d => Sys2Proof.Machine.execLeafMul a b c d s
  | .leafMulhu a b c d => Sys2Proof.Machine.execLeafMulhu a b c d s
  | .leafMulhs a b c d => Sys2Proof.Machine.execLeafMulhs a b c d s
  | .leafMula a b c => Sys2Proof.Machine.execLeafMula a b c s
  | .leafMac a b c => Sys2Proof.Machine.execLeafMac a b c s
  | .leafMacu a b c => Sys2Proof.Machine.execLeafMacu a b c s
  | .leafMsu a b c => Sys2Proof.Machine.execLeafMsu a b c s
  | .leafMsuu a b c => Sys2Proof.Machine.execLeafMsuu a b c s
  | .leafMfa a b c => Sys2Proof.Machine.execLeafMfa a b c s
  | .leafMfat a b => Sys2Proof.Machine.execLeafMfat a b s
  | .leafMta a b c => Sys2Proof.Machine.execLeafMta a b c s
  | .leafAclr a => Sys2Proof.Machine.execLeafAclr a s
  | .leafAshr a b => Sys2Proof.Machine.execLeafAshr a b s
  | .leafAshl a b => Sys2Proof.Machine.execLeafAshl a b s
  | .leafAccm a b => Sys2Proof.Machine.execLeafAccm a b s
  | .leafDivu a b c d => Sys2Proof.Machine.execLeafDivu a b c d s
  | .leafDivs a b c d => Sys2Proof.Machine.execLeafDivs a b c d s
  | .leafBcond a b c => Sys2Proof.Machine.execLeafBcond a b c s
  | .leafBz a b c => Sys2Proof.Machine.execLeafBz a b c s
  | .leafBnz a b c => Sys2Proof.Machine.execLeafBnz a b c s
  | .leafJ a b => Sys2Proof.Machine.execLeafJ a b s
  | .leafJal a b => Sys2Proof.Machine.execLeafJal a b s
  | .leafJr a b => Sys2Proof.Machine.execLeafJr a b s
  | .leafJalr a b c => Sys2Proof.Machine.execLeafJalr a b c s
  | .leafWait a b c => Sys2Proof.Machine.execLeafWait a b c s
  | .leafWaitWake a b => Sys2Proof.Machine.execLeafWaitWake a b s
  | .leafEvclr a b => Sys2Proof.Machine.execLeafEvclr a b s
  | .leafMff a b => Sys2Proof.Machine.execLeafMff a b s
  | .leafMtf a b => Sys2Proof.Machine.execLeafMtf a b s
  | .leafMfs a b c => Sys2Proof.Machine.execLeafMfs a b c s
  | .leafUndefined a => Sys2Proof.Machine.execLeafUndefined a s
  | .leafResult a => Sys2Proof.Machine.execLeafResult a s
  | .leafTimer a => Sys2Proof.Machine.execLeafTimer a s
  | .sapAesEcbEncrypt a b c => Sys2Proof.Machine.execSapAesEcbEncrypt a b c s
  | .sapAesEcbDecrypt a b c => Sys2Proof.Machine.execSapAesEcbDecrypt a b c s
  | .sapAesCtrEncrypt a b c => Sys2Proof.Machine.execSapAesCtrEncrypt a b c s
  | .sapAesCtrDecrypt a b c => Sys2Proof.Machine.execSapAesCtrDecrypt a b c s
  | .sapAesXtsEncrypt a b c => Sys2Proof.Machine.execSapAesXtsEncrypt a b c s
  | .sapAesXtsDecrypt a b c => Sys2Proof.Machine.execSapAesXtsDecrypt a b c s
  | .sapGcmSeal a b c => Sys2Proof.Machine.execSapGcmSeal a b c s
  | .sapGcmOpen a b c => Sys2Proof.Machine.execSapGcmOpen a b c s
  | .sapCmacGenerate a b c => Sys2Proof.Machine.execSapCmacGenerate a b c s
  | .sapCmacVerify a b c => Sys2Proof.Machine.execSapCmacVerify a b c s
  | .sapGmacGenerate a b c => Sys2Proof.Machine.execSapGmacGenerate a b c s
  | .sapGmacVerify a b c => Sys2Proof.Machine.execSapGmacVerify a b c s
  | .sapHmacGenerate a b c => Sys2Proof.Machine.execSapHmacGenerate a b c s
  | .sapHmacVerify a b c => Sys2Proof.Machine.execSapHmacVerify a b c s
  | .sapGhash a b c => Sys2Proof.Machine.execSapGhash a b c s
  | .sapSha256 a b c => Sys2Proof.Machine.execSapSha256 a b c s
  | .sapSha384 a b c => Sys2Proof.Machine.execSapSha384 a b c s
  | .sapSha512 a b c => Sys2Proof.Machine.execSapSha512 a b c s
  | .sapSha3256 a b c => Sys2Proof.Machine.execSapSha3256 a b c s
  | .sapSha3384 a b c => Sys2Proof.Machine.execSapSha3384 a b c s
  | .sapSha3512 a b c => Sys2Proof.Machine.execSapSha3512 a b c s
  | .sapShake128 a b c => Sys2Proof.Machine.execSapShake128 a b c s
  | .sapShake256 a b c => Sys2Proof.Machine.execSapShake256 a b c s
  | .sapSp800108Kdf a b c => Sys2Proof.Machine.execSapSp800108Kdf a b c s
  | .sapRandomBytes a b c => Sys2Proof.Machine.execSapRandomBytes a b c s
  | .sapRequestReady a b => Sys2Proof.Machine.execSapRequestReady a b s
  | .leafDmaSubmit a b => Sys2Proof.Machine.execLeafDmaSubmit a b s
  | .leafDmaDone a b => Sys2Proof.Machine.execLeafDmaDone a b s
  | .brlModexp a => Sys2Proof.Machine.execBrlModexp a s
  | .brlModmul a => Sys2Proof.Machine.execBrlModmul a s
  | .brlModinv a => Sys2Proof.Machine.execBrlModinv a s
  | .brlRsaLoad a => Sys2Proof.Machine.execBrlRsaLoad a s
  | .brlRsaPriv a => Sys2Proof.Machine.execBrlRsaPriv a s
  | .brlEcPub a => Sys2Proof.Machine.execBrlEcPub a s
  | .brlEcdsaSign a => Sys2Proof.Machine.execBrlEcdsaSign a s
  | .brlEcdsaVerify a => Sys2Proof.Machine.execBrlEcdsaVerify a s
  | .brlEcMul a => Sys2Proof.Machine.execBrlEcMul a s
  | .brlEcdhEph a => Sys2Proof.Machine.execBrlEcdhEph a s
  | .brlEcdh a => Sys2Proof.Machine.execBrlEcdh a s
  | .brlMldsaPub a => Sys2Proof.Machine.execBrlMldsaPub a s
  | .brlMldsaSign a => Sys2Proof.Machine.execBrlMldsaSign a s
  | .brlMldsaVerify a => Sys2Proof.Machine.execBrlMldsaVerify a s
  | .brlMlkemPub a => Sys2Proof.Machine.execBrlMlkemPub a s
  | .brlMlkemEncaps a => Sys2Proof.Machine.execBrlMlkemEncaps a s
  | .brlMlkemDecaps a => Sys2Proof.Machine.execBrlMlkemDecaps a s
  | .brlLmsVerify a => Sys2Proof.Machine.execBrlLmsVerify a s
  | .burlJobStart a b => Sys2Proof.Machine.execBurlJobStart a b s
  | .burlJobRelease a b => Sys2Proof.Machine.execBurlJobRelease a b s
  | .curveLoad => Sys2Proof.Machine.execCurveLoad s
  | .curveLoadDone => Sys2Proof.Machine.execCurveLoadDone s
  | .curveUnload a => Sys2Proof.Machine.execCurveUnload a s
  | .channelOpen a b => Sys2Proof.Machine.execChannelOpen a b s
  | .channelClose a => Sys2Proof.Machine.execChannelClose a s
  | .hollowSend a b => Sys2Proof.Machine.execHollowSend a b s
  | .rxTake a b => Sys2Proof.Machine.execRxTake a b s
  | .ackTake a b => Sys2Proof.Machine.execAckTake a b s
  | .rxAck a b c d => Sys2Proof.Machine.execRxAck a b c d s
  | .receiverTimeout a b => Sys2Proof.Machine.execReceiverTimeout a b s
  | .knockRing a b => Sys2Proof.Machine.execKnockRing a b s
  | .transChallenge a b => Sys2Proof.Machine.execTransChallenge a b s
  | .transRequest a b => Sys2Proof.Machine.execTransRequest a b s
  | .dbgChallenge a b => Sys2Proof.Machine.execDbgChallenge a b s
  | .dbgResponse a b => Sys2Proof.Machine.execDbgResponse a b s
  | .dbgLock a b => Sys2Proof.Machine.execDbgLock a b s
  | .lcyResultReady a b c => Sys2Proof.Machine.execLcyResultReady a b c s
  | .lcyAccess a b c d => Sys2Proof.Machine.execLcyAccess a b c d s
  | .dbgAccess a b c d => Sys2Proof.Machine.execDbgAccess a b c d s
  | .dbgHalt a b => Sys2Proof.Machine.execDbgHalt a b s
  | .dbgStep a => Sys2Proof.Machine.execDbgStep a s
  | .resumeLeaf a => Sys2Proof.Machine.execResumeLeaf a s
  | .idcode => Sys2Proof.Machine.execIdcode s
  | .extest => Sys2Proof.Machine.execExtest s
  | .samplePreload a b => Sys2Proof.Machine.execSamplePreload a b s
  | .tamperFire a b c => Sys2Proof.Machine.execTamperFire a b c s
  | .standbyTamperFire a => Sys2Proof.Machine.execStandbyTamperFire a s
  | .evidenceBurn => Sys2Proof.Machine.execEvidenceBurn s
  | .stimGo a => Sys2Proof.Machine.execStimGo a s
  | .stimWindowEnd a b c => Sys2Proof.Machine.execStimWindowEnd a b c s
  | .disableChallenge a => Sys2Proof.Machine.execDisableChallenge a s
  | .disableRequest a => Sys2Proof.Machine.execDisableRequest a s
  | .spdmGetVersion a b c => Sys2Proof.Machine.execSpdmGetVersion a b c s
  | .spdmGetCapabilities a b c => Sys2Proof.Machine.execSpdmGetCapabilities a b c s
  | .spdmNegotiateAlgorithms a b c => Sys2Proof.Machine.execSpdmNegotiateAlgorithms a b c s
  | .spdmGetDigests a b c => Sys2Proof.Machine.execSpdmGetDigests a b c s
  | .spdmGetCertificate a b c => Sys2Proof.Machine.execSpdmGetCertificate a b c s
  | .spdmChallenge a b c => Sys2Proof.Machine.execSpdmChallenge a b c s
  | .spdmGetMeasurements a b c => Sys2Proof.Machine.execSpdmGetMeasurements a b c s
  | .spdmKeyExchange a b c => Sys2Proof.Machine.execSpdmKeyExchange a b c s
  | .spdmFinish a b c => Sys2Proof.Machine.execSpdmFinish a b c s
  | .spdmEndSession a b c => Sys2Proof.Machine.execSpdmEndSession a b c s
  | .spdmSecuredMessage a b c => Sys2Proof.Machine.execSpdmSecuredMessage a b c s
  | .spdmUnsupportedRequest a b c => Sys2Proof.Machine.execSpdmUnsupportedRequest a b c s
  | .attGo a b c => Sys2Proof.Machine.execAttGo a b c s
  | .attPeriodExpiry a => Sys2Proof.Machine.execAttPeriodExpiry a s
  | .reportDone a => Sys2Proof.Machine.execReportDone a s
  | .evidenceTimeout a => Sys2Proof.Machine.execEvidenceTimeout a s
  | .ringHello a b c => Sys2Proof.Machine.execRingHello a b c s
  | .ringSync a b c d => Sys2Proof.Machine.execRingSync a b c d s
  | .ringDelayReq a b c => Sys2Proof.Machine.execRingDelayReq a b c s
  | .ringDelayResp a b c => Sys2Proof.Machine.execRingDelayResp a b c s
  | .ringHeartbeat a b c => Sys2Proof.Machine.execRingHeartbeat a b c s
  | .ringGrainBlock a b c => Sys2Proof.Machine.execRingGrainBlock a b c s
  | .ringLeaseMirror a b c => Sys2Proof.Machine.execRingLeaseMirror a b c s
  | .ringLeaseAck a b c => Sys2Proof.Machine.execRingLeaseAck a b c s
  | .ringForward a b c => Sys2Proof.Machine.execRingForward a b c s
  | .ringControl a b c => Sys2Proof.Machine.execRingControl a b c s
  | .ringXfer a b c => Sys2Proof.Machine.execRingXfer a b c s
  | .ringEvidenceReq a b c => Sys2Proof.Machine.execRingEvidenceReq a b c s
  | .ringEvidence a b c => Sys2Proof.Machine.execRingEvidence a b c s
  | .ringRegReq a b c => Sys2Proof.Machine.execRingRegReq a b c s
  | .ringRegResp a b c => Sys2Proof.Machine.execRingRegResp a b c s
  | .ringFrameBad a b c => Sys2Proof.Machine.execRingFrameBad a b c s
  | .helloTimer a => Sys2Proof.Machine.execHelloTimer a s
  | .syncTimer a => Sys2Proof.Machine.execSyncTimer a s
  | .heartbeatTimer a => Sys2Proof.Machine.execHeartbeatTimer a s
  | .delayTimer a => Sys2Proof.Machine.execDelayTimer a s
  | .isolationTimeout a => Sys2Proof.Machine.execIsolationTimeout a s
  | .memberLossTimeout a b => Sys2Proof.Machine.execMemberLossTimeout a b s
  | .mirrorResendTimer a => Sys2Proof.Machine.execMirrorResendTimer a s
  | .grvRelayAccess a b c d => Sys2Proof.Machine.execGrvRelayAccess a b c d s
  | .relayTimeout a => Sys2Proof.Machine.execRelayTimeout a s
  | .forceTakeover a => Sys2Proof.Machine.execForceTakeover a s
  | .handbackAtWrite a => Sys2Proof.Machine.execHandbackAtWrite a s
  | .alarmPop => Sys2Proof.Machine.execAlarmPop s
  | .sleepEnter a => Sys2Proof.Machine.execSleepEnter a s
  | .sleepReady a => Sys2Proof.Machine.execSleepReady a s
  | .grovePortDown a b => Sys2Proof.Machine.execGrovePortDown a b s
  | .grovePortUp a b => Sys2Proof.Machine.execGrovePortUp a b s
  | .hostLinkTrained => Sys2Proof.Machine.execHostLinkTrained s
  | .taiSecond a => Sys2Proof.Machine.execTaiSecond a s
  | .bootstrapShadowCopyDone => Sys2Proof.Machine.execBootstrapShadowCopyDone s
  | .vstbyReturn a => Sys2Proof.Machine.execVstbyReturn a s
  | .suspendLatencyExpiry a => Sys2Proof.Machine.execSuspendLatencyExpiry a s
  | .tempSample a b => Sys2Proof.Machine.execTempSample a b s
  | .missionLogHour a b c d => Sys2Proof.Machine.execMissionLogHour a b c d s

end Sys2Proof.Machine
end

