-- ==== Sys2Proof/Safety.lean ====
section
/-!
DEFINITION. Safety.lean: what counts as a safe step, and the frames in which statements say what a command leaves unchanged.
-/
namespace Sys2Proof

open Machine

/-- A step is safe when it gives a next state: no meaning faults, and a refusal would name a command without a meaning. -/
def SafeStep (s : State) : Prop := ∃ t, step s = .next t

/-- `t` is `s` but for what an event writes: the telemetry, the outputs of the command, and host memory, which the event
rings write (20 R510-R517). -/
def SameButTel (s t : State) : Prop := t = { s with tel := t.tel, out := t.out, hostMem := t.hostMem }

/-- A host address lies in the buffer of an event ring that the host has enabled (20 R514). -/
def inEventRing (s : State) (a : Nat) : Prop :=
  ∃ pf1 : Bool, let r := (evRing pf1 s).reg
    r.en = true ∧ r.base.toNat ≤ a ∧ a < r.base.toNat + 64 * 2 ^ r.size

/-- Host memory of `t` is that of `s` outside the event rings' buffers, and keeps its canonical form. -/
def HostMemKept (s t : State) : Prop :=
  Memory.wf s.hostMem = true → Memory.wf t.hostMem = true ∧ ∀ a, ¬ inEventRing s a → tget 0 t.hostMem a = tget 0 s.hostMem a

end Sys2Proof
end

