-- ==== Sys2Proof/Certificates/Slice0/Obligations.lean ====
section
/-!
DEFINITION. Certificates/Slice0/Obligations.lean: the statements about this model, from the numbered rules of the spec. Each says in
its docstring which rule it formalises, or which log entry it rests on.
-/
open Sys2Proof Sys2Proof.Machine

/-- A step runs the command at the front of the queue, and with none waiting the block idles. For every command c, queue q and state s: a step of s with c at the front of the queue and q behind it is exec of c on s with the queue q. This is the queue of the model (log entry 1). A step of a state whose queue is empty answers that state unchanged; the model's own convention (log entry 1). In every state a step answers a next state: no command stops the block. Every command of the table, each constructor of Instr with every operand, in every state answers a next state: none has a fault or a refusal, since the spec gives each an effect or says that it does nothing. (95_what_each_step_holds.md) -/
def Obligations.StepRunsFront : Prop :=
  (∀ (c : Instr) (q : List Instr) (s : State), step { s with pending := c :: q } = exec c { s with pending := q }) ∧
  ((∀ s : State, step { s with pending := [] } = .next { s with pending := [] }) ∧ (∀ s : State, SafeStep s) ∧
  (∀ (c : Instr) (s : State), ∃ t, exec c s = .next t))

namespace Sys2Proof

/-! ### The leaf -/

/-- Leaf `l` stands at the instruction and issues it: the main domain works, the leaf runs in a running bough and is neither halted nor
waiting, and the word at its pc decodes to the instruction (14 R368). -/
def AtInsn (l : Nat) (i : LInsn) (s : State) : Prop :=
  live s = true ∧ leafCanIssue l s = true ∧ leafDecode (leafAt l s).word = i

/-- The machine in the cycle of issue: outputs empty, and every completion of cycles up to this one done (14 R369). -/
def atIssue (l : Nat) (s : State) : State := leafSettle l { s with out := [] }

/-- `t` is `u` but for leaf `l`, which is `x`: every other leaf, every memory outside the leaf and every other unit is as before. -/
def OnlyLeaf (l : Nat) (x : Leaf) (u t : State) : Prop :=
  leafAt l t = x ∧ (∀ k, k ≠ l → leafAt k t = leafAt k u) ∧ t = { u with lvs := { u.lvs with leaf := t.lvs.leaf } }

/-- The leaf goes on to its next instruction one cycle later, with the completions `es` (distance, effect) in flight, in order. -/
def goesOn (x : Leaf) (es : List (Nat × LeafEff)) : Leaf :=
  { x.next with cyc := x.cyc + 1, flight := es.foldl (fun f e => flightAdd (x.cyc + e.1) e.2 f) x.flight }

/-- Command `c` issues instruction `i` on leaf `l`: in every state in which the leaf stands at it, the command answers a next state in
which only that leaf has changed: `upd` at issue, then on to the next instruction with the completions `es` of the leaf as it reads at
issue. -/
def Issues (l : Fin 192) (c : Instr) (i : LInsn) (upd : State → Leaf → Leaf) (es : State → Leaf → List (Nat × LeafEff)) : Prop :=
  ∀ s, AtInsn l i s → ∃ t, exec c s = .next t ∧
    OnlyLeaf l (goesOn (upd (atIssue l s) (leafAt l (atIssue l s))) (es (atIssue l s) (leafAt l (atIssue l s)))) (atIssue l s) t

/-- Nothing but the completions. -/
def asIs : State → Leaf → Leaf := fun _ x => x

/-- The command of a two-source function. -/
def aluInstr (o : AluOp) (l : Fin 192) (f : Bool) (rd rs rt : BitVec 5) : Instr :=
  match o with
  | .add => .leafAdd l f rd rs rt | .addc => .leafAddc l f rd rs rt | .sub => .leafSub l f rd rs rt | .subc => .leafSubc l f rd rs rt
  | .and => .leafAnd l f rd rs rt | .or => .leafOr l f rd rs rt | .xor => .leafXor l f rd rs rt | .andn => .leafAndn l f rd rs rt
  | .min => .leafMin l f rd rs rt | .max => .leafMax l f rd rs rt | .minu => .leafMinu l f rd rs rt | .maxu => .leafMaxu l f rd rs rt
  | .slt => .leafSlt l f rd rs rt | .sltu => .leafSltu l f rd rs rt | .sll => .leafSll l f rd rs rt | .srl => .leafSrl l f rd rs rt
  | .sra => .leafSra l f rd rs rt | .ror => .leafRor l f rd rs rt

/-- The value column of R381, on numbers. -/
def aluValue (o : AluOp) (c : Bool) (a b : W32) : W32 :=
  match o with
  | .add => a + b
  | .addc => a + b + (if c then 1 else 0)
  | .sub => a - b
  | .subc => a - b - (if c then 0 else 1)
  | .and => a &&& b | .or => a ||| b | .xor => a ^^^ b | .andn => a &&& ~~~b
  | .min => if a.toInt < b.toInt then a else b
  | .max => if a.toInt < b.toInt then b else a
  | .minu => if a.toNat < b.toNat then a else b
  | .maxu => if a.toNat < b.toNat then b else a
  | .slt => if a.toInt < b.toInt then 1 else 0
  | .sltu => if a.toNat < b.toNat then 1 else 0
  | .sll => a <<< b.toNat
  | .srl => a >>> b.toNat
  | .sra => a.sshiftRight b.toNat
  | .ror => a.rotateRight (b.toNat % 32)

/-- A signed number does not fit 32 bits. -/
def outside32 (v : Int) : Bool := decide (v < -(2 ^ 31) ∨ 2 ^ 31 ≤ v)

/-- C of R381 and R382 for a shift or rotation by `n`, none where it is unchanged. -/
def shiftCarry (o : AluOp) (a : W32) (n : Nat) : Option Bool :=
  match o with
  | .sll => if n = 0 then none else some (if n ≤ 32 then a.getLsbD (32 - n) else false)
  | .srl => if n = 0 then none else some (if n ≤ 32 then a.getLsbD (n - 1) else false)
  | .sra => if n = 0 then none else some (if n ≤ 32 then a.getLsbD (n - 1) else a.msb)
  | .ror => if n % 32 = 0 then none else some (a.rotateRight (n % 32)).msb
  | _ => none

/-- The flags column of R381 with R382: C and V as the operation updates them, none where it leaves them. -/
def aluCarry (o : AluOp) (c : Bool) (a b : W32) : Option Bool :=
  match o with
  | .add => some (decide (2 ^ 32 ≤ a.toNat + b.toNat))
  | .addc => some (decide (2 ^ 32 ≤ a.toNat + b.toNat + (if c then 1 else 0)))
  | .sub => some (decide (b.toNat ≤ a.toNat))
  | .subc => some (decide (b.toNat < a.toNat + (if c then 1 else 0)))
  | o => shiftCarry o a b.toNat

/-- V of R381 with R382. -/
def aluOverflow (o : AluOp) (c : Bool) (a b : W32) : Option Bool :=
  match o with
  | .add => some (outside32 (a.toInt + b.toInt))
  | .addc => some (outside32 (a.toInt + b.toInt + (if c then 1 else 0)))
  | .sub => some (outside32 (a.toInt - b.toInt))
  | .subc => some (outside32 (a.toInt - b.toInt - (if c then 0 else 1)))
  | .sll | .srl | .sra => some false
  | _ => none

/-- What an ALU result does at distance 1: rd, and with `f` the flags. -/
def aluDone (f : Bool) (rd : BitVec 5) (r : W32) (c v : Option Bool) : List (Nat × LeafEff) :=
  (1, .reg rd.toNat r) :: (if f then [(1, .flags (some (r == 0)) (some r.msb) c v)] else [])

end Sys2Proof

/-- Every function of OP 0x00 with two sources gives the result and flags of R381 and R382. (R381, R382) -/
def Obligations.LeafAluResults : Prop :=
  ∀ (o : AluOp) (l : Fin 192) (f : Bool) (rd rs rt : BitVec 5),
    Issues l (aluInstr o l f rd rs rt) (.alu o f rd rs rt) asIs (fun _ x =>
      aluDone f rd (aluValue o x.c (x.reg rs) (x.reg rt)) (aluCarry o x.c (x.reg rs) (x.reg rt))
        (aluOverflow o x.c (x.reg rs) (x.reg rt)))

namespace Sys2Proof

/-- The command of a one-source function. -/
def unInstr (o : UnOp) (l : Fin 192) (f : Bool) (rd rs : BitVec 5) : Instr :=
  match o with
  | .neg => .leafNeg l f rd rs | .clz => .leafClz l f rd rs | .bswap => .leafBswap l f rd rs

/-- The command of a shift by an immediate amount. -/
def shInstr (o : ShOp) (l : Fin 192) (f : Bool) (rd rs amt : BitVec 5) : Instr :=
  match o with
  | .slli => .leafSlli l f rd rs amt | .srli => .leafSrli l f rd rs amt | .srai => .leafSrai l f rd rs amt
  | .rori => .leafRori l f rd rs amt

/-- A word with its four bytes in the opposite order. -/
def bytesReversed (a : W32) : W32 := a.extractLsb' 0 8 ++ a.extractLsb' 8 8 ++ a.extractLsb' 16 8 ++ a.extractLsb' 24 8

/-- The shift by a register that a shift by an immediate amount repeats (R381). -/
def shiftOf : ShOp → AluOp
  | .slli => .sll | .srli => .srl | .srai => .sra | .rori => .ror

/-- The command of an immediate operation. -/
def immInstr (o : ImmOp) (l : Fin 192) (rd rs : BitVec 5) (i : BitVec 16) : Instr :=
  match o with
  | .addi => .leafAddi l rd rs i | .andi => .leafAndi l rd rs i | .ori => .leafOri l rd rs i | .xori => .leafXori l rd rs i
  | .slti => .leafSlti l rd rs i | .sltiu => .leafSltiu l rd rs i | .addiS => .leafAddiS l rd rs i

/-- The value column of R383. -/
def immValue (o : ImmOp) (a : W32) (i : BitVec 16) : W32 :=
  match o with
  | .addi | .addiS => a + i.signExtend 32
  | .andi => a &&& i.setWidth 32
  | .ori => a ||| i.setWidth 32
  | .xori => a ^^^ i.setWidth 32
  | .slti => if a.toInt < i.toInt then 1 else 0
  | .sltiu => if a.toNat < (i.signExtend 32).toNat then 1 else 0

end Sys2Proof

/-- One-source functions and immediate operations of the leaf give the results and flags of R381 and R383. (R381, R382, R390, R383) -/
def Obligations.LeafOneSourceResults : Prop :=
  ((∀ (l : Fin 192) (f : Bool) (rd rs : BitVec 5), Issues l (.leafNeg l f rd rs) (.un .neg f rd rs) asIs (fun _ x =>
    aluDone true rd (0 - x.reg rs) (some (decide (x.reg rs = 0))) (some (decide (x.reg rs = 0x80000000))))) ∧
  (∀ (l : Fin 192) (f : Bool) (rd rs : BitVec 5), Issues l (.leafClz l f rd rs) (.un .clz f rd rs) asIs (fun _ x =>
    aluDone f rd (BitVec.ofNat 32 (32 - Nat.size (x.reg rs).toNat)) none none)) ∧
  (∀ (l : Fin 192) (f : Bool) (rd rs : BitVec 5), Issues l (.leafBswap l f rd rs) (.un .bswap f rd rs) asIs (fun _ x =>
    aluDone f rd (bytesReversed (x.reg rs)) none none)) ∧
  (∀ (o : ShOp) (l : Fin 192) (f : Bool) (rd rs amt : BitVec 5), Issues l (shInstr o l f rd rs amt) (.sh o f rd rs amt) asIs (fun _ x =>
    aluDone f rd (aluValue (shiftOf o) x.c (x.reg rs) (amt.setWidth 32)) (aluCarry (shiftOf o) x.c (x.reg rs) (amt.setWidth 32))
      (aluOverflow (shiftOf o) x.c (x.reg rs) (amt.setWidth 32))))) ∧
  ((∀ (o : ImmOp) (l : Fin 192) (rd rs : BitVec 5) (i : BitVec 16), Issues l (immInstr o l rd rs i) (.imm o rd rs i) asIs (fun _ x =>
    aluDone (o == .addiS) rd (immValue o (x.reg rs) i) (aluCarry .add false (x.reg rs) (i.signExtend 32))
      (aluOverflow .add false (x.reg rs) (i.signExtend 32)))) ∧
  (∀ (l : Fin 192) (rd : BitVec 5) (i : BitVec 16), Issues l (.leafLui l rd i) (.lui rd i) asIs (fun _ _ =>
    [(1, .reg rd.toNat (i.setWidth 32 <<< 16))])) ∧
  (∀ (l : Fin 192) (rs : BitVec 5) (i : BitVec 16), Issues l (.leafCmpi l rs i) (.cmpi rs i) asIs (fun _ x =>
    aluDone true 0 (x.reg rs - i.signExtend 32) (aluCarry .sub false (x.reg rs) (i.signExtend 32))
      (aluOverflow .sub false (x.reg rs) (i.signExtend 32)))))

namespace Sys2Proof

/-- The products of R386, on 64 bits. -/
def mulValue (o : MulOp) (a b : W32) : W32 :=
  match o with
  | .mul => a * b
  | .mulhu => (a.setWidth 64 * b.setWidth 64).extractLsb' 32 32
  | .mulhs => (a.signExtend 64 * b.signExtend 64).extractLsb' 32 32

/-- The accumulator's new value before it is fitted, and the effect that takes it there (R386). -/
def macEffect (o : MacOp) (a b : W32) : LeafEff :=
  match o with
  | .mula => .accLoad (a.toInt * b.toInt)
  | .mac => .accAdd (a.toInt * b.toInt)
  | .macu => .accAdd ((a.toNat : Int) * b.toNat)
  | .msu => .accAdd (0 - a.toInt * b.toInt)
  | .msuu => .accAdd (0 - (a.toNat : Int) * b.toNat)

/-- acc.lo, acc.hi, or acc.g sign-extended (R386, R391). -/
def accField (a : BitVec 72) (sel : Fin 3) : W32 :=
  match sel with
  | 0 => a.setWidth 32
  | 1 => (a >>> 32).setWidth 32
  | 2 => (a.sshiftRight 64).setWidth 32

/-- A number clamped to 32 bits signed. -/
def clamp32 (v : Int) : Int := max (-(2 ^ 31)) (min (2 ^ 31 - 1) v)

end Sys2Proof

/-- The multiply and accumulator functions write what R386 says at the distance it says. (R386) -/
def Obligations.LeafMultiplyResults : Prop :=
  (∀ (l : Fin 192) (rd rs rt : BitVec 5),
    let mul := fun c o => Issues l c (.mul o rd rs rt) asIs (fun _ x => [(2, .reg rd.toNat (mulValue o (x.reg rs) (x.reg rt)))])
    mul (.leafMul l rd rs rt) .mul ∧ mul (.leafMulhu l rd rs rt) .mulhu ∧ mul (.leafMulhs l rd rs rt) .mulhs) ∧
  (∀ (l : Fin 192) (rs rt : BitVec 5),
    let mac := fun c o => Issues l c (.mac o rs rt) asIs (fun _ x => [(2, macEffect o (x.reg rs) (x.reg rt))])
    mac (.leafMula l rs rt) .mula ∧ mac (.leafMac l rs rt) .mac ∧ mac (.leafMacu l rs rt) .macu ∧ mac (.leafMsu l rs rt) .msu
      ∧ mac (.leafMsuu l rs rt) .msuu) ∧
  (∀ (l : Fin 192) (rd : BitVec 5) (sel : Fin 3), Issues l (.leafMfa l rd sel) (.mfa rd sel) asIs (fun _ x =>
    [(1, .reg rd.toNat (accField x.acc sel))])) ∧
  (∀ (l : Fin 192) (rd : BitVec 5), Issues l (.leafMfat l rd) (.mfat rd) asIs (fun _ x =>
    [(1, .reg rd.toNat (BitVec.ofInt 32 (clamp32 x.acc.toInt))),
     (1, .flags none none none (some (decide (clamp32 x.acc.toInt ≠ x.acc.toInt))))])) ∧
  (∀ (l : Fin 192) (sel : Fin 3) (rs : BitVec 5), Issues l (.leafMta l sel rs) (.mta sel rs) asIs (fun _ x =>
    [(1, .accPart sel.val (x.reg rs))])) ∧
  (∀ l : Fin 192, Issues l (.leafAclr l) .aclr asIs (fun _ _ => [(1, .accClr)])) ∧
  (∀ (l : Fin 192) (n : BitVec 7), Issues l (.leafAshr l n) (.ashift false n) asIs (fun _ _ => [(3, .accShr n.toNat)])) ∧
  (∀ (l : Fin 192) (n : BitVec 7), Issues l (.leafAshl l n) (.ashift true n) asIs (fun _ _ => [(3, .accShl n.toNat)])) ∧
  (∀ (l : Fin 192) (sat : Bool), Issues l (.leafAccm l sat) (.accm sat) asIs (fun _ _ => [(1, .satMode sat)]))

namespace Sys2Proof

/-- What R387 and R390 say of a division: quotient, remainder and V. -/
structure DivResult where
  q : W32
  r : W32
  v : Bool

/-- DIVU by R387 and R390. -/
def divuSpec (a b : W32) : DivResult :=
  if b = 0 then { q := 0xFFFFFFFF, r := a, v := false }
  else { q := BitVec.ofNat 32 (a.toNat / b.toNat), r := BitVec.ofNat 32 (a.toNat % b.toNat), v := false }

/-- DIVS by R387 and R390: truncation toward zero, the remainder with the dividend's sign. -/
def divsSpec (a b : W32) : DivResult :=
  if b = 0 then { q := if 0 ≤ a.toInt then -1 else 1, r := a, v := false }
  else if a = 0x80000000 ∧ b = -1 then { q := 0x80000000, r := 0, v := true }
  else
    let n := a.toInt.natAbs / b.toInt.natAbs
    let m := a.toInt.natAbs % b.toInt.natAbs
    { q := if (a.toInt < 0) = (b.toInt < 0) then BitVec.ofInt 32 n else BitVec.ofInt 32 (-n)
      r := if a.toInt < 0 then BitVec.ofInt 32 (-m) else BitVec.ofInt 32 m
      v := false }

/-- The completions of a division: both registers of the pair, V, and DZ where the divisor is 0, all at distance 18. -/
def divDone (rp : BitVec 4) (b : W32) (d : DivResult) : List (Nat × LeafEff) :=
  [(18, .reg (2 * rp.toNat) d.q), (18, .reg (2 * rp.toNat + 1) d.r), (18, .flags none none none (some d.v))]
    ++ (if b = 0 then [(18, .setDz)] else [])

end Sys2Proof

/-- DIVU and DIVS give quotient, remainder, V and DZ of R387 and R390 at distance 18. For every pair register, every leaf and every value of dividend and divisor: the quotient goes to the even register and the remainder to the next, truncating toward zero with the dividend's sign for DIVS; division by zero gives 0xFFFF_FFFF (DIVU), or -1 or +1 by the dividend's sign (DIVS), with the dividend as remainder and DZ set; 0x8000_0000 by -1 gives 0x8000_0000, remainder 0, V set; every other division clears V. All complete at distance 18, Z, N and C are untouched, the instruction never traps, and only that leaf changes. (R387) -/
def Obligations.LeafDivideResults : Prop :=
  (∀ (l : Fin 192) (rp : BitVec 4) (rs rt : BitVec 5), Issues l (.leafDivu l rp rs rt) (.div false rp rs rt) asIs (fun _ x =>
    divDone rp (x.reg rt) (divuSpec (x.reg rs) (x.reg rt)))) ∧
  (∀ (l : Fin 192) (rp : BitVec 4) (rs rt : BitVec 5), Issues l (.leafDivs l rp rs rt) (.div true rp rs rt) asIs (fun _ x =>
    divDone rp (x.reg rt) (divsSpec (x.reg rs) (x.reg rt))))

namespace Sys2Proof

/-- The test that COND names, by its number (R388): COND[3:1] selects it and COND[0] inverts it. -/
def condTest (c : LeafCond) (x : Leaf) : Bool :=
  (match c.code.toNat / 2 with
    | 0 => true | 1 => x.z | 2 => x.c | 3 => x.n | 4 => x.v | 5 => x.c && !x.z | 6 => x.n == x.v | _ => !x.z && x.n == x.v)
    != (c.code.toNat % 2 == 1)

/-- A target `off` words from the transfer, modulo 64 KiB (R388). -/
def relTarget (x : Leaf) (off : Int) : BitVec 16 := BitVec.ofInt 16 (x.pc.toNat + 4 * off)

/-- A target in a register, bits [1:0] ignored, modulo 64 KiB (R388). -/
def regTarget (v : W32) : BitVec 16 := (v.setWidth 16 >>> 2) <<< 2

/-- A taken transfer: its target stands behind its two delay slots (R371). -/
def taken (target : BitVec 16) (x : Leaf) : Leaf := { x with redirects := x.redirects ++ [(3, target)] }

/-- The address after both delay slots. -/
def linkOf (x : Leaf) : W32 := BitVec.ofNat 32 (x.pc.toNat + 12)

end Sys2Proof

/-- Branches and jumps go to the target of R388 when their condition holds, link, and have the two delay slots of R371. (R388, R371) -/
def Obligations.LeafControlTransfers : Prop :=
  ((∀ (l : Fin 192) (c : LeafCond) (off : BitVec 22), Issues l (.leafBcond l c off) (.bcond c off)
    (fun _ x => if condTest c x then taken (relTarget x off.toInt) x else x) (fun _ _ => [])) ∧
  (∀ (l : Fin 192) (rs : BitVec 5) (off : BitVec 16), Issues l (.leafBz l rs off) (.bz false rs off)
    (fun _ x => if x.reg rs = 0 then taken (relTarget x off.toInt) x else x) (fun _ _ => [])) ∧
  (∀ (l : Fin 192) (rs : BitVec 5) (off : BitVec 16), Issues l (.leafBnz l rs off) (.bz true rs off)
    (fun _ x => if x.reg rs ≠ 0 then taken (relTarget x off.toInt) x else x) (fun _ _ => [])) ∧
  (∀ (l : Fin 192) (off : BitVec 26), Issues l (.leafJ l off) (.j false off)
    (fun _ x => taken (relTarget x off.toInt) x) (fun _ _ => [])) ∧
  (∀ (l : Fin 192) (off : BitVec 26), Issues l (.leafJal l off) (.j true off)
    (fun _ x => taken (relTarget x off.toInt) x) (fun _ x => [(1, .reg 31 (linkOf x))])) ∧
  (∀ (l : Fin 192) (rs : BitVec 5), Issues l (.leafJr l rs) (.jr rs)
    (fun _ x => taken (regTarget (x.reg rs)) x) (fun _ _ => [])) ∧
  (∀ (l : Fin 192) (rd rs : BitVec 5), Issues l (.leafJalr l rd rs) (.jalr rd rs)
    (fun _ x => taken (regTarget (x.reg rs)) x) (fun _ x => [(1, .reg rd.toNat (linkOf x))]))) ∧
  (∀ (x : Leaf) (a t u : BitVec 16), x.pc = a → x.redirects = [] →
    x.next.pc = a + 4 ∧ x.next.redirects = [] ∧
    (let y := (taken t x).next
     y.pc = a + 4 ∧ y.next.pc = a + 8 ∧ y.next.next.pc = t ∧ y.next.next.redirects = []) ∧
    (let y := (taken u (taken t x).next).next
     y.pc = a + 8 ∧ y.next.pc = t ∧ y.next.next.pc = u ∧ y.next.next.redirects = []))

namespace Sys2Proof

/-- The flags word of R374. -/
def flagsOf (x : Leaf) : W32 :=
  BitVec.ofNat 32 ((if x.z then 1 else 0) + (if x.n then 2 else 0) + (if x.c then 4 else 0) + (if x.v then 8 else 0)
    + (if x.dz then 0x100 else 0) + (if x.acv then 0x200 else 0) + (if x.early then 0x400 else 0))

/-- Effective address and base update of R384, on numbers: `none` where the mode leaves the base. -/
def eaOf (x : Leaf) (rb : BitVec 5) (m : LeafMode) : W32 × Option W32 :=
  let b := (x.reg rb).toNat
  match m with
  | .off i => (BitVec.ofInt 32 (b + i.toInt), none)
  | .post i => (x.reg rb, some (BitVec.ofInt 32 (b + i.toInt)))
  | .pre i => (BitVec.ofInt 32 (b - i.toNat), some (BitVec.ofInt 32 (b - i.toNat)))
  | .idx ri sc => (BitVec.ofNat 32 (b + (x.reg ri).toNat * 2 ^ sc.toNat), none)

/-- The base update, complete at distance 1. -/
def baseDone (x : Leaf) (rb : BitVec 5) (m : LeafMode) : List (Nat × LeafEff) :=
  match (eaOf x rb m).2 with
  | some v => [(1, .reg rb.toNat v)]
  | none => []

/-- A guard holds the line of a data memory address; `outputOnly`: an output guard (R397). -/
def lineGuarded (x : Leaf) (a : Nat) (outputOnly : Bool) : Bool :=
  x.guards.any (fun g => (g.output || !outputOnly) && decide (g.lo ≤ a / 128 ∧ a / 128 ≤ g.hi))

/-- The value that a load of `n` bytes at the aligned address `a` returns and what it does to the leaf (R375, R377, R397, R399);
`none` for a word of the register window. -/
def loadAt (l n a : Nat) (u : State) (x : Leaf) : Option (Nat × (Leaf → Leaf)) :=
  if a < 0x10000 then
    if lineGuarded x a true then some (0, fun x => { x with early := true })
    else if tget 0 x.once (a / 4) = 0 then some (leNat (mread 0 x.dmem a n), id)
    else if tget 0 x.once (a / 4) = 1 then some (leNat (mread 0 x.dmem a n), fun x => { x with once := tset 0 x.once (a / 4) 2 })
    else some (0, fun x => { x with sapTwice := true })
  else if 0x100000 ≤ a ∧ a < 0x140000 then some (leNat (mread 0 (tget [] u.lvs.twig (l / 4)) (a - 0x100000) n), id)
  else if 0x1000000 ≤ a ∧ a < 0x1001000 ∧ n = 4 then none
  else some (0, fun x => { x with unmapped := true })

/-- What a store of the bytes `b` at the aligned address `a` does at issue, and what it puts in flight (R372, R375, R377, R397);
`none` for a word of the register window. -/
def storeAt (b : Bytes) (a : Nat) (x : Leaf) : Option ((Leaf → Leaf) × List (Nat × LeafEff)) :=
  if a < 0x10000 then
    if lineGuarded x a false then some (fun x => { x with early := true }, []) else some (id, [(2, .store false a b)])
  else if 0x100000 ≤ a ∧ a < 0x140000 then some (id, [(2, .store true (a - 0x100000) b)])
  else if 0x1000000 ≤ a ∧ a < 0x1001000 ∧ b.length = 4 then none
  else some (fun x => { x with unmapped := true }, [])

/-- MISALIGN where the address is not a multiple of the width. -/
def misaligned (ea : W32) (n : Nat) (x : Leaf) : Leaf := { x with misalign := x.misalign || decide (ea.toNat % n ≠ 0) }

/-- The command of a load with its width and the value that it gives its register (R384). -/
def IsLoad (c : Instr) (l : Fin 192) (o : MemOp) (rd rb : BitVec 5) (m : LeafMode) (n : Nat) (ext : Nat → W32) : Prop :=
  match o with
  | .lw => c = .leafLw l rd rb m ∧ n = 4 ∧ ext = fun v => BitVec.ofNat 32 v
  | .lh => c = .leafLh l rd rb m ∧ n = 2 ∧ ext = fun v => (BitVec.ofNat 16 v).signExtend 32
  | .lhu => c = .leafLhu l rd rb m ∧ n = 2 ∧ ext = fun v => BitVec.ofNat 32 v
  | .lb => c = .leafLb l rd rb m ∧ n = 1 ∧ ext = fun v => (BitVec.ofNat 8 v).signExtend 32
  | .lbu => c = .leafLbu l rd rb m ∧ n = 1 ∧ ext = fun v => BitVec.ofNat 32 v
  | _ => False

/-- The command of a store with its width (R384). -/
def IsStore (c : Instr) (l : Fin 192) (o : MemOp) (rd rb : BitVec 5) (m : LeafMode) (n : Nat) : Prop :=
  match o with
  | .sw => c = .leafSw l rd rb m ∧ n = 4
  | .sh => c = .leafSh l rd rb m ∧ n = 2
  | .sb => c = .leafSb l rd rb m ∧ n = 1
  | _ => False

end Sys2Proof

/-- Loads return the bytes at EA at distance 3, and stores put the low bytes of rd in flight for the aligned EA at distance 2. (R384, R375, R377, R397, R399, R385, R372) -/
def Obligations.LeafLoadResults : Prop :=
  (∀ (c : Instr) (l : Fin 192) (o : MemOp) (rd rb : BitVec 5) (m : LeafMode) (n : Nat) (ext : Nat → W32), IsLoad c l o rd rb m n ext →
    ∀ s, AtInsn l (.mem o rd rb m) s →
      let u := atIssue l s
      let x := leafAt l u
      let ea := (eaOf x rb m).1
      ∀ v g, loadAt l n (ea.toNat - ea.toNat % n) u x = some (v, g) →
        ∃ t, exec c s = .next t ∧
          OnlyLeaf l (goesOn (g (misaligned ea n x)) (baseDone x rb m ++ [(3, .reg rd.toNat (ext v))])) u t) ∧
  (∀ (c : Instr) (l : Fin 192) (o : MemOp) (rd rb : BitVec 5) (m : LeafMode) (n : Nat), IsStore c l o rd rb m n →
    ∀ s, AtInsn l (.mem o rd rb m) s →
      let u := atIssue l s
      let x := leafAt l u
      let ea := (eaOf x rb m).1
      ∀ g es, storeAt (leBytes n (x.reg rd).toNat) (ea.toNat - ea.toNat % n) x = some (g, es) →
        ∃ t, exec c s = .next t ∧ OnlyLeaf l (goesOn (g (misaligned ea n x)) (baseDone x rb m ++ es)) u t
          ∧ (leafAt l t).dmem = x.dmem ∧ t.lvs.twig = u.lvs.twig)

/-- SWAPW returns the word that the swap before it left and puts rd's value in flight for the word. For every base and offset outside the register window: in twig memory, rd takes at distance 3 the word that the newest swap of it still in flight will leave (this leaf's own, else another's of the twig), else the word in memory, and rd's value as read at issue is in flight for the word at distance 2; in data memory with no guard on the line, no read-once word and no swap of the word in flight, rd takes the word in memory; an unmapped address gives 0 with UNMAPPED and stores nothing. A misaligned access sets MISALIGN. Only that leaf changes at issue. (R384, R385, R378, R377) -/
def Obligations.LeafSwapwResults : Prop :=
  ∀ (l : Fin 192) (rd rb : BitVec 5) (i : BitVec 13) (s : State), AtInsn l (.swapw rd rb i) s →
    let u := atIssue l s
    let x := leafAt l u
    let ea := (eaOf x rb (.off i)).1
    let a := ea.toNat - ea.toNat % 4
    let done := fun (y : Leaf) (es : List (Nat × LeafEff)) =>
      ∃ t, exec (.leafSwapw l rd rb i) s = .next t ∧ OnlyLeaf l (goesOn (misaligned ea 4 y) es) u t
    (0x100000 ≤ a → a < 0x140000 →
      done x [(2, .swap true (a - 0x100000) (x.reg rd)),
              (3, .reg rd.toNat ((pendingSwap l (a - 0x100000) u).getD
                (BitVec.ofNat 32 (leNat (mread 0 (tget [] u.lvs.twig (l / 4)) (a - 0x100000) 4)))))]) ∧
    (a < 0x10000 → lineGuarded x a false = false → tget 0 x.once (a / 4) = 0 →
      (∀ e ∈ x.flight, ∀ v, e.2 ≠ .swap false a v) →
      done x [(2, .swap false a (x.reg rd)), (3, .reg rd.toNat (BitVec.ofNat 32 (leNat (mread 0 x.dmem a 4))))]) ∧
    ((0x10000 ≤ a ∧ a < 0x100000) ∨ (0x140000 ≤ a ∧ a < 0x1000000) ∨ 0x1001000 ≤ a →
      done { x with unmapped := true } [(3, .reg rd.toNat 0)])

namespace Sys2Proof

/-- The accumulator takes the exact result `r` under R391: kept where it fits 72 bits, else ACV with the result modulo 2^72 (SAT 0)
or the nearer extreme (SAT 1). -/
def accTakes (x y : Leaf) (r : Int) : Prop :=
  if -(2 ^ 71) ≤ r ∧ r < 2 ^ 71 then y.acc.toInt = r ∧ y = { x with acc := y.acc }
  else y = { x with acc := y.acc, acv := true } ∧
    (if x.sat then y.acc.toInt = (if 0 < r then 2 ^ 71 - 1 else -(2 ^ 71)) else y.acc = BitVec.ofInt 72 r)

/-- A list of completions stands in the order of their cycles. -/
def inOrder (f : List (Nat × LeafEff)) : Prop := f.Pairwise (fun a b => a.1 ≤ b.1)

end Sys2Proof

/-- Each completion does what its instruction says, and completions act in cycle order, MTF first. (R370, R373, R374, R386, R391, R369) -/
def Obligations.LeafCompletionsAct : Prop :=
  (∀ x : Leaf,
    (∀ (r : BitVec 5) (v : W32), twf 0 x.w = true →
      let y := x.complete (.reg r.toNat v)
      y = { x with w := y.w } ∧ twf 0 y.w = true ∧ ∀ q : BitVec 5, y.reg q = if q = r ∧ r ≠ 0 then v else x.reg q) ∧
    (∀ z n c v : Option Bool, x.complete (.flags z n c v) =
      { x with z := z.getD x.z, n := n.getD x.n, c := c.getD x.c, v := v.getD x.v }) ∧
    (∀ p : Int, accTakes x (x.complete (.accLoad p)) p) ∧
    (∀ p : Int, accTakes x (x.complete (.accAdd p)) (x.acc.toInt + p)) ∧
    (∀ n : Nat, if n < 72 then accTakes x (x.complete (.accShl n)) (x.acc.toInt * 2 ^ n)
      else x.complete (.accShl n) = { x with acc := 0 }) ∧
    (∀ n : Nat, let y := x.complete (.accShr n); y = { x with acc := y.acc } ∧ y.acc.toInt = x.acc.toInt / 2 ^ n) ∧
    (∀ v : W32,
      (x.complete (.accPart 0 v)).acc = x.acc.extractLsb' 64 8 ++ x.acc.extractLsb' 32 32 ++ v ∧
      (x.complete (.accPart 1 v)).acc = x.acc.extractLsb' 64 8 ++ v ++ x.acc.extractLsb' 0 32 ∧
      (x.complete (.accPart 2 v)).acc = v.extractLsb' 0 8 ++ x.acc.extractLsb' 32 32 ++ x.acc.extractLsb' 0 32 ∧
      ∀ sel, let y := x.complete (.accPart sel v); y = { x with acc := y.acc }) ∧
    x.complete .accClr = { x with acc := 0 } ∧
    (∀ b : Bool, x.complete (.satMode b) = { x with sat := b }) ∧
    x.complete .setDz = { x with dz := true } ∧
    (∀ w : W32, x.complete (.mtf w) =
      { x with early := x.early && !w.getLsbD 10, acv := x.acv && !w.getLsbD 9, dz := x.dz && !w.getLsbD 8 })) ∧
  (∀ (f : List (Nat × LeafEff)) (due : Nat) (e : LeafEff), inOrder f →
    inOrder (flightAdd due e f) ∧ (flightAdd due e f).Perm ((due, e) :: f) ∧
    (∀ c, (f.takeWhile (fun y => decide (y.1 ≤ c))) = f.filter (fun y => decide (y.1 ≤ c))) ∧
    ((∀ w, e ≠ .mtf w) → (flightAdd due e f).filter (fun y => decide (y.1 = due)) = f.filter (fun y => decide (y.1 = due)) ++ [(due, e)]) ∧
    ((∃ w, e = .mtf w) → (flightAdd due e f).filter (fun y => decide (y.1 = due)) = (due, e) :: f.filter (fun y => decide (y.1 = due))))

/-- RESULT_COMPLETION does what is due by the leaf's present cycle, in order, and a store then changes exactly its bytes. On a leaf that can run in a running bough: where nothing due is a store, only that leaf changes, to the due completions done in order (and its timer's). Where the one thing due is a store to data memory, the bytes stored read back and every other byte of data memory, and everything outside the leaf, is as before. Where it is a store to twig memory of a twig in which no hollow channel is open on this leaf, the bytes read back and every other byte of every twig's memory is as before. (R369, R372, R399) -/
def Obligations.LeafResultsComplete : Prop :=
  ∀ (l : Fin 192) (s : State), live s = true → leafRuns l s = true → boughRuns (boughOfLeaf l) s = true →
    let x := leafAt l s
    let due := x.flight.takeWhile (fun e => decide (e.1 ≤ x.cyc))
    let rest := x.flight.dropWhile (fun e => decide (e.1 ≤ x.cyc))
    ((∀ e ∈ due, (∀ tw a b, e.2 ≠ .store tw a b) ∧ ∀ tw a v, e.2 ≠ .swap tw a v) →
      ∃ t, exec (.leafResult l) s = .next t ∧
        OnlyLeaf l (Leaf.tick (due.foldl (fun y e => y.complete e.2) { x with flight := rest })) { s with out := [] } t) ∧
    (∀ c a b, due = [(c, .store false a b)] → Memory.wf x.dmem = true → x.timer = none →
      ∃ t, exec (.leafResult l) s = .next t ∧
        OnlyLeaf l { x with flight := rest, dmem := (leafAt l t).dmem, once := tset 0 x.once (a / 4) 0 } { s with out := [] } t ∧
        mread 0 (leafAt l t).dmem a b.length = b ∧
        ∀ j, j < a ∨ a + b.length ≤ j → tget 0 (leafAt l t).dmem j = tget 0 x.dmem j) ∧
    (∀ c a b, due = [(c, .store true a b)] → (∀ e ∈ s.hlw.chan, e.2.open_ = false ∨ e.2.leaf ≠ l.val) →
      twf [] s.lvs.twig = true → Memory.wf (tget [] s.lvs.twig (l / 4)) = true → x.timer = none →
      ∃ t, exec (.leafResult l) s = .next t ∧ leafAt l t = { x with flight := rest } ∧ (∀ k, k ≠ l.val → leafAt k t = leafAt k s) ∧
        t = { s with out := [], lvs := { s.lvs with leaf := t.lvs.leaf, twig := t.lvs.twig } } ∧
        mread 0 (tget [] t.lvs.twig (l / 4)) a b.length = b ∧
        (∀ j, j < a ∨ a + b.length ≤ j → tget 0 (tget [] t.lvs.twig (l / 4)) j = tget 0 (tget [] s.lvs.twig (l / 4)) j) ∧
        ∀ k, k ≠ l.val / 4 → tget [] t.lvs.twig k = tget [] s.lvs.twig k)

namespace Sys2Proof

/-- The WAIT's own event test (R394): the masked events, and whether the WAIT ends. -/
def waitEnds (l : Nat) (mask : W16) (u : State) : Bool := leafPending l u &&& mask != 0 || mask &&& 0x01FF == 0

end Sys2Proof

/-- EVCLR, MFF, MTF, MFS, WAIT and an undefined encoding do what R389, R380 and R395 say. (R389, R393, R394, R395) -/
def Obligations.LeafSystemResults : Prop :=
  ((∀ (l : Fin 192) (rd : BitVec 5), Issues l (.leafMff l rd) (.mff rd) asIs (fun _ x => [(1, .reg rd.toNat (flagsOf x))])) ∧
  (∀ (l : Fin 192) (rs : BitVec 5), Issues l (.leafMtf l rs) (.mtf rs) asIs (fun _ x =>
    let w := x.reg rs
    [(1, .flags (some (w.getLsbD 0)) (some (w.getLsbD 1)) (some (w.getLsbD 2)) (some (w.getLsbD 3))), (1, .mtf w)])) ∧
  (∀ (l : Fin 192) (rd : BitVec 5), Issues l (.leafMfs l rd 0) (.mfs rd 0)
    (fun _ x => { x with cycHi := BitVec.ofNat 32 (x.cyc / 2 ^ 32) }) (fun _ x => [(1, .reg rd.toNat (BitVec.ofNat 32 x.cyc))])) ∧
  (∀ (l : Fin 192) (rd : BitVec 5), Issues l (.leafMfs l rd 1) (.mfs rd 1) asIs (fun _ x => [(1, .reg rd.toNat x.cycHi)])) ∧
  (∀ (l : Fin 192) (rd : BitVec 5), Issues l (.leafMfs l rd 2) (.mfs rd 2) asIs (fun _ _ =>
    [(1, .reg rd.toNat (BitVec.ofNat 32 (l.val + 0x100 * (l.val / 16) + 0x1000 * (l.val % 16))))])) ∧
  (∀ (l : Fin 192) (rd : BitVec 5), Issues l (.leafMfs l rd 3) (.mfs rd 3) asIs (fun u _ =>
    [(1, .reg rd.toNat ((leafPending l u).setWidth 32))])) ∧
  (∀ (l : Fin 192) (rd : BitVec 5), Issues l (.leafMfs l rd 4) (.mfs rd 4)
    (fun u x => { x with slotHi := (u.slt.slot >>> 32).setWidth 32 }) (fun u _ => [(1, .reg rd.toNat (u.slt.slot.setWidth 32))])) ∧
  (∀ (l : Fin 192) (rd : BitVec 5), Issues l (.leafMfs l rd 5) (.mfs rd 5) asIs (fun _ x => [(1, .reg rd.toNat x.slotHi)])) ∧
  (∀ (l : Fin 192) (mask : BitVec 16), Issues l (.leafEvclr l mask) (.evclr mask) (fun _ x =>
    { x with events := if x.timerHit = some x.cyc ∧ x.events.getLsbD 1 = true then (x.events &&& ~~~mask) ||| 2
                       else if x.timerHit = some x.cyc then (x.events &&& ~~~mask) &&& ~~~2
                       else x.events &&& ~~~mask }) (fun _ _ => [])) ∧
  (∀ l : Fin 192, Issues l (.leafUndefined l) .undef (fun _ x => { x with undef := true }) (fun _ _ => []))) ∧
  ((∀ (l : Fin 192) (rd : BitVec 5) (mask : BitVec 16) (s : State), AtInsn l (.wait rd mask) s →
    let x := leafAt l s
    let u : State := { s with out := [] }
    x.flight = [] → x.timer = none →
    if waitEnds l mask s then
      ∃ t, exec (.leafWait l rd mask) s = .next t ∧ OnlyLeaf l (goesOn x [(1, .reg rd.toNat ((leafPending l s &&& mask).setWidth 32))]) u t
    else ∃ t, exec (.leafWait l rd mask) s = .next t ∧ OnlyLeaf l { x with waiting := some (rd.toNat, mask) } u t) ∧
  (∀ (l : Fin 192) (n rd : Nat) (mask : W16) (s : State), live s = true → leafRuns l s = true → (leafAt l s).halted = false →
    boughRuns (boughOfLeaf l) s = true →
    let x := leafAt l s
    let u : State := { s with out := [] }
    x.waiting = some (rd, mask) → x.flight = [] → x.timer = none →
    if waitEnds l mask s then
      ∃ t, exec (.leafWaitWake l n) s = .next t ∧
        OnlyLeaf l (goesOn { x with cyc := x.cyc + n, waiting := none } [(1, .reg rd ((leafPending l s &&& mask).setWidth 32))]) u t
    else ∃ t, exec (.leafWaitWake l n) s = .next t ∧ OnlyLeaf l { x with cyc := x.cyc + n } u t) ∧
  (∀ (l : Fin 192) (d rd : Nat) (mask : W16) (s : State), live s = true → leafRuns l s = true → (leafAt l s).halted = false →
    boughRuns (boughOfLeaf l) s = true →
    let x := leafAt l s
    let u : State := { s with out := [] }
    x.waiting = some (rd, mask) → x.flight = [] → x.timer = some d → x.cyc ≤ d → mask.getLsbD 1 = true →
      ∃ t v, exec (.leafTimer l) s = .next t ∧ v.getLsbD 1 = true ∧
        OnlyLeaf l (goesOn { x with cyc := d, timer := none, timerHit := some d, events := x.events ||| 2, waiting := none }
          [(1, .reg rd v)]) u t) ∧
  (∀ (l : Fin 192) (d : Nat) (s : State), live s = true → (leafAt l s).released = true →
    let x := leafAt l s
    x.waiting = none → x.timer = some d → d ≤ x.cyc →
      ∃ t, exec (.leafTimer l) s = .next t ∧
        OnlyLeaf l { x with timer := none, timerHit := some d, events := x.events ||| 2 } { s with out := [] } t))

/-- Every leaf instruction decodes to itself from its word. For every leaf instruction, with every register, immediate, mode, selector and condition that its encoding admits, the word that the encoding tables give decodes to that instruction; the undefined word decodes as undefined. No bit of an encoding is dropped. A consequence of the tables of R381 to R389. (R380, R381, R383, R384, R386, R387, R388, R389) -/
def Obligations.LeafDecodeOfEncode : Prop := ∀ i : LInsn, leafDecode (leafEncode i) = i

namespace Sys2Proof

/-! ### The sap port -/

/-- The command of a generic sap operation (R401). -/
def IsSap (c : Instr) (l : Fin 192) (t : Fin 8) (desc : BitVec 16) (op : Nat) : Prop :=
  match op with
  | 0x01 => c = .sapAesEcbEncrypt l t desc | 0x02 => c = .sapAesEcbDecrypt l t desc
  | 0x03 => c = .sapAesCtrEncrypt l t desc | 0x04 => c = .sapAesCtrDecrypt l t desc
  | 0x05 => c = .sapAesXtsEncrypt l t desc | 0x06 => c = .sapAesXtsDecrypt l t desc
  | 0x07 => c = .sapGcmSeal l t desc | 0x08 => c = .sapGcmOpen l t desc
  | 0x09 => c = .sapCmacGenerate l t desc | 0x0A => c = .sapCmacVerify l t desc
  | 0x0B => c = .sapGmacGenerate l t desc | 0x0C => c = .sapGmacVerify l t desc
  | 0x0D => c = .sapHmacGenerate l t desc | 0x0E => c = .sapHmacVerify l t desc
  | 0x0F => c = .sapGhash l t desc
  | 0x10 => c = .sapSha256 l t desc | 0x11 => c = .sapSha384 l t desc | 0x12 => c = .sapSha512 l t desc
  | 0x13 => c = .sapSha3256 l t desc | 0x14 => c = .sapSha3384 l t desc | 0x15 => c = .sapSha3512 l t desc
  | 0x16 => c = .sapShake128 l t desc | 0x17 => c = .sapShake256 l t desc
  | 0x18 => c = .sapSp800108Kdf l t desc | 0x20 => c = .sapRandomBytes l t desc
  | _ => False

/-- The descriptor that the leaf names. -/
def sapD (l : Nat) (desc : BitVec 16) (s : State) : SapDesc := sapDesc (mread 0 (leafAt l s).dmem desc.toNat 32)

/-- The leaf submits on an idle tag a descriptor of good form whose output overlaps none of its inputs (R396, R400). -/
def SapGood (l : Nat) (t : Fin 8) (desc : BitVec 16) (op : Nat) (s : State) : Prop :=
  live s = true ∧ leafCanIssue l s = true ∧ (sapTag l t s).req = none ∧ sapForm op (sapD l desc s) = true ∧
  (let d := sapD l desc s
   let n := sapOutLen op d
   overlaps d.dst n desc.toNat 32 = false ∧ overlaps d.dst n d.src d.srcLen = false ∧ overlaps d.dst n d.aux d.auxLen = false)

/-- The tag is taken by a request with that output, and its output lines are guarded; the rest of the leaf, every other leaf and all
else but the live counters is as before (R396, R397). -/
def SapTaken (l : Nat) (t : Fin 8) (dst n : Nat) (s u : State) : Prop :=
  u = { s with out := [], tel := { s.tel with ctr := u.tel.ctr }, lvs := { s.lvs with leaf := u.lvs.leaf } } ∧
  (∀ k, k ≠ l → leafAt k u = leafAt k s) ∧
  leafAt l u = { leafAt l s with tags := (leafAt l u).tags, guards := (leafAt l u).guards } ∧
  (∀ j, j ≠ t.val → sapTag l j u = sapTag l j s) ∧ (sapTag l t u).res = 0 ∧ (sapTag l t u).mid = none ∧
  (∀ g ∈ (leafAt l s).guards, g ∈ (leafAt l u).guards) ∧
  ∀ a, dst ≤ a → a < dst + n → lineGuarded (leafAt l u) a true = true

/-- The key named passes the checks of R130 for the operation. -/
def sapKeyOk (l op : Nat) (d : SapDesc) (s : State) : Prop :=
  ∃ u ts, sapUsage op = some (u, ts) ∧ keyCheck (.bough (boughOfLeaf l)) u ts d.key s = none

/-- What each cipher of R401 delivers on success: its output, none where a tag does not match. -/
def sapCiphertext (op : Nat) (key aux m : Bytes) : Option Bytes :=
  match op with
  | 0x01 => some (ecbEnc key m)
  | 0x02 => some (ecbDec key m)
  | 0x03 | 0x04 => some (ctrCrypt key aux m)
  | 0x05 => some (xtsAny false (Config.xtsPair key) aux m)
  | 0x06 => some (xtsAny true (Config.xtsPair key) aux m)
  | 0x07 => some (gcmCrypt key (aux.take 12) m ++ gcmTag key (aux.take 12) (aux.drop 12) (gcmCrypt key (aux.take 12) m))
  | _ =>
    if gcmTag key (aux.take 12) (aux.drop 12) (m.take (m.length - 16)) = m.drop (m.length - 16) then
      some (gcmCrypt key (aux.take 12) (m.take (m.length - 16))) else none

end Sys2Proof

/-- A cipher submitted with a good descriptor and a permitted key takes its tag with the output of R401. (R396, R397, R400, R401, R130) -/
def Obligations.SapCiphersSubmit : Prop :=
  ∀ (c : Instr) (op : Nat) (l : Fin 192) (t : Fin 8) (desc : BitVec 16) (s : State), op ≤ 0x08 → IsSap c l t desc op →
    SapGood l t desc op s → sapKeyOk l op (sapD l desc s) s → (sapD l desc s).key < 4096 →
    let d := sapD l desc s
    let m := localRead l d.src d.srcLen s
    let aux := localRead l d.aux d.auxLen s
    let v := vslot d.key s
    ∃ u r, exec c s = .next u ∧ SapTaken l t d.dst (sapOutLen op d) s u ∧ (sapTag l t u).req = some r ∧
      r.dst = d.dst ∧ r.key = some (d.key, v.gen) ∧ r.toSlots = [] ∧ r.secure = 0 ∧
      match sapCiphertext op v.mat aux m with
      | some out => r.code = 0 ∧ r.out = out ∧ r.len = out.length ∧ r.once = decide (op = 0x08)
      | none => r.code = 0x5013 ∧ r.out = List.replicate (m.length - 16) 0 ∧ r.once = false

/-- Hashes and MACs run over one request or span several, and end with digest, MAC or comparison. For the CMAC, GMAC and HMAC operations, GHASH, SHA-2, SHA-3 and SHAKE on an idle tag with a good descriptor (and, for those with a key, a slot that passes R130): a request that is FIRST starts the message, one that is not continues what the tag's last request of the same operation and key left, and one that has nothing to continue is refused with 0xF000. Without LAST the tag keeps the message so far and there is no output; with LAST a generating operation delivers the digest or MAC of the whole message and a verifying one CODE 0 or 0x5013. (Compared tag and AUX layout: log entry 8.) (R396, R400, R401) -/
def Obligations.SapHashesSubmit : Prop :=
  ∀ (c : Instr) (op : Nat) (l : Fin 192) (t : Fin 8) (desc : BitVec 16) (s : State), 0x09 ≤ op → op ≤ 0x17 → IsSap c l t desc op →
    SapGood l t desc op s →
    let d := sapD l desc s
    (op ≤ 0x0F → sapKeyOk l op d s ∧ d.key < 4096) →
    let m := localRead l d.src d.srcLen s
    let aux := localRead l d.aux d.auxLen s
    let key := if op ≤ 0x0F then (vslot d.key s).mat else []
    let before : Option Bytes :=
      if d.first then some [] else ((sapTag l t s).mid.filter (fun x => decide (x.op = op ∧ x.key = key))).map (·.msg)
    ∃ u r, exec c s = .next u ∧ SapTaken l t d.dst (sapOutLen op d) s u ∧ (sapTag l t u).req = some r ∧ r.toSlots = [] ∧ r.secure = 0 ∧
      match before with
      | none => r.code = 0xF000 ∧ r.out = List.replicate (sapOutLen op d) 0 ∧ r.mid = none
      | some b =>
        if d.last then
          r.mid = none ∧
          (if sapVerifies op then r.out = [] ∧ r.code = (if sapDigest op d key aux (b ++ m) = sapGiven op aux then 0 else 0x5013)
           else r.code = 0 ∧ r.dst = d.dst ∧ r.out = sapDigest op d key aux (b ++ m) ∧ r.once = false)
        else r.code = 0 ∧ r.out = [] ∧ r.mid = some { op := op, key := key, msg := b ++ m }

/-- The KDF fills an empty slot or gives open output by DEST, and RANDOM_BYTES draws from the limb's DRBG. Operation 0x18 with a DERIVE slot of DEST 0 and a target slot that the checks of R127 and R129 pass makes a request that fills the target with the derived material and gives the leaf nothing; with OUT_OPEN and a source of DEST 2 it delivers the derived bytes read-once; with any other DEST it is refused with 0xF000 and 0x5002 for the SECURE class. Operation 0x20 with the limb's DRBG able to serve delivers its bytes read-once and advances that DRBG and nothing else; with a DRBG that cannot the request is taken and waits from now on. (KDF fixed data: log entry 8.) (R129, R131, R152, R401) -/
def Obligations.SapDerivesAndRandom : Prop :=
  (∀ (l : Fin 192) (t : Fin 8) (desc : BitVec 16) (s : State), SapGood l t desc 0x18 s →
    let d := sapD l desc s
    sapKeyOk l 0x18 d s → d.key < 4096 →
    let v := vslot d.key s
    let aux := localRead l d.aux d.auxLen s
    ∃ u r, exec (.sapSp800108Kdf l t desc) s = .next u ∧ SapTaken l t d.dst (sapOutLen 0x18 d) s u ∧ (sapTag l t u).req = some r ∧
      (d.outOpen = true → attrDest v.attr = 2 → r.code = 0 ∧ r.out = sapKdf v.mat aux d.outLen ∧ r.once = true ∧ r.toSlots = []) ∧
      (d.outOpen = true → attrDest v.attr ≠ 2 → r.code = 0xF000 ∧ r.secure = 0x5002 ∧ r.toSlots = []) ∧
      (d.outOpen = false → attrDest v.attr ≠ 0 → r.code = 0xF000 ∧ r.secure = 0x5002 ∧ r.toSlots = []) ∧
      (d.outOpen = false → attrDest v.attr = 0 → newSlotCode d.outKey d.outAttr s = none → attrType d.outAttr ≠ 5 →
        r.code = 0 ∧ r.out = [] ∧ r.toSlots = [(d.outKey, d.outAttr, sapKdf v.mat aux (matLen d.outAttr s))])) ∧
  (∀ (l : Fin 192) (t : Fin 8) (desc : BitVec 16) (s : State), SapGood l t desc 0x20 s →
    let d := sapD l desc s
    let i := limbOfBough (boughOfLeaf l)
    match drbgRequest i false d.outLen { s with out := [] } with
    | some (b, s') => ∃ u r, exec (.sapRandomBytes l t desc) s = .next u ∧ SapTaken l t d.dst d.outLen s' u ∧
        (sapTag l t u).req = some r ∧ r.code = 0 ∧ r.out = b ∧ r.once = true ∧ r.dst = d.dst ∧ r.draw = none
    | none => ∃ u r, exec (.sapRandomBytes l t desc) s = .next u ∧ SapTaken l t d.dst d.outLen s u ∧
        (sapTag l t u).req = some r ∧ r.draw = some (d.outLen, s.now) ∧ r.dst = d.dst ∧ r.once = true)

/-- READY delivers a request's output and result once, a busy tag or engine rejects, and a leaf's DMA moves its bytes. (R152, R393, R396, R397, R398, R399, R402) -/
def Obligations.SapReadyAndDma : Prop :=
  (∀ (l : Fin 192) (t : Fin 8) (s : State) (r : SapReq), live s = true → leafAlive l s = true → (sapTag l t s).req = some r →
    r.entry = none → r.commit = none → r.toSlots = [] → r.draw = none → r.awaits = [] → r.secure = 0 → r.why = 0 → r.code ≠ 0x5011 → Memory.wf (leafAt l s).dmem = true →
    twf {} (leafAt l s).tags = true →
    let x := leafAt l s
    ∃ u y, exec (.sapRequestReady l t) s = .next u ∧ OnlyLeaf l y { s with out := [] } u ∧
      sapTag l t u = { req := none, res := BitVec.ofNat 32 (r.code.toNat * 0x10000 + min r.len 0xFFFF), mid := r.mid } ∧
      y = { x with dmem := y.dmem, once := y.once, guards := x.guards.filter (fun g => g.who != t.val), tags := y.tags,
                   events := x.events ||| 0x20 } ∧
      mread 0 y.dmem r.dst r.out.length = r.out ∧
      ∀ a, a < r.dst ∨ r.dst + r.out.length ≤ a → tget 0 y.dmem a = tget 0 x.dmem a) ∧
  (∀ (l : Fin 192) (t : Fin 8) (s : State) (r : SapReq) (n since : Nat), live s = true → leafAlive l s = true →
    (sapTag l t s).req = some r → r.entry = none → r.commit = none → r.toSlots = [] → r.draw = some (n, since) → r.once = true →
    r.secure = 0 → r.why = 0 → r.awaits = [] → drbgRequest (limbOfBough (boughOfLeaf l)) false n { s with out := [] } = none →
    (s.now < since + 10 ^ 10 → ∃ u, exec (.sapRequestReady l t) s = .next u ∧ (sapTag l t u).req = some r) ∧
    (since + 10 ^ 10 ≤ s.now → ∃ u, exec (.sapRequestReady l t) s = .next u ∧
      sapTag l t u = { req := none, res := BitVec.ofNat 32 (0x5011 * 0x10000 + min r.len 0xFFFF), mid := r.mid } ∧
      mread 0 (leafAt l u).dmem r.dst n = List.replicate n 0 ∧ (leafAt l u).events = (leafAt l s).events ||| 0x20)) ∧
  (∀ (c : Instr) (op : Nat) (l : Fin 192) (t : Fin 8) (desc : BitVec 16) (s : State), IsSap c l t desc op → live s = true →
    leafCanIssue l s = true → (sapTag l t s).req.isSome = true →
    ∃ u, exec c s = .next u ∧ OnlyLeaf l { leafAt l s with sapReject := true } { s with out := [] } u) ∧
  (∀ (l : Fin 192) (desc : BitVec 16) (s : State), live s = true → leafCanIssue l s = true →
    let x := leafAt l s
    (x.xfer.isSome = true → ∃ u, exec (.leafDmaSubmit l desc) s = .next u ∧ OnlyLeaf l { x with dmaReject := true } { s with out := [] } u) ∧
    (x.xfer = none →
      let d := leafXfer (mread 0 x.dmem (desc.toNat / 16 * 16) 32) s
      ∃ u y, exec (.leafDmaSubmit l desc) s = .next u ∧ OnlyLeaf l y { s with out := [] } u ∧ y.xfer = some d ∧
        y = { x with xfer := some d, dmaDone := false, guards := y.guards } ∧
        (d.refused = true → y.guards = x.guards) ∧
        (d.refused = false → d.toFar = false → d.local_ < 0x10000 → ∀ a, d.local_ ≤ a → a < d.local_ + d.len → lineGuarded y a true = true))) ∧
  (∀ (l : Fin 192) (bad : List Nat) (s : State) (d : LeafXfer), live s = true → (leafAt l s).xfer = some d →
    boughRuns (boughOfLeaf l) s = true → d.refused = false → d.toFar = true → d.bough = true →
    twf [] s.lvs.bough = true → Memory.wf (tget [] s.lvs.bough (l / 16)) = true →
    let x := leafAt l s
    let b := localRead l d.local_ d.len s
    ∃ u, exec (.leafDmaDone l bad) s = .next u ∧
      leafAt l u = { x with xfer := none, dmaDone := true, dmaResult := 0, events := x.events ||| 0x80,
                            guards := x.guards.filter (fun g => g.who != 8) } ∧
      (∀ k, k ≠ l.val → leafAt k u = leafAt k s) ∧
      u = { s with out := [], tel := { s.tel with ctr := u.tel.ctr }, lvs := { s.lvs with leaf := u.lvs.leaf, bough := u.lvs.bough } } ∧
      mread 0 (tget [] u.lvs.bough (l / 16)) d.far b.length = b ∧
      (∀ a, a < d.far ∨ d.far + b.length ≤ a → tget 0 (tget [] u.lvs.bough (l / 16)) a = tget 0 (tget [] s.lvs.bough (l / 16)) a) ∧
      ∀ k, k ≠ l.val / 16 → tget [] u.lvs.bough k = tget [] s.lvs.bough k)

namespace Sys2Proof

/-! ### The Burl engines -/

/-- The command of a Burl operation (R411). -/
def IsBrl (c : Instr) (op : Nat) (w : BrlSender) : Prop :=
  match op with
  | 0x01 => c = .brlModexp w | 0x02 => c = .brlModmul w | 0x03 => c = .brlModinv w
  | 0x10 => c = .brlRsaLoad w | 0x11 => c = .brlRsaPriv w
  | 0x20 => c = .brlEcPub w | 0x21 => c = .brlEcdsaSign w | 0x22 => c = .brlEcdsaVerify w | 0x23 => c = .brlEcMul w
  | 0x24 => c = .brlEcdhEph w | 0x25 => c = .brlEcdh w
  | 0x30 => c = .brlMldsaPub w | 0x31 => c = .brlMldsaSign w | 0x32 => c = .brlMldsaVerify w
  | 0x38 => c = .brlMlkemPub w | 0x39 => c = .brlMlkemEncaps w | 0x3A => c = .brlMlkemDecaps w
  | 0x40 => c = .brlLmsVerify w
  | _ => False

/-- The job that a descriptor becomes at its port: the key slot it names with its GEN, its PARAM and its material, or the code by which
the vault refuses it (05 R130, R136), and on a fenced engine its result 0x5034. -/
def brlQueued (b port : Nat) (d : Bytes) (ops : List Bytes) (s : State) : BrlJob :=
  let h := fieldLe d 4 2
  let op := fieldLe d 0 1
  { desc := d, ops := ops, key := if h < 4096 ∧ brlUsages op ≠ [] then some (h, (vslot h s).gen) else none,
    mat := if brlKeyCode b port op h s = none ∧ brlUsages op ≠ [] then (vslot h s).mat else []
    param := attrParam (vslot h s).attr, denied := brlKeyCode b port op h s
    res := if (eng b s).fenced then some { code := 0x5034, seen := 0x5034, regs := (eng b s).regs } else none }

/-- Guards of the lines of `n` bytes at `a` in data memory, held by the Burl job. -/
def brlRange (output : Bool) (a n : Nat) : List Guard :=
  if n = 0 ∨ 0x10000 ≤ a then [] else [{ who := 9, output := output, lo := a / 128, hi := (a + n - 1) / 128 }]

/-- The lines a job guards: its descriptor, its local operands, and its local output (R410). -/
def brlGuardsOf (d : Bytes) (at_ : Nat) : List Guard :=
  brlRange false at_ 96
    ++ (brlOps d).flatMap (fun r => if r.loc = 1 then brlRange false r.addr r.len else [])
    ++ (if (brlOutRef d).loc = 1 then brlRange true (brlOutRef d).addr (brlOutRef d).len else [])

end Sys2Proof

/-- Modular operations give the power, the product and the inverse for an odd modulus of exactly BITS bits. For an odd modulus m of exactly BITS bits, MODEXP's output is a^e mod m and MODMUL's is a·x mod m, as BITS/8 big-endian bytes; MODINV gives the v below m with a·v = 1 mod m where a and m are coprime, and CODE 0x5038 where they are not. An even modulus or one of another length ends with CODE 0x5035. (R411) -/
def Obligations.BurlModular : Prop :=
  ∀ (bits a x m : Nat),
    (m % 2 = 1 → m.log2 + 1 = bits →
      brlModular 0x01 bits a x m = .ok { out := beBytes (bits / 8) (a ^ x % m) } ∧
      brlModular 0x02 bits a x m = .ok { out := beBytes (bits / 8) (a * x % m) } ∧
      (1 < m → Nat.Coprime a m → ∃ v, v < m ∧ a * v % m = 1 ∧ brlModular 0x03 bits a x m = .ok { out := beBytes (bits / 8) v }) ∧
      (¬ Nat.Coprime a m → brlModular 0x03 bits a x m = .error 0x5038)) ∧
    (∀ op, m % 2 = 0 ∨ m.log2 + 1 ≠ bits → brlModular op bits a x m = .error 0x5035)

/-- Burl operations take their sender's idle port, start in the order of R404, and deliver at release. (R130, R136, R404, R410, R411, R420, R407, R422) -/
def Obligations.BurlSubmissions : Prop :=
  ((∀ (c : Instr) (op : Nat) (l : Fin 192) (desc : BitVec 16) (s : State), IsBrl c op (.leaf l desc) → live s = true →
    leafCanIssue l s = true →
    let x := leafAt l s
    let a := desc.toNat / 16 * 16
    let d := mread 0 x.dmem a 96
    let b := l.val / 16
    fieldLe d 0 1 = op →
    (brlPort (eng b s) (l.val % 16) = noJob →
      exec c s = .next (setEng b { eng b s with ports := tset {} (eng b s).ports (l.val % 16) (brlQueued b (l.val % 16) d [] s) }
        (setLeaf l { x with guards := x.guards ++ brlGuardsOf d a } { s with out := [] }))) ∧
    (brlPort (eng b s) (l.val % 16) ≠ noJob →
      exec c s = .next (setLeaf l { x with brl := { x.brl with reject := true } } { s with out := [] }))) ∧
  (∀ (c : Instr) (op : Nat) (b : Fin 12) (d : Bytes) (ops : List Bytes) (s : State), op < 256 → live s = true →
    let d' : Bytes := BitVec.ofNat 8 op :: (padTo 96 d).drop 1
    (IsBrl c op (.taproot b d ops) → brlPort (eng b s) 16 = noJob →
      exec c s = .next (setEng b { eng b s with ports := tset {} (eng b s).ports 16 (brlQueued b 16 d' ops s) } { s with out := [] })) ∧
    (IsBrl c op (.custody b d ops) → brlPort (eng b s) 17 = noJob →
      exec c s = .next (setEng b { eng b s with ports := tset {} (eng b s).ports 17 (brlQueued b 17 d' ops s) } { s with out := [] })))) ∧
  ((∀ (b : Fin 12) (dram : Bool) (s : State), live s = true → (eng b s).fenced = false → (∀ p ∈ (eng b s).ports, p.2.running = false) →
    brlOn b s = true → boughRuns b s = true →
    ∀ p, p < 18 → brlPort (eng b s) p ≠ noJob →
      (p ≠ 16 → brlPort (eng b s) 16 = noJob) →
      (p < 16 → brlPort (eng b s) 17 = noJob ∧
        ∀ q, q < 16 → (q + 15 - (eng b s).lastLeaf % 16) % 16 < (p + 15 - (eng b s).lastLeaf % 16) % 16 → brlPort (eng b s) q = noJob) →
      let who := brlWho b p s
      let s1 := if (eng b s).last = some who then { s with out := [] } else bump (cBough b 6) { s with out := [] }
      let s2 := if p < 16 then leafBrlClear (16 * b + p) s1 else s1
      let regs := if (eng b s).last = some who then (eng b s).regs else []
      let s3 := setEng b { eng b s with regs := regs, last := some who } s2
      let j := { brlPort (eng b s) p with running := true, since := s.now, dram := dram }
      let r := brlRun b p j dram regs s3
      let s4 := if r.1.code = 0x5011 then s3 else r.2
      exec (.burlJobStart b dram) s = .next (setEng b { eng b s4 with ports := tset {} (eng b s4).ports p { j with res := some r.1 } } s4)) ∧
  (∀ (b : Fin 12) (s : State) (p : Nat) (j : BrlJob) (r : BrlOut), live s = true → boughRuns b s = true → (eng b s).fenced = false →
    (eng b s).ports.find? (fun e => e.2.running) = some (p, j) → p < 16 → j.res = some r → j.orphan = false →
    (leafAt (16 * b + p) s).released = true →
    (r.code = 0 → r.fence = false → r.secure = 0 → r.secret = [] → r.toSlot = none → (brlOutRef j.desc).loc = 3 →
      ∃ t, exec (.burlJobRelease b .none) s = .next t ∧
        t = { s with out := [], tel := t.tel, brl := t.brl, lvs := { s.lvs with leaf := t.lvs.leaf, bough := t.lvs.bough } } ∧
        t.brl = { s.brl with eng := tset {} s.brl.eng b { eng b s with
          ports := tset {} (eng b s).ports p noJob, regs := r.regs, lastCode := 0, lastOp := fieldLe j.desc 0 1, lastSub := p, lastLeaf := p } } ∧
        leafAt (16 * b + p) t = { leafAt (16 * b + p) s with
          guards := (leafAt (16 * b + p) s).guards.filter (fun g => g.who != 9),
          brl := { (leafAt (16 * b + p) s).brl with ready := true, code := r.seen, len := min r.out.length 0xFFFF, window := [], read := [] },
          events := setBit (leafAt (16 * b + p) s).events 6 true } ∧
        (∀ k, k ≠ 16 * b.val + p → leafAt k t = leafAt k s) ∧
        t.tel = { s.tel with ctr := t.tel.ctr } ∧
        t.lvs.bough = tset [] s.lvs.bough b (mwrite 0 (tget [] s.lvs.bough b) (brlOutRef j.desc).addr r.out)) ∧
    (r.code ≠ 0x5011 → twf [] s.lvs.bough = true → ∃ t, exec (.burlJobRelease b .guard) s = .next t ∧
      (eng b t).fenced = true ∧ (eng b t).regs = [] ∧ brlPort (eng b t) p = noJob ∧
      (leafAt (16 * b + p) t).brl.ready = true ∧ (leafAt (16 * b + p) t).brl.code = 0x5030 ∧
      (∀ k, k ≠ 16 * b.val + p → leafAt k t = leafAt k s) ∧ (∀ k, k ≠ b.val → eng k t = eng k s) ∧
      (∀ k, tget [] t.lvs.bough k = tget [] s.lvs.bough k) ∧ t.lvs.work = s.lvs.work)))

/-- A curve record is installed only if every check of R415 passes, and unloaded only while no slot names it. CURVE_LOAD by a PF1 host with no check in progress takes BRL_CURVE_BUF's 448 bytes for checking. CURVE_LOAD_DONE zeroes the buffer and: installs a record that passes all checks under an absent ID with result 0; ends with CURVE_REJECTED and the number of the first failing check in FAILED_CHECK; or ends with CURVE_LOADED for an ID that is present. A record that passes has what checks 1, 2, 4-6, 8-12 ask. CURVE_UNLOAD removes an ID that no slot names, and gives CURVE_IN_USE while one does. (Random bases of the prime tests are free values, log entry 6; check 1 before CURVE_LOADED: log entry 16.) (R414, R415) -/
def Obligations.CurveTable : Prop :=
  (∀ s, live s = true → s.boot.pf1 = true → s.brl.checking = none →
    exec .curveLoad s = .next { s with out := [], brl := { s.brl with checking := some (mread 0 s.brl.buf 0 448) } }) ∧
  (∀ s r, live s = true → s.brl.checking = some r →
    let id := fieldLe r 0 1
    let f := curveCheck r s.freeCtr
    let brl : Brl := { s.brl with checking := none, buf := [] }
    let s' : State := { s with out := [], freeCtr := s.freeCtr + 128 }
    (f = 0 → tget [] s.brl.curves id = [] →
      exec .curveLoadDone s = .next { s' with brl := { brl with curves := tset [] s.brl.curves id r, curveResult := 0, failedCheck := 0 } }) ∧
    (f ≠ 0 → (f = 1 ∨ tget [] s.brl.curves id = []) →
      exec .curveLoadDone s = .next (emit .info 0x503A (srcTree 0) [] { s' with brl := { brl with curveResult := 0x503A, failedCheck := f } })) ∧
    (f ≠ 1 → tget [] s.brl.curves id ≠ [] →
      exec .curveLoadDone s = .next (emit .info 0x503B (srcTree 0) [] { s' with brl := { brl with curveResult := 0x503B, failedCheck := 0 } }))) ∧
  (∀ r k, curveCheck r k = 0 →
    let c := curveOfRec r
    let h := fieldLe r 1 1
    let bits := fieldLe r 2 2
    3 ≤ fieldLe r 0 1 ∧ fieldLe r 0 1 ≤ 15 ∧ allZero (slice r 4 12) = true ∧ 160 ≤ bits ∧ bits ≤ 576 ∧
    c.p.log2 + 1 = bits ∧ 3 < c.p ∧ c.a < c.p ∧ c.b < c.p ∧ c.gx < c.p ∧ c.gy < c.p ∧
    (4 * c.a ^ 3 + 27 * c.b ^ 2) % c.p ≠ 0 ∧ 1 ≤ h ∧ h ≤ 8 ∧ bits ≤ c.n.log2 + 4 ∧
    ((h * c.n : Int) - c.p - 1) ^ 2 ≤ 4 * c.p ∧ c.n ≠ c.p ∧ (∀ i, 1 ≤ i → i ≤ 100 → c.p ^ i % c.n ≠ 1) ∧
    onCurve c c.gx c.gy = true ∧ ecMul c c.n c.g = none) ∧
  (∀ (id : Fin 16) s, live s = true → s.boot.pf1 = true → s.brl.checking = none →
    ((∀ e ∈ s.vault.slots, e.2.mat ≠ [] → attrType e.2.attr = 5 → attrParam e.2.attr ≠ id.val) →
      exec (.curveUnload id) s = .next { s with out := [], brl := { s.brl with curves := tset [] s.brl.curves id [], curveResult := 0, failedCheck := 0 } }) ∧
    (3 ≤ id.val → (∃ e ∈ s.vault.slots, e.2.mat ≠ [] ∧ attrType e.2.attr = 5 ∧ attrParam e.2.attr = id.val) →
      exec (.curveUnload id) s = .next (emit .info 0x503C (srcTree 0) [] { s with out := [], brl := { s.brl with curveResult := 0x503C, failedCheck := 0 } })))

namespace Sys2Proof

/-! ### The check units -/

/-- The requester owns the unit and its bough is powered (R155; 03 R74). -/
def ChkMine (u : Fin 13) (who : ChkUser) (s : State) : Prop :=
  live s = true ∧ chkOwns u who (chk u s) = true ∧ (u.val < 12 → boughOff u s = false)

end Sys2Proof

/-- A check unit takes its owner's configuration, data and START, absorbs in order, and gives RESULT and RAW when READY. (R155, R156, R157, R158, R159, R160) -/
def Obligations.CheckUnits : Prop :=
  (∀ (u : Fin 13) (who : ChkUser) (v : W32) s, ChkMine u who s →
    let c := chk u s
    let s0 : State := { s with out := [] }
    let m := fun (x : W32) => BitVec.ofNat 32 (x.toNat % 2 ^ c.width)
    exec (.chkConfigWrite u who .init v) s = .next (setChk u { c with init := m v } s0) ∧
    (c.fifo = [] →
      exec (.chkConfigWrite u who .poly v) s = .next (setChk u { c with poly := m v } s0) ∧
      exec (.chkConfigWrite u who .xorOut v) s = .next (setChk u { c with xorOut := m v } s0) ∧
      (1 ≤ v.toNat % 64 → v.toNat % 64 ≤ 32 →
        let n := fun (x : W32) => BitVec.ofNat 32 (x.toNat % 2 ^ (v.toNat % 64))
        exec (.chkConfigWrite u who .cfg v) s = .next (setChk u { c with width := v.toNat % 64, refIn := v.getLsbD 6, refOut := v.getLsbD 7, poly := n c.poly, init := n c.init, xorOut := n c.xorOut } s0)) ∧
      (v.toNat % 64 = 0 ∨ 32 < v.toNat % 64 → exec (.chkConfigWrite u who .cfg v) s = .next (setChk u { c with cfgErr := true } s0))) ∧
    (c.fifo ≠ [] → ∀ r, r ≠ .init → exec (.chkConfigWrite u who r v) s = .next (setChk u { c with cfgErr := true } s0)) ∧
    exec (.chkStart u who) s = .next (setChk u { c with st := c.init, bytes := 0, fifo := [], ready := false, dropped := c.dropped || c.fifo != [] } s0) ∧
    (∀ n : Fin 3, (c.fifo.length < 4 →
        exec (.chkDataWrite u who n v) s = .next (setChk u { c with fifo := c.fifo ++ [leBytes (2 ^ n.val) v.toNat], ready := false } s0)) ∧
      (4 ≤ c.fifo.length → u.val < 12 →
        exec (.chkDataWrite u who n v) s = .next (bump (cBough u 11) (setChk u { c with overrun := true } s0))))) ∧
  (∀ (u : Fin 13) s e t, live s = true → (chk u s).fifo = e :: t →
    let c := chk u s
    let c' := { c with st := BitVec.ofNat 32 (e.foldl (crcByte c.width c.poly.toNat c.refIn) c.st.toNat), fifo := t, bytes := BitVec.ofNat 32 (min (c.bytes.toNat + e.length) 0xFFFFFFFF) }
    exec (.chkAbsorb u) s = .next (setChk u (if t = [] then { c' with
        ready := true, raw := c'.st,
        result := BitVec.ofNat 32 ((if c.refOut then reflect c.width c'.st.toNat else c'.st.toNat) ^^^ c.xorOut.toNat) } else c') { s with out := [] })) ∧
  (∀ (u : Fin 13) (raw : Bool) s, live s = true → (u.val < 12 → boughOff u s = false) →
    let c := chk u s
    (c.ready = true → exec (.chkResultRead u raw) s = .next { s with out := [.value ((if raw then c.raw else c.result).setWidth 64)] }) ∧
    (c.ready = false → exec (.chkResultRead u raw) s = .next (setChk u { c with early := true } { s with out := [.value 0] }))) ∧
  (∀ (u : Fin 12) (who : ChkUser) (r : ChkReg) (v : W32) s, live s = true → boughOff u s = false → chkOwns u who (chk u s) = false →
    exec (.chkConfigWrite ⟨u, by omega⟩ who r v) s = .next (setChk u { chk u s with intrude := true } { s with out := [] })) ∧
  (∀ (u : Fin 13) (who : ChkUser) s, ChkMine u who s → (chk u s).fifo = [] → (chk u s).raw = (chk u s).st → (chk u s).st.toNat < 2 ^ (chk u s).width →
    ∃ t1 t2, exec (.chkConfigWrite u who .init (chk u s).raw) s = .next t1 ∧ exec (.chkStart u who) t1 = .next t2 ∧
      (twf {} s.chk = true → (chk u t2).st = (chk u s).st ∧ (chk u t2).width = (chk u s).width ∧ (chk u t2).poly = (chk u s).poly ∧
        (chk u t2).bytes = 0 ∧ (chk u t2).ready = false))

namespace Sys2Proof

/-! ### Hollows -/

/-- The function is the outside end of the channel and reaches its block (R429; BAR0 after the first installation, 04 R99). -/
def HlwMine (pf1 : Bool) (c : Fin 64) (s : State) : Prop :=
  live s = true ∧ (if pf1 then c.val < 16 ∧ s.boot.pf1 = true else 16 ≤ c.val ∧ s.grn.installed = true ∧ (s.boot.pf1 = true → (hchan c s).outside = 0))

/-- `t` is `s` but for channel `c`, the twig memories, the live counters and the outputs. -/
def OnlyHollow (c : Nat) (s t : State) : Prop :=
  t = { s with out := t.out, tel := { s.tel with ctr := t.tel.ctr }, lvs := { s.lvs with twig := t.lvs.twig }, hlw := { s.hlw with chan := t.hlw.chan } } ∧
  ∀ k, k ≠ c → hchan k t = hchan k s

/-- Twig memories are `s`'s but for the listed ranges (offset, length) of twig `w`. -/
def TwigKept (w : Nat) (ranges : List (Nat × Nat)) (s t : State) : Prop :=
  (∀ k, k ≠ w → tget [] t.lvs.twig k = tget [] s.lvs.twig k) ∧
  ∀ a, (∀ r ∈ ranges, a < r.1 ∨ r.1 + r.2 ≤ a) → tget 0 (tget [] t.lvs.twig w) a = tget 0 (tget [] s.lvs.twig w) a

/-- Channel table and twig memories in canonical form. -/
def HlwWf (c : Nat) (s : State) : Prop :=
  twf {} s.hlw.chan = true ∧ twf [] s.lvs.twig = true ∧ Memory.wf (tget [] s.lvs.twig (hchan c s).twig) = true

/-- What R436 asks of an opening. -/
def HlwOpens (c : Nat) (x : Hchan) (s : State) : Prop :=
  (if c < 16 then x.outside = 1 else x.outside ≠ 1 ∧ x.outside ≤ 33) ∧ x.leaf < 192 ∧
  (leafAt x.leaf s).released = true ∧ (leafAt x.leaf s).role ≠ 0 ∧ (leafAt x.leaf s).role ≠ 5 ∧
  (s.grn.grain.boughs.getD (x.leaf / 16) {}).freezable = 0 ∧ 256 * x.area + 1280 ≤ 0x40000 ∧
  (∀ r ∈ twigRegions s.grn.grain (x.leaf / 4), overlaps (256 * x.area) 1280 r.1 r.2 = false) ∧
  ∀ e ∈ s.hlw.chan, e.1 ≠ c → e.2.open_ = true → e.2.leaf / 4 = x.leaf / 4 → overlaps (256 * x.area) 1280 (256 * e.2.area) 1280 = false

end Sys2Proof

/-- A channel's outside end sends with the next SEQ into the leaf's area, takes messages and acknowledgements, and acknowledges. (R430, R433, R440) -/
def Obligations.HollowSendAndTake : Prop :=
  ∀ (pf1 : Bool) (c : Fin 64) (s : State), HlwMine pf1 c s → HlwWf c s →
    let x := hchan c s
    let base := 256 * x.area
    let w := x.leaf / 4
    (x.open_ = true → x.dirOut = false → x.notice = false → x.waiting.length + x.taken.length + x.acks.length < 8 →
      hdead x s = false → x.rxEn = false →
      let q := x.seq + 1
      let d := mread 0 x.tx 0 64
      let slot := base + 0x100 + 128 * (x.delivered.toNat % 8)
      ∃ t, exec (.hollowSend pf1 c) s = .next t ∧ OnlyHollow c s t ∧ t.out = [] ∧
        hchan c t = { x with seq := q, delivered := x.delivered + 1, tx := [],
                             waiting := x.waiting ++ [{ seq := q, data := d, at_ := s.now }] } ∧
        mread 0 (tget [] t.lvs.twig w) slot 66 = d ++ leBytes 2 q.toNat ∧
        mread 0 (tget [] t.lvs.twig w) base 4 = leBytes 4 (x.delivered + 1).toNat ∧
        TwigKept w [(slot, 66), (base, 4)] s t) ∧
    ((x.open_ = false ∨ x.dirOut = true) → ∃ t, exec (.hollowSend pf1 c) s = .next t ∧ OnlyHollow c s t ∧ t.out = [.unsupported] ∧
      t.lvs = s.lvs ∧ hchan c t = { x with tx := [], fClosed := true }) ∧
    (x.open_ = true → x.dirOut = false → x.notice = false → 8 ≤ x.waiting.length + x.taken.length + x.acks.length →
      ∃ t, exec (.hollowSend pf1 c) s = .next t ∧ OnlyHollow c s t ∧ t.out = [.unsupported] ∧ t.lvs = s.lvs ∧
        hchan c t = { x with tx := [], fFull := true }) ∧
    (∀ m r, x.open_ = true → x.dirOut = true → x.waiting = m :: r →
      ∃ t, exec (.rxTake pf1 c) s = .next t ∧ OnlyHollow c s t ∧ t.out = [.value (BitVec.ofNat 64 (2 ^ 31 + m.seq.toNat))] ∧ t.lvs = s.lvs ∧
        hchan c t = { x with waiting := r, timedOut := false, taken := if x.notice then [] else x.taken ++ [m.seq], rx := m.data }) ∧
    ((x.open_ = false ∨ x.dirOut = false ∨ x.waiting = []) →
      exec (.rxTake pf1 c) s = .next (setHchan c { x with fEarly := true } { s with out := [.value 0] })) ∧
    (∀ q code r, x.dirOut = false → x.acks = (q, code) :: r →
      ∃ t, exec (.ackTake pf1 c) s = .next t ∧ OnlyHollow c s t ∧ t.tel = s.tel ∧ t.lvs = s.lvs ∧
        t.out = [.value (BitVec.ofNat 64 (code.toNat * 0x10000 + q.toNat))] ∧ hchan c t = { x with acks := r }) ∧
    ((x.dirOut = true ∨ x.acks = []) →
      exec (.ackTake pf1 c) s = .next (setHchan c { x with fEarly := true } { s with out := [.value 0] })) ∧
    (∀ q code r, x.open_ = true → x.dirOut = true → x.notice = false → x.taken = q :: r → x.ackEn = false →
      let slot := base + 0x100 + 128 * ((q.toNat + 7) % 8)
      ∃ t, exec (.rxAck pf1 c q code) s = .next t ∧ OnlyHollow c s t ∧ t.out = [] ∧ t.tel = s.tel ∧
        hchan c t = { x with taken := r, acked := x.acked + 1 } ∧
        mread 0 (tget [] t.lvs.twig w) (slot + 0x42) 2 = leBytes 2 code.toNat ∧
        mread 0 (tget [] t.lvs.twig w) (base + 0x0C) 4 = leBytes 4 (x.acked + 1).toNat ∧
        TwigKept w [(slot + 0x42, 2), (base + 0x0C, 4)] s t) ∧
    (∀ q code, x.open_ = true → x.dirOut = true → x.notice = false → x.taken.head? ≠ some q →
      ∃ t, exec (.rxAck pf1 c q code) s = .next t ∧ OnlyHollow c s t ∧ t.out = [] ∧ t.lvs = s.lvs ∧ hchan c t = { x with fAckErr := true })

/-- PF1 opens a channel only on the conditions of R436, closing answers what is in it with 0x8004, and knocks ring their targets. (R434, R436, R437, R442) -/
def Obligations.HollowOpenCloseKnock : Prop :=
  (∀ (c : Fin 64) (v : BitVec 32) s, live s = true → s.boot.pf1 = true → (hchan c s).open_ = false →
    let x := { hchan c s with notice := v.getLsbD 30, dirOut := v.getLsbD 29, abort := v.getLsbD 28, outside := v.toNat / 2 ^ 22 % 64, leaf := v.toNat / 2 ^ 14 % 256 }
    (HlwOpens c x s →
      exec (.channelOpen c v) s = .next (twigWrite (x.leaf / 4) (256 * x.area) (List.replicate 1280 0) (setHchan c { x with
        open_ := true, seq := 0, waiting := [], taken := [], acks := [], delivered := 0, takenCnt := 0, posted := 0, acked := 0,
        collisions := 0, areaFlags := 0, timedOut := false } { s with out := [], hlw := { s.hlw with result := 0 } }))) ∧
    (¬ HlwOpens c x s → exec (.channelOpen c v) s = .next (setHchan c x { s with out := [], hlw := { s.hlw with result := 0x8006 } }))) ∧
  (∀ (c : Fin 64) s, live s = true → s.boot.pf1 = true → HlwWf c s →
    let x := hchan c s
    x.open_ = true → x.dirOut = false → x.notice = false → x.ackEn = false →
      ∃ t, exec (.channelClose c) s = .next t ∧ OnlyHollow c s t ∧ t.out = [] ∧
        hchan c t = { x with open_ := false, waiting := [], taken := [], timedOut := false,
                             acks := x.acks ++ (x.taken ++ x.waiting.map (·.seq)).map (fun q => (q, 0x8004)) } ∧
        mread 0 (tget [] t.lvs.twig (x.leaf / 4)) (256 * x.area) 1280 = List.replicate 1280 0 ∧
        TwigKept (x.leaf / 4) [(256 * x.area, 1280)] s t) ∧
  (∀ (n : Nat) (c : Fin 64) s m r, live s = true →
    let x := hchan c s
    x.open_ = true → x.waiting = m :: r → x.timeoutMs ≠ 0 →
    (x.timeoutMs * 1000000000 < max s.now n - m.at_ →
      exec (.receiverTimeout n c) s = .next (hollowSweep (setHchan c { x with timedOut := true } { s with out := [], now := max s.now n }))) ∧
    (max s.now n - m.at_ ≤ x.timeoutMs * 1000000000 → exec (.receiverTimeout n c) s = .next { s with out := [], now := max s.now n })) ∧
  (∀ (pf1 : Bool) (v : BitVec 32) s, live s = true → (if pf1 then s.boot.pf1 = true else s.grn.installed = true) →
    let rings := fun (k : Nat) (n : Nat) => k < 32 ∧ v.getLsbD k = true ∧ (tget {} s.hlw.knock k).target = n ∧ (pf1 = true ∨ (tget {} s.hlw.knock k).secure = false)
    ∃ t, exec (.knockRing pf1 v) s = .next t ∧
      t = { s with out := t.out, hostMem := t.hostMem, tel := t.tel, lvs := { s.lvs with leaf := t.lvs.leaf }, hlw := { s.hlw with pend0 := t.hlw.pend0, pend1 := t.hlw.pend1 } } ∧
      (∀ k, t.hlw.pend1.getLsbD k = true ↔ s.hlw.pend1.getLsbD k = true ∨ rings k 3) ∧
      (∀ k, t.hlw.pend0.getLsbD k = true ↔ s.hlw.pend0.getLsbD k = true ∨ (rings k 2 ∧ (tget {} s.hlw.knock k).secure = false)) ∧
      ∀ l, (leafAt l t = leafAt l s ∧ ∀ k, rings k 1 → (tget {} s.hlw.knock k).leaf ≠ l) ∨
        (leafAt l t = { leafAt l s with events := setBit (leafAt l s).events 8 true } ∧ ∃ k, rings k 1 ∧ (tget {} s.hlw.knock k).leaf = l))

namespace Sys2Proof

/-! ### Slot time -/

/-- A time input arrives at `n`: outputs empty, and the time base moves on (log entry 1). -/
def atInput (n : Nat) (s : State) : State := { s with out := [], now := max s.now n }

/-- The SLT block changed. -/
def withSlt (x : Slt) (s : State) : State := { s with slt := x }

end Sys2Proof

/-- Time inputs name seconds and count what is missing, and LOCKED, HOLDOVER and ADRIFT follow from them with event 0x9020. (R41, R42, R43, R44, R50, R46, R47, R48, R51) -/
def Obligations.TimeInputs : Prop :=
  ((∀ n s, live s = true → sourceNamed 1 s = true →
    let z := s.slt
    let ok := match z.ppsLast with | some l => decide (999000000000 ≤ n - l ∧ n - l ≤ 1001000000000) | none => false
    let x := { z with ppsOk := ok, ppsLast := some n, todNext := none }
    (z.todNext = none → exec (.ppsEdge n) s = .next (bump (cDevice 3) (withSlt x (atInput n s)))) ∧
    (∀ sec, z.todNext = some sec → z.timed = false →
      exec (.ppsEdge n) s = .next (withSlt { x with timed := true, tai := sec * 10 ^ 12, taiAt := n, slewNs := 0 } (atInput n s))) ∧
    (∀ sec, z.todNext = some sec → z.timed = true → exec (.ppsEdge n) s = .next (withSlt x (atInput n s)))) ∧
  (∀ n m gap s, live s = true → sourceNamed 1 s = true →
    let z := s.slt
    let good := m.length = 16 ∧ fieldLe m 0 1 = 0xA5 ∧ fieldLe m 1 1 = 1 ∧ fieldBe m 14 2 = crc16 (m.take 14) ∧
      (fieldLe m 11 1).testBit 0 = true ∧ fieldLe m 10 1 ≠ 255 ∧ fieldLe m 10 1 ≤ s.grn.grain.time.todMax ∧ gap = false ∧
      ∃ l, z.ppsLast = some l ∧ 100000000000 ≤ n - l ∧ n - l ≤ 900000000000
    let sec := fieldBe m 2 6
    let x := { z with todOk := true, todNext := some sec, lastTai := some sec, leapPending := (fieldLe m 11 1).testBit 1,
                      utcOffset := BitVec.ofNat 16 (fieldBe m 8 2), quality := BitVec.ofNat 8 (fieldLe m 10 1) }
    (good → (∀ l, z.lastTai = some l → sec = l + 1) → exec (.todMessage n m gap) s = .next (withSlt x (atInput n s))) ∧
    (good → (∃ l, z.lastTai = some l ∧ sec ≠ l + 1) → exec (.todMessage n m gap) s = .next (withSlt x (bump (cDevice 4) (atInput n s)))) ∧
    (¬ good → exec (.todMessage n m gap) s = .next (bump (cDevice 2) (withSlt { z with todOk := false } (atInput n s))))) ∧
  (∀ n m gap s, live s = true → sourceNamed 1 s = false →
    exec (.ppsEdge n) s = .next (atInput n s) ∧ exec (.todMessage n m gap) s = .next (atInput n s)) ∧
  (∀ n (p : Fin 16) (k : Fin 4) m s, live s = true →
    let g := s.grn.grain.time
    let z := s.slt
    (sourceNamed 2 s = false ∨ g.ptpPort ≠ p.val ∨ g.ptpLport ≠ k.val ∨ fieldLe m 4 1 ≠ g.ptpDomain →
      exec (.ptpMessage n p k m) s = .next (atInput n s)) ∧
    (sourceNamed 2 s = true → g.ptpPort = p.val → g.ptpLport = k.val → fieldLe m 4 1 = g.ptpDomain → fieldLe m 1 1 % 16 = 2 → 34 ≤ m.length →
      fieldLe m 0 1 % 16 = 0 → slice m 20 10 = z.ptp.parent → (fieldLe m 6 1).testBit 1 = false →
      let now := max s.now n / 1000
      let t1 := fieldBe m 34 6 * 1000000000 + fieldBe m 40 4
      let at_ := ((t1 : Int) + ptpCorr m + z.ptp.delayNs).toNat
      let x := { z with ptp := { z.ptp with t1 := t1, t2 := now, corr := ptpCorr m, waitFollow := none, seq := z.ptp.seq + 1, req := some (z.ptp.seq, now) } }
      ∃ t, exec (.ptpMessage n p k m) s = .next t ∧
        t = { atInput n s with slt := t.slt, lnk := t.lnk, tel := t.tel, hostMem := t.hostMem, out := t.out } ∧
        t.slt = (if z.timed then x else { x with timed := true, tai := at_ * 1000, taiAt := now * 1000, slewNs := 0 })))) ∧
  ((∀ n (d : Int) b ref s, live s = true → onRing s = false → s.grn.installed = true → s.slt.timed = true →
    s.grn.grain.time.fallback = 0 → s.slt.onFallback = false →
    let z := s.slt
    let run := if d.natAbs ≤ 100 then (n :: z.runA).take 16 else []
    let x0 := { z with ref10mOk := ref && s.grn.grain.time.ref10m == 1, runA := run, runB := [], rate := some (Config.freeValue s.freeCtr),
                       offset := BitVec.ofInt 32 (max (-2147483647) (min 2147483647 d)) }
    let tai := taiPs (atInput n s)
    let at_ := max s.now n
    let x := if d.natAbs ≤ 10000 then { x0 with tai := tai, taiAt := at_, slewNs := -d }
      else if 0 < d then { x0 with tai := ((tai : Int) - d * 1000).toNat, taiAt := at_, slewNs := 0, lengthenNs := z.lengthenNs + d.toNat }
      else { x0 with tai := tai, taiAt := at_, slewNs := 0, stepNs := d.natAbs }
    let u : State := { atInput n s with freeCtr := s.freeCtr + 1 }
    let enters := fun (st : TimeState) (hold : Nat) =>
      emit .info 0x9020 (srcTree 4) [] (withSlt { x with st := st, bad := 0, holdLeft := hold, anchorDue := z.anchorDue || (st == .locked && !z.anchored) } u)
    exec (.phaseMeasurement n (some d) b ref) s = .next (
      if z.st = .locked then
        if 1000 < d.natAbs then
          if 3 ≤ z.bad + 1 then enters .holdover s.grn.grain.time.holdoverS else withSlt { x with bad := z.bad + 1 } u
        else withSlt { x with bad := 0 } u
      else if run.length = 16 then enters .locked 0 else withSlt x u)) ∧
  (∀ n s, live s = true → onRing s = false → s.grn.grain.time.fallback = 0 → s.slt.onFallback = false → s.slt.st = .locked →
    exec (.phaseSourceLoss n) s = .next (emit .info 0x9020 (srcTree 4) []
      (withSlt { s.slt with runA := [], st := .holdover, bad := 0, holdLeft := s.grn.grain.time.holdoverS } (atInput n s)))) ∧
  (∀ n s, live s = true → onRing s = false → s.grn.installed = true → s.grn.grain.time.fallback ≠ 0 → s.slt.onFallback = false →
    s.slt.st = .locked → s.slt.runB.length = 16 → (∀ x ∈ s.slt.runB, n - x ≤ 32 * 10 ^ 12) →
    exec (.phaseSourceLoss n) s = .next (withSlt { s.slt with runA := [], onFallback := true, bad := 0, source := s.grn.grain.time.fallback } (atInput n s))) ∧
  (∀ s, live s = true → onRing s = false → s.slt.st = .holdover →
    exec .holdoverExpiry s = .next (emit .info 0x9020 (srcTree 4) []
      (withSlt { s.slt with st := .adrift, bad := 0, holdLeft := 0 } { s with out := [] }))) ∧
  (∀ n s, live s = true →
    exec (.taiSecond n) s = .next (withSlt { s.slt with holdLeft := if s.slt.st = .holdover then s.slt.holdLeft - 1 else 0 }
      { atInput n s with out := if s.slt.anchored then [.ball 1 true, .ball 1 false] else [] })))

/-- Slot edges turn slots and ledger periods and act in the order of R53, and ring marks are captured, held and reported. (R40, R58, R60, R61, R49, R52, R53, R62, R63) -/
def Obligations.MarksAndNow : Prop :=
  ((∀ s, live s = true →
    let z := s.slt
    let s0 : State := { s with out := [] }
    (z.markAt.toNat ≤ z.slot.toNat → exec .markGo s = .next (withSlt { z with markResult := 0x9001 } s0)) ∧
    (z.slot.toNat < z.markAt.toNat → z.collecting.isSome = true → z.hold = true → exec .markGo s = .next (withSlt { z with markResult := 0x9002 } s0)) ∧
    (z.slot.toNat < z.markAt.toNat → ¬ (z.collecting.isSome = true ∧ z.hold = true) →
      exec .markGo s = .next (withSlt { z with markResult := 0, oneShot := some z.markAt } s0)) ∧
    (∀ v : W32, exec (.sltMarkCtrlWrite v) s = .next (withSlt { z with markPeriod := BitVec.ofNat 16 (v.toNat / 65536), markPhase := BitVec.ofNat 16 (v.toNat % 65536) } s0)) ∧
    exec (.markHold true) s = .next (withSlt { z with hold := true, heldBank := z.lastBank, heldAny := z.anyMark } s0) ∧
    exec (.markHold false) s = .next (withSlt { z with hold := false, heldBank := false, heldAny := false } s0) ∧
    exec .sltMarkStatRead s = .next (withSlt { z with done := false } { s with out := [.value (BitVec.ofNat 64 (sltMarkStat s))] }) ∧
    exec (.sltNowRead true) s = .next { s with out := [.value z.slot] } ∧
    exec (.sltNowRead false) s = .next (withSlt { z with latchHi := BitVec.ofNat 32 (z.slot.toNat / 2 ^ 32) } { s with out := [.value (BitVec.ofNat 64 (z.slot.toNat % 2 ^ 32))] })) ∧
  (∀ s b tag, live s = true → s.slt.collecting = some (b, tag) →
    let z := s.slt
    let bank : MarkBank := { lead := tag, trail := tag, provisional := z.shadowProv, state := z.shadowState, stale := z.shadowStale, ctr := z.shadow }
    let x := { z with collecting := none, lastBank := b, done := true, markLast := tag, anyMark := true }
    exec .ringMarkDone s = .next (bump (cDevice 5) (withSlt (if b then { x with bank1 := bank } else { x with bank0 := bank })
      { s with out := if s.boot.pf1 then [.msix 0 17, .msix 1 17] else [.msix 0 17] })))) ∧
  ((∀ n m lvl s, live s = true → s.slt.counting = true → s.slt.anchorDue = false → s.slt.stepNs = 0 → s.slt.lengthenNs = 0 →
    s.grn.timeNext = none → s.slt.slot.toNat + 1 < 2 ^ 64 →
    let u := meter m (atInput n s)
    let slot := s.slt.slot + 1
    (s.slt.oneShot = none ∨ ∃ a, s.slt.oneShot = some a ∧ slot.toNat < a.toNat) →
    (s.slt.markPeriod = 0 ∨ slot.toNat % s.slt.markPeriod.toNat ≠ s.slt.markPhase.toNat % s.slt.markPeriod.toNat) →
    (∀ e ∈ s.vault.staged, slot.toNat < e.2.at_.toNat) → (s.cnp.rekeyAt = 0 ∨ slot.toNat < s.cnp.rekeyAt.toNat) →
    slot.toNat < ckptSlot u → (∀ d ∈ s.cnp.deadline, slot.toNat < d.slot.toNat) → (s.grv.handbackAt = 0 ∨ slot.toNat < s.grv.handbackAt.toNat) →
    let x := { s.slt with slot := slot, edgeAt := n, lengthenNs := 0, stepNs := 0, curPeriod := s.slt.markPeriod, curPhase := s.slt.markPhase }
    let p := s.grn.grain.energy.periodSlots
    let v := slotEvents (withSlt x { u with nrg := { u.nrg with lvlBalls := lvl } })
    ((p = 0 ∨ slot.toNat % p ≠ 0) → exec (.slotEdge n m lvl) s = .next v) ∧
    (p ≠ 0 → slot.toNat % p = 0 → u.nrg.c0Spent ≤ s.nrg.eff → s.nrg.jobs = [] → s.tel.summaries = [] → s.grn.energyNext = none →
      let g := s.grn.grain.energy
      let top := g.level.getD lvl.toNat 0
      exec (.slotEdge n m lvl) s = .next { v with
        tel := { v.tel with singles := [], quota := v.tel.quotaReg },
        nrg := { v.nrg with
          level := lvl, eff := max (if s.nrg.hostEn then min top s.nrg.hostUj.toNat else top) g.budgetMin,
          lastSpent := u.nrg.spent, spent := 0, c0Spent := 0 } })) ∧
  (∀ lo s, (edgeActs lo s).Pairwise (fun a b => a.1 < b.1 ∨ a.1 = b.1 ∧ a.2.order ≤ b.2.order)) ∧
  (∀ lo s, lo < s.slt.slot.toNat → s.grn.grain.energy.periodSlots ≠ 0 →
    let p := s.grn.grain.energy.periodSlots
    ((edgeActs lo s).map (fun a => match a.2 with | .boundary n => n | _ => 0)).sum = s.slt.slot.toNat / p - lo / p))

namespace Sys2Proof

/-! ### The energy ledger -/

/-- A job's admission test (R69) with the forecast written out: `pC0` µW of C0 power over the rest of the period. -/
def FitsBudget (pC0 : Nat) (j : Job) (s : State) : Prop :=
  let left := max 1 s.grn.grain.energy.periodSlots - s.slt.slot.toNat % max 1 s.grn.grain.energy.periodSlots
  let us := left * s.grn.grain.time.slotUs - (s.now - s.slt.edgeAt) / 1000000
  let f := (s.nrg.spent.toNat + (s.nrg.admitted.map Job.eUj).sum + j.eUj) * 1000000 + pC0 * us
  if j.c2 then f * 100 ≤ s.nrg.eff * 1000000 * (100 - s.grn.grain.energy.c2Headroom) else f ≤ s.nrg.eff * 1000000

/-- Energy is metered at `n` and P_C0 measured (R66, R69). -/
def metered (n pC0 : Nat) (m : Meter) (s : State) : State :=
  let u := meter m (atInput n s)
  { u with nrg := { u.nrg with pC0 := pC0 } }

/-- Admitted jobs that have not begun begin (R69). -/
def beginAdmitted (s : State) : State := foldS jobStart (s.nrg.admitted.map Job.act) s

/-- The NRG block changed. -/
def withNrg (x : Nrg) (s : State) : State := { s with nrg := x }

end Sys2Proof

/-- Budgets are clamped or denied, jobs are admitted by the forecast, C2 is shed, and only idle freezable boughs freeze. (R64, R69, R72, R73) -/
def Obligations.EnergyLedger : Prop :=
  (∀ (pf1 en : Bool) (uj : BitVec 48) s, live s = true →
    (pf1 = true ∨ s.grn.installed = false ∨ s.grn.grain.energy.flags.testBit 0 = true →
      exec (.budgetHostWrite pf1 en uj) s = .next (withNrg { s.nrg with
        hostEn := en, hostUj := uj
        result := if en = true ∧ uj.toNat < s.grn.grain.energy.budgetMin then 0x9010 else 0 } { s with out := [] })) ∧
    (pf1 = false → s.grn.installed = true → s.grn.grain.energy.flags.testBit 0 = false →
      exec (.budgetHostWrite pf1 en uj) s = .next (emit .secure 0x9014 (srcTree 5) [] (withNrg { s.nrg with result := 0xF000 } { s with out := [] })))) ∧
  (∀ n (kind : Fin 16) (b : Option (Fin 12)) pC0 m s, live s = true → s.nrg.jobs = [] →
    let u := metered n pC0 m s
    let w := workEntry s kind
    let j : Job := { id := s.nrg.nextJob, kind := kind, c2 := w.cls == 2, bough := b.map (·.val), eUj := w.eUj }
    let v := withNrg { u.nrg with nextJob := s.nrg.nextJob + 1 } u
    (w.cls = 0 → exec (.workJobSubmit n kind b pC0 m) s = .next u) ∧
    (w.cls ≠ 0 → FitsBudget pC0 j u →
      exec (.workJobSubmit n kind b pC0 m) s = .next (beginAdmitted (withNrg { v.nrg with admitted := s.nrg.admitted ++ [j] } v))) ∧
    (w.cls ≠ 0 → ¬ FitsBudget pC0 j u → exec (.workJobSubmit n kind b pC0 m) s =
      .next (beginAdmitted (if w.cls = 2 then bump (cDevice 14) v else withNrg { v.nrg with jobs := [j] } v)))) ∧
  (∀ n pC0 m s j0, live s = true → s.nrg.jobs = [j0] →
    let u := metered n pC0 m s
    let j := { j0 with eUj := (workEntry s j0.kind).eUj }
    let v := withNrg { u.nrg with jobs := [] } u
    (FitsBudget pC0 j u → exec (.jobAdmission n pC0 m) s = .next (beginAdmitted (withNrg { v.nrg with admitted := s.nrg.admitted ++ [j] } v))) ∧
    (¬ FitsBudget pC0 j u → exec (.jobAdmission n pC0 m) s =
      .next (beginAdmitted (if j.c2 = true then bump (cDevice 14) v else withNrg { v.nrg with jobs := [j] } v)))) ∧
  (∀ id s, live s = true →
    exec (.workJobEnd id) s = .next (withNrg { s.nrg with admitted := s.nrg.admitted.filter (fun j => j.id != id) } { s with out := [] })) ∧
  (∀ (b : Fin 12) s, live s = true →
    let idle := (∀ j ∈ s.nrg.admitted, j.bough ≠ some b.val) ∧ (boughNrg b s).c0 = 0 ∧ (eng b s).ports = [] ∧
      (∀ e ∈ s.cus.dom, custodyDue e.2 = true → custodyBough e.2 s ≠ b.val) ∧
      ∀ e ∈ s.lvs.leaf, e.1 / 16 = b.val → e.2.xfer = none ∧ ∀ t ∈ e.2.tags, t.2.req = none
    let freezable := s.grn.installed = true ∧ (s.grn.grain.boughs.getD b {}).freezable = 1 ∧ (boughNrg b s).power = .running ∧
      ∀ e ∈ s.lvs.leaf, e.1 / 16 = b.val → e.2.released = true → e.2.role < 1 ∨ 3 < e.2.role
    (idle → freezable → exec (.boughFreeze b) s = .next (bump (cBough b 10) (modBough b (fun x => { x with power := .frozen }) { s with out := [] }))) ∧
    (¬ (idle ∧ freezable) → exec (.boughFreeze b) s = .next { s with out := [] })) ∧
  (∀ n (b : Fin 12) s, live s = true → (boughNrg b s).power = .frozen →
    let need := (boughNrg b s).thawDue = true ∨ (boughNrg b s).c0 ≠ 0 ∨ (boughNrg b s).queued ≠ [] ∨ (eng b s).ports ≠ [] ∨
      (∃ j ∈ s.nrg.admitted, j.bough = some b.val) ∨ ∃ e ∈ s.cus.dom, custodyDue e.2 = true ∧ custodyBough e.2 s = b.val
    let free := ∀ l, s.nrg.lastThaw = some l → l + 5000000 ≤ max s.now n
    (need → free → exec (.boughThaw n b) s = .next (foldS (fun (e : Nat × Nat × W32) s => winStore e.1 e.2.1 e.2.2 s) (boughNrg b s).queued
        (let u := modBough b (fun x => { x with power := .running, queued := [], thawDue := false }) (atInput n s)
         withNrg { u.nrg with lastThaw := some u.now } u))) ∧
    (¬ (need ∧ free) → exec (.boughThaw n b) s = .next (atInput n s))) ∧
  (∀ n (b : Fin 12) s, live s = true → (boughNrg b s).power ≠ .frozen → exec (.boughThaw n b) s = .next (atInput n s))

/-- EN 0 stops a unit in DRAIN or CUT mode, CUT discards what is in flight, completion is one event, and EN 1 resumes. (R24, R25, R26, R27, R28, R29, R30, R31, R184, R423) -/
def Obligations.DisableGroup : Prop :=
  (∀ (u : UnitId) cut s, live s = true → s.boot.pf1 = false →
    exec (.disableStart u cut) s = .next { s with out := [] } ∧ exec (.enableWrite u cut) s = .next { s with out := [] } ∧
    exec (.modeCutDuringDrain u) s = .next { s with out := [] }) ∧
  (∀ (u : UnitId) cut s, live s = true → disActs u s = false →
    exec (.disableStart u cut) s = .next { s with out := [] } ∧ exec (.enableWrite u cut) s = .next { s with out := [] }) ∧
  (∀ (u : UnitId) s, live s = true → s.boot.pf1 = true → disActs u s = true → (disOf u s).off = false → (disOf u s).running = false →
    (∀ p, u ≠ .rxp p) →
    exec (.disableStart u false) s = .next (modDis u (fun d => { d with off := true, mode := false, running := true, quiesced := false, escalated := false }) { s with out := [] })) ∧
  (∀ (u : UnitId) cut s, live s = true → s.boot.pf1 = true → disActs u s = true → (disOf u s).off = false → (disOf u s).running = false →
    twf {} s.dis = true →
    ∃ t, exec (.disableStart u cut) s = .next t ∧
      disOf u t = { disOf u s with
        off := true, mode := cut, running := true, quiesced := false, escalated := cut && (disOf u s).escalated
        cut := cut || (disOf u s).cut, discarded := (disOf u s).discarded + if cut then (disDiscard u { s with out := [] }).1 else 0 } ∧
      ∀ v, v ≠ u → disOf v t = disOf v s) ∧
  (∀ (u : UnitId) s, live s = true → s.boot.pf1 = true → disActs u s = true → (disOf u s).off = true → (disOf u s).running = false → ∀ cut,
    exec (.disableStart u cut) s = .next (modDis u (fun d => { d with mode := cut }) { s with out := [] })) ∧
  (∀ (u : UnitId) s, live s = true → s.boot.pf1 = true → disActs u s = true → (disOf u s).running = true →
    exec (.disableStart u false) s = .next (modDis u (fun d => { d with mode := false, enPending := false }) { s with out := [] })) ∧
  (∀ (u : UnitId) s, live s = true → (disOf u s).running = true → (disOf u s).cut = false → twf {} s.dis = true →
    let cutTo := fun (d : Dis) (t : State) =>
      disOf u t = { d with cut := true, discarded := d.discarded + (disDiscard u { s with out := [] }).1 } ∧ ∀ v, v ≠ u → disOf v t = disOf v s
    let d := disOf u s
    (s.boot.pf1 = true → disActs u s = true → ∃ t, exec (.disableStart u true) s = .next t ∧ cutTo { d with mode := true, enPending := false } t) ∧
    (s.boot.pf1 = true → ∃ t, exec (.modeCutDuringDrain u) s = .next t ∧ cutTo { d with mode := true } t) ∧
    ∃ t, exec (.drainBoundExpiry u) s = .next t ∧ cutTo { d with escalated := true, bound := true } t) ∧
  (∀ (u : UnitId) s, live s = true → ((disOf u s).running = false ∨ (disOf u s).cut = true) →
    exec (.modeCutDuringDrain u) s = .next { s with out := [] } ∧ exec (.drainBoundExpiry u) s = .next { s with out := [] }) ∧
  (∀ (b : Fin 12) s p j, live s = true → (disOf (.burl b) s).running = true → (disOf (.burl b) s).cut = false →
    (eng b s).ports.find? (fun e => e.2.running) = some (p, j) → p < 16 → j.orphan = false → (leafAt (16 * b + p) s).released = true →
    twf {} s.lvs.leaf = true →
    let x := leafAt (16 * b + p) s
    let cutTo := fun (d : Dis) (t : State) =>
      t = { s with
        out := [], tel := { s.tel with ctr := t.tel.ctr }, dis := tset {} s.dis (256 + b) d
        brl := { s.brl with eng := tset {} s.brl.eng b { eng b s with
          ports := tset {} (eng b s).ports p noJob, regs := (j.res.map (·.regs)).getD (eng b s).regs
          lastCode := 0x503F, lastOp := fieldLe j.desc 0 1, lastSub := p, lastLeaf := p } }
        lvs := { s.lvs with leaf := t.lvs.leaf } } ∧
      leafAt (16 * b + p) t = { x with guards := x.guards.filter (fun g => g.who != 9), brl := { x.brl with discarded := true }, events := setBit x.events 6 true } ∧
      ∀ k, k ≠ 16 * b.val + p → leafAt k t = leafAt k s
    let d := disOf (.burl b) s
    (s.boot.pf1 = true → ∃ t, exec (.modeCutDuringDrain (.burl b)) s = .next t ∧ cutTo { d with mode := true, cut := true, discarded := d.discarded + 1 } t) ∧
    ∃ t, exec (.drainBoundExpiry (.burl b)) s = .next t ∧ cutTo { d with escalated := true, bound := true, cut := true, discarded := d.discarded + 1 } t) ∧
  (∀ (u : UnitId) s, live s = true → (∀ d, u ≠ .custody d) → (disOf u s).running = true → (disOf u s).enPending = false →
    ((disOf u s).cut = true ∨ disBusy u s = false) →
    let d := disOf u s
    let e := disEvent u
    exec (.disableComplete u) s = .next (modDis u (fun d => { d with quiesced := true, running := false, cut := false, bound := false, discarded := 0 })
      (emit .info e.1 e.2 (d2 e.2.toNat ++ [if d.cut then 1 else 0] ++ [if d.bound then 1 else 0] ++ d4 d.discarded) { s with out := [] }))) ∧
  (∀ (p : Fin 32) s, live s = true → (disOf (.custody p) s).running = true → (disOf (.custody p) s).enPending = false →
    ((disOf (.custody p) s).cut = true ∨ disBusy (.custody p) s = false) → cusConfigured p s = true → (cdom p s).st ≠ .fenced →
    twf {} s.dis = true → twf {} s.cus.dom = true →
    ∃ t, exec (.disableComplete (.custody p)) s = .next t ∧
      disOf (.custody p) t = { disOf (.custody p) s with quiesced := true, running := false, cut := false, bound := false, discarded := 0 } ∧
      (cdom p t).st = (if s.kpf.anchorLost then .failed else .held) ∧ (cdom p t).released = false ∧ (cdom p t).flt.esc = none ∧
      p.val ∉ t.cus.ready) ∧
  (∀ (u : UnitId) s, live s = true → ((disOf u s).running = false ∨ ((disOf u s).cut = false ∧ disBusy u s = true)) →
    exec (.disableComplete u) s = .next { s with out := [] }) ∧
  (∀ (u : UnitId) s, live s = true → s.boot.pf1 = true → disActs u s = true → (disOf u s).running = true →
    exec (.enableWrite u false) s = .next (modDis u (fun d => { d with mode := false, enPending := true }) { s with out := [] })) ∧
  (∀ (u : UnitId) cut s, live s = true → s.boot.pf1 = true → disActs u s = true → (disOf u s).running = false → (disOf u s).off = true →
    twf {} s.dis = true →
    ∃ t, exec (.enableWrite u cut) s = .next t ∧
      disOf u t = { disOf u s with mode := cut, off := false, enPending := false, quiesced := false } ∧
      ∀ v, v ≠ u → disOf v t = disOf v s) ∧
  (∀ (b : Fin 12) cut s, live s = true → s.boot.pf1 = true → (disOf (.burl b) s).running = false → (disOf (.burl b) s).off = true →
    ∃ t, exec (.enableWrite (.burl b) cut) s = .next t ∧ t = { s with out := [], dis := t.dis })

namespace Sys2Proof

/-! ### Power and resets -/

/-- What a full device reset leaves (R10): the queue, the time base, the host's memory and the free-value counter of the model; the
fuses and the keep flash, where a page or a code being programmed ends as the reset cuts it short (R242, R446); the standby domain's alarm
ring, tamper latch and standby key register; the DRAM contexts; the balls; every other register at its reset value. -/
def afterReset (s : State) : State :=
  let f := progStop (lcsStop s)
  { pending := s.pending, now := s.now, out := s.out, hostMem := s.hostMem, freeCtr := f.freeCtr, fuses := f.fuses
    tel := { alarm := s.tel.alarm, alarmOverflow := s.tel.alarmOverflow }
    boot := { vstby := s.boot.vstby, pwrgood := s.boot.pwrgood, vfuse := s.boot.vfuse, srcBalls := s.boot.srcBalls }
    kpf := { m0 := f.kpf.m0, m1 := f.kpf.m1, copyDue := s.kpf.degraded ||| s.kpf.copyDue }
    tmp := { latch := s.tmp.latch }, lcy := { retry := s.lcy.retry }, slp := { standby := s.slp.standby }
    cnp := { ctx := s.cnp.ctx }, nrg := { lvlBalls := s.nrg.lvlBalls, pfwBall := s.nrg.pfwBall } }

/-- The device has left reset (R82): the boot straps are sampled, the monitors armed, the vote of a consistent life-cycle code is in force, and
the fuse phase begins. -/
def afterStart (i : StartIn) (n : Nat) (s : State) : State :=
  let u := afterReset s
  { u with boot := { u.boot with
      pwrgood := true, t0 := u.now, src := i.strap, srcBalls := i.strap, phase := .fuses, phaseUs := 0, monitorsArmed := true, lcs := lcsOf n } }

/-- A start in which nothing fails: fuses sensed, self-test passed, all three copies of the code of state `n` (1 to 3), no latched tamper
event, no fuse write unfinished, and not an ESG-6416-XV. -/
def PlainStart (i : StartIn) (n : Nat) (s : State) : Prop :=
  i.fuseOk = true ∧ i.mbistOk = true ∧ 1 ≤ n ∧ n ≤ 3 ∧ (afterReset s).fuses.lcs = [lcsWord n, lcsWord n, lcsWord n] ∧ s.tmp.latch = 0 ∧
  s.lcy.retry = none ∧ s.fuses.xv = false

end Sys2Proof

/-- PWRGOOD, the rails, VSTBY, VFUSE and the resets leave exactly the state that their reset domains keep. (R10, R82, R434, R446, R474, R514, R527, R528, R532) -/
def Obligations.PowerAndResets : Prop :=
  (∀ n (rails : Bool) i k s, s.boot.pwrgood = false → s.boot.vstby = true → rails = true → PlainStart i k (atInput n s) →
    exec (.pwrgoodRise n rails i) s = .next (afterStart i k (atInput n s))) ∧
  (∀ n (rails : Bool) i s, s.boot.pwrgood = true ∨ s.boot.vstby = false ∨ rails = false → exec (.pwrgoodRise n rails i) s = .next (atInput n s)) ∧
  (∀ n i k s, s.boot.pwrgood = true → PlainStart i k (atInput n s) → exec (.fullDeviceReset n i) s = .next (afterStart i k (atInput n s))) ∧
  (∀ n i s, s.boot.pwrgood = false → exec (.fullDeviceReset n i) s = .next (atInput n s)) ∧
  (∀ n i s, s.boot.pwrgood = true → i.mbistOk = false → ∃ t, exec (.fullDeviceReset n i) s = .next t ∧ t.boot.phase = .stopped ∧
    t.boot.monitorsArmed = false ∧ t.lcy.mbist = 0x1000 ∧ t.fuses = (afterReset (atInput n s)).fuses) ∧
  (∀ n s, let u := afterReset (atInput n s)
    let off : State := { u with boot := { u.boot with pwrgood := false, vfuse := false } }
    exec (.pwrgoodFall n) s = .next off ∧
    (s.boot.pwrgood = true → exec (.railFault n) s = .next off) ∧ (s.boot.pwrgood = false → exec (.railFault n) s = .next (atInput n s))) ∧
  (∀ n s, exec (.vstbyLoss n) s = .next { atInput n s with
      boot := { s.boot with vstby := false }, tmp := { s.tmp with latch := 0 }, slp := { s.slp with standby := {} }
      tel := { s.tel with alarm := [], alarmOverflow := false, alarmSeq := [] } } ∧
    exec (.vstbyReturn n) s = .next { atInput n s with boot := { s.boot with vstby := true } }) ∧
  (∀ n copies i s, s.boot.pwrgood = true → s.ent.dramKeysDue = [] → s.ent.hsVDue = false → s.lcy.retry = none → s.lcy.waitFuse = false →
    s.boot.lcs ≠ .returned → s.boot.lcs ≠ .felled → s.tmp.disPending = none →
    exec (.vfuseInRange n copies i) s = .next { atInput n s with boot := { s.boot with vfuse := true } }) ∧
  (∀ n copies i s, s.boot.pwrgood = false → exec (.vfuseInRange n copies i) s = .next (atInput n s)) ∧
  (∀ n copies i s c m, s.boot.pwrgood = true → s.ent.dramKeysDue = [] → s.ent.hsVDue = false → s.lcy.retry = none → s.lcy.waitFuse = false →
    s.boot.lcs ≠ .returned → s.boot.lcs ≠ .felled → s.tmp.disPending = some (c, m) →
    exec (.vfuseInRange n copies i) s = .next { atInput n s with
      boot := { s.boot with vfuse := true }, fuses := { s.fuses with tamperOff := s.fuses.tamperOff ||| m }
      tmp := { s.tmp with disPending := none, disBusy := false, result := c } }) ∧
  (∀ s, live s = true →
    exec .hostLinkTrained s = .next { s with out := [], boot := { s.boot with hostUp := true } } ∧
    ∃ t, exec .hostLinkReset s = .next t ∧
      t.boot = { s.boot with hostUp := false, pf1 := s.grn.installed && s.grn.grain.pf1 == 1, pf1Pending := false } ∧
      t.tel.pf1 = { s.tel.pf1 with reg := {}, stopped := s.tel.pf1.reg.en || s.tel.pf1.stopped } ∧
      t.tel.pf0 = { s.tel.pf0 with reg := {}, stopped := s.tel.pf0.reg.en || s.tel.pf0.stopped } ∧
      t.spdm.sessions = s.spdm.sessions.filter (fun x => x.port != 1 && x.port != 0) ∧ t.cnp.dlqReg = {} ∧
      t.hostMem = s.hostMem ∧ t.kpf = s.kpf ∧ t.vault = s.vault ∧ t.lnk = s.lnk ∧ t.cus = s.cus)

/-- PFW_N starts the flush that ends the journal, a device that writes no page is done, and deep sleep needs a drained device. (R78, R79, R534) -/
def Obligations.PowerFailAndSleep : Prop :=
  (∀ n s, s.boot.pwrgood = true →
    let v := if s.nrg.pfw then atInput n s else bump (cDevice 11) (atInput n s)
    (s.nrg.flush = .idle → s.slp.state ≠ 2 →
      let u := foldS cusStop (List.range 32) (withNrg { s.nrg with pfwBall := true, pfwHigh := none, pfw := true, flushing := true, flush := .settle } v)
      exec (.pfwAssert n) s = .next { u with
        cnp := { u.cnp with inbound := [], opens := [], held := [], renew := [] }
        slt := { u.slt with collecting := none }
        grn := { u.grn with push := if 1 ≤ u.grn.push.state ∧ u.grn.push.state ≤ 3 then { u.grn.push.emptied with state := 0 } else u.grn.push } }) ∧
    (s.nrg.flush ≠ .idle ∨ s.slp.state = 2 → exec (.pfwAssert n) s = .next (withNrg { s.nrg with pfwBall := true, pfwHigh := none, pfw := true } v))) ∧
  (∀ (d : Nat) s, (cdom d s).st = .running → cusConfigured d s = true → s.kpf.anchorLost = false → twf {} s.cus.dom = true →
    (cdom d (cusStop d s)).st = .held ∧ (cdom d (cusStop d s)).released = false ∧ (cdom d (cusStop d s)).flt.esc = none) ∧
  (∀ n s, s.boot.pwrgood = false → exec (.pfwAssert n) s = .next (withNrg { s.nrg with pfwBall := true, pfwHigh := none } (atInput n s))) ∧
  (∀ s, s.nrg.flush ≠ .settle → exec .flushSettleEnd s = .next { s with out := [] }) ∧
  (∀ s, s.nrg.flush = .settle → (s.boot.keyless = true ∨ s.tmp.erased = true ∨ s.kpf.replayed = false) →
    (∀ q, s.kpf.prog = some q → q.kind = .record ∨ q.kind = .header) →
    exec .flushSettleEnd s = .next (withNrg { s.nrg with flush := .done }
      { s with out := [], kpf := { s.kpf with acts := [], pages := [], formatDue := [], logDue := [] } })) ∧
  (∀ s, s.nrg.flush = .settle → s.boot.keyless = false → s.tmp.erased = false → s.kpf.replayed = true →
    let r : JPage := { recd := recordOf [.close s.slt.slot.toNat] s.kpf.seq s, acts := [.close s.slt.slot.toNat] }
    let k := { s.kpf with acts := [], formatDue := [], logDue := [], pages := s.kpf.pages ++ [r], seq := s.kpf.seq + 1 }
    (∃ t, exec .flushSettleEnd s = .next t ∧ t.kpf.pages = k.pages ∧ t.kpf.seq = k.seq ∧ t.kpf.acts = [] ∧ t.nrg.flush = .pages ∧
      t.nrg.pending = k.pages.length ∧ t.nrg.flushing = s.nrg.flushing) ∧
    ((∃ q, s.kpf.prog = some q ∧ (q.kind = .record ∨ q.kind = .header)) →
      exec .flushSettleEnd s = .next (withNrg
        { s.nrg with flush := .pages, pending := s.kpf.pages.length + 1, reserveFull := decide (s.nrg.nMax ≤ s.kpf.pages.length + 1) }
        { s with out := [], kpf := k }))) ∧
  (∀ n s, exec (.pfwDeassert n) s = .next (withNrg { s.nrg with pfwBall := false, pfw := false, pfwHigh := some (max s.now n) } (atInput n s))) ∧
  (∀ n i s,
    let ready := s.boot.pwrgood = true ∧ s.nrg.flush = .done ∧ s.nrg.pfwBall = false ∧ ∃ h, s.nrg.pfwHigh = some h ∧ h + 10000000000 ≤ max s.now n
    (∀ k, ready → PlainStart i k (atInput n s) → exec (.pfwRecoveryReset n i) s = .next (afterStart i k (atInput n s))) ∧
    (¬ ready → exec (.pfwRecoveryReset n i) s = .next (atInput n s))) ∧
  (∀ n s, live s = true →
    (s.boot.pf1 = true → s.slp.state = 0 →
      exec (.sleepEnter n) s = .next (foldS (fun d s => disStart (.custody (Fin.ofNat 32 d)) false s) (List.range 32)
        { atInput n s with slp := { s.slp with state := 1 } })) ∧
    (s.boot.pf1 = true → s.slp.state ≠ 0 → exec (.sleepEnter n) s = .next (atInput n s)) ∧
    (s.boot.pf1 = false → exec (.sleepEnter n) s = .next { s with out := [] })) ∧
  (∀ n s, live s = true →
    let drained := s.slp.state = 1 ∧ (∀ e ∈ s.cus.dom, e.2.released = false) ∧ s.cnp.entries = [] ∧ s.cnp.inbound = [] ∧ s.cnp.held = [] ∧
      s.kpf.acts = [] ∧ s.kpf.pages = [] ∧ ∀ e ∈ s.lnk.ports, ∀ x ∈ e.2.lports, x.2.queue = []
    (¬ drained → exec (.sleepReady n) s = .next (atInput n s)) ∧
    (drained → s.tmp.erased = true → ∃ t, exec (.sleepReady n) s = .next t ∧ t.slp = { s.slp with state := 2 } ∧ t.cnp.payloads = []) ∧
    (drained → s.tmp.erased = false → ∃ t, exec (.sleepReady n) s = .next t ∧ t.slp.state = 2 ∧ t.slp.standby.valid = true ∧
      t.slp.standby.keys = (List.range 6).map (fun i => tapKey (40 + i) s) ∧ t.slp.standby.grainSeq = grnInstalledSeq s ∧ t.cnp.payloads = [])) ∧
  (∀ n s, live s = true → s.slp.state = 1 → s.cus.dom = [] → s.cnp = {} → s.kpf.acts = [] → s.kpf.pages = [] → s.lnk = {} →
    s.dis = [] → s.tmp.erased = false → (∀ l, (leafAt l s).role ≠ 1) →
    exec (.sleepReady n) s = .next { atInput n s with freeCtr := s.freeCtr + 1, slp := { s.slp with
      state := 2
      standby := { valid := true, keys := (List.range 6).map (fun i => tapKey (40 + i) s),
                   root := padTo 48 (Config.freeBytes (drawFree (atInput n s)).1.toNat), grainSeq := grnInstalledSeq s } } })

namespace Sys2Proof

/-! ### Start-up -/

/-- PHASE changes, with the µs since PWRGOOD's rise (TAP_BOOT_US). -/
def phaseTo (p : BootPhase) (s : State) : State :=
  { s with boot := { s.boot with phase := p, phaseUs := BitVec.ofNat 32 (min ((s.now - s.boot.t0) / 1000000) 0xFFFFFFFF) } }

/-- Start-up stops. -/
def stopsAt (s : State) : State := phaseTo .stopped { s with boot := { s.boot with stopped := true } }

/-- The BOOT block changed. -/
def withBoot (x : Boot) (s : State) : State := { s with boot := x }

end Sys2Proof

/-- The steps of start-up follow each other as R82 says, and what fails stops start-up or drops a channel, a bough or a lane. (R10, R80, R82, R87, R89, R90, R91, R95, R112, R146, R451, R476) -/
def Obligations.StartUpSteps : Prop :=
  (∀ n s, live s = true → s.boot.romRunning = false → s.boot.stopped = false →
    exec (.coreClockLock n) s = .next (phaseTo .entropy { atInput n s with
      ent := { s.ent with src := [(0, { startup := 1 }), (1, { startup := 1 }), (2, { startup := 1 }), (3, { startup := 1 })] }
      tmp := { s.tmp with stimLeft := List.range 16, stimDone := 0, stimPass := 0 }
      boot := { s.boot with romRunning := true } })) ∧
  (∀ n s, live s = true → s.boot.romRunning = true ∨ s.boot.stopped = true → exec (.coreClockLock n) s = .next (atInput n s)) ∧
  (∀ n s, live s = true →
    (s.boot.phase = .entropy → exec (.entropyTimeout n) s = .next (phaseTo .helper (emit .fault 0x1002 (srcTree 3) []
      (withBoot { s.boot with keyless := true, dramOff := true, result := 0x1002 } (atInput n s))))) ∧
    (s.boot.phase ≠ .entropy → exec (.entropyTimeout n) s = .next (atInput n s))) ∧
  (∀ n c gib s, live s = true →
    let ok := c.populated &&& (c.first ||| c.second)
    let u := foldS (fun k s => if c.populated.getLsbD k = true ∧ ok.getLsbD k = false then emit .fault 0x1003 (srcTree (7 + k)) [] s else s) [0, 1, 2, 3]
      (withBoot { s.boot with dramTrained := ok, dramGib := gib, romRegion := decide (ok ≠ 0) } (atInput n s))
    let v := if ok = 0 then withBoot { u.boot with result := 0x1003 } u else u
    (s.boot.phase = .dram → s.boot.lcs ≠ .seed → exec (.dramTrainingDone n c gib) s = .next (phaseTo .helper v)) ∧
    (s.boot.phase = .dram → s.boot.lcs = .seed → exec (.dramTrainingDone n c gib) s = .next (stopsAt v)) ∧
    (s.boot.phase ≠ .dram → exec (.dramTrainingDone n c gib) s = .next (atInput n s))) ∧
  (∀ n s, live s = true → s.boot.phase = .helper →
    let b := s.boot.helperTried
    (let u := withBoot { s.boot with helper := some b, helperTried := b + 1 } (modBough b (fun x => { x with power := .running }) (atInput n s))
     (s.boot.dramTrained ≠ 0 ∨ s.boot.dramOff = true → exec (.helperBoughStart n true) s = .next (phaseTo .waitGrain u)) ∧
     (s.boot.dramTrained = 0 → s.boot.dramOff = false → exec (.helperBoughStart n true) s = .next (stopsAt u))) ∧
    (let t := emit .fault 0x1022 (srcBough b) [] (withBoot { s.boot with result := 0x1022 } (modBough b (fun x => { x with power := .off }) (atInput n s)))
     let u := withBoot { t.boot with helperTried := b + 1 } t
     exec (.helperBoughStart n false) s = .next (if 12 ≤ b + 1 then stopsAt u else u))) ∧
  (∀ n ok s, live s = true → s.boot.phase ≠ .helper → exec (.helperBoughStart n ok) s = .next (atInput n s)) ∧
  (∀ n (p : Fin 16) s, live s = true →
    let next := portsOn s = true ∧ (∀ l, s.nrg.lastGroup = some l → l + 10000000 ≤ max s.now n) ∧
      s.nrg.laneGroups.getLsbD p = false ∧ ∀ q < p.val, s.nrg.laneGroups.getLsbD q = true
    (¬ next → exec (.laneGroupStart n p) s = .next (atInput n s)) ∧
    (next → (portAt p s).restart = false → exec (.laneGroupStart n p) s =
      .next (withNrg { s.nrg with laneGroups := setBit s.nrg.laneGroups p true, lastGroup := some (max s.now n) } (atInput n s))) ∧
    (next → ∃ t, exec (.laneGroupStart n p) s = .next t ∧
      t.nrg.laneGroups = setBit s.nrg.laneGroups p true ∧ t.nrg.lastGroup = some (max s.now n))) ∧
  (∀ n s b bs, live s = true → s.boot.powerQueue = b :: bs →
    let u := setChk b { owner := (s.grn.grain.boughs.getD b {}).chkOwner } { atInput n s with
      lvs := { s.lvs with
        leaf := s.lvs.leaf.filter (fun e => e.1 / 16 != b), twig := s.lvs.twig.filter (fun e => e.1 / 4 != b), bough := tset [] s.lvs.bough b [] }
      brl := { s.brl with eng := tset {} s.brl.eng b { fenced := (eng b s).fenced, lastCode := (eng b s).lastCode, lastOp := (eng b s).lastOp, lastSub := (eng b s).lastSub } }
      nrg := { s.nrg with lastPower := some (max s.now n) }
      boot := { s.boot with powerQueue := bs } }
    let due := ∀ l, s.nrg.lastPower = some l → l + 25000000 ≤ max s.now n
    (due → exec (.boughPowerOn n true) s = .next (modBough b (fun _ => { power := .running }) (withBoot { u.boot with releaseQueue := s.boot.releaseQueue ++ [b] } u))) ∧
    (due → s.boot.releaseQueue ≠ [] →
      ∃ t, exec (.boughPowerOn n false) s = .next t ∧ (boughNrg b t).power = .fenced ∧ t.boot.failed = s.boot.failed ++ [b] ∧ t.boot.result = 0x1022 ∧
        t.lcy.mbist = setBit s.lcy.mbist b true ∧ (eng b t).fenced = true ∧ t.boot.powerQueue = bs ∧
        ∀ l, l / 16 = b → leafAt l t = { role := (grainLeaf l s).role, program := (grainLeaf l s).program, fenced := true }) ∧
    (¬ due → ∀ ok, exec (.boughPowerOn n ok) s = .next (atInput n s))) ∧
  (∀ n ok s, live s = true → s.boot.powerQueue = [] → exec (.boughPowerOn n ok) s = .next (atInput n s)) ∧
  (∀ s, live s = true →
    let due := s.grn.installed = true ∧ s.boot.bootstrapped = true ∧ s.boot.shadowCopied = false
    (due → exec .bootstrapShadowCopyDone s = .next { s with
      out := [], lvs := { s.lvs with work := s.lvs.work.filter (fun e => e.1 / groupBytes < 16 || decide (32 ≤ e.1 / groupBytes)) }
      boot := { s.boot with shadowCopied := true, romRegion := false, rekeys := s.boot.rekeys ++ [(16, 16)] } }) ∧
    (¬ due → exec .bootstrapShadowCopyDone s = .next { s with out := [] }))

/-- Leaves are loaded and released bough by bough, swaps replace a leaf whole, boughs power down, and D00 bootstraps. (R92, R93, R94, R97, R112, R163, R174, R246, R363, R364, R365) -/
def Obligations.BringUp : Prop :=
  (∀ n s b bs, live s = true → s.boot.releaseQueue = b :: bs →
    let due := s.boot.installedAt + 12500000 + 25000000 * s.boot.releases
    let fresh := fun (l : Nat) => loadLeaf l (grainLeaf l s) s
    (max s.now n < due → exec (.leafRelease n) s = .next (atInput n s)) ∧
    (due ≤ max s.now n → bs ≠ [] →
      ∃ t, exec (.leafRelease n) s = .next t ∧
        t = { atInput n s with
          lvs := { s.lvs with leaf := t.lvs.leaf }
          boot := { s.boot with releaseQueue := bs, releases := s.boot.releases + 1, leafRun := t.boot.leafRun } } ∧
        ∀ l, (l / 16 = b → leafAt l t = leafAt l (fresh l) ∧
            ((grainLeaf l s).role ≠ 0 → (grainLeaf l s).role ≠ 5 →
              let p := tget {} s.grn.grain.programs (grainLeaf l s).program
              leafAt l t = { role := (grainLeaf l s).role, program := (grainLeaf l s).program, released := true, epoch := (leafAt l s).epoch + 1,
                             imem := mwrite 0 [] 0 p.imem, dmem := mwrite 0 [] 0 p.dmem })) ∧
          (l / 16 ≠ b → leafAt l t = leafAt l s))) ∧
  (∀ (l : Fin 192) s, live s = true →
    (s.grn.swaps.contains l.val = false → exec (.programSwap l) s = .next { s with out := [] }) ∧
    (s.grn.swaps.contains l.val = true → (leafAt l s).fenced = true →
      exec (.programSwap l) s = .next { s with out := [], grn := { s.grn with swaps := s.grn.swaps.filter (· != l.val) } }) ∧
    (s.grn.swaps.contains l.val = true → (leafAt l s).fenced = false → (boughRuns (l / 16) s = false ∨ roleWorkDone l s = false) →
      exec (.programSwap l) s = .next { s with out := [] }) ∧
    (s.grn.swaps.contains l.val = true → (leafAt l s).fenced = false → boughRuns (l / 16) s = true → roleWorkDone l s = true →
      ∃ t, exec (.programSwap l) s = .next t ∧ t.grn.swaps = s.grn.swaps.filter (· != l.val) ∧
        (leafAt l t).role = (grainLeaf l s).role ∧ (leafAt l t).epoch = (leafAt l s).epoch + 1 ∧ (leafAt l t).pc = 0 ∧
        (leafAt l t).flight = [] ∧ (leafAt l t).tags = [] ∧ (s.hlw.chan = [] → (leafAt l t).events = 0) ∧
        ((grainLeaf l s).role ≠ 0 → (grainLeaf l s).role ≠ 5 → (leafAt l t).released = true ∧
          (leafAt l t).imem = mwrite 0 [] 0 (tget {} s.grn.grain.programs (grainLeaf l s).program).imem))) ∧
  (∀ (b : Fin 12) s, live s = true →
    let idle := s.grn.powerDown.contains b.val = true ∧ (∀ l ∈ s.grn.swaps, l / 16 ≠ b.val) ∧ (∀ e ∈ (eng b s).ports, e.2 = noJob) ∧
      (s.boot.helper = some b.val → ∀ e ∈ s.cus.dom, e.2.st ≠ .select ∧ e.2.st ≠ .verify ∧ (e.2.bootDue = false ∨ e.2.pg = false))
    (idle → ∃ t, exec (.boughPowerDown b) s = .next t ∧ t.grn = { s.grn with powerDown := s.grn.powerDown.filter (· != b.val) } ∧
      (boughNrg b t).power = .off ∧ t.boot = { s.boot with helper := if s.boot.helper = some b.val then none else s.boot.helper }) ∧
    (idle → s.boot.helper ≠ some b.val → s.hlw.chan = [] → exec (.boughPowerDown b) s = .next (modBough b (fun _ => { power := .off }) { s with
      out := [], grn := { s.grn with powerDown := s.grn.powerDown.filter (· != b.val) } })) ∧
    (¬ idle → exec (.boughPowerDown b) s = .next { s with out := [] })) ∧
  (∀ s, live s = true →
    (s.grn.drains = [] → s.cnp.opens = [] → exec .bucketDrainExpiry s = .next { s with out := [] }) ∧
    (∃ t, exec .bucketDrainExpiry s = .next t ∧ t.grn = { s.grn with drains := [] } ∧
      ∀ e ∈ t.cnp.entries, ∃ x ∈ s.cnp.entries, x.handle = e.handle)) ∧
  (∀ n since a b f s, live s = true →
    let may := s.fuses.bootSet = true ∧ lcsLoads s.boot.lcs = true ∧ s.grn.installed = false ∧ s.boot.stopped = false ∧ s.boot.helper.isSome = true ∧
      s.boot.dramTrained ≠ 0 ∧ s.boot.dramOff = false ∧ s.kpf.replayed = true ∧ (cdom 0 s).st = .held ∧ (cdom 0 s).pg = true ∧
      ((cdom 0 s).pgLost = true → (cdom 0 s).pgAt + 10000000000 ≤ max s.now n) ∧ cusOn 0 s = true ∧
      (s.boot.bootstrapped = true → (cdom 0 s).bootDue = true)
    (¬ may → exec (.domain0Bootstrap n since a b f) s = .next (atInput n s)) ∧
    (may → twf {} s.cus.dom = true →
      (s.kpf.anchorLost = false → flashDummy f.sfdp 0 50 ≠ none → ∀ k img rest, (bootstrapOrder a b s).1 = (k, img) :: rest → bootstrapTest img s = none →
        ∃ t, exec (.domain0Bootstrap n since a b f) s = .next t ∧ (cdom 0 t).st = .running ∧ (cdom 0 t).released = true ∧
          (cdom 0 t).alert = false ∧ (cdom 0 t).src = k ∧ (cdom 0 t).fallback = false ∧ (cdom 0 t).flt.rom = true ∧ (cdom 0 t).flt.phase = 1 ∧
          (cdom 0 t).seq = BitVec.ofNat 64 (hdrOf img).seq ∧
          t.boot.bootstrapped = true ∧ t.cus.lastRelease = some (max s.now n) ∧ (∀ d, d ≠ 0 → cdom d t = cdom d s)) ∧
      (s.kpf.anchorLost = true ∨ flashDummy f.sfdp 0 50 = none ∨ (bootstrapOrder a b s).1 = [] ∨
          (∀ e ∈ (bootstrapOrder a b s).1, bootstrapTest e.2 s ≠ none) →
        ∃ t, exec (.domain0Bootstrap n since a b f) s = .next t ∧ (cdom 0 t).st = .failed ∧ (cdom 0 t).alert = true ∧
          t.boot = { s.boot with result := 0x1005 } ∧ (∀ d, d ≠ 0 → cdom d t = cdom d s))))

namespace Sys2Proof

/-! ### Pushes and installation -/

/-- The session with its staging emptied and no frame posted (R102). -/
def clearedPush (p : Push) : Push :=
  { p with
    staging := [], frames := (p.frames.map (fun e => (e.1, { e.2 with posted := none }))).filter (fun e => e.2 != {})
    i3cFrame := { p.i3cFrame with posted := none }, accepted := 0, total := 0, nextPost := 0 }

/-- The push session changed. -/
def withPush (p : Push) (s : State) : State := { s with grn := { s.grn with push := p } }

/-- A session ends with a code: FAILED, staging emptied, RESULT, and the event (INFO for order, timeout, busy and restart codes, else
SECURE); before any Grain the code stands in TAP_BOOT_STAT too and start-up waits for the next attempt. -/
def failsPush (code : W16) (s : State) : State :=
  let u := withPush { clearedPush s.grn.push with state := 5, result := code } s
  let u := if s.grn.installed then u
    else
      let v := withBoot { u.boot with result := code } u
      if s.boot.phase = .verify ∨ s.boot.phase = .install then phaseTo .waitGrain v else v
  emit (if code = 0x1010 ∨ code = 0x1017 ∨ code = 0x101A ∨ code = 0x1027 then .info else .secure) code (srcTree 0) [] u

/-- A host or sideband session stands open for the interface. -/
def MyPush (i3c : Bool) (s : State) : Prop :=
  live s = true ∧ 1 ≤ s.grn.push.state ∧ s.grn.push.state ≤ 3 ∧ s.grn.push.iface = i3c ∧ s.grn.push.source ≤ 1

end Sys2Proof

/-- A push session opens for one interface, takes blocks in order, refuses overruns, and ends on abort, disorder or timeout. (R100, R101, R102, R103, R104, R105) -/
def Obligations.Pushes : Prop :=
  (∀ (i3c store : Bool) s, live s = true → pushAllowed s = true →
    let p := s.grn.push
    (¬ (1 ≤ p.state ∧ p.state ≤ 3) ∨ (p.iface = i3c ∧ p.source ≠ 2) →
      exec (.pushStart i3c store) s = .next (withPush { clearedPush p with state := 1, iface := i3c, store := store, source := if i3c then 1 else 0 } { s with out := [] })) ∧
    (1 ≤ p.state → p.state ≤ 3 → p.iface ≠ i3c ∨ p.source = 2 →
      exec (.pushStart i3c store) s = .next (emit .info 0x101A (srcTree 0) [] (withPush { p with result := 0x101A } { s with out := [] })))) ∧
  (∀ (i3c store : Bool) s, live s = true → pushAllowed s = false → exec (.pushStart i3c store) s = .next { s with out := [] }) ∧
  (∀ (i3c store : Bool) s, MyPush i3c s →
    let u := withPush { clearedPush s.grn.push with state := 0, result := 0, store := store } { s with out := [] }
    exec (.pushAbort i3c store) s = .next (if s.boot.phase = .verify ∨ s.boot.phase = .install then phaseTo .waitGrain u else u)) ∧
  (∀ (i3c store : Bool) k n s, live s = true → ¬ (1 ≤ s.grn.push.state ∧ s.grn.push.state ≤ 3 ∧ s.grn.push.iface = i3c ∧ s.grn.push.source ≤ 1) →
    exec (.pushAbort i3c store) s = .next { s with out := [] } ∧ exec (.pushPost i3c k n) s = .next { s with out := [] }) ∧
  (∀ (i3c : Bool) (k : BitVec 12) (n : BitVec 17) s, MyPush i3c s →
    let p := s.grn.push
    let f := if i3c then p.i3cFrame else tget {} p.frames (k.toNat % 256)
    let f' : PushFrame := { f with posted := some (k.toNat, padTo (min n.toNat 65536) f.data) }
    (k.toNat = p.nextPost → (p.total = 0 ∨ k.toNat < p.total) → f.posted = none →
      exec (.pushPost i3c k n) s = .next (withPush (if i3c then { p with i3cFrame := f', nextPost := k.toNat + 1 }
        else { p with frames := tset {} p.frames (k.toNat % 256) f', nextPost := k.toNat + 1 }) { s with out := [] })) ∧
    (k.toNat = p.nextPost → (p.total = 0 ∨ k.toNat < p.total) → f.posted ≠ none →
      exec (.pushPost i3c k n) s = .next (withPush { p with overrun := true } { s with out := [] })) ∧
    (k.toNat ≠ p.nextPost → exec (.pushPost i3c k n) s = .next (failsPush 0x1010 { s with out := [] })) ∧
    (k.toNat = p.nextPost → p.total ≠ 0 → p.total ≤ k.toNat → exec (.pushPost i3c k n) s = .next (failsPush 0x1019 { s with out := [] }))) ∧
  (∀ (k : Fin 256) (off : Fin 65536) (d : Bytes) s, live s = true →
    let p := s.grn.push
    let f := tget {} p.frames k
    (1 ≤ p.state → p.state ≤ 3 → p.iface = true → exec (.pushFrameWrite k off d) s = .next { s with out := [] }) ∧
    (¬ (1 ≤ p.state ∧ p.state ≤ 3 ∧ p.iface = true) → f.posted = none → exec (.pushFrameWrite k off d) s = .next (withPush { p with frames := tset {} p.frames k { f with
      data := (padTo off f.data ++ d ++ f.data.drop (off + d.length)).take 65536 } } { s with out := [] })) ∧
    (¬ (1 ≤ p.state ∧ p.state ≤ 3 ∧ p.iface = true) → f.posted ≠ none → exec (.pushFrameWrite k off d) s = .next (withPush { p with overrun := true } { s with out := [] }))) ∧
  (∀ s, MyPush s.grn.push.iface s → s.grn.push.state ≠ 3 → (s.grn.push.total = 0 ∨ s.grn.push.nextPost < s.grn.push.total) →
    exec .pushTimeout s = .next (failsPush 0x1017 { s with out := [] })) ∧
  (∀ s, live s = true → (s.grn.push.state ≠ 1 ∧ s.grn.push.state ≠ 2 ∨ 2 ≤ s.grn.push.source ∨
      (s.grn.push.total ≠ 0 ∧ s.grn.push.total ≤ s.grn.push.nextPost)) → exec .pushTimeout s = .next { s with out := [] }) ∧
  (∀ (b : Bytes) n s, live s = true →
    (b.length < 5 ∨ fieldLe b 0 1 ≠ 0xC5 → exec (.i3cRegisterAccess b n) s = .next { s with out := [] }) ∧
    (b.length = 5 → fieldLe b 0 1 = 0xC5 → 0x1000 ≤ fieldLe b 1 4 → (fieldLe b 1 4 < 0x10000 ∨ 0x20000 ≤ fieldLe b 1 4) →
      exec (.i3cRegisterAccess b n) s = .next { s with out := [.reply (List.replicate n 0)] }) ∧
    (b.length = 5 → fieldLe b 0 1 = 0xC5 → fieldLe b 1 4 < 0x1000 →
      exec (.i3cRegisterAccess b n) s = .next { s with out := [.reply (identBytes (fieldLe b 1 4) (min n (0x1000 - fieldLe b 1 4)) s)] }) ∧
    (b.length = 5 → fieldLe b 0 1 = 0xC5 → 0x10000 ≤ fieldLe b 1 4 → fieldLe b 1 4 < 0x20000 →
      exec (.i3cRegisterAccess b n) s = .next { s with out := [.reply (padTo n (s.grn.push.i3cFrame.data.drop (fieldLe b 1 4 - 0x10000)))] }) ∧
    (5 < b.length → fieldLe b 0 1 = 0xC5 → 0x10000 ≤ fieldLe b 1 4 → fieldLe b 1 4 < 0x20000 → ¬ (1 ≤ s.grn.push.state ∧ s.grn.push.state ≤ 3) →
      s.grn.push.i3cFrame.posted = none →
      exec (.i3cRegisterAccess b n) s = .next (withPush { s.grn.push with i3cFrame := { s.grn.push.i3cFrame with
        data := (padTo (fieldLe b 1 4 - 0x10000) s.grn.push.i3cFrame.data ++ b.drop 5 ++
          s.grn.push.i3cFrame.data.drop (fieldLe b 1 4 - 0x10000 + (b.drop 5).length)).take 65536 } } { s with out := [] })) ∧
    (∀ v : Byte, b = [0xC5, 0x00, 0x02, 0x00, 0x00, v, 0, 0, 0] → v.getLsbD 0 = true → v.getLsbD 1 = false →
      exec (.i3cRegisterAccess b n) s = exec (.pushStart true (v.getLsbD 2)) (withPush { s.grn.push with store := v.getLsbD 2 } s)))

/-- A head and blocks are taken only when they verify, and a Grain that passes every check is installed as one act. (R106, R107, R109, R110, R111, R359, R360, R363, R485, R550) -/
def Obligations.GrainSteps : Prop :=
  (∀ (i3c : Bool) h s, MyPush i3c s → s.grn.push.state = 1 → grainBough s ≠ none →
    let p := s.grn.push
    let f := if i3c then p.i3cFrame else tget {} p.frames 0
    f.posted = some (0, h) →
    (∀ c, headTests h s = some c → exec .grainHeadVerify s = .next (failsPush c { s with out := [] })) ∧
    (headTests h s = none → (headFields h).blocks < p.nextPost → exec .grainHeadVerify s = .next (failsPush 0x1019 { s with out := [] })) ∧
    (headTests h s = none → p.nextPost ≤ (headFields h).blocks →
      let q := if i3c then { p with i3cFrame := { f with posted := none } } else { p with frames := tset {} p.frames 0 { f with posted := none } }
      let n := (headFields h).blocks
      let u := withPush { q with state := if n ≤ 1 then 3 else 2, total := n, accepted := 1, staging := tset [] p.staging 0 h } { s with out := [] }
      exec .grainHeadVerify s = .next (if s.grn.installed then u else phaseTo .verify u))) ∧
  (∀ (i3c : Bool) b s, MyPush i3c s → s.grn.push.state = 2 → grainBough s ≠ none →
    let p := s.grn.push
    let k := p.accepted
    let f := if i3c then p.i3cFrame else tget {} p.frames (k % 256)
    f.posted = some (k, b) →
    let q := if i3c then { p with i3cFrame := { f with posted := none } } else { p with frames := tset {} p.frames (k % 256) { f with posted := none } }
    (sha384 b = headDigestOf (tget [] p.staging 0) k →
      exec .grainBlockAccept s = .next (withPush { q with staging := tset [] p.staging k b, accepted := k + 1, state := if p.total ≤ k + 1 then 3 else 2 } { s with out := [] })) ∧
    (sha384 b ≠ headDigestOf (tget [] p.staging 0) k →
      exec .grainBlockAccept s = .next (failsPush 0x1012 (withPush q { s with out := [] })))) ∧
  (∀ n lvl s, live s = true → s.grn.push.state = 3 → s.grn.push.result ≠ 0x1027 →
    (s.grn.installed = true → s.cnp.st ≠ 1 ∧ s.cnp.st ≠ 2) →
    (∀ c, grainRefusal (atInput n s) = some c → (c = 0x1026 → s.grn.push.store = false ∨ s.grn.push.source = 2) → s.grn.push.source ≤ 2 →
      exec (.grainInstall n lvl) s = .next (failsPush c (atInput n s))) ∧
    (grainRefusal (atInput n s) = none →
      let g := stagedGrain (atInput n s)
      let first := !s.grn.installed
      let h := sha384 (tget [] s.grn.push.staging 0)
      (g.svnCommit = true → s.fuses.svn < g.svn → s.boot.vfuse = false →
        exec (.grainInstall n lvl) s = .next (if s.grn.installed = true ∨ s.boot.phase = .install then atInput n s else phaseTo .install (atInput n s))) ∧
      (g.svnCommit = false ∨ g.svn ≤ s.fuses.svn ∨ s.boot.vfuse = true →
        ∃ t, exec (.grainInstall n lvl) s = .next t ∧ t.grn.installed = true ∧ t.nrg.lvlBalls = lvl ∧
          t.grn.grain = (if first then g else { g with
            time := s.grn.grain.time, energy := { s.grn.grain.energy with holdupUj := g.energy.holdupUj, keepTpp := g.energy.keepTpp } }) ∧
          t.grn.timeNext = (if first then none else if g.partialG then s.grn.timeNext else some g.time) ∧
          t.grn.energyNext = (if first then none else if g.partialG then s.grn.energyNext else some g.energy) ∧
          t.grn.partials = (if g.partialG then s.grn.partials + 1 else 0) ∧ t.grn.heads = (if g.partialG then s.grn.heads ++ [h] else [h]) ∧
          t.grn.meas = sha384 ((if g.partialG then padTo 48 s.grn.meas else List.replicate 48 0) ++ h) ∧
          t.grn.push = { clearedPush s.grn.push with state := 4, result := 0 } ∧ t.boot.installedAt = max s.now n ∧
          t.fuses.svn = (if g.svnCommit then max s.fuses.svn g.svn else s.fuses.svn) ∧
          (first = true → t.slt.counting = true ∧ t.slt.slot = 0 ∧ t.slt.edgeAt = max s.now n ∧
            (t.boot.powerQueue ≠ [] ∨ t.boot.releaseQueue ≠ [] → t.boot.phase = .boughs))))) ∧
  (∀ n s, live s = true → s.grn.installed = false → grainBough s ≠ none → s.grn.keepTried = false →
    ¬ (1 ≤ s.grn.push.state ∧ s.grn.push.state ≤ 3) →
    let u := atInput n s
    let v : State := { u with grn := { u.grn with keepTried := true } }
    (s.boot.src = 0 ∨ s.boot.src = 3 → keepCopies u = [] →
      let w := emit .fault 0x1020 srcKeep [] (withBoot { s.boot with result := 0x1020 } { v with grn := { v.grn with keepOrder := [] } })
      exec (.keepGrainRead n) s = .next (if s.boot.src = 3 then stopsAt w else w)) ∧
    (s.boot.src = 1 ∨ s.boot.src = 2 → exec (.keepGrainRead n) s = .next u) ∧
    (∀ c cs b, s.boot.src = 0 ∨ s.boot.src = 3 → keepCopies u = c :: cs → keepStage c u = some b →
      exec (.keepGrainRead n) s = .next (withPush { clearedPush s.grn.push with
        state := 3, source := 2, iface := false, staging := b, total := b.length, accepted := b.length, result := 0 }
        (phaseTo .verify { v with grn := { v.grn with keepOrder := cs } })))) ∧
  (∀ a b s, live s = true →
    let dropped := fun (as : List Job) => (emit .fault 0x2044 srcKeep [] { s with
      out := [], kpf := { s.kpf with result := 0x2044 }, grn := { s.grn with storeDue := false, storeBlocks := [] }, nrg := { s.nrg with admitted := as } })
    let job := fun (j : Job) => j.act == .store
    (s.grn.storeDue = false → exec (.grainStoreWrite a b) s = .next { s with out := [] }) ∧
    (s.grn.storeDue = true → s.boot.keyless = true ∨ s.tmp.erased = true →
      ∃ t, exec (.grainStoreWrite a b) s = .next t ∧ t.nrg = { s.nrg with admitted := s.nrg.admitted.eraseP job } ∧
        t.tel = (dropped t.nrg.admitted).tel ∧ t.grn = (dropped t.nrg.admitted).grn ∧ t.kpf = (dropped t.nrg.admitted).kpf) ∧
    (s.grn.storeDue = true → s.boot.keyless = false → s.tmp.erased = false → (∀ j ∈ s.nrg.admitted, j.act ≠ .store) →
      exec (.grainStoreWrite a b) s = .next { s with out := [] }) ∧
    (s.grn.storeDue = true → s.boot.keyless = false → s.tmp.erased = false → (∃ j ∈ s.nrg.admitted, j.act = .store) → mirrors s = [0, 1] →
      twf [] s.kpf.m0.pages = true → twf [] s.kpf.m1.pages = true →
      let c := if tget 0 s.kpf.copySeq 0 ≤ tget 0 s.kpf.copySeq 1 then 0 else 1
      let f := headFields (tget [] s.grn.storeBlocks 0)
      let ps := copyPages s.grn.storeBlocks
      ∃ t, exec (.grainStoreWrite [] []) s = .next t ∧ t.grn = { s.grn with storeDue := false, storeBlocks := [] } ∧
        t.kpf.acts = s.kpf.acts ++ [.grain c f.seq f.svn f.blocks (sha384 (tget [] s.grn.storeBlocks 0))] ∧
        t.nrg = { s.nrg with admitted := s.nrg.admitted.eraseP job } ∧
        (∀ m < 2, ∀ k, (k < ps.length → (mir m t).read (grainBase c + k) = fullPage (ps.getD k [])) ∧
          (k < grainBase c ∨ grainBase c + max 131072 ps.length ≤ k → (mir m t).read k = (mir m s).read k))))

namespace Sys2Proof

/-! ### Entropy -/

/-- The ENT block changed. -/
def withEnt (x : Ent) (s : State) : State := { s with ent := x }

end Sys2Proof

/-- Sources pass or fail their tests, blocks serve the generators, and random words come once, late, or not at all. (R132, R145, R146, R147, R148, R149, R150, R151, R152, R154) -/
def Obligations.EntropySteps : Prop :=
  (∀ n (i : Fin 4) b s, live s = true → (noise i s).startup ≠ 0 → (noise i s).fenced = false → s.boot.phase ≠ .entropy →
    let run := healthRun {} (sampleBits b)
    (b.length = 512 → run.2 = true → twf {} s.ent.src = true →
      let x := setNoise i { noise i s with health := run.1, healthy := true, startup := 0 } (atInput n s)
      exec (.entStartupTestDone n i b) s = .next (withEnt { x.ent with valid := decide (2 ≤ healthyCount x) } x)) ∧
    (b.length ≠ 512 ∨ run.2 = false → twf {} s.ent.src = true →
      ∃ t, exec (.entStartupTestDone n i b) s = .next t ∧ (noise i t).healthy = false ∧ t.ent.failed = setBit s.ent.failed i true ∧
        t.ent.valid = decide (2 ≤ healthyCount t) ∧ ((noise i t).fenced = false → (noise i t).startup = if (noise i s).startup = 1 then 2 else 0))) ∧
  (∀ n (i : Fin 4) b s, live s = true → ((noise i s).startup = 0 ∨ (noise i s).fenced = true) → exec (.entStartupTestDone n i b) s = .next (atInput n s)) ∧
  (∀ n (r : NoiseRun) s, live s = true → s.boot.phase ≠ .entropy →
    let c := collect (healthySources s) 0 r.samples s.ent.src
    let i := r.src.val
    (healthySources s = [] ∨ c.2 ≠ some i → exec (.entHealthFail n r) s = .next (atInput n s)) ∧
    (healthySources s ≠ [] → c.2 = some i →
      let fails := (max s.now n :: (tget {} c.1 i).fails).filter (fun x => decide (max s.now n - x ≤ 3600000000000000))
      let x := setNoise i { healthy := false, startup := if 3 ≤ fails.length then 0 else 1, fenced := decide (3 ≤ fails.length), fails := fails }
        (withEnt { s.ent with src := c.1 } (atInput n s))
      let y := withEnt { x.ent with failed := setBit s.ent.failed i true } x
      let z := emit .fault 0x5010 (srcTree 3) [] (bump (cEntropy i) y)
      exec (.entHealthFail n r) s = .next (withEnt { z.ent with valid := decide (2 ≤ healthyCount z) } z))) ∧
  (∀ n b s, live s = true → s.boot.vfuse = false → s.ent.waits = [] →
    let c := collect (healthySources s) 0 (sampleBits b) s.ent.src
    (s.ent.valid = false ∨ healthySources s = [] ∨ b.length ≠ 128 → exec (.conditionedBlock n b) s = .next (atInput n s)) ∧
    (s.ent.valid = true → healthySources s ≠ [] → b.length = 128 → c.2 = none → s.ent.dramKeysDue = [] →
      exec (.conditionedBlock n b) s = .next (withEnt { s.ent with src := c.1, blocks := s.ent.blocks ++ [sha384 b] } (atInput n s))) ∧
    (∀ i, s.ent.valid = true → healthySources s ≠ [] → b.length = 128 → c.2 = some i → s.boot.phase ≠ .entropy →
      ∃ t, exec (.conditionedBlock n b) s = .next t ∧ t.ent.blocks = s.ent.blocks ∧ t.ent.failed = setBit s.ent.failed i true)) ∧
  (∀ n (i : Fin 5) s, live s = true →
    (∀ b0 b1 bs, (drbg i s).on = false → s.ent.blocks = b0 :: b1 :: bs → s.ent.dramKeysDue = [] → s.ent.hsVDue = false → s.ent.waits = [] →
      s.boot.vfuse = false →
      let d := drbgInit (blockCipherDf (b0 ++ b1 ++ s.fuses.fuseId ++ [BitVec.ofNat 8 i.val]) 48)
      exec (.drbgInstantiate n i) s = .next (setDrbg i { on := true, k := d.k, v := d.v, reqs := 0, at_ := max s.now n } (withEnt { s.ent with blocks := bs } (atInput n s)))) ∧
    (∀ b bs, (drbg i s).on = true → drbgDue (drbg i s) (atInput n s) = true → s.ent.blocks = b :: bs →
      let d := drbgReseedWith { k := (drbg i s).k, v := (drbg i s).v } (blockCipherDf b 48)
      exec (.drbgReseed n i) s = .next (setDrbg i { on := true, k := d.k, v := d.v, reqs := 0, at_ := max s.now n } (withEnt { s.ent with blocks := bs } (atInput n s)))) ∧
    ((drbg i s).on = false ∨ (drbgDue (drbg i s) (atInput n s) = true ∧ s.ent.blocks = []) → exec (.drbgReseed n i) s = .next (atInput n s)) ∧
    (s.ent.blocks = [] → s.ent.dramKeysDue = [] → s.ent.hsVDue = false → s.ent.waits = [] → s.boot.vfuse = false →
      exec (.drbgInstantiate n i) s = .next (atInput n s))) ∧
  (∀ (w : BitVec 4) s, live s = true →
    (s.boot.pf1 = false → exec (.entRequest w) s = .next { s with out := [] }) ∧
    (s.boot.pf1 = true → s.ent.running = true → exec (.entRequest w) s = .next (withEnt { s.ent with words := w, result := 0x5012 } { s with out := [] })) ∧
    (s.boot.pf1 = true → s.ent.running = false → exec (.entRequest w) s = .next (withEnt { s.ent with
      words := w, asked := w, since := s.now, running := true, ready := false, out := [], outRead := [] } { s with out := [] }))) ∧
  (∀ n s, live s = true →
    let count := 4 * (s.ent.asked.toNat + 1)
    let ask := drbgRequest 4 false count
    (s.ent.running = false → exec (.entOutputReady n) s = .next (atInput n s)) ∧
    (∀ b u, s.ent.running = true → ask (atInput n s) = some (b, u) →
      exec (.entOutputReady n) s = .next (withEnt { u.ent with running := false, ready := true, result := 0, out := (chunks 4 b).map (fun w => BitVec.ofNat 32 (leNat w)) } u)) ∧
    (s.ent.running = true → ask (atInput n s) = none → exec (.entOutputReady n) s = .next (atInput n s)) ∧
    (s.ent.running = true → s.ent.waits = [] → ask (atInput (s.ent.since + 10000000000) s) = none →
      ∃ t, exec .entStarvedTimeout s = .next t ∧ t.now = max s.now (s.ent.since + 10000000000) ∧ t.ent.running = false ∧ t.ent.ready = true ∧
        t.ent.result = 0x5011 ∧ t.ent.out = List.replicate (s.ent.asked.toNat + 1) 0 ∧
        t.tel = (emit .fault 0x5011 (srcTree 3) [] (atInput (s.ent.since + 10000000000) s)).tel) ∧
    (s.ent.running = false → s.ent.waits = [] → exec .entStarvedTimeout s = .next { s with out := [] })) ∧
  (∀ (i : Fin 16) s, live s = true →
    (s.ent.ready = false → exec (.entOutRead i) s = .next (withEnt { s.ent with early := true } { s with out := [.value 0] })) ∧
    (s.ent.ready = true → s.ent.valid = true → i.val ≤ s.ent.asked.toNat →
      (tget false s.ent.outRead i = false → exec (.entOutRead i) s = .next (withEnt { s.ent with outRead := tset false s.ent.outRead i true }
        { s with out := [.value ((s.ent.out.getD i 0).setWidth 64)] })) ∧
      (tget false s.ent.outRead i = true → exec (.entOutRead i) s = .next (withEnt { s.ent with twice := true } { s with out := [.value 0] }))) ∧
    (s.ent.ready = true → s.ent.valid = false ∨ s.ent.asked.toNat < i.val → exec (.entOutRead i) s = .next { s with out := [.value 0] }))

namespace Sys2Proof

/-! ### The vault -/

/-- The KEY block changed. -/
def withVault (x : Vault) (s : State) : State := { s with vault := x }

/-- A finished operation: KEY_BUF empty, READY, its result; a refusal reports its code to the SECURE class (R131, R132). -/
def keyEnds (code : W16) (s : State) : State :=
  let u := withVault { s.vault with buf := [], bufRead := [], bufSecret := false, busy := false, ready := true, result := code } s
  if code = 0 then u else if code = 0x5011 then emit .fault 0x5011 (srcTree 3) [] u else emit .secure code (srcTree 1) [] u

/-- No request being served has found the generator empty (06 R152). -/
def calm (s : State) : State := withEnt { s.ent with hungry := false } s

/-- A request tried at time `t` waits since then, or since it was first tried (06 R152). -/
def waitsSince (t : Nat) (s : State) : Nat := s.ent.waited.getD t

/-- The KEY block can take an operation. -/
def KeyIdle (s : State) : Prop := live s = true ∧ s.vault.busy = false

/-- WRITE_CLEAR, IMPORT, or REPLACE with clear material or a blob. -/
inductive KeyWrite : Instr → Bool → Bool → BitVec 12 → Prop
  | writeClear (n) : KeyWrite (.keyWriteClear n) false true n
  | import_ (n) : KeyWrite (.keyImport n) false false n
  | replace (n c) : KeyWrite (.keyReplace n c) true c n

/-- Everything outside the KEY block that a slot write may touch is the engines' caches, the SAs that named the slot, and the journal
queue. -/
def KeyKept (s t : State) : Prop :=
  t.fuses = s.fuses ∧ t.boot = s.boot ∧ t.slt = s.slt ∧ t.lvs = s.lvs ∧ t.cnp = s.cnp ∧ t.cus = s.cus ∧ t.hlw = s.hlw ∧ t.grn = s.grn ∧
  t.chk = s.chk ∧ t.ent = s.ent ∧ t.tmp = s.tmp ∧ t.lcy = s.lcy ∧ t.brl.curves = s.brl.curves ∧
  t.kpf = { s.kpf with acts := t.kpf.acts, result := t.kpf.result }

end Sys2Proof

/-- A slot write that fails a test of R552 changes no slot, and one that passes puts its material, attribute and KCV in. (R124, R126, R131, R135, R136, R137, R139, R552) -/
def Obligations.KeyWrites : Prop :=
  ∀ (c : Instr) (replace clear : Bool) (n : BitVec 12) s, KeyWrite c replace clear n → KeyIdle s →
    let i := keyInput clear s
    let o := vslot n.toNat s
    (∀ e, keyWriteTests replace n.toNat i s = some e → exec c s = .next (keyEnds e { s with out := [] })) ∧
    (clear = true → clearAllowed n.toNat s = false → exec c s = .next (keyEnds 0x5006 { s with out := [] })) ∧
    (clear = true → clearAllowed n.toNat s = true → n.toNat < 64 → exec c s = .next (keyEnds 0x5008 { s with out := [] })) ∧
    (∀ e, keyWriteTests replace n.toNat i s = none → keyMaterial i s = .error e → exec c s = .next (keyEnds e { s with out := [] })) ∧
    (∀ m, keyWriteTests replace n.toNat i s = none → keyMaterial i s = .ok m → spans i.attr s = false → twf {} s.vault.slots = true →
      m ≠ [] →
      let written := fun (t : State) =>
        KeyKept s t ∧ (vslot n.toNat t).mat = m ∧ (vslot n.toNat t).attr = i.attr ∧ (vslot n.toNat t).kcv = kcvOf m ∧
        (vslot n.toNat t).gen = o.gen + 1 ∧ (vslot n.toNat t).clear = clear ∧ (vslot n.toNat t).old = o.mat ∧
        (∀ k, k ≠ n.toNat → vslot k t = vslot k s) ∧ t.vault.buf = [] ∧
        (attrPersist i.attr = false → t.kpf = s.kpf ∧ t.vault.busy = false ∧ t.vault.ready = true ∧ t.vault.result = 0) ∧
        (attrPersist i.attr = true → journalShut s = false →
          t.kpf.acts = s.kpf.acts ++ [.key n.toNat] ∧ t.vault.busy = true ∧ t.vault.ready = false ∧ n.toNat ∈ t.vault.awaiting)
      (replace = false → ∃ t, exec c s = .next t ∧ written t) ∧
      (replace = true → kcvOf m ≠ s.vault.expectKcv → exec c s = .next (keyEnds 0x5004 { s with out := [] })) ∧
      (replace = true → kcvOf m = s.vault.expectKcv → s.vault.arg = 0 → ∃ t, exec c s = .next t ∧ written t) ∧
      (replace = true → kcvOf m = s.vault.expectKcv → s.vault.arg ≠ 0 →
        ∃ t, exec c s = .next t ∧ KeyKept s t ∧ t.kpf = s.kpf ∧ (∀ k, vslot k t = vslot k s) ∧ t.vault.result = 0 ∧ t.vault.ready = true ∧
          tget {} t.vault.staged n.toNat = { mat := m, attr := i.attr, kcv := kcvOf m, clear := clear, at_ := s.vault.arg }))

/-- EXPORT wraps, ERASE empties, INFO reports, and the old material, persisted records and rewrapped records follow. (R123, R126, R130, R132, R133, R136, R139, R140, R141, R142, R470) -/
def Obligations.KeyOperations : Prop :=
  (∀ (n : BitVec 12) s, KeyIdle s →
    let v := vslot n.toNat s
    let wv := vslot s.vault.wrap.toNat s
    let start := calm (withVault { s.vault with buf := [], bufRead := [], bufSecret := false, ready := false, busy := true } { s with out := [] })
    let ends := fun (c : W16) => exec (.keyExport n) s = .next (keyEnds c (calm { s with out := [] }))
    (n.toNat < 64 ∨ s.vault.wrap.toNat < 64 → ends 0x5008) ∧
    (64 ≤ n.toNat → 64 ≤ s.vault.wrap.toNat →
      (slotEmpty n.toNat s = true ∨ slotEmpty s.vault.wrap.toNat s = true → ends 0x5001) ∧
      (slotEmpty n.toNat s = false → slotEmpty s.vault.wrap.toNat s = false →
        (attrHost wv.attr = false → ends 0x5008) ∧
        (attrHost wv.attr = true → attrExport v.attr = false ∨ attrUsage wv.attr ≠ 2 ∨ attrType wv.attr ≠ 2 → ends 0x500A) ∧
        (attrHost wv.attr = true → attrExport v.attr = true → attrUsage wv.attr = 2 → attrType wv.attr = 2 →
          (s.boot.keyless = true → v.clear = false ∨ wv.clear = false → ends 0x5007) ∧
          ((s.boot.keyless = true → v.clear = true ∧ wv.clear = true) →
            (∀ iv u, drbgRequest 4 false 12 start = some (iv, u) →
              let hd := ascii "HWK1" ++ leBytes 2 1 ++ leBytes 2 2 ++ leBytes 4 v.attr.toNat ++ leBytes 3 v.kcv ++ [0] ++ s.fuses.fuseId ++ iv ++ leBytes 2 v.mat.length ++ leBytes 2 0
              let ct := gcmCrypt wv.mat iv v.mat
              exec (.keyExport n) s = .next (withVault { u.vault with
                buf := mwrite 0 [] 0 (hd ++ ct ++ gcmTag wv.mat iv hd ct), bufSecret := true, bufRead := [], busy := false, ready := true, result := 0 } u)) ∧
            (drbgRequest 4 false 12 start = none → s.now < waitsSince s.now s + 10 * psMs →
              exec (.keyExport n) s = .next (withEnt { start.ent with waits := s.ent.waits ++ [(.keyExport n.toNat, waitsSince s.now s)] } start))))))) ∧
  (∀ (n : BitVec 12) s, KeyIdle s →
    (n.toNat < 64 → exec (.keyEraseSlot n) s = .next (keyEnds 0x5008 { s with out := [] })) ∧
    (64 ≤ n.toNat → slotEmpty n.toNat s = true → exec (.keyEraseSlot n) s = .next (keyEnds 0x5001 { s with out := [] })) ∧
    (64 ≤ n.toNat → slotEmpty n.toNat s = false → twf {} s.vault.slots = true → twf {} s.vault.staged = true →
      ∃ t, exec (.keyEraseSlot n) s = .next t ∧ KeyKept s t ∧ t.vault.result = 0 ∧ t.vault.ready = true ∧ t.vault.busy = false ∧
        vslot n.toNat t = { gen := (vslot n.toNat s).gen + 1, old := (vslot n.toNat s).mat } ∧
        ((vslot (n.toNat + 1) s).span = true → vslot (n.toNat + 1) t = { gen := (vslot (n.toNat + 1) s).gen + 1 }) ∧
        ((vslot (n.toNat + 1) s).span = false → vslot (n.toNat + 1) t = vslot (n.toNat + 1) s) ∧
        (∀ k, k ≠ n.toNat → k ≠ n.toNat + 1 → vslot k t = vslot k s) ∧
        tget {} t.vault.staged n.toNat = {} ∧
        (attrPersist (vslot n.toNat s).attr = true → journalShut s = false → t.kpf.acts = s.kpf.acts ++ [.keyErase n.toNat]))) ∧
  (∀ n s, KeyIdle s → ∃ t, exec (.keyEraseAll n) s = .next t ∧ t.vault.tap = [] ∧ t.vault.staged = [] ∧ t.vault.erased = true ∧
    (∀ e ∈ t.vault.slots, e.2.mat = []) ∧ t.tmp.erased = true ∧ t.boot.keyless = true ∧ t.slp.standby = {} ∧ t.ent.drbg = [] ∧
    t.cnp.st = 0 ∧ t.cnp.entries = [] ∧ t.kpf.acts = [] ∧ t.vault.result = 0 ∧ t.vault.busy = false ∧ t.fuses = s.fuses ∧ t.tmp.latch = s.tmp.latch) ∧
  (∀ (n : BitVec 12) s, KeyIdle s → n.toNat < 64 → exec (.keyInfo n) s = .next (keyEnds 0x5008 { s with out := [] })) ∧
  (∀ (n : BitVec 12) s, live s = true → s.vault.busy = true →
    exec (.keyInfo n) s = .next { s with out := [] } ∧ exec (.keyEraseSlot n) s = .next { s with out := [] } ∧
    exec (.keyExport n) s = .next { s with out := [] } ∧ exec (.keyWriteClear n) s = .next { s with out := [] }) ∧
  (∀ (n : BitVec 12) s, KeyIdle s → 64 ≤ n.toNat →
    let v := vslot n.toNat s
    exec (.keyInfo n) s = .next (withVault { s.vault with
      buf := [], bufRead := [], bufSecret := false, busy := false, ready := true, result := 0
      info := BitVec.ofNat 64 (v.kcv * 2 ^ 40 + v.gen.toNat * 2 ^ 32 + v.attr.toNat)
      infoExt := BitVec.ofNat 3 ((if v.span then 4 else 0) + (if v.persisted then 2 else 0) + (if v.clear then 1 else 0)) } { s with out := [] })) ∧
  (∀ (w : Fin 4096) s, live s = true →
    let v := s.vault
    let x := BitVec.ofNat 64 (leNat (mread 0 v.buf (4 * w) 4))
    (v.ready = false → exec (.keyBufRead w) s = .next (withVault { v with early := true } { s with out := [.value 0] })) ∧
    (v.ready = true → v.bufSecret = false → exec (.keyBufRead w) s = .next { s with out := [.value x] }) ∧
    (v.ready = true → v.bufSecret = true → tget false v.bufRead w = false →
      exec (.keyBufRead w) s = .next (withVault { v with bufRead := tset false v.bufRead w true } { s with out := [.value x] })) ∧
    (v.ready = true → v.bufSecret = true → tget false v.bufRead w = true →
      exec (.keyBufRead w) s = .next (withVault { v with twice := true } { s with out := [.value 0] }))) ∧
  (∀ (n : BitVec 12) s, live s = true →
    (oldHeld n.toNat s = true → exec (.keyOldMaterialZero n) s = .next { s with out := [] }) ∧
    (oldHeld n.toNat s = false → exec (.keyOldMaterialZero n) s = .next (setVslot n.toNat { vslot n.toNat s with old := [] } { s with out := [] }))) ∧
  (∀ (n : BitVec 12) s, live s = true → s.kpf.acked.contains (.key n.toNat) = true → (vslot n.toNat s).mat ≠ [] → s.vault.awaiting = [n.toNat] → s.vault.busy = true →
    exec (.keyRecordJournalled n) s = .next (
      let u := setVslot n.toNat { vslot n.toNat s with persisted := true } { s with out := [], kpf := { s.kpf with acked := s.kpf.acked.erase (.key n.toNat) } }
      withVault { u.vault with awaiting := [], busy := false, ready := true, result := 0 } u)) ∧
  (∀ (n : BitVec 12) s, live s = true → s.kpf.acked.contains (.key n.toNat) = false → exec (.keyRecordJournalled n) s = .next { s with out := [] }) ∧
  (∀ s n x r, live s = true → s.vault.rewrap = (n, x) :: r → journalShut s = false → s.nrg.jobs = [] →
    (∃ j ∈ s.nrg.admitted, j.act = .rewrap) → (∀ j ∈ s.nrg.admitted, j.begun = false → j.act = .rewrap ∨ j.act = .none) →
    let left := tset 0 s.vault.rewrap n 0
    exec .keyRewrap s = .next { s with
      out := [], vault := { s.vault with rewrap := left }, kpf := { s.kpf with acts := s.kpf.acts ++ [.key n] }
      nrg := { s.nrg with admitted := if left = [] then s.nrg.admitted.eraseP (fun j => j.act == .rewrap) else s.nrg.admitted } }) ∧
  (∀ s, live s = true → s.vault.rewrap = [] →
    exec .keyRewrap s = .next { s with out := [], nrg := { s.nrg with admitted := s.nrg.admitted.eraseP (fun j => j.act == .rewrap) } }) ∧
  (∀ s, live s = true → s.vault.erased = true → twf {} s.vault.slots = true → ∃ t, exec .vaultZeroizeDone s = .next t ∧
    t = { s with out := [], vault := { s.vault with slots := t.vault.slots } } ∧ ∀ k, vslot k t = { vslot k s with old := [] }) ∧
  (∀ s, live s = true → s.vault.erased = false → exec .vaultZeroizeDone s = .next { s with out := [] })

/-- A recovery window opens only on a fresh challenge and an owner's token, and closes at its end. RCV_CHALLENGE with DRBG_T serving gives 32 fresh bytes at KEY_BUF, public, and remembers them; without output it waits, and 10 ms after its start ENT_STARVED_TIMEOUT ends it with 0x5011. RCV_OPEN: a token that meets every condition of R138 opens the window of its range until its duration has passed, and any other ends with 0x500C, opens none and consumes the challenge. RECOVERY_WINDOW_EXPIRY closes it. A token is accepted only for this device, with a range within 64 to 4,095 and a duration of 1 to 3,600 s, naming the challenge last given. (R138, R152) -/
def Obligations.KeyRecovery : Prop :=
  (∀ n s, KeyIdle s →
    let start := calm (withVault { s.vault with buf := [], bufRead := [], bufSecret := false, ready := false, busy := true } (atInput n s))
    (∀ c u, drbgRequest 4 false 32 start = some (c, u) → exec (.rcvChallenge n) s = .next (withVault { u.vault with
      challenge := some c, buf := mwrite 0 [] 0 c, bufSecret := false, bufRead := [], busy := false, ready := true, result := 0 } u)) ∧
    (drbgRequest 4 false 32 start = none → max s.now n < waitsSince (max s.now n) s + 10 * psMs →
      exec (.rcvChallenge n) s = .next (withEnt { start.ent with waits := s.ent.waits ++ [(.rcvChallenge, waitsSince (max s.now n) s)] } start))) ∧
  (∀ s n, live s = true → s.ent.running = false → s.ent.waits = [(.rcvChallenge, n)] → (drbg 4 s).on = false →
    ∃ t, exec .entStarvedTimeout s = .next t ∧ t.now = max s.now (n + 10000000000) ∧ t.vault.result = 0x5011 ∧ t.vault.ready = true ∧
      t.vault.busy = false ∧ t.vault.challenge = s.vault.challenge ∧ t.ent.waits = []) ∧
  (∀ s, KeyIdle s →
    let b := mread 0 s.vault.buf 0 16384
    (rcvTokenOk b s = true → exec .rcvOpen s = .next (withVault { s.vault with
      buf := [], bufRead := [], bufSecret := false, busy := false, ready := true, result := 0
      window := some (fieldLe b 4 2, fieldLe b 6 2), windowEnd := s.now + fieldLe b 0x38 4 * 1000000000000, windowWritten := [] } { s with out := [] })) ∧
    (rcvTokenOk b s = false → exec .rcvOpen s = .next (keyEnds 0x500C (withVault { s.vault with challenge := none } { s with out := [] }))) ∧
    (rcvTokenOk b s = true → 64 ≤ fieldLe b 4 2 ∧ 1 ≤ fieldLe b 6 2 ∧ fieldLe b 4 2 + fieldLe b 6 2 ≤ 4096 ∧ 1 ≤ fieldLe b 0x38 4 ∧
      fieldLe b 0x38 4 ≤ 3600 ∧ slice b 8 16 = s.fuses.fuseId ∧ s.vault.challenge = some (slice b 0x18 32))) ∧
  (∀ s, live s = true → exec .recoveryWindowExpiry s = .next (withVault { s.vault with window := none, windowWritten := [] } { s with out := [] }))

namespace Sys2Proof

/-! ### The keep flash -/

/-- The KPF block changed. -/
def withKpf (x : Kpf) (s : State) : State := { s with kpf := x }

end Sys2Proof

/-- Acts get one page each in order, a page is acknowledged only when every mirror reads it back, and floors follow a burned step. (R77, R79, R233, R234, R235, R236, R237, R239, R241, R244, R246, R550) -/
def Obligations.JournalRows : Prop :=
  (∀ s, live s = true →
    let acts := s.kpf.acts.filter (actLive s)
    let v := withKpf { s.kpf with acts := acts } { s with out := [] }
    let may := s.kpf.replayed = true ∧ s.boot.keyless = false ∧ s.tmp.erased = false ∧ s.nrg.pfw = false ∧ s.nrg.pending < s.nrg.nMax
    (¬ may ∨ acts.find? (actReady v) = none → exec .journalAppend s = .next v) ∧
    (∀ a, may → acts.find? (actReady v) = some a →
      let g := takeGroup a (groupMax a s) acts
      let p : JPage := { recd := recordOf g.1 s.kpf.seq (withKpf { s.kpf with acts := g.2 } s), acts := g.1 }
      ∃ t, exec .journalAppend s = .next t ∧ t.kpf.acts = g.2 ∧ t.kpf.pages = s.kpf.pages ++ [p] ∧ t.kpf.seq = s.kpf.seq + 1 ∧
        t.nrg = { s.nrg with pending := s.kpf.pages.length + 1, reserveFull := decide (s.nrg.nMax ≤ s.kpf.pages.length + 1) } ∧
        t.vault = s.vault ∧ t.fuses = s.fuses ∧
        (s.kpf.prog.isSome = true → t.kpf = { s.kpf with acts := g.2, pages := s.kpf.pages ++ [p], seq := s.kpf.seq + 1 }))) ∧
  (∀ a b s, s.kpf.prog = none → exec (.keepPageDone a b) s = .next { s with out := [] } ∧ exec .keepPageTimeout s = .next { s with out := [] }) ∧
  (∀ b0 b1 s p, s.kpf.prog = some p → p.mirrors = [0, 1] → fullPage p.bytes = p.bytes → s.kpf.copying = false →
    twf [] s.kpf.m0.pages = true → twf [] s.kpf.m1.pages = true → s.kpf.formatDue = [] →
    (∀ q, p.kind = .record → s.kpf.pages = [q] → q.acts = [] → fullPage b0 = p.bytes → fullPage b1 = p.bytes →
      ∃ t, exec (.keepPageDone b0 b1) s = .next t ∧ t.kpf.pages = [] ∧ t.kpf.headPage = s.kpf.headPage + 1 ∧
        (∀ m < 2, (mir m t).read p.page = p.bytes ∧ ∀ j, j ≠ p.page → (mir m t).read j = (mir m s).read j) ∧
        t.nrg.pending = 0 ∧ (s.nrg.flush = .pages → t.nrg.flush = .done)) ∧
    (∀ q, p.kind = .record → s.kpf.pages = [q] → fullPage b0 ≠ p.bytes → fullPage b1 = p.bytes → s.kpf.fails = [0, 0] → s.kpf.headPage ≤ 14 →
      s.kpf.degraded = 0 → s.kpf.copyDue = 0 →
      ∃ t, exec (.keepPageDone b0 b1) s = .next t ∧ t.kpf.pages = [q] ∧ t.kpf.headPage = s.kpf.headPage + 1 ∧
        (mir 0 t).read p.page = fullPage b0 ∧ (mir 1 t).read p.page = p.bytes ∧ t.kpf.fails = [1, 0]) ∧
    (p.kind = .header → 65 ≤ s.kpf.freeSectors → fullPage b0 = p.bytes → fullPage b1 = p.bytes →
      ∃ t, exec (.keepPageDone b0 b1) s = .next t ∧ t.kpf.headPage = 1 ∧ t.kpf.freeSectors = s.kpf.freeSectors - 1 ∧ t.kpf.pages = s.kpf.pages) ∧
    (s.nrg.flush ≠ .pages → exec .keepPageTimeout s = .next { s with out := [] }) ∧
    (∀ q, s.nrg.flush = .pages → p.kind = .record → s.kpf.pages = [q] → ∃ t, exec .keepPageTimeout s = .next t ∧ t.kpf.pages = [] ∧
      t.nrg.flush = .done ∧ t.kpf.headPage = s.kpf.headPage + 1 ∧ (∀ m < 2, ∃ v, (mir m t).read p.page = tornPage v p.bytes) ∧
      t.kpf.acked = s.kpf.acked)) ∧
  (∀ s, live s = true → s.kpf.ckpt = none → ∀ l, exec (.checkpointDone l) s = .next { s with out := [] }) ∧
  (∀ s c, live s = true → s.kpf.ckpt = some c → s.boot.keyless = false → s.tmp.erased = false →
    let tab : CkptTab := { start := c.startSeq, ceil := ckptCeilings s, jmk := tapKey 2 s }
    let put := fun (m : Nat) (x : Mirror) => if mirUsed m s = false then x else if c.table = 0 then { x with table0 := some tab } else { x with table1 := some tab }
    ∃ t, exec (.checkpointDone []) s = .next t ∧ t = { s with out := t.out, kpf := { s.kpf with
      ckpt := none, m0 := put 0 s.kpf.m0, m1 := put 1 s.kpf.m1, acts := s.kpf.acts ++ [.ckptDone c.table c.startSeq 4194304] } }) ∧
  (∀ s n fl, live s = true → s.kpf.burnTo = some (n, fl) →
    (s.boot.vfuse = false → exec .anchorBurnDone s = .next { s with out := [] }) ∧
    (s.boot.vfuse = true → s.kpf.burning = [] → n < 4096 → exec .anchorBurnDone s = .next (bump (cDevice 10) { s with
      out := [], fuses := { s.fuses with anchor := n }
      kpf := { s.kpf with floors := (fl.zipIdx).foldl (fun t e => tset 0 t e.2 e.1) [], burnTo := none, burning := [] } })) ∧
    (s.boot.vfuse = true → ∃ t, exec .anchorBurnDone s = .next t ∧ t.fuses = { s.fuses with anchor := n } ∧
      t.kpf.floors = (fl.zipIdx).foldl (fun t e => tset 0 t e.2 e.1) [] ∧ t.kpf.burnTo = none)) ∧
  (∀ s, live s = true → s.kpf.burnTo = none → exec .anchorBurnDone s = .next { s with out := [] }) ∧
  (∀ s, live s = true → journalShut s = false →
    (s.boot.pf1 = true → s.vault.window.isSome = true → s.kpf.anchorLost = true →
      exec .floorSetGo s = .next (withKpf { s.kpf with acts := s.kpf.acts ++ [.floorSet ((List.range 32).map (fun d => (tget 0 s.cus.floorSet d).toNat))] } { s with out := [] })) ∧
    (s.boot.pf1 = false ∨ s.vault.window = none ∨ s.kpf.anchorLost = false → exec .floorSetGo s = .next { s with out := [] })) ∧
  (∀ s, live s = true → (s.kpf.replayed = true ∨ s.boot.romRunning = false ∨ s.boot.phase = .entropy) → exec .journalReplay s = .next { s with out := [] }) ∧
  (∀ s, live s = true → s.kpf.replayed = false → s.boot.romRunning = true → s.boot.phase = .dram ∨ s.boot.phase = .helper → s.boot.keyless = false →
    s.tmp.erased = false → s.kpf.prog = none →
    let u := deriveJmk (withKpf { s.kpf with replayed := true, keylessRead := false } { s with out := [] })
    (keepFormatted u = false → s.fuses.anchor = 0 → s.kpf.copyDue = 0 → s.kpf.degraded = 0 → ∃ t, exec .journalReplay s = .next t ∧
      t.kpf.replayed = true ∧ t.kpf.result = 0x2043 ∧ t.kpf.seq = 1 ∧ t.kpf.headSector = 4079 ∧ t.kpf.headPage = 16 ∧ t.kpf.freeSectors = 4080 ∧
      t.kpf.formatDue = [0, 16] ∧ t.kpf.acts = s.kpf.acts ∧ t.tel = (emit .info 0x2043 srcKeep [] s).tel ∧
      (∀ m < 2, (mir m t).table0 = none ∧ (mir m t).table1 = none ∧ ∀ k, (grainBase 0 ≤ k → k < logBase → (mir m t).read k = (mir m s).read k) ∧
        (k < tableBase 0 → (mir m t).read k = erasedPage))) ∧
    (keepFormatted u = true → (∀ e ∈ usedSectors u, sectorHeld e u = none) → s.fuses.anchor = 0 → s.kpf.copyDue = 0 → s.kpf.ckptSeq = 0 →
      ∃ t, exec .journalReplay s = .next t ∧ t.kpf.replayed = true ∧ t.kpf.formatted = true ∧ t.kpf.seq = 1 ∧ t.kpf.freeSectors = 4080 ∧
        t.kpf.m0 = s.kpf.m0 ∧ t.kpf.m1 = s.kpf.m1)) ∧
  (∀ s, live s = true → s.kpf.replayed = false → s.kpf.freeSectors < 32 → exec .journalCompaction s = .next { s with out := [] }) ∧
  (∀ s, live s = true → s.kpf.replayed = true → s.kpf.freeSectors < 32 → journalShut s = false → s.kpf.ckpt.isSome = true → s.kpf.prog.isSome = true →
    (oldestSector s = none → exec .journalCompaction s = .next { s with out := [] }) ∧
    (∀ n, oldestSector s = some n → (∀ e ∈ journalRecords s, e.1 / 16 = n → recordLive (journalRecords s) s.kpf.ckptPrev e.2 = false) →
      ∃ t, exec .journalCompaction s = .next t ∧ t.kpf.acts = s.kpf.acts ∧ t.kpf.freeSectors = s.kpf.freeSectors + (if (sectorHeld n s).isSome then 1 else 0) ∧
        t = withKpf t.kpf { s with out := t.out } ∧
        ∀ m ∈ mirrors s, ∀ k, (mir m t).read k = if ringPage n 0 ≤ k ∧ k < ringPage (n + 1) 0 then erasedPage else (mir m s).read k)) ∧
  (∀ s, live s = true → s.kpf.replayed = true → s.kpf.freeSectors < 32 → journalShut s = true →
    ∃ t, exec .journalCompaction s = .next t ∧ t = withKpf { s.kpf with result := 0x2044 } { s with out := t.out, tel := t.tel, hostMem := t.hostMem }) ∧
  (∀ s, live s = true → 64 ≤ s.kpf.freeSectors → s.nrg.jobs = [] → s.nrg.admitted = [] →
    let w := workEntry s 3
    let j : Job := { id := s.nrg.nextJob, kind := 3, eUj := w.eUj, act := .compact }
    ¬ FitsBudget s.nrg.pC0 j { s with out := [] } →
    exec .journalCompaction s = .next { s with out := [], nrg := { s.nrg with jobs := [j], nextJob := s.nrg.nextJob + 1 } })

namespace Sys2Proof

/-! ### Life cycle, debug and tamper -/

/-- The LCY block changed. -/
def withLcy (x : Lcy) (s : State) : State := { s with lcy := x }

/-- The TMP block changed. -/
def withTmp (x : Tmp) (s : State) : State := { s with tmp := x }

/-- A request's end: its result, READY, nothing pending (R455). -/
def lcyEnds (code : W16) (x : Lcy) : Lcy :=
  { x with result := code, ready := true, busy := false, pending := none, waitFuse := false }

/-- A request is taken at `n`: BUSY, the buffer zeroed (R455). -/
def lcyTaken (n : Nat) (s : State) : Lcy :=
  { s.lcy with busy := true, ready := false, since := max s.now n, buf := [], pending := some .done }

/-- The five requests of LCY_CMD. -/
inductive LcyRequest : Instr → Bool → Nat → Prop
  | transChallenge (v n) : LcyRequest (.transChallenge v n) v n
  | transRequest (v n) : LcyRequest (.transRequest v n) v n
  | dbgChallenge (v n) : LcyRequest (.dbgChallenge v n) v n
  | dbgResponse (v n) : LcyRequest (.dbgResponse v n) v n
  | dbgLock (v n) : LcyRequest (.dbgLock v n) v n

/-- The requests answer a next state, for PF1 or the debug TAP. -/
def lcyServed (v : Bool) (s : State) : Prop := live s = true ∧ (v = true ∨ s.boot.pf1 = true)

end Sys2Proof

/-- Life-cycle and debug requests are served one at a time, each challenge once, and act only at READY. (R115, R152, R446, R455, R457, R458, R459, R460, R461, R462, R479, R532) -/
def Obligations.LifeRequests : Prop :=
  (∀ c v n s, LcyRequest c v n → live s = true →
    (v = false → s.boot.pf1 = false → exec c s = .next { s with out := [] }) ∧
    (v = true ∨ s.boot.pf1 = true → s.lcy.busy = true → exec c s = .next (emit .secure 0x6012 (srcTree 0) [] (atInput n s)))) ∧
  (∀ v n s, lcyServed v s → s.lcy.busy = false →
    let u := atInput n s
    let b := lcyBuf 16384 s
    let refused := fun (code : W16) (x : Lcy) => emit .secure code (srcTree 0) [] (withLcy { x with pending := some (.refused code) } u)
    (∀ k t, freshChallenge (withLcy (lcyTaken n s) u) = some (k, t) →
      exec (.transChallenge v n) s = .next (withLcy { t.lcy with buf := mwrite 0 [] 0 k, transChallenge := some k } t) ∧
      exec (.dbgChallenge v n) s = .next (withLcy { t.lcy with
        buf := mwrite 0 [] 0 (dbgMessage k t), dbgChallenge := some (dbgMessage k t) } t)) ∧
    (freshChallenge (withLcy (lcyTaken n s) u) = none →
      exec (.transChallenge v n) s = .next (withLcy { lcyTaken n s with pending := some (.challenge false) } u) ∧
      exec (.dbgChallenge v n) s = .next (withLcy { lcyTaken n s with pending := some (.challenge true) } u)) ∧
    (s.lcy.transChallenge = none → exec (.transRequest v n) s = .next (refused 0x6012 (lcyTaken n s))) ∧
    (∀ k, s.lcy.transChallenge = some k →
      let x : Lcy := { lcyTaken n s with transChallenge := none }
      let a := fieldLe b 4 1
      (fieldLe b 5 1 ≠ s.boot.lcs.num ∨ (a ≤ 5 ∧ lcsAllowed s.boot.lcs.num a = false) ∨ (a = 1 ∧ v = false) ∨ (6 ≤ a ∧ a < 0x10) ∨ 0x14 < a ∨
        (0x10 ≤ a ∧ s.boot.lcs ≠ .grafted) → exec (.transRequest v n) s = .next (refused 0x6003 x)) ∧
      (∀ e, tokenTest v b (some k) (withLcy x u) = some e → exec (.transRequest v n) s = .next (refused e x)) ∧
      (tokenTest v b (some k) (withLcy x u) = none →
        (a ≤ 5 → exec (.transRequest v n) s = .next (emit .lifecycle 0x6007 (srcTree 0) (d1 s.boot.lcs.num ++ d1 a)
          (withLcy { x with pending := some (.move a) } u))) ∧
        (5 < a → exec (.transRequest v n) s = .next (withLcy { x with pending := some (.fuse (a - 0x10) (slice b 0x38 48)) } u)))) ∧
    (let x : Lcy := { lcyTaken n s with dbgChallenge := none, lastResponse := some (max s.now n) }
     (∀ l, s.lcy.lastResponse = some l → max s.now n < l + 2 * psS → exec (.dbgResponse v n) s = .next (refused 0x6011 x)) ∧
     ((∀ l, s.lcy.lastResponse = some l → l + 2 * psS ≤ max s.now n) →
       (s.lcy.dbgChallenge = none → exec (.dbgResponse v n) s = .next (refused 0x6012 x)) ∧
       (∀ e, responseTest b s.lcy.dbgChallenge (withLcy x u) = some e → exec (.dbgResponse v n) s = .next (refused e x)) ∧
       (responseTest b s.lcy.dbgChallenge (withLcy x u) = none →
         exec (.dbgResponse v n) s = .next (withLcy { x with pending := some (.grant (fieldLe b 0x38 4) (fieldLe b 0x3C 2)) } u)))) ∧
    (s.lcy.unlocked = true → exec (.dbgLock v n) s = .next (emit .lifecycle 0x6015 (srcTree 0) (d1 1)
      (withLcy { lcyTaken n s with unlocked := false, grantBoughs := 0, grantScope := 0 } u))) ∧
    (s.lcy.unlocked = false → exec (.dbgLock v n) s = .next (withLcy (lcyTaken n s) u))) ∧
  (∀ n (copies : Fin 4) i s, live s = true →
    let u := atInput n s
    (s.lcy.busy = false ∨ s.lcy.pending = none ∨ max s.now n < s.lcy.since + 10000000000 → exec (.lcyResultReady n copies i) s = .next u) ∧
    (s.lcy.busy = true → s.lcy.since + 10000000000 ≤ max s.now n →
      (∀ c, s.lcy.pending = some (.refused c) → exec (.lcyResultReady n copies i) s = .next (withLcy (lcyEnds c s.lcy) u)) ∧
      (s.lcy.pending = some .done → exec (.lcyResultReady n copies i) s = .next (withLcy (lcyEnds 0 s.lcy) u)) ∧
      (∀ d, s.lcy.pending = some (.challenge d) →
        (∀ k t, freshChallenge u = some (k, t) → exec (.lcyResultReady n copies i) s = .next (withLcy (lcyEnds 0
          (if d then { t.lcy with buf := mwrite 0 [] 0 (dbgMessage k t), dbgChallenge := some (dbgMessage k t) }
           else { t.lcy with buf := mwrite 0 [] 0 k, transChallenge := some k })) t)) ∧
        (freshChallenge u = none → ∃ t, exec (.lcyResultReady n copies i) s = .next t ∧ t.tel = (emit .fault 0x5011 (srcTree 3) [] u).tel ∧
          t.lcy = lcyEnds 0x5011 (if d then { s.lcy with dbgChallenge := none } else { s.lcy with transChallenge := none }))) ∧
      (∀ sc bo, s.lcy.pending = some (.grant sc bo) →
        let u := if s.lcy.unlocked then emit .lifecycle 0x6015 (srcTree 0) (d1 3) u else u
        exec (.lcyResultReady n copies i) s = .next (withLcy (lcyEnds 0 { s.lcy with
          unlocked := true, grantScope := BitVec.ofNat 4 sc, grantBoughs := BitVec.ofNat 12 bo })
          (emit .lifecycle 0x6014 (srcTree 0) (d4 sc ++ d2 bo) u))) ∧
      (∀ a, s.lcy.pending = some a → a.fuses = true →
        (s.boot.vfuse = false → exec (.lcyResultReady n copies i) s = .next (withLcy { s.lcy with waitFuse := true } u)) ∧
        (s.boot.vfuse = true → copies ≠ 3 → ∃ t, exec (.lcyResultReady n copies i) s = .next t ∧
          t.lcy = { lcyEnds 0x6006 s.lcy with retry := some a } ∧ t.boot = s.boot ∧ t.vault = s.vault ∧ t.kpf = s.kpf ∧
          t.fuses = { s.fuses with lcs := t.fuses.lcs })) ∧
      (∀ k d, s.lcy.pending = some (.fuse k d) → k < 4 → s.boot.vfuse = true → copies = 3 → (s.fuses.hsO.isSome = true ∨ ∃ h ∈ s.fuses.ownerKeys, h ≠ []) →
        exec (.lcyResultReady n copies i) s = .next (withLcy (lcyEnds 0 s.lcy) (emit .lifecycle 0x6008 (srcTree 0) (d1 (0x10 + k))
          { u with fuses := { s.fuses with ownerKeys := (List.range 4).map (fun j => if j = k then d else s.fuses.ownerKeys.getD j []) } }))) ∧
      (∀ k d h t, s.lcy.pending = some (.fuse k d) → k < 4 → s.boot.vfuse = true → copies = 3 → s.fuses.hsO = none → (∀ x ∈ s.fuses.ownerKeys, x = []) →
        drbgRequest 4 true 32 u = some (h, t) →
        ∃ x, exec (.lcyResultReady n copies i) s = .next x ∧ x.lcy = lcyEnds 0 s.lcy ∧ x.ent = t.ent ∧
          x.fuses = { s.fuses with hsO := some h, ownerKeys := (List.range 4).map (fun j => if j = k then d else []) }) ∧
      (∀ d, s.lcy.pending = some (.fuse 4 d) → s.boot.vfuse = true → copies = 3 →
        exec (.lcyResultReady n copies i) s = .next (withLcy (lcyEnds 0 s.lcy) (emit .lifecycle 0x6008 (srcTree 0) (d1 0x14)
          { u with fuses := { s.fuses with bootKey := d, bootSet := true } }))) ∧
      (s.lcy.pending = some (.move 3) → s.boot.vfuse = true → copies = 3 → s.fuses.lcs = [lcsWord 2, lcsWord 2, lcsWord 2] →
        let f := { s.fuses with lcs := [lcsWord 3, lcsWord 3, lcsWord 3] }
        PlainStart i 3 { u with fuses := f } → exec (.lcyResultReady n copies i) s = .next (afterStart i 3 { u with fuses := f })))) ∧
  (∀ n s, live s = true →
    let u := atInput n s
    (s.tmp.disBusy = true ∨ max s.now n < s.tmp.disAt →
      exec (.disableChallenge n) s = .next u ∧ exec (.disableRequest n) s = .next u) ∧
    (s.tmp.disBusy = false → s.tmp.disAt ≤ max s.now n →
      let x : Tmp := { s.tmp with buf := [], disReady := true, disAt := max s.now n + 10 * psMs }
      (∀ k t, freshChallenge (calm (withTmp x u)) = some (k, t) →
        exec (.disableChallenge n) s = .next (withTmp { t.tmp with buf := mwrite 0 [] 0 k, disChallenge := some k, result := 0 } t)) ∧
      (freshChallenge (calm (withTmp x u)) = none → max s.now n < waitsSince (max s.now n) s + 10 * psMs →
        exec (.disableChallenge n) s = .next (withEnt { s.ent with
          hungry := false, waits := s.ent.waits ++ [(.disChallenge, waitsSince (max s.now n) s)] } (withTmp x u))) ∧
      (disTokenOk (mread 0 s.tmp.buf 0 4096) u = false →
        exec (.disableRequest n) s = .next (emit .secure 0x7006 (srcTree 0) [] (withTmp { x with disChallenge := none, result := 0x7006 } u))) ∧
      (s.tmp.disChallenge = none ∨ (s.boot.lcs ≠ .sapling ∧ s.boot.lcs ≠ .grafted) →
        exec (.disableRequest n) s = .next (emit .secure 0x7006 (srcTree 0) [] (withTmp { x with disChallenge := none, result := 0x7006 } u))) ∧
      (disTokenOk (mread 0 s.tmp.buf 0 4096) u = true →
        let m := BitVec.ofNat 16 (fieldLe (mread 0 s.tmp.buf 0 4096) 4 2)
        (s.boot.vfuse = true → exec (.disableRequest n) s = .next (withTmp { x with
            disChallenge := none, disPending := none, disBusy := false, result := 0 }
          { u with fuses := { s.fuses with tamperOff := s.fuses.tamperOff ||| m } })) ∧
        (s.boot.vfuse = false → exec (.disableRequest n) s = .next (withTmp { x with
            disChallenge := none, disPending := some (0, m), disBusy := true } u)))))

/-- The TAP's reads return the previous read's data, every debug access needs the state or a grant with its scope, and EXTEST stops the device. (R447, R449, R450, R452, R453, R454, R461) -/
def Obligations.DebugAccess : Prop :=
  (∀ n (a v : BitVec 32) s, live s = true →
    let u := emitOut (.value (s.lcy.capLcy.setWidth 64)) (atInput n s)
    exec (.lcyAccess n false a v) s = .next (withLcy { s.lcy with capLcy := BitVec.ofNat 32 (lcyRead true a.toNat u) } u) ∧
    exec (.lcyAccess n true 8 v) s = .next (withLcy { s.lcy with reqBoughs := v.extractLsb' 16 12, reqScope := v.extractLsb' 0 4 } u) ∧
    (0x1000 ≤ a.toNat → a.toNat < 0x5000 → exec (.lcyAccess n true a v) s = .next (withLcy { s.lcy with
      buf := mwrite 0 s.lcy.buf (a.toNat / 4 * 4 - 0x1000) (leBytes 4 v.toNat) } u)) ∧
    (a = 0 ∨ 0x0C ≤ a.toNat ∧ a.toNat < 0x1000 ∨ 0x5000 ≤ a.toNat → exec (.lcyAccess n true a v) s = .next u)) ∧
  (∀ n w (a v : BitVec 32) s, live s = true → dbgOpen s = false → s.lcy.unlocked = false →
    exec (.dbgAccess n w a v) s = .next (emitOut (.value 0) (atInput n s))) ∧
  (∀ n (l o : Nat) (v : BitVec 32) s, live s = true → (dbgOpen s = true ∨ s.lcy.unlocked = true) → l < 192 → o < 0x20000 →
    let u := emitOut (.value (s.lcy.capDbg.setWidth 64)) (atInput n s)
    let a := BitVec.ofNat 32 (l * 2 ^ 20 + o)
    let x := leafAt l s
    (dbgLeaf l s = true →
      (o < 0x10000 → exec (.dbgAccess n false a v) s = .next (withLcy { s.lcy with
          capDbg := BitVec.ofNat 32 (leNat (mread 0 x.imem (o / 4 * 4) 4)) } u) ∧
        ∃ t, exec (.dbgAccess n true a v) s = .next t ∧ (twf {} s.lvs.leaf = true → OnlyLeaf l { x with imem := mwrite 0 x.imem (o / 4 * 4) (leBytes 4 v.toNat) } u t)) ∧
      (0x10000 ≤ o → exec (.dbgAccess n false a v) s = .next (withLcy { s.lcy with
          capDbg := BitVec.ofNat 32 (leNat (mread 0 x.dmem ((o - 0x10000) / 4 * 4) 4)) } u) ∧
        ∃ t, exec (.dbgAccess n true a v) s = .next t ∧
          (twf {} s.lvs.leaf = true → OnlyLeaf l { x with dmem := mwrite 0 x.dmem ((o - 0x10000) / 4 * 4) (leBytes 4 v.toNat) } u t))) ∧
    (dbgLeaf l s = false → exec (.dbgAccess n false a v) s = .next (withLcy { s.lcy with capDbg := 0 } u) ∧
      exec (.dbgAccess n true a v) s = .next u)) ∧
  (∀ n (l o : Nat) (v : BitVec 32) s, live s = true → (dbgOpen s = true ∨ s.lcy.unlocked = true) → l < 192 → 0x20004 ≤ o → o < 0x100000 →
    let u := emitOut (.value (s.lcy.capDbg.setWidth 64)) (atInput n s)
    let a := BitVec.ofNat 32 (l * 2 ^ 20 + o)
    let x := leafAt l s
    (dbgLeaf l s = true ∨ dbgScope 0 0 s = true →
      let r := if o = 0x20004 then x.pc.setWidth 32
        else if 0x20080 ≤ o ∧ o < 0x20100 then x.reg (BitVec.ofNat 5 ((o - 0x20080) / 4))
        else if o = 0x20100 then x.flagsWord
        else if o = 0x20110 then x.acc.extractLsb' 0 32
        else if o = 0x20114 then x.acc.extractLsb' 32 32
        else if o = 0x20118 then (x.acc.extractLsb' 64 8).setWidth 32
        else 0
      exec (.dbgAccess n false a v) s = .next (withLcy { s.lcy with capDbg := r } u)) ∧
    (dbgLeaf l s = true → twf {} s.lvs.leaf = true →
      (o = 0x20004 → ∃ t, exec (.dbgAccess n true a v) s = .next t ∧ OnlyLeaf l { x with pc := v.setWidth 16 } u t) ∧
      (0x20080 ≤ o → o < 0x20100 → ∃ t, exec (.dbgAccess n true a v) s = .next t ∧ OnlyLeaf l (x.complete (.reg ((o - 0x20080) / 4) v)) u t))) ∧
  (∀ n (l : Fin 192) s, live s = true →
    let u := { s with out := [] }
    (dbgLeaf l.val s = false → exec (.dbgHalt n l) s = .next (atInput n s) ∧ exec (.dbgStep l) s = .next u ∧ exec (.resumeLeaf l) s = .next u) ∧
    (dbgLeaf l.val s = true →
      let to_ := fun (h : Bool) (s : State) => modLeaf l.val (fun x => { x with halted := h }) s
      ((leafAt l.val s).attached = true → exec (.dbgHalt n l) s = .next (to_ true (atInput n s))) ∧
      ((leafAt l.val s).attached = false → (leafAt l.val s).fenced = true → twf {} s.lvs.leaf = true →
        ∃ t, exec (.dbgHalt n l) s = .next t ∧ OnlyLeaf l.val { leafAt l.val s with attached := true, halted := true } (atInput n s) t) ∧
      exec (.resumeLeaf l) s = .next (to_ false u) ∧
      ((leafAt l.val s).halted = false → exec (.dbgStep l) s = .next u) ∧
      ((leafAt l.val s).halted = true → leafRuns l.val (to_ false u) = true → boughRuns (boughOfLeaf l.val) (to_ false u) = true →
        (leafAt l.val (to_ false u)).waiting = none →
        ∀ f rd rs rt t, leafDecode (leafAt l.val (to_ false u)).word = .alu .add f rd rs rt →
          exec (aluInstr .add l f rd rs rt) (to_ false u) = .next t → exec (.dbgStep l) s = .next (to_ true t)))) ∧
  (∀ (a b : Bytes) s,
    (s.boot.pwrgood = true → exec .idcode s = .next { s with out := [.reply (leBytes 4 Config.idcode.toNat)] } ∧
      exec (.samplePreload a b) s = .next { s with out := [.reply a], lcy := { s.lcy with cells := b } }) ∧
    (s.boot.pwrgood = false → exec .idcode s = .next { s with out := [] } ∧ exec (.samplePreload a b) s = .next { s with out := [] } ∧
      exec .extest s = .next { s with out := [] }) ∧
    (s.boot.lcs = .seed ∨ s.boot.lcs = .returned ∨ s.boot.lcs = .felled → exec .extest s = .next { s with out := [] }) ∧
    (s.boot.pwrgood = true → s.boot.lcs = .sapling ∨ s.boot.lcs = .grafted ∨ s.boot.lcs = .standing →
      ∃ t, exec .extest s = .next t ∧ t.lcy = { s.lcy with extest := true } ∧ live t = false ∧ t.cnp.opens = [] ∧ t.cnp.held = [] ∧
        t.slt.collecting = none ∧ t.vault = s.vault ∧ t.fuses = s.fuses) ∧
    (s.boot.pwrgood = true → s.boot.lcs = .sapling ∨ s.boot.lcs = .grafted ∨ s.boot.lcs = .standing → s.cus.dom = [] →
      ∃ t, exec .extest s = .next t ∧ t.lcy = { s.lcy with extest := true } ∧ live t = false ∧ t.cnp.opens = [] ∧ t.cnp.held = [] ∧
        t.slt.collecting = none ∧ t.vault = s.vault ∧ t.fuses = s.fuses ∧ t.kpf = s.kpf ∧ t.lvs = s.lvs))

/-- A tamper source that fires past step 6 erases every key at once, latches itself and owes an evidence step. (R83, R153, R464, R467, R468, R469, R471, R472, R474, R475, R477, R478) -/
def Obligations.TamperResponse : Prop :=
  (∀ n (m raw : BitVec 16) s,
    let u := atInput n s
    let w := withTmp { s.tmp with raw := raw } u
    (s.boot.pwrgood = false → exec (.tamperFire n m raw) s = .next u) ∧
    (s.boot.pwrgood = true → armedSources m s = [] → exec (.tamperFire n m raw) s = .next w) ∧
    (∀ k, s.boot.pwrgood = true → armedSources m s = [k] →
      (srcDisabled k s = true → exec (.tamperFire n m raw) s = .next (emit .secure 0x7004 (srcTree 0) [] w)) ∧
      (srcDisabled k s = false →
        let fired := fun (t : State) =>
          t.tmp.incident = setBit s.tmp.incident k true ∧ t.tmp.raw = raw ∧ t.tmp.first = some (s.tmp.first.getD k) ∧
          (s.tmp.first = none → s.fuses.evidence < 256 → t.tmp.latch = setBit s.tmp.latch k true ∧ t.tmp.burnDue = true) ∧
          (s.tmp.first = none → 256 ≤ s.fuses.evidence → t.tmp.burnDue = false)
        lcsDrives s = true →
        (pastStep6 s = false → ∃ t, exec (.tamperFire n m raw) s = .next t ∧ fired t ∧ t.vault = s.vault ∧ t.boot = s.boot ∧ t.cnp = s.cnp ∧
          t.kpf = s.kpf ∧ t.lnk = s.lnk ∧ t.slp = s.slp) ∧
        (pastStep6 s = true → s.tmp.erased = false → ∃ t, exec (.tamperFire n m raw) s = .next t ∧ fired t ∧
          t.tmp.erased = true ∧ t.boot = { s.boot with keyless := true, eraseSince3 := true } ∧
          (∀ e ∈ t.vault.slots, e.2.mat = []) ∧ t.vault.tap = [] ∧ t.vault.staged = [] ∧ t.vault.erased = true ∧ t.vault.buf = [] ∧
          t.ent.drbg = [] ∧ t.slp.standby = {} ∧ t.slp.state = s.slp.state ∧
          (∀ x ∈ t.spdm.sessions, x.reqSecret = [] ∧ x.rspSecret = [] ∧ x.master = []) ∧
          t.cnp.st = 0 ∧ t.cnp.entries = [] ∧ t.cnp.held = [] ∧ t.cnp.opens = [] ∧
          t.kpf.acts = [] ∧ t.kpf.pages = [] ∧ t.kpf.prog = none ∧ (s.kpf.prog = none → t.kpf.m0 = s.kpf.m0 ∧ t.kpf.m1 = s.kpf.m1) ∧ t.fuses = s.fuses ∧ t.lcy.unlocked = false)))) ∧
  (∀ (m : BitVec 4) s,
    (s.boot.pwrgood = true ∨ s.boot.vstby = false → exec (.standbyTamperFire m) s = .next { s with out := [] }) ∧
    (s.boot.pwrgood = false → s.boot.vstby = true →
      (exec (.standbyTamperFire 0) s = .next { s with out := [] }) ∧
      (srcDisabled 2 s = false → exec (.standbyTamperFire 4) s = .next (alarmPut (standbyEvent 2) { s with
        out := [], tmp := { s.tmp with latch := setBit s.tmp.latch 2 true }, slp := { s.slp with standby := {} } })))) ∧
  (∀ s, live s = true →
    (s.tmp.burnDue = true → s.boot.vfuse = true → pastStep6 s = true → s.nrg.pfw = false → (∀ k, s.lcy.pending ≠ some (.move k)) →
      exec .evidenceBurn s = .next { s with
        out := [], fuses := { s.fuses with evidence := s.fuses.evidence + 1 }
        tmp := { s.tmp with burnDue := false, latch := 0 } }) ∧
    (s.tmp.burnDue = false ∨ s.boot.vfuse = false ∨ pastStep6 s = false ∨ s.nrg.pfw = true ∨ (∃ k, s.lcy.pending = some (.move k)) → exec .evidenceBurn s = .next { s with out := [] })) ∧
  (∀ (m : BitVec 16) s, live s = true →
    (s.boot.pf1 = false → exec (.stimGo m) s = .next { s with out := [] } ∧ exec .alarmPop s = .next { s with out := [] }) ∧
    (s.boot.pf1 = true →
      (s.tmp.stimLeft = [] → exec (.stimGo m) s = .next { s with
        out := [], tmp := { s.tmp with stimMask := m, stimLeft := maskBits m, stimDone := 0, stimPass := 0 } }) ∧
      (s.tmp.stimLeft ≠ [] → exec (.stimGo m) s = .next (emit .secure 0x7008 (srcTree 0) [] { s with
        out := [], tmp := { s.tmp with stimMask := m, result := 0x7008 } })) ∧
      exec .alarmPop s = .next { s with out := [], tel := { s.tel with alarm := s.tel.alarm.drop 1, alarmOverflow := false } })) ∧
  (∀ n s k rest, live s = true → s.tmp.stimLeft = k :: rest →
    let y : Tmp := { s.tmp with stimLeft := rest, stimDone := setBit s.tmp.stimDone k true, stimPass := setBit s.tmp.stimPass k true }
    exec (.stimWindowEnd n true false) s = .next (withTmp (if rest = [] then
      { y with result := if y.stimPass = y.stimDone then 0 else 0x7005 } else y) (atInput n s)) ∧
    (srcDisabled k s = true → ∃ t, exec (.stimWindowEnd n false false) s = .next t ∧ t.tmp.stimLeft = rest ∧
      t.tmp.stimPass = setBit s.tmp.stimPass k false ∧ t.vault = s.vault ∧ t.tmp.incident = s.tmp.incident))

namespace Sys2Proof

/-! ### Custody -/

/-- Domain `d` changed. -/
def withDom (d : Nat) (x : CusDom) (s : State) : State := { s with cus := { s.cus with dom := tset {} s.cus.dom d x } }

/-- No other domain changed, and no unit outside custody but the phase, the Hollow Wood's channels and the telemetry. -/
def DomKept (d : Nat) (s t : State) : Prop :=
  (∀ k, k ≠ d → cdom k t = cdom k s) ∧ t.kpf = s.kpf ∧ t.fuses = s.fuses ∧ t.vault = s.vault ∧ t.lvs = s.lvs ∧ t.cnp = s.cnp ∧
  t.lnk = s.lnk ∧ t.grn = s.grn ∧ t.ent = s.ent ∧ t.slt = s.slt ∧ t.nrg = s.nrg ∧ t.lcy = s.lcy ∧ t.tmp = s.tmp ∧ t.grv = s.grv

/-- The domain is FAILED with a code: in reset as before, nothing of its attempt kept, not waiting for release (R164, R186). -/
def DomFailed (d : Nat) (code : W16) (s t : State) : Prop :=
  DomKept d s t ∧ (cdom d t).st = .failed ∧ (cdom d t).result = code ∧ (cdom d t).alert = true ∧ (cdom d t).step = .idle ∧
  (cdom d t).body = [] ∧ (cdom d t).released = (cdom d s).released ∧ d ∉ t.cus.ready

/-- An attempt has failed with a code: a pushed one ends its session, a recovery one fails the domain, a slot's gives way to the other
candidate, then to the recovery flash, then to FAILED with 0x2001 (R174, R229, R230). -/
def AttemptFails (d : Nat) (code : W16) (s t : State) : Prop :=
  let x := cdom d s
  let y := cdom d t
  DomKept d s t ∧
  (x.src = 3 → y.st = .failed ∧ y.result = code ∧ t.cus.push.state = 5 ∧ t.cus.push.result = code) ∧
  (x.src = 2 → DomFailed d code s t) ∧
  (x.src ≤ 1 → ∀ k b r, x.cand = (k, b) :: r →
    y.src = k ∧ y.cand = r ∧ y.st = .verify ∧ y.step = .header ∧ y.fallback = true ∧ y.result = code ∧ y.header = [] ∧ y.body = []) ∧
  (x.src ≤ 1 → x.cand = [] → polRecovery x.pol = true → x.rcvTried = false →
    y.src = 2 ∧ y.st = .select ∧ y.step = .discovery ∧ y.rcvTried = true ∧ y.result = 0x2001) ∧
  (x.src ≤ 1 → x.cand = [] → (polRecovery x.pol = false ∨ x.rcvTried = true) → DomFailed d 0x2001 s t)

/-- The image of a header is selected in a domain (R173). -/
def Selected (d src : Nat) (b : Bytes) (cand : List (Nat × Bytes)) (s t : State) : Prop :=
  let y := cdom d t
  DomKept d s t ∧ y.src = src ∧ y.cand = cand ∧ y.header = b ∧ y.hdr = hdrOf b ∧ y.step = .header ∧ y.st = .verify ∧ y.accepted = 0 ∧
  y.seq = BitVec.ofNat 64 (hdrOf b).seq ∧ y.svn = BitVec.ofNat 32 (hdrOf b).svn ∧ y.total = (hdrOf b).blocks

end Sys2Proof

/-- Custody boot reads, selects, verifies and releases an image step by step, and each failing test goes to the next source. (R86, R163, R165, R171, R173, R174, R175, R176, R178, R180, R181, R182) -/
def Obligations.CustodyBootSteps : Prop :=
  (∀ n (d : Fin 32) s, live s = true →
    let x := cdom d s
    let u := atInput n s
    (x.bootDue = false ∨ x.pg = false ∨ cusConfigured d s = false ∨ cusOn d s = false ∨ x.st = .fenced ∨ x.st = .running ∨
      lcsLoads s.boot.lcs = false ∨ s.kpf.anchorLost = true ∨ (x.pgLost = true ∧ max s.now n < x.pgAt + 10 * psMs) → exec (.custodyBootStart n d) s = .next u) ∧
    (x.bootDue = true → x.pg = true → cusConfigured d s = true → cusOn d s = true → x.st ≠ .fenced → x.st ≠ .running →
      lcsLoads s.boot.lcs = true → s.kpf.anchorLost = false → (x.pgLost = true → x.pgAt + 10 * psMs ≤ max s.now n) →
      exec (.custodyBootStart n d) s = .next { (bump (cCus d 6) (withDom d { x.dropAttempt with
          st := .select, step := .discovery, bootDue := false, pgLost := false, pol := (gdom d s).policy, bootAt := max s.now n
          src := 0, sealed_ := false, fallback := false, cand := [], rcvTried := false, timeouts := 0, seq := 0, svn := 0, total := 0
          accepted := 0, tRead := 0, tVerify := 0 } u)) with out := [.flashReset d, .flash d 0 0x5A 0 []] })) ∧
  (∀ (d : Fin 32) s, live s = true → twf {} s.cus.dom = true →
    let x := cdom d s
    let u := { s with out := [] }
    (∀ sfdp, (x.step ≠ .discovery ∨ cusOn d s = false → exec (.flashDiscoveryDone d sfdp) s = .next u) ∧
      (x.step = .discovery → cusOn d s = true →
        (discoverFlash x.pol sfdp (x.src == 2) = none → ∃ t, exec (.flashDiscoveryDone d sfdp) s = .next t ∧ DomFailed d 0x2009 s t) ∧
        (∀ i, discoverFlash x.pol sfdp (x.src == 2) = some i → ∃ t, exec (.flashDiscoveryDone d sfdp) s = .next t ∧ DomKept d s t ∧
          (cdom d t).step = .select ∧ (cdom d t).st = x.st ∧ (x.src ≠ 2 → (cdom d t).info = i ∧ (cdom d t).flt.fHost = i.mhz)))) ∧
    (∀ a b, (x.step ≠ .select ∨ cusOn d s = false → exec (.slotSelect d a b) s = .next u) ∧
      (x.step = .select → cusOn d s = true → x.src = 2 →
        (∀ c, cusHeadTest d 2 (a.take 512) u = some c → ∃ t, exec (.slotSelect d a b) s = .next t ∧ DomFailed d c s t) ∧
        (cusHeadTest d 2 (a.take 512) u = none → ∃ t, exec (.slotSelect d a b) s = .next t ∧ Selected d 2 (a.take 512) [] s t)) ∧
      (x.step = .select → cusOn d s = true → x.src ≤ 1 → a.length = 512 → b.length = 512 →
        let sa := (hdrOf a).seq
        let sb := (hdrOf b).seq
        (cusHeadTest d 0 a u = none → cusHeadTest d 1 b u = none →
          (sb ≤ sa → ∃ t, exec (.slotSelect d a b) s = .next t ∧ Selected d 0 a [(1, b)] s t) ∧
          (sa < sb → ∃ t, exec (.slotSelect d a b) s = .next t ∧ Selected d 1 b [(0, a)] s t)) ∧
        (∀ c, cusHeadTest d 0 a u = none → cusHeadTest d 1 b u = some c → ∃ t, exec (.slotSelect d a b) s = .next t ∧ Selected d 0 a [] s t) ∧
        (∀ c, cusHeadTest d 0 a u = some c → cusHeadTest d 1 b u = none → ∃ t, exec (.slotSelect d a b) s = .next t ∧ Selected d 1 b [] s t) ∧
        (∀ c e, cusHeadTest d 0 a u = some c → cusHeadTest d 1 b u = some e → ∃ t, exec (.slotSelect d a b) s = .next t ∧
          (polRecovery x.pol = true → x.rcvTried = false → DomKept d s t ∧ (cdom d t).src = 2 ∧ (cdom d t).step = .discovery) ∧
          (polRecovery x.pol = false ∨ x.rcvTried = true → DomFailed d 0x2001 s t)))) ∧
    (∀ b, (x.step ≠ .header ∨ x.src = 3 ∨ cusOn d s = false → exec (.headerReadDone d b) s = .next u) ∧
      (x.step = .header → cusOn d s = true → x.src ≤ 2 →
        let h := hdrOf (x.header ++ b)
        let full := (x.header ++ b).take h.headerLen
        (∀ c, cusHeadTest d x.src ((x.header ++ b).take 512) u = some c → ∃ t, exec (.headerReadDone d b) s = .next t ∧ AttemptFails d c s t) ∧
        (cusHeadTest d x.src ((x.header ++ b).take 512) u = none →
          (full.length < h.headerLen → ∃ t, exec (.headerReadDone d b) s = .next t ∧ AttemptFails d 0x2002 s t) ∧
          (full.length = h.headerLen →
            (∀ c, signedTest full (polKeys x.pol) = some c → ∃ t, exec (.headerReadDone d b) s = .next t ∧ AttemptFails d c s t) ∧
            (signedTest full (polKeys x.pol) = none → ∃ t, exec (.headerReadDone d b) s = .next t ∧ DomKept d s t ∧
              cdom d t = { x with
                header := full, hdr := h, sigOk := sealMatches d x.src full x.pol u, sealed_ := sealMatches d x.src full x.pol u
                step := .table, seq := BitVec.ofNat 64 h.seq, svn := BitVec.ofNat 32 h.svn, total := h.blocks, accepted := 0
                tRead := BitVec.ofNat 32 (readTime h.imageLen (polMode x.pol (x.src == 2)) (polMhz x.pol (x.src == 2))) }))))) ∧
    ((x.step ≠ .table ∧ x.step ≠ .body) ∨ x.sigOk = true ∨ cusOn d s = false ∨ cusBoughRuns d s = false → exec (.custodySigVerifyDone d) s = .next u) ∧
    (x.step = .table ∨ x.step = .body → x.sigOk = false → cusOn d s = true → cusBoughRuns d s = true →
      (sigTest x.header (polRule x.pol) = false → ∃ t, exec (.custodySigVerifyDone d) s = .next t ∧ AttemptFails d 0x2004 s t) ∧
      (sigTest x.header (polRule x.pol) = true → exec (.custodySigVerifyDone d) s = .next (withDom d { x with
        sigOk := true, pendingB := [], body := x.body ++ x.pendingB.flatten, accepted := x.accepted + x.pendingB.length } u))) ∧
    (∀ b, x.step ≠ .table ∨ cusOn d s = false ∨ cusBoughRuns d s = false → exec (.digestTableChecked d b) s = .next u) ∧
    (∀ b, x.step = .table → cusOn d s = true → cusBoughRuns d s = true →
      let k := 48 * x.hdr.blocks
      let v := imageReadOut d x.hdr.headerLen u
      let c := if x.src = 3 then slice s.cus.push.stream x.hdr.headerLen k else b.take k
      (c.length = k → sha384 c = x.hdr.tableDigest → exec (.digestTableChecked d b) s = .next (withDom d { x with table := c, step := .body } v)) ∧
      (x.src = 3 → s.cus.push.stream.length < x.hdr.headerLen + k → c.length ≠ k → exec (.digestTableChecked d b) s = .next v) ∧
      (x.src ≤ 2 → c.length ≠ k ∨ sha384 c ≠ x.hdr.tableDigest → ∃ t, exec (.digestTableChecked d b) s = .next t ∧ AttemptFails d 0x2005 s t)) ∧
    (∀ b dram, x.step ≠ .body ∨ cusOn d s = false ∨ cusBoughRuns d s = false ∨ x.hdr.blocks ≤ x.accepted + x.pendingB.length →
      exec (.bodyBlockHashed d b dram) s = .next u) ∧
    (∀ b dram, x.step = .body → cusOn d s = true → cusBoughRuns d s = true → x.accepted + x.pendingB.length < x.hdr.blocks →
      let i := x.accepted + x.pendingB.length
      let o := x.hdr.bodyOff + i * 2 ^ x.hdr.blockLog2
      let v := imageReadOut d o u
      let c := if x.src = 3 then slice s.cus.push.stream o (x.hdr.blockLen i) else b.take (x.hdr.blockLen i)
      let there := x.src ≤ 2 ∨ (x.src = 3 ∧ o + x.hdr.blockLen i ≤ s.cus.push.stream.length)
      (x.src = 3 → s.cus.push.stream.length < o + x.hdr.blockLen i → exec (.bodyBlockHashed d b dram) s = .next v) ∧
      (there → c.length ≠ x.hdr.blockLen i ∨ sha384 c ≠ tableEntry x.table i → ∃ t, exec (.bodyBlockHashed d b dram) s = .next t ∧ AttemptFails d 0x2005 s t) ∧
      (there → c.length = x.hdr.blockLen i → sha384 c = tableEntry x.table i →
        (dram = true → ∃ t, exec (.bodyBlockHashed d b true) s = .next t ∧ AttemptFails d 0x200F s t) ∧
        (dram = false → exec (.bodyBlockHashed d b false) s = .next (withDom d (if x.sigOk then
          { x with body := x.body ++ c, accepted := x.accepted + 1 } else { x with pendingB := x.pendingB ++ [c] }) v)))) ∧
    (x.seals = [] → exec (.sealRecordWrite d) s = .next u) ∧
    (∀ src hd pd r, x.seals = (src, hd, pd) :: r → journalShut s = false →
      exec (.sealRecordWrite d) s = .next (withDom d { x with seals := r } (withKpf { s.kpf with
        acts := s.kpf.acts ++ [.sealRec d src hd (sealOf d src hd pd u)] } u)))) ∧
  (∀ n (d : Fin 32) s, live s = true → twf {} s.cus.dom = true →
    let x := cdom d s
    let u := atInput n s
    (x.step ≠ .body ∨ x.sigOk = false ∨ x.accepted ≠ x.hdr.blocks ∨ cusOn d s = false → exec (.custodyVerifyEnd n d) s = .next u) ∧
    (x.step = .body → x.sigOk = true → x.accepted = x.hdr.blocks → cusOn d s = true →
      (x.hdr.svn < cusFloor d s → ∃ t, exec (.custodyVerifyEnd n d) s = .next t ∧ AttemptFails d 0x2006 s t) ∧
      (cusFloor d s ≤ x.hdr.svn → ∃ t, exec (.custodyVerifyEnd n d) s = .next t ∧ DomKept d s t ∧ t.boot = s.boot ∧
        let wb := decide (x.src = 3) && s.cus.push.writeBack
        t.cus.ready = (if wb then s.cus.ready else readyInsert t d s.cus.ready) ∧ t.cus.push = (if wb then { s.cus.push with state := 3 } else s.cus.push) ∧
        cdom d t = { x with
          st := .waitRelease, step := if wb then .writeBack else .verified, timeouts := 0, readyAt := max s.now n
          tVerify := BitVec.ofNat 32 ((max s.now n - x.bootAt) / psUs)
          seals := if x.sealed_ = true ∨ x.src = 3 then x.seals else x.seals ++ [(x.src, sha384 x.header, sha384 x.pol)] }))) ∧
  (∀ n regs s, live s = true → twf {} s.cus.dom = true →
    let first := s.cus.ready.find? (fun d => (cdom d s).pg && (cdom d s).st == .waitRelease && cusOn d s && decide ((cdom d s).rstAt + psMs ≤ max s.now n))
    let gap := s.grn.grain.custody.spacingMs * psMs
    let free := ∀ l, s.cus.lastRelease = some l → l + gap ≤ max s.now n
    (first = none ∨ ¬ free → exec (.domainRelease n regs) s = .next (atInput n s)) ∧
    (∀ d, first = some d → free → ∃ t, exec (.domainRelease n regs) s = .next t ∧
      t.cus.ready = s.cus.ready.filter (· != d) ∧ t.cus.lastRelease = some (max s.now n) ∧ (∀ k, k ≠ d → cdom k t = cdom k s) ∧
      (cdom d t).st = .running ∧ (cdom d t).released = true ∧ (cdom d t).alert = false ∧ (cdom d t).meas = some (measOf (cdom d s)) ∧
      (cdom d t).shadow = shadowOf (cdom d s) ∧ (cdom d t).flt.phase = 1 ∧ (cdom d t).flt.seq = 0 ∧ (cdom d t).flt.bootFrom = max s.now n ∧
      (polOnCommand (cdom d s).pol = true ∨ (cdom d s).svn.toNat ≤ cusFloor d s → t.kpf = s.kpf) ∧
      (polOnCommand (cdom d s).pol = false → cusFloor d s < (cdom d s).svn.toNat → s.fuses.anchor < 4096 → journalShut s = false →
        t.kpf = { s.kpf with acts := s.kpf.acts ++ [.floor d (cdom d s).svn.toNat 0] })))

/-- PG, timeouts, faults and reboots hold a domain, floors are raised by command, and the push session takes chunks in order. (R163, R164, R179, R183, R185, R186, R230, R231) -/
def Obligations.CustodyFailuresAndPush : Prop :=
  (∀ n (d : Fin 32) s, live s = true → twf {} s.cus.dom = true →
    let x := cdom d s
    let u := atInput n s
    let held := fun (t : State) => (cdom d t).released = false ∧ (cdom d t).shadow = [] ∧ (cdom d t).step = .idle ∧ (cdom d t).body = [] ∧
      (cdom d t).flt.phase = 0 ∧ d.val ∉ t.cus.ready ∧ (∀ k, k ≠ d.val → cdom k t = cdom k s) ∧ t.kpf = s.kpf ∧ t.vault = s.vault
    (x.st = .held ∨ x.st = .fenced ∨ (x.st = .failed ∧ cusPushing d s = false) →
      exec (.custodyPgFall n d) s = .next (withDom d { x with pg := false, pgLost := true } u)) ∧
    (x.st = .failed → cusPushing d s = true → ∃ t, exec (.custodyPgFall n d) s = .next t ∧ (cdom d t).st = .failed ∧ (cdom d t).pg = false ∧
      t.cus.push.state = 5 ∧ t.cus.push.result = 0x200B ∧ (cdom d t).result = 0x200B) ∧
    (let st := if s.kpf.anchorLost = true ∧ cusConfigured d s = true then CusState.failed else .held;
      (x.st = .select ∨ x.st = .verify ∨ x.st = .waitRelease ∨ x.st = .running → ∃ t, exec (.custodyPgFall n d) s = .next t ∧ held t ∧
        (cdom d t).st = st ∧ (cdom d t).pg = false ∧ (cdom d t).pgLost = true ∧ (cdom d t).bootDue = true ∧ (cdom d t).result = 0x200B) ∧
      (x.st ≠ .fenced → ∃ t, exec (.portFault n d) s = .next t ∧ held t ∧ (cdom d t).st = .fenced ∧ (cdom d t).alert = true ∧
        (cdom d t).bootDue = false ∧ (cdom d t).result = 0x200A) ∧
      (s.boot.pf1 = true → x.st ≠ .fenced → cusConfigured d s = true → ∃ t, exec (.custodyReboot n d) s = .next t ∧ held t ∧
        (cdom d t).st = st ∧ (cdom d t).bootDue = cusOn d s)) ∧
    (s.boot.pf1 = true → x.st ≠ .fenced → cusConfigured d s = false → exec (.custodyReboot n d) s = .next u) ∧
    (x.st = .fenced → exec (.portFault n d) s = .next u) ∧
    (x.pg = true → exec (.custodyPgRestore n d) s = .next u) ∧
    (x.pg = false → exec (.custodyPgRestore n d) s = .next (withDom d { x with pg := true, pgAt := max s.now n } u)) ∧
    (s.boot.pf1 = false → exec (.custodyReboot n d) s = .next u) ∧
    (s.boot.pf1 = true → x.st = .fenced → exec (.custodyReboot n d) s = .next (withDom d { x with result := 0x200A } u))) ∧
  (∀ (d : Fin 32) s, live s = true → twf {} s.cus.dom = true →
    let x := cdom d s
    let u := { s with out := [] }
    (x.step = .idle ∨ x.step = .verified ∨ x.step = .writeBack ∨ x.src = 3 → exec (.flashTimeout d) s = .next u) ∧
    (x.step ≠ .idle → x.step ≠ .verified → x.step ≠ .writeBack → x.src ≤ 2 →
      (x.timeouts = 0 → ∃ t, exec (.flashTimeout d) s = .next t ∧ AttemptFails d 0x200C s t) ∧
      (1 ≤ x.timeouts → ∃ t, exec (.flashTimeout d) s = .next t ∧ DomFailed d 0x200C s t)) ∧
    (x.st = .running → exec (.heldHostTransaction d) s = .next u) ∧
    (x.st ≠ .running → exec (.heldHostTransaction d) s = .next (bump (cCus d 5) u)) ∧
    (s.boot.pf1 = false ∨ x.st ≠ .running ∨ polOnCommand x.pol = false ∨ x.svn.toNat ≤ cusFloor d s → exec (.custodyRaiseFloor d) s = .next u) ∧
    (s.boot.pf1 = true → x.st = .running → polOnCommand x.pol = true → cusFloor d s < x.svn.toNat →
      (s.fuses.anchor < 4096 → journalShut s = false → exec (.custodyRaiseFloor d) s = .next (withKpf { s.kpf with
        acts := s.kpf.acts ++ [.floor d x.svn.toNat 1] } u)) ∧
      (4096 ≤ s.fuses.anchor → exec (.custodyRaiseFloor d) s = .next
        (emit .fault 0xF000 (srcDomain d) (d1 d ++ d1 7 ++ d1 x.src) (emit .secure 0x2007 (srcDomain d) [] (withDom d { x with result := 0x2007 } u)))))) ∧
  (∀ n (d : Fin 32) wb slot s, live s = true →
    let u := atInput n s
    let c := fun (p : CusPush) => { u with cus := { s.cus with push := p, pushCtl := (d.val, wb, slot) } }
    (s.boot.pf1 = false → exec (.custodyPushStart n d wb slot) s = .next u) ∧
    (s.boot.pf1 = true → (cdom d s).st ≠ .failed ∨ cusPushOpen s = true ∨ cusOn d s = false ∨ s.kpf.anchorLost = true → exec (.custodyPushStart n d wb slot) s =
      .next (emit .secure 0x2038 (srcDomain d) [] (c { s.cus.push with result := 0x2038 }))) ∧
    (s.boot.pf1 = true → (cdom d s).st = .failed → cusPushOpen s = false → cusOn d s = true → s.kpf.anchorLost = false → exec (.custodyPushStart n d wb slot) s =
      .next (bump (cCus d 6) (withDom d { (cdom d s).dropAttempt with
        src := 3, pol := (gdom d s).policy, step := .header, sealed_ := false, fallback := false, bootAt := max s.now n, seq := 0, svn := 0
        total := 0, accepted := 0, tRead := 0, tVerify := 0 }
        (c { state := 1, domain := d, writeBack := wb, wbSlot := slot, lastPost := max s.now n }))))) ∧
  (∀ s, live s = true → s.boot.pf1 = true → twf {} s.cus.dom = true →
    (cusPushOpen s = false → exec .custodyPushAbort s = .next { s with out := [] }) ∧
    (cusPushOpen s = true → ∃ t, exec .custodyPushAbort s = .next t ∧ DomFailed s.cus.push.domain (cdom s.cus.push.domain s).result s t ∧
      t.cus.push = { domain := s.cus.push.domain, writeBack := s.cus.push.writeBack, wbSlot := s.cus.push.wbSlot })) ∧
  (∀ n (k : BitVec 12) (m : BitVec 17) s, live s = true → s.boot.pf1 = true → twf {} s.cus.dom = true →
    s.cus.push.state = 1 ∨ s.cus.push.state = 2 →
    let p := s.cus.push
    (k.toNat ≠ p.accepted ∨ m = 0 ∨ 65536 < m.toNat → ∃ t, exec (.custodyPushPost n k m) s = .next t ∧
      t.cus.push.state = 5 ∧ t.cus.push.result = 0x2036 ∧ t.cus.push.stream = [] ∧ DomFailed p.domain (cdom p.domain s).result s t) ∧
    (k.toNat = p.accepted → 0 < m.toNat → m.toNat ≤ 65536 →
      let q : CusPush := { p with
        stream := p.stream ++ padTo m.toNat (tget [] p.frames (k.toNat % 8)), accepted := p.accepted + 1
        frames := tset [] p.frames (k.toNat % 8) [], lastPost := max s.now n }
      let v : State := { atInput n s with cus := { s.cus with push := q } }
      ((cdom p.domain s).step ≠ .header → exec (.custodyPushPost n k m) s = .next v) ∧
      ((cdom p.domain s).step = .header → cusHeadTest p.domain 3 (q.stream.take 512) v = none → q.stream.length < (hdrOf q.stream).headerLen →
        exec (.custodyPushPost n k m) s = .next v) ∧
      (∀ c, (cdom p.domain s).step = .header → (cdom p.domain s).src = 3 → cusHeadTest p.domain 3 (q.stream.take 512) v = some c →
        ∃ t, exec (.custodyPushPost n k m) s = .next t ∧ AttemptFails p.domain c s t))) ∧
  (∀ n s, live s = true → twf {} s.cus.dom = true →
    let p := s.cus.push
    (p.state = 1 ∨ p.state = 2 → p.lastPost + 60 * psS ≤ max s.now n → p.total = 0 ∨ p.accepted < p.total →
      ∃ t, exec (.custodyPushTimeout n) s = .next t ∧ t.cus.push.state = 5 ∧ t.cus.push.result = 0x2037 ∧
        DomFailed p.domain (cdom p.domain s).result s t) ∧
    ((p.state ≠ 1 ∧ p.state ≠ 2) ∨ max s.now n < p.lastPost + 60 * psS → exec (.custodyPushTimeout n) s = .next (atInput n s))) ∧
  (∀ back s, live s = true → twf {} s.cus.dom = true →
    let p := s.cus.push
    let x := cdom p.domain s
    let k := b2n p.wbSlot
    let img := slice p.stream 0 x.hdr.imageLen
    let u := writeBackOut p.domain (slotBase x.pol k) (slotSize x.pol k) img { s with out := [] }
    let v : State := { u with cus := { s.cus with ready := readyInsert s p.domain s.cus.ready } }
    let due := s.cus.push.state = 3 ∧ x.step = .writeBack ∧ cusOn p.domain s = true
    let good := back = some img ∧ img.length ≤ slotSize x.pol k
    (¬ due → exec (.custodyWriteBack back) s = .next { s with out := [] }) ∧
    (due → good → exec (.custodyWriteBack back) s = .next (withDom p.domain { x with
      step := .verified, seals := x.seals ++ [(k, sha384 x.header, sha384 x.pol)] } v)) ∧
    (due → ¬ good → exec (.custodyWriteBack back) s = .next (emit .secure 0x2039 (srcDomain p.domain) [] (withDom p.domain { x with step := .verified }
      { v with cus := { v.cus with push := { p with result := 0x2039 } } }))))

namespace Sys2Proof

/-! ### The cambium -/

/-- A host transaction of class `cls`, opcode `op` and extension `ext` to domain `d`: its address and its data bytes, and the state in
which it is judged. -/
inductive HostTxn : Instr → Fin 32 → Nat → BitVec 8 → Bool → (State → Nat) → Nat → (State → State) → Prop
  | read (d op ext a n fl o) : HostTxn (.hostRead d op ext a n fl o) d 0 op ext (hostAddr d op.toNat a.toNat) n (fun s => { s with out := [] })
  | regRead (d op ext n) : HostTxn (.hostRegRead d op ext n) d 1 op ext (fun _ => 0) n (fun s => { s with out := [] })
  | sfdp (d op ext) (a : BitVec 32) (n) :
      HostTxn (.hostSfdpRead d op ext a n) d 2 op ext (fun _ => a.toNat % 2 ^ 24) n (fun s => { s with out := [] })
  | wren (d op ext) : op ≠ 0x04 → HostTxn (.wren d op ext) d 3 op ext (fun _ => 0) 0 (fun s => { s with out := [] })
  | wrdi (d ext) : HostTxn (.wrdi d ext) d 3 0x04 ext (fun _ => 0) 0 (fun s => { s with out := [] })
  | program (n d op ext a b) : HostTxn (.hostProgram n d op ext a b) d 4 op ext (hostAddr d op.toNat a.toNat) 0 (atInput n)
  | erase (n d op ext a) : HostTxn (.hostErase n d op ext a) d 5 op ext (hostAddr d op.toNat a.toNat) 0 (atInput n)
  | chipErase (n d op ext) : HostTxn (.hostChipErase n d op ext) d 6 op ext (fun _ => 0) 0 (atInput n)
  | regWrite (n d op ext ab) (a : BitVec 32) (b) : HostTxn (.hostRegWrite n d op ext ab a b) d 7 op ext (fun _ => a.toNat) 0 (atInput n)
  | enter4 (d) (o : HostOp) : o.op ≠ 0xE9 → HostTxn (.enter4byteMode d o) d 9 o.op o.ext (fun _ => 0) 0 (fun s => { s with out := [] })
  | exit4 (d) (o : HostOp) : o.op ≠ 0xB7 → HostTxn (.exit4byteMode d o) d 9 o.op o.ext (fun _ => 0) 0 (fun s => { s with out := [] })
  | reset (d second) (o : HostOp) : o.op ≠ (if second then 0x66 else 0x99) →
      HostTxn (.hostResetCommand d o second) d 10 o.op o.ext (fun _ => 0) 0 (fun s => { s with out := [] })
  | dpd (d) (o : HostOp) : o.op ≠ 0xAB → HostTxn (.deepPowerDown d o) d 11 o.op o.ext (fun _ => 0) 0 (fun s => { s with out := [] })
  | dpdRelease (d) (o : HostOp) : o.op ≠ 0xB9 →
      HostTxn (.deepPowerDownRelease d o) d 11 o.op o.ext (fun _ => 0) 0 (fun s => { s with out := [] })
  | suspend (n d op ext b) : op ≠ 0x7A → op ≠ 0x30 → HostTxn (.suspend n d op ext b) d 12 op ext (fun _ => 0) 0 (atInput n)
  | resume (n d op ext b) : op ≠ 0x75 → op ≠ 0xB0 → HostTxn (.resume n d op ext b) d 12 op ext (fun _ => 0) 0 (atInput n)

/-- SEQ increments as the command phase completes, and a 0x66 is remembered only for the next command, which deep power-down does not
ignore (R207, R218). -/
def seqNo (d cls : Nat) (s : State) : State :=
  bump (cCus d 0) (modFlt d (fun f => { f with seq := f.seq + 1, resetArmed := f.resetArmed && cls == 10 && !f.dpd }) s)

/-- A refused transaction: counted, and its verdict event (R218, R219); the codes 0x2020 to 0x202D have counters. -/
def txnRefused (d op cls a : Nat) (code : W16) (s : State) : State :=
  verdict d { seq := (cdom d s).flt.seq, code := code, op := op, cls := cls, addr := a } (bump (cCus d 2)
    (if 0x2020 ≤ code.toNat ∧ code.toNat ≤ 0x202D then bump (cCus d (16 + (code.toNat - 0x2020))) s else s))

/-- A refused write, which the mimic timer makes look busy where the mimic is on (R205, R206). -/
def writeRefused (d op cls a : Nat) (code : W16) (mimic : Bool) (s : State) : State :=
  let u := modFlt d (fun f => { f with wip := false }) (txnRefused d op cls a code s)
  if mimic then bump (cCus d 3) (modFlt d (fun f => { f with
      mimic := some (u.now + nominalUs d op cls (fltEntry d u) u * psUs), mimicErase := cls == 5 || cls == 6, wip := true }) u)
  else u

/-- The cambium judges a transaction: the domain runs, the port is on, the opcode's class is this one, no deep power-down. -/
def FltReady (d cls op : Nat) (s : State) : Prop :=
  live s = true ∧ (cdom d s).st = .running ∧ cusOn d s = true ∧ fltClass (fltEntry d s) op = cls ∧
  ((cdom d s).flt.dpd = false ∨ (cls = 11 ∧ op ≠ 0xB9))

/-- It goes on to its handling: no 8D transaction without its inverse, no busy period that holds it, its opcode allowed in the phase. -/
def FltTakes (d cls op : Nat) (ext : Bool) (s : State) : Prop :=
  FltReady d cls op s ∧ ((cdom d s).flt.hostMode ≠ 3 ∨ ext = true) ∧ ((cdom d s).flt.busy = false ∨ cls ∈ [1, 2, 10, 12, 13]) ∧
  eAllows (fltEntry d s) (cdom d s).flt.phase op = true

/-- A handled transaction that changes the host-side state. -/
def handled (d cls : Nat) (f : Flt → Flt) (s : State) : State := bump (cCus d 1) (modFlt d f (seqNo d cls s))

end Sys2Proof

/-- The cambium refuses, ignores or serves each host transaction by its class, phase and host-side state. (R189, R191, R193, R194, R198, R199, R200, R201, R203, R204, R207, R212) -/
def Obligations.CambiumReadsAndModes : Prop :=
  (∀ c (d : Fin 32) cls op ext a n inp s, HostTxn c d cls op ext a n inp → live s = true → twf {} s.cus.dom = true →
    let x := cdom d s
    let u := inp s
    (x.st ≠ .running ∨ cusOn d s = false → exec c s = .next (bump (cCus d 5) u)) ∧
    (x.st = .running → cusOn d s = true → fltClass (fltEntry d s) op.toNat ≠ cls → exec c s = .next u) ∧
    (x.st = .running → cusOn d s = true → fltClass (fltEntry d s) op.toNat = cls → x.flt.dpd = true → cls ≠ 11 ∨ op = 0xB9 →
      exec c s = .next (seqNo d cls u)) ∧
    (FltReady d cls op.toNat s →
      (x.flt.hostMode = 3 → ext = false → exec c s = .next (spiFill d n (txnRefused d op.toNat cls (a u) 0x2028 (seqNo d cls u)))) ∧
      (x.flt.hostMode ≠ 3 ∨ ext = true →
        (x.flt.busy = true → cls ∉ [1, 2, 10, 12] → cls ≠ 0 ∨ x.flt.suspended = false →
          exec c s = .next (spiFill d n (bump (cCus d 28) (seqNo d cls u)))) ∧
        (x.flt.busy = false → cls ∉ [4, 5, 6, 7] → eAllows (fltEntry d s) x.flt.phase op.toNat = false →
          exec c s = .next (spiFill d n (txnRefused d op.toNat cls (a u) 0x2020 (seqNo d cls u))))))) ∧
  (∀ (d : Fin 32) (op : BitVec 8) ext s, twf {} s.cus.dom = true →
    let x := cdom d s
    let e := fltEntry d s
    let u := { s with out := [] }
    (FltTakes d 0 op.toNat ext s → ∀ (addr : BitVec 32) n (flash : Bytes),
      let size := flashBytes x.info.sfdp
      let a := hostAddr d op.toNat addr.toNat s
      let at_ := fun i => (a + i) % max 1 size
      let data := (List.range n).map (fun i => match shadowAt x (at_ i) with | some b => b | none => flash.getD i 0xFF)
      ((op ≠ 0x03 ∧ op ≠ 0x13) ∨ x.flt.hostMode = 0 → x.shadowLost = false →
        ((∀ i, i < n → permAt e x.flt.phase (at_ i) % 2 = 1) →
          exec (.hostRead d op ext addr n flash none) s = .next (spiOut d data (bump (cCus d 1) (readOut d a n e (seqNo d 0 u)))) ∧
          (∀ k, k ≤ n → exec (.hostRead d op ext addr n flash (some k)) s = .next (spiOut d (data.take k ++ List.replicate (n - k) (eFill e))
            (emit .fault 0x2029 (srcDomain d) [] (bump (cCus d 25) (modFlt d (fun f => { f with underrun := true })
              (bump (cCus d 1) (readOut d a n e (seqNo d 0 u))))))))) ∧
        (0 < n → (∀ i, i < n → permAt e x.flt.phase (at_ i) % 2 = 0) →
          exec (.hostRead d op ext addr n flash none) s = .next (spiOut d (List.replicate n (eFill e))
            (txnRefused d op.toNat 0 (at_ 0) 0x2021 (readOut d a n e (seqNo d 0 u))))) ∧
        (∀ p, p ∈ readPages a n size → permAt e x.flt.phase p % 2 = 1 → shadowAt x p = none →
          .flash d.val 0 x.info.readOp (flashAddr x p % 256 ^ x.info.ab) [] ∈ (readOut d a n e (seqNo d 0 u)).out))) ∧
    (FltTakes d 1 0x05 ext s → x.flt.errClear = false → ∀ n, exec (.hostRegRead d 0x05 ext n) s = .next (spiOut d
      (List.replicate n (BitVec.ofNat 8 (leNat ((tget [] x.flt.mirror 0x05).take 1) / 4 * 4 + 2 * b2n x.flt.wel + b2n x.flt.wip)))
      (bump (cCus d 1) (seqNo d 1 u)))) ∧
    (FltTakes d 2 op.toNat ext s → ∀ (a : BitVec 32) n, a.toNat + n ≤ x.flt.sfdp.length → a.toNat < 2 ^ 24 →
      exec (.hostSfdpRead d op ext a n) s = .next (bump (cCus d 1) (spiOut d (slice x.flt.sfdp a.toNat n)
        { seqNo d 2 u with freeCtr := s.freeCtr + 1 }))) ∧
    (FltTakes d 3 op.toNat ext s → op ≠ 0x04 → exec (.wren d op ext) s = .next (handled d 3 (fun f => { f with wel := true }) u)) ∧
    (FltTakes d 3 0x04 ext s → exec (.wrdi d ext) s = .next (handled d 3 (fun f => { f with wel := false }) u)) ∧
    (∀ o : HostOp, o = { op := op, ext := ext } → live s = true →
      (FltTakes d 9 op.toNat ext s →
        (op ≠ 0xE9 → exec (.enter4byteMode d o) s = .next (handled d 9 (fun f => { f with addr4 := true }) u)) ∧
        (op ≠ 0xB7 → exec (.exit4byteMode d o) s = .next (handled d 9 (fun f => { f with addr4 := false }) u))) ∧
      (FltTakes d 11 op.toNat ext s →
        (op ≠ 0xAB → exec (.deepPowerDown d o) s = .next (handled d 11 (fun f => { f with dpd := true }) u)) ∧
        (op ≠ 0xB9 → exec (.deepPowerDownRelease d o) s = .next (handled d 11 (fun f => { f with dpd := false }) u))) ∧
      (FltTakes d 10 op.toNat ext s →
        (op ≠ 0x99 → exec (.hostResetCommand d o false) s = .next (handled d 10 (fun f => { f with resetArmed := true }) u)) ∧
        (op ≠ 0x66 → x.flt.resetArmed = false → exec (.hostResetCommand d o true) s = .next (handled d 10 id u)) ∧
        (op ≠ 0x66 → x.flt.resetArmed = true → exec (.hostResetCommand d o true) s = .next (handled d 10 (fun f => { f with
          resetArmed := false, addr4 := false, hostMode := fieldLe e 3 1, wel := false, dpd := false, mimic := none, mimicLeft := 0
          errClear := false, suspended := f.suspended && f.fwd.isSome, wip := f.wip && (f.fwd.isSome || f.esc.isSome) }) u))) ∧
      (op = 0xE9 → exec (.enter4byteMode d o) s = .next u) ∧ (op = 0xB7 → exec (.exit4byteMode d o) s = .next u) ∧
      (op = 0xAB → exec (.deepPowerDown d o) s = .next u) ∧ (op = 0xB9 → exec (.deepPowerDownRelease d o) s = .next u)) ∧
    (FltReady d 14 op.toNat s → x.flt.busy = false → x.flt.hostMode ≠ 3 →
      exec (.unknownOpcode d op ext) s = .next (txnRefused d op.toNat 14 0 0x2020 (seqNo d 14 u))) ∧
    (FltTakes d 13 op.toNat ext s → op.toNat ≠ fieldLe e 8 1 → op.toNat ≠ fieldLe e 9 1 →
      exec (.unknownOpcode d op ext) s = .next (handled d 13 id u)) ∧
    (FltReady d 8 op.toNat s → x.flt.busy = false → x.flt.hostMode ≠ 3 → secRead e op.toNat = true → ∀ (a : BitVec 32) n,
      exec (.hostSecurityRead d op ext a n) s = .next (spiFill d n (txnRefused d op.toNat 8 (hostAddr d op.toNat a.toNat s) 0x2020 (seqNo d 8 u)))) ∧
    (live s = true → (x.st = .running → exec (.hostCsEarlyDeassert d) s = .next u) ∧
      (x.st ≠ .running → exec (.hostCsEarlyDeassert d) s = .next (bump (cCus d 5) u))) ∧
    (live s = true → x.flt.suspended = true → x.flt.mimic.isSome = true →
      exec (.suspendLatencyExpiry d) s = .next (atTime x.flt.suspDue (modFlt d (fun f => { f with wip := false }) u))) ∧
    (live s = true → x.flt.suspended = false ∨ x.flt.mimic = none → exec (.suspendLatencyExpiry d) s = .next u)) ∧
  (∀ n (d : Fin 32) (op : BitVec 8) ext busy s, FltTakes d 12 op.toNat ext s → twf {} s.cus.dom = true →
    let f := (cdom d s).flt
    let u := atInput n s
    let lat := suspendLatency (cdom d s).info.sfdp f.mimicErase
    (op ≠ 0x7A → op ≠ 0x30 →
      (∀ w, f.fwd = some w → f.suspended = false → f.esc = none → exec (.suspend n d op ext busy) s =
        .next (emitOut (.flash d 0 op.toNat 0 []) (handled d 12 (fun f => { f with suspended := true, wip := busy }) u))) ∧
      (∀ k, f.fwd = none → f.mimic = some k → f.suspended = false → f.esc = none → exec (.suspend n d op ext busy) s =
        .next (handled d 12 (fun f => { f with
          suspended := true, mimicLeft := k - max s.now n, suspDue := max s.now n + lat * 1000 }) u)) ∧
      (f.suspended = true ∨ f.esc.isSome = true ∨ (f.fwd = none ∧ f.mimic = none) → exec (.suspend n d op ext busy) s =
        .next (bump (cCus d 28) (seqNo d 12 u)))) ∧
    (op ≠ 0x75 → op ≠ 0xB0 →
      (∀ w, f.fwd = some w → f.suspended = true → exec (.resume n d op ext busy) s =
        .next (emitOut (.flash d 0 op.toNat 0 []) (handled d 12 (fun f => { f with suspended := false, wip := busy }) u))) ∧
      (f.fwd = none → f.suspended = true → exec (.resume n d op ext busy) s = .next (handled d 12 (fun f => { f with
        suspended := false, wip := true, mimic := some (max s.now n + f.mimicLeft), mimicLeft := 0 }) u)) ∧
      (f.suspended = false → exec (.resume n d op ext busy) s = .next (bump (cCus d 28) (seqNo d 12 u)))))

/-- A write is forwarded, refused or escapes by the order of the rules, and each busy period and escape ends as stated. (R188, R192, R196, R197, R201, R202, R205, R206, R207, R209, R210, R211) -/
def Obligations.CambiumWritesAndEscapes : Prop :=
  (∀ n (d : Fin 32) (op : BitVec 8) ext (addr : BitVec 32) s, twf {} s.cus.dom = true →
    let x := cdom d s
    let e := fltEntry d s
    let a := hostAddr d op.toNat addr.toNat s
    let u := atInput n s
    let judged := fun cls => modFlt d (fun f => { f with wel := false }) (seqNo d cls u)
    let region := fun p => x.hdr.regions.any (fun g => decide (g.2.2.1 ≤ p ∧ p < g.2.2.1 + g.2.1))
    let sent := fun cls (b : Bytes) => bump (cCus d 1) (modFlt d (fun f => { f with
      wip := true, fwd := some { op := op.toNat, cls := cls, addr := a, data := b, check := false } })
      (emitOut (.flash d 0 op.toNat a b) (emitOut (.flash d 0 0x06 0 []) (judged cls))))
    let free := fun cls len =>
      let r := opRange d op.toNat cls a len s
      (∀ p ∈ pages4k r.1 r.2, region p = false) ∧
      (2 ≤ x.src ∨ overlaps r.1 (r.2 - r.1) (slotBase x.pol x.src) (slotSize x.pol x.src) = false) ∧
      x.upd.st = 0 ∧ x.flt.phase ≠ 3 ∧ eEscapes e op.toNat = false ∧ (∀ p ∈ pages4k r.1 r.2, bitOf (permAt e x.flt.phase p) 3 = false)
    (x.flt.rom = true → x.flt.wel = true →
      (∀ b : Bytes, FltTakes d 4 op.toNat ext s → exec (.hostProgram n d op ext addr b) s = .next (writeRefused d op.toNat 4 a 0xF000 false (judged 4))) ∧
      (FltTakes d 5 op.toNat ext s → exec (.hostErase n d op ext addr) s = .next (writeRefused d op.toNat 5 a 0xF000 false (judged 5))) ∧
      (FltTakes d 6 op.toNat ext s → exec (.hostChipErase n d op ext) s = .next (writeRefused d op.toNat 6 0 0xF000 false (judged 6)))) ∧
    (x.flt.rom = false →
    (∀ b : Bytes, FltTakes d 4 op.toNat ext s → b.length ≤ flashPage x.info.sfdp → 0 < b.length →
      let r := opRange d op.toNat 4 a b.length s
      (x.flt.wel = false → exec (.hostProgram n d op ext addr b) s = .next (bump (cCus d 10) (seqNo d 4 u))) ∧
      (x.flt.wel = true →
        ((∃ p ∈ pages4k r.1 r.2, region p = true) →
          exec (.hostProgram n d op ext addr b) s = .next (writeRefused d op.toNat 4 a 0x2022 (eMimic e) (judged 4))) ∧
        ((∀ p ∈ pages4k r.1 r.2, region p = false) → x.src ≤ 1 →
          overlaps r.1 (r.2 - r.1) (slotBase x.pol x.src) (slotSize x.pol x.src) = true →
          exec (.hostProgram n d op ext addr b) s = .next (writeRefused d op.toNat 4 a 0x2023 (eMimic e) (judged 4))) ∧
        (free 4 b.length →
          ((∀ p ∈ pages4k r.1 r.2, bitOf (permAt e x.flt.phase p) 1 = true) → exec (.hostProgram n d op ext addr b) s = .next (sent 4 b)) ∧
          (∀ p q, pages4k r.1 r.2 = p :: q → bitOf (permAt e x.flt.phase p) 1 = false → exec (.hostProgram n d op ext addr b) s =
            .next (writeRefused d op.toNat 4 a 0x2021 (bitOf (permAt e x.flt.phase p) 4) (judged 4)))))) ∧
    (FltTakes d 5 op.toNat ext s → x.flt.wel = true → free 5 0 →
      let r := opRange d op.toNat 5 a 0 s
      (∀ p ∈ pages4k r.1 r.2, bitOf (permAt e x.flt.phase p) 2 = true) → exec (.hostErase n d op ext addr) s = .next (sent 5 [])) ∧
    (FltTakes d 6 op.toNat ext s → x.flt.wel = true →
      exec (.hostChipErase n d op ext) s = .next (writeRefused d op.toNat 6 0 0x2024 (eMimic e) (judged 6))) ∧
    (∀ (ab : Fin 5) (b : Bytes) cls,
      let c := if cls = 7 then Instr.hostRegWrite n d op ext ab addr b else .hostSecurityWrite n d op ext ab addr b
      cls = 7 ∨ (cls = 8 ∧ secRead e op.toNat = false) → FltTakes d cls op.toNat ext s → cls = 8 ∨ x.flt.wel = true →
      (∀ m, switchMode e op.toNat ab addr.toNat b = some m →
        exec c s = .next (bump (cCus d 1) (modFlt d (fun f => { f with hostMode := m }) (judged cls)))) ∧
      (switchMode e op.toNat ab addr.toNat b = none →
        (escLeaf e s = none → exec c s = .next (writeRefused d op.toNat cls addr.toNat 0x2025 (eMimic e) (judged cls))) ∧
        (∀ l, escLeaf e s = some l →
          let q : Esc := {
            seq := x.flt.seq + 1, phase := x.flt.phase, op := op.toNat, cls := cls, host := addr.toNat, addr := addr.toNat, ab := ab.val, reason := 2
            data := b.take 512, status := shownStatus x.flt, leaf := l, at_ := fieldLe e 0x10 4 + 1024 * d.val, mimic := eMimic e }
          exec c s = .next (bump (cCus d 4) (modFlt d (fun f => { f with esc := some { q with due := max s.now n + 50 * psUs }, wip := true })
            (twigWrite (twigOfLeaf l) q.at_ (q.bytes d.val) (judged cls))))))))) ∧
  (∀ n (d : Fin 32) regs s, live s = true → twf {} s.cus.dom = true →
    let f := (cdom d s).flt
    let u := { s with out := [] }
    (f.fwd = none → exec (.forwardedOpDone d regs) s = .next u) ∧
    (∀ w, f.fwd = some w → w.check = false ∨ w.polled = true → exec (.forwardedOpDone d regs) s = .next (modFlt d (fun f => { f with
      mirror := mirrorOf (fltEntry d s) regs, suspended := false, errClear := false, fwd := none, wip := false }) u)) ∧
    (∀ w, f.fwd = some w → w.check = true → w.polled = false → exec (.forwardedOpDone d regs) s =
      .next (flashReadOut d 0 (cdom d s).info w.addr (modFlt d (fun f => { f with
        mirror := mirrorOf (fltEntry d s) regs, suspended := false, errClear := false, fwd := some { w with polled := true } }) u))) ∧
    (f.mimic = none → exec (.mimicTimerExpiry n d) s = .next (atInput n s)) ∧
    (∀ k, f.mimic = some k →
      (f.suspended = false → k ≤ max s.now n → exec (.mimicTimerExpiry n d) s = .next (modFlt d (fun f => { f with
        mimic := none, wip := false, wel := false, errClear := true }) (atInput n s))) ∧
      (f.suspended = true ∨ max s.now n < k → exec (.mimicTimerExpiry n d) s = .next (atInput n s))) ∧
    (f.esc = none → exec (.escapeTimeout n d) s = .next (atInput n s) ∧ (∀ (l : Fin 192) (w : BitVec 32), leafCanIssue l s = true →
      bitsOf w.toNat 7 3 = d.val → exec (.escapeVerdict l w) s = .next { u with cus := { s.cus with badVerdicts := s.cus.badVerdicts + 1 } })) ∧
    (∀ q, f.esc = some q → f.later = [] →
      let v := fun (code : W16) => ({ seq := q.seq, code := code, op := q.op, cls := q.cls, addr := q.host } : Verdict)
      (max s.now n < q.due → exec (.escapeTimeout n d) s = .next (atInput n s)) ∧
      (q.due ≤ max s.now n → q.mimic = false → ∃ t, exec (.escapeTimeout n d) s = .next t ∧ DomKept d s t ∧
        (cdom d t).flt = { f with esc := none, wip := false, last := v 0x2027 }) ∧
      (∀ (l : Fin 192) (w : BitVec 32), leafCanIssue l s = true → bitsOf w.toNat 7 3 = d.val →
        (q.leaf ≠ l.val ∨ bitsOf w.toNat 31 8 ≠ q.seq % 2 ^ 24 →
          exec (.escapeVerdict l w) s = .next { u with cus := { s.cus with badVerdicts := s.cus.badVerdicts + 1 } }) ∧
        (q.leaf = l.val → bitsOf w.toNat 31 8 = q.seq % 2 ^ 24 →
          (bitsOf w.toNat 1 0 = 2 → ∃ t, exec (.escapeVerdict l w) s = .next t ∧ DomKept d s t ∧
            (cdom d t).flt = { f with esc := none, wip := false, last := v 0x2026 }) ∧
          (bitsOf w.toNat 1 0 = 0 → (cdom d s).upd.st = 0 → ∃ t, exec (.escapeVerdict l w) s = .next t ∧ DomKept d s t ∧
            (cdom d t).flt = { f with
              esc := none, wip := true, last := v 0, fwd := some { op := q.op, cls := q.cls, addr := q.addr, data := q.data, check := false } } ∧
            .flash d.val 0 q.op q.addr q.data ∈ t.out))))) ∧
  (∀ n (d : Fin 32) s, live s = true → (cdom d s).flt.phase = 1 →
    let k := fieldLe (fltEntry d s) 6 2
    let to2 := modFlt d (fun f => { f with phase := 2 })
    (s.boot.pf1 = true → exec (.fltBootDone d) s = .next (to2 { s with out := [] })) ∧
    (s.boot.pf1 = false → exec (.fltBootDone d) s = .next { s with out := [] }) ∧
    (k = 0 ∨ max s.now n < (cdom d s).flt.bootFrom + k * psS → exec (.bootLimitExpiry n d) s = .next (atInput n s)) ∧
    (k ≠ 0 → (cdom d s).flt.bootFrom + k * psS ≤ max s.now n → exec (.bootLimitExpiry n d) s = .next (to2 (atInput n s))))

namespace Sys2Proof

/-! ### Mailbox and update windows -/

/-- The functions of a PUT, with the bit of MBX_FUNCS that permits each (R216). -/
inductive MbxPut : Instr → Nat → Fin 32 → Nat → Nat → BitVec 8 → BitVec 16 → Bytes → Bool → Prop
  | send (n d a tag b ext) : MbxPut (.mbxHollowSend n d a tag b ext) n d 0x01 0 a tag b ext
  | bootDone (n d a tag b ext) : MbxPut (.mbxBootDone n d a tag b ext) n d 0x10 1 a tag b ext
  | raiseFloor (n d a tag b ext) : MbxPut (.mbxRaiseFloor n d a tag b ext) n d 0x11 2 a tag b ext
  | reboot (n d a tag b ext) : MbxPut (.mbxReboot n d a tag b ext) n d 0x12 3 a tag b ext
  | updateOpen (n d a tag b ext) : MbxPut (.mbxUpdateOpen n d a tag b ext) n d 0x13 4 a tag b ext
  | updateClose (n d a tag b ext) : MbxPut (.mbxUpdateClose n d a tag b ext) n d 0x14 4 a tag b ext
  | custodyInfo (n d a tag b ext) : MbxPut (.mbxCustodyInfo n d a tag b ext) n d 0x15 5 a tag b ext

/-- A mailbox command with this opcode of the entry reaches the mailbox. -/
def MbxOpen (d : Nat) (at_ : Nat) (ext : Bool) (s : State) : Prop :=
  FltReady d 13 (fieldLe (fltEntry d s) at_ 1) s ∧ ((cdom d s).flt.hostMode ≠ 3 ∨ ext = true)

/-- A PUT of `b` is accepted: 64 bytes, the previous result READY. -/
def MbxAccepts (n : Nat) (d : Fin 32) (b : Bytes) (ext : Bool) (s : State) : Prop :=
  MbxOpen d 8 ext s ∧ b.length = 64 ∧ (cdom d s).flt.mbx.ready = true ∧ (cdom d s).flt.mbx.at_ ≤ max s.now n

/-- The state in which an accepted PUT acts. -/
def mbxTaken (n : Nat) (d : Fin 32) (s : State) : State := bump (cCus d 1) (seqNo d 13 (atInput n s))

/-- The result of a PUT (R217). -/
def mbxShows (d : Fin 32) (tag : BitVec 16) (code : W16) (b : Bytes) (s : State) : State :=
  modFlt d (fun f => { f with mbx := { tag := tag.toNat, ready := true, at_ := s.now, code := code, data := b } }) s

/-- The update window of a domain changed. -/
def withUpd (d : Nat) (u : Upd) (s : State) : State := modCdom d (fun x => { x with upd := u }) s

end Sys2Proof

/-- A mailbox function acts once permitted and answers under its TAG, and an update window accepts one image in order into the other slot. (R179, R183, R188, R215, R216, R217, R222, R224, R225, R226, R227, R441) -/
def Obligations.MailboxAndUpdates : Prop :=
  (∀ c n (d : Fin 32) fn g a tag b ext s, MbxPut c n d fn g a tag b ext → twf {} s.cus.dom = true → MbxOpen d 8 ext s →
    let op := fieldLe (fltEntry d s) 8 1
    let adr := fn * 2 ^ 24 + a.toNat * 2 ^ 16 + tag.toNat
    let u := seqNo d 13 (atInput n s)
    (b.length ≠ 64 ∨ (cdom d s).flt.mbx.ready = false ∨ max s.now n < (cdom d s).flt.mbx.at_ →
      exec c s = .next (txnRefused d op 13 adr 0x202B u)) ∧
    (fn = 0x13 → allZero b = false → exec c s = .next (txnRefused d op 13 adr 0x202B u)) ∧
    (MbxAccepts n d b ext s → mbxGroup (fltEntry d s) g = false →
      (fn ≠ 0x13 → fn ≠ 1 ∨ mbxChannel d a.toNat s = false ∨ (hchan a.toNat s).dirOut = false →
        exec c s = .next (mbxShows d tag 0xF000 [] (txnRefused d op 13 adr 0x202A u))) ∧
      (fn = 0x13 → allZero b = true → exec c s = .next (emit .secure 0x2035 (srcDomain d) []
        (withUpd d { (cdom d s).upd with result := 0x2035 } (mbxShows d tag 0xF000 [] (txnRefused d op 13 adr 0x202A u))))))) ∧
  (∀ n (d : Fin 32) a (tag : BitVec 16) b ext s, twf {} s.cus.dom = true → MbxAccepts n d b ext s →
    let x := cdom d s
    let e := fltEntry d s
    let v := mbxTaken n d s
    (mbxGroup e 1 = true →
      (x.flt.phase = 1 → exec (.mbxBootDone n d a tag b ext) s = .next (mbxShows d tag 0 [] (modFlt d (fun f => { f with phase := 2 }) v))) ∧
      (x.flt.phase ≠ 1 → exec (.mbxBootDone n d a tag b ext) s = .next (mbxShows d tag 0 [] v))) ∧
    (mbxGroup e 2 = true →
      (polOnCommand x.pol = false ∨ x.svn.toNat ≤ cusFloor d s → exec (.mbxRaiseFloor n d a tag b ext) s = .next (mbxShows d tag 0 [] v)) ∧
      (polOnCommand x.pol = true → cusFloor d s < x.svn.toNat → 4096 ≤ s.fuses.anchor → ∃ t, exec (.mbxRaiseFloor n d a tag b ext) s = .next t ∧
        t.kpf = s.kpf ∧ (cdom d t).flt.mbx.code = 0xF000 ∧ (cdom d t).flt.mbx.ready = true ∧ (cdom d t).flt.mbx.tag = tag.toNat) ∧
      (polOnCommand x.pol = true → cusFloor d s < x.svn.toNat → s.fuses.anchor < 4096 → journalShut s = false →
        ∃ t, exec (.mbxRaiseFloor n d a tag b ext) s = .next t ∧ t.kpf = { s.kpf with acts := s.kpf.acts ++ [.floor d x.svn.toNat 2] } ∧
          (cdom d t).flt.mbx.ready = false ∧ (cdom d t).flt.mbx.tag = tag.toNat)) ∧
    (mbxGroup e 3 = true → cusConfigured d s = true → cusPushOpen s = false → ∃ t, exec (.mbxReboot n d a tag b ext) s = .next t ∧
      (cdom d t).st = (if s.kpf.anchorLost then .failed else .held) ∧ (cdom d t).released = false ∧ (cdom d t).bootDue = cusOn d s ∧ (∀ k, k ≠ d.val → cdom k t = cdom k s)) ∧
    (mbxGroup e 3 = true → cusConfigured d s = false → exec (.mbxReboot n d a tag b ext) s = .next (mbxShows d tag 0 [] v)) ∧
    (mbxGroup e 4 = true →
      (allZero b = true → x.flt.phase = 2 → x.upd.st = 0 → a.toNat ≤ 1 → x.src ≠ a.toNat →
        exec (.mbxUpdateOpen n d a tag b ext) s = .next (mbxShows d tag 0 [] (modFlt d (fun f => { f with phase := 3 })
          (withUpd d { st := 1, target := a == 1, result := x.upd.result, lastAt := max s.now n } v)))) ∧
      (allZero b = true → x.flt.phase ≠ 2 ∨ x.upd.st ≠ 0 ∨ 1 < a.toNat ∨ x.src = a.toNat → exec (.mbxUpdateOpen n d a tag b ext) s =
        .next (mbxShows d tag 0xF000 [] (emit .secure 0x2035 (srcDomain d) [] (withUpd d { x.upd with result := 0x2035 } v)))) ∧
      (x.upd.st = 0 → exec (.mbxUpdateClose n d a tag b ext) s =
        .next (mbxShows d tag 0xF000 [] (emit .secure 0x2035 (srcDomain d) [] (withUpd d { x.upd with result := 0x2035 } v)))) ∧
      (x.upd.st = 2 → ∃ t, exec (.mbxUpdateClose n d a tag b ext) s = .next t ∧ (cdom d t).upd.st = 0 ∧ (cdom d t).upd.result = x.upd.code ∧
        (cdom d t).flt.mbx = { tag := tag.toNat, ready := true, at_ := max s.now n + 20 * psUs, code := x.upd.code, data := [] } ∧ DomKept d s t)) ∧
    (mbxGroup e 5 = true → exec (.mbxCustodyInfo n d a tag b ext) s = .next (mbxShows d tag 0
      (padTo 64 (leBytes 8 x.seq.toNat ++ leBytes 4 x.svn.toNat ++ leBytes 4 (cusFloor d s) ++ leBytes 1 x.src ++ leBytes 1 x.flt.phase)) v)) ∧
    (mbxGroup e 0 = true → mbxChannel d a.toNat s = false → exec (.mbxHollowSend n d a tag b ext) s = .next (mbxShows d tag 0xF000 []
      (txnRefused d (fieldLe e 8 1) 13 (2 ^ 24 + a.toNat * 2 ^ 16 + tag.toNat) 0x202A v))) ∧
    (mbxGroup e 0 = true → mbxChannel d a.toNat s = true → (hchan a.toNat s).dirOut = false →
      exec (.mbxHollowSend n d a tag b ext) s =
        let r := hSend a.toNat b v
        .next (mbxShows d tag r.1 (if r.1 = 0 then leBytes 2 (hchan a.toNat r.2).seq.toNat else []) r.2))) ∧
  (∀ n (d : Fin 32) ext s, twf {} s.cus.dom = true → MbxOpen d 9 ext s →
    let m := (cdom d s).flt.mbx
    let v := mbxTaken n d s
    let word := fun (code : W16) (low : Nat) (b : Bytes) => emitOut (.spi d (leBytes 4 (code.toNat * 65536 + low) ++ padTo 64 b))
    (m.ready = true → m.at_ ≤ max s.now n → exec (.mbxResult n d ext) s = .next (word m.code m.tag m.data v)) ∧
    (m.ready = false ∨ max s.now n < m.at_ →
      exec (.mbxResult n d ext) s = .next (word 0 0 [] (modFlt d (fun f => { f with early := true }) v))) ∧
    (∀ k : BitVec 8, mbxGroup (fltEntry d s) 6 = false ∨ mbxChannel d k.toNat s = false → exec (.mbxHollowRecv n d k ext) s =
      .next (word 0xF000 0 [] (txnRefused d (fieldLe (fltEntry d s) 9 1) 13 (0x81 * 2 ^ 24 + k.toNat * 2 ^ 16) 0x202A
        (seqNo d 13 (atInput n s))))) ∧
    (∀ k : BitVec 8, mbxGroup (fltEntry d s) 6 = true → mbxChannel d k.toNat s = true → (hchan k.toNat s).dirOut = true →
      (hchan k.toNat s).open_ = false → exec (.mbxHollowRecv n d k ext) s = .next (word 0x8005 0 [] v)) ∧
    (∀ (k : BitVec 8) q t, mbxGroup (fltEntry d s) 6 = true → mbxChannel d k.toNat s = true → (hchan k.toNat s).dirOut = true →
      (hchan k.toNat s).open_ = true → hTake k.toNat v = some (q, t) → exec (.mbxHollowRecv n d k ext) s = .next (word 0 q.seq.toNat q.data t))) ∧
  (∀ n (d : Fin 32) (target : Bool) s, live s = true → twf {} s.cus.dom = true →
    let x := cdom d s
    let v := atInput n s
    let none_ := emit .secure 0x2035 (srcDomain d) [] (withUpd d { x.upd with result := 0x2035 } v)
    (s.boot.pf1 = false → exec (.updateOpen n d target) s = .next v ∧ exec (.updateClose n d) s = .next v) ∧
    (s.boot.pf1 = true →
      (x.flt.phase = 2 → x.upd.st = 0 → x.src ≠ b2n target → exec (.updateOpen n d target) s =
        .next (modFlt d (fun f => { f with phase := 3 }) (withUpd d { st := 1, target := target, result := x.upd.result, lastAt := max s.now n } v))) ∧
      (x.flt.phase ≠ 2 ∨ x.upd.st ≠ 0 ∨ x.src = b2n target → exec (.updateOpen n d target) s = .next none_) ∧
      (x.upd.st = 0 → exec (.updateClose n d) s = .next none_) ∧
      (let b := x.upd.bytes
       let h := hdrOf b
       let closes := fun (code : W16) (owed : List (Nat × Bytes × Bytes)) => ∃ t, exec (.updateClose n d) s = .next t ∧ DomKept d s t ∧
         (cdom d t).upd.st = 0 ∧ (cdom d t).upd.result = code ∧ (cdom d t).flt.phase = (if x.flt.phase = 3 then 2 else x.flt.phase) ∧
         (cdom d t).seals = x.seals ++ owed
       (x.upd.st = 2 → closes x.upd.code []) ∧
       (x.upd.st = 1 → x.upd.sigDue = false →
         (b.length < 512 ∨ b.length < h.imageLen → closes 0x2031 []) ∧
         (512 ≤ b.length → h.imageLen ≤ b.length →
           (x.upd.sigOk = false → closes 0x2004 []) ∧
           (x.upd.sigOk = true → cusFloor d s ≤ h.svn →
             closes 0x2030 [(b2n x.upd.target, sha384 (b.take h.headerLen), sha384 x.pol)])))) ∧
      (x.upd.st = 1 → x.upd.sigDue = true → exec (.updateClose n d) s = .next (modCdom d (fun x => { x with
        upd := x.upd.shut, closed := x.closed ++ [x.upd] }) (modFlt d (fun f => { f with phase := if f.phase = 3 then 2 else f.phase })
          (withUpd d { x.upd with viaMbx := false } v))))) ∧
    (cusBoughRuns d s = false ∨ (x.closed = [] ∧ x.upd.sigDue = false) → exec (.updateSigVerifyDone n d) s = .next v) ∧
    (cusBoughRuns d s = true → ∀ u r, x.closed = u :: r → ∃ t, exec (.updateSigVerifyDone n d) s = .next t ∧ DomKept d s t ∧
      (cdom d t).closed = r ∧
      (512 ≤ u.bytes.length → (hdrOf u.bytes).imageLen ≤ u.bytes.length →
        (updSig u x.pol = false → (cdom d t).upd.result = 0x2004 ∧ (cdom d t).seals = x.seals) ∧
        (updSig u x.pol = true → cusFloor d s ≤ (hdrOf u.bytes).svn → (cdom d t).upd.result = 0x2030 ∧
          (cdom d t).seals = x.seals ++ [(b2n u.target, sha384 (u.bytes.take (hdrOf u.bytes).headerLen), sha384 x.pol)]))) ∧
    (cusBoughRuns d s = true → x.closed = [] → x.upd.sigDue = true → x.upd.st = 1 →
      let ok := updSig x.upd x.pol
      ∃ t, exec (.updateSigVerifyDone n d) s = .next t ∧ DomKept d s t ∧
        cdom d t = { x with upd := if ok then { x.upd with sigDue := false, sigOk := true } else
          { x.upd with sigDue := false, sigOk := false, st := 2, code := 0x2004 } }) ∧
    (x.upd.st ≠ 0 → x.upd.lastAt + 600 * psS ≤ max s.now n → ∃ t, exec (.updateAbandonTimeout n d) s = .next t ∧ DomKept d s t ∧
      (cdom d t).upd.st = 0 ∧ (cdom d t).upd.result = 0x2034 ∧ (cdom d t).flt.phase = (if x.flt.phase = 3 then 2 else x.flt.phase)) ∧
    (x.upd.st = 0 ∨ max s.now n < x.upd.lastAt + 600 * psS → exec (.updateAbandonTimeout n d) s = .next v)) ∧
  (∀ (d : Fin 32) (fl : Bytes) s, live s = true → twf {} s.cus.dom = true →
    let x := cdom d s
    (x.flt.fwd = none → exec (.updateReadback d fl) s = .next { s with out := [] }) ∧
    (∀ w, x.flt.fwd = some w → w.check = true → w.polled = true → x.upd.st = 1 →
      (fl ≠ w.data → ∃ t, exec (.updateReadback d fl) s = .next t ∧ DomKept d s t ∧
        cdom d t = { x with flt := { x.flt with fwd := none, wip := false }, upd := { x.upd with st := 2, code := 0x2033 } }) ∧
      (fl = w.data → x.upd.bytes.length + fl.length < 512 → ∃ t, exec (.updateReadback d fl) s = .next t ∧ DomKept d s t ∧
        cdom d t = { x with flt := { x.flt with fwd := none, wip := false }, upd := { x.upd with bytes := x.upd.bytes ++ fl } })))

namespace Sys2Proof

/-! ### Canopy -/

/-- The CNP block changed. -/
def withCnp (x : Cnp) (s : State) : State := { s with cnp := x }

/-- Nothing but Canopy, the telemetry, the outputs and the time has changed. -/
def OnlyCanopy (s t : State) : Prop :=
  t = { s with cnp := t.cnp, tel := t.tel, out := t.out, now := t.now, hostMem := t.hostMem, freeCtr := t.freeCtr }

/-- No OPEN and no COMMIT waits for its turn. -/
def NoTurns (s : State) : Prop := s.cnp.opens = [] ∧ s.cnp.held = []

/-- The tables of the CNP block are in their form. -/
def CnpWf (s : State) : Prop :=
  twf {} s.cnp.ctx = true ∧ twf {} s.cnp.chans = true ∧ twf {} s.cnp.lanes = true ∧ twf 0 s.cnp.moved = true ∧ twf 0 s.cnp.renew = true ∧
  (∀ c, twf {} (chanAt c s).loss = true)

/-- The rein level is 0 and the gateway's entry agrees: no rein is due (R296). -/
def NoRein (e : Entry) (s : State) : Prop :=
  s.cnp.level = 0 ∧ ((tget {} s.cnp.gws (gwIndex e.gw)).gw = e.gw → (tget {} s.cnp.gws (gwIndex e.gw)).level = 0)

/-- A record in a channel: its RSEQ is the next (R279). -/
def recordIn (c : Nat) (r : Rec) (s t : State) : Prop :=
  (chanAt c t).buf = (chanAt c s).buf ++ [{ r with rseq := (chanAt c s).rseq + 1 }] ∧ (chanAt c t).rseq = (chanAt c s).rseq + 1

/-- One more loss of a cause awaits its LOSS record (R300). -/
def lossMore (c cause : Nat) (s t : State) : Prop :=
  (tget {} (chanAt c t).loss cause).count = (tget {} (chanAt c s).loss cause).count + 1 ∧ (chanAt c t).buf = (chanAt c s).buf

end Sys2Proof

/-- Envelopes are admitted, dropped or diverted, dispatched to their lane's ring, and losses and pressure follow the rules. (R252, R253, R254, R255, R291, R292, R295, R296, R299, R300, R301) -/
def Obligations.EnvelopesToLanes : Prop :=
  (∀ n s, live s = true →
    (s.cnp.inbound = [] → exec (.envelopeDivert n) s = .next (atInput n s)) ∧
    (∀ e rest, s.cnp.inbound = e :: rest →
      (s.tmp.erased = true → ∃ t, exec (.envelopeDivert n) s = .next t ∧ OnlyCanopy s t ∧ t.cnp.inbound = rest ∧ t.cnp.entries = s.cnp.entries) ∧
      (s.tmp.erased = false → canopyOn s = false → exec (.envelopeDivert n) s = .next (withCnp { s.cnp with inbound := rest } (atInput n s))) ∧
      (s.tmp.erased = false → canopyOn s = true → envGood e.frame = true → NoRein e s → s.grv.isolated = false →
        let recent := (tget [] s.cnp.admits e.limb).filter (fun x => decide (max s.now n < x + 10 * psUs))
        (160 ≤ recent.length → (ctxIndex e.sensor.toNat s).isSome = true → CnpWf s → ∃ t, exec (.envelopeDivert n) s = .next t ∧ OnlyCanopy s t ∧ t.cnp.inbound = rest ∧
          t.cnp.entries = s.cnp.entries ∧ lossMore (channelOf (bucketOf e.sensor.toNat) s) 2 s t) ∧
        (recent.length < 160 → (ctxIndex e.sensor.toNat s).isSome = true →
          (s.cnp.shed = true → fieldBe e.frame 0x18 1 = 0x20 → CnpWf s → ∃ t, exec (.envelopeDivert n) s = .next t ∧ OnlyCanopy s t ∧
            t.cnp.entries = s.cnp.entries ∧ lossMore (channelOf (bucketOf e.sensor.toNat) s) 3 s t) ∧
          (s.cnp.shed = false ∨ fieldBe e.frame 0x18 1 ≠ 0x20 → spilling e.limb s = false → shareUsed e.limb s + e.size ≤ shareSize →
            ∃ t h, exec (.envelopeDivert n) s = .next t ∧ OnlyCanopy s t ∧ t.cnp = { s.cnp with
              inbound := rest, admits := tset [] s.cnp.admits e.limb (max s.now n :: recent)
              entries := s.cnp.entries ++ [{ e with place := 1, handle := h }] }))))) ∧
  (∀ (l : Fin 4) s, live s = true →
    let u := { s with out := [] }
    ((∀ e ∈ s.cnp.entries, e.limb = l.val → dispatchable e s = false) → exec (.envelopeDispatch l) s = .next u) ∧
    (∀ e r, s.cnp.entries = e :: r → e.limb = l.val → dispatchable e s = true → (∀ x ∈ r, x.handle ≠ e.handle) →
      (envGood e.frame = false → ∃ t, exec (.envelopeDispatch l) s = .next t ∧ OnlyCanopy s t ∧ t.cnp.entries = r) ∧
      (∀ i, envGood e.frame = true → queuedIndex e.sensor.toNat s = some i → e.retried = false →
        let ln := laneOf (bucketOf e.sensor.toNat) s
        let x := laneAt ln s
        let at_ := (gcan s).laneRing + 8192 * (ln % 4) + 32 * (x.head.toNat % 256)
        exec (.envelopeDispatch l) s = .next (withCnp { s.cnp with
          entries := { e with place := 2, lane := ln, ctx := i } :: r
          lanes := tset {} s.cnp.lanes ln { x with
            head := x.head + 1, ring := x.ring ++ [e.handle], since := if x.ring = [] then s.now else x.since } }
          (twigWrite (twigOfLeaf ln) at_ (leBytes 4 e.handle.toNat ++ leBytes 4 i ++ leBytes 8 e.sensor.toNat ++ leBytes 8 e.rx.toNat
            ++ leBytes 2 e.sframe.length ++ leBytes 1 e.port ++ leBytes 1 (b2n e.spilled + 2 * b2n false) ++ leBytes 4 0) u)))) ∧
    (∀ e, s.cnp.entries.filter (fun e => e.limb == l.val && e.place == 0) = [e] →
      (shareSize < shareUsed l s + e.size → exec (.spillReturn l []) s = .next u) ∧
      (shareUsed l s + e.size ≤ shareSize →
        exec (.spillReturn l []) s = .next (withCnp { s.cnp with
          spHead := tset 0 s.cnp.spHead l (tget 0 s.cnp.spHead l + e.size)
          entries := s.cnp.entries.map (fun x => if x.handle = e.handle then { x with place := 1 } else x) } u) ∧
        (CnpWf s → ∃ t, exec (.spillReturn l [some 2]) s = .next t ∧ OnlyCanopy s t ∧
          t.cnp.entries = s.cnp.entries.filter (fun x => x.handle != e.handle) ∧ lossMore (channelOf (bucketOf e.sensor.toNat) s) 4 s t)))) ∧
  (∀ (l : Fin 192) (v : BitVec 32) s, live s = true →
    (leafCanIssue l s = true → exec (.laneConsumedWrite l v) s = .next (withCnp { s.cnp with
      lanes := tset {} s.cnp.lanes l { laneAt l s with consumed := v } } { s with out := [] })) ∧
    (leafCanIssue l s = false → exec (.laneConsumedWrite l v) s = .next { s with out := [] })) ∧
  (∀ n s, live s = true →
    let g := gcan s
    let f := fillNow s
    let shed := if g.joinMark ≤ f then true else if f + g.reinHyst < g.joinMark then false else s.cnp.shed
    (canopyOn s = false → exec (.fillEvaluation n) s = .next (atInput n s)) ∧
    (canopyOn s = true →
      (s.cnp.level = 3 ∨ (s.cnp.level < 3 ∧ f < g.reinMark.getD s.cnp.level 1001)) →
      (s.cnp.level = 0 ∨ g.reinMark.getD (s.cnp.level - 1) 0 ≤ f + g.reinHyst) →
      exec (.fillEvaluation n) s = .next (withCnp { s.cnp with fill := f, shed := shed } (atInput n s))) ∧
    (canopyOn s = true → s.cnp.level = 0 → g.reinMark.getD 0 1001 ≤ f → f < g.reinMark.getD 1 1001 → g.reinMark.getD 0 0 ≤ f + g.reinHyst →
      ∃ t, exec (.fillEvaluation n) s = .next t ∧ OnlyCanopy s t ∧ t.cnp = { s.cnp with fill := f, level := 1, shed := shed })) ∧
  (∀ n (c : Fin 32) cause a s, live s = true → CnpWf s → (chanAt c s).loss = [(cause, a)] → cause < 8 → a.count ≠ 0 →
    (∀ l, a.last = some l → max s.now n < l + psMs → exec (.lossRecordEmit n c) s = .next (atInput n s)) ∧
    ((∀ l, a.last = some l → l + psMs ≤ max s.now n) → chanRoom c 48 s = true → ∃ t, exec (.lossRecordEmit n c) s = .next t ∧
      OnlyCanopy s t ∧ recordIn c (lossRec cause a) s t ∧ (tget {} (chanAt c t).loss cause).count = 0 ∧ t.cnp.entries = s.cnp.entries) ∧
    (chanRoom c 48 s = false → exec (.lossRecordEmit n c) s = .next (atInput n s))) ∧
  (∀ n s k d, live s = true → s.cnp.drops = [(k, d)] →
    (d.active = false ∨ max s.now n < d.last + 10 * psMs → exec (.dropSummaryTimer n) s = .next (atInput n s)) ∧
    (d.active = true → d.last + 10 * psMs ≤ max s.now n → exec (.dropSummaryTimer n) s =
      .next (emit .canopy (dropCode k) (srcLimb 0) [] (withCnp { s.cnp with drops := [] } (atInput n s)))))

/-- OPEN verifies a frame for the lane that holds it, COMMIT acts once as a whole, and leases and context commands follow their rules. (R256, R257, R258, R259, R260, R262, R264, R267, R277, R279, R288) -/
def Obligations.OpensAndCommits : Prop :=
  (∀ (l : Fin 192) (tg : Fin 8) (desc : BitVec 16) s, live s = true → twf {} s.lvs.leaf = true →
    let u := { s with out := [] }
    let q := mread 0 (leafAt l s).dmem desc.toNat 16
    let h := BitVec.ofNat 32 (fieldLe q 0 4)
    let i := fieldLe q 4 4
    let fl := fieldLe q 8 2
    let out := fieldLe q 0xC 4
    (leafCanIssue l s = false → exec (.canopyOpen l tg desc) s = .next u ∧ exec (.canopyCommit l tg desc) s = .next u) ∧
    (leafCanIssue l s = true → (sapTag l tg s).req.isSome = true →
      exec (.canopyOpen l tg desc) s = .next (modLeaf l (fun y => { y with sapReject := true }) u) ∧
      exec (.canopyCommit l tg desc) s = .next (modLeaf l (fun y => { y with sapReject := true }) u)) ∧
    (leafCanIssue l s = true → (sapTag l tg s).req = none → twf {} (leafAt l s).tags = true → NoTurns s →
      (entryAt h s = none ∨ 0x10000 < desc.toNat + 16 → ∃ t r, exec (.canopyOpen l tg desc) s = .next t ∧ (sapTag l tg t).req = some r ∧
        r.code = 0xF000 ∧ t.cnp = s.cnp) ∧
      (∀ e, entryAt h s = some e → e.place = 2 → e.lane = l.val → desc.toNat + 16 ≤ 0x10000 → fieldLe q 0xA 2 = 0 → out % 128 = 0 →
        out + 128 ≤ 0x10000 → overlaps out 128 desc.toNat 16 = false → isLane l s = true → s.cnp.st = 3 → laneOn l s = true → ctxLost i s = false →
        let f := e.sframe
        let c := ctxAt i s
        let root := (vslot fl s).mat
        let id := ctxSensor i s
        let b := f.take (16 + fPlen f)
        let opens := fun (code : W16) (plain : Bytes) => ∃ t r o, exec (.canopyOpen l tg desc) s = .next t ∧
          (sapTag l tg t).req = some r ∧ r.op = 0x40 ∧ r.code = code ∧ r.dst = out ∧ r.len = 128 ∧ r.out = openResult o f id ∧
          t.cnp = { s.cnp with opens := [o], lanes := t.cnp.lanes } ∧ (laneAt l t).since = s.now ∧ o.root = root ∧ o.begun = true ∧ o.leaf = l.val ∧ o.tag = tg.val ∧ o.entry = h ∧ o.ctx = i ∧ o.fleet = fl ∧
          o.code = code ∧ o.plain = plain ∧ o.read = c ∧ o.micOk = (code == 0) ∧ t.kpf = s.kpf ∧ t.vault = s.vault
        (∀ x, fleetCheck l fl s = some x → opens 0xF000 []) ∧
        (fleetCheck l fl s = none →
          (frameGood f = false ∨ fSensor f ≠ id → opens 0x3002 []) ∧
          (frameGood f = true → fSensor f = id → fJoin f = true →
            opens (if frameMic (keySjk root id) 0 0 b = f.drop (16 + fPlen f) then 0 else 0x3001) []) ∧
          (frameGood f = true → fSensor f = id → fJoin f = false →
            let srk := keySrk root id c.epoch.toNat
            (frameMic (keySmk srk c.nonce) 0 c.epoch.toNat b = f.drop (16 + fPlen f) →
              opens 0 (frameCrypt (keySek srk c.nonce) 0 id (fFcnt f) (fPayload f))) ∧
            (frameMic (keySmk srk c.nonce) 0 c.epoch.toNat b ≠ f.drop (16 + fPlen f) → opens 0x3001 [])))))) ∧
  (∀ (l : Fin 192) (tg : Fin 8) (desc : BitVec 16) s, live s = true → twf {} s.lvs.leaf = true → twf {} (leafAt l s).tags = true →
    leafCanIssue l s = true → (sapTag l tg s).req = none → s.cnp.held = [] → desc.toNat + 80 ≤ 0x10000 → CnpWf s →
    let q := mread 0 (leafAt l s).dmem desc.toNat 80
    let new := ctxOf (q.drop 16)
    fieldLe q 9 7 = 0 →
    let tok := BitVec.ofNat 32 (fieldLe q 0 4)
    (s.cnp.opens = [] → (laneAt l s).cut.contains tok = false → ∃ t r, exec (.canopyCommit l tg desc) s = .next t ∧ (sapTag l tg t).req = some r ∧
      r.code = 0x300C ∧ t.cnp = { s.cnp with lanes := t.cnp.lanes } ∧ t.kpf = s.kpf) ∧
    (s.cnp.opens = [] → (laneAt l s).cut.contains tok = true → ∃ t r, exec (.canopyCommit l tg desc) s = .next t ∧ (sapTag l tg t).req = some r ∧
      r.commit = none ∧ t.tel = { s.tel with ctr := t.tel.ctr } ∧ t.cnp = { s.cnp with lanes := t.cnp.lanes } ∧ (laneAt l t).cut = (laneAt l s).cut.erase tok) ∧
    (∀ o e c, s.cnp.opens = [o] → o.begun = true → o.leaf = l.val → o.token = tok → o.mgmt = 0 → entryAt o.entry s = some e →
      fleetCheck l o.fleet s = some c → ∃ t r, exec (.canopyCommit l tg desc) s = .next t ∧ (sapTag l tg t).req = some r ∧ r.code = 0xF000 ∧
        r.secure = c ∧ t.cnp.opens = [] ∧ t.cnp.held = [] ∧ t.cnp.ctx = s.cnp.ctx ∧ t.cnp.chans = s.cnp.chans ∧ entryAt o.entry t = none) ∧
    (∀ o e, s.cnp.opens = [o] → o.begun = true → o.leaf = l.val → o.token = tok → o.mgmt = 0 →
      entryAt o.entry s = some e → fleetCheck l o.fleet s = none → commitBad o e q s = false → fieldLe q 5 1 = 0 → ctxLost o.ctx s = false → o.read = ctxAt o.ctx s →
      let old := ctxAt o.ctx s
      let c := channelOf (bucketOf (fSensor e.sframe)) s
      (fieldLe q 4 1 = 1 → fieldLe q 6 2 = 0x3004 → ∃ t r, exec (.canopyCommit l tg desc) s = .next t ∧ (sapTag l tg t).req = some r ∧ r.code = 0 ∧
        t.cnp.opens = [] ∧ t.cnp.held = [] ∧ ctxAt o.ctx t = { old with miss := new.miss, flags := new.flags, leapSlot := new.leapSlot } ∧
        (∀ k, k ≠ o.ctx → ctxAt k t = ctxAt k s) ∧ t.cnp.chans = s.cnp.chans ∧ entryAt o.entry t = none ∧ t.kpf = s.kpf) ∧
      (fieldLe q 4 1 = 0 → new.lastFcnt.toNat ≤ old.ceiling.toNat → chanRoom c (48 + o.plain.length) s = true → new.lastFcnt.toNat < 0xFFFF0000 →
        old.ceiling.toNat = 0xFFFFFFFF ∨ new.lastFcnt.toNat + (gcan s).leaseStep / 4 < old.ceiling.toNat →
        ∃ t r rd, exec (.canopyCommit l tg desc) s = .next t ∧ (sapTag l tg t).req = some r ∧ r.code = 0 ∧
          t.cnp.opens = [] ∧ t.cnp.held = [] ∧ ctxAt o.ctx t = { new with ceiling := old.ceiling } ∧ (∀ k, k ≠ o.ctx → ctxAt k t = ctxAt k s) ∧
          recordIn c rd s t ∧ rd.kind = (if fJoin e.sframe then 3 else 1) ∧ rd.fcnt = BitVec.ofNat 32 (fFcnt e.sframe) ∧ rd.rx = e.rx ∧
          rd.gw = e.gw ∧ rd.sensor = BitVec.ofNat 64 (fSensor e.sframe) ∧ rd.payload = o.plain ∧ rd.epoch = new.epoch ∧ rd.lane = l.val ∧
          entryAt o.entry t = none ∧ t.kpf = s.kpf) ∧
      (fieldLe q 4 1 = 0 → old.ceiling.toNat < new.lastFcnt.toNat → tget 0 s.cnp.renew o.ctx = 0 → journalShut s = false → old.st ≠ 4 →
        let st := max 1 (gcan s).leaseStep
        let target := min (old.ceiling.toNat + (new.lastFcnt.toNat - old.ceiling.toNat + st - 1) / st * st) 0xFFFFFFFF
        ∃ t, exec (.canopyCommit l tg desc) s = .next t ∧ t.kpf = { s.kpf with acts := s.kpf.acts ++ [.lease o.ctx target] } ∧
          t.cnp = { s.cnp with
            opens := [], lanes := t.cnp.lanes, renew := tset 0 s.cnp.renew o.ctx (BitVec.ofNat 32 target)
            held := [{ leaf := l, tag := tg, opn := fleetTake s o, req := q, leased := true }] }))) ∧
  (∀ s, live s = true → NoTurns s →
    (s.kpf.acked = [] → exec .heldCommitComplete s = .next { s with out := [] }) ∧
    (∀ i v, s.kpf.acked = [.lease i v] → mirrorWaits i v s = false →
      exec .heldCommitComplete s = .next (withCnp { s.cnp with
        ctx := tset {} s.cnp.ctx i { ctxAt i s with ceiling := if (ctxAt i s).ceiling.toNat < v then BitVec.ofNat 32 v else (ctxAt i s).ceiling }
        renew := tset 0 s.cnp.renew i 0 } { s with out := [], kpf := { s.kpf with acked := [] } }))) ∧
  (∀ (tk : Bool) (i : BitVec 22) s, live s = true →
    let u := { s with out := [] }
    let k := if tk then (gcan s).idCount + i.toNat else i.toNat
    let c := ctxAt k s
    let put := fun (x : Ctx) => withCnp { s.cnp with result := 0, ctx := tset {} s.cnp.ctx k x } u
    let served := if tk then s.cnp.tkState ≠ 0 ∧ i.toNat < s.cnp.tkCount else i.toNat < (gcan s).idCount
    (s.boot.pf1 = false → exec (.ctxRead tk i) s = .next u ∧ exec (.ctxBlock tk i) s = .next u ∧ exec (.ctxUnblock tk i) s = .next u ∧
      exec (.ctxForget tk i) s = .next u) ∧
    (s.boot.pf1 = true → ¬ served → let r := withCnp { s.cnp with result := 0x3008 } u
      exec (.ctxRead tk i) s = .next r ∧ exec (.ctxBlock tk i) s = .next r ∧ exec (.ctxUnblock tk i) s = .next r ∧
      exec (.ctxForget tk i) s = .next r) ∧
    (s.boot.pf1 = true → served → NoTurns s → ctxLost k s = false → payloadOf (BitVec.ofNat 64 (ctxSensor k s)) s = none →
      exec (.ctxRead tk i) s = .next (withCnp { s.cnp with result := 0, ctxData := c.bytes (BitVec.ofNat 64 (ctxSensor k s)).toNat } u) ∧
      exec (.ctxBlock tk i) s = .next (put { c with st := 2 }) ∧
      exec (.ctxUnblock tk i) s = .next (put { c with st := if c.epoch = 0 then 0 else 1 }) ∧
      exec (.ctxForget tk i) s = .next (put { c with st := 0 })))

/-- Records leave in order to their ring or frame, host rings obey their pointers, and downlink payloads are taken or refused. (R276, R277, R280, R281, R282, R514) -/
def Obligations.RecordsAndDownlinks : Prop :=
  (∀ (c : Fin 16) s, live s = true →
    let x := chanAt c s
    let u := { s with out := [] }
    (x.buf = [] ∨ x.ring.en = false ∨ x.ring.isFull = true → exec (.recordRingWrite c) s = .next u) ∧
    (∀ r rest, x.buf = r :: rest → x.ring.en = true → x.ring.isFull = false → NoTurns s →
      exec (.recordRingWrite c) s = .next { s with
        out := if x.ring.irqs then [.msix 0 c] else []
        hostMem := mwrite 0 s.hostMem (x.ring.slotAddr 256) (padTo 0xFC (r.bytes false) ++ leBytes 4 (b2n x.ring.phase))
        cnp := { s.cnp with chans := tset {} s.cnp.chans c { x with buf := rest, ring := x.ring.advance } } }) ∧
    ((chanAt (16 + c) s).buf = [] → exec (.recordFrameEmit c) s = .next u) ∧
    (let g := (gcan s).recCh.getD c {}
     let y := chanAt (16 + c) s
     let lp := lport g.port g.lport s
     (∀ r, y.buf = [r] → r.size ≤ 8000 → lp.up = false → exec (.recordFrameEmit c) s = .next u) ∧
     (∀ r, y.buf = [r] → r.size ≤ 8000 → lp.up = true → lp.fill + 8100 ≤ queueSize g.port s → NoTurns s → g.vlan = 0 →
       twf {} s.lnk.ports = true → twf {} (portAt g.port s).lports = true → twf {} s.cnp.chans = true →
       ∃ t src, exec (.recordFrameEmit c) s = .next t ∧ src.length = 6 ∧ (chanAt (16 + c) t).buf = [] ∧
         (lport g.port g.lport t).queue = lp.queue ++ [{
           data := padTo 6 g.da ++ src ++ [0x88, 0xB5, 0x43, 1, 1, 0] ++ padTo ((r.size + 7) / 8 * 8) (r.bytes true)
           prio := 0 }] ∧ t.kpf = s.kpf ∧ t.cnp.entries = s.cnp.entries))) ∧
  (∀ (v : BitVec 64) (w : BitVec 32) s, live s = true →
    let u := { s with out := [] }
    (∀ c : Fin 16, exec (.ringConsWrite (.record c) v) s = .next (modChan c (fun x => { x with ring := x.ring.writeCons v.toNat }) u) ∧
      exec (.ringCtrlWrite (.record c) w) s = .next (modChan c (fun x => { x with ring := x.ring.writeCtrl w }) u)) ∧
    exec (.ringConsWrite .dlq v) s = .next u ∧
    exec (.ringCtrlWrite .dlq w) s = .next (withCnp { s.cnp with dlqReg := s.cnp.dlqReg.writeCtrl w } u) ∧
    exec (.ringConsWrite .pf1 v) s = .next (evRoom true { u with tel := { s.tel with pf1 := { s.tel.pf1 with reg := s.tel.pf1.reg.writeCons v.toNat } } }) ∧
    exec (.ringConsWrite .pf0 v) s = .next (evRoom false { u with tel := { s.tel with pf0 := { s.tel.pf0 with reg := s.tel.pf0.reg.writeCons v.toNat } } }) ∧
    exec (.ringCtrlWrite .pf1 w) s = .next (evRoom true { u with tel := { s.tel with pf1 := s.tel.pf1.writeCtrl w } }) ∧
    exec (.ringCtrlWrite .pf0 w) s = .next (evRoom false { u with tel := { s.tel with pf0 := s.tel.pf0.writeCtrl w } }) ∧
    (∀ b, (if b then s.tel.pf1 else s.tel.pf0).loss = [] → evRoom b s = s) ∧
    (let q := s.cnp.dlqReg
     (q.prod ≤ v.toNat → v.toNat ≤ q.cons + 2 ^ q.size →
       exec (.dlqProdWrite v) s = .next (withCnp { s.cnp with dlqReg := { q with prod := v.toNat } } u)) ∧
     (v.toNat < q.prod ∨ q.cons + 2 ^ q.size < v.toNat →
       exec (.dlqProdWrite v) s = .next (withCnp { s.cnp with dlqReg := { q with ptrErr := true } } u)))) ∧
  (∀ s, live s = true →
    let q := s.cnp.dlqReg
    let u := { s with out := [] }
    let b := mread 0 s.hostMem (q.base.toNat + 256 * (q.cons % 2 ^ q.size)) 256
    let phase := decide (q.cons / 2 ^ q.size % 2 = 0)
    let p : Payload := {
      sensor := BitVec.ofNat 64 (fieldLe b 0 8), tag := BitVec.ofNat 32 (fieldLe b 8 4), aport := fieldLe b 12 1
      data := slice b 16 (min 200 (fieldLe b 13 1)), expire := s.slt.slot + BitVec.ofNat 64 (gcan s).dlTtl }
    (q.en = false ∨ q.prod ≤ q.cons → exec .dlqEntryFetch s = .next u) ∧
    (q.en = true → q.cons < q.prod → bitOf (fieldLe b 14 1) 0 ≠ phase → exec .dlqEntryFetch s = .next u) ∧
    (q.en = true → q.cons < q.prod → bitOf (fieldLe b 14 1) 0 = phase →
      (∀ i, ctxIndex p.sensor.toNat s = some i → (ctxAt i s).st = 1 → payloadOf p.sensor s = none → s.cnp.payloads.length < 65536 →
        exec .dlqEntryFetch s = .next (withCnp { s.cnp with
          dlqReg := { q with cons := q.cons + 1 }, payloads := s.cnp.payloads ++ [p] } u)) ∧
      (ctxIndex p.sensor.toNat s = none → CnpWf s → ∃ t rd, exec .dlqEntryFetch s = .next t ∧ OnlyCanopy s t ∧ t.cnp.payloads = s.cnp.payloads ∧
        t.cnp.dlqReg = { q with cons := q.cons + 1 } ∧ recordIn (channelOf (bucketOf p.sensor.toNat) s) rd s t ∧
        rd.kind = 2 ∧ rd.aport = 4 ∧ rd.fcnt = p.tag ∧ rd.sensor = p.sensor)) ∧
    ((∀ p ∈ s.cnp.payloads, s.slt.slot.toNat < p.expire.toNat) → exec .dlTtlExpiry s = .next u) ∧
    (∀ p, s.cnp.payloads = [p] → p.expire.toNat ≤ s.slt.slot.toNat → CnpWf s → ∃ t rd, exec .dlTtlExpiry s = .next t ∧ OnlyCanopy s t ∧
      t.cnp.payloads = [] ∧ recordIn (channelOf (bucketOf p.sensor.toNat) s) rd s t ∧ rd.kind = 2 ∧ rd.aport = 2 ∧ rd.fcnt = p.tag))

/-- Images, ceilings, lost lines, fences, and the takeover and hand-back of a range change exactly the contexts and lanes they name. (R35, R268, R283, R284, R285, R302, R305, R306, R309, R310, R312, R504) -/
def Obligations.RingStoreAndTakeover : Prop :=
  (∀ s, live s = true →
    let u := { s with out := [] }
    let skip := if s.cnp.st = 1 then withCnp { s.cnp with st := 2 } u else u
    (s.boot.pf1 = false → exec .imageSkip s = .next u ∧ exec .imageExport s = .next u ∧ exec .imageRestore s = .next u) ∧
    (s.boot.pf1 = true → exec .imageSkip s = .next skip) ∧ exec .imageWaitExpiry s = .next skip ∧
    ((gcan s).imagePeriod = 0 → exec .imagePeriodExpiry s = .next u) ∧
    (∀ c, (c = Instr.imageExport ∧ s.boot.pf1 = true) ∨ (c = .imagePeriodExpiry ∧ (gcan s).imagePeriod ≠ 0) →
      (s.cnp.st ≠ 3 ∨ s.cnp.img.isSome = true → exec c s = .next u) ∧
      (s.cnp.st = 3 → s.cnp.img = none →
        (s.slt.anchored = false ∨ tapKey 46 s = [] → exec c s = .next (emit .fault 0x300F (srcLimb 0) [] (withCnp { s.cnp with imgResult := 0x300F } u))) ∧
        (s.slt.anchored = true → tapKey 46 s ≠ [] → exec c s = .next (queueJobAs false .imgExport 3 none (withCnp { s.cnp with
          imgResult := 0, img := some { addr := s.cnp.imgAddr, slot := s.slt.slot, header := imgHeader s } }
          { u with hostMem := mwrite 0 s.hostMem s.cnp.imgAddr.toNat (imgHeader s) }))))) ∧
    (s.nrg.admitted.all (fun j => j.act != .imgExport) = true → exec .imageExportDone s = .next u) ∧
    (s.cnp.img = none → exec .imageExportDone s = .next u) ∧
    (∀ m, s.cnp.img = some m → (∃ j ∈ s.nrg.admitted, j.act = .imgExport) → imgChunks s = 1 →
      let iv := imgIv m.slot.toNat 0
      let ct := gcmCrypt (tapKey 46 s) iv (chunkPlain 0 s)
      exec .imageExportDone s = .next (jobDone .imgExport (withCnp { s.cnp with
        img := none, st := if s.cnp.stopDue then 0 else s.cnp.st, stopDue := false }
        { u with hostMem := mwrite 0 s.hostMem (m.addr.toNat + 64) (ct ++ gcmTag (tapKey 46 s) iv (imgAad m.header 0) ct) }))) ∧
    (s.cnp.st ≠ 1 → exec .imageRestore s = .next u) ∧
    (let h := mread 0 s.hostMem s.cnp.imgAddr.toNat 64
     let good := slice h 8 16 = padTo 16 s.fuses.fuseId ∧ fieldLe h 0x20 8 = (gcan s).idBase ∧ fieldLe h 0x28 4 = (gcan s).idCount ∧
       fieldLe h 0x2C 4 = imgChunks s
     let c := mread 0 s.hostMem (s.cnp.imgAddr.toNat + 64) 4112
     let k := tapKey 46 s
     let iv := imgIv (fieldLe h 0x18 8) 0
     s.cnp.st = 1 → s.boot.pf1 = true →
     (¬ good → exec .imageRestore s = .next (emit .fault 0x300F (srcLimb 0) [] (withCnp { s.cnp with imgResult := 0x300F } u))) ∧
     (good → imgChunks s = 1 →
       (k = [] ∨ gcmTag k iv (imgAad h 0) (c.take 4096) ≠ c.drop 4096 →
         exec .imageRestore s = .next (withCnp { s.cnp with badChunks := 1, imgResult := 0, st := 2 } u)) ∧
       (k ≠ [] → gcmTag k iv (imgAad h 0) (c.take 4096) = c.drop 4096 → twf {} s.cnp.ctx = true → ∃ t, exec .imageRestore s = .next t ∧
         t.cnp = { s.cnp with badChunks := 0, imgResult := 0, st := 2, ctx := t.cnp.ctx } ∧
         (∀ j, j < (gcan s).idCount → ctxAt j t = ctxOf (slice (gcmCrypt k iv (c.take 4096)) (64 * j) 64)) ∧
         (∀ j, (gcan s).idCount ≤ j → ctxAt j t = ctxAt j s)))) ∧
    (s.cnp.st ≠ 2 ∨ ownServed s = true ∨ s.cnp.rangeHeld = true → exec .ringStoreBuildDone s = .next u) ∧
    (s.cnp.st = 2 → ownServed s = false → s.cnp.rangeHeld = false → inGrove s = true → s.grv.ceilGot = false → 1 < groveSize s →
      s.now < s.boot.installedAt + (gcan s).imageWait * psS → exec .ringStoreBuildDone s = .next u) ∧
    (s.cnp.st = 2 → ownServed s = false → s.cnp.rangeHeld = false → inGrove s = false → twf {} s.cnp.ctx = true → twf 0 s.kpf.ceilings = true →
      ∃ t, exec .ringStoreBuildDone s = .next t ∧ t.cnp = { s.cnp with st := 3, ctx := t.cnp.ctx } ∧ t.kpf = s.kpf ∧
        (∀ j, (gcan s).idCount ≤ j → ctxAt j t = ctxAt j s) ∧
        (∀ j, j < (gcan s).idCount →
          let c := tget 0 s.kpf.ceilings j
          let x := ctxAt j s
          ctxAt j t = if x.lastFcnt.toNat < c then { x with
              ceiling := BitVec.ofNat 32 c, lastFcnt := BitVec.ofNat 32 c, window := 0xFFFFFFFFFFFFFFFF, flags := x.flags ||| 2 }
            else { x with ceiling := BitVec.ofNat 32 c }))) ∧
  (∀ (i : BitVec 22) (ch : Fin 4) (mac : Bool) s, live s = true →
    let u := { s with out := [] }
    let v := bump (cDram ch (if mac then 2 else 1)) u
    (canopyOn s = false ∨ (s.cnp.tkState = 0 ∧ (gcan s).idCount ≤ i.toNat) → exec (.contextLineLost i ch mac) s = .next u) ∧
    (canopyOn s = true → i.toNat < (gcan s).idCount →
      (ctxLost i.toNat s = true → exec (.contextLineLost i ch mac) s = .next v) ∧
      (ctxLost i.toNat s = false → s.cnp.rebuild.length < 64 →
        exec (.contextLineLost i ch mac) s = .next (withCnp { s.cnp with rebuild := s.cnp.rebuild ++ [i.toNat] } v)) ∧
      (ctxLost i.toNat s = false → 64 ≤ s.cnp.rebuild.length →
        exec (.contextLineLost i ch mac) s = .next (withCnp { s.cnp with rebuildWait := s.cnp.rebuildWait ++ [i.toNat] } v))) ∧
    (s.cnp.rebuild.contains i.toNat = false → exec (.contextRebuildDone i) s = .next u) ∧
    (s.cnp.rebuild.contains i.toNat = true → i.toNat < (gcan s).idCount → NoTurns s → CnpWf s → ∃ t, exec (.contextRebuildDone i) s = .next t ∧
      OnlyCanopy s t ∧ t.cnp.rebuild = s.cnp.rebuild.filter (· != i.toNat) ++ s.cnp.rebuildWait.take 1 ∧
      (∀ j, j ≠ i.toNat → ctxAt j t = ctxAt j s) ∧
      (let c := BitVec.ofNat 32 (tget 0 s.kpf.ceilings i.toNat)
       ctxAt i.toNat t = { lastFcnt := c, ceiling := c, window := 0xFFFFFFFFFFFFFFFF, flags := 2, epoch := 0x8000, st := 4 }) ∧
      lossMore (channelOf (bucketOf (ctxSensor i.toNat s)) s) (lostKey (ctxSensor i.toNat s)) s t)) ∧
  (∀ n (l : Fin 192) s, live s = true → twf {} s.lvs.leaf = true →
    let few := ((tget [] s.lvs.fences (boughOfLeaf l)).filter (fun x => decide (max s.now n ≤ x + psS))).length < 2
    ((leafAt l s).fenced = true → exec (.leafParityError n l) s = .next (atInput n s)) ∧
    (laneStuck l (atInput n s) = false → exec (.laneWatchdogExpiry n l) s = .next (atInput n s)) ∧
    (laneStuck l (atInput n s) = true ↔ (isLane l s = true ∧ leafAlive l s = true ∧ laneOn l s = true ∧ (laneAt l s).ring ≠ [] ∧
      (∀ o ∈ s.cnp.opens, o.mgmt ≠ 0 ∨ o.begun = true ∨ o.leaf ≠ l.val) ∧ (∀ h ∈ s.cnp.held, h.leaf ≠ l.val) ∧
      (laneAt l s).since + 200 * psUs ≤ max s.now n)) ∧
    ((leafAt l s).fenced = false → few → isLane l s = false → (leafAt l s).role = roleIdle ∨ (leafAt l s).role = roleSpare → (disOf (.lane l) s).running = false →
      ∃ t, exec (.leafParityError n l) s = .next t ∧ (leafAt l t).fenced = true ∧ (leafAt l t).tags = [] ∧ (leafAt l t).waiting = none ∧
        (leafAt l t).imem = (leafAt l s).imem ∧ t.cnp.moved = s.cnp.moved) ∧
    (∀ sp, laneStuck l (atInput n s) = true → (leafAt l s).fenced = false → few → (gcan s).laneSpare.getD l 0xFFFF = sp → spareFree sp s = true → sp ≠ l.val →
      (disOf (.lane l) s).running = false → CnpWf s → ∃ t, exec (.laneWatchdogExpiry n l) s = .next t ∧ (leafAt l t).fenced = true ∧
        t.cnp.moveOld = l.val ∧ t.cnp.moveNew = sp ∧ t.cnp.moveRetried = min (laneAt l s).ring.length 0xFFFF ∧
        (∀ b, b < 1024 → laneOf b t = if laneOf b s = l.val then sp else laneOf b s))) ∧
  (∀ n (b : Fin 12) s, live s = true → twf {} s.lvs.leaf = true → twf {} s.nrg.boughs = true →
    (boughAlive b s = false → exec (.boughFence n b) s = .next (atInput n s)) ∧
    (boughAlive b s = true → ∃ t, exec (.boughFence n b) s = .next t ∧ (boughNrg b t).power = .fenced ∧
      ∀ l, boughOfLeaf l = b.val → leafAlive l s = true → (leafAt l t).fenced = true)) ∧
  (∀ n s, live s = true →
    let v := atInput n s
    ((∀ p ∈ s.grv.mirrors, max s.now n < p.first + 10 * psMs) → exec (.buddyAckTimeout n) s = .next v) ∧
    (∀ p ∈ s.grv.mirrors, p.first + 10 * psMs ≤ max s.now n → s.cnp.unmirrored = false → exec (.buddyAckTimeout n) s =
      .next (emit .fault 0x3019 (srcLimb 0) [] (withCnp { s.cnp with unmirrored := true } { v with grv := { s.grv with mirrors := [] } }))) ∧
    (s.grv.tkOrder = none → exec (.takeoverStart n) s = .next v) ∧
    (∀ m, s.grv.tkOrder = some m → canopyOn s = true → inGrove s = true → buddyOf m s = memberNo s → m ≠ memberNo s → s.cnp.tkState = 0 →
      let g := (groveMembers s).getD m {}
      exec (.takeoverStart n) s = .next (withCnp { s.cnp with
        tkMember := m, tkState := 1, tkBase := BitVec.ofNat 64 g.idBase, tkCount := g.idCount }
        { v with grv := { s.grv with tkOrder := none, served := tset 0 s.grv.served m (memberNo s + 1) } })) ∧
    (s.cnp.tkState ≠ 1 → exec (.takeoverBuildDone n) s = .next v) ∧
    (s.cnp.tkState = 1 → twf {} s.cnp.ctx = true → ∃ t, exec (.takeoverBuildDone n) s = .next t ∧ OnlyCanopy s t ∧ t.cnp.tkState = 2 ∧
      (∀ j, j < (gcan s).idCount → ctxAt j t = ctxAt j s) ∧
      (∀ j, j < s.cnp.tkCount →
        let k := (gcan s).idCount + j
        let c := max (tget 0 s.kpf.ceilings k) (tget 0 s.kpf.buddyCeil j)
        ctxAt k t = {
          lastFcnt := BitVec.ofNat 32 c, ceiling := BitVec.ofNat 32 c, window := 0xFFFFFFFFFFFFFFFF, flags := if 0 < c then 2 else 0
          epoch := 0x8000, st := 0 })) ∧
    (s.cnp.tkState ≠ 3 ∨ (handbackQueued s ≠ [] ∧ max s.now n < s.grv.handEdge + psS) → exec (.handbackDrainExpiry n) s = .next v) ∧
    (s.cnp.tkState = 3 → handbackQueued s = [] → ∃ t, exec (.handbackDrainExpiry n) s = .next t ∧
      t.cnp = { s.cnp with
        tkState := 0, tkMember := 0, tkBase := 0, tkCount := 0, ctx := s.cnp.ctx.filter (fun e => decide (e.1 < (gcan s).idCount)) } ∧ t.kpf = s.kpf) ∧
    (s.cnp.rangeHeld = false ∨ s.grv.xferGot = false → exec (.handbackTransferDone n) s = .next v) ∧
    (s.cnp.rangeHeld = true → s.grv.xferGot = true → ∃ t, exec (.handbackTransferDone n) s = .next t ∧ t.cnp.st = 3 ∧ t.cnp.rangeHeld = false ∧
      t.grv = { s.grv with xfer := [], xferGot := false } ∧
      (twf {} s.cnp.ctx = true → twf {} s.grv.xfer = true → ∀ j, ctxAt j t = if j < (gcan s).idCount then tget {} s.grv.xfer j else ctxAt j s))) ∧
  (∀ (m : Fin 64) (w : BitVec 64) s, live s = true →
    let u := { s with out := [] }
    (s.boot.pf1 = false ∨ s.grv.withheld.contains m.val = false → exec (.forceTakeover m) s = .next u) ∧
    (s.boot.pf1 = false → exec (.handbackAtWrite w) s = .next u) ∧
    (s.boot.pf1 = true → s.grv.withheld.contains m.val = true → twf 0 s.grv.served = true → ∃ t, exec (.forceTakeover m) s = .next t ∧
      t.grv.withheld = s.grv.withheld.filter (· != m.val) ∧ tget 0 t.grv.served m = buddyOf m s + 1 ∧ t.cnp = s.cnp ∧
      t.grv.tkOrder = (if buddyOf m s = memberNo s then some m.val else s.grv.tkOrder)) ∧
    (s.boot.pf1 = true → s.grv.back = [] ∨ isCrown s = false ∨ s.grv.handbackAt ≠ 0 ∨ w.toNat ≤ s.slt.slot.toNat →
      exec (.handbackAtWrite w) s = .next (emit .secure 0x1036 srcGrove [] u)) ∧
    (∀ k r, s.boot.pf1 = true → s.grv.back = k :: r → isCrown s = true → s.grv.handbackAt = 0 → s.slt.slot.toNat < w.toNat → portPasses true s = false →
      portPasses false s = false → ∃ t, exec (.handbackAtWrite w) s = .next t ∧
        t.grv = { s.grv with handbackAt := w, handMember := k, seqOut := t.grv.seqOut } ∧ t.cnp = s.cnp))

namespace Sys2Proof

/-! ### The link guard -/

/-- One logical port changed. -/
def withLport (p k : Nat) (x : Lport) (s : State) : State := modLport p k (fun _ => x) s

/-- The tables that hold a logical port are in their form. -/
def LinkWf (p : Nat) (s : State) : Prop :=
  twf {} s.lnk.ports = true ∧ twf {} (portAt p s).lports = true ∧ ∀ k, twf {} (lport p k s).secy.tx = true ∧ twf {} (lport p k s).secy.rx = true

/-- The operations of the MKA program (R334). -/
inductive MkaOp : Instr → Nat → Fin 192 → Fin 8 → BitVec 16 → Prop
  | keys (l t d) : MkaOp (.mkaKeys l t d) 0x48 l t d
  | sakNew (l t d) : MkaOp (.sakNew l t d) 0x49 l t d
  | sakWrap (l t d) : MkaOp (.sakWrap l t d) 0x4A l t d
  | sakUnwrap (l t d) : MkaOp (.sakUnwrap l t d) 0x4B l t d
  | saInstall (l t d) : MkaOp (.saInstall l t d) 0x4C l t d
  | saSelect (l t d) : MkaOp (.saSelect l t d) 0x4D l t d
  | mkpduSend (l t d) : MkaOp (.mkpduSend l t d) 0x4E l t d

/-- The 48-byte request that a leaf names. -/
def mkaB (l : Nat) (desc : BitVec 16) (s : State) : Bytes := mread 0 (leafAt l s).dmem desc.toNat 48

/-- The leaf submits on an idle tag an operation on a SecY that the Grain assigns to it. -/
def MkaGood (l : Fin 192) (tg : Fin 8) (desc : BitVec 16) (s : State) : Prop :=
  live s = true ∧ leafCanIssue l s = true ∧ (sapTag l tg s).req = none ∧ desc.toNat + 48 ≤ 0x10000 ∧ twf {} s.lvs.leaf = true ∧
  twf {} (leafAt l s).tags = true ∧ mkaOwns l (fieldLe (mkaB l desc s) 0 1) s = true

end Sys2Proof

/-- Ports come up and go down, pause and send as stated, and a received frame is forwarded, diverted, dropped or kept for MKA. (R316, R318, R320, R321, R322, R324, R326, R333, R337, R338, R340, R341) -/
def Obligations.LinkPorts : Prop :=
  (∀ n (p : Fin 16) (k : Fin 4) s, live s = true →
    let v := atInput n s
    let x := lport p k s
    (portsOn s = false ∨ s.nrg.laneGroups.getLsbD p = false ∨ x.up = true ∨ lportCount (gport p s).mode ≤ k.val → exec (.linkUp n p k) s = .next v) ∧
    (portsOn s = true → s.nrg.laneGroups.getLsbD p = true → x.up = false → k.val < lportCount (gport p s).mode →
      exec (.linkUp n p k) s = .next (orderLost 0x4001 (srcPort p k) 5 x.lost
        (emit .info 0x4002 (srcPort p k) [] (withLport p k { x with up := true, queue := [], xoff := false, lost := 0 } v)))) ∧
    (x.up = false → exec (.linkDown n p k) s = .next v) ∧
    (x.up = true → exec (.linkDown n p k) s = .next (emit .link 0x4001 (srcPort p k) [] (withLport p k { x with
      up := false, queue := [], pausedUntil := 0, pfc := [], xoff := false, lost := x.lost + x.queue.length } v))) ∧
    (∀ (pfc : Bool) (cl : BitVec 8) q,
      ((gport p s).flow = 1 → pfc = false → exec (.pauseReceive n p k pfc cl q) s = .next (withLport p k { x with
        pausedUntil := max s.now n + q.getD 0 0 * (1280 * lportCount (gport p s).mode) } (bump (cPort p k 6) v))) ∧
      ((gport p s).flow = 0 ∨ ((gport p s).flow = 1 ∧ pfc = true) ∨ ((gport p s).flow = 2 ∧ pfc = false) →
        exec (.pauseReceive n p k pfc cl q) s = .next (bump (cPort p k 6) v)) ∧
      ((gport p s).flow = 2 → pfc = true → LinkWf p s → twf 0 x.pfc = true → ∃ t, exec (.pauseReceive n p k pfc cl q) s = .next t ∧
        (lport p k t).queue = x.queue ∧ (lport p k t).pausedUntil = x.pausedUntil ∧
        ∀ i, i < 8 → tget 0 (lport p k t).pfc i = if cl.getLsbD i = true ∧ bitOf (gport p s).pfcMask i = true then
          max s.now n + q.getD i 0 * (1280 * lportCount (gport p s).mode) else tget 0 x.pfc i)) ∧
    (LinkWf p s → twf 0 x.pfc = true → ∃ t, exec (.pauseQuantaExpiry n p k) s = .next t ∧ (lport p k t).queue = x.queue ∧
      (lport p k t).pausedUntil = (if x.pausedUntil ≤ max s.now n then 0 else x.pausedUntil) ∧
      ∀ i, tget 0 (lport p k t).pfc i = if tget 0 x.pfc i ≤ max s.now n then 0 else tget 0 x.pfc i) ∧
    (x.xoff = false → rxpOn (partner p s) s = true → exec (.pauseRefresh n p k) s = .next v) ∧
    (x.xoff = true ∨ rxpOn (partner p s) s = false → (gport p s).flow = 1 →
      exec (.pauseRefresh n p k) s = .next (bump (cPort (partner p s) k 7) (emitOut (.pause (partner p s) k 256 0xFFFF) v))) ∧
    (x.queue = [] → exec (.egressFrameSent n p k) s = .next v) ∧
    (∀ f rest, x.queue = f :: rest →
      (x.up = false ∨ txpOn p s = false ∨ max s.now n < x.pausedUntil ∨ max s.now n < tget 0 x.pfc f.prio → exec (.egressFrameSent n p k) s = .next v) ∧
      (x.up = true → txpOn p s = true → x.pausedUntil ≤ max s.now n → tget 0 x.pfc f.prio ≤ max s.now n → LinkWf p s → x.xoff = false →
        (rest.map EgFrame.size).sum < xoffAt p s →
        (protectedPort p s = false → exec (.egressFrameSent n p k) s = .next (bumpBy (cPort p k 3) (f.data.length + 4) (bump (cPort p k 2)
          (emitOut (.frame p k (f.data ++ leBytes 4 (crc32 f.data))) (withLport p k { x with queue := rest } v))))) ∧
        (protectedPort p s = true → f.plain = false →
          (x.secy.cur = none → ∃ t, exec (.egressFrameSent n p k) s = .next t ∧ (lport p k t).queue = rest ∧
            (lport p k t).secy = { x.secy with stalled := true } ∧ ∀ b, .frame p.val k.val b ∉ t.out) ∧
          (∀ sc an, x.secy.cur = some (sc, an) →
            let sa := tget {} x.secy.tx (4 * sc + an)
            sa.key ≠ [] → sa.pn < pnEnd (gsecy p k s).suite → sa.pn + 1 ≠ pnThreshold (gsecy p k s).suite →
            let b := macsecProtect (gsecy p k s) an (tget [] x.secy.txSci sc) sa f.data
            ∃ t, exec (.egressFrameSent n p k) s = .next t ∧ (lport p k t).queue = rest ∧ .frame p.val k.val (b ++ leBytes 4 (crc32 b)) ∈ t.out ∧
              tget {} (lport p k t).secy.tx (4 * sc + an) = { sa with pn := sa.pn + 1 }))))) ∧
  (∀ n (p : Fin 16) (k : Fin 4) (w : Bytes) s, live s = true →
    let v := atInput n s
    let x := lport p k s
    let u := bumpBy (cPort p k 1) w.length (bump (cPort p k 0) v)
    let f := w.take (w.length - 4)
    let drops := fun (code : W16) (s : State) => emit .link code (srcPort p k) [] (bump (cPort p k (16 + (code.toNat - 0x4003))) s)
    (x.up = false → exec (.frameReceive n p k w) s = .next v) ∧
    (x.up = true →
      ((if protectedPort p s then 9248 else 9216) < w.length → exec (.frameReceive n p k w) s = .next (drops 0x400E u)) ∧
      (w.length ≤ (if protectedPort p s then 9248 else 9216) → slice w 12 2 ≠ [0x88, 0x08] →
        (rxpOn p s = false → LinkWf p s →
          ((((portAt p s).heldRx.filter (fun e => e.1 == k.val)).map (fun e => e.2.length)).sum + w.length ≤ headroom p s →
            ∃ t, exec (.frameReceive n p k w) s = .next t ∧ (portAt p t).heldRx = (portAt p s).heldRx ++ [(k.val, w)] ∧ t.cnp = s.cnp) ∧
          (headroom p s < (((portAt p s).heldRx.filter (fun e => e.1 == k.val)).map (fun e => e.2.length)).sum + w.length →
            exec (.frameReceive n p k w) s = .next (bump (cPort p k 25) (bump (cPort p k 8) u)))) ∧
        (rxpOn p s = true → s.slp.state ≠ 0 → exec (.frameReceive n p k w) s = .next u) ∧
        (rxpOn p s = true → w.drop (w.length - 4) = leBytes 4 (crc32 f) → s.slp.state = 0 →
          (protectedPort p s = true → slice f 12 2 ≠ [0x88, 0x8E] → slice f 12 2 ≠ [0x88, 0xE5] → (gsecy p k s).validate = 0 →
            exec (.frameReceive n p k w) s = .next (drops 0x4008 (bump (cSecy (4 * p + k) 2) u))) ∧
          (protectedPort p s = true → slice f 12 2 = [0x88, 0x8E] →
            let m := tget {} s.lnk.mka (mkaLeafOf p k s)
            (m.head - m.consumed).toNat < 32 → f.length ≤ 2040 → exec (.frameReceive n p k w) s =
              .next (modMka (mkaLeafOf p k s) (fun m => { m with head := m.head + 1 }) (twigWrite (twigOfLeaf (mkaLeafOf p k s))
                ((gport p s).mkaRing + 2048 * (m.head.toNat % 32))
                (leBytes 1 (4 * p.val + k.val) ++ leBytes 1 k.val ++ leBytes 2 f.length ++ leBytes 4 0 ++ f) u))) ∧
          (protectedPort p s = false →
            (∀ e, sieveOf p k f s = some e →
              (fieldBe e 0 1 = 1 → exec (.frameReceive n p k w) s = .next (withCnp { s.cnp with
                inbound := s.cnp.inbound ++ [entryOf p k (fieldBe e 15 1) (f.drop (etypeOff f + 2 + fieldBe e 14 1))] } (bump (cPort p k 4) u))) ∧
              (fieldBe e 0 1 = 3 → exec (.frameReceive n p k w) s = .next (drops 0x400D u))) ∧
            (sieveOf p k f s = none → ∀ q, partner p s = q → q ≠ p.val → (lport q k s).up = true → (gport q s).fwd ≠ 0 → LinkWf q s →
              (lport q k s).fill + f.length + 4 ≤ queueSize q s → ∃ t, exec (.frameReceive n p k w) s = .next t ∧
                (lport q k t).queue = (lport q k s).queue ++ [{ data := f, prio := framePrio f }] ∧ t.cnp = s.cnp)))))) ∧
  (∀ (l : Fin 192) (v : BitVec 32) s, live s = true →
    (leafCanIssue l s = true → exec (.mkaConsumedWrite l v) s = .next (modMka l (fun m => { m with consumed := v }) { s with out := [] })) ∧
    (leafCanIssue l s = false → exec (.mkaConsumedWrite l v) s = .next { s with out := [] }))

/-- An MKA operation acts only for the leaf that the Grain assigns to the SecY, and puts keys and SAs exactly where it names. (R128, R329, R330, R332, R334, R335, R338) -/
def Obligations.MkaOperations : Prop :=
  (∀ c op (l : Fin 192) (tg : Fin 8) desc s, MkaOp c op l tg desc → live s = true → twf {} s.lvs.leaf = true → twf {} (leafAt l s).tags = true →
    (leafCanIssue l s = false → exec c s = .next { s with out := [] }) ∧
    (leafCanIssue l s = true → (sapTag l tg s).req.isSome = true → exec c s = .next (modLeaf l (fun y => { y with sapReject := true }) { s with out := [] })) ∧
    (leafCanIssue l s = true → (sapTag l tg s).req = none → mkaOwns l (fieldLe (mkaB l desc s) 0 1) s = false ∨ 0x10000 < desc.toNat + 48 →
      ∃ t, exec c s = .next t ∧ (sapTag l tg t).req = some { op := op, code := 0xF000, secure := 0x400A } ∧ t.vault = s.vault ∧ t.lnk = s.lnk)) ∧
  (∀ (l : Fin 192) (tg : Fin 8) (desc : BitVec 16) s, MkaGood l tg desc s →
    let b := mkaB l desc s
    let r := mkaReq b
    let p := r.secy / 4
    let k := r.secy % 4
    let g := gsecy p k s
    let y := (lport p k s).secy
    let who := KeyUser.bough (boughOfLeaf l)
    let takes := fun (c : Instr) (q : SapReq) => ∃ t, exec c s = .next t ∧ (sapTag l tg t).req = some q ∧ t.vault = s.vault ∧ t.lnk = s.lnk
    (r.key < 4096 → keyCheck who 4 [2, 3] r.key s = none → attrDest (vslot r.key s).attr = 1 → 1 ≤ r.len → r.len ≤ 32 → localOk r.src r.len = true →
      newSlotCode r.out1 r.attr1 s = none → r.attr1.getLsbD (boughOfLeaf l) = true → attrUsage r.attr1 = 6 →
      matLen r.attr1 s = (vslot r.key s).mat.length → newSlotCode r.out2 r.attr2 s = none → r.attr2.getLsbD (boughOfLeaf l) = true →
      attrUsage r.attr2 = 2 ∨ attrUsage r.attr2 = 3 → matLen r.attr2 s = (vslot r.key s).mat.length → r.out1 ≠ r.out2 →
      let cak := (vslot r.key s).mat
      let ckn := localRead l r.src r.len s
      takes (.mkaKeys l tg desc) {
        op := 0x48, key := some (r.key, (vslot r.key s).gen)
        toSlots := [(r.out1, r.attr1, mkaKdf cak "IEEE8021 ICK" ckn), (r.out2, r.attr2, mkaKdf cak "IEEE8021 KEK" ckn)] }) ∧
    (sakTargetCode r.out1 g.suite r.attr1 s = none → drbgRequest (limbOfBough (boughOfLeaf l)) false (suiteKeyLen g.suite) { s with out := [] } = none →
      ∃ t, exec (.sakNew l tg desc) s = .next t ∧ t.vault = s.vault ∧ t.lnk = s.lnk ∧ (sapTag l tg t).req =
        some { op := 0x49, toSlots := [(r.out1, r.attr1, [])], draw := some (suiteKeyLen g.suite, s.now) }) ∧
    (∀ key u, sakTargetCode r.out1 g.suite r.attr1 s = none →
      drbgRequest (limbOfBough (boughOfLeaf l)) false (suiteKeyLen g.suite) { s with out := [] } = some (key, u) →
      ∃ t, exec (.sakNew l tg desc) s = .next t ∧ (sapTag l tg t).req = some { op := 0x49, toSlots := [(r.out1, r.attr1, key)] } ∧ t.vault = u.vault ∧
        t.ent = u.ent ∧ t.lnk = s.lnk) ∧
    (r.key < 4096 → keyCheck who 2 [2] r.key s = none → saSlotCode (attrUsage (vslot r.out1 s).attr ≠ 1) r.out1 s = none →
      (vslot r.out1 s).mat.length = suiteKeyLen g.suite → attrExport (vslot r.out1 s).attr = true → r.dst % 128 = 0 →
      r.dst + suiteKeyLen g.suite + 8 ≤ 0x10000 →
      let w := kwWrap (vslot r.key s).mat (vslot r.out1 s).mat
      takes (.sakWrap l tg desc) { op := 0x4A, len := w.length, dst := r.dst, out := w, once := true, key := some (r.key, (vslot r.key s).gen) }) ∧
    (r.key < 4096 → keyCheck who 3 [2] r.key s = none → sakTargetCode r.out1 g.suite r.attr1 s = none → r.len = suiteKeyLen g.suite + 8 →
      localOk r.src r.len = true →
      (∀ m, kwUnwrap (vslot r.key s).mat (localRead l r.src r.len s) = some m →
        takes (.sakUnwrap l tg desc) { op := 0x4B, toSlots := [(r.out1, r.attr1, m)], key := some (r.key, (vslot r.key s).gen) }) ∧
      (kwUnwrap (vslot r.key s).mat (localRead l r.src r.len s) = none →
        takes (.sakUnwrap l tg desc) { op := 0x4B, code := 0xF000, secure := 0x400A, why := 0x5005 })) ∧
    (LinkWf p s →
      let i := 4 * r.sc + r.an
      let h := fieldLe b 4 2
      (r.sel = 1 → r.sc < 4 → r.an ≤ 3 → fieldLe b 6 2 = 0 → allZero (slice b 0x28 8) = true → suiteXpn g.suite = false →
        allZero (slice b 0x18 16) = true → fieldLe b 0x10 8 < pnEnd g.suite → fieldLe b 0x10 8 ≠ 0 →
        saSlotCode true h s = none → (vslot h s).mat.length = suiteKeyLen g.suite → y.cur ≠ some (r.sc, r.an) →
        ∃ t, exec (.saInstall l tg desc) s = .next t ∧ (sapTag l tg t).req = some { op := 0x4C } ∧ t.vault = s.vault ∧
          (lport p k t).secy = { y with
            txSci := tset [] y.txSci r.sc (slice b 8 8)
            tx := tset {} y.tx i {
              slot := h, gen := (vslot h s).gen, key := (vslot h s).mat, pn := fieldLe b 0x10 8
              ssci := BitVec.ofNat 32 (fieldLe b 0x18 4), salt := slice b 0x1C 12 } }) ∧
      (r.sel = 0 → r.sc < 64 → r.an ≤ 3 → fieldLe b 6 2 = 0 → allZero (slice b 0x28 8) = true → suiteXpn g.suite = false →
        allZero (slice b 0x18 16) = true → fieldLe b 0x10 8 < pnEnd g.suite → saSlotCode false h s = none →
        (vslot h s).mat.length = suiteKeyLen g.suite → (tget {} y.rx i).accepted = false →
        ∃ t, exec (.saInstall l tg desc) s = .next t ∧ (sapTag l tg t).req = some { op := 0x4C } ∧ t.vault = s.vault ∧
          (lport p k t).secy = { y with
            rxSci := tset [] y.rxSci r.sc (slice b 8 8)
            rx := tset {} y.rx i {
              slot := h, gen := (vslot h s).gen, key := (vslot h s).mat, lowest := fieldLe b 0x10 8, next := fieldLe b 0x10 8
              ssci := BitVec.ofNat 32 (fieldLe b 0x18 4), salt := slice b 0x1C 12 } }) ∧
      (r.sel = 1 → r.sc < 4 → r.an ≤ 3 → y.cur = some (r.sc, r.an) → (tget {} y.tx i).key ≠ [] → ∃ t, exec (.saInstall l tg desc) s = .next t ∧
        (sapTag l tg t).req = some { op := 0x4C, code := 0xF000, secure := 0x400A } ∧ t.lnk = s.lnk) ∧
      (r.sel = 0 → r.sc < 4 → r.an ≤ 3 → (tget {} y.tx i).key ≠ [] → (tget {} y.tx i).pn < pnThreshold g.suite → ∃ t, exec (.saSelect l tg desc) s = .next t ∧
        (sapTag l tg t).req = some { op := 0x4D } ∧ (lport p k t).secy = { y with cur := some (r.sc, r.an), stalled := false, thresh := false }) ∧
      (r.sel = 1 → r.sc < 64 → r.an ≤ 3 → (tget {} y.rx i).key ≠ [] → ∃ t, exec (.saSelect l tg desc) s = .next t ∧
        (sapTag l tg t).req = some { op := 0x4D } ∧ (lport p k t).secy = { y with rx := tset {} y.rx i { tget {} y.rx i with inUse := true } }) ∧
      (r.sel = 2 → r.sc < 64 → r.an ≤ 3 → (tget {} y.rx i).key ≠ [] → ∃ t, exec (.saSelect l tg desc) s = .next t ∧
        (sapTag l tg t).req = some { op := 0x4D } ∧ (lport p k t).secy = { y with rx := tset {} y.rx i {} }) ∧
      (64 ≤ r.len → r.len ≤ 1518 → 0x100000 ≤ r.src → localOk r.src r.len = true → (lport p k s).up = true →
        (lport p k s).fill + r.len + 4 ≤ queueSize p s →
        let f := localRead l r.src r.len s
        f.length = r.len → ∃ t, exec (.mkpduSend l tg desc) s = .next t ∧ (sapTag l tg t).req = some { op := 0x4E } ∧
          (lport p k t).queue = (lport p k s).queue ++ [{ data := f, plain := true, prio := framePrio f }])))

namespace Sys2Proof

/-! ### SPDM -/

/-- A request outside a session, with its transport, whether another request is being handled, and its bytes. -/
inductive SpdmAsk : Instr → SpdmPort → Bool → Bytes → Prop
  | version (q : SpdmPort) (b : Bool) (m : Bytes) : spdmCode m = 0x84 → SpdmAsk (.spdmGetVersion q b m) q b m
  | caps (q : SpdmPort) (b : Bool) (m : Bytes) : spdmCode m = 0xE1 → SpdmAsk (.spdmGetCapabilities q b m) q b m
  | algs (q : SpdmPort) (b : Bool) (m : Bytes) : spdmCode m = 0xE3 → SpdmAsk (.spdmNegotiateAlgorithms q b m) q b m
  | digests (q : SpdmPort) (b : Bool) (m : Bytes) : spdmCode m = 0x81 → SpdmAsk (.spdmGetDigests q b m) q b m
  | cert (q : SpdmPort) (b : Bool) (m : Bytes) : spdmCode m = 0x82 → SpdmAsk (.spdmGetCertificate q b m) q b m
  | challenge (q : SpdmPort) (b : Bool) (m : Bytes) : spdmCode m = 0x83 → SpdmAsk (.spdmChallenge q b m) q b m
  | meas (q : SpdmPort) (b : Bool) (m : Bytes) : spdmCode m = 0xE0 → SpdmAsk (.spdmGetMeasurements q b m) q b m
  | keyEx (q : SpdmPort) (b : Bool) (m : Bytes) : spdmCode m = 0xE4 → SpdmAsk (.spdmKeyExchange q b m) q b m
  | other (q : SpdmPort) (b : Bool) (m : Bytes) : spdmCode m ∉ [0x81, 0x82, 0x83, 0x84, 0xE0, 0xE1, 0xE3, 0xE4] →
      SpdmAsk (.spdmUnsupportedRequest q b m) q b m

/-- The answer goes out. -/
def replies (a : Bytes) (s : State) : State := { s with out := s.out ++ [.reply a] }

/-- An ERROR answer on a connection. -/
def spdmFails (c : SpdmConn) (code data : Nat) : Bytes := spdmHead (if c.version = 0 then 0x10 else c.version) 0x7F code data

/-- The connection of a transport becomes `c`. -/
def withConn (q : SpdmPort) (c : SpdmConn) (s : State) : State :=
  { s with spdm := { s.spdm with conns := tset {} s.spdm.conns (spdmPort q) c } }

/-- The responder takes a request of a transport that exists. -/
def SpdmServed (q : SpdmPort) (s : State) : Prop := live s = true ∧ spdmLive q s = true ∧ twf {} s.spdm.conns = true

/-- The machine as it takes up a request: the bough of a Burl engine that it needs is to thaw (03 R73). -/
def spdmTaken (m : Bytes) (s : State) : State :=
  let u : State := { s with out := [], ent := { s.ent with hungry := false } }
  if spdmNeedsKeys m then needThaw (attBough s) u else u

/-- The machine as it handles a request: any other request ends a measurement transcript. -/
def spdmTurn (q : SpdmPort) (m : Bytes) (s : State) : State :=
  let u := spdmTaken m s
  if spdmCode m = 0xE0 then u else withConn q { spdmConn (spdmPort q) s with msgL := [] } u

/-- The place of a request in the negotiation. -/
def spdmStage (code : Nat) : Nat := if code = 0xE1 then 1 else if code = 0xE3 then 2 else 3

/-- A request in its turn, on a connection that is due no resynchronisation: the negotiation has come to it, under the connection's
version (GET_CAPABILITIES names one of both). -/
def SpdmInTurn (q : SpdmPort) (m : Bytes) (s : State) : Prop :=
  let c := spdmConn (spdmPort q) s
  SpdmServed q s ∧ c.resync = false ∧ c.state = spdmStage (spdmCode m) ∧
    (if spdmCode m = 0xE1 then fieldLe m 0 1 = 0x12 ∨ fieldLe m 0 1 = 0x13 else fieldLe m 0 1 = c.version)

end Sys2Proof

/-- The responder serves one request at a time, in turn, resynchronises, and refuses what needs keys or that it does not know. (R484, R486, R487, R488, R489, R490) -/
def Obligations.SpdmRequests : Prop :=
  (∀ (c : Instr) (q : SpdmPort) (b : Bool) (m : Bytes) (s : State), SpdmAsk c q b m → live s = true →
    (spdmLive q s = false → exec c s = .next { s with out := [] }) ∧
    (spdmLive q s = true → b = true →
      exec c s = .next (replies (spdmFails (spdmConn (spdmPort q) s) 0x03 0) { s with out := [] })) ∧
    (spdmLive q s = true → b = false → (spdmConn (spdmPort q) s).resync = true → spdmCode m ≠ 0x84 →
      exec c s = .next (replies (spdmFails (spdmConn (spdmPort q) s) 0x43 0)
        (withConn q { spdmConn (spdmPort q) s with resync := false } { s with out := [] })))) ∧
  (∀ (c : Instr) (q : SpdmPort) (m : Bytes) (s : State), SpdmAsk c q false m → SpdmServed q s →
    let x := spdmConn (spdmPort q) s
    let u := spdmTurn q m s
    (spdmCode m ∉ [0x81, 0x82, 0x83, 0x84, 0xE0, 0xE1, 0xE3, 0xE4] → x.resync = false →
      exec c s = .next (replies (spdmFails x 0x07 (spdmCode m)) u)) ∧
    (spdmCode m = 0x84 →
      let a := spdmHead 0x10 0x04 0 0 ++ [0, 2, 0x00, 0x12, 0x00, 0x13]
      exec c s = .next (replies a (withConn q { state := 1, vca := m.take 4 ++ a } { spdmTaken m s with
        spdm := { s.spdm with sessions := s.spdm.sessions.filter (fun y => y.port != spdmPort q) } }))) ∧
    (spdmCode m ∈ [0x81, 0x82, 0x83, 0xE0, 0xE1, 0xE3, 0xE4] → x.resync = false → x.state ≠ spdmStage (spdmCode m) →
      exec c s = .next (replies (spdmFails x 0x04 0) u))) ∧
  (∀ (c : Instr) (q : SpdmPort) (m : Bytes) (s : State), SpdmAsk c q false m → SpdmInTurn q m s →
    let p := spdmPort q
    let x := spdmConn p s
    let u := spdmTurn q m s
    (hasDevid s = false → (spdmCode m ∈ [0x81, 0x82, 0x83, 0xE4] ∨ (spdmCode m = 0xE0 ∧ (spdmP1 m).testBit 0 = true)) →
      exec c s = .next (replies (spdmFails x 0x05 0) u)) ∧
    (spdmCode m = 0x83 ∧ spdmP1 m = 0 ∧ hasDevid s = true ∨ spdmCode m = 0xE0 ∧ (measSelect (spdmP2 m) u).isSome = true ∧
        ((spdmP1 m).testBit 0 = false ∨ hasDevid s = true) → drbgRequest 4 false 32 u = none → s.now < waitsSince s.now s + 10 * psMs →
      exec c s = .next (let k := spdmTaken m s; withEnt { k.ent with waits := s.ent.waits ++ [(.spdm p false m, waitsSince s.now s)] } k)) ∧
    (∀ (l : List Bytes) (n : Bytes) (w : State), spdmCode m = 0xE0 → (spdmP1 m).testBit 0 = false →
      measSelect (spdmP2 m) u = some l → drbgRequest 4 false 32 u = some (n, w) →
      let a := spdmHead x.version 0x60 (if spdmP2 m = 0 then (measBlocks w).length else 0) 0 ++ leBytes 1 l.length
        ++ leBytes 3 l.flatten.length ++ l.flatten ++ n ++ [0, 0] ++ reqContext x.version 4 m
      exec c s = .next (replies a (modConn p (fun y => { y with msgL := x.msgL ++ m ++ a }) w))) ∧
    (spdmCode m = 0xE1 →
      let v := fieldLe m 0 1
      ∃ sizes : Nat,
        let a := spdmHead v 0x61 0 0 ++ [0, 16, 0, 0] ++ leBytes 4 (2 + 4 + 16 + 32 + 64 + 128 + 512 + 2 ^ 18) ++ leBytes 8 sizes
        exec c s = .next (replies a (withConn q { x with version := v, state := 2, msgL := [], vca := x.vca ++ m ++ a } { spdmTaken m s with
          freeCtr := s.freeCtr + 1 }))) ∧
    (spdmCode m = 0xE3 →
      let st := algStructs (spdmP1 m) (m.drop (32 + 4 * (fieldLe m 0x1C 1 + fieldLe m 0x1D 1)))
      let sel := st.flatMap (fun e => leBytes 1 e.1 ++ [0x20]
        ++ leBytes 2 (e.2 &&& (if e.1 = 2 then 0x10 else if e.1 = 3 then 2 else if e.1 = 5 then 1 else 0)))
      let meas := fieldLe m 6 1 &&& 1
      let body := leBytes 1 meas ++ leBytes 1 (fieldLe m 7 1 &&& 2) ++ leBytes 4 (if meas = 0 then 0 else 4)
        ++ leBytes 4 (fieldLe m 8 4 &&& 0x80) ++ leBytes 4 (fieldLe m 0xC 4 &&& 2) ++ List.replicate 16 0 ++ sel
      let a := spdmHead x.version 0x63 st.length 0 ++ leBytes 2 (6 + body.length) ++ body
      exec c s = .next (replies a (withConn q { x with state := 3, msgL := [], vca := x.vca ++ m ++ a } (spdmTaken m s)))) ∧
    (spdmCode m = 0x81 → hasDevid s = true →
      let a := spdmHead x.version 0x01 0 1 ++ sha384 (spdmChain s)
      exec c s = .next (replies a (withConn q { x with msgL := [], msgB := x.msgB ++ m ++ a } (spdmTaken m s)))) ∧
    (spdmCode m = 0x82 → hasDevid s = true →
      let ch := spdmChain s
      let off := fieldLe m 4 2
      let part := slice ch off (fieldLe m 6 2)
      let a := spdmHead x.version 0x02 0 0 ++ leBytes 2 part.length ++ leBytes 2 (ch.length - off - part.length) ++ part
      (spdmP1 m % 16 = 0 → off < ch.length →
        exec c s = .next (replies a (withConn q { x with msgL := [], msgB := x.msgB ++ m ++ a } (spdmTaken m s)))) ∧
      (spdmP1 m % 16 ≠ 0 ∨ ch.length ≤ off → exec c s = .next (replies (spdmFails x 0x01 0) u))))

namespace Sys2Proof

/-- A record of a session, with the request codes inside that are its row's. -/
inductive SpdmSealed : Instr → SpdmPort → Bytes → (Nat → Bool) → Prop
  | finish (q : SpdmPort) (b : Bytes) : SpdmSealed (.spdmFinish q false b) q b (fun c => c == 0xE5)
  | ends (q : SpdmPort) (b : Bytes) : SpdmSealed (.spdmEndSession q false b) q b (fun c => c == 0xEC)
  | other (q : SpdmPort) (b : Bytes) : SpdmSealed (.spdmSecuredMessage q false b) q b (fun c => c != 0xE5 && c != 0xEC)

/-- The session that a record names on its transport. -/
def spdmNamed (q : SpdmPort) (b : Bytes) (s : State) : Option SpdmSession :=
  s.spdm.sessions.find? (fun x => x.port == spdmPort q && x.req == fieldLe b 0 2 && x.rsp == fieldLe b 2 2)

/-- The sessions become `l`. -/
def withSessions (l : List SpdmSession) (s : State) : State := { s with spdm := { s.spdm with sessions := l } }

/-- Every session but those of a number. -/
def sessionsBut (n : Nat) (s : State) : List SpdmSession := s.spdm.sessions.filter (fun y => y.rsp != n)

/-- A record that opens: the machine and the session as they take it. -/
def SpdmOpens (c : Instr) (q : SpdmPort) (b m : Bytes) (x : SpdmSession) (s : State) : Prop :=
  (∃ row, SpdmSealed c q b row ∧ row (spdmCode m) = true) ∧ SpdmServed q s ∧ (spdmConn (spdmPort q) s).resync = false ∧
    spdmNamed q b s = some x ∧ x.cleared = false ∧ spdmOpen (spdmConn (spdmPort q) s).version x b = some m

end Sys2Proof

/-- Signed answers are the Alias key's, KEY_EXCHANGE opens one of 8 sessions, FINISH establishes it, and END_SESSION or a bad record ends it. (R484, R488, R489, R490) -/
def Obligations.SpdmSessions : Prop :=
  (∀ (c : Instr) (q : SpdmPort) (m : Bytes) (s : State), SpdmAsk c q false m → SpdmInTurn q m s → hasDevid s = true →
    let p := spdmPort q
    let x := spdmConn p s
    let u := spdmTurn q m s
    (spdmCode m = 0x83 → spdmP1 m = 0 → ∀ (n : Bytes) (w : State), drbgRequest 4 false 32 u = some (n, w) →
      let h := measSummary (spdmP2 m) w
      let a := spdmHead x.version 0x03 0 1 ++ sha384 (spdmChain w) ++ n ++ h.1 ++ [0, 0] ++ reqContext x.version 36 m
      let g := spdmSign x.version "responder-challenge_auth signing" (x.vca ++ x.msgB ++ m ++ a) h.2
      ∃ t, exec c s = .next t ∧ (g.2.ent.hungry = false → t = replies (a ++ g.1) (modConn p (fun y => { y with msgB := [] }) g.2))) ∧
    (spdmCode m = 0xE0 → (spdmP1 m).testBit 0 = true → ∀ (l : List Bytes) (n : Bytes) (w : State),
      measSelect (spdmP2 m) u = some l → drbgRequest 4 false 32 u = some (n, w) →
      let a := spdmHead x.version 0x60 (if spdmP2 m = 0 then (measBlocks w).length else 0) 0 ++ leBytes 1 l.length
        ++ leBytes 3 l.flatten.length ++ l.flatten ++ n ++ [0, 0] ++ reqContext x.version 37 m
      let g := spdmSign x.version "responder-measurements signing" (x.vca ++ (x.msgL ++ m ++ a)) w
      ∃ t, exec c s = .next t ∧ (g.2.ent.hungry = false → t = replies (a ++ g.1) (modConn p (fun y => { y with msgL := [] }) g.2))) ∧
    (spdmCode m = 0xE4 → 8 ≤ s.spdm.sessions.length → exec c s = .next (replies (spdmFails x 0x0A 0) u)) ∧
    (spdmCode m = 0xE4 → s.spdm.sessions.length < 8 → spdmP2 m = 0 → 138 ≤ m.length →
      onCurve curveP384 (fieldBe m 40 48) (fieldBe m 88 48) = true →
      ∀ (d gx gy zx zy : Nat) (rnd : Bytes) (w v : State), spdmEphemeral 64 u = some (d, w) → drbgRequest 4 false 32 w = some (rnd, v) →
      ecMul curveP384 d curveP384.g = some (gx, gy) → ecMul curveP384 d (some (fieldBe m 40 48, fieldBe m 88 48)) = some (zx, zy) →
      ∃ t y tail, exec c s = .next t ∧ (t.ent.waits = s.ent.waits → t.spdm = { u.spdm with sessions := s.spdm.sessions ++ [y] } ∧
        y.port = p ∧ y.req = fieldLe m 4 2 ∧ (∀ z ∈ s.spdm.sessions, z.rsp ≠ y.rsp) ∧ y.done = false ∧ y.cleared = false ∧
        t.out.getLast? = some (.reply (spdmHead x.version 0x64 0 0 ++ leBytes 2 y.rsp ++ [0, 0] ++ rnd ++ beBytes 48 gx
          ++ beBytes 48 gy ++ tail))))) ∧
  (∀ (c : Instr) (q : SpdmPort) (b : Bytes) (row : Nat → Bool) (s : State), SpdmSealed c q b row → SpdmServed q s → row 0 = true →
    let k := spdmConn (spdmPort q) s
    let u : State := { s with out := [] }
    (k.resync = true → exec c s = .next (replies (spdmFails k 0x43 0) (withConn q { k with resync := false } u))) ∧
    (k.resync = false → spdmNamed q b s = none → exec c s = .next (replies (spdmFails k 0x02 0) u)) ∧
    (∀ x, k.resync = false → spdmNamed q b s = some x → x.cleared = true → exec c s = .next (replies (spdmFails k 0x06 0) u)) ∧
    (∀ x, k.resync = false → spdmNamed q b s = some x → x.cleared = false → spdmOpen k.version x b = none →
      exec c s = .next (replies (spdmFails k 0x06 0) (withSessions (sessionsBut x.rsp s) u)))) ∧
  (∀ (q : SpdmPort) (b : Bytes) (s : State), SpdmServed q s →
    exec (.spdmSecuredMessage q true b) s = .next (replies (spdmFails (spdmConn (spdmPort q) s) 0x03 0) { s with out := [] })) ∧
  (∀ (c : Instr) (q : SpdmPort) (b m : Bytes) (x : SpdmSession) (s : State), SpdmOpens c q b m x s →
    let v := (spdmConn (spdmPort q) s).version
    let y : SpdmSession := { x with reqSeq := x.reqSeq + 1 }
    let u := spdmTaken m s
    let want := hmac384 (spdmExpand v x.reqSecret "finished" [] 48) (sha384 (x.transcript ++ m.take 4))
    let onward := fun (z : SpdmSession) => if z.rsp == x.rsp then
      { z with
        reqSeq := z.reqSeq + 1
        rspSeq := z.rspSeq + 1 } else z
    (spdmCode m = 0xEC →
      exec c s = .next (replies (spdmSeal v y (spdmHead v 0x6C 0 0)) (withSessions (sessionsBut x.rsp s) u))) ∧
    (spdmCode m = 0xE5 → x.done = false → slice m 4 48 = want →
      let a := spdmHead v 0x65 0 0
      let th2 := sha384 (x.transcript ++ m.take 52 ++ a)
      exec c s = .next (replies (spdmSeal v y a) (withSessions (s.spdm.sessions.map (fun z => if z.rsp == x.rsp then
        { z with
          done := true
          reqSecret := spdmExpand v x.master "req app data" th2 48
          rspSecret := spdmExpand v x.master "rsp app data" th2 48
          transcript := []
          reqSeq := 0
          rspSeq := 0 } else z)) u))) ∧
    (spdmCode m = 0xE5 → x.done = false → slice m 4 48 ≠ want →
      exec c s = .next (replies (spdmSeal v y (spdmFails (spdmConn (spdmPort q) s) 0x06 0)) (withSessions (sessionsBut x.rsp s) u))) ∧
    (spdmCode m ≠ 0xE5 → spdmCode m ≠ 0xEC → x.done = false →
      exec c s = .next (replies (spdmSeal v y (spdmFails (spdmConn (spdmPort q) s) 0x04 0)) (withSessions (s.spdm.sessions.map onward) u))) ∧
    (spdmCode m ≠ 0xE5 → spdmCode m ≠ 0xEC → x.done = true →
      let r := spdmAnswer (spdmPort q) true m (withSessions
        (s.spdm.sessions.map (fun z => if z.rsp == x.rsp then { z with reqSeq := z.reqSeq + 1 } else z)) u)
      r.2.ent.hungry = false → exec c s = .next (sessionReply v y r.1 r.2)))

namespace Sys2Proof

/-! ### The grove ring -/

/-- Command `c` is a frame of TYPE `typ` that arrives at `n` on the east or west port; HELLO and SYNC have statements of their own. -/
inductive RingRow : Instr → Nat → Bool → RingFrame → Nat → Prop
  | delayReq (n : Nat) (e : Bool) (f : RingFrame) : RingRow (.ringDelayReq n e f) n e f 3
  | delayResp (n : Nat) (e : Bool) (f : RingFrame) : RingRow (.ringDelayResp n e f) n e f 4
  | heartbeat (n : Nat) (e : Bool) (f : RingFrame) : RingRow (.ringHeartbeat n e f) n e f 5
  | grain (n : Nat) (e : Bool) (f : RingFrame) : RingRow (.ringGrainBlock n e f) n e f 6
  | mirror (n : Nat) (e : Bool) (f : RingFrame) : RingRow (.ringLeaseMirror n e f) n e f 7
  | ack (n : Nat) (e : Bool) (f : RingFrame) : RingRow (.ringLeaseAck n e f) n e f 8
  | forward (n : Nat) (e : Bool) (f : RingFrame) : RingRow (.ringForward n e f) n e f 9
  | control (n : Nat) (e : Bool) (f : RingFrame) : RingRow (.ringControl n e f) n e f 10
  | xfer (n : Nat) (e : Bool) (f : RingFrame) : RingRow (.ringXfer n e f) n e f 11
  | evidenceReq (n : Nat) (e : Bool) (f : RingFrame) : RingRow (.ringEvidenceReq n e f) n e f 12
  | evidence (n : Nat) (e : Bool) (f : RingFrame) : RingRow (.ringEvidence n e f) n e f 13
  | regReq (n : Nat) (e : Bool) (f : RingFrame) : RingRow (.ringRegReq n e f) n e f 14
  | regResp (n : Nat) (e : Bool) (f : RingFrame) : RingRow (.ringRegResp n e f) n e f 15

/-- The GRV block changed. -/
def withGrv (x : Grv) (s : State) : State := { s with grv := x }

/-- A frame has arrived at `n`: counted, and any isolation ended (R497). -/
def heardOn (n : Nat) (e : Bool) (f : RingFrame) (s : State) : State :=
  { bump (cGrove 1) (atInput n s) with grv := { s.grv with
      heard := max s.now n
      isolated := false
      number := if s.grn.installed = false ∧ e = false ∧ f.src = 0 then f.hops.toNat + 1 else s.grv.number } }

/-- The frame goes on out of the opposite port, with HOPS one more, where that port passes frames (R493). -/
def onward (e : Bool) (f : RingFrame) (s : State) : State :=
  if portPasses (!e) s = true then
    bump (cGrove 0) { s with out := s.out ++ [.ring (!e) { f with hops := f.hops + 1 }] }
  else s

/-- A frame of the command's TYPE arrives at a member of a grove on a port that is up and passes it. -/
def RingArrives (c : Instr) (n : Nat) (e : Bool) (f : RingFrame) (s : State) : Prop :=
  RingRow c n e f (ringType f.body) ∧ live s = true ∧ inGrove s = true ∧ portUp e s = true ∧ portPasses e s = true

/-- It is another's frame, for this member or for every member, and no duplicate. -/
def RingTaken (c : Instr) (n : Nat) (e : Bool) (f : RingFrame) (s : State) : Prop :=
  RingArrives c n e f s ∧ f.src.toNat ≠ memberNo s ∧ (f.dst.toNat = memberNo s ∨ f.dst.toNat = 0xFF) ∧ ringDup f s = false

/-- The machine as it takes the frame: heard, sent on where it is for every member, its SEQ noted. -/
def ringIn (n : Nat) (e : Bool) (f : RingFrame) (s : State) : State :=
  let u := heardOn n e f s
  let v := if f.dst.toNat = 0xFF ∧ (groveSize s = 0 ∨ f.hops.toNat + 2 < groveSize s) then onward e f u else u
  withGrv { v.grv with seqIn := tset 0 v.grv.seqIn (ringKey f) ((f.seq.toNat + 1) % 65536 + 1) } v

/-- Number of the next frame of a TYPE to a destination. -/
def nextSeq (dst : Nat) (b : RingBody) (s : State) : Nat := tget 0 s.grv.seqOut (256 * dst + ringType b)

/-- One frame to `dst` has left on the ports `l`, with the next SEQ of its kind; nothing else has changed but the counters. -/
def Sends (dst : Nat) (b : RingBody) (l : List Bool) (s t : State) : Prop :=
  t.out = s.out ++ l.map (fun e => .ring e {
    src := BitVec.ofNat 8 (memberNo s), dst := BitVec.ofNat 8 dst, hops := 0, seq := BitVec.ofNat 16 (nextSeq dst b s), body := b }) ∧
  t = { s with
    out := t.out
    tel := t.tel
    grv := { s.grv with seqOut := tset 0 s.grv.seqOut (256 * dst + ringType b) ((nextSeq dst b s + 1) % 65536) } }

/-- The ports that pass frames, the east one first. -/
def passing (s : State) : List Bool :=
  (if portPasses true s = true then [true] else []) ++ (if portPasses false s = true then [false] else [])

/-- The one port to a member: the shorter way, or the other where that is broken (R493); none where both are. -/
def wayTo (dst : Nat) (s : State) : List Bool :=
  let n := max 1 (groveSize s)
  let w := decide (2 * ((dst + n - memberNo s) % n) ≤ n)
  if portPasses w s = true then [w] else if portPasses (!w) s = true then [!w] else []

/-- One frame to a member goes its way, or none where no way stands. -/
def SendsTo (dst : Nat) (b : RingBody) (s t : State) : Prop := if wayTo dst s = [] then t = s else Sends dst b (wayTo dst s) s t

end Sys2Proof

/-- Ring frames are heard, sent on with HOPS one more, discarded as duplicates or bad, and a wrong neighbour's port passes only HELLO. (R56, R493, R494, R497, R505) -/
def Obligations.RingFrames : Prop :=
  (∀ (c : Instr) (n : Nat) (e : Bool) (f : RingFrame) (typ : Nat) (s : State), RingRow c n e f typ → live s = true →
    portUp e s = false ∨ ringType f.body ≠ typ → exec c s = .next (atInput n s)) ∧
  (∀ (c : Instr) (n : Nat) (e : Bool) (f : RingFrame) (s : State), RingRow c n e f (ringType f.body) → live s = true →
    portUp e s = true → portPasses e s = false → exec c s = .next (heardOn n e f s)) ∧
  (∀ (c : Instr) (n : Nat) (e : Bool) (f : RingFrame) (s : State), RingArrives c n e f s →
    (f.src.toNat = memberNo s → exec c s = .next (heardOn n e f s)) ∧
    (f.src.toNat ≠ memberNo s → f.dst.toNat ≠ memberNo s → f.dst.toNat ≠ 0xFF →
      exec c s = .next (onward e f (heardOn n e f s))) ∧
    (f.src.toNat ≠ memberNo s → f.dst.toNat = memberNo s ∨ f.dst.toNat = 0xFF → ringDup f s = true →
      exec c s = .next (heardOn n e f s))) ∧
  (∀ (n : Nat) (e : Bool) (f : RingFrame) (id : Bytes) (q : BitVec 64) (s : State), live s = true → f.body = .hello id q →
    let was := if e = true then s.grv.misE else s.grv.misW
    let right := padTo 16 (memberRange (expected e s) s).fuseId
    let mis := fun (b : Bool) (g : Grv) => if e = true then { g with misE := b } else { g with misW := b }
    (portUp e s = false ∨ padTo 16 id = padTo 16 s.fuses.fuseId → exec (.ringHello n e f) s = .next (atInput n s)) ∧
    (portUp e s = true → padTo 16 id ≠ padTo 16 s.fuses.fuseId → inGrove s = true → f.hops = 0 → padTo 16 id ≠ right →
      let u := withGrv (mis true (heardOn n e f s).grv) (heardOn n e f s)
      exec (.ringHello n e f) s = .next (if was = true then u else emit .fault 0x1030 srcGrove [] u)) ∧
    (portUp e s = true → padTo 16 id ≠ padTo 16 s.fuses.fuseId → f.hops ≠ 0 → portPasses e s = false →
      exec (.ringHello n e f) s = .next (heardOn n e f s)) ∧
    (portUp e s = true → padTo 16 id ≠ padTo 16 s.fuses.fuseId → inGrove s = true → f.hops = 0 → padTo 16 id = right →
      ∃ t, exec (.ringHello n e f) s = .next t ∧ (if e = true then t.grv.misE else t.grv.misW) = false ∧
        t.grv.heard = max s.now n ∧ t.grv.isolated = false)) ∧
  (∀ (n : Nat) (s : State), live s = true →
    (s.boot.romRunning = false → exec (.helloTimer n) s = .next (atInput n s)) ∧
    (s.boot.romRunning = true → ∃ t, exec (.helloTimer n) s = .next t ∧
      Sends 0xFF (.hello s.fuses.fuseId (BitVec.ofNat 64 (grnInstalledSeq s)))
        ((if s.grv.east = true then [true] else []) ++ (if s.grv.west = true then [false] else [])) (atInput n s) t) ∧
    (inGrove s = false ∨ s.grv.isolated = true ∨ max s.now n < s.grv.heard + 25 * psMs →
      exec (.isolationTimeout n) s = .next (atInput n s)) ∧
    (inGrove s = true → s.grv.isolated = false → s.grv.heard + 25 * psMs ≤ max s.now n →
      exec (.isolationTimeout n) s = .next (emit .fault 0x1033 srcGrove [] (withGrv { s.grv with isolated := true } (atInput n s))))) ∧
  (∀ (n : Nat) (e : Bool) (b : Bytes) (s : State), live s = true →
    exec (.ringFrameBad n e b) s =
      .next (if portUp e s = true ∧ ringGood b = false then bump (cGrove 2) (atInput n s) else atInput n s)) ∧
  (∀ (n : Nat) (e : Bool) (s : State), live s = true →
    let down := if e = true then { s.grv with east := false, misE := false, reqE := none }
      else { s.grv with west := false, misW := false, reqW := none }
    exec (.grovePortUp n e) s =
      .next (withGrv (if e = true then { s.grv with east := true } else { s.grv with west := true }) (atInput n s)) ∧
    exec (.grovePortDown n e) s =
      .next (if onRing s = true ∧ down.east = false ∧ down.west = false ∧ s.slt.ringSt = .locked
        then enterOwn .holdover (withGrv down (atInput n s)) else withGrv down (atInput n s)))

/-- SYNC gives the crown's time with delay added, heartbeats show who lives, and a lost member's range goes to its buddy. (R50, R55, R56, R493, R496, R501, R502, R503, R505) -/
def Obligations.RingTimeAndLoss : Prop :=
  (∀ (n : Nat) (s : State), live s = true →
    let u := atInput n s
    (isCrown s = false → exec (.syncTimer n) s = .next u) ∧
    (isCrown s = true → ∃ t, exec (.syncTimer n) s = .next t ∧
      let x := taiPs u
      Sends 0xFF (.sync (BitVec.ofNat 48 (x / psS)) (BitVec.ofNat 32 (x % psS / 1000)) 0 (Fin.ofNat 3 s.slt.st.num) s.slt.anchored)
        (passing s) u t) ∧
    (inGrove s = false ∨ groveSize s ≤ 1 → exec (.heartbeatTimer n) s = .next u) ∧
    (inGrove s = true → 1 < groveSize s → ∃ t, exec (.heartbeatTimer n) s = .next t ∧
      Sends (if isCrown s = true then 1 else 0) (.heartbeat s.cnp.unmirrored (BitVec.ofNat 64 s.kpf.seq)) (passing s) u t) ∧
    (inGrove s = false → exec (.delayTimer n) s = .next u) ∧
    (inGrove s = true → ∃ v w, exec (.delayTimer n) s = .next w ∧
      (if portPasses true s = true then ∃ v0, Sends (expected true s) .delayReq [true] u v0 ∧
        v = withGrv { v0.grv with reqE := some (max s.now n) } v0 else v = u) ∧
      (if portPasses false s = true then ∃ w0, Sends (expected false s) .delayReq [false] v w0 ∧
        w = withGrv { w0.grv with reqW := some (max s.now n) } w0 else w = v))) ∧
  (∀ (n : Nat) (e : Bool) (f : RingFrame) (res : Nat) (sec : BitVec 48) (ns : BitVec 32) (corr : BitVec 64) (st : Fin 3) (anch : Bool)
    (s : State), live s = true → f.body = .sync sec ns corr st anch → portUp e s = true →
    let u := heardOn n e f s
    let c := corr + BitVec.ofNat 64 (if e = true then s.grv.hopE else s.grv.hopW)
    let v := if groveSize s = 0 ∨ f.hops.toNat + 2 < groveSize s then
      onward e { f with body := .sync sec ns (c + BitVec.ofNat 64 res) st anch } u else u
    let d := match s.grv.syncSeq with | none => 1 | some l => (f.seq.toNat + 65536 - l) % 65536
    (portPasses e s = false ∨ isCrown s = true → exec (.ringSync n e f res) s = .next u) ∧
    (portPasses e s = true → isCrown s = false → 32768 ≤ d ∨ (d = 0 ∧ s.grv.syncHops ≤ f.hops.toNat) →
      exec (.ringSync n e f res) s = .next v) ∧
    (portPasses e s = true → onRing s = true → d < 32768 → (d = 0 → f.hops.toNat < s.grv.syncHops) →
      ∃ t, exec (.ringSync n e f res) s = .next t ∧
        t.grv = { v.grv with
          syncSeq := some f.seq.toNat
          syncHops := f.hops.toNat } ∧
        t.slt.crownState = timeStateOf st.val ∧ t.slt.st = s.slt.ringSt.worse (timeStateOf st.val) ∧ t.slt.slot = s.slt.slot ∧
        (let tai := sec.toNat * psS + ns.toNat * 1000 + c.toNat
         let off := ((taiPs u : Int) - tai) / 1000
         (anch = false → t.slt.offset = s.slt.offset ∧ t.slt.tai = s.slt.tai) ∧
         (anch = true → s.slt.timed = false → t.slt.timed = true ∧ t.slt.tai = tai ∧ t.slt.taiAt = max s.now n) ∧
         (anch = true → s.slt.timed = true → t.slt.offset = satOffset off ∧ t.slt.rate.isSome = true ∧
           (off.natAbs ≤ 10000 → t.slt.slewNs = -off) ∧
           (10000 < off.natAbs → off < 0 → t.slt.stepNs = off.natAbs) ∧
           (10000 < off.natAbs → 0 < off → t.slt.lengthenNs = s.slt.lengthenNs + off.toNat))))) ∧
  (∀ (n : Nat) (e : Bool) (f : RingFrame) (s : State),
    let v := ringIn n e f s
    (RingTaken (.ringDelayReq n e f) n e f s → ∃ t, exec (.ringDelayReq n e f) s = .next t ∧
      Sends f.src.toNat (.delayResp 0) [e] v t) ∧
    (∀ (h r : Nat), RingTaken (.ringDelayResp n e f) n e f s → f.body = .delayResp h →
      (if e = true then s.grv.reqE else s.grv.reqW) = some r →
      let d := (max s.now n - r - h) / 2
      exec (.ringDelayResp n e f) s = .next (withGrv (if e = true then { v.grv with hopE := d, reqE := none }
        else { v.grv with hopW := d, reqW := none }) v)) ∧
    (∀ (un : Bool) (q : BitVec 64), RingTaken (.ringHeartbeat n e f) n e f s → f.body = .heartbeat un q →
      exec (.ringHeartbeat n e f) s = .next (withGrv { v.grv with
        beat := tset 0 s.grv.beat f.src.toNat (max s.now n + 1)
        beatSeq := tset 0 s.grv.beatSeq f.src.toNat q.toNat
        beatUnmirrored := s.grv.beatUnmirrored.filter (· != f.src.toNat) ++ (if un = true then [f.src.toNat] else []) } v)) ∧
    (∀ l, RingTaken (.ringLeaseMirror n e f) n e f s → f.body = .leaseMirror l →
      exec (.ringLeaseMirror n e f) s = .next (if buddyOf f.src.toNat s = memberNo s ∧ s.cnp.tkState = 0 then
        l.foldl (fun t x => journalAct (.buddy f.src.toNat x.1.toNat x.2.toNat) t) v else v)) ∧
    (∀ l, RingTaken (.ringLeaseAck n e f) n e f s → f.body = .leaseAck l →
      let got := l.map (fun y => (y.1.toNat, y.2.toNat))
      let left := s.grv.mirrors.map (fun p => { p with entries := p.entries.filter (fun x => !got.contains x) })
      exec (.ringLeaseAck n e f) s = .next (if f.src.toNat = buddyOf (memberNo s) s then
        withGrv { v.grv with mirrors := left.filter (fun p => !p.entries.isEmpty) } v else v))) ∧
  (∀ (n : Nat) (m : Fin 64) (s : State), live s = true →
    let last := max (tget 0 s.grv.beat m - 1) s.boot.installedAt
    (watches m s = false ∨ s.grv.isolated = true ∨ m.val ∈ s.grv.lost ∨ max s.now n < last + 50 * psMs →
      exec (.memberLossTimeout n m) s = .next (atInput n s)) ∧
    (watches m s = true → s.grv.isolated = false → m.val ∉ s.grv.lost → last + 50 * psMs ≤ max s.now n → s.grv.offer = none →
      let u := withGrv { s.grv with lost := s.grv.lost ++ [m.val] } (atInput n s)
      let b := buddyOf m s
      (m.val ∈ s.grv.beatUnmirrored → exec (.memberLossTimeout n m) s =
        .next (emit .fault 0x1034 srcGrove (d1 m) (withGrv { u.grv with withheld := s.grv.withheld ++ [m.val] } u))) ∧
      (m.val ∉ s.grv.beatUnmirrored → ∃ v w t, exec (.memberLossTimeout n m) s = .next t ∧ v = emit .fault 0x1031 srcGrove (d1 m) u ∧
        (if b = memberNo s then w = withGrv { v.grv with tkOrder := some m.val } v else SendsTo b (.control (.takeover m)) v w) ∧
        Sends 0xFF (.control (.serves m (Fin.ofNat 64 b))) (passing s)
          (withGrv { w.grv with served := tset 0 w.grv.served m (b + 1) } w) t))) ∧
  (∀ (n : Nat) (s : State), live s = true →
    let due := fun (p : MirrorPage) => decide (p.last + 2 * psMs ≤ max s.now n) && decide (p.sent ≤ 4)
    (s.grv.mirrors.filter due = [] → exec (.mirrorResendTimer n) s = .next (atInput n s)) ∧
    (∀ p, s.grv.mirrors.filter due = [p] → wayTo (buddyOf (memberNo s) s) s ≠ [] → ∃ v t, exec (.mirrorResendTimer n) s = .next t ∧
      Sends (buddyOf (memberNo s) s) (.leaseMirror (p.entries.map (fun x => (BitVec.ofNat 22 x.1, BitVec.ofNat 32 x.2))))
        (wayTo (buddyOf (memberNo s) s) s) (atInput n s) v ∧
      t = withGrv { v.grv with mirrors := s.grv.mirrors.map (fun x => if due x = true then
        { x with
          last := max s.now n
          sent := x.sent + 1 } else x) } (bump (cGrove 5) v)))

/-- Members take the crown's Grain block by block, act on CONTROL and XFER, admit forwarded envelopes, and answer relayed accesses. (R108, R310, R311, R312, R495, R499, R500, R502, R503, R504) -/
def Obligations.RingGrainAndRelay : Prop :=
  (∀ (n : Nat) (e : Bool) (f : RingFrame) (d : Bytes) (s : State), RingTaken (.ringGrainBlock n e f) n e f s → f.body = .grainBlock d →
    f.src = 0 → isCrown s = false →
    let v := ringIn n e f s
    let p := s.grn.push
    let i := f.seq.toNat % 256
    let rx := tset [] (if i = 0 then [] else s.grv.rx) i (d.take 256)
    let cnt := if i = 0 then 1 else s.grv.rxCount + 1
    let k := p.nextPost
    (p.isOpen = true → p.source = 3 → i ≠ 255 →
      exec (.ringGrainBlock n e f) s = .next (withGrv { v.grv with rx := rx, rxCount := cnt } v)) ∧
    (p.isOpen = true → p.source = 3 → i = 255 → cnt = 256 → (pushFrame p false k).posted = none → ∃ t,
      exec (.ringGrainBlock n e f) s = .next t ∧
      SendsTo 0 (.control (.blockAck (BitVec.ofNat 12 k))) (withPush { setFrame p false k
        { pushFrame p false k with posted := some (k, (rx.map (·.2)).flatten) } with nextPost := k + 1 }
          (withGrv { v.grv with rx := [], rxCount := 0 } v)) t) ∧
    (p.isOpen = true → p.source = 3 → i = 255 → cnt ≠ 256 → ∃ t, exec (.ringGrainBlock n e f) s = .next t ∧
      SendsTo 0 (.control (.blockAsk (BitVec.ofNat 12 k))) (withGrv { v.grv with rx := [], rxCount := 0 } v) t) ∧
    (p.isOpen = false ∨ p.source ≠ 3 → ∃ t, exec (.ringGrainBlock n e f) s = .next t ∧
      (if i = 255 ∧ s.boot.src = 2 then SendsTo 0 (.control .leave) v t else t = v))) ∧
  (∀ (n : Nat) (e : Bool) (f : RingFrame) (s : State),
    let v := ringIn n e f s
    let me := memberNo s
    (∀ m, RingTaken (.ringControl n e f) n e f s → f.body = .control (.takeover m) → exec (.ringControl n e f) s =
      .next (if buddyOf m s = me then withGrv { v.grv with tkOrder := some m.val } v else v)) ∧
    (∀ m b, RingTaken (.ringControl n e f) n e f s → f.body = .control (.serves m b) → exec (.ringControl n e f) s =
      .next (withGrv { v.grv with served := tset 0 s.grv.served m (if m = b then 0 else b.val + 1) } v)) ∧
    (RingTaken (.ringControl n e f) n e f s → f.body = .control .mirrorReady → exec (.ringControl n e f) s =
      .next (if f.src.toNat = buddyOf me s then withCnp { s.cnp with unmirrored := false } v else v)) ∧
    (∀ m w, RingTaken (.ringControl n e f) n e f s → f.body = .control (.handback m w) → exec (.ringControl n e f) s =
      .next (if f.src = 0 then withGrv { v.grv with handbackAt := w, handMember := m.val } v else v)) ∧
    (∀ base q, RingTaken (.ringControl n e f) n e f s → f.body = .control (.offer base q) → exec (.ringControl n e f) s =
      .next (if f.src = 0 ∧ s.boot.pwrgood = true ∧ s.boot.stopped = false ∧ (s.grn.installed = true ∨ dramUp s = true) ∧ isCrown s = false ∧
          (s.boot.src = 2 ∨ s.grn.installed = true) ∧ (base = 0 ∨ base.toNat = grnInstalledSeq s) ∧ grnInstalledSeq s < q.toNat ∧
          (s.grn.push.isOpen = false ∨ s.grn.push.source = 3) then
        withPush { s.grn.push.emptied with state := 1, iface := false, store := false, source := 3, result := 0 }
          (withGrv { v.grv with rx := [], rxCount := 0 } v)
        else v)) ∧
    (∀ k o, RingTaken (.ringControl n e f) n e f s → f.body = .control (.blockAck k) → s.grv.offer = some o → o.block = k.toNat →
      f.src.toNat ∉ o.acked → (∃ m ∈ o.takers, m ∉ o.acked ∧ m ≠ f.src.toNat) →
      exec (.ringControl n e f) s = .next (withGrv { v.grv with offer := some { o with acked := o.acked ++ [f.src.toNat] } } v)) ∧
    (∀ k, RingTaken (.ringControl n e f) n e f s → f.body = .control (.blockAsk k) →
      exec (.ringControl n e f) s = .next (match s.grv.offer with
        | some o => if o.block = k.toNat then offerSend o v else v
        | none => v)) ∧
    (RingTaken (.ringControl n e f) n e f s → f.body = .control .leave → exec (.ringControl n e f) s = .next (offerDrop f.src.toNat v)) ∧
    (∀ m, RingTaken (.ringControl n e f) n e f s → f.body = .control (.back m) → exec (.ringControl n e f) s =
      .next (if buddyOf me s = m.val ∧ m.val ≠ me then
        ceilSend m.val false (tfilter (fun i => decide (i < (gcan s).idCount)) s.kpf.ceilings) v else v)) ∧
    (RingTaken (.ringControl n e f) n e f s → f.body = .control .ceilAsk →
      let held := (tfilter (fun i => decide ((gcan s).idCount ≤ i)) s.kpf.ceilings).foldl
        (fun t x => tmod 0 t (x.1 - (gcan s).idCount) (max x.2)) s.kpf.buddyCeil
      exec (.ringControl n e f) s = .next (if buddyOf f.src.toNat s = me then ceilSend f.src.toNat true held v else v)) ∧
    (∀ l last, RingTaken (.ringXfer n e f) n e f s → f.body = .xferCeil true l last → exec (.ringXfer n e f) s =
      .next (if f.src.toNat = buddyOf me s then withGrv { v.grv with
          ceil := l.foldl (fun t x => tmod 0 t x.1.toNat (max x.2.toNat)) s.grv.ceil
          ceilGot := s.grv.ceilGot || last } v else v)) ∧
    (∀ l last, RingTaken (.ringXfer n e f) n e f s → f.body = .xferCeil false l last →
      let put := l.foldl (fun t x => tmod 0 t x.1.toNat (max x.2.toNat)) s.kpf.buddyCeil
      exec (.ringXfer n e f) s = .next (if buddyOf f.src.toNat s ≠ me then v
        else if last = true then
          ckptStart (withGrv { v.grv with fill := some (journalSeq s) } (withKpf { s.kpf with buddyCeil := put, ckpt := none } v))
        else withKpf { s.kpf with buddyCeil := put } v)) ∧
    (∀ l last, RingTaken (.ringXfer n e f) n e f s → f.body = .xferCtx l last → exec (.ringXfer n e f) s =
      .next (if s.cnp.rangeHeld = true then withGrv { v.grv with
          xfer := l.foldl (fun t x => tset {} t x.1.toNat (ctxOf x.2)) s.grv.xfer
          xferGot := s.grv.xferGot || last } v else v)) ∧
    (∀ limb env, RingTaken (.ringForward n e f) n e f s → f.body = .forward limb env →
      (canopyOn s = false → exec (.ringForward n e f) s = .next v) ∧
      (canopyOn s = true → ∃ (port : Fin 4) (k : Fin 4) (tmpl : Fin 256), exec (.ringForward n e f) s =
        .next (intakeArrive (entryOf (4 * limb.val + port.val) k tmpl env) (bump (cLimb limb.val 5) { v with freeCtr := s.freeCtr + 1 })))) ∧
    (∀ a wide w, RingTaken (.ringRegReq n e f) n e f s → f.body = .regReq a wide w →
      let r := asPf1 (relayAccess n a.toNat wide w) 0 v
      ∃ t, exec (.ringRegReq n e f) s = .next t ∧ SendsTo f.src.toNat (.regResp r.1) r.2 t) ∧
    (∀ w r rest before, RingTaken (.ringRegResp n e f) n e f s → f.body = .regResp w → s.grv.relays = before ++ r :: rest →
      (∀ x ∈ before, x.member ≠ f.src.toNat) → r.member = f.src.toNat →
      exec (.ringRegResp n e f) s = .next { withGrv { v.grv with relays := before ++ rest } v with
        out := v.out ++ (if r.write = true then [] else [.value w]) })) ∧
  (∀ (n : Nat) (off : BitVec 16) (wide : Bool) (w : Option (BitVec 64)) (s : State), live s = true →
    let u := atInput n s
    let m := s.grv.relaySel.toNat / 2 ^ 26
    let a := BitVec.ofNat 32 (s.grv.relaySel.toNat % 65536 * 65536 + off.toNat)
    let late := fun (r : Relay) => decide (r.since + 100 * psUs ≤ max s.now n)
    (s.boot.pf1 = false → exec (.grvRelayAccess n off wide w) s = .next { s with out := [] }) ∧
    (s.boot.pf1 = true → isCrown s = false → exec (.grvRelayAccess n off wide w) s = .next { u with out := if w = none then [.value 0] else [] }) ∧
    (s.boot.pf1 = true → isCrown s = true → ∃ t, exec (.grvRelayAccess n off wide w) s =
        .next (withGrv { t.grv with relays := s.grv.relays ++ [{ member := m, since := max s.now n, write := w.isSome }] } t) ∧
      SendsTo m (.regReq a wide w) u t) ∧
    (s.grv.relays.filter late = [] → exec (.relayTimeout n) s = .next u) ∧
    (s.grv.relays.filter late ≠ [] →
      let v := withGrv { s.grv with
        relays := s.grv.relays.filter (fun x => !late x)
        relayTimeout := true } u
      exec (.relayTimeout n) s = .next { (s.grv.relays.filter late).foldl (fun t _ => bump (cGrove 3) t) v with
        out := ((s.grv.relays.filter late).filter (fun r => !r.write)).map (fun _ => .value 0) }))

namespace Sys2Proof

/-! ### Evidence -/

/-- The ATT block changed. -/
def withAtt (x : Att) (s : State) : State := { s with att := x }

/-- The fixed part of a member report (R491). -/
def reportHead (chain : Bool) (nonce blocks certs : Bytes) (s : State) : Bytes :=
  ascii "ATR1" ++ leBytes 2 1 ++ leBytes 1 (memberNo s)
    ++ leBytes 1 ((if hasDevid s = true then 0 else 1) + 2 * (if chain = true ∧ hasDevid s = true then 1 else 0))
    ++ padTo 16 s.fuses.fuseId ++ padTo 32 nonce ++ leBytes 8 s.slt.slot.toNat ++ leBytes 4 blocks.length ++ leBytes 4 certs.length

/-- From `s` to `t` a report has begun: for the whole grove only on the crown, whose other members are awaited from now on; the bough that signs
has C0 work. Its own part is built at once, or waits for randomness; without keys it needs none. -/
def ReportBegins (grove chain periodic : Bool) (nonce : Bytes) (addr : Nat) (s t : State) : Prop :=
  let g := grove && isCrown s
  let me := if g = true then memberNo s else 0
  let blocks := (measBlocks s).flatMap (·.2)
  let certs := if chain = true ∧ hasDevid s = true then (attCerts s).1 ++ (attCerts s).2 else []
  ∃ j, t.att.job = some j ∧ t.att.ready = false ∧ j.grove = g ∧ j.chain = chain ∧ j.periodic = periodic ∧ j.addr = addr ∧ j.bough = attBough s ∧
    j.wait = (if g = true then (List.range (groveSize s)).filter (· != memberNo s) else []) ∧ j.since = s.now ∧
    (periodic = false → j.nonce = nonce) ∧
    (j.built = false → t.ent.waits = s.ent.waits ++ [(.report, waitsSince s.now s)]) ∧
    (periodic = false → hasDevid s = false → j.built = true) ∧
    (j.built = true → j.got = [me] ∧ j.keyless = !(hasDevid s) ∧
      ∃ tail, tget [] j.parts me = reportHead chain j.nonce blocks certs s ++ blocks ++ certs ++ tail ∧ (hasDevid s = false → tail = []))

end Sys2Proof

/-- A report is built of head, blocks and certificates, refused when one is running or the buffer is small, and written once all answered. (R67, R484, R486, R491, R492, R505) -/
def Obligations.EvidenceReports : Prop :=
  (∀ (n : Nat) (grove chain : Bool) (s : State), live s = true →
    let u := atInput n s
    let a : Att := { s.att with grove := grove, chain := chain }
    let need := 64 + 24576 * (if (grove && isCrown s) = true then max 1 (groveSize s) else 1)
    (s.boot.pf1 = false → exec (.attGo n grove chain) s = .next { s with out := [] }) ∧
    (s.boot.pf1 = true → s.att.job ≠ none → exec (.attGo n grove chain) s = .next (emit .info 0x5040 (srcTree 0) [] (withAtt { a with result := 0x5040 } u))) ∧
    (s.boot.pf1 = true → s.att.job = none → s.att.len.toNat < need →
      exec (.attGo n grove chain) s = .next (emit .info 0x5043 (srcTree 0) [] (withAtt { a with result := 0x5043 } u))) ∧
    (s.boot.pf1 = true → s.att.job = none → need ≤ s.att.len.toNat → max s.now n < waitsSince (max s.now n) s + 10 * psMs →
      ∃ t, exec (.attGo n grove chain) s = .next t ∧ ReportBegins grove chain false ((List.range 8).flatMap (fun i => leBytes 4 (tget 0 s.att.nonce i).toNat)) s.att.addr.toNat u t)) ∧
  (∀ (n : Nat) (s : State), live s = true →
    let u := atInput n s
    let a := s.att
    let now := s.slt.slot.toNat
    let need := 64 + 24576 * (if (a.grove && isCrown s) = true then max 1 (groveSize s) else 1)
    let due := a.period ≠ 0 ∧ a.lastSlot + a.period.toNat ≤ now
    let job : Job := {
      id := s.nrg.nextJob, kind := 4, c2 := (workEntry s 4).cls == 2, bough := some (attBough s), eUj := (workEntry s 4).eUj, act := .attest }
    (¬ due → exec (.attPeriodExpiry n) s = .next (admitNow u)) ∧
    (s.nrg.jobs = [] → s.nrg.admitted = [] →
      (¬ due → exec (.attPeriodExpiry n) s = .next u) ∧
      (due → admits job u = false → ∃ t, exec (.attPeriodExpiry n) s = .next t ∧ t.att = { a with lastSlot := now } ∧ t.nrg.admitted = [] ∧
        t.nrg.jobs = (if job.c2 = true then [] else [job])) ∧
      (due → admits job u = true → a.job ≠ none → ∃ t, exec (.attPeriodExpiry n) s = .next t ∧ t.att = { a with lastSlot := now } ∧
        t.nrg.admitted = [job]) ∧
      (due → admits job u = true → a.job = none → a.len.toNat < need → ∃ t, exec (.attPeriodExpiry n) s = .next t ∧
        t.att = { a with result := 0x5043, lastSlot := now } ∧ t.nrg.admitted = [] ∧ t.hostMem = s.hostMem) ∧
      (due → admits job u = true → a.job = none → need ≤ a.len.toNat → max s.now n < waitsSince (max s.now n) s + 10 * psMs →
        ∃ t, exec (.attPeriodExpiry n) s = .next t ∧ t.att.half = !a.half ∧ t.att.lastSlot = now ∧
          t.nrg.admitted = [{ job with begun := true }] ∧
          ReportBegins a.grove a.chain true [] (a.addr.toNat + (if a.half = true then a.len.toNat / 2 else 0)) u t)) ∧
    (a.job = none → exec (.evidenceTimeout n) s = .next u ∧ exec (.reportDone n) s = .next u) ∧
    (∀ j, a.job = some j →
      exec (.evidenceTimeout n) s =
        .next (if j.since + 100 * psMs ≤ max s.now n then withAtt { a with job := some { j with wait := [] } } u else u) ∧
      (j.wait ≠ [] ∨ j.built = false ∨ (boughNrg j.bough s).power = .frozen → exec (.reportDone n) s = .next u) ∧
      (j.wait = [] → j.built = true → (boughNrg j.bough s).power ≠ .frozen → s.nrg.admitted = [] →
        let got := (List.range (groveSize s)).filter (fun m => j.got.contains m)
        let missing := ((List.range (groveSize s)).filter (fun m => !j.got.contains m)).foldl (fun y m => y + 2 ^ m) 0
        let head := ascii "GRR1" ++ leBytes 2 1 ++ leBytes 1 (groveSize s) ++ leBytes 1 got.length ++ padTo 32 j.nonce ++ leBytes 8 missing
        let b := if j.grove = true then padTo 64 head
            ++ got.flatMap (fun m => padTo (((tget [] j.parts m).length + 7) / 8 * 8) (tget [] j.parts m))
          else tget [] j.parts 0
        let t : State := { withAtt { a with
            job := none
            ready := true
            present := if j.grove = true then j.got.length else a.present
            result := if j.keyless = true then 0x5041 else 0 } (c0End j.bough u) with hostMem := mwrite 0 s.hostMem j.addr b }
        exec (.reportDone n) s = .next (if j.keyless = true then emit .secure 0x5041 (srcTree 0) [] t else t)))) ∧
  (∀ (n : Nat) (e : Bool) (f : RingFrame) (s : State),
    let v := ringIn n e f s
    (∀ x c, RingTaken (.ringEvidenceReq n e f) n e f s → f.body = .evidenceReq x c →
      let w := calm (needThaw (attBough v) v)
      let r := memberReport x c w
      (r.2.ent.hungry = false → exec (.ringEvidenceReq n e f) s = .next (calm (evidenceSend f.src.toNat (chunks 256 r.1.1) r.2))) ∧
      (hasDevid s = false → r.2 = w) ∧
      (r.2.ent.hungry = true → max s.now n < waitsSince (max s.now n) s + 10 * psMs → exec (.ringEvidenceReq n e f) s =
        .next (withEnt { w.ent with waits := s.ent.waits ++ [(.evidence f.src.toNat x c, waitsSince (max s.now n) s)] } w))) ∧
    (∀ d last, RingTaken (.ringEvidence n e f) n e f s → f.body = .evidence d last →
      (s.att.job = none → exec (.ringEvidence n e f) s = .next v) ∧
      (∀ j, s.att.job = some j →
        let m := f.src.toNat
        let p := tset [] j.parts m (tget [] j.parts m ++ d)
        exec (.ringEvidence n e f) s = .next (if m ∉ j.wait then v
          else if last = true then withAtt { s.att with job := some { j with
            parts := p
            got := j.got ++ [m]
            wait := j.wait.filter (· != m) } } v
          else withAtt { s.att with job := some { j with parts := p } } v))))

namespace Sys2Proof

/-! ### Registers, temperature and the mission log -/

/-- `c` is a write of a plain RW register of BAR2 by PF1 that has the effect `f`. -/
inductive PlainWrite : Instr → (State → State) → Prop
  | reportAddr (n : Nat) (v : BitVec 64) : PlainWrite (.registerWrite n true 0x48008 true v)
      (fun s => withAtt { s.att with addr := v } (atInput n s))
  | reportLen (n : Nat) (v : BitVec 64) : PlainWrite (.registerWrite n true 0x48010 false v)
      (fun s => withAtt { s.att with len := v.setWidth 32 } (atInput n s))
  | period (n : Nat) (v : BitVec 64) : PlainWrite (.registerWrite n true 0x48014 false v)
      (fun s => withAtt { s.att with period := v.setWidth 32 } (atInput n s))
  | nonce (n : Nat) (i : Fin 8) (v : BitVec 64) : PlainWrite (.registerWrite n true (BitVec.ofNat 32 (0x48020 + 4 * i.val)) false v)
      (fun s => withAtt { s.att with nonce := tset 0 s.att.nonce i (v.setWidth 32) } (atInput n s))
  | relaySel (n : Nat) (v : BitVec 64) : PlainWrite (.registerWrite n true 0x60028 false v)
      (fun s => withGrv { s.grv with relaySel := v.setWidth 32 &&& 0xFC00FFFF } (atInput n s))
  | keyArg (n : Nat) (v : BitVec 64) : PlainWrite (.registerWrite n true 0x20008 true v)
      (fun s => withVault { s.vault with arg := v } (atInput n s))
  | keyWrap (n : Nat) (v : BitVec 64) : PlainWrite (.registerWrite n true 0x20014 false v)
      (fun s => withVault { s.vault with wrap := v.setWidth 12 } (atInput n s))

/-- `c` is a write of a W1C bit: cleared by 1, kept by 0 (R7). -/
inductive ClearWrite : Instr → (State → State) → Prop
  | steppedBar0 (n : Nat) (v : BitVec 64) : ClearWrite (.registerWrite n false 0x1008 false v)
      (fun s => withSlt { s.slt with stepped := s.slt.stepped && !v.getLsbD 4 } (atInput n s))
  | relayTimeout (n : Nat) (v : BitVec 64) : ClearWrite (.registerWrite n true 0x60000 false v)
      (fun s => withGrv { s.grv with relayTimeout := s.grv.relayTimeout && !v.getLsbD 7 } (atInput n s))
  | stepped (n : Nat) (v : BitVec 64) : ClearWrite (.registerWrite n true 0x49008 false v)
      (fun s => withSlt { s.slt with stepped := s.slt.stepped && !v.getLsbD 4 } (atInput n s))
  | nrgStat (n : Nat) (v : BitVec 64) : ClearWrite (.registerWrite n true 0x4A000 false v)
      (fun s => withNrg { s.nrg with
        offAccess := s.nrg.offAccess && !v.getLsbD 6
        c1Overdue := s.nrg.c1Overdue && !v.getLsbD 5
        overBudget := s.nrg.overBudget && !v.getLsbD 4 } (atInput n s))

/-- An address of BAR2 with no row in the table of R13, or of a register that is RO: 0x04_B000 to 0x05_FFFF, GRV_PRESENT, GRV_LOST,
ATT_STAT. -/
def NoWrite (a : BitVec 32) (wide : Bool) : Prop :=
  (0x4B000 ≤ a.toNat ∧ a.toNat < 0x5FFF8) ∨ (wide = false ∧ a ∈ [0x60008, 0x6000C, 0x60010, 0x60014, 0x48004])

/-- The mission log's record of an hour (R546): its bytes before the CRC. -/
def hourBytes (hour gap : Nat) (tjMax tjMean : BitVec 8) (m : BitVec 32) (joule life : Nat) : Bytes :=
  leBytes 4 hour ++ leBytes 4 gap ++ [tjMax, tjMean] ++ leBytes 4 m.toNat ++ leBytes 2 0 ++ leBytes 4 joule ++ leBytes 4 life ++ leBytes 4 0

end Sys2Proof

/-- Register writes reach RW and W1C bits only, an unlisted OP starts nothing, and each hour of an ESG-6416-XV is logged. (R7, R9, R13, R99, R543, R545, R546, R547, R553) -/
def Obligations.RegisterWritesAndLog : Prop :=
  (∀ (n : Nat) (a : BitVec 32) (wide : Bool) (v : BitVec 64) (s : State), live s = true →
    (s.boot.pf1 = false ∨ NoWrite a wide → exec (.registerWrite n true a wide v) s = .next (atInput n s)) ∧
    (s.grn.installed = false → 0x3000 ≤ a.toNat → a.toNat + 8 ≤ 0x1000000 →
      exec (.registerWrite n false a wide v) s = .next (atInput n s))) ∧
  (∀ (c : Instr) (f : State → State) (s : State), PlainWrite c f → live s = true → s.boot.pf1 = true → exec c s = .next (f s)) ∧
  (∀ (v : BitVec 64) (s : State), twf 0 s.att.nonce = true →
    (bar2Read 0x48008 true (withAtt { s.att with addr := v } s)).1 = v ∧
    (bar2Read 0x48010 false (withAtt { s.att with len := v.setWidth 32 } s)).1 = (v.setWidth 32).setWidth 64 ∧
    (∀ i : Fin 8, (bar2Read (0x48020 + 4 * i.val) false (withAtt { s.att with nonce := tset 0 s.att.nonce i (v.setWidth 32) } s)).1 =
      (v.setWidth 32).setWidth 64) ∧
    (bar2Read 0x60028 false (withGrv { s.grv with relaySel := v.setWidth 32 &&& 0xFC00FFFF } s)).1 = v &&& 0xFC00FFFF) ∧
  (∀ (c : Instr) (f : State → State) (s : State), ClearWrite c f → live s = true → s.boot.pf1 = true → exec c s = .next (f s)) ∧
  (∀ (n : Nat) (r : CmdReg) (v : BitVec 32) (s : State),
    exec (.undefinedOpWrite n r v) s = .next { s with out := [] }) ∧
  (∀ (limbs : BitVec 32) (tap : BitVec 8) (s : State), live s = true →
    exec (.tempSample limbs tap) s = .next { s with
      out := []
      env := { s.env with temp := BitVec.ofNat 64 (tap.toNat * 2 ^ 32 + limbs.toNat) } }) ∧
  (∀ (n : Nat) (hi mean : BitVec 8) (m : BitVec 32) (s : State), live s = true →
    let b := fun i => m.toNat / 256 ^ i % 256
    let life := (b 0 + 3 * b 1 + 15 * b 2 + 15 * b 3) * 1000 / 60
    let e : Env := { s.env with lifeMilli := s.env.lifeMilli + life }
    (s.fuses.xv = false → exec (.missionLogHour n hi mean m) s = .next (atInput n s)) ∧
    (s.fuses.xv = true → s.env.full = true ∨ s.boot.lcs = .seed ∨ s.boot.lcs = .sapling →
      exec (.missionLogHour n hi mean m) s = .next { atInput n s with env := e }) ∧
    (s.fuses.xv = true → s.env.full = false → s.boot.lcs ≠ .seed → s.boot.lcs ≠ .sapling →
      ∃ gap t, exec (.missionLogHour n hi mean m) s = .next t ∧
      (s.slt.anchored = false → gap = 0xFFFFFFFF) ∧ (s.slt.anchored = true → s.env.logged = true → gap = s.env.lost) ∧
      (s.env.logged = false → gap < 2 ^ 32) ∧
      let hour := s.env.hour + 1 + (if gap = 0xFFFFFFFF then 0 else gap)
      let r := hourBytes hour gap hi mean m ((s.nrg.total - s.env.energyAt).toNat / 1000000) life
      let page := s.env.page ++ [r ++ leBytes 4 (crc32c r)]
      t.env.hour = hour ∧ t.env.lifeMilli = e.lifeMilli ∧ t.env.energyAt = s.nrg.total ∧ t.env.logged = true ∧
      (page.length < 8 → t.env.page = page ∧ t.env.lost = 0 ∧ t.kpf = s.kpf ∧ t.nrg = s.nrg) ∧
      (8 ≤ page.length → t.env.page = [] ∧
        (journalShut s = false → t.kpf = { s.kpf with logDue := s.kpf.logDue ++ [page.flatten] } ∧ ∃ job : Job, job.act = .log ∧ job.kind = 3 ∧
          job.c2 = false ∧ t.nrg = { s.nrg with jobs := s.nrg.jobs ++ [job], nextJob := s.nrg.nextJob + 1 }) ∧
        (journalShut s = true → t.env.lost = 8 ∧ t.kpf.logDue = s.kpf.logDue ∧ t.nrg = s.nrg))))

namespace Sys2Proof

/-! ### A device without main power -/

/-- Main power is off: every unit of the CORE, HOST and BOUGH domains stands at its reset value, so that no key, generator state, Grain,
session or connection remains, no leaf is released, no domain is out of reset and no page is being written. -/
def PowerOff (s : State) : Prop :=
  s.boot.pwrgood = false ∧ s.boot.romRunning = false ∧ s.boot.hostUp = false ∧ s.boot.pf1 = false ∧ s.vault = {} ∧ s.ent = {} ∧
  s.chk = [] ∧ s.grn = {} ∧ s.slt = {} ∧ s.brl = {} ∧ s.lvs = {} ∧ s.hlw = {} ∧ s.lnk = {} ∧ s.cus = {} ∧ s.grv = {} ∧ s.att = {} ∧
  s.spdm = {} ∧ s.dis = [] ∧ s.env = {} ∧ s.nrg.flush = .idle ∧ s.slp.state = 0 ∧ s.kpf.pages = [] ∧ s.kpf.acts = []

end Sys2Proof

/-- Every step of an unpowered device but PWRGOOD_RISE keeps it reset, whatever command comes. For every state in which main power is off and every unit outside the standby domain is at reset, and every command at the front of the queue but PWRGOOD_RISE: a step that answers a next state leaves such a state again. So no command, secure or not, brings a key, a session, a released leaf or a domain out of reset into being while PWRGOOD is low; only the standby domain, the supplies' balls, the host's memory and the time may change. (R10, R82, R434, R474, R527, R528) -/
def Obligations.UnpoweredKept : Prop :=
  ∀ (s t : State), PowerOff s → (∀ n rails i q, s.pending ≠ .pwrgoodRise n rails i :: q) → step s = .next t → PowerOff t

/-- After reset the device is unpowered, its queue is empty, and registers show the Reset values of their tables. State.reset is a state without main power with an empty queue, no standby keys, no alarm record and no latched tamper source; memory of the host lists nothing. Read through BAR2, SLT_STAT shows ADRIFT with QUALITY 0xFF, SLT_MARK_LAST all ones, NRG_RESERVE N_MAX 1, CUS_00_CTRL, CNP_LANE_000_CTRL and LNK_P00_RXP_CTRL and TXP_CTRL EN 1, CNP_LANE_MOVE 0xFFFF_0000, BRL_CURVES 0x0007, TMP_STIM_CMD 0xFFFF and TEL_QUOTA_A and B their quotas, as the registers' tables give them. (R10, R13, R25, R51, R60, R76, R414, R475, R515) -/
def Obligations.ResetState : Prop :=
  PowerOff State.reset ∧ State.reset.pending = [] ∧ State.reset.hostMem = [] ∧ State.reset.slp.standby.valid = false ∧
  State.reset.tel.alarm = [] ∧ State.reset.tmp.latch = 0 ∧ State.reset.boot.vstby = false ∧
  (bar2Read 0x49008 false State.reset).1 = 0x000FF002 ∧ (bar2Read 0x49038 true State.reset).1 = 0xFFFFFFFFFFFFFFFF ∧
  (bar2Read 0x4A030 false State.reset).1 = 1 ∧ (bar2Read 0x100100 false State.reset).1 = 1 ∧
  (bar2Read 0x43000 false State.reset).1 = 1 ∧ (bar2Read 0x44110 false State.reset).1 = 1 ∧
  (bar2Read 0x44118 false State.reset).1 = 1 ∧ (bar2Read 0x42118 false State.reset).1 = 0xFFFF0000 ∧
  (bar2Read 0x46000 false State.reset).1 = 7 ∧ (bar2Read 0x38018 false State.reset).1 = 0xFFFF ∧
  (bar2Read 0x200020 true State.reset).1 = 0x0000040010001000 ∧ (bar2Read 0x200028 true State.reset).1 = 0x0000100040004000
end

