-- ==== Sys2Proof/Laws/Table.lean ====
section
/-!
SUPPORT. Laws/Table.lean: the laws of the sparse tables: reading after a write, the canonical form kept, and the same for byte
memories read and written as strings.
-/
namespace Sys2Proof.Machine

variable {α : Type} [DecidableEq α]

/-- The bound below which a canonical table lists no key. -/
def aboveLo : Option Nat → Nat → Bool
  | none, _ => true
  | some l, k => decide (l < k)

theorem twfFrom_cons (d : α) (lo : Option Nat) (k : Nat) (v : α) (t : Tab α) :
    twfFrom d lo ((k, v) :: t) = true ↔ aboveLo lo k = true ∧ v ≠ d ∧ twfFrom d (some k) t = true := by
  cases lo <;> simp [twfFrom, aboveLo, and_assoc]

theorem twfFrom_weaken (d : α) : ∀ (t : Tab α) (lo lo' : Option Nat), (∀ k, aboveLo lo k = true → aboveLo lo' k = true) →
    twfFrom d lo t = true → twfFrom d lo' t = true
  | [], _, _, _, _ => rfl
  | (k, v) :: t, lo, lo', h, hw => by
    rw [twfFrom_cons] at hw ⊢
    exact ⟨h _ hw.1, hw.2⟩

theorem tget_below (d : α) : ∀ (t : Tab α) (l k : Nat), k ≤ l → twfFrom d (some l) t = true → tget d t k = d
  | [], _, _, _, _ => rfl
  | (j, v) :: t, l, k, hk, hw => by
    rw [twfFrom_cons] at hw
    have hj : l < j := by simpa [aboveLo] using hw.1
    have h1 : ¬ k = j := by omega
    have h2 : k < j := by omega
    simp [tget, h1, h2]

/-- Setting a key and reading it gives the value set. -/
@[simp] theorem tget_tset_same (d : α) : ∀ (t : Tab α) (k : Nat) (v : α), twf d t = true → tget d (tset d t k v) k = v := by
  suffices h : ∀ (t : Tab α) (lo : Option Nat) (k : Nat) (v : α), twfFrom d lo t = true → tget d (tset d t k v) k = v from
    fun t k v hw => h t none k v hw
  intro t
  induction t with
  | nil => intro lo k v _; by_cases hv : v = d <;> simp [tset, tget, hv]
  | cons e t ih =>
    obtain ⟨j, w⟩ := e
    intro lo k v hw
    rw [twfFrom_cons] at hw
    simp only [tset]
    by_cases h1 : k < j
    · by_cases hv : v = d
      · have h3 : ¬ k = j := by omega
        simp [h1, hv, tget, h3]
      · simp [h1, hv, tget]
    · by_cases h2 : k = j
      · subst h2
        by_cases hv : v = d
        · simp [hv]; exact tget_below d t k k (Nat.le_refl _) hw.2.2
        · simp [hv, tget]
      · have h4 : ¬ k < j := h1
        simp only [h1, h2, if_false, tget]
        exact ih _ _ _ hw.2.2

/-- Setting a key leaves every other key alone. -/
theorem tget_tset_other (d : α) : ∀ (t : Tab α) (k j : Nat) (v : α), twf d t = true → j ≠ k →
    tget d (tset d t k v) j = tget d t j := by
  suffices h : ∀ (t : Tab α) (lo : Option Nat) (k j : Nat) (v : α), twfFrom d lo t = true → j ≠ k →
      tget d (tset d t k v) j = tget d t j from fun t k j v hw hj => h t none k j v hw hj
  intro t
  induction t with
  | nil =>
    intro lo k j v _ hj
    by_cases hv : v = d
    · simp [tset, hv]
    · by_cases h : j < k <;> simp [tset, tget, hv, hj]
  | cons e t ih =>
    obtain ⟨i, w⟩ := e
    intro lo k j v hw hj
    rw [twfFrom_cons] at hw
    simp only [tset]
    by_cases h1 : k < i
    · by_cases hv : v = d
      · simp [h1, hv]
      · by_cases h2 : j < k
        · have : j < i := by omega
          have h3 : ¬ j = i := by omega
          simp [h1, hv, tget, hj, h2, h3, this]
        · simp [h1, hv, tget, hj, h2]
    · by_cases h2 : k = i
      · subst h2
        by_cases hv : v = d
        · by_cases h3 : j < k
          · have := tget_below d t k j (by omega) hw.2.2
            simp [hv, tget, hj, h3, this]
          · simp [hv, tget, hj, h3]
        · by_cases h3 : j < k <;> simp [hv, tget, hj]
      · simp only [h1, h2, if_false, tget]
        by_cases h3 : j = i
        · simp [h3]
        · by_cases h4 : j < i
          · simp [h3, h4]
          · simp only [h3, h4, if_false]
            exact ih _ _ _ _ hw.2.2 hj

theorem twfFrom_tset (d : α) : ∀ (t : Tab α) (lo : Option Nat) (k : Nat) (v : α), twfFrom d lo t = true →
    aboveLo lo k = true → twfFrom d lo (tset d t k v) = true := by
  intro t
  induction t with
  | nil =>
    intro lo k v _ hk
    by_cases hv : v = d
    · simp [tset, hv, twfFrom]
    · simp only [tset, hv, if_false]
      rw [twfFrom_cons]
      exact ⟨hk, hv, rfl⟩
  | cons e t ih =>
    obtain ⟨i, w⟩ := e
    intro lo k v hw hk
    have hw' := hw
    rw [twfFrom_cons] at hw
    simp only [tset]
    by_cases h1 : k < i
    · by_cases hv : v = d
      · simpa [h1, hv] using hw'
      · simp only [h1, hv, if_true, if_false]
        rw [twfFrom_cons, twfFrom_cons]
        exact ⟨hk, hv, by simpa [aboveLo] using h1, hw.2⟩
    · by_cases h2 : k = i
      · subst h2
        by_cases hv : v = d
        · simp only [hv, Nat.lt_irrefl, if_true, if_false]
          refine twfFrom_weaken d t (some k) lo ?_ hw.2.2
          intro m hm
          cases lo with
          | none => rfl
          | some l => simp [aboveLo] at hm hk ⊢; omega
        · simp only [hv, Nat.lt_irrefl, if_true, if_false]
          rw [twfFrom_cons]
          exact ⟨hk, hv, hw.2.2⟩
      · simp only [h1, h2, if_false]
        rw [twfFrom_cons]
        refine ⟨hw.1, hw.2.1, ih _ _ _ hw.2.2 ?_⟩
        simp [aboveLo]; omega

/-- Setting a key keeps the canonical form. -/
@[simp] theorem twf_tset (d : α) (t : Tab α) (k : Nat) (v : α) (h : twf d t = true) : twf d (tset d t k v) = true :=
  twfFrom_tset d t none k v h rfl

@[simp] theorem twf_nil (d : α) : twf d ([] : Tab α) = true := rfl
omit [DecidableEq α] in
@[simp] theorem tget_nil {α : Type} (d : α) (k : Nat) : tget d [] k = d := rfl

/-- Changing a key and reading it. -/
theorem tget_tmod_same (d : α) (t : Tab α) (k : Nat) (f : α → α) (h : twf d t = true) :
    tget d (tmod d t k f) k = f (tget d t k) := by
  simp [tmod, h]

/-- Changing a key leaves every other key alone. -/
theorem tget_tmod_other (d : α) (t : Tab α) (k j : Nat) (f : α → α) (h : twf d t = true) (hj : j ≠ k) :
    tget d (tmod d t k f) j = tget d t j := tget_tset_other d t k j _ h hj

/-- Changing a key keeps the canonical form. -/
theorem twf_tmod (d : α) (t : Tab α) (k : Nat) (f : α → α) (h : twf d t = true) : twf d (tmod d t k f) = true :=
  twf_tset d t k _ h

/-! ### Byte memories -/

/-- A string stored in a memory keeps its canonical form. -/
theorem wf_mwrite : ∀ (b : Bytes) (m : Tab Byte) (a : Nat), Memory.wf m = true → Memory.wf (mwrite 0 m a b) = true
  | [], _, _, h => h
  | x :: b, m, a, h => wf_mwrite b _ _ (twf_tset (0 : Byte) m a x h)

/-- A string stored at `a` changes no byte below `a` or from its end on. -/
theorem tget_mwrite_other : ∀ (b : Bytes) (m : Tab Byte) (a j : Nat), Memory.wf m = true → (j < a ∨ a + b.length ≤ j) →
    tget 0 (mwrite 0 m a b) j = tget 0 m j
  | [], _, _, _, _, _ => rfl
  | x :: b, m, a, j, h, hj => by
    have hw : Memory.wf (tset 0 m a x) = true := twf_tset (0 : Byte) m a x h
    have h1 := tget_mwrite_other b (tset 0 m a x) (a + 1) j hw (by simp only [List.length_cons] at hj; omega)
    have h2 : j ≠ a := by simp only [List.length_cons] at hj; omega
    rw [mwrite, h1]
    exact tget_tset_other (0 : Byte) m a j x h h2

/-- Byte `i` of a string stored at `a` is read back at `a + i`. -/
theorem tget_mwrite_same : ∀ (b : Bytes) (m : Tab Byte) (a i : Nat), Memory.wf m = true → (hi : i < b.length) →
    tget 0 (mwrite 0 m a b) (a + i) = b[i]
  | x :: b, m, a, 0, h, _ => by
    have hw : Memory.wf (tset 0 m a x) = true := twf_tset (0 : Byte) m a x h
    rw [mwrite, tget_mwrite_other b _ (a + 1) (a + 0) hw (by omega)]
    exact tget_tset_same (0 : Byte) m a x h
  | x :: b, m, a, i + 1, h, hi => by
    have hw : Memory.wf (tset 0 m a x) = true := twf_tset (0 : Byte) m a x h
    have h1 := tget_mwrite_same b (tset 0 m a x) (a + 1) i hw (by simpa using hi)
    rw [mwrite]
    rw [show a + (i + 1) = a + 1 + i by omega, h1]
    rfl

theorem mread_congr : ∀ (n : Nat) (m m' : Tab Byte) (a : Nat), (∀ i, i < n → tget 0 m (a + i) = tget 0 m' (a + i)) →
    mread 0 m a n = mread 0 m' a n
  | 0, _, _, _, _ => rfl
  | n + 1, m, m', a, h => by
    have h0 := h 0 (by omega)
    have := mread_congr n m m' (a + 1) (fun i hi => by
      have := h (i + 1) (by omega)
      rwa [show a + (i + 1) = a + 1 + i by omega] at this)
    simp only [mread, this]
    simpa using h0

/-- A string stored is read back whole. -/
theorem mread_mwrite_same : ∀ (b : Bytes) (m : Tab Byte) (a : Nat), Memory.wf m = true →
    mread 0 (mwrite 0 m a b) a b.length = b
  | [], _, _, _ => rfl
  | x :: b, m, a, h => by
    have hw : Memory.wf (tset 0 m a x) = true := twf_tset (0 : Byte) m a x h
    have h0 := tget_mwrite_same (x :: b) m a 0 h (by simp)
    have h1 := mread_mwrite_same b (tset 0 m a x) (a + 1) hw
    simp only [List.length_cons, mread, mwrite] at *
    rw [h1]
    simpa using h0

/-- A string stored elsewhere is not seen. -/
theorem mread_mwrite_other (b : Bytes) (m : Tab Byte) (a j n : Nat) (h : Memory.wf m = true)
    (hj : j + n ≤ a ∨ a + b.length ≤ j) : mread 0 (mwrite 0 m a b) j n = mread 0 m j n :=
  mread_congr n _ _ j (fun i hi => tget_mwrite_other b m a (j + i) h (by omega))

end Sys2Proof.Machine
end

