-- ==== Sys2Proof/Laws/Tel.lean ====
section
/-!
SUPPORT. Laws/Tel.lean: what an event, a counter and an output can change: nothing but the telemetry, the outputs and the event rings'
buffers in host memory.
-/
namespace Sys2Proof
open Machine

/-! ### `SameButTel` -/

theorem SameButTel.refl (s : State) : SameButTel s s := rfl

theorem SameButTel.trans {s t u : State} (h : SameButTel s t) (k : SameButTel t u) : SameButTel s u := by
  unfold SameButTel at *; rw [k, h]

/-- `t` is `s` but for telemetry, outputs and host memory, and event rings keep their buffers and every other host byte. -/
structure TelStep (s t : State) : Prop where
  same : SameButTel s t
  ring : ∀ pf1, (evRing pf1 t).reg.en = (evRing pf1 s).reg.en ∧ (evRing pf1 t).reg.base = (evRing pf1 s).reg.base
    ∧ (evRing pf1 t).reg.size = (evRing pf1 s).reg.size
  mem : HostMemKept s t

theorem TelStep.refl (s : State) : TelStep s s := ⟨rfl, fun _ => ⟨rfl, rfl, rfl⟩, fun h => ⟨h, fun _ _ => rfl⟩⟩

theorem TelStep.trans {s t u : State} (h : TelStep s t) (k : TelStep t u) : TelStep s u := by
  refine ⟨h.same.trans k.same, fun p => ?_, fun hw => ?_⟩
  · obtain ⟨a, b, c⟩ := h.ring p; obtain ⟨a', b', c'⟩ := k.ring p
    exact ⟨a'.trans a, b'.trans b, c'.trans c⟩
  · obtain ⟨hw1, e1⟩ := h.mem hw
    obtain ⟨hw2, e2⟩ := k.mem hw1
    refine ⟨hw2, fun a ha => ?_⟩
    rw [e2 a ?_, e1 a ha]
    rintro ⟨p, hp⟩
    obtain ⟨x, y, z⟩ := h.ring p
    exact ha ⟨p, by simpa [x, y, z] using hp⟩

/-- A state that differs in the telemetry alone, its event rings' buffers kept. -/
theorem TelStep.ofTel (s : State) (v : Tel) (h1 : v.pf1.reg = s.tel.pf1.reg) (h0 : v.pf0.reg = s.tel.pf0.reg) :
    TelStep s { s with tel := v } := by
  refine ⟨rfl, fun p => ?_, fun h => ⟨h, fun _ _ => rfl⟩⟩
  cases p <;> simp [evRing, h1, h0]

theorem TelStep.emitOut (o : Output) (s : State) : TelStep s (emitOut o s) :=
  ⟨rfl, fun p => by cases p <;> exact ⟨rfl, rfl, rfl⟩, fun h => ⟨h, fun _ _ => rfl⟩⟩

theorem TelStep.bumpBy (o n : Nat) (s : State) : TelStep s (bumpBy o n s) := .ofTel s _ rfl rfl

theorem TelStep.bump (o : Nat) (s : State) : TelStep s (bump o s) := .bumpBy o 1 s

theorem TelStep.setEvRing (p : Bool) (r : EventRing) (s : State) (h : r.reg.en = (evRing p s).reg.en)
    (hb : r.reg.base = (evRing p s).reg.base) (hs : r.reg.size = (evRing p s).reg.size) : TelStep s (setEvRing p r s) := by
  refine ⟨by cases p <;> rfl, fun q => ?_, fun hw => ⟨by cases p <;> exact hw, fun _ _ => by cases p <;> rfl⟩⟩
  cases p <;> cases q <;> simp_all [Machine.setEvRing, evRing]

theorem EventRec.bytes_length (e : EventRec) (p : Bool) : (e.bytes p).length = 64 := by
  have h : ∀ n v, (leBytes n v).length = n := by
    intro n; induction n with
    | zero => intro v; rfl
    | succ n ih => intro v; simp [leBytes, ih]
  have hp : ∀ n b, (padTo n b).length = n := by intro n b; simp [padTo]; omega
  simp [Machine.EventRec.bytes, h, hp]

theorem TelStep.evPut (p : Bool) (e : EventRec) (s : State) (hen : (evRing p s).reg.en = true) : TelStep s (evPut p e s) := by
  have key : ∀ (b : Bytes) (r : EventRing), b.length = 64 → r.reg.en = (evRing p s).reg.en →
      r.reg.base = (evRing p s).reg.base → r.reg.size = (evRing p s).reg.size →
      TelStep s (Machine.setEvRing p r { s with hostMem := mwrite 0 s.hostMem ((evRing p s).reg.slotAddr 64) b }) := by
    intro b r hl h1 h2 h3
    refine ⟨by cases p <;> rfl, fun q => ?_, fun hw => ?_⟩
    · cases p <;> cases q <;> simp_all [Machine.setEvRing, evRing]
    · have hm : ∀ r t, (Machine.setEvRing p r t).hostMem = t.hostMem := by intro r t; cases p <;> rfl
      rw [hm]
      refine ⟨wf_mwrite _ _ _ hw, fun a ha => ?_⟩
      apply tget_mwrite_other _ _ _ _ hw
      rw [hl]
      by_contra hc
      apply ha
      refine ⟨p, hen, ?_⟩
      have hlt : (evRing p s).reg.prod % 2 ^ (evRing p s).reg.size < 2 ^ (evRing p s).reg.size := Nat.mod_lt _ (by positivity)
      simp only [DmaRing.slotAddr] at hc
      constructor <;> omega
  unfold Machine.evPut
  dsimp only
  split
  · refine TelStep.trans ?_ (TelStep.emitOut _ _)
    exact key _ _ (EventRec.bytes_length _ _) rfl rfl rfl
  · exact key _ _ (EventRec.bytes_length _ _) rfl rfl rfl

theorem TelStep.evFlushLoss (p : Bool) : ∀ (cs : List Nat) (s : State), TelStep s (evFlushLoss p cs s)
  | [], s => .refl s
  | c :: cs, s => by
    unfold Machine.evFlushLoss
    dsimp only
    split
    · exact TelStep.evFlushLoss p cs s
    · split
      · rename_i h
        have h1 : TelStep s (Machine.setEvRing p { evRing p s with loss := tset {} (evRing p s).loss c {} } s) :=
          .setEvRing p _ s rfl rfl rfl
        have h2 := h1.ring p
        refine (h1.trans (.evPut p _ _ ?_)).trans (TelStep.evFlushLoss p cs _)
        rw [h2.1]; simp only [Bool.and_eq_true] at h; exact h.1
      · exact .refl s

theorem TelStep.evLost (p : Bool) (e : EventRec) (s : State) : TelStep s (evLost p e s) := by
  unfold Machine.evLost
  refine TelStep.trans ?_ (TelStep.bump _ _)
  exact .setEvRing p _ s rfl rfl rfl

theorem TelStep.evDue (p : Bool) (e : EventRec) (s : State) : TelStep s (evDue p e s).1 := by
  unfold Machine.evDue
  have h := TelStep.evFlushLoss p allClasses s
  dsimp only
  split
  · rename_i hen
    split
    · exact h.trans (.evLost _ _ _)
    · exact h.trans (.evPut _ _ _ hen)
  · split
    · exact h.trans (.evLost _ _ _)
    · exact h

theorem TelStep.evRings (c : EvClass) (e : EventRec) (s : State) : TelStep s (evRings c e s).1 := by
  unfold Machine.evRings
  dsimp only
  split
  · exact (TelStep.evDue true e s).trans (.evDue false e _)
  · exact .evDue true e s

theorem TelStep.alarmPut (e : EventRec) (s : State) : TelStep s (alarmPut e s) := by
  unfold Machine.alarmPut
  dsimp only
  split
  · refine TelStep.trans ?_ (TelStep.bump _ _)
    exact .ofTel s _ rfl rfl
  · refine TelStep.trans ?_ (TelStep.bump _ _)
    exact .ofTel s _ rfl rfl

/-- An event changes the telemetry, the outputs and the event rings' buffers, and nothing else. -/
theorem TelStep.emit (c : EvClass) (code src : W16) (d : Bytes) (s : State) : TelStep s (emit c code src d s) := by
  unfold Machine.emit
  dsimp only
  have hb : TelStep s (Machine.bump (cEvent c.num 0) s) := .bump _ _
  split
  · have h := (hb.trans (.alarmPut (mkEvent s c code src d) _)).trans (.evRings c (mkEvent s c code src d) _)
    split
    · exact h.trans (.bump _ _)
    · exact h
  · split
    · have h : TelStep s { Machine.bump (cEvent c.num 0) s with
          tel := { (Machine.bump (cEvent c.num 0) s).tel with
            singles := tset 0 (Machine.bump (cEvent c.num 0) s).tel.singles c.num
              (tget 0 (Machine.bump (cEvent c.num 0) s).tel.singles c.num + 1) } } := hb.trans (.ofTel _ _ rfl rfl)
      split
      · exact (h.trans (.evRings c (mkEvent s c code src d) _)).trans (.bump _ _)
      · exact h.trans (.evRings c (mkEvent s c code src d) _)
    · refine TelStep.trans ?_ (TelStep.bump _ _)
      exact hb.trans (.ofTel _ _ rfl rfl)

theorem TelStep.foldS {α : Type} (f : α → State → State) (h : ∀ a s, TelStep s (f a s)) : ∀ (l : List α) (s : State),
    TelStep s (foldS f l s)
  | [], s => .refl s
  | a :: l, s => (h a s).trans (TelStep.foldS f h l _)

theorem emit_same (c : EvClass) (code src : W16) (d : Bytes) (s : State) : SameButTel s (emit c code src d s) :=
  (TelStep.emit c code src d s).same

@[simp] theorem emit_pending (c : EvClass) (code src : W16) (d : Bytes) (s : State) : (emit c code src d s).pending = s.pending := by rw [emit_same c code src d s]
@[simp] theorem emit_now (c : EvClass) (code src : W16) (d : Bytes) (s : State) : (emit c code src d s).now = s.now := by rw [emit_same c code src d s]
@[simp] theorem emit_slt (c : EvClass) (code src : W16) (d : Bytes) (s : State) : (emit c code src d s).slt = s.slt := by rw [emit_same c code src d s]
@[simp] theorem emit_nrg (c : EvClass) (code src : W16) (d : Bytes) (s : State) : (emit c code src d s).nrg = s.nrg := by rw [emit_same c code src d s]
@[simp] theorem emit_boot (c : EvClass) (code src : W16) (d : Bytes) (s : State) : (emit c code src d s).boot = s.boot := by rw [emit_same c code src d s]
@[simp] theorem emit_fuses (c : EvClass) (code src : W16) (d : Bytes) (s : State) : (emit c code src d s).fuses = s.fuses := by rw [emit_same c code src d s]
@[simp] theorem emit_grn (c : EvClass) (code src : W16) (d : Bytes) (s : State) : (emit c code src d s).grn = s.grn := by rw [emit_same c code src d s]
@[simp] theorem emit_vault (c : EvClass) (code src : W16) (d : Bytes) (s : State) : (emit c code src d s).vault = s.vault := by rw [emit_same c code src d s]
@[simp] theorem emit_ent (c : EvClass) (code src : W16) (d : Bytes) (s : State) : (emit c code src d s).ent = s.ent := by rw [emit_same c code src d s]
@[simp] theorem emit_chk (c : EvClass) (code src : W16) (d : Bytes) (s : State) : (emit c code src d s).chk = s.chk := by rw [emit_same c code src d s]
@[simp] theorem emit_kpf (c : EvClass) (code src : W16) (d : Bytes) (s : State) : (emit c code src d s).kpf = s.kpf := by rw [emit_same c code src d s]
@[simp] theorem emit_tmp (c : EvClass) (code src : W16) (d : Bytes) (s : State) : (emit c code src d s).tmp = s.tmp := by rw [emit_same c code src d s]
@[simp] theorem emit_lcy (c : EvClass) (code src : W16) (d : Bytes) (s : State) : (emit c code src d s).lcy = s.lcy := by rw [emit_same c code src d s]
@[simp] theorem emit_slp (c : EvClass) (code src : W16) (d : Bytes) (s : State) : (emit c code src d s).slp = s.slp := by rw [emit_same c code src d s]
@[simp] theorem emit_env (c : EvClass) (code src : W16) (d : Bytes) (s : State) : (emit c code src d s).env = s.env := by rw [emit_same c code src d s]
@[simp] theorem emit_brl (c : EvClass) (code src : W16) (d : Bytes) (s : State) : (emit c code src d s).brl = s.brl := by rw [emit_same c code src d s]
@[simp] theorem emit_lvs (c : EvClass) (code src : W16) (d : Bytes) (s : State) : (emit c code src d s).lvs = s.lvs := by rw [emit_same c code src d s]
@[simp] theorem emit_hlw (c : EvClass) (code src : W16) (d : Bytes) (s : State) : (emit c code src d s).hlw = s.hlw := by rw [emit_same c code src d s]
@[simp] theorem emit_cnp (c : EvClass) (code src : W16) (d : Bytes) (s : State) : (emit c code src d s).cnp = s.cnp := by rw [emit_same c code src d s]
@[simp] theorem emit_lnk (c : EvClass) (code src : W16) (d : Bytes) (s : State) : (emit c code src d s).lnk = s.lnk := by rw [emit_same c code src d s]
@[simp] theorem emit_cus (c : EvClass) (code src : W16) (d : Bytes) (s : State) : (emit c code src d s).cus = s.cus := by rw [emit_same c code src d s]
@[simp] theorem emit_grv (c : EvClass) (code src : W16) (d : Bytes) (s : State) : (emit c code src d s).grv = s.grv := by rw [emit_same c code src d s]
@[simp] theorem emit_att (c : EvClass) (code src : W16) (d : Bytes) (s : State) : (emit c code src d s).att = s.att := by rw [emit_same c code src d s]
@[simp] theorem emit_spdm (c : EvClass) (code src : W16) (d : Bytes) (s : State) : (emit c code src d s).spdm = s.spdm := by rw [emit_same c code src d s]
@[simp] theorem emit_dis (c : EvClass) (code src : W16) (d : Bytes) (s : State) : (emit c code src d s).dis = s.dis := by rw [emit_same c code src d s]
@[simp] theorem emit_freeCtr (c : EvClass) (code src : W16) (d : Bytes) (s : State) : (emit c code src d s).freeCtr = s.freeCtr := by rw [emit_same c code src d s]

@[simp] theorem bumpBy_pending (o n : Nat) (s : State) : (bumpBy o n s).pending = s.pending := rfl
@[simp] theorem bumpBy_now (o n : Nat) (s : State) : (bumpBy o n s).now = s.now := rfl
@[simp] theorem bumpBy_slt (o n : Nat) (s : State) : (bumpBy o n s).slt = s.slt := rfl
@[simp] theorem bumpBy_nrg (o n : Nat) (s : State) : (bumpBy o n s).nrg = s.nrg := rfl
@[simp] theorem bumpBy_boot (o n : Nat) (s : State) : (bumpBy o n s).boot = s.boot := rfl
@[simp] theorem bumpBy_fuses (o n : Nat) (s : State) : (bumpBy o n s).fuses = s.fuses := rfl
@[simp] theorem bumpBy_grn (o n : Nat) (s : State) : (bumpBy o n s).grn = s.grn := rfl
@[simp] theorem bumpBy_vault (o n : Nat) (s : State) : (bumpBy o n s).vault = s.vault := rfl
@[simp] theorem bumpBy_ent (o n : Nat) (s : State) : (bumpBy o n s).ent = s.ent := rfl
@[simp] theorem bumpBy_chk (o n : Nat) (s : State) : (bumpBy o n s).chk = s.chk := rfl
@[simp] theorem bumpBy_kpf (o n : Nat) (s : State) : (bumpBy o n s).kpf = s.kpf := rfl
@[simp] theorem bumpBy_tmp (o n : Nat) (s : State) : (bumpBy o n s).tmp = s.tmp := rfl
@[simp] theorem bumpBy_lcy (o n : Nat) (s : State) : (bumpBy o n s).lcy = s.lcy := rfl
@[simp] theorem bumpBy_slp (o n : Nat) (s : State) : (bumpBy o n s).slp = s.slp := rfl
@[simp] theorem bumpBy_env (o n : Nat) (s : State) : (bumpBy o n s).env = s.env := rfl
@[simp] theorem bumpBy_brl (o n : Nat) (s : State) : (bumpBy o n s).brl = s.brl := rfl
@[simp] theorem bumpBy_lvs (o n : Nat) (s : State) : (bumpBy o n s).lvs = s.lvs := rfl
@[simp] theorem bumpBy_hlw (o n : Nat) (s : State) : (bumpBy o n s).hlw = s.hlw := rfl
@[simp] theorem bumpBy_cnp (o n : Nat) (s : State) : (bumpBy o n s).cnp = s.cnp := rfl
@[simp] theorem bumpBy_lnk (o n : Nat) (s : State) : (bumpBy o n s).lnk = s.lnk := rfl
@[simp] theorem bumpBy_cus (o n : Nat) (s : State) : (bumpBy o n s).cus = s.cus := rfl
@[simp] theorem bumpBy_grv (o n : Nat) (s : State) : (bumpBy o n s).grv = s.grv := rfl
@[simp] theorem bumpBy_att (o n : Nat) (s : State) : (bumpBy o n s).att = s.att := rfl
@[simp] theorem bumpBy_spdm (o n : Nat) (s : State) : (bumpBy o n s).spdm = s.spdm := rfl
@[simp] theorem bumpBy_dis (o n : Nat) (s : State) : (bumpBy o n s).dis = s.dis := rfl
@[simp] theorem bumpBy_freeCtr (o n : Nat) (s : State) : (bumpBy o n s).freeCtr = s.freeCtr := rfl

@[simp] theorem bump_pending (o : Nat) (s : State) : (bump o s).pending = s.pending := rfl
@[simp] theorem bump_now (o : Nat) (s : State) : (bump o s).now = s.now := rfl
@[simp] theorem bump_slt (o : Nat) (s : State) : (bump o s).slt = s.slt := rfl
@[simp] theorem bump_nrg (o : Nat) (s : State) : (bump o s).nrg = s.nrg := rfl
@[simp] theorem bump_boot (o : Nat) (s : State) : (bump o s).boot = s.boot := rfl
@[simp] theorem bump_fuses (o : Nat) (s : State) : (bump o s).fuses = s.fuses := rfl
@[simp] theorem bump_grn (o : Nat) (s : State) : (bump o s).grn = s.grn := rfl
@[simp] theorem bump_vault (o : Nat) (s : State) : (bump o s).vault = s.vault := rfl
@[simp] theorem bump_ent (o : Nat) (s : State) : (bump o s).ent = s.ent := rfl
@[simp] theorem bump_chk (o : Nat) (s : State) : (bump o s).chk = s.chk := rfl
@[simp] theorem bump_kpf (o : Nat) (s : State) : (bump o s).kpf = s.kpf := rfl
@[simp] theorem bump_tmp (o : Nat) (s : State) : (bump o s).tmp = s.tmp := rfl
@[simp] theorem bump_lcy (o : Nat) (s : State) : (bump o s).lcy = s.lcy := rfl
@[simp] theorem bump_slp (o : Nat) (s : State) : (bump o s).slp = s.slp := rfl
@[simp] theorem bump_env (o : Nat) (s : State) : (bump o s).env = s.env := rfl
@[simp] theorem bump_brl (o : Nat) (s : State) : (bump o s).brl = s.brl := rfl
@[simp] theorem bump_lvs (o : Nat) (s : State) : (bump o s).lvs = s.lvs := rfl
@[simp] theorem bump_hlw (o : Nat) (s : State) : (bump o s).hlw = s.hlw := rfl
@[simp] theorem bump_cnp (o : Nat) (s : State) : (bump o s).cnp = s.cnp := rfl
@[simp] theorem bump_lnk (o : Nat) (s : State) : (bump o s).lnk = s.lnk := rfl
@[simp] theorem bump_cus (o : Nat) (s : State) : (bump o s).cus = s.cus := rfl
@[simp] theorem bump_grv (o : Nat) (s : State) : (bump o s).grv = s.grv := rfl
@[simp] theorem bump_att (o : Nat) (s : State) : (bump o s).att = s.att := rfl
@[simp] theorem bump_spdm (o : Nat) (s : State) : (bump o s).spdm = s.spdm := rfl
@[simp] theorem bump_dis (o : Nat) (s : State) : (bump o s).dis = s.dis := rfl
@[simp] theorem bump_freeCtr (o : Nat) (s : State) : (bump o s).freeCtr = s.freeCtr := rfl

@[simp] theorem emitOut_pending (o : Output) (s : State) : (emitOut o s).pending = s.pending := rfl
@[simp] theorem emitOut_now (o : Output) (s : State) : (emitOut o s).now = s.now := rfl
@[simp] theorem emitOut_slt (o : Output) (s : State) : (emitOut o s).slt = s.slt := rfl
@[simp] theorem emitOut_nrg (o : Output) (s : State) : (emitOut o s).nrg = s.nrg := rfl
@[simp] theorem emitOut_boot (o : Output) (s : State) : (emitOut o s).boot = s.boot := rfl
@[simp] theorem emitOut_fuses (o : Output) (s : State) : (emitOut o s).fuses = s.fuses := rfl
@[simp] theorem emitOut_grn (o : Output) (s : State) : (emitOut o s).grn = s.grn := rfl
@[simp] theorem emitOut_vault (o : Output) (s : State) : (emitOut o s).vault = s.vault := rfl
@[simp] theorem emitOut_ent (o : Output) (s : State) : (emitOut o s).ent = s.ent := rfl
@[simp] theorem emitOut_chk (o : Output) (s : State) : (emitOut o s).chk = s.chk := rfl
@[simp] theorem emitOut_kpf (o : Output) (s : State) : (emitOut o s).kpf = s.kpf := rfl
@[simp] theorem emitOut_tmp (o : Output) (s : State) : (emitOut o s).tmp = s.tmp := rfl
@[simp] theorem emitOut_lcy (o : Output) (s : State) : (emitOut o s).lcy = s.lcy := rfl
@[simp] theorem emitOut_slp (o : Output) (s : State) : (emitOut o s).slp = s.slp := rfl
@[simp] theorem emitOut_env (o : Output) (s : State) : (emitOut o s).env = s.env := rfl
@[simp] theorem emitOut_brl (o : Output) (s : State) : (emitOut o s).brl = s.brl := rfl
@[simp] theorem emitOut_lvs (o : Output) (s : State) : (emitOut o s).lvs = s.lvs := rfl
@[simp] theorem emitOut_hlw (o : Output) (s : State) : (emitOut o s).hlw = s.hlw := rfl
@[simp] theorem emitOut_cnp (o : Output) (s : State) : (emitOut o s).cnp = s.cnp := rfl
@[simp] theorem emitOut_lnk (o : Output) (s : State) : (emitOut o s).lnk = s.lnk := rfl
@[simp] theorem emitOut_cus (o : Output) (s : State) : (emitOut o s).cus = s.cus := rfl
@[simp] theorem emitOut_grv (o : Output) (s : State) : (emitOut o s).grv = s.grv := rfl
@[simp] theorem emitOut_att (o : Output) (s : State) : (emitOut o s).att = s.att := rfl
@[simp] theorem emitOut_spdm (o : Output) (s : State) : (emitOut o s).spdm = s.spdm := rfl
@[simp] theorem emitOut_dis (o : Output) (s : State) : (emitOut o s).dis = s.dis := rfl
@[simp] theorem emitOut_freeCtr (o : Output) (s : State) : (emitOut o s).freeCtr = s.freeCtr := rfl

@[simp] theorem emitOut_tel (o : Output) (s : State) : (emitOut o s).tel = s.tel := rfl
@[simp] theorem emitOut_hostMem (o : Output) (s : State) : (emitOut o s).hostMem = s.hostMem := rfl
@[simp] theorem emitOut_out (o : Output) (s : State) : (emitOut o s).out = s.out ++ [o] := rfl
@[simp] theorem bump_out (o : Nat) (s : State) : (bump o s).out = s.out := rfl
@[simp] theorem bump_hostMem (o : Nat) (s : State) : (bump o s).hostMem = s.hostMem := rfl

end Sys2Proof
end

