-- ==== Sys2Proof/Laws/State.lean ====
section
/-!
SUPPORT. Laws/State.lean: which part of the state each named update changes and what it leaves, one lemma per part and update, and the
rule by which a command of the main domain acts while that domain works.
-/
namespace Sys2Proof
open Machine

/-! ### Commands of the main domain -/

@[simp] theorem live_out (s : State) (o : List Output) : live { s with out := o } = live s := rfl
@[simp] theorem live_pending (s : State) (q : List Instr) : live { s with pending := q } = live s := rfl
@[simp] theorem live_tel (s : State) (x : Tel) : live { s with tel := x } = live s := rfl
@[simp] theorem live_hostMem (s : State) (x : Tab Byte) : live { s with hostMem := x } = live s := rfl

/-- While the main domain works, its command acts from empty outputs. -/
theorem act_live {f : State → State} {s : State} (h : live s = true) : act f s = .next (f { s with out := [] }) := by
  simp [act, actAny, h]

/-- While the main domain does not work, its command leaves all but the outputs. -/
theorem act_dead {f : State → State} {s : State} (h : live s = false) : act f s = .next { s with out := [] } := by
  simp [act, actAny, h]

/-- A command that acts in every power state acts from empty outputs. -/
theorem actAny_next (f : State → State) (s : State) : actAny f s = .next (f { s with out := [] }) := rfl

/-- The main domain works only with main power good. -/
theorem live_pwrgood {s : State} (h : live s = true) : s.boot.pwrgood = true := by
  simp [live] at h; exact h.1.1.1

@[simp] theorem whenB_true (f : State → State) (s : State) : whenB true f s = f s := rfl
@[simp] theorem whenB_false (f : State → State) (s : State) : whenB false f s = s := rfl
@[simp] theorem foldS_nil {α : Type} (f : α → State → State) (s : State) : foldS f [] s = s := rfl
@[simp] theorem foldS_cons {α : Type} (f : α → State → State) (a : α) (l : List α) (s : State) :
    foldS f (a :: l) s = foldS f l (f a s) := rfl

/-! ### Named updates -/

@[simp] theorem atTime_pending (t : Nat) (s : State) : (atTime t s).pending = s.pending := rfl
@[simp] theorem atTime_now (t : Nat) (s : State) : (atTime t s).now = max s.now t := rfl
@[simp] theorem atTime_out (t : Nat) (s : State) : (atTime t s).out = s.out := rfl
@[simp] theorem atTime_hostMem (t : Nat) (s : State) : (atTime t s).hostMem = s.hostMem := rfl
@[simp] theorem atTime_tel (t : Nat) (s : State) : (atTime t s).tel = s.tel := rfl
@[simp] theorem atTime_slt (t : Nat) (s : State) : (atTime t s).slt = s.slt := rfl
@[simp] theorem atTime_nrg (t : Nat) (s : State) : (atTime t s).nrg = s.nrg := rfl
@[simp] theorem atTime_boot (t : Nat) (s : State) : (atTime t s).boot = s.boot := rfl
@[simp] theorem atTime_fuses (t : Nat) (s : State) : (atTime t s).fuses = s.fuses := rfl
@[simp] theorem atTime_grn (t : Nat) (s : State) : (atTime t s).grn = s.grn := rfl
@[simp] theorem atTime_vault (t : Nat) (s : State) : (atTime t s).vault = s.vault := rfl
@[simp] theorem atTime_ent (t : Nat) (s : State) : (atTime t s).ent = s.ent := rfl
@[simp] theorem atTime_chk (t : Nat) (s : State) : (atTime t s).chk = s.chk := rfl
@[simp] theorem atTime_kpf (t : Nat) (s : State) : (atTime t s).kpf = s.kpf := rfl
@[simp] theorem atTime_tmp (t : Nat) (s : State) : (atTime t s).tmp = s.tmp := rfl
@[simp] theorem atTime_lcy (t : Nat) (s : State) : (atTime t s).lcy = s.lcy := rfl
@[simp] theorem atTime_slp (t : Nat) (s : State) : (atTime t s).slp = s.slp := rfl
@[simp] theorem atTime_env (t : Nat) (s : State) : (atTime t s).env = s.env := rfl
@[simp] theorem atTime_brl (t : Nat) (s : State) : (atTime t s).brl = s.brl := rfl
@[simp] theorem atTime_lvs (t : Nat) (s : State) : (atTime t s).lvs = s.lvs := rfl
@[simp] theorem atTime_hlw (t : Nat) (s : State) : (atTime t s).hlw = s.hlw := rfl
@[simp] theorem atTime_cnp (t : Nat) (s : State) : (atTime t s).cnp = s.cnp := rfl
@[simp] theorem atTime_lnk (t : Nat) (s : State) : (atTime t s).lnk = s.lnk := rfl
@[simp] theorem atTime_cus (t : Nat) (s : State) : (atTime t s).cus = s.cus := rfl
@[simp] theorem atTime_grv (t : Nat) (s : State) : (atTime t s).grv = s.grv := rfl
@[simp] theorem atTime_att (t : Nat) (s : State) : (atTime t s).att = s.att := rfl
@[simp] theorem atTime_spdm (t : Nat) (s : State) : (atTime t s).spdm = s.spdm := rfl
@[simp] theorem atTime_dis (t : Nat) (s : State) : (atTime t s).dis = s.dis := rfl
@[simp] theorem atTime_freeCtr (t : Nat) (s : State) : (atTime t s).freeCtr = s.freeCtr := rfl

@[simp] theorem modBough_pending (b : Nat) (f : BoughNrg → BoughNrg) (s : State) : (modBough b f s).pending = s.pending := rfl
@[simp] theorem modBough_now (b : Nat) (f : BoughNrg → BoughNrg) (s : State) : (modBough b f s).now = s.now := rfl
@[simp] theorem modBough_out (b : Nat) (f : BoughNrg → BoughNrg) (s : State) : (modBough b f s).out = s.out := rfl
@[simp] theorem modBough_hostMem (b : Nat) (f : BoughNrg → BoughNrg) (s : State) : (modBough b f s).hostMem = s.hostMem := rfl
@[simp] theorem modBough_tel (b : Nat) (f : BoughNrg → BoughNrg) (s : State) : (modBough b f s).tel = s.tel := rfl
@[simp] theorem modBough_slt (b : Nat) (f : BoughNrg → BoughNrg) (s : State) : (modBough b f s).slt = s.slt := rfl
@[simp] theorem modBough_nrg (b : Nat) (f : BoughNrg → BoughNrg) (s : State) : (modBough b f s).nrg = { s.nrg with boughs := tmod {} s.nrg.boughs b f } := rfl
@[simp] theorem modBough_boot (b : Nat) (f : BoughNrg → BoughNrg) (s : State) : (modBough b f s).boot = s.boot := rfl
@[simp] theorem modBough_fuses (b : Nat) (f : BoughNrg → BoughNrg) (s : State) : (modBough b f s).fuses = s.fuses := rfl
@[simp] theorem modBough_grn (b : Nat) (f : BoughNrg → BoughNrg) (s : State) : (modBough b f s).grn = s.grn := rfl
@[simp] theorem modBough_vault (b : Nat) (f : BoughNrg → BoughNrg) (s : State) : (modBough b f s).vault = s.vault := rfl
@[simp] theorem modBough_ent (b : Nat) (f : BoughNrg → BoughNrg) (s : State) : (modBough b f s).ent = s.ent := rfl
@[simp] theorem modBough_chk (b : Nat) (f : BoughNrg → BoughNrg) (s : State) : (modBough b f s).chk = s.chk := rfl
@[simp] theorem modBough_kpf (b : Nat) (f : BoughNrg → BoughNrg) (s : State) : (modBough b f s).kpf = s.kpf := rfl
@[simp] theorem modBough_tmp (b : Nat) (f : BoughNrg → BoughNrg) (s : State) : (modBough b f s).tmp = s.tmp := rfl
@[simp] theorem modBough_lcy (b : Nat) (f : BoughNrg → BoughNrg) (s : State) : (modBough b f s).lcy = s.lcy := rfl
@[simp] theorem modBough_slp (b : Nat) (f : BoughNrg → BoughNrg) (s : State) : (modBough b f s).slp = s.slp := rfl
@[simp] theorem modBough_env (b : Nat) (f : BoughNrg → BoughNrg) (s : State) : (modBough b f s).env = s.env := rfl
@[simp] theorem modBough_brl (b : Nat) (f : BoughNrg → BoughNrg) (s : State) : (modBough b f s).brl = s.brl := rfl
@[simp] theorem modBough_lvs (b : Nat) (f : BoughNrg → BoughNrg) (s : State) : (modBough b f s).lvs = s.lvs := rfl
@[simp] theorem modBough_hlw (b : Nat) (f : BoughNrg → BoughNrg) (s : State) : (modBough b f s).hlw = s.hlw := rfl
@[simp] theorem modBough_cnp (b : Nat) (f : BoughNrg → BoughNrg) (s : State) : (modBough b f s).cnp = s.cnp := rfl
@[simp] theorem modBough_lnk (b : Nat) (f : BoughNrg → BoughNrg) (s : State) : (modBough b f s).lnk = s.lnk := rfl
@[simp] theorem modBough_cus (b : Nat) (f : BoughNrg → BoughNrg) (s : State) : (modBough b f s).cus = s.cus := rfl
@[simp] theorem modBough_grv (b : Nat) (f : BoughNrg → BoughNrg) (s : State) : (modBough b f s).grv = s.grv := rfl
@[simp] theorem modBough_att (b : Nat) (f : BoughNrg → BoughNrg) (s : State) : (modBough b f s).att = s.att := rfl
@[simp] theorem modBough_spdm (b : Nat) (f : BoughNrg → BoughNrg) (s : State) : (modBough b f s).spdm = s.spdm := rfl
@[simp] theorem modBough_dis (b : Nat) (f : BoughNrg → BoughNrg) (s : State) : (modBough b f s).dis = s.dis := rfl
@[simp] theorem modBough_freeCtr (b : Nat) (f : BoughNrg → BoughNrg) (s : State) : (modBough b f s).freeCtr = s.freeCtr := rfl

@[simp] theorem modAtt_pending (f : Att → Att) (s : State) : (modAtt f s).pending = s.pending := rfl
@[simp] theorem modAtt_now (f : Att → Att) (s : State) : (modAtt f s).now = s.now := rfl
@[simp] theorem modAtt_out (f : Att → Att) (s : State) : (modAtt f s).out = s.out := rfl
@[simp] theorem modAtt_hostMem (f : Att → Att) (s : State) : (modAtt f s).hostMem = s.hostMem := rfl
@[simp] theorem modAtt_tel (f : Att → Att) (s : State) : (modAtt f s).tel = s.tel := rfl
@[simp] theorem modAtt_slt (f : Att → Att) (s : State) : (modAtt f s).slt = s.slt := rfl
@[simp] theorem modAtt_nrg (f : Att → Att) (s : State) : (modAtt f s).nrg = s.nrg := rfl
@[simp] theorem modAtt_boot (f : Att → Att) (s : State) : (modAtt f s).boot = s.boot := rfl
@[simp] theorem modAtt_fuses (f : Att → Att) (s : State) : (modAtt f s).fuses = s.fuses := rfl
@[simp] theorem modAtt_grn (f : Att → Att) (s : State) : (modAtt f s).grn = s.grn := rfl
@[simp] theorem modAtt_vault (f : Att → Att) (s : State) : (modAtt f s).vault = s.vault := rfl
@[simp] theorem modAtt_ent (f : Att → Att) (s : State) : (modAtt f s).ent = s.ent := rfl
@[simp] theorem modAtt_chk (f : Att → Att) (s : State) : (modAtt f s).chk = s.chk := rfl
@[simp] theorem modAtt_kpf (f : Att → Att) (s : State) : (modAtt f s).kpf = s.kpf := rfl
@[simp] theorem modAtt_tmp (f : Att → Att) (s : State) : (modAtt f s).tmp = s.tmp := rfl
@[simp] theorem modAtt_lcy (f : Att → Att) (s : State) : (modAtt f s).lcy = s.lcy := rfl
@[simp] theorem modAtt_slp (f : Att → Att) (s : State) : (modAtt f s).slp = s.slp := rfl
@[simp] theorem modAtt_env (f : Att → Att) (s : State) : (modAtt f s).env = s.env := rfl
@[simp] theorem modAtt_brl (f : Att → Att) (s : State) : (modAtt f s).brl = s.brl := rfl
@[simp] theorem modAtt_lvs (f : Att → Att) (s : State) : (modAtt f s).lvs = s.lvs := rfl
@[simp] theorem modAtt_hlw (f : Att → Att) (s : State) : (modAtt f s).hlw = s.hlw := rfl
@[simp] theorem modAtt_cnp (f : Att → Att) (s : State) : (modAtt f s).cnp = s.cnp := rfl
@[simp] theorem modAtt_lnk (f : Att → Att) (s : State) : (modAtt f s).lnk = s.lnk := rfl
@[simp] theorem modAtt_cus (f : Att → Att) (s : State) : (modAtt f s).cus = s.cus := rfl
@[simp] theorem modAtt_grv (f : Att → Att) (s : State) : (modAtt f s).grv = s.grv := rfl
@[simp] theorem modAtt_att (f : Att → Att) (s : State) : (modAtt f s).att = f s.att := rfl
@[simp] theorem modAtt_spdm (f : Att → Att) (s : State) : (modAtt f s).spdm = s.spdm := rfl
@[simp] theorem modAtt_dis (f : Att → Att) (s : State) : (modAtt f s).dis = s.dis := rfl
@[simp] theorem modAtt_freeCtr (f : Att → Att) (s : State) : (modAtt f s).freeCtr = s.freeCtr := rfl

@[simp] theorem setEng_pending (b : Nat) (e : BrlEng) (s : State) : (setEng b e s).pending = s.pending := rfl
@[simp] theorem setEng_now (b : Nat) (e : BrlEng) (s : State) : (setEng b e s).now = s.now := rfl
@[simp] theorem setEng_out (b : Nat) (e : BrlEng) (s : State) : (setEng b e s).out = s.out := rfl
@[simp] theorem setEng_hostMem (b : Nat) (e : BrlEng) (s : State) : (setEng b e s).hostMem = s.hostMem := rfl
@[simp] theorem setEng_tel (b : Nat) (e : BrlEng) (s : State) : (setEng b e s).tel = s.tel := rfl
@[simp] theorem setEng_slt (b : Nat) (e : BrlEng) (s : State) : (setEng b e s).slt = s.slt := rfl
@[simp] theorem setEng_nrg (b : Nat) (e : BrlEng) (s : State) : (setEng b e s).nrg = s.nrg := rfl
@[simp] theorem setEng_boot (b : Nat) (e : BrlEng) (s : State) : (setEng b e s).boot = s.boot := rfl
@[simp] theorem setEng_fuses (b : Nat) (e : BrlEng) (s : State) : (setEng b e s).fuses = s.fuses := rfl
@[simp] theorem setEng_grn (b : Nat) (e : BrlEng) (s : State) : (setEng b e s).grn = s.grn := rfl
@[simp] theorem setEng_vault (b : Nat) (e : BrlEng) (s : State) : (setEng b e s).vault = s.vault := rfl
@[simp] theorem setEng_ent (b : Nat) (e : BrlEng) (s : State) : (setEng b e s).ent = s.ent := rfl
@[simp] theorem setEng_chk (b : Nat) (e : BrlEng) (s : State) : (setEng b e s).chk = s.chk := rfl
@[simp] theorem setEng_kpf (b : Nat) (e : BrlEng) (s : State) : (setEng b e s).kpf = s.kpf := rfl
@[simp] theorem setEng_tmp (b : Nat) (e : BrlEng) (s : State) : (setEng b e s).tmp = s.tmp := rfl
@[simp] theorem setEng_lcy (b : Nat) (e : BrlEng) (s : State) : (setEng b e s).lcy = s.lcy := rfl
@[simp] theorem setEng_slp (b : Nat) (e : BrlEng) (s : State) : (setEng b e s).slp = s.slp := rfl
@[simp] theorem setEng_env (b : Nat) (e : BrlEng) (s : State) : (setEng b e s).env = s.env := rfl
@[simp] theorem setEng_brl (b : Nat) (e : BrlEng) (s : State) : (setEng b e s).brl = { s.brl with eng := tset {} s.brl.eng b e } := rfl
@[simp] theorem setEng_lvs (b : Nat) (e : BrlEng) (s : State) : (setEng b e s).lvs = s.lvs := rfl
@[simp] theorem setEng_hlw (b : Nat) (e : BrlEng) (s : State) : (setEng b e s).hlw = s.hlw := rfl
@[simp] theorem setEng_cnp (b : Nat) (e : BrlEng) (s : State) : (setEng b e s).cnp = s.cnp := rfl
@[simp] theorem setEng_lnk (b : Nat) (e : BrlEng) (s : State) : (setEng b e s).lnk = s.lnk := rfl
@[simp] theorem setEng_cus (b : Nat) (e : BrlEng) (s : State) : (setEng b e s).cus = s.cus := rfl
@[simp] theorem setEng_grv (b : Nat) (e : BrlEng) (s : State) : (setEng b e s).grv = s.grv := rfl
@[simp] theorem setEng_att (b : Nat) (e : BrlEng) (s : State) : (setEng b e s).att = s.att := rfl
@[simp] theorem setEng_spdm (b : Nat) (e : BrlEng) (s : State) : (setEng b e s).spdm = s.spdm := rfl
@[simp] theorem setEng_dis (b : Nat) (e : BrlEng) (s : State) : (setEng b e s).dis = s.dis := rfl
@[simp] theorem setEng_freeCtr (b : Nat) (e : BrlEng) (s : State) : (setEng b e s).freeCtr = s.freeCtr := rfl

@[simp] theorem modEng_pending (b : Nat) (f : BrlEng → BrlEng) (s : State) : (modEng b f s).pending = s.pending := rfl
@[simp] theorem modEng_now (b : Nat) (f : BrlEng → BrlEng) (s : State) : (modEng b f s).now = s.now := rfl
@[simp] theorem modEng_out (b : Nat) (f : BrlEng → BrlEng) (s : State) : (modEng b f s).out = s.out := rfl
@[simp] theorem modEng_hostMem (b : Nat) (f : BrlEng → BrlEng) (s : State) : (modEng b f s).hostMem = s.hostMem := rfl
@[simp] theorem modEng_tel (b : Nat) (f : BrlEng → BrlEng) (s : State) : (modEng b f s).tel = s.tel := rfl
@[simp] theorem modEng_slt (b : Nat) (f : BrlEng → BrlEng) (s : State) : (modEng b f s).slt = s.slt := rfl
@[simp] theorem modEng_nrg (b : Nat) (f : BrlEng → BrlEng) (s : State) : (modEng b f s).nrg = s.nrg := rfl
@[simp] theorem modEng_boot (b : Nat) (f : BrlEng → BrlEng) (s : State) : (modEng b f s).boot = s.boot := rfl
@[simp] theorem modEng_fuses (b : Nat) (f : BrlEng → BrlEng) (s : State) : (modEng b f s).fuses = s.fuses := rfl
@[simp] theorem modEng_grn (b : Nat) (f : BrlEng → BrlEng) (s : State) : (modEng b f s).grn = s.grn := rfl
@[simp] theorem modEng_vault (b : Nat) (f : BrlEng → BrlEng) (s : State) : (modEng b f s).vault = s.vault := rfl
@[simp] theorem modEng_ent (b : Nat) (f : BrlEng → BrlEng) (s : State) : (modEng b f s).ent = s.ent := rfl
@[simp] theorem modEng_chk (b : Nat) (f : BrlEng → BrlEng) (s : State) : (modEng b f s).chk = s.chk := rfl
@[simp] theorem modEng_kpf (b : Nat) (f : BrlEng → BrlEng) (s : State) : (modEng b f s).kpf = s.kpf := rfl
@[simp] theorem modEng_tmp (b : Nat) (f : BrlEng → BrlEng) (s : State) : (modEng b f s).tmp = s.tmp := rfl
@[simp] theorem modEng_lcy (b : Nat) (f : BrlEng → BrlEng) (s : State) : (modEng b f s).lcy = s.lcy := rfl
@[simp] theorem modEng_slp (b : Nat) (f : BrlEng → BrlEng) (s : State) : (modEng b f s).slp = s.slp := rfl
@[simp] theorem modEng_env (b : Nat) (f : BrlEng → BrlEng) (s : State) : (modEng b f s).env = s.env := rfl
@[simp] theorem modEng_brl (b : Nat) (f : BrlEng → BrlEng) (s : State) : (modEng b f s).brl = { s.brl with eng := tset {} s.brl.eng b (f (eng b s)) } := rfl
@[simp] theorem modEng_lvs (b : Nat) (f : BrlEng → BrlEng) (s : State) : (modEng b f s).lvs = s.lvs := rfl
@[simp] theorem modEng_hlw (b : Nat) (f : BrlEng → BrlEng) (s : State) : (modEng b f s).hlw = s.hlw := rfl
@[simp] theorem modEng_cnp (b : Nat) (f : BrlEng → BrlEng) (s : State) : (modEng b f s).cnp = s.cnp := rfl
@[simp] theorem modEng_lnk (b : Nat) (f : BrlEng → BrlEng) (s : State) : (modEng b f s).lnk = s.lnk := rfl
@[simp] theorem modEng_cus (b : Nat) (f : BrlEng → BrlEng) (s : State) : (modEng b f s).cus = s.cus := rfl
@[simp] theorem modEng_grv (b : Nat) (f : BrlEng → BrlEng) (s : State) : (modEng b f s).grv = s.grv := rfl
@[simp] theorem modEng_att (b : Nat) (f : BrlEng → BrlEng) (s : State) : (modEng b f s).att = s.att := rfl
@[simp] theorem modEng_spdm (b : Nat) (f : BrlEng → BrlEng) (s : State) : (modEng b f s).spdm = s.spdm := rfl
@[simp] theorem modEng_dis (b : Nat) (f : BrlEng → BrlEng) (s : State) : (modEng b f s).dis = s.dis := rfl
@[simp] theorem modEng_freeCtr (b : Nat) (f : BrlEng → BrlEng) (s : State) : (modEng b f s).freeCtr = s.freeCtr := rfl

@[simp] theorem modCnp_pending (f : Cnp → Cnp) (s : State) : (modCnp f s).pending = s.pending := rfl
@[simp] theorem modCnp_now (f : Cnp → Cnp) (s : State) : (modCnp f s).now = s.now := rfl
@[simp] theorem modCnp_out (f : Cnp → Cnp) (s : State) : (modCnp f s).out = s.out := rfl
@[simp] theorem modCnp_hostMem (f : Cnp → Cnp) (s : State) : (modCnp f s).hostMem = s.hostMem := rfl
@[simp] theorem modCnp_tel (f : Cnp → Cnp) (s : State) : (modCnp f s).tel = s.tel := rfl
@[simp] theorem modCnp_slt (f : Cnp → Cnp) (s : State) : (modCnp f s).slt = s.slt := rfl
@[simp] theorem modCnp_nrg (f : Cnp → Cnp) (s : State) : (modCnp f s).nrg = s.nrg := rfl
@[simp] theorem modCnp_boot (f : Cnp → Cnp) (s : State) : (modCnp f s).boot = s.boot := rfl
@[simp] theorem modCnp_fuses (f : Cnp → Cnp) (s : State) : (modCnp f s).fuses = s.fuses := rfl
@[simp] theorem modCnp_grn (f : Cnp → Cnp) (s : State) : (modCnp f s).grn = s.grn := rfl
@[simp] theorem modCnp_vault (f : Cnp → Cnp) (s : State) : (modCnp f s).vault = s.vault := rfl
@[simp] theorem modCnp_ent (f : Cnp → Cnp) (s : State) : (modCnp f s).ent = s.ent := rfl
@[simp] theorem modCnp_chk (f : Cnp → Cnp) (s : State) : (modCnp f s).chk = s.chk := rfl
@[simp] theorem modCnp_kpf (f : Cnp → Cnp) (s : State) : (modCnp f s).kpf = s.kpf := rfl
@[simp] theorem modCnp_tmp (f : Cnp → Cnp) (s : State) : (modCnp f s).tmp = s.tmp := rfl
@[simp] theorem modCnp_lcy (f : Cnp → Cnp) (s : State) : (modCnp f s).lcy = s.lcy := rfl
@[simp] theorem modCnp_slp (f : Cnp → Cnp) (s : State) : (modCnp f s).slp = s.slp := rfl
@[simp] theorem modCnp_env (f : Cnp → Cnp) (s : State) : (modCnp f s).env = s.env := rfl
@[simp] theorem modCnp_brl (f : Cnp → Cnp) (s : State) : (modCnp f s).brl = s.brl := rfl
@[simp] theorem modCnp_lvs (f : Cnp → Cnp) (s : State) : (modCnp f s).lvs = s.lvs := rfl
@[simp] theorem modCnp_hlw (f : Cnp → Cnp) (s : State) : (modCnp f s).hlw = s.hlw := rfl
@[simp] theorem modCnp_cnp (f : Cnp → Cnp) (s : State) : (modCnp f s).cnp = f s.cnp := rfl
@[simp] theorem modCnp_lnk (f : Cnp → Cnp) (s : State) : (modCnp f s).lnk = s.lnk := rfl
@[simp] theorem modCnp_cus (f : Cnp → Cnp) (s : State) : (modCnp f s).cus = s.cus := rfl
@[simp] theorem modCnp_grv (f : Cnp → Cnp) (s : State) : (modCnp f s).grv = s.grv := rfl
@[simp] theorem modCnp_att (f : Cnp → Cnp) (s : State) : (modCnp f s).att = s.att := rfl
@[simp] theorem modCnp_spdm (f : Cnp → Cnp) (s : State) : (modCnp f s).spdm = s.spdm := rfl
@[simp] theorem modCnp_dis (f : Cnp → Cnp) (s : State) : (modCnp f s).dis = s.dis := rfl
@[simp] theorem modCnp_freeCtr (f : Cnp → Cnp) (s : State) : (modCnp f s).freeCtr = s.freeCtr := rfl

@[simp] theorem setCtx_pending (i : Nat) (c : Ctx) (s : State) : (setCtx i c s).pending = s.pending := rfl
@[simp] theorem setCtx_now (i : Nat) (c : Ctx) (s : State) : (setCtx i c s).now = s.now := rfl
@[simp] theorem setCtx_out (i : Nat) (c : Ctx) (s : State) : (setCtx i c s).out = s.out := rfl
@[simp] theorem setCtx_hostMem (i : Nat) (c : Ctx) (s : State) : (setCtx i c s).hostMem = s.hostMem := rfl
@[simp] theorem setCtx_tel (i : Nat) (c : Ctx) (s : State) : (setCtx i c s).tel = s.tel := rfl
@[simp] theorem setCtx_slt (i : Nat) (c : Ctx) (s : State) : (setCtx i c s).slt = s.slt := rfl
@[simp] theorem setCtx_nrg (i : Nat) (c : Ctx) (s : State) : (setCtx i c s).nrg = s.nrg := rfl
@[simp] theorem setCtx_boot (i : Nat) (c : Ctx) (s : State) : (setCtx i c s).boot = s.boot := rfl
@[simp] theorem setCtx_fuses (i : Nat) (c : Ctx) (s : State) : (setCtx i c s).fuses = s.fuses := rfl
@[simp] theorem setCtx_grn (i : Nat) (c : Ctx) (s : State) : (setCtx i c s).grn = s.grn := rfl
@[simp] theorem setCtx_vault (i : Nat) (c : Ctx) (s : State) : (setCtx i c s).vault = s.vault := rfl
@[simp] theorem setCtx_ent (i : Nat) (c : Ctx) (s : State) : (setCtx i c s).ent = s.ent := rfl
@[simp] theorem setCtx_chk (i : Nat) (c : Ctx) (s : State) : (setCtx i c s).chk = s.chk := rfl
@[simp] theorem setCtx_kpf (i : Nat) (c : Ctx) (s : State) : (setCtx i c s).kpf = s.kpf := rfl
@[simp] theorem setCtx_tmp (i : Nat) (c : Ctx) (s : State) : (setCtx i c s).tmp = s.tmp := rfl
@[simp] theorem setCtx_lcy (i : Nat) (c : Ctx) (s : State) : (setCtx i c s).lcy = s.lcy := rfl
@[simp] theorem setCtx_slp (i : Nat) (c : Ctx) (s : State) : (setCtx i c s).slp = s.slp := rfl
@[simp] theorem setCtx_env (i : Nat) (c : Ctx) (s : State) : (setCtx i c s).env = s.env := rfl
@[simp] theorem setCtx_brl (i : Nat) (c : Ctx) (s : State) : (setCtx i c s).brl = s.brl := rfl
@[simp] theorem setCtx_lvs (i : Nat) (c : Ctx) (s : State) : (setCtx i c s).lvs = s.lvs := rfl
@[simp] theorem setCtx_hlw (i : Nat) (c : Ctx) (s : State) : (setCtx i c s).hlw = s.hlw := rfl
@[simp] theorem setCtx_cnp (i : Nat) (c : Ctx) (s : State) : (setCtx i c s).cnp = { s.cnp with ctx := tset {} s.cnp.ctx i c } := rfl
@[simp] theorem setCtx_lnk (i : Nat) (c : Ctx) (s : State) : (setCtx i c s).lnk = s.lnk := rfl
@[simp] theorem setCtx_cus (i : Nat) (c : Ctx) (s : State) : (setCtx i c s).cus = s.cus := rfl
@[simp] theorem setCtx_grv (i : Nat) (c : Ctx) (s : State) : (setCtx i c s).grv = s.grv := rfl
@[simp] theorem setCtx_att (i : Nat) (c : Ctx) (s : State) : (setCtx i c s).att = s.att := rfl
@[simp] theorem setCtx_spdm (i : Nat) (c : Ctx) (s : State) : (setCtx i c s).spdm = s.spdm := rfl
@[simp] theorem setCtx_dis (i : Nat) (c : Ctx) (s : State) : (setCtx i c s).dis = s.dis := rfl
@[simp] theorem setCtx_freeCtr (i : Nat) (c : Ctx) (s : State) : (setCtx i c s).freeCtr = s.freeCtr := rfl

@[simp] theorem modLane_pending (l : Nat) (f : Lane → Lane) (s : State) : (modLane l f s).pending = s.pending := rfl
@[simp] theorem modLane_now (l : Nat) (f : Lane → Lane) (s : State) : (modLane l f s).now = s.now := rfl
@[simp] theorem modLane_out (l : Nat) (f : Lane → Lane) (s : State) : (modLane l f s).out = s.out := rfl
@[simp] theorem modLane_hostMem (l : Nat) (f : Lane → Lane) (s : State) : (modLane l f s).hostMem = s.hostMem := rfl
@[simp] theorem modLane_tel (l : Nat) (f : Lane → Lane) (s : State) : (modLane l f s).tel = s.tel := rfl
@[simp] theorem modLane_slt (l : Nat) (f : Lane → Lane) (s : State) : (modLane l f s).slt = s.slt := rfl
@[simp] theorem modLane_nrg (l : Nat) (f : Lane → Lane) (s : State) : (modLane l f s).nrg = s.nrg := rfl
@[simp] theorem modLane_boot (l : Nat) (f : Lane → Lane) (s : State) : (modLane l f s).boot = s.boot := rfl
@[simp] theorem modLane_fuses (l : Nat) (f : Lane → Lane) (s : State) : (modLane l f s).fuses = s.fuses := rfl
@[simp] theorem modLane_grn (l : Nat) (f : Lane → Lane) (s : State) : (modLane l f s).grn = s.grn := rfl
@[simp] theorem modLane_vault (l : Nat) (f : Lane → Lane) (s : State) : (modLane l f s).vault = s.vault := rfl
@[simp] theorem modLane_ent (l : Nat) (f : Lane → Lane) (s : State) : (modLane l f s).ent = s.ent := rfl
@[simp] theorem modLane_chk (l : Nat) (f : Lane → Lane) (s : State) : (modLane l f s).chk = s.chk := rfl
@[simp] theorem modLane_kpf (l : Nat) (f : Lane → Lane) (s : State) : (modLane l f s).kpf = s.kpf := rfl
@[simp] theorem modLane_tmp (l : Nat) (f : Lane → Lane) (s : State) : (modLane l f s).tmp = s.tmp := rfl
@[simp] theorem modLane_lcy (l : Nat) (f : Lane → Lane) (s : State) : (modLane l f s).lcy = s.lcy := rfl
@[simp] theorem modLane_slp (l : Nat) (f : Lane → Lane) (s : State) : (modLane l f s).slp = s.slp := rfl
@[simp] theorem modLane_env (l : Nat) (f : Lane → Lane) (s : State) : (modLane l f s).env = s.env := rfl
@[simp] theorem modLane_brl (l : Nat) (f : Lane → Lane) (s : State) : (modLane l f s).brl = s.brl := rfl
@[simp] theorem modLane_lvs (l : Nat) (f : Lane → Lane) (s : State) : (modLane l f s).lvs = s.lvs := rfl
@[simp] theorem modLane_hlw (l : Nat) (f : Lane → Lane) (s : State) : (modLane l f s).hlw = s.hlw := rfl
@[simp] theorem modLane_cnp (l : Nat) (f : Lane → Lane) (s : State) : (modLane l f s).cnp = { s.cnp with lanes := tmod {} s.cnp.lanes l f } := rfl
@[simp] theorem modLane_lnk (l : Nat) (f : Lane → Lane) (s : State) : (modLane l f s).lnk = s.lnk := rfl
@[simp] theorem modLane_cus (l : Nat) (f : Lane → Lane) (s : State) : (modLane l f s).cus = s.cus := rfl
@[simp] theorem modLane_grv (l : Nat) (f : Lane → Lane) (s : State) : (modLane l f s).grv = s.grv := rfl
@[simp] theorem modLane_att (l : Nat) (f : Lane → Lane) (s : State) : (modLane l f s).att = s.att := rfl
@[simp] theorem modLane_spdm (l : Nat) (f : Lane → Lane) (s : State) : (modLane l f s).spdm = s.spdm := rfl
@[simp] theorem modLane_dis (l : Nat) (f : Lane → Lane) (s : State) : (modLane l f s).dis = s.dis := rfl
@[simp] theorem modLane_freeCtr (l : Nat) (f : Lane → Lane) (s : State) : (modLane l f s).freeCtr = s.freeCtr := rfl

@[simp] theorem modChan_pending (c : Nat) (f : Chan → Chan) (s : State) : (modChan c f s).pending = s.pending := rfl
@[simp] theorem modChan_now (c : Nat) (f : Chan → Chan) (s : State) : (modChan c f s).now = s.now := rfl
@[simp] theorem modChan_out (c : Nat) (f : Chan → Chan) (s : State) : (modChan c f s).out = s.out := rfl
@[simp] theorem modChan_hostMem (c : Nat) (f : Chan → Chan) (s : State) : (modChan c f s).hostMem = s.hostMem := rfl
@[simp] theorem modChan_tel (c : Nat) (f : Chan → Chan) (s : State) : (modChan c f s).tel = s.tel := rfl
@[simp] theorem modChan_slt (c : Nat) (f : Chan → Chan) (s : State) : (modChan c f s).slt = s.slt := rfl
@[simp] theorem modChan_nrg (c : Nat) (f : Chan → Chan) (s : State) : (modChan c f s).nrg = s.nrg := rfl
@[simp] theorem modChan_boot (c : Nat) (f : Chan → Chan) (s : State) : (modChan c f s).boot = s.boot := rfl
@[simp] theorem modChan_fuses (c : Nat) (f : Chan → Chan) (s : State) : (modChan c f s).fuses = s.fuses := rfl
@[simp] theorem modChan_grn (c : Nat) (f : Chan → Chan) (s : State) : (modChan c f s).grn = s.grn := rfl
@[simp] theorem modChan_vault (c : Nat) (f : Chan → Chan) (s : State) : (modChan c f s).vault = s.vault := rfl
@[simp] theorem modChan_ent (c : Nat) (f : Chan → Chan) (s : State) : (modChan c f s).ent = s.ent := rfl
@[simp] theorem modChan_chk (c : Nat) (f : Chan → Chan) (s : State) : (modChan c f s).chk = s.chk := rfl
@[simp] theorem modChan_kpf (c : Nat) (f : Chan → Chan) (s : State) : (modChan c f s).kpf = s.kpf := rfl
@[simp] theorem modChan_tmp (c : Nat) (f : Chan → Chan) (s : State) : (modChan c f s).tmp = s.tmp := rfl
@[simp] theorem modChan_lcy (c : Nat) (f : Chan → Chan) (s : State) : (modChan c f s).lcy = s.lcy := rfl
@[simp] theorem modChan_slp (c : Nat) (f : Chan → Chan) (s : State) : (modChan c f s).slp = s.slp := rfl
@[simp] theorem modChan_env (c : Nat) (f : Chan → Chan) (s : State) : (modChan c f s).env = s.env := rfl
@[simp] theorem modChan_brl (c : Nat) (f : Chan → Chan) (s : State) : (modChan c f s).brl = s.brl := rfl
@[simp] theorem modChan_lvs (c : Nat) (f : Chan → Chan) (s : State) : (modChan c f s).lvs = s.lvs := rfl
@[simp] theorem modChan_hlw (c : Nat) (f : Chan → Chan) (s : State) : (modChan c f s).hlw = s.hlw := rfl
@[simp] theorem modChan_cnp (c : Nat) (f : Chan → Chan) (s : State) : (modChan c f s).cnp = { s.cnp with chans := tmod {} s.cnp.chans c f } := rfl
@[simp] theorem modChan_lnk (c : Nat) (f : Chan → Chan) (s : State) : (modChan c f s).lnk = s.lnk := rfl
@[simp] theorem modChan_cus (c : Nat) (f : Chan → Chan) (s : State) : (modChan c f s).cus = s.cus := rfl
@[simp] theorem modChan_grv (c : Nat) (f : Chan → Chan) (s : State) : (modChan c f s).grv = s.grv := rfl
@[simp] theorem modChan_att (c : Nat) (f : Chan → Chan) (s : State) : (modChan c f s).att = s.att := rfl
@[simp] theorem modChan_spdm (c : Nat) (f : Chan → Chan) (s : State) : (modChan c f s).spdm = s.spdm := rfl
@[simp] theorem modChan_dis (c : Nat) (f : Chan → Chan) (s : State) : (modChan c f s).dis = s.dis := rfl
@[simp] theorem modChan_freeCtr (c : Nat) (f : Chan → Chan) (s : State) : (modChan c f s).freeCtr = s.freeCtr := rfl

@[simp] theorem setChk_pending (u : Nat) (c : Chk) (s : State) : (setChk u c s).pending = s.pending := rfl
@[simp] theorem setChk_now (u : Nat) (c : Chk) (s : State) : (setChk u c s).now = s.now := rfl
@[simp] theorem setChk_out (u : Nat) (c : Chk) (s : State) : (setChk u c s).out = s.out := rfl
@[simp] theorem setChk_hostMem (u : Nat) (c : Chk) (s : State) : (setChk u c s).hostMem = s.hostMem := rfl
@[simp] theorem setChk_tel (u : Nat) (c : Chk) (s : State) : (setChk u c s).tel = s.tel := rfl
@[simp] theorem setChk_slt (u : Nat) (c : Chk) (s : State) : (setChk u c s).slt = s.slt := rfl
@[simp] theorem setChk_nrg (u : Nat) (c : Chk) (s : State) : (setChk u c s).nrg = s.nrg := rfl
@[simp] theorem setChk_boot (u : Nat) (c : Chk) (s : State) : (setChk u c s).boot = s.boot := rfl
@[simp] theorem setChk_fuses (u : Nat) (c : Chk) (s : State) : (setChk u c s).fuses = s.fuses := rfl
@[simp] theorem setChk_grn (u : Nat) (c : Chk) (s : State) : (setChk u c s).grn = s.grn := rfl
@[simp] theorem setChk_vault (u : Nat) (c : Chk) (s : State) : (setChk u c s).vault = s.vault := rfl
@[simp] theorem setChk_ent (u : Nat) (c : Chk) (s : State) : (setChk u c s).ent = s.ent := rfl
@[simp] theorem setChk_chk (u : Nat) (c : Chk) (s : State) : (setChk u c s).chk = tset {} s.chk u c := rfl
@[simp] theorem setChk_kpf (u : Nat) (c : Chk) (s : State) : (setChk u c s).kpf = s.kpf := rfl
@[simp] theorem setChk_tmp (u : Nat) (c : Chk) (s : State) : (setChk u c s).tmp = s.tmp := rfl
@[simp] theorem setChk_lcy (u : Nat) (c : Chk) (s : State) : (setChk u c s).lcy = s.lcy := rfl
@[simp] theorem setChk_slp (u : Nat) (c : Chk) (s : State) : (setChk u c s).slp = s.slp := rfl
@[simp] theorem setChk_env (u : Nat) (c : Chk) (s : State) : (setChk u c s).env = s.env := rfl
@[simp] theorem setChk_brl (u : Nat) (c : Chk) (s : State) : (setChk u c s).brl = s.brl := rfl
@[simp] theorem setChk_lvs (u : Nat) (c : Chk) (s : State) : (setChk u c s).lvs = s.lvs := rfl
@[simp] theorem setChk_hlw (u : Nat) (c : Chk) (s : State) : (setChk u c s).hlw = s.hlw := rfl
@[simp] theorem setChk_cnp (u : Nat) (c : Chk) (s : State) : (setChk u c s).cnp = s.cnp := rfl
@[simp] theorem setChk_lnk (u : Nat) (c : Chk) (s : State) : (setChk u c s).lnk = s.lnk := rfl
@[simp] theorem setChk_cus (u : Nat) (c : Chk) (s : State) : (setChk u c s).cus = s.cus := rfl
@[simp] theorem setChk_grv (u : Nat) (c : Chk) (s : State) : (setChk u c s).grv = s.grv := rfl
@[simp] theorem setChk_att (u : Nat) (c : Chk) (s : State) : (setChk u c s).att = s.att := rfl
@[simp] theorem setChk_spdm (u : Nat) (c : Chk) (s : State) : (setChk u c s).spdm = s.spdm := rfl
@[simp] theorem setChk_dis (u : Nat) (c : Chk) (s : State) : (setChk u c s).dis = s.dis := rfl
@[simp] theorem setChk_freeCtr (u : Nat) (c : Chk) (s : State) : (setChk u c s).freeCtr = s.freeCtr := rfl

@[simp] theorem modCus_pending (f : Cus → Cus) (s : State) : (modCus f s).pending = s.pending := rfl
@[simp] theorem modCus_now (f : Cus → Cus) (s : State) : (modCus f s).now = s.now := rfl
@[simp] theorem modCus_out (f : Cus → Cus) (s : State) : (modCus f s).out = s.out := rfl
@[simp] theorem modCus_hostMem (f : Cus → Cus) (s : State) : (modCus f s).hostMem = s.hostMem := rfl
@[simp] theorem modCus_tel (f : Cus → Cus) (s : State) : (modCus f s).tel = s.tel := rfl
@[simp] theorem modCus_slt (f : Cus → Cus) (s : State) : (modCus f s).slt = s.slt := rfl
@[simp] theorem modCus_nrg (f : Cus → Cus) (s : State) : (modCus f s).nrg = s.nrg := rfl
@[simp] theorem modCus_boot (f : Cus → Cus) (s : State) : (modCus f s).boot = s.boot := rfl
@[simp] theorem modCus_fuses (f : Cus → Cus) (s : State) : (modCus f s).fuses = s.fuses := rfl
@[simp] theorem modCus_grn (f : Cus → Cus) (s : State) : (modCus f s).grn = s.grn := rfl
@[simp] theorem modCus_vault (f : Cus → Cus) (s : State) : (modCus f s).vault = s.vault := rfl
@[simp] theorem modCus_ent (f : Cus → Cus) (s : State) : (modCus f s).ent = s.ent := rfl
@[simp] theorem modCus_chk (f : Cus → Cus) (s : State) : (modCus f s).chk = s.chk := rfl
@[simp] theorem modCus_kpf (f : Cus → Cus) (s : State) : (modCus f s).kpf = s.kpf := rfl
@[simp] theorem modCus_tmp (f : Cus → Cus) (s : State) : (modCus f s).tmp = s.tmp := rfl
@[simp] theorem modCus_lcy (f : Cus → Cus) (s : State) : (modCus f s).lcy = s.lcy := rfl
@[simp] theorem modCus_slp (f : Cus → Cus) (s : State) : (modCus f s).slp = s.slp := rfl
@[simp] theorem modCus_env (f : Cus → Cus) (s : State) : (modCus f s).env = s.env := rfl
@[simp] theorem modCus_brl (f : Cus → Cus) (s : State) : (modCus f s).brl = s.brl := rfl
@[simp] theorem modCus_lvs (f : Cus → Cus) (s : State) : (modCus f s).lvs = s.lvs := rfl
@[simp] theorem modCus_hlw (f : Cus → Cus) (s : State) : (modCus f s).hlw = s.hlw := rfl
@[simp] theorem modCus_cnp (f : Cus → Cus) (s : State) : (modCus f s).cnp = s.cnp := rfl
@[simp] theorem modCus_lnk (f : Cus → Cus) (s : State) : (modCus f s).lnk = s.lnk := rfl
@[simp] theorem modCus_cus (f : Cus → Cus) (s : State) : (modCus f s).cus = f s.cus := rfl
@[simp] theorem modCus_grv (f : Cus → Cus) (s : State) : (modCus f s).grv = s.grv := rfl
@[simp] theorem modCus_att (f : Cus → Cus) (s : State) : (modCus f s).att = s.att := rfl
@[simp] theorem modCus_spdm (f : Cus → Cus) (s : State) : (modCus f s).spdm = s.spdm := rfl
@[simp] theorem modCus_dis (f : Cus → Cus) (s : State) : (modCus f s).dis = s.dis := rfl
@[simp] theorem modCus_freeCtr (f : Cus → Cus) (s : State) : (modCus f s).freeCtr = s.freeCtr := rfl

@[simp] theorem modCdom_pending (d : Nat) (f : CusDom → CusDom) (s : State) : (modCdom d f s).pending = s.pending := rfl
@[simp] theorem modCdom_now (d : Nat) (f : CusDom → CusDom) (s : State) : (modCdom d f s).now = s.now := rfl
@[simp] theorem modCdom_out (d : Nat) (f : CusDom → CusDom) (s : State) : (modCdom d f s).out = s.out := rfl
@[simp] theorem modCdom_hostMem (d : Nat) (f : CusDom → CusDom) (s : State) : (modCdom d f s).hostMem = s.hostMem := rfl
@[simp] theorem modCdom_tel (d : Nat) (f : CusDom → CusDom) (s : State) : (modCdom d f s).tel = s.tel := rfl
@[simp] theorem modCdom_slt (d : Nat) (f : CusDom → CusDom) (s : State) : (modCdom d f s).slt = s.slt := rfl
@[simp] theorem modCdom_nrg (d : Nat) (f : CusDom → CusDom) (s : State) : (modCdom d f s).nrg = s.nrg := rfl
@[simp] theorem modCdom_boot (d : Nat) (f : CusDom → CusDom) (s : State) : (modCdom d f s).boot = s.boot := rfl
@[simp] theorem modCdom_fuses (d : Nat) (f : CusDom → CusDom) (s : State) : (modCdom d f s).fuses = s.fuses := rfl
@[simp] theorem modCdom_grn (d : Nat) (f : CusDom → CusDom) (s : State) : (modCdom d f s).grn = s.grn := rfl
@[simp] theorem modCdom_vault (d : Nat) (f : CusDom → CusDom) (s : State) : (modCdom d f s).vault = s.vault := rfl
@[simp] theorem modCdom_ent (d : Nat) (f : CusDom → CusDom) (s : State) : (modCdom d f s).ent = s.ent := rfl
@[simp] theorem modCdom_chk (d : Nat) (f : CusDom → CusDom) (s : State) : (modCdom d f s).chk = s.chk := rfl
@[simp] theorem modCdom_kpf (d : Nat) (f : CusDom → CusDom) (s : State) : (modCdom d f s).kpf = s.kpf := rfl
@[simp] theorem modCdom_tmp (d : Nat) (f : CusDom → CusDom) (s : State) : (modCdom d f s).tmp = s.tmp := rfl
@[simp] theorem modCdom_lcy (d : Nat) (f : CusDom → CusDom) (s : State) : (modCdom d f s).lcy = s.lcy := rfl
@[simp] theorem modCdom_slp (d : Nat) (f : CusDom → CusDom) (s : State) : (modCdom d f s).slp = s.slp := rfl
@[simp] theorem modCdom_env (d : Nat) (f : CusDom → CusDom) (s : State) : (modCdom d f s).env = s.env := rfl
@[simp] theorem modCdom_brl (d : Nat) (f : CusDom → CusDom) (s : State) : (modCdom d f s).brl = s.brl := rfl
@[simp] theorem modCdom_lvs (d : Nat) (f : CusDom → CusDom) (s : State) : (modCdom d f s).lvs = s.lvs := rfl
@[simp] theorem modCdom_hlw (d : Nat) (f : CusDom → CusDom) (s : State) : (modCdom d f s).hlw = s.hlw := rfl
@[simp] theorem modCdom_cnp (d : Nat) (f : CusDom → CusDom) (s : State) : (modCdom d f s).cnp = s.cnp := rfl
@[simp] theorem modCdom_lnk (d : Nat) (f : CusDom → CusDom) (s : State) : (modCdom d f s).lnk = s.lnk := rfl
@[simp] theorem modCdom_cus (d : Nat) (f : CusDom → CusDom) (s : State) : (modCdom d f s).cus = { s.cus with dom := tmod {} s.cus.dom d f } := rfl
@[simp] theorem modCdom_grv (d : Nat) (f : CusDom → CusDom) (s : State) : (modCdom d f s).grv = s.grv := rfl
@[simp] theorem modCdom_att (d : Nat) (f : CusDom → CusDom) (s : State) : (modCdom d f s).att = s.att := rfl
@[simp] theorem modCdom_spdm (d : Nat) (f : CusDom → CusDom) (s : State) : (modCdom d f s).spdm = s.spdm := rfl
@[simp] theorem modCdom_dis (d : Nat) (f : CusDom → CusDom) (s : State) : (modCdom d f s).dis = s.dis := rfl
@[simp] theorem modCdom_freeCtr (d : Nat) (f : CusDom → CusDom) (s : State) : (modCdom d f s).freeCtr = s.freeCtr := rfl

@[simp] theorem modFlt_pending (d : Nat) (f : Flt → Flt) (s : State) : (modFlt d f s).pending = s.pending := rfl
@[simp] theorem modFlt_now (d : Nat) (f : Flt → Flt) (s : State) : (modFlt d f s).now = s.now := rfl
@[simp] theorem modFlt_out (d : Nat) (f : Flt → Flt) (s : State) : (modFlt d f s).out = s.out := rfl
@[simp] theorem modFlt_hostMem (d : Nat) (f : Flt → Flt) (s : State) : (modFlt d f s).hostMem = s.hostMem := rfl
@[simp] theorem modFlt_tel (d : Nat) (f : Flt → Flt) (s : State) : (modFlt d f s).tel = s.tel := rfl
@[simp] theorem modFlt_slt (d : Nat) (f : Flt → Flt) (s : State) : (modFlt d f s).slt = s.slt := rfl
@[simp] theorem modFlt_nrg (d : Nat) (f : Flt → Flt) (s : State) : (modFlt d f s).nrg = s.nrg := rfl
@[simp] theorem modFlt_boot (d : Nat) (f : Flt → Flt) (s : State) : (modFlt d f s).boot = s.boot := rfl
@[simp] theorem modFlt_fuses (d : Nat) (f : Flt → Flt) (s : State) : (modFlt d f s).fuses = s.fuses := rfl
@[simp] theorem modFlt_grn (d : Nat) (f : Flt → Flt) (s : State) : (modFlt d f s).grn = s.grn := rfl
@[simp] theorem modFlt_vault (d : Nat) (f : Flt → Flt) (s : State) : (modFlt d f s).vault = s.vault := rfl
@[simp] theorem modFlt_ent (d : Nat) (f : Flt → Flt) (s : State) : (modFlt d f s).ent = s.ent := rfl
@[simp] theorem modFlt_chk (d : Nat) (f : Flt → Flt) (s : State) : (modFlt d f s).chk = s.chk := rfl
@[simp] theorem modFlt_kpf (d : Nat) (f : Flt → Flt) (s : State) : (modFlt d f s).kpf = s.kpf := rfl
@[simp] theorem modFlt_tmp (d : Nat) (f : Flt → Flt) (s : State) : (modFlt d f s).tmp = s.tmp := rfl
@[simp] theorem modFlt_lcy (d : Nat) (f : Flt → Flt) (s : State) : (modFlt d f s).lcy = s.lcy := rfl
@[simp] theorem modFlt_slp (d : Nat) (f : Flt → Flt) (s : State) : (modFlt d f s).slp = s.slp := rfl
@[simp] theorem modFlt_env (d : Nat) (f : Flt → Flt) (s : State) : (modFlt d f s).env = s.env := rfl
@[simp] theorem modFlt_brl (d : Nat) (f : Flt → Flt) (s : State) : (modFlt d f s).brl = s.brl := rfl
@[simp] theorem modFlt_lvs (d : Nat) (f : Flt → Flt) (s : State) : (modFlt d f s).lvs = s.lvs := rfl
@[simp] theorem modFlt_hlw (d : Nat) (f : Flt → Flt) (s : State) : (modFlt d f s).hlw = s.hlw := rfl
@[simp] theorem modFlt_cnp (d : Nat) (f : Flt → Flt) (s : State) : (modFlt d f s).cnp = s.cnp := rfl
@[simp] theorem modFlt_lnk (d : Nat) (f : Flt → Flt) (s : State) : (modFlt d f s).lnk = s.lnk := rfl
@[simp] theorem modFlt_cus (d : Nat) (f : Flt → Flt) (s : State) : (modFlt d f s).cus = { s.cus with dom := tmod {} s.cus.dom d (fun x => { x with flt := f x.flt }) } := rfl
@[simp] theorem modFlt_grv (d : Nat) (f : Flt → Flt) (s : State) : (modFlt d f s).grv = s.grv := rfl
@[simp] theorem modFlt_att (d : Nat) (f : Flt → Flt) (s : State) : (modFlt d f s).att = s.att := rfl
@[simp] theorem modFlt_spdm (d : Nat) (f : Flt → Flt) (s : State) : (modFlt d f s).spdm = s.spdm := rfl
@[simp] theorem modFlt_dis (d : Nat) (f : Flt → Flt) (s : State) : (modFlt d f s).dis = s.dis := rfl
@[simp] theorem modFlt_freeCtr (d : Nat) (f : Flt → Flt) (s : State) : (modFlt d f s).freeCtr = s.freeCtr := rfl

@[simp] theorem modDis_pending (u : UnitId) (f : Dis → Dis) (s : State) : (modDis u f s).pending = s.pending := rfl
@[simp] theorem modDis_now (u : UnitId) (f : Dis → Dis) (s : State) : (modDis u f s).now = s.now := rfl
@[simp] theorem modDis_out (u : UnitId) (f : Dis → Dis) (s : State) : (modDis u f s).out = s.out := rfl
@[simp] theorem modDis_hostMem (u : UnitId) (f : Dis → Dis) (s : State) : (modDis u f s).hostMem = s.hostMem := rfl
@[simp] theorem modDis_tel (u : UnitId) (f : Dis → Dis) (s : State) : (modDis u f s).tel = s.tel := rfl
@[simp] theorem modDis_slt (u : UnitId) (f : Dis → Dis) (s : State) : (modDis u f s).slt = s.slt := rfl
@[simp] theorem modDis_nrg (u : UnitId) (f : Dis → Dis) (s : State) : (modDis u f s).nrg = s.nrg := rfl
@[simp] theorem modDis_boot (u : UnitId) (f : Dis → Dis) (s : State) : (modDis u f s).boot = s.boot := rfl
@[simp] theorem modDis_fuses (u : UnitId) (f : Dis → Dis) (s : State) : (modDis u f s).fuses = s.fuses := rfl
@[simp] theorem modDis_grn (u : UnitId) (f : Dis → Dis) (s : State) : (modDis u f s).grn = s.grn := rfl
@[simp] theorem modDis_vault (u : UnitId) (f : Dis → Dis) (s : State) : (modDis u f s).vault = s.vault := rfl
@[simp] theorem modDis_ent (u : UnitId) (f : Dis → Dis) (s : State) : (modDis u f s).ent = s.ent := rfl
@[simp] theorem modDis_chk (u : UnitId) (f : Dis → Dis) (s : State) : (modDis u f s).chk = s.chk := rfl
@[simp] theorem modDis_kpf (u : UnitId) (f : Dis → Dis) (s : State) : (modDis u f s).kpf = s.kpf := rfl
@[simp] theorem modDis_tmp (u : UnitId) (f : Dis → Dis) (s : State) : (modDis u f s).tmp = s.tmp := rfl
@[simp] theorem modDis_lcy (u : UnitId) (f : Dis → Dis) (s : State) : (modDis u f s).lcy = s.lcy := rfl
@[simp] theorem modDis_slp (u : UnitId) (f : Dis → Dis) (s : State) : (modDis u f s).slp = s.slp := rfl
@[simp] theorem modDis_env (u : UnitId) (f : Dis → Dis) (s : State) : (modDis u f s).env = s.env := rfl
@[simp] theorem modDis_brl (u : UnitId) (f : Dis → Dis) (s : State) : (modDis u f s).brl = s.brl := rfl
@[simp] theorem modDis_lvs (u : UnitId) (f : Dis → Dis) (s : State) : (modDis u f s).lvs = s.lvs := rfl
@[simp] theorem modDis_hlw (u : UnitId) (f : Dis → Dis) (s : State) : (modDis u f s).hlw = s.hlw := rfl
@[simp] theorem modDis_cnp (u : UnitId) (f : Dis → Dis) (s : State) : (modDis u f s).cnp = s.cnp := rfl
@[simp] theorem modDis_lnk (u : UnitId) (f : Dis → Dis) (s : State) : (modDis u f s).lnk = s.lnk := rfl
@[simp] theorem modDis_cus (u : UnitId) (f : Dis → Dis) (s : State) : (modDis u f s).cus = s.cus := rfl
@[simp] theorem modDis_grv (u : UnitId) (f : Dis → Dis) (s : State) : (modDis u f s).grv = s.grv := rfl
@[simp] theorem modDis_att (u : UnitId) (f : Dis → Dis) (s : State) : (modDis u f s).att = s.att := rfl
@[simp] theorem modDis_spdm (u : UnitId) (f : Dis → Dis) (s : State) : (modDis u f s).spdm = s.spdm := rfl
@[simp] theorem modDis_dis (u : UnitId) (f : Dis → Dis) (s : State) : (modDis u f s).dis = tmod {} s.dis (unitKey u) f := rfl
@[simp] theorem modDis_freeCtr (u : UnitId) (f : Dis → Dis) (s : State) : (modDis u f s).freeCtr = s.freeCtr := rfl

@[simp] theorem setNoise_pending (i : Nat) (n : Noise) (s : State) : (setNoise i n s).pending = s.pending := rfl
@[simp] theorem setNoise_now (i : Nat) (n : Noise) (s : State) : (setNoise i n s).now = s.now := rfl
@[simp] theorem setNoise_out (i : Nat) (n : Noise) (s : State) : (setNoise i n s).out = s.out := rfl
@[simp] theorem setNoise_hostMem (i : Nat) (n : Noise) (s : State) : (setNoise i n s).hostMem = s.hostMem := rfl
@[simp] theorem setNoise_tel (i : Nat) (n : Noise) (s : State) : (setNoise i n s).tel = s.tel := rfl
@[simp] theorem setNoise_slt (i : Nat) (n : Noise) (s : State) : (setNoise i n s).slt = s.slt := rfl
@[simp] theorem setNoise_nrg (i : Nat) (n : Noise) (s : State) : (setNoise i n s).nrg = s.nrg := rfl
@[simp] theorem setNoise_boot (i : Nat) (n : Noise) (s : State) : (setNoise i n s).boot = s.boot := rfl
@[simp] theorem setNoise_fuses (i : Nat) (n : Noise) (s : State) : (setNoise i n s).fuses = s.fuses := rfl
@[simp] theorem setNoise_grn (i : Nat) (n : Noise) (s : State) : (setNoise i n s).grn = s.grn := rfl
@[simp] theorem setNoise_vault (i : Nat) (n : Noise) (s : State) : (setNoise i n s).vault = s.vault := rfl
@[simp] theorem setNoise_ent (i : Nat) (n : Noise) (s : State) : (setNoise i n s).ent = { s.ent with src := tset {} s.ent.src i n } := rfl
@[simp] theorem setNoise_chk (i : Nat) (n : Noise) (s : State) : (setNoise i n s).chk = s.chk := rfl
@[simp] theorem setNoise_kpf (i : Nat) (n : Noise) (s : State) : (setNoise i n s).kpf = s.kpf := rfl
@[simp] theorem setNoise_tmp (i : Nat) (n : Noise) (s : State) : (setNoise i n s).tmp = s.tmp := rfl
@[simp] theorem setNoise_lcy (i : Nat) (n : Noise) (s : State) : (setNoise i n s).lcy = s.lcy := rfl
@[simp] theorem setNoise_slp (i : Nat) (n : Noise) (s : State) : (setNoise i n s).slp = s.slp := rfl
@[simp] theorem setNoise_env (i : Nat) (n : Noise) (s : State) : (setNoise i n s).env = s.env := rfl
@[simp] theorem setNoise_brl (i : Nat) (n : Noise) (s : State) : (setNoise i n s).brl = s.brl := rfl
@[simp] theorem setNoise_lvs (i : Nat) (n : Noise) (s : State) : (setNoise i n s).lvs = s.lvs := rfl
@[simp] theorem setNoise_hlw (i : Nat) (n : Noise) (s : State) : (setNoise i n s).hlw = s.hlw := rfl
@[simp] theorem setNoise_cnp (i : Nat) (n : Noise) (s : State) : (setNoise i n s).cnp = s.cnp := rfl
@[simp] theorem setNoise_lnk (i : Nat) (n : Noise) (s : State) : (setNoise i n s).lnk = s.lnk := rfl
@[simp] theorem setNoise_cus (i : Nat) (n : Noise) (s : State) : (setNoise i n s).cus = s.cus := rfl
@[simp] theorem setNoise_grv (i : Nat) (n : Noise) (s : State) : (setNoise i n s).grv = s.grv := rfl
@[simp] theorem setNoise_att (i : Nat) (n : Noise) (s : State) : (setNoise i n s).att = s.att := rfl
@[simp] theorem setNoise_spdm (i : Nat) (n : Noise) (s : State) : (setNoise i n s).spdm = s.spdm := rfl
@[simp] theorem setNoise_dis (i : Nat) (n : Noise) (s : State) : (setNoise i n s).dis = s.dis := rfl
@[simp] theorem setNoise_freeCtr (i : Nat) (n : Noise) (s : State) : (setNoise i n s).freeCtr = s.freeCtr := rfl

@[simp] theorem setDrbg_pending (i : Nat) (d : DrbgInst) (s : State) : (setDrbg i d s).pending = s.pending := rfl
@[simp] theorem setDrbg_now (i : Nat) (d : DrbgInst) (s : State) : (setDrbg i d s).now = s.now := rfl
@[simp] theorem setDrbg_out (i : Nat) (d : DrbgInst) (s : State) : (setDrbg i d s).out = s.out := rfl
@[simp] theorem setDrbg_hostMem (i : Nat) (d : DrbgInst) (s : State) : (setDrbg i d s).hostMem = s.hostMem := rfl
@[simp] theorem setDrbg_tel (i : Nat) (d : DrbgInst) (s : State) : (setDrbg i d s).tel = s.tel := rfl
@[simp] theorem setDrbg_slt (i : Nat) (d : DrbgInst) (s : State) : (setDrbg i d s).slt = s.slt := rfl
@[simp] theorem setDrbg_nrg (i : Nat) (d : DrbgInst) (s : State) : (setDrbg i d s).nrg = s.nrg := rfl
@[simp] theorem setDrbg_boot (i : Nat) (d : DrbgInst) (s : State) : (setDrbg i d s).boot = s.boot := rfl
@[simp] theorem setDrbg_fuses (i : Nat) (d : DrbgInst) (s : State) : (setDrbg i d s).fuses = s.fuses := rfl
@[simp] theorem setDrbg_grn (i : Nat) (d : DrbgInst) (s : State) : (setDrbg i d s).grn = s.grn := rfl
@[simp] theorem setDrbg_vault (i : Nat) (d : DrbgInst) (s : State) : (setDrbg i d s).vault = s.vault := rfl
@[simp] theorem setDrbg_ent (i : Nat) (d : DrbgInst) (s : State) : (setDrbg i d s).ent = { s.ent with drbg := tset {} s.ent.drbg i d } := rfl
@[simp] theorem setDrbg_chk (i : Nat) (d : DrbgInst) (s : State) : (setDrbg i d s).chk = s.chk := rfl
@[simp] theorem setDrbg_kpf (i : Nat) (d : DrbgInst) (s : State) : (setDrbg i d s).kpf = s.kpf := rfl
@[simp] theorem setDrbg_tmp (i : Nat) (d : DrbgInst) (s : State) : (setDrbg i d s).tmp = s.tmp := rfl
@[simp] theorem setDrbg_lcy (i : Nat) (d : DrbgInst) (s : State) : (setDrbg i d s).lcy = s.lcy := rfl
@[simp] theorem setDrbg_slp (i : Nat) (d : DrbgInst) (s : State) : (setDrbg i d s).slp = s.slp := rfl
@[simp] theorem setDrbg_env (i : Nat) (d : DrbgInst) (s : State) : (setDrbg i d s).env = s.env := rfl
@[simp] theorem setDrbg_brl (i : Nat) (d : DrbgInst) (s : State) : (setDrbg i d s).brl = s.brl := rfl
@[simp] theorem setDrbg_lvs (i : Nat) (d : DrbgInst) (s : State) : (setDrbg i d s).lvs = s.lvs := rfl
@[simp] theorem setDrbg_hlw (i : Nat) (d : DrbgInst) (s : State) : (setDrbg i d s).hlw = s.hlw := rfl
@[simp] theorem setDrbg_cnp (i : Nat) (d : DrbgInst) (s : State) : (setDrbg i d s).cnp = s.cnp := rfl
@[simp] theorem setDrbg_lnk (i : Nat) (d : DrbgInst) (s : State) : (setDrbg i d s).lnk = s.lnk := rfl
@[simp] theorem setDrbg_cus (i : Nat) (d : DrbgInst) (s : State) : (setDrbg i d s).cus = s.cus := rfl
@[simp] theorem setDrbg_grv (i : Nat) (d : DrbgInst) (s : State) : (setDrbg i d s).grv = s.grv := rfl
@[simp] theorem setDrbg_att (i : Nat) (d : DrbgInst) (s : State) : (setDrbg i d s).att = s.att := rfl
@[simp] theorem setDrbg_spdm (i : Nat) (d : DrbgInst) (s : State) : (setDrbg i d s).spdm = s.spdm := rfl
@[simp] theorem setDrbg_dis (i : Nat) (d : DrbgInst) (s : State) : (setDrbg i d s).dis = s.dis := rfl
@[simp] theorem setDrbg_freeCtr (i : Nat) (d : DrbgInst) (s : State) : (setDrbg i d s).freeCtr = s.freeCtr := rfl

@[simp] theorem modGrv_pending (f : Grv → Grv) (s : State) : (modGrv f s).pending = s.pending := rfl
@[simp] theorem modGrv_now (f : Grv → Grv) (s : State) : (modGrv f s).now = s.now := rfl
@[simp] theorem modGrv_out (f : Grv → Grv) (s : State) : (modGrv f s).out = s.out := rfl
@[simp] theorem modGrv_hostMem (f : Grv → Grv) (s : State) : (modGrv f s).hostMem = s.hostMem := rfl
@[simp] theorem modGrv_tel (f : Grv → Grv) (s : State) : (modGrv f s).tel = s.tel := rfl
@[simp] theorem modGrv_slt (f : Grv → Grv) (s : State) : (modGrv f s).slt = s.slt := rfl
@[simp] theorem modGrv_nrg (f : Grv → Grv) (s : State) : (modGrv f s).nrg = s.nrg := rfl
@[simp] theorem modGrv_boot (f : Grv → Grv) (s : State) : (modGrv f s).boot = s.boot := rfl
@[simp] theorem modGrv_fuses (f : Grv → Grv) (s : State) : (modGrv f s).fuses = s.fuses := rfl
@[simp] theorem modGrv_grn (f : Grv → Grv) (s : State) : (modGrv f s).grn = s.grn := rfl
@[simp] theorem modGrv_vault (f : Grv → Grv) (s : State) : (modGrv f s).vault = s.vault := rfl
@[simp] theorem modGrv_ent (f : Grv → Grv) (s : State) : (modGrv f s).ent = s.ent := rfl
@[simp] theorem modGrv_chk (f : Grv → Grv) (s : State) : (modGrv f s).chk = s.chk := rfl
@[simp] theorem modGrv_kpf (f : Grv → Grv) (s : State) : (modGrv f s).kpf = s.kpf := rfl
@[simp] theorem modGrv_tmp (f : Grv → Grv) (s : State) : (modGrv f s).tmp = s.tmp := rfl
@[simp] theorem modGrv_lcy (f : Grv → Grv) (s : State) : (modGrv f s).lcy = s.lcy := rfl
@[simp] theorem modGrv_slp (f : Grv → Grv) (s : State) : (modGrv f s).slp = s.slp := rfl
@[simp] theorem modGrv_env (f : Grv → Grv) (s : State) : (modGrv f s).env = s.env := rfl
@[simp] theorem modGrv_brl (f : Grv → Grv) (s : State) : (modGrv f s).brl = s.brl := rfl
@[simp] theorem modGrv_lvs (f : Grv → Grv) (s : State) : (modGrv f s).lvs = s.lvs := rfl
@[simp] theorem modGrv_hlw (f : Grv → Grv) (s : State) : (modGrv f s).hlw = s.hlw := rfl
@[simp] theorem modGrv_cnp (f : Grv → Grv) (s : State) : (modGrv f s).cnp = s.cnp := rfl
@[simp] theorem modGrv_lnk (f : Grv → Grv) (s : State) : (modGrv f s).lnk = s.lnk := rfl
@[simp] theorem modGrv_cus (f : Grv → Grv) (s : State) : (modGrv f s).cus = s.cus := rfl
@[simp] theorem modGrv_grv (f : Grv → Grv) (s : State) : (modGrv f s).grv = f s.grv := rfl
@[simp] theorem modGrv_att (f : Grv → Grv) (s : State) : (modGrv f s).att = s.att := rfl
@[simp] theorem modGrv_spdm (f : Grv → Grv) (s : State) : (modGrv f s).spdm = s.spdm := rfl
@[simp] theorem modGrv_dis (f : Grv → Grv) (s : State) : (modGrv f s).dis = s.dis := rfl
@[simp] theorem modGrv_freeCtr (f : Grv → Grv) (s : State) : (modGrv f s).freeCtr = s.freeCtr := rfl

@[simp] theorem setHchan_pending (c : Nat) (x : Hchan) (s : State) : (setHchan c x s).pending = s.pending := rfl
@[simp] theorem setHchan_now (c : Nat) (x : Hchan) (s : State) : (setHchan c x s).now = s.now := rfl
@[simp] theorem setHchan_out (c : Nat) (x : Hchan) (s : State) : (setHchan c x s).out = s.out := rfl
@[simp] theorem setHchan_hostMem (c : Nat) (x : Hchan) (s : State) : (setHchan c x s).hostMem = s.hostMem := rfl
@[simp] theorem setHchan_tel (c : Nat) (x : Hchan) (s : State) : (setHchan c x s).tel = s.tel := rfl
@[simp] theorem setHchan_slt (c : Nat) (x : Hchan) (s : State) : (setHchan c x s).slt = s.slt := rfl
@[simp] theorem setHchan_nrg (c : Nat) (x : Hchan) (s : State) : (setHchan c x s).nrg = s.nrg := rfl
@[simp] theorem setHchan_boot (c : Nat) (x : Hchan) (s : State) : (setHchan c x s).boot = s.boot := rfl
@[simp] theorem setHchan_fuses (c : Nat) (x : Hchan) (s : State) : (setHchan c x s).fuses = s.fuses := rfl
@[simp] theorem setHchan_grn (c : Nat) (x : Hchan) (s : State) : (setHchan c x s).grn = s.grn := rfl
@[simp] theorem setHchan_vault (c : Nat) (x : Hchan) (s : State) : (setHchan c x s).vault = s.vault := rfl
@[simp] theorem setHchan_ent (c : Nat) (x : Hchan) (s : State) : (setHchan c x s).ent = s.ent := rfl
@[simp] theorem setHchan_chk (c : Nat) (x : Hchan) (s : State) : (setHchan c x s).chk = s.chk := rfl
@[simp] theorem setHchan_kpf (c : Nat) (x : Hchan) (s : State) : (setHchan c x s).kpf = s.kpf := rfl
@[simp] theorem setHchan_tmp (c : Nat) (x : Hchan) (s : State) : (setHchan c x s).tmp = s.tmp := rfl
@[simp] theorem setHchan_lcy (c : Nat) (x : Hchan) (s : State) : (setHchan c x s).lcy = s.lcy := rfl
@[simp] theorem setHchan_slp (c : Nat) (x : Hchan) (s : State) : (setHchan c x s).slp = s.slp := rfl
@[simp] theorem setHchan_env (c : Nat) (x : Hchan) (s : State) : (setHchan c x s).env = s.env := rfl
@[simp] theorem setHchan_brl (c : Nat) (x : Hchan) (s : State) : (setHchan c x s).brl = s.brl := rfl
@[simp] theorem setHchan_lvs (c : Nat) (x : Hchan) (s : State) : (setHchan c x s).lvs = s.lvs := rfl
@[simp] theorem setHchan_hlw (c : Nat) (x : Hchan) (s : State) : (setHchan c x s).hlw = { s.hlw with chan := tset {} s.hlw.chan c x } := rfl
@[simp] theorem setHchan_cnp (c : Nat) (x : Hchan) (s : State) : (setHchan c x s).cnp = s.cnp := rfl
@[simp] theorem setHchan_lnk (c : Nat) (x : Hchan) (s : State) : (setHchan c x s).lnk = s.lnk := rfl
@[simp] theorem setHchan_cus (c : Nat) (x : Hchan) (s : State) : (setHchan c x s).cus = s.cus := rfl
@[simp] theorem setHchan_grv (c : Nat) (x : Hchan) (s : State) : (setHchan c x s).grv = s.grv := rfl
@[simp] theorem setHchan_att (c : Nat) (x : Hchan) (s : State) : (setHchan c x s).att = s.att := rfl
@[simp] theorem setHchan_spdm (c : Nat) (x : Hchan) (s : State) : (setHchan c x s).spdm = s.spdm := rfl
@[simp] theorem setHchan_dis (c : Nat) (x : Hchan) (s : State) : (setHchan c x s).dis = s.dis := rfl
@[simp] theorem setHchan_freeCtr (c : Nat) (x : Hchan) (s : State) : (setHchan c x s).freeCtr = s.freeCtr := rfl

@[simp] theorem modHchan_pending (c : Nat) (f : Hchan → Hchan) (s : State) : (modHchan c f s).pending = s.pending := rfl
@[simp] theorem modHchan_now (c : Nat) (f : Hchan → Hchan) (s : State) : (modHchan c f s).now = s.now := rfl
@[simp] theorem modHchan_out (c : Nat) (f : Hchan → Hchan) (s : State) : (modHchan c f s).out = s.out := rfl
@[simp] theorem modHchan_hostMem (c : Nat) (f : Hchan → Hchan) (s : State) : (modHchan c f s).hostMem = s.hostMem := rfl
@[simp] theorem modHchan_tel (c : Nat) (f : Hchan → Hchan) (s : State) : (modHchan c f s).tel = s.tel := rfl
@[simp] theorem modHchan_slt (c : Nat) (f : Hchan → Hchan) (s : State) : (modHchan c f s).slt = s.slt := rfl
@[simp] theorem modHchan_nrg (c : Nat) (f : Hchan → Hchan) (s : State) : (modHchan c f s).nrg = s.nrg := rfl
@[simp] theorem modHchan_boot (c : Nat) (f : Hchan → Hchan) (s : State) : (modHchan c f s).boot = s.boot := rfl
@[simp] theorem modHchan_fuses (c : Nat) (f : Hchan → Hchan) (s : State) : (modHchan c f s).fuses = s.fuses := rfl
@[simp] theorem modHchan_grn (c : Nat) (f : Hchan → Hchan) (s : State) : (modHchan c f s).grn = s.grn := rfl
@[simp] theorem modHchan_vault (c : Nat) (f : Hchan → Hchan) (s : State) : (modHchan c f s).vault = s.vault := rfl
@[simp] theorem modHchan_ent (c : Nat) (f : Hchan → Hchan) (s : State) : (modHchan c f s).ent = s.ent := rfl
@[simp] theorem modHchan_chk (c : Nat) (f : Hchan → Hchan) (s : State) : (modHchan c f s).chk = s.chk := rfl
@[simp] theorem modHchan_kpf (c : Nat) (f : Hchan → Hchan) (s : State) : (modHchan c f s).kpf = s.kpf := rfl
@[simp] theorem modHchan_tmp (c : Nat) (f : Hchan → Hchan) (s : State) : (modHchan c f s).tmp = s.tmp := rfl
@[simp] theorem modHchan_lcy (c : Nat) (f : Hchan → Hchan) (s : State) : (modHchan c f s).lcy = s.lcy := rfl
@[simp] theorem modHchan_slp (c : Nat) (f : Hchan → Hchan) (s : State) : (modHchan c f s).slp = s.slp := rfl
@[simp] theorem modHchan_env (c : Nat) (f : Hchan → Hchan) (s : State) : (modHchan c f s).env = s.env := rfl
@[simp] theorem modHchan_brl (c : Nat) (f : Hchan → Hchan) (s : State) : (modHchan c f s).brl = s.brl := rfl
@[simp] theorem modHchan_lvs (c : Nat) (f : Hchan → Hchan) (s : State) : (modHchan c f s).lvs = s.lvs := rfl
@[simp] theorem modHchan_hlw (c : Nat) (f : Hchan → Hchan) (s : State) : (modHchan c f s).hlw = { s.hlw with chan := tset {} s.hlw.chan c (f (hchan c s)) } := rfl
@[simp] theorem modHchan_cnp (c : Nat) (f : Hchan → Hchan) (s : State) : (modHchan c f s).cnp = s.cnp := rfl
@[simp] theorem modHchan_lnk (c : Nat) (f : Hchan → Hchan) (s : State) : (modHchan c f s).lnk = s.lnk := rfl
@[simp] theorem modHchan_cus (c : Nat) (f : Hchan → Hchan) (s : State) : (modHchan c f s).cus = s.cus := rfl
@[simp] theorem modHchan_grv (c : Nat) (f : Hchan → Hchan) (s : State) : (modHchan c f s).grv = s.grv := rfl
@[simp] theorem modHchan_att (c : Nat) (f : Hchan → Hchan) (s : State) : (modHchan c f s).att = s.att := rfl
@[simp] theorem modHchan_spdm (c : Nat) (f : Hchan → Hchan) (s : State) : (modHchan c f s).spdm = s.spdm := rfl
@[simp] theorem modHchan_dis (c : Nat) (f : Hchan → Hchan) (s : State) : (modHchan c f s).dis = s.dis := rfl
@[simp] theorem modHchan_freeCtr (c : Nat) (f : Hchan → Hchan) (s : State) : (modHchan c f s).freeCtr = s.freeCtr := rfl

@[simp] theorem setLeaf_pending (l : Nat) (x : Leaf) (s : State) : (setLeaf l x s).pending = s.pending := rfl
@[simp] theorem setLeaf_now (l : Nat) (x : Leaf) (s : State) : (setLeaf l x s).now = s.now := rfl
@[simp] theorem setLeaf_out (l : Nat) (x : Leaf) (s : State) : (setLeaf l x s).out = s.out := rfl
@[simp] theorem setLeaf_hostMem (l : Nat) (x : Leaf) (s : State) : (setLeaf l x s).hostMem = s.hostMem := rfl
@[simp] theorem setLeaf_tel (l : Nat) (x : Leaf) (s : State) : (setLeaf l x s).tel = s.tel := rfl
@[simp] theorem setLeaf_slt (l : Nat) (x : Leaf) (s : State) : (setLeaf l x s).slt = s.slt := rfl
@[simp] theorem setLeaf_nrg (l : Nat) (x : Leaf) (s : State) : (setLeaf l x s).nrg = s.nrg := rfl
@[simp] theorem setLeaf_boot (l : Nat) (x : Leaf) (s : State) : (setLeaf l x s).boot = s.boot := rfl
@[simp] theorem setLeaf_fuses (l : Nat) (x : Leaf) (s : State) : (setLeaf l x s).fuses = s.fuses := rfl
@[simp] theorem setLeaf_grn (l : Nat) (x : Leaf) (s : State) : (setLeaf l x s).grn = s.grn := rfl
@[simp] theorem setLeaf_vault (l : Nat) (x : Leaf) (s : State) : (setLeaf l x s).vault = s.vault := rfl
@[simp] theorem setLeaf_ent (l : Nat) (x : Leaf) (s : State) : (setLeaf l x s).ent = s.ent := rfl
@[simp] theorem setLeaf_chk (l : Nat) (x : Leaf) (s : State) : (setLeaf l x s).chk = s.chk := rfl
@[simp] theorem setLeaf_kpf (l : Nat) (x : Leaf) (s : State) : (setLeaf l x s).kpf = s.kpf := rfl
@[simp] theorem setLeaf_tmp (l : Nat) (x : Leaf) (s : State) : (setLeaf l x s).tmp = s.tmp := rfl
@[simp] theorem setLeaf_lcy (l : Nat) (x : Leaf) (s : State) : (setLeaf l x s).lcy = s.lcy := rfl
@[simp] theorem setLeaf_slp (l : Nat) (x : Leaf) (s : State) : (setLeaf l x s).slp = s.slp := rfl
@[simp] theorem setLeaf_env (l : Nat) (x : Leaf) (s : State) : (setLeaf l x s).env = s.env := rfl
@[simp] theorem setLeaf_brl (l : Nat) (x : Leaf) (s : State) : (setLeaf l x s).brl = s.brl := rfl
@[simp] theorem setLeaf_lvs (l : Nat) (x : Leaf) (s : State) : (setLeaf l x s).lvs = { s.lvs with leaf := tset {} s.lvs.leaf l x } := rfl
@[simp] theorem setLeaf_hlw (l : Nat) (x : Leaf) (s : State) : (setLeaf l x s).hlw = s.hlw := rfl
@[simp] theorem setLeaf_cnp (l : Nat) (x : Leaf) (s : State) : (setLeaf l x s).cnp = s.cnp := rfl
@[simp] theorem setLeaf_lnk (l : Nat) (x : Leaf) (s : State) : (setLeaf l x s).lnk = s.lnk := rfl
@[simp] theorem setLeaf_cus (l : Nat) (x : Leaf) (s : State) : (setLeaf l x s).cus = s.cus := rfl
@[simp] theorem setLeaf_grv (l : Nat) (x : Leaf) (s : State) : (setLeaf l x s).grv = s.grv := rfl
@[simp] theorem setLeaf_att (l : Nat) (x : Leaf) (s : State) : (setLeaf l x s).att = s.att := rfl
@[simp] theorem setLeaf_spdm (l : Nat) (x : Leaf) (s : State) : (setLeaf l x s).spdm = s.spdm := rfl
@[simp] theorem setLeaf_dis (l : Nat) (x : Leaf) (s : State) : (setLeaf l x s).dis = s.dis := rfl
@[simp] theorem setLeaf_freeCtr (l : Nat) (x : Leaf) (s : State) : (setLeaf l x s).freeCtr = s.freeCtr := rfl

@[simp] theorem modLeaf_pending (l : Nat) (f : Leaf → Leaf) (s : State) : (modLeaf l f s).pending = s.pending := rfl
@[simp] theorem modLeaf_now (l : Nat) (f : Leaf → Leaf) (s : State) : (modLeaf l f s).now = s.now := rfl
@[simp] theorem modLeaf_out (l : Nat) (f : Leaf → Leaf) (s : State) : (modLeaf l f s).out = s.out := rfl
@[simp] theorem modLeaf_hostMem (l : Nat) (f : Leaf → Leaf) (s : State) : (modLeaf l f s).hostMem = s.hostMem := rfl
@[simp] theorem modLeaf_tel (l : Nat) (f : Leaf → Leaf) (s : State) : (modLeaf l f s).tel = s.tel := rfl
@[simp] theorem modLeaf_slt (l : Nat) (f : Leaf → Leaf) (s : State) : (modLeaf l f s).slt = s.slt := rfl
@[simp] theorem modLeaf_nrg (l : Nat) (f : Leaf → Leaf) (s : State) : (modLeaf l f s).nrg = s.nrg := rfl
@[simp] theorem modLeaf_boot (l : Nat) (f : Leaf → Leaf) (s : State) : (modLeaf l f s).boot = s.boot := rfl
@[simp] theorem modLeaf_fuses (l : Nat) (f : Leaf → Leaf) (s : State) : (modLeaf l f s).fuses = s.fuses := rfl
@[simp] theorem modLeaf_grn (l : Nat) (f : Leaf → Leaf) (s : State) : (modLeaf l f s).grn = s.grn := rfl
@[simp] theorem modLeaf_vault (l : Nat) (f : Leaf → Leaf) (s : State) : (modLeaf l f s).vault = s.vault := rfl
@[simp] theorem modLeaf_ent (l : Nat) (f : Leaf → Leaf) (s : State) : (modLeaf l f s).ent = s.ent := rfl
@[simp] theorem modLeaf_chk (l : Nat) (f : Leaf → Leaf) (s : State) : (modLeaf l f s).chk = s.chk := rfl
@[simp] theorem modLeaf_kpf (l : Nat) (f : Leaf → Leaf) (s : State) : (modLeaf l f s).kpf = s.kpf := rfl
@[simp] theorem modLeaf_tmp (l : Nat) (f : Leaf → Leaf) (s : State) : (modLeaf l f s).tmp = s.tmp := rfl
@[simp] theorem modLeaf_lcy (l : Nat) (f : Leaf → Leaf) (s : State) : (modLeaf l f s).lcy = s.lcy := rfl
@[simp] theorem modLeaf_slp (l : Nat) (f : Leaf → Leaf) (s : State) : (modLeaf l f s).slp = s.slp := rfl
@[simp] theorem modLeaf_env (l : Nat) (f : Leaf → Leaf) (s : State) : (modLeaf l f s).env = s.env := rfl
@[simp] theorem modLeaf_brl (l : Nat) (f : Leaf → Leaf) (s : State) : (modLeaf l f s).brl = s.brl := rfl
@[simp] theorem modLeaf_lvs (l : Nat) (f : Leaf → Leaf) (s : State) : (modLeaf l f s).lvs = { s.lvs with leaf := tset {} s.lvs.leaf l (f (leafAt l s)) } := rfl
@[simp] theorem modLeaf_hlw (l : Nat) (f : Leaf → Leaf) (s : State) : (modLeaf l f s).hlw = s.hlw := rfl
@[simp] theorem modLeaf_cnp (l : Nat) (f : Leaf → Leaf) (s : State) : (modLeaf l f s).cnp = s.cnp := rfl
@[simp] theorem modLeaf_lnk (l : Nat) (f : Leaf → Leaf) (s : State) : (modLeaf l f s).lnk = s.lnk := rfl
@[simp] theorem modLeaf_cus (l : Nat) (f : Leaf → Leaf) (s : State) : (modLeaf l f s).cus = s.cus := rfl
@[simp] theorem modLeaf_grv (l : Nat) (f : Leaf → Leaf) (s : State) : (modLeaf l f s).grv = s.grv := rfl
@[simp] theorem modLeaf_att (l : Nat) (f : Leaf → Leaf) (s : State) : (modLeaf l f s).att = s.att := rfl
@[simp] theorem modLeaf_spdm (l : Nat) (f : Leaf → Leaf) (s : State) : (modLeaf l f s).spdm = s.spdm := rfl
@[simp] theorem modLeaf_dis (l : Nat) (f : Leaf → Leaf) (s : State) : (modLeaf l f s).dis = s.dis := rfl
@[simp] theorem modLeaf_freeCtr (l : Nat) (f : Leaf → Leaf) (s : State) : (modLeaf l f s).freeCtr = s.freeCtr := rfl

@[simp] theorem twigWrite_pending (t a : Nat) (b : Bytes) (s : State) : (twigWrite t a b s).pending = s.pending := rfl
@[simp] theorem twigWrite_now (t a : Nat) (b : Bytes) (s : State) : (twigWrite t a b s).now = s.now := rfl
@[simp] theorem twigWrite_out (t a : Nat) (b : Bytes) (s : State) : (twigWrite t a b s).out = s.out := rfl
@[simp] theorem twigWrite_hostMem (t a : Nat) (b : Bytes) (s : State) : (twigWrite t a b s).hostMem = s.hostMem := rfl
@[simp] theorem twigWrite_tel (t a : Nat) (b : Bytes) (s : State) : (twigWrite t a b s).tel = s.tel := rfl
@[simp] theorem twigWrite_slt (t a : Nat) (b : Bytes) (s : State) : (twigWrite t a b s).slt = s.slt := rfl
@[simp] theorem twigWrite_nrg (t a : Nat) (b : Bytes) (s : State) : (twigWrite t a b s).nrg = s.nrg := rfl
@[simp] theorem twigWrite_boot (t a : Nat) (b : Bytes) (s : State) : (twigWrite t a b s).boot = s.boot := rfl
@[simp] theorem twigWrite_fuses (t a : Nat) (b : Bytes) (s : State) : (twigWrite t a b s).fuses = s.fuses := rfl
@[simp] theorem twigWrite_grn (t a : Nat) (b : Bytes) (s : State) : (twigWrite t a b s).grn = s.grn := rfl
@[simp] theorem twigWrite_vault (t a : Nat) (b : Bytes) (s : State) : (twigWrite t a b s).vault = s.vault := rfl
@[simp] theorem twigWrite_ent (t a : Nat) (b : Bytes) (s : State) : (twigWrite t a b s).ent = s.ent := rfl
@[simp] theorem twigWrite_chk (t a : Nat) (b : Bytes) (s : State) : (twigWrite t a b s).chk = s.chk := rfl
@[simp] theorem twigWrite_kpf (t a : Nat) (b : Bytes) (s : State) : (twigWrite t a b s).kpf = s.kpf := rfl
@[simp] theorem twigWrite_tmp (t a : Nat) (b : Bytes) (s : State) : (twigWrite t a b s).tmp = s.tmp := rfl
@[simp] theorem twigWrite_lcy (t a : Nat) (b : Bytes) (s : State) : (twigWrite t a b s).lcy = s.lcy := rfl
@[simp] theorem twigWrite_slp (t a : Nat) (b : Bytes) (s : State) : (twigWrite t a b s).slp = s.slp := rfl
@[simp] theorem twigWrite_env (t a : Nat) (b : Bytes) (s : State) : (twigWrite t a b s).env = s.env := rfl
@[simp] theorem twigWrite_brl (t a : Nat) (b : Bytes) (s : State) : (twigWrite t a b s).brl = s.brl := rfl
@[simp] theorem twigWrite_lvs (t a : Nat) (b : Bytes) (s : State) : (twigWrite t a b s).lvs = { s.lvs with twig := tmod [] s.lvs.twig t (fun m => mwrite 0 m a b) } := rfl
@[simp] theorem twigWrite_hlw (t a : Nat) (b : Bytes) (s : State) : (twigWrite t a b s).hlw = s.hlw := rfl
@[simp] theorem twigWrite_cnp (t a : Nat) (b : Bytes) (s : State) : (twigWrite t a b s).cnp = s.cnp := rfl
@[simp] theorem twigWrite_lnk (t a : Nat) (b : Bytes) (s : State) : (twigWrite t a b s).lnk = s.lnk := rfl
@[simp] theorem twigWrite_cus (t a : Nat) (b : Bytes) (s : State) : (twigWrite t a b s).cus = s.cus := rfl
@[simp] theorem twigWrite_grv (t a : Nat) (b : Bytes) (s : State) : (twigWrite t a b s).grv = s.grv := rfl
@[simp] theorem twigWrite_att (t a : Nat) (b : Bytes) (s : State) : (twigWrite t a b s).att = s.att := rfl
@[simp] theorem twigWrite_spdm (t a : Nat) (b : Bytes) (s : State) : (twigWrite t a b s).spdm = s.spdm := rfl
@[simp] theorem twigWrite_dis (t a : Nat) (b : Bytes) (s : State) : (twigWrite t a b s).dis = s.dis := rfl
@[simp] theorem twigWrite_freeCtr (t a : Nat) (b : Bytes) (s : State) : (twigWrite t a b s).freeCtr = s.freeCtr := rfl

@[simp] theorem boughWrite_pending (b a : Nat) (x : Bytes) (s : State) : (boughWrite b a x s).pending = s.pending := rfl
@[simp] theorem boughWrite_now (b a : Nat) (x : Bytes) (s : State) : (boughWrite b a x s).now = s.now := rfl
@[simp] theorem boughWrite_out (b a : Nat) (x : Bytes) (s : State) : (boughWrite b a x s).out = s.out := rfl
@[simp] theorem boughWrite_hostMem (b a : Nat) (x : Bytes) (s : State) : (boughWrite b a x s).hostMem = s.hostMem := rfl
@[simp] theorem boughWrite_tel (b a : Nat) (x : Bytes) (s : State) : (boughWrite b a x s).tel = s.tel := rfl
@[simp] theorem boughWrite_slt (b a : Nat) (x : Bytes) (s : State) : (boughWrite b a x s).slt = s.slt := rfl
@[simp] theorem boughWrite_nrg (b a : Nat) (x : Bytes) (s : State) : (boughWrite b a x s).nrg = s.nrg := rfl
@[simp] theorem boughWrite_boot (b a : Nat) (x : Bytes) (s : State) : (boughWrite b a x s).boot = s.boot := rfl
@[simp] theorem boughWrite_fuses (b a : Nat) (x : Bytes) (s : State) : (boughWrite b a x s).fuses = s.fuses := rfl
@[simp] theorem boughWrite_grn (b a : Nat) (x : Bytes) (s : State) : (boughWrite b a x s).grn = s.grn := rfl
@[simp] theorem boughWrite_vault (b a : Nat) (x : Bytes) (s : State) : (boughWrite b a x s).vault = s.vault := rfl
@[simp] theorem boughWrite_ent (b a : Nat) (x : Bytes) (s : State) : (boughWrite b a x s).ent = s.ent := rfl
@[simp] theorem boughWrite_chk (b a : Nat) (x : Bytes) (s : State) : (boughWrite b a x s).chk = s.chk := rfl
@[simp] theorem boughWrite_kpf (b a : Nat) (x : Bytes) (s : State) : (boughWrite b a x s).kpf = s.kpf := rfl
@[simp] theorem boughWrite_tmp (b a : Nat) (x : Bytes) (s : State) : (boughWrite b a x s).tmp = s.tmp := rfl
@[simp] theorem boughWrite_lcy (b a : Nat) (x : Bytes) (s : State) : (boughWrite b a x s).lcy = s.lcy := rfl
@[simp] theorem boughWrite_slp (b a : Nat) (x : Bytes) (s : State) : (boughWrite b a x s).slp = s.slp := rfl
@[simp] theorem boughWrite_env (b a : Nat) (x : Bytes) (s : State) : (boughWrite b a x s).env = s.env := rfl
@[simp] theorem boughWrite_brl (b a : Nat) (x : Bytes) (s : State) : (boughWrite b a x s).brl = s.brl := rfl
@[simp] theorem boughWrite_lvs (b a : Nat) (x : Bytes) (s : State) : (boughWrite b a x s).lvs = { s.lvs with bough := tmod [] s.lvs.bough b (fun m => mwrite 0 m a x) } := rfl
@[simp] theorem boughWrite_hlw (b a : Nat) (x : Bytes) (s : State) : (boughWrite b a x s).hlw = s.hlw := rfl
@[simp] theorem boughWrite_cnp (b a : Nat) (x : Bytes) (s : State) : (boughWrite b a x s).cnp = s.cnp := rfl
@[simp] theorem boughWrite_lnk (b a : Nat) (x : Bytes) (s : State) : (boughWrite b a x s).lnk = s.lnk := rfl
@[simp] theorem boughWrite_cus (b a : Nat) (x : Bytes) (s : State) : (boughWrite b a x s).cus = s.cus := rfl
@[simp] theorem boughWrite_grv (b a : Nat) (x : Bytes) (s : State) : (boughWrite b a x s).grv = s.grv := rfl
@[simp] theorem boughWrite_att (b a : Nat) (x : Bytes) (s : State) : (boughWrite b a x s).att = s.att := rfl
@[simp] theorem boughWrite_spdm (b a : Nat) (x : Bytes) (s : State) : (boughWrite b a x s).spdm = s.spdm := rfl
@[simp] theorem boughWrite_dis (b a : Nat) (x : Bytes) (s : State) : (boughWrite b a x s).dis = s.dis := rfl
@[simp] theorem boughWrite_freeCtr (b a : Nat) (x : Bytes) (s : State) : (boughWrite b a x s).freeCtr = s.freeCtr := rfl

@[simp] theorem workWrite_pending (a : Nat) (x : Bytes) (s : State) : (workWrite a x s).pending = s.pending := rfl
@[simp] theorem workWrite_now (a : Nat) (x : Bytes) (s : State) : (workWrite a x s).now = s.now := rfl
@[simp] theorem workWrite_out (a : Nat) (x : Bytes) (s : State) : (workWrite a x s).out = s.out := rfl
@[simp] theorem workWrite_hostMem (a : Nat) (x : Bytes) (s : State) : (workWrite a x s).hostMem = s.hostMem := rfl
@[simp] theorem workWrite_tel (a : Nat) (x : Bytes) (s : State) : (workWrite a x s).tel = s.tel := rfl
@[simp] theorem workWrite_slt (a : Nat) (x : Bytes) (s : State) : (workWrite a x s).slt = s.slt := rfl
@[simp] theorem workWrite_nrg (a : Nat) (x : Bytes) (s : State) : (workWrite a x s).nrg = s.nrg := rfl
@[simp] theorem workWrite_boot (a : Nat) (x : Bytes) (s : State) : (workWrite a x s).boot = s.boot := rfl
@[simp] theorem workWrite_fuses (a : Nat) (x : Bytes) (s : State) : (workWrite a x s).fuses = s.fuses := rfl
@[simp] theorem workWrite_grn (a : Nat) (x : Bytes) (s : State) : (workWrite a x s).grn = s.grn := rfl
@[simp] theorem workWrite_vault (a : Nat) (x : Bytes) (s : State) : (workWrite a x s).vault = s.vault := rfl
@[simp] theorem workWrite_ent (a : Nat) (x : Bytes) (s : State) : (workWrite a x s).ent = s.ent := rfl
@[simp] theorem workWrite_chk (a : Nat) (x : Bytes) (s : State) : (workWrite a x s).chk = s.chk := rfl
@[simp] theorem workWrite_kpf (a : Nat) (x : Bytes) (s : State) : (workWrite a x s).kpf = s.kpf := rfl
@[simp] theorem workWrite_tmp (a : Nat) (x : Bytes) (s : State) : (workWrite a x s).tmp = s.tmp := rfl
@[simp] theorem workWrite_lcy (a : Nat) (x : Bytes) (s : State) : (workWrite a x s).lcy = s.lcy := rfl
@[simp] theorem workWrite_slp (a : Nat) (x : Bytes) (s : State) : (workWrite a x s).slp = s.slp := rfl
@[simp] theorem workWrite_env (a : Nat) (x : Bytes) (s : State) : (workWrite a x s).env = s.env := rfl
@[simp] theorem workWrite_brl (a : Nat) (x : Bytes) (s : State) : (workWrite a x s).brl = s.brl := rfl
@[simp] theorem workWrite_lvs (a : Nat) (x : Bytes) (s : State) : (workWrite a x s).lvs = { s.lvs with work := (x.zipIdx).foldl (fun t e => tset none t (a + e.2) (some e.1)) s.lvs.work } := rfl
@[simp] theorem workWrite_hlw (a : Nat) (x : Bytes) (s : State) : (workWrite a x s).hlw = s.hlw := rfl
@[simp] theorem workWrite_cnp (a : Nat) (x : Bytes) (s : State) : (workWrite a x s).cnp = s.cnp := rfl
@[simp] theorem workWrite_lnk (a : Nat) (x : Bytes) (s : State) : (workWrite a x s).lnk = s.lnk := rfl
@[simp] theorem workWrite_cus (a : Nat) (x : Bytes) (s : State) : (workWrite a x s).cus = s.cus := rfl
@[simp] theorem workWrite_grv (a : Nat) (x : Bytes) (s : State) : (workWrite a x s).grv = s.grv := rfl
@[simp] theorem workWrite_att (a : Nat) (x : Bytes) (s : State) : (workWrite a x s).att = s.att := rfl
@[simp] theorem workWrite_spdm (a : Nat) (x : Bytes) (s : State) : (workWrite a x s).spdm = s.spdm := rfl
@[simp] theorem workWrite_dis (a : Nat) (x : Bytes) (s : State) : (workWrite a x s).dis = s.dis := rfl
@[simp] theorem workWrite_freeCtr (a : Nat) (x : Bytes) (s : State) : (workWrite a x s).freeCtr = s.freeCtr := rfl

@[simp] theorem modLcy_pending (f : Lcy → Lcy) (s : State) : (modLcy f s).pending = s.pending := rfl
@[simp] theorem modLcy_now (f : Lcy → Lcy) (s : State) : (modLcy f s).now = s.now := rfl
@[simp] theorem modLcy_out (f : Lcy → Lcy) (s : State) : (modLcy f s).out = s.out := rfl
@[simp] theorem modLcy_hostMem (f : Lcy → Lcy) (s : State) : (modLcy f s).hostMem = s.hostMem := rfl
@[simp] theorem modLcy_tel (f : Lcy → Lcy) (s : State) : (modLcy f s).tel = s.tel := rfl
@[simp] theorem modLcy_slt (f : Lcy → Lcy) (s : State) : (modLcy f s).slt = s.slt := rfl
@[simp] theorem modLcy_nrg (f : Lcy → Lcy) (s : State) : (modLcy f s).nrg = s.nrg := rfl
@[simp] theorem modLcy_boot (f : Lcy → Lcy) (s : State) : (modLcy f s).boot = s.boot := rfl
@[simp] theorem modLcy_fuses (f : Lcy → Lcy) (s : State) : (modLcy f s).fuses = s.fuses := rfl
@[simp] theorem modLcy_grn (f : Lcy → Lcy) (s : State) : (modLcy f s).grn = s.grn := rfl
@[simp] theorem modLcy_vault (f : Lcy → Lcy) (s : State) : (modLcy f s).vault = s.vault := rfl
@[simp] theorem modLcy_ent (f : Lcy → Lcy) (s : State) : (modLcy f s).ent = s.ent := rfl
@[simp] theorem modLcy_chk (f : Lcy → Lcy) (s : State) : (modLcy f s).chk = s.chk := rfl
@[simp] theorem modLcy_kpf (f : Lcy → Lcy) (s : State) : (modLcy f s).kpf = s.kpf := rfl
@[simp] theorem modLcy_tmp (f : Lcy → Lcy) (s : State) : (modLcy f s).tmp = s.tmp := rfl
@[simp] theorem modLcy_lcy (f : Lcy → Lcy) (s : State) : (modLcy f s).lcy = f s.lcy := rfl
@[simp] theorem modLcy_slp (f : Lcy → Lcy) (s : State) : (modLcy f s).slp = s.slp := rfl
@[simp] theorem modLcy_env (f : Lcy → Lcy) (s : State) : (modLcy f s).env = s.env := rfl
@[simp] theorem modLcy_brl (f : Lcy → Lcy) (s : State) : (modLcy f s).brl = s.brl := rfl
@[simp] theorem modLcy_lvs (f : Lcy → Lcy) (s : State) : (modLcy f s).lvs = s.lvs := rfl
@[simp] theorem modLcy_hlw (f : Lcy → Lcy) (s : State) : (modLcy f s).hlw = s.hlw := rfl
@[simp] theorem modLcy_cnp (f : Lcy → Lcy) (s : State) : (modLcy f s).cnp = s.cnp := rfl
@[simp] theorem modLcy_lnk (f : Lcy → Lcy) (s : State) : (modLcy f s).lnk = s.lnk := rfl
@[simp] theorem modLcy_cus (f : Lcy → Lcy) (s : State) : (modLcy f s).cus = s.cus := rfl
@[simp] theorem modLcy_grv (f : Lcy → Lcy) (s : State) : (modLcy f s).grv = s.grv := rfl
@[simp] theorem modLcy_att (f : Lcy → Lcy) (s : State) : (modLcy f s).att = s.att := rfl
@[simp] theorem modLcy_spdm (f : Lcy → Lcy) (s : State) : (modLcy f s).spdm = s.spdm := rfl
@[simp] theorem modLcy_dis (f : Lcy → Lcy) (s : State) : (modLcy f s).dis = s.dis := rfl
@[simp] theorem modLcy_freeCtr (f : Lcy → Lcy) (s : State) : (modLcy f s).freeCtr = s.freeCtr := rfl

@[simp] theorem modPort_pending (p : Nat) (f : Port → Port) (s : State) : (modPort p f s).pending = s.pending := rfl
@[simp] theorem modPort_now (p : Nat) (f : Port → Port) (s : State) : (modPort p f s).now = s.now := rfl
@[simp] theorem modPort_out (p : Nat) (f : Port → Port) (s : State) : (modPort p f s).out = s.out := rfl
@[simp] theorem modPort_hostMem (p : Nat) (f : Port → Port) (s : State) : (modPort p f s).hostMem = s.hostMem := rfl
@[simp] theorem modPort_tel (p : Nat) (f : Port → Port) (s : State) : (modPort p f s).tel = s.tel := rfl
@[simp] theorem modPort_slt (p : Nat) (f : Port → Port) (s : State) : (modPort p f s).slt = s.slt := rfl
@[simp] theorem modPort_nrg (p : Nat) (f : Port → Port) (s : State) : (modPort p f s).nrg = s.nrg := rfl
@[simp] theorem modPort_boot (p : Nat) (f : Port → Port) (s : State) : (modPort p f s).boot = s.boot := rfl
@[simp] theorem modPort_fuses (p : Nat) (f : Port → Port) (s : State) : (modPort p f s).fuses = s.fuses := rfl
@[simp] theorem modPort_grn (p : Nat) (f : Port → Port) (s : State) : (modPort p f s).grn = s.grn := rfl
@[simp] theorem modPort_vault (p : Nat) (f : Port → Port) (s : State) : (modPort p f s).vault = s.vault := rfl
@[simp] theorem modPort_ent (p : Nat) (f : Port → Port) (s : State) : (modPort p f s).ent = s.ent := rfl
@[simp] theorem modPort_chk (p : Nat) (f : Port → Port) (s : State) : (modPort p f s).chk = s.chk := rfl
@[simp] theorem modPort_kpf (p : Nat) (f : Port → Port) (s : State) : (modPort p f s).kpf = s.kpf := rfl
@[simp] theorem modPort_tmp (p : Nat) (f : Port → Port) (s : State) : (modPort p f s).tmp = s.tmp := rfl
@[simp] theorem modPort_lcy (p : Nat) (f : Port → Port) (s : State) : (modPort p f s).lcy = s.lcy := rfl
@[simp] theorem modPort_slp (p : Nat) (f : Port → Port) (s : State) : (modPort p f s).slp = s.slp := rfl
@[simp] theorem modPort_env (p : Nat) (f : Port → Port) (s : State) : (modPort p f s).env = s.env := rfl
@[simp] theorem modPort_brl (p : Nat) (f : Port → Port) (s : State) : (modPort p f s).brl = s.brl := rfl
@[simp] theorem modPort_lvs (p : Nat) (f : Port → Port) (s : State) : (modPort p f s).lvs = s.lvs := rfl
@[simp] theorem modPort_hlw (p : Nat) (f : Port → Port) (s : State) : (modPort p f s).hlw = s.hlw := rfl
@[simp] theorem modPort_cnp (p : Nat) (f : Port → Port) (s : State) : (modPort p f s).cnp = s.cnp := rfl
@[simp] theorem modPort_lnk (p : Nat) (f : Port → Port) (s : State) : (modPort p f s).lnk = { s.lnk with ports := tmod {} s.lnk.ports p f } := rfl
@[simp] theorem modPort_cus (p : Nat) (f : Port → Port) (s : State) : (modPort p f s).cus = s.cus := rfl
@[simp] theorem modPort_grv (p : Nat) (f : Port → Port) (s : State) : (modPort p f s).grv = s.grv := rfl
@[simp] theorem modPort_att (p : Nat) (f : Port → Port) (s : State) : (modPort p f s).att = s.att := rfl
@[simp] theorem modPort_spdm (p : Nat) (f : Port → Port) (s : State) : (modPort p f s).spdm = s.spdm := rfl
@[simp] theorem modPort_dis (p : Nat) (f : Port → Port) (s : State) : (modPort p f s).dis = s.dis := rfl
@[simp] theorem modPort_freeCtr (p : Nat) (f : Port → Port) (s : State) : (modPort p f s).freeCtr = s.freeCtr := rfl

@[simp] theorem modMka_pending (l : Nat) (f : Mka → Mka) (s : State) : (modMka l f s).pending = s.pending := rfl
@[simp] theorem modMka_now (l : Nat) (f : Mka → Mka) (s : State) : (modMka l f s).now = s.now := rfl
@[simp] theorem modMka_out (l : Nat) (f : Mka → Mka) (s : State) : (modMka l f s).out = s.out := rfl
@[simp] theorem modMka_hostMem (l : Nat) (f : Mka → Mka) (s : State) : (modMka l f s).hostMem = s.hostMem := rfl
@[simp] theorem modMka_tel (l : Nat) (f : Mka → Mka) (s : State) : (modMka l f s).tel = s.tel := rfl
@[simp] theorem modMka_slt (l : Nat) (f : Mka → Mka) (s : State) : (modMka l f s).slt = s.slt := rfl
@[simp] theorem modMka_nrg (l : Nat) (f : Mka → Mka) (s : State) : (modMka l f s).nrg = s.nrg := rfl
@[simp] theorem modMka_boot (l : Nat) (f : Mka → Mka) (s : State) : (modMka l f s).boot = s.boot := rfl
@[simp] theorem modMka_fuses (l : Nat) (f : Mka → Mka) (s : State) : (modMka l f s).fuses = s.fuses := rfl
@[simp] theorem modMka_grn (l : Nat) (f : Mka → Mka) (s : State) : (modMka l f s).grn = s.grn := rfl
@[simp] theorem modMka_vault (l : Nat) (f : Mka → Mka) (s : State) : (modMka l f s).vault = s.vault := rfl
@[simp] theorem modMka_ent (l : Nat) (f : Mka → Mka) (s : State) : (modMka l f s).ent = s.ent := rfl
@[simp] theorem modMka_chk (l : Nat) (f : Mka → Mka) (s : State) : (modMka l f s).chk = s.chk := rfl
@[simp] theorem modMka_kpf (l : Nat) (f : Mka → Mka) (s : State) : (modMka l f s).kpf = s.kpf := rfl
@[simp] theorem modMka_tmp (l : Nat) (f : Mka → Mka) (s : State) : (modMka l f s).tmp = s.tmp := rfl
@[simp] theorem modMka_lcy (l : Nat) (f : Mka → Mka) (s : State) : (modMka l f s).lcy = s.lcy := rfl
@[simp] theorem modMka_slp (l : Nat) (f : Mka → Mka) (s : State) : (modMka l f s).slp = s.slp := rfl
@[simp] theorem modMka_env (l : Nat) (f : Mka → Mka) (s : State) : (modMka l f s).env = s.env := rfl
@[simp] theorem modMka_brl (l : Nat) (f : Mka → Mka) (s : State) : (modMka l f s).brl = s.brl := rfl
@[simp] theorem modMka_lvs (l : Nat) (f : Mka → Mka) (s : State) : (modMka l f s).lvs = s.lvs := rfl
@[simp] theorem modMka_hlw (l : Nat) (f : Mka → Mka) (s : State) : (modMka l f s).hlw = s.hlw := rfl
@[simp] theorem modMka_cnp (l : Nat) (f : Mka → Mka) (s : State) : (modMka l f s).cnp = s.cnp := rfl
@[simp] theorem modMka_lnk (l : Nat) (f : Mka → Mka) (s : State) : (modMka l f s).lnk = { s.lnk with mka := tmod {} s.lnk.mka l f } := rfl
@[simp] theorem modMka_cus (l : Nat) (f : Mka → Mka) (s : State) : (modMka l f s).cus = s.cus := rfl
@[simp] theorem modMka_grv (l : Nat) (f : Mka → Mka) (s : State) : (modMka l f s).grv = s.grv := rfl
@[simp] theorem modMka_att (l : Nat) (f : Mka → Mka) (s : State) : (modMka l f s).att = s.att := rfl
@[simp] theorem modMka_spdm (l : Nat) (f : Mka → Mka) (s : State) : (modMka l f s).spdm = s.spdm := rfl
@[simp] theorem modMka_dis (l : Nat) (f : Mka → Mka) (s : State) : (modMka l f s).dis = s.dis := rfl
@[simp] theorem modMka_freeCtr (l : Nat) (f : Mka → Mka) (s : State) : (modMka l f s).freeCtr = s.freeCtr := rfl

@[simp] theorem setPush_pending (p : Push) (s : State) : (setPush p s).pending = s.pending := rfl
@[simp] theorem setPush_now (p : Push) (s : State) : (setPush p s).now = s.now := rfl
@[simp] theorem setPush_out (p : Push) (s : State) : (setPush p s).out = s.out := rfl
@[simp] theorem setPush_hostMem (p : Push) (s : State) : (setPush p s).hostMem = s.hostMem := rfl
@[simp] theorem setPush_tel (p : Push) (s : State) : (setPush p s).tel = s.tel := rfl
@[simp] theorem setPush_slt (p : Push) (s : State) : (setPush p s).slt = s.slt := rfl
@[simp] theorem setPush_nrg (p : Push) (s : State) : (setPush p s).nrg = s.nrg := rfl
@[simp] theorem setPush_boot (p : Push) (s : State) : (setPush p s).boot = s.boot := rfl
@[simp] theorem setPush_fuses (p : Push) (s : State) : (setPush p s).fuses = s.fuses := rfl
@[simp] theorem setPush_grn (p : Push) (s : State) : (setPush p s).grn = { s.grn with push := p } := rfl
@[simp] theorem setPush_vault (p : Push) (s : State) : (setPush p s).vault = s.vault := rfl
@[simp] theorem setPush_ent (p : Push) (s : State) : (setPush p s).ent = s.ent := rfl
@[simp] theorem setPush_chk (p : Push) (s : State) : (setPush p s).chk = s.chk := rfl
@[simp] theorem setPush_kpf (p : Push) (s : State) : (setPush p s).kpf = s.kpf := rfl
@[simp] theorem setPush_tmp (p : Push) (s : State) : (setPush p s).tmp = s.tmp := rfl
@[simp] theorem setPush_lcy (p : Push) (s : State) : (setPush p s).lcy = s.lcy := rfl
@[simp] theorem setPush_slp (p : Push) (s : State) : (setPush p s).slp = s.slp := rfl
@[simp] theorem setPush_env (p : Push) (s : State) : (setPush p s).env = s.env := rfl
@[simp] theorem setPush_brl (p : Push) (s : State) : (setPush p s).brl = s.brl := rfl
@[simp] theorem setPush_lvs (p : Push) (s : State) : (setPush p s).lvs = s.lvs := rfl
@[simp] theorem setPush_hlw (p : Push) (s : State) : (setPush p s).hlw = s.hlw := rfl
@[simp] theorem setPush_cnp (p : Push) (s : State) : (setPush p s).cnp = s.cnp := rfl
@[simp] theorem setPush_lnk (p : Push) (s : State) : (setPush p s).lnk = s.lnk := rfl
@[simp] theorem setPush_cus (p : Push) (s : State) : (setPush p s).cus = s.cus := rfl
@[simp] theorem setPush_grv (p : Push) (s : State) : (setPush p s).grv = s.grv := rfl
@[simp] theorem setPush_att (p : Push) (s : State) : (setPush p s).att = s.att := rfl
@[simp] theorem setPush_spdm (p : Push) (s : State) : (setPush p s).spdm = s.spdm := rfl
@[simp] theorem setPush_dis (p : Push) (s : State) : (setPush p s).dis = s.dis := rfl
@[simp] theorem setPush_freeCtr (p : Push) (s : State) : (setPush p s).freeCtr = s.freeCtr := rfl

@[simp] theorem modTmp_pending (f : Tmp → Tmp) (s : State) : (modTmp f s).pending = s.pending := rfl
@[simp] theorem modTmp_now (f : Tmp → Tmp) (s : State) : (modTmp f s).now = s.now := rfl
@[simp] theorem modTmp_out (f : Tmp → Tmp) (s : State) : (modTmp f s).out = s.out := rfl
@[simp] theorem modTmp_hostMem (f : Tmp → Tmp) (s : State) : (modTmp f s).hostMem = s.hostMem := rfl
@[simp] theorem modTmp_tel (f : Tmp → Tmp) (s : State) : (modTmp f s).tel = s.tel := rfl
@[simp] theorem modTmp_slt (f : Tmp → Tmp) (s : State) : (modTmp f s).slt = s.slt := rfl
@[simp] theorem modTmp_nrg (f : Tmp → Tmp) (s : State) : (modTmp f s).nrg = s.nrg := rfl
@[simp] theorem modTmp_boot (f : Tmp → Tmp) (s : State) : (modTmp f s).boot = s.boot := rfl
@[simp] theorem modTmp_fuses (f : Tmp → Tmp) (s : State) : (modTmp f s).fuses = s.fuses := rfl
@[simp] theorem modTmp_grn (f : Tmp → Tmp) (s : State) : (modTmp f s).grn = s.grn := rfl
@[simp] theorem modTmp_vault (f : Tmp → Tmp) (s : State) : (modTmp f s).vault = s.vault := rfl
@[simp] theorem modTmp_ent (f : Tmp → Tmp) (s : State) : (modTmp f s).ent = s.ent := rfl
@[simp] theorem modTmp_chk (f : Tmp → Tmp) (s : State) : (modTmp f s).chk = s.chk := rfl
@[simp] theorem modTmp_kpf (f : Tmp → Tmp) (s : State) : (modTmp f s).kpf = s.kpf := rfl
@[simp] theorem modTmp_tmp (f : Tmp → Tmp) (s : State) : (modTmp f s).tmp = f s.tmp := rfl
@[simp] theorem modTmp_lcy (f : Tmp → Tmp) (s : State) : (modTmp f s).lcy = s.lcy := rfl
@[simp] theorem modTmp_slp (f : Tmp → Tmp) (s : State) : (modTmp f s).slp = s.slp := rfl
@[simp] theorem modTmp_env (f : Tmp → Tmp) (s : State) : (modTmp f s).env = s.env := rfl
@[simp] theorem modTmp_brl (f : Tmp → Tmp) (s : State) : (modTmp f s).brl = s.brl := rfl
@[simp] theorem modTmp_lvs (f : Tmp → Tmp) (s : State) : (modTmp f s).lvs = s.lvs := rfl
@[simp] theorem modTmp_hlw (f : Tmp → Tmp) (s : State) : (modTmp f s).hlw = s.hlw := rfl
@[simp] theorem modTmp_cnp (f : Tmp → Tmp) (s : State) : (modTmp f s).cnp = s.cnp := rfl
@[simp] theorem modTmp_lnk (f : Tmp → Tmp) (s : State) : (modTmp f s).lnk = s.lnk := rfl
@[simp] theorem modTmp_cus (f : Tmp → Tmp) (s : State) : (modTmp f s).cus = s.cus := rfl
@[simp] theorem modTmp_grv (f : Tmp → Tmp) (s : State) : (modTmp f s).grv = s.grv := rfl
@[simp] theorem modTmp_att (f : Tmp → Tmp) (s : State) : (modTmp f s).att = s.att := rfl
@[simp] theorem modTmp_spdm (f : Tmp → Tmp) (s : State) : (modTmp f s).spdm = s.spdm := rfl
@[simp] theorem modTmp_dis (f : Tmp → Tmp) (s : State) : (modTmp f s).dis = s.dis := rfl
@[simp] theorem modTmp_freeCtr (f : Tmp → Tmp) (s : State) : (modTmp f s).freeCtr = s.freeCtr := rfl

@[simp] theorem setVslot_pending (n : Nat) (v : VSlot) (s : State) : (setVslot n v s).pending = s.pending := rfl
@[simp] theorem setVslot_now (n : Nat) (v : VSlot) (s : State) : (setVslot n v s).now = s.now := rfl
@[simp] theorem setVslot_out (n : Nat) (v : VSlot) (s : State) : (setVslot n v s).out = s.out := rfl
@[simp] theorem setVslot_hostMem (n : Nat) (v : VSlot) (s : State) : (setVslot n v s).hostMem = s.hostMem := rfl
@[simp] theorem setVslot_tel (n : Nat) (v : VSlot) (s : State) : (setVslot n v s).tel = s.tel := rfl
@[simp] theorem setVslot_slt (n : Nat) (v : VSlot) (s : State) : (setVslot n v s).slt = s.slt := rfl
@[simp] theorem setVslot_nrg (n : Nat) (v : VSlot) (s : State) : (setVslot n v s).nrg = s.nrg := rfl
@[simp] theorem setVslot_boot (n : Nat) (v : VSlot) (s : State) : (setVslot n v s).boot = s.boot := rfl
@[simp] theorem setVslot_fuses (n : Nat) (v : VSlot) (s : State) : (setVslot n v s).fuses = s.fuses := rfl
@[simp] theorem setVslot_grn (n : Nat) (v : VSlot) (s : State) : (setVslot n v s).grn = s.grn := rfl
@[simp] theorem setVslot_vault (n : Nat) (v : VSlot) (s : State) : (setVslot n v s).vault = { s.vault with slots := tset {} s.vault.slots n v } := rfl
@[simp] theorem setVslot_ent (n : Nat) (v : VSlot) (s : State) : (setVslot n v s).ent = s.ent := rfl
@[simp] theorem setVslot_chk (n : Nat) (v : VSlot) (s : State) : (setVslot n v s).chk = s.chk := rfl
@[simp] theorem setVslot_kpf (n : Nat) (v : VSlot) (s : State) : (setVslot n v s).kpf = s.kpf := rfl
@[simp] theorem setVslot_tmp (n : Nat) (v : VSlot) (s : State) : (setVslot n v s).tmp = s.tmp := rfl
@[simp] theorem setVslot_lcy (n : Nat) (v : VSlot) (s : State) : (setVslot n v s).lcy = s.lcy := rfl
@[simp] theorem setVslot_slp (n : Nat) (v : VSlot) (s : State) : (setVslot n v s).slp = s.slp := rfl
@[simp] theorem setVslot_env (n : Nat) (v : VSlot) (s : State) : (setVslot n v s).env = s.env := rfl
@[simp] theorem setVslot_brl (n : Nat) (v : VSlot) (s : State) : (setVslot n v s).brl = s.brl := rfl
@[simp] theorem setVslot_lvs (n : Nat) (v : VSlot) (s : State) : (setVslot n v s).lvs = s.lvs := rfl
@[simp] theorem setVslot_hlw (n : Nat) (v : VSlot) (s : State) : (setVslot n v s).hlw = s.hlw := rfl
@[simp] theorem setVslot_cnp (n : Nat) (v : VSlot) (s : State) : (setVslot n v s).cnp = s.cnp := rfl
@[simp] theorem setVslot_lnk (n : Nat) (v : VSlot) (s : State) : (setVslot n v s).lnk = s.lnk := rfl
@[simp] theorem setVslot_cus (n : Nat) (v : VSlot) (s : State) : (setVslot n v s).cus = s.cus := rfl
@[simp] theorem setVslot_grv (n : Nat) (v : VSlot) (s : State) : (setVslot n v s).grv = s.grv := rfl
@[simp] theorem setVslot_att (n : Nat) (v : VSlot) (s : State) : (setVslot n v s).att = s.att := rfl
@[simp] theorem setVslot_spdm (n : Nat) (v : VSlot) (s : State) : (setVslot n v s).spdm = s.spdm := rfl
@[simp] theorem setVslot_dis (n : Nat) (v : VSlot) (s : State) : (setVslot n v s).dis = s.dis := rfl
@[simp] theorem setVslot_freeCtr (n : Nat) (v : VSlot) (s : State) : (setVslot n v s).freeCtr = s.freeCtr := rfl

@[simp] theorem setPhase_pending (p : BootPhase) (s : State) : (setPhase p s).pending = s.pending := rfl
@[simp] theorem setPhase_now (p : BootPhase) (s : State) : (setPhase p s).now = s.now := rfl
@[simp] theorem setPhase_out (p : BootPhase) (s : State) : (setPhase p s).out = s.out := rfl
@[simp] theorem setPhase_hostMem (p : BootPhase) (s : State) : (setPhase p s).hostMem = s.hostMem := rfl
@[simp] theorem setPhase_tel (p : BootPhase) (s : State) : (setPhase p s).tel = s.tel := rfl
@[simp] theorem setPhase_slt (p : BootPhase) (s : State) : (setPhase p s).slt = s.slt := rfl
@[simp] theorem setPhase_nrg (p : BootPhase) (s : State) : (setPhase p s).nrg = s.nrg := rfl
@[simp] theorem setPhase_fuses (p : BootPhase) (s : State) : (setPhase p s).fuses = s.fuses := rfl
@[simp] theorem setPhase_grn (p : BootPhase) (s : State) : (setPhase p s).grn = s.grn := rfl
@[simp] theorem setPhase_vault (p : BootPhase) (s : State) : (setPhase p s).vault = s.vault := rfl
@[simp] theorem setPhase_ent (p : BootPhase) (s : State) : (setPhase p s).ent = s.ent := rfl
@[simp] theorem setPhase_chk (p : BootPhase) (s : State) : (setPhase p s).chk = s.chk := rfl
@[simp] theorem setPhase_kpf (p : BootPhase) (s : State) : (setPhase p s).kpf = s.kpf := rfl
@[simp] theorem setPhase_tmp (p : BootPhase) (s : State) : (setPhase p s).tmp = s.tmp := rfl
@[simp] theorem setPhase_lcy (p : BootPhase) (s : State) : (setPhase p s).lcy = s.lcy := rfl
@[simp] theorem setPhase_slp (p : BootPhase) (s : State) : (setPhase p s).slp = s.slp := rfl
@[simp] theorem setPhase_env (p : BootPhase) (s : State) : (setPhase p s).env = s.env := rfl
@[simp] theorem setPhase_brl (p : BootPhase) (s : State) : (setPhase p s).brl = s.brl := rfl
@[simp] theorem setPhase_lvs (p : BootPhase) (s : State) : (setPhase p s).lvs = s.lvs := rfl
@[simp] theorem setPhase_hlw (p : BootPhase) (s : State) : (setPhase p s).hlw = s.hlw := rfl
@[simp] theorem setPhase_cnp (p : BootPhase) (s : State) : (setPhase p s).cnp = s.cnp := rfl
@[simp] theorem setPhase_lnk (p : BootPhase) (s : State) : (setPhase p s).lnk = s.lnk := rfl
@[simp] theorem setPhase_cus (p : BootPhase) (s : State) : (setPhase p s).cus = s.cus := rfl
@[simp] theorem setPhase_grv (p : BootPhase) (s : State) : (setPhase p s).grv = s.grv := rfl
@[simp] theorem setPhase_att (p : BootPhase) (s : State) : (setPhase p s).att = s.att := rfl
@[simp] theorem setPhase_spdm (p : BootPhase) (s : State) : (setPhase p s).spdm = s.spdm := rfl
@[simp] theorem setPhase_dis (p : BootPhase) (s : State) : (setPhase p s).dis = s.dis := rfl
@[simp] theorem setPhase_freeCtr (p : BootPhase) (s : State) : (setPhase p s).freeCtr = s.freeCtr := rfl

end Sys2Proof
end

