-- ==== Sys2Proof/Laws/Leaf.lean ====
section
/-!
SUPPORT. Laws/Leaf.lean: reading a leaf after a change of a leaf, what a completion keeps, and the one law of issue: a leaf that stands at
an instruction and can issue it does its effect on the settled leaf and goes on.
-/
namespace Sys2Proof
open Machine

/-! ### A table entry that is not the default -/

variable {α : Type} [DecidableEq α]

/-- An entry set to anything but the default is read back, whatever the table's form. -/
theorem tget_tset_ne (d : α) : ∀ (t : Tab α) (k : Nat) (v : α), v ≠ d → tget d (tset d t k v) k = v
  | [], k, v, h => by simp [tset, h, tget]
  | (j, w) :: t, k, v, h => by
    simp only [tset]
    by_cases h1 : k < j
    · simp [h1, h, tget]
    · by_cases h2 : k = j
      · subst h2; simp [h, tget]
      · simp [h1, h2, tget, tget_tset_ne d t k v h]

/-- Another entry is left alone, whatever the table's form, when the value set is not the default. -/
theorem tget_tset_ne_other (d : α) : ∀ (t : Tab α) (k j : Nat) (v : α), v ≠ d → j ≠ k →
    tget d (tset d t k v) j = tget d t j
  | [], k, j, v, h, hj => by
    by_cases h1 : j < k <;> simp [tset, h, tget, hj]
  | (i, w) :: t, k, j, v, h, hj => by
    simp only [tset]
    by_cases h1 : k < i
    · by_cases h2 : j < k
      · have h3 : j < i := by omega
        have h4 : ¬ j = i := by omega
        simp [h1, h, tget, hj, h2, h3, h4]
      · simp [h1, h, tget, hj, h2]
    · by_cases h2 : k = i
      · subst h2
        by_cases h3 : j < k <;> simp [h, tget, hj]
      · simp only [h1, h2, if_false, tget]
        by_cases h3 : j = i
        · simp [h3]
        · by_cases h4 : j < i
          · simp [h3, h4]
          · simp [h3, h4, tget_tset_ne_other d t k j v h hj]

/-- Setting an entry twice leaves the second value. -/
theorem tset_tset_ne (d : α) : ∀ (t : Tab α) (k : Nat) (v w : α), v ≠ d → tset d (tset d t k v) k w = tset d t k w
  | [], k, v, w, h => by simp [tset, h]
  | (i, u) :: t, k, v, w, h => by
    by_cases h1 : k < i
    · simp [tset, h1, h]
    · by_cases h2 : k = i
      · subst h2; simp [tset, h]
      · have h3 : ¬ k < i := h1
        simp [tset, h1, h2, tset_tset_ne d t k v w h]

/-! ### Leaves -/

/-- A released leaf is not the default leaf. -/
theorem released_ne {x : Leaf} (h : x.released = true) : x ≠ {} := by
  intro hx; rw [hx] at h; simp at h

@[simp] theorem leafAt_out (l : Nat) (s : State) (o : List Output) : leafAt l { s with out := o } = leafAt l s := rfl

theorem leafAt_setLeaf (l : Nat) (x : Leaf) (s : State) (h : x ≠ {}) : leafAt l (setLeaf l x s) = x :=
  tget_tset_ne _ _ _ _ h

theorem leafAt_setLeaf_other (l k : Nat) (x : Leaf) (s : State) (h : x ≠ {}) (hk : k ≠ l) :
    leafAt k (setLeaf l x s) = leafAt k s := tget_tset_ne_other _ _ _ _ _ h hk

theorem leafAt_modLeaf (l : Nat) (f : Leaf → Leaf) (s : State) (h : f (leafAt l s) ≠ {}) :
    leafAt l (modLeaf l f s) = f (leafAt l s) := leafAt_setLeaf _ _ _ h

theorem modLeaf_modLeaf (l : Nat) (f g : Leaf → Leaf) (s : State) (h : f (leafAt l s) ≠ {}) :
    modLeaf l g (modLeaf l f s) = modLeaf l (fun x => g (f x)) s := by
  unfold modLeaf
  rw [leafAt_setLeaf _ _ _ h]
  simp only [setLeaf, tset_tset_ne _ _ _ _ _ h]

/-- Leaves stay released from `s` to `t`. -/
def KeepsReleased (s t : State) : Prop := ∀ l, (leafAt l s).released = true → (leafAt l t).released = true

theorem KeepsReleased.refl (s : State) : KeepsReleased s s := fun _ h => h
theorem KeepsReleased.trans {s t u : State} (h : KeepsReleased s t) (k : KeepsReleased t u) : KeepsReleased s u :=
  fun l hl => k l (h l hl)
/-- A change that leaves the leaves alone. -/
theorem KeepsReleased.ofLeaf {s t : State} (h : t.lvs.leaf = s.lvs.leaf) : KeepsReleased s t := by
  intro l hl; simpa [leafAt, h] using hl

theorem KeepsReleased.modLeaf (l : Nat) (f : Leaf → Leaf) (s : State)
    (h : (f (leafAt l s)).released = (leafAt l s).released) (hn : f (leafAt l s) ≠ {} ∨ (leafAt l s).released = true) :
    KeepsReleased s (modLeaf l f s) := by
  have hn' : f (leafAt l s) ≠ {} := by
    cases hn with
    | inl h => exact h
    | inr h' => exact released_ne (h.trans h')
  intro k hk
  by_cases hkl : k = l
  · subst hkl; rw [leafAt_modLeaf _ _ _ hn', h]; exact hk
  · rw [Machine.modLeaf, leafAt_setLeaf_other _ _ _ _ hn' hkl]; exact hk

theorem setBit_true_ne_zero {n : Nat} (x : BitVec n) (i : Nat) (h : i < n) : setBit x i true ≠ 0 := by
  intro hc
  have := congrArg (fun v => v.getLsbD i) hc
  simp [setBit, h] at this

theorem KeepsReleased.leafEvent (l b : Nat) (s : State) (h : b < 16) : KeepsReleased s (leafEvent l b s) := by
  refine .modLeaf _ _ _ rfl (.inl ?_)
  intro hc
  exact setBit_true_ne_zero (leafAt l s).events b h (congrArg (fun (x : Leaf) => x.events) hc)

theorem KeepsReleased.ringKnock (k : Nat) (s : State) : KeepsReleased s (ringKnock k s) := by
  unfold Machine.ringKnock
  dsimp only
  split
  · exact .leafEvent _ _ _ (by decide)
  · split <;> exact .ofLeaf rfl
  · split <;> exact .ofLeaf rfl
  · exact .refl s

theorem KeepsReleased.foldS {β : Type} (f : β → State → State) (h : ∀ a s, KeepsReleased s (f a s)) :
    ∀ (l : List β) (s : State), KeepsReleased s (foldS f l s)
  | [], s => .refl s
  | a :: l, s => (h a s).trans (KeepsReleased.foldS f h l _)

theorem KeepsReleased.areaPut (c o : Nat) (b : Bytes) (s : State) : KeepsReleased s (areaPut c o b s) := .ofLeaf rfl
theorem KeepsReleased.areaStatus (c : Nat) (s : State) : KeepsReleased s (areaStatus c s) := .ofLeaf rfl
theorem KeepsReleased.setHchan (c : Nat) (x : Hchan) (s : State) : KeepsReleased s (setHchan c x s) := .ofLeaf rfl
theorem KeepsReleased.modHchan (c : Nat) (f : Hchan → Hchan) (s : State) : KeepsReleased s (modHchan c f s) := .ofLeaf rfl
theorem KeepsReleased.bump (o : Nat) (s : State) : KeepsReleased s (bump o s) := .ofLeaf rfl
theorem KeepsReleased.bumpBy (o n : Nat) (s : State) : KeepsReleased s (bumpBy o n s) := .ofLeaf rfl

theorem KeepsReleased.knockAck (c : Nat) (s : State) : KeepsReleased s (knockAck c s) := by
  unfold Machine.knockAck; dsimp only; split
  · exact .ringKnock _ _
  · exact .refl s
theorem KeepsReleased.knockRx (c : Nat) (s : State) : KeepsReleased s (knockRx c s) := by
  unfold Machine.knockRx; dsimp only; split
  · exact .ringKnock _ _
  · exact .refl s

theorem KeepsReleased.hAck (c : Nat) (q code : W16) (s : State) : KeepsReleased s (hAck c q code s) := by
  unfold Machine.hAck; dsimp only
  refine KeepsReleased.trans ?_ (.knockAck _ _)
  split <;> exact .ofLeaf rfl

theorem KeepsReleased.hLeafTaken (c : Nat) (v : W32) (s : State) : KeepsReleased s (hLeafTaken c v s) := by
  unfold Machine.hLeafTaken; dsimp only
  split
  · exact .ofLeaf rfl
  · split
    · split
      · exact .ofLeaf rfl
      · refine KeepsReleased.trans ?_ (.hAck _ _ _ _)
        exact .ofLeaf rfl
    · exact .ofLeaf rfl

theorem KeepsReleased.emit (c : EvClass) (code src : W16) (d : Bytes) (s : State) : KeepsReleased s (emit c code src d s) :=
  .ofLeaf (by simp)

theorem KeepsReleased.hAccept (c : Nat) (d : Bytes) (s : State) : KeepsReleased s (hAccept c d s) := by
  unfold Machine.hAccept; dsimp only
  refine KeepsReleased.trans ?_ (.knockRx _ _)
  cases (hchan c s).dirOut <;> cases ((hchan c s).notice && (hchan c s).waiting != []) <;>
    simp only [Bool.not_true, Bool.not_false, if_true, if_false, Bool.false_eq_true]
  · exact .ofLeaf rfl
  · split
    · refine KeepsReleased.trans ?_ (.emit _ _ _ _ _)
      exact .ofLeaf rfl
    · exact .ofLeaf rfl
  · exact .ofLeaf rfl
  · split
    · refine KeepsReleased.trans ?_ (.emit _ _ _ _ _)
      exact .ofLeaf rfl
    · exact .ofLeaf rfl

theorem KeepsReleased.hLeafPosted (c : Nat) (v : W32) (s : State) : KeepsReleased s (hLeafPosted c v s) := by
  unfold Machine.hLeafPosted; dsimp only
  split
  · exact .ofLeaf rfl
  · split
    · exact .ofLeaf rfl
    · split
      · split
        · exact .ofLeaf rfl
        · split
          · exact .ofLeaf rfl
          · refine KeepsReleased.trans ?_ (.hAck _ _ _ _)
            exact .ofLeaf rfl
      · exact (KeepsReleased.hAccept _ _ _).trans (.ofLeaf rfl)

theorem KeepsReleased.hollowObserve (l a n : Nat) (s : State) : KeepsReleased s (hollowObserve l a n s) := by
  unfold Machine.hollowObserve
  refine .foldS _ (fun e s => ?_) _ _
  dsimp only
  split
  · exact .refl s
  · split
    · exact .hLeafTaken _ _ _
    · split
      · exact .hLeafPosted _ _ _
      · split
        · exact .modHchan _ _ _
        · exact .refl s

/-- A completion of a released leaf releases no leaf and takes none from release. -/
theorem keeps_leafComplete (l : Nat) (e : LeafEff) (s : State) (hl : (leafAt l s).released = true) :
    KeepsReleased s (leafComplete l e s) := by
  have hx : ∀ e, ((leafAt l s).complete e).released = (leafAt l s).released := by
    intro e
    cases e <;> simp only [Leaf.complete] <;> (try split) <;> simp [Leaf.fit] <;> split <;> rfl
  have hc : ∀ tw a b, KeepsReleased s (leafCommit l tw a b s) := by
    intro tw a b
    unfold leafCommit
    split
    · refine KeepsReleased.trans ?_ (.hollowObserve _ _ _ _)
      exact .ofLeaf rfl
    · exact .modLeaf _ _ _ rfl (.inr hl)
  cases e <;> simp only [leafComplete] <;> first | exact hc _ _ _ | exact .modLeaf _ _ _ (hx _) (.inr hl)

theorem keeps_foldComplete (l : Nat) : ∀ (es : List (Nat × LeafEff)) (s : State), (leafAt l s).released = true →
    KeepsReleased s (foldS (fun (e : Nat × LeafEff) s => leafComplete l e.2 s) es s)
  | [], s, _ => .refl s
  | e :: es, s, h => by
    have h1 := keeps_leafComplete l e.2 s h
    exact h1.trans (keeps_foldComplete l es _ (h1 l h))

/-- What is due completing on a released leaf leaves every released leaf released. -/
theorem keeps_leafSettle (l : Nat) (s : State) (hl : (leafAt l s).released = true) : KeepsReleased s (leafSettle l s) := by
  unfold leafSettle
  dsimp only
  have h0 : KeepsReleased s (setLeaf l { leafAt l s with flight := (leafAt l s).flight.dropWhile fun e => decide (e.1 ≤ (leafAt l s).cyc) } s) :=
    .modLeaf l (fun x => { x with flight := x.flight.dropWhile fun e => decide (e.1 ≤ (leafAt l s).cyc) }) s rfl (.inr hl)
  have h1 := h0.trans (keeps_foldComplete l ((leafAt l s).flight.takeWhile fun e => decide (e.1 ≤ (leafAt l s).cyc)) _ (h0 l hl))
  refine h1.trans (.modLeaf _ _ _ ?_ (.inr (h1 l hl)))
  unfold Leaf.tick
  split
  · split <;> rfl
  · rfl

/-- A leaf that can issue is released. -/
theorem leafCanIssue_released {l : Nat} {s : State} (h : leafCanIssue l s = true) : (leafAt l s).released = true := by
  simp only [leafCanIssue, leafRuns, Bool.and_eq_true] at h; exact h.1.1.1.1

/-! ### Issue -/

theorem leafIssue_at {l : Nat} {i : LInsn} {f : State → State} {s : State} (hc : leafCanIssue l s = true)
    (hi : leafDecode (leafAt l s).word = i) : leafIssue l i f s = leafAdvance l (f (leafSettle l s)) := by
  simp [leafIssue, hc, hi]

/-- The leaves but one, and all that is not a leaf, are those of `u`; leaf `l` is `x`. -/
theorem leafOnly_setLeaf (l : Nat) (x : Leaf) (u : State) (h : x.released = true) :
    leafAt l (setLeaf l x u) = x ∧ (∀ k, k ≠ l → leafAt k (setLeaf l x u) = leafAt k u) :=
  ⟨leafAt_setLeaf _ _ _ (released_ne h), fun _ hk => leafAt_setLeaf_other _ _ _ _ (released_ne h) hk⟩

theorem setLeaf_setLeaf (l : Nat) (x y : Leaf) (u : State) (h : x.released = true) : setLeaf l y (setLeaf l x u) = setLeaf l y u := by
  simp only [setLeaf, tset_tset_ne _ _ _ _ _ (released_ne h)]

/-- A change of leaf `l` after it was set. -/
theorem modLeaf_setLeaf (l : Nat) (x : Leaf) (f : Leaf → Leaf) (u : State) (h : x.released = true) :
    modLeaf l f (setLeaf l x u) = setLeaf l (f x) u := by
  rw [modLeaf, leafAt_setLeaf _ _ _ (released_ne h), setLeaf_setLeaf _ _ _ _ h]

/-- Two changes of a released leaf are one. -/
theorem modLeaf_comp (l : Nat) (f g : Leaf → Leaf) (u : State) (h : (f (leafAt l u)).released = true) :
    modLeaf l g (modLeaf l f u) = modLeaf l (fun x => g (f x)) u := modLeaf_modLeaf l f g u (released_ne h)

/-- `u` is `u0` with leaf `l` reading `y`: what a chain of changes of one leaf keeps. -/
structure AsLeaf (l : Nat) (y : Leaf) (u0 u : State) : Prop where
  leaf : leafAt l u = y
  set : ∀ z, setLeaf l z u = setLeaf l z u0
  twig : u.lvs.twig = u0.lvs.twig

theorem AsLeaf.refl (l : Nat) (u : State) : AsLeaf l (leafAt l u) u u := ⟨rfl, fun _ => rfl, rfl⟩

/-- A change of the leaf in a state that reads `y` there. -/
theorem AsLeaf.mod {l : Nat} {y : Leaf} {u0 u : State} (h : AsLeaf l y u0 u) (f : Leaf → Leaf) (hr : (f y).released = true) :
    AsLeaf l (f y) u0 (modLeaf l f u) := by
  refine ⟨?_, fun z => ?_, h.twig⟩
  · rw [modLeaf, h.leaf, leafAt_setLeaf _ _ _ (released_ne hr)]
  · rw [modLeaf, h.leaf, setLeaf_setLeaf _ _ _ _ hr, h.set]

/-- Setting the leaf in such a state. -/
theorem AsLeaf.setL {l : Nat} {y : Leaf} {u0 u : State} (h : AsLeaf l y u0 u) (z : Leaf) (hr : z.released = true) :
    AsLeaf l z u0 (setLeaf l z u) :=
  ⟨leafAt_setLeaf _ _ _ (released_ne hr), fun w => by rw [setLeaf_setLeaf _ _ _ _ hr, h.set], h.twig⟩

/-- The last change of the leaf. -/
theorem AsLeaf.modEq {l : Nat} {y : Leaf} {u0 u : State} (h : AsLeaf l y u0 u) (f : Leaf → Leaf) :
    modLeaf l f u = setLeaf l (f y) u0 := by rw [modLeaf, h.leaf, h.set]

theorem modLeaf_eq (l : Nat) (f : Leaf → Leaf) (u : State) : modLeaf l f u = setLeaf l (f (leafAt l u)) u := rfl

end Sys2Proof
end

