-- ==== Sys2Proof/WellFormed.lean ====
section
/-!
DEFINITION. WellFormed.lean: operands that no outside party can supply are ill-formed: lengths and alignments that a bus or a
measurement fixes. Ranges that a type fixes (Fin, BitVec) need no check; what the device itself refuses is well-formed here.
-/
namespace Sys2Proof

/-- A meter reading names at most the 12 boughs, and a share is not more than the whole (03 R65). -/
def Meter.ok (m : Meter) : Bool := decide (m.boughs.length ≤ 12) && decide (m.c0 ≤ m.total)

/-- A register access is aligned to its 4 or 8 bytes. -/
def aligned (a : Nat) (wide : Bool) : Bool := a % (if wide then 8 else 4) == 0

/-- A Burl job of the Taproot or of the custody block comes with its 96-byte descriptor and at most four operands (15 R410). -/
def BrlSender.ok : BrlSender → Bool
  | .leaf _ _ => true
  | .taproot _ d ops | .custody _ d ops => d.length == 96 && decide (ops.length ≤ 4)

/-- Byte strings of a ring frame that have one length (19 R493, 11 R312). -/
def RingBody.ok : RingBody → Bool
  | .hello id _ => id.length == 16
  | .evidenceReq n _ => n.length == 32
  | .xferCtx l _ => l.all (fun e => e.2.length == 64)
  | .sync .. | .delayReq | .delayResp _ | .heartbeat .. | .grainBlock _ | .leaseMirror _ | .leaseAck _ | .forward .. | .control _
  | .xferCeil .. | .evidence .. | .regReq .. | .regResp _ => true

/-- A command's operands are well-formed. A command that is not listed takes every value of its operands' types. -/
def Instr.wf : Instr → Bool
  | .registerWrite _ _ a wide _ => aligned a.toNat wide
  | .slotEdge _ m _ => m.ok
  | .workJobSubmit _ _ _ _ m => m.ok
  | .jobAdmission _ _ m => m.ok
  | .dramTrainingDone _ _ gib => gib.length == 4
  | .pushFrameWrite _ off d => d != [] && decide (off.val + d.length ≤ 65536)
  | .i3cRegisterAccess d _ => d != []
  | .hostRead _ _ _ _ n _ _ => n != 0
  | .hostProgram _ _ _ _ _ d => d != []
  | .frameReceive _ _ _ f => f != []
  | .pauseReceive _ _ _ pfc _ q => q.length == (if pfc then 8 else 1) && q.all (fun x => decide (x < 65536))
  | .leafWaitWake _ n => n != 0
  | .brlModexp w => w.ok
  | .brlModmul w => w.ok
  | .brlModinv w => w.ok
  | .brlRsaLoad w => w.ok
  | .brlRsaPriv w => w.ok
  | .brlEcPub w => w.ok
  | .brlEcdsaSign w => w.ok
  | .brlEcdsaVerify w => w.ok
  | .brlEcMul w => w.ok
  | .brlEcdhEph w => w.ok
  | .brlEcdh w => w.ok
  | .brlMldsaPub w => w.ok
  | .brlMldsaSign w => w.ok
  | .brlMldsaVerify w => w.ok
  | .brlMlkemPub w => w.ok
  | .brlMlkemEncaps w => w.ok
  | .brlMlkemDecaps w => w.ok
  | .brlLmsVerify w => w.ok
  | .lcyAccess _ _ off _ => aligned off.toNat false
  | .dbgAccess _ _ a _ => aligned a.toNat false
  | .ringHello _ _ f => f.body.ok
  | .ringSync _ _ f _ => f.body.ok
  | .ringDelayReq _ _ f => f.body.ok
  | .ringDelayResp _ _ f => f.body.ok
  | .ringHeartbeat _ _ f => f.body.ok
  | .ringGrainBlock _ _ f => f.body.ok
  | .ringLeaseMirror _ _ f => f.body.ok
  | .ringLeaseAck _ _ f => f.body.ok
  | .ringForward _ _ f => f.body.ok
  | .ringControl _ _ f => f.body.ok
  | .ringXfer _ _ f => f.body.ok
  | .ringEvidenceReq _ _ f => f.body.ok
  | .ringEvidence _ _ f => f.body.ok
  | .ringRegReq _ _ f => f.body.ok
  | .ringRegResp _ _ f => f.body.ok
  | .grvRelayAccess _ off wide _ => aligned off.toNat wide
  | _ => true

end Sys2Proof
end

