-- ==== Sys2Proof/Tests/Slice0.lean ====
section
/-!
SUPPORT. Tests/Slice0.lean: small tests of the model on fixed values, the ill-formed terms that WellFormed refuses, and for every
statement with hypotheses a state and operands that meet them.
-/
namespace Sys2Proof

open Machine

set_option Elab.async false
set_option linter.all false

/-! ### Small states for the witnesses -/

/-- A filter entry: mailbox opcodes 0xC0 and 0xC1, every function, every opcode allowed in phases 1 and 3 and none in phase 2, default
permission 0x0F in phase 1 and 0 in the others, no opcode that always escapes, default classes. -/
def wFilter : Bytes :=
  List.replicate 8 0 ++ [0xC0, 0xC1, 0xFF, 0xFF, 0x0F, 0, 0, 0] ++ List.replicate 48 0 ++ List.replicate 32 0xFF ++ List.replicate 32 0
    ++ List.replicate 32 0xFF ++ List.replicate 32 0 ++ List.replicate 256 0xFF ++ List.replicate 64 0

/-- The first 512 bytes of a well-formed image header: one block of 4 KiB, one byte of body, every domain, no target, no region. -/
def wHead (seq : Byte) : Bytes :=
  [0x43, 0x49, 0x4D, 0x31, 1, 0, 12, 0, seq] ++ List.replicate 11 0 ++ [0xFF, 0xFF, 0xFF, 0xFF, 1, 0, 0, 0, 1, 0, 0, 0, 0, 16] ++ List.replicate 478 0

/-- A policy entry with two slots of 1 MiB. -/
def wPol : Bytes := List.replicate 0x16 0 ++ [16] ++ List.replicate 7 0 ++ [16] ++ List.replicate 481 0

/-- A slot policy that allows every key in slots 64 to 4095. -/
def wSlots : List GSlotPol := [{ first := 64, num := 4032, types := 0xFFFF, usages := 0xFFFF, dest := 0xFF, flags := 0xFF, boughs := 0xFFF }]

/-- A machine whose leaf 0 runs and stands before the instruction word `w`; `x` gives the rest of the leaf. -/
def wLeaf (w : W32) (x : Leaf) : State :=
  { boot := { pwrgood := true }, nrg := { boughs := [(0, { power := .running })] }
    lvs := { leaf := [(0, { x with released := true, imem := mwrite 0 [] 0 (leBytes 4 w.toNat) })] } }

/-- One bough record of a Grain: unpowered, no freezing, no check unit, every leaf idle without spare and program. -/
def wBough : Bytes := [0, 0, 0xFF] ++ List.replicate 13 0 ++ (List.replicate 16 ([0, 0xFF, 0xFF, 0xFF] : Bytes)).flatten

/-- Little-endian `n` bytes. -/
def wLe (n v : Nat) : Bytes := leBytes n v

/-- The sections of a small Grain: STRUCTURE with no bough powered, MEMORY with a WORK of 64 MiB that holds STAGE, TIME with slots of
10 ms disciplined by the pulse, ENERGY with 100 slots a period and 1 J held, one slot-policy entry and no signer rule. -/
def wGrainBody : Bytes :=
  List.replicate 16 0 ++ (List.replicate 12 wBough).flatten
    ++ (List.replicate 48 0 ++ wLe 8 0 ++ wLe 8 0x4000000 ++ wLe 8 0 ++ wLe 8 0x2000000)
    ++ (List.replicate 12 0 ++ wLe 4 10000 ++ List.replicate 4 0 ++ [1] ++ List.replicate 11 0)
    ++ (wLe 4 100 ++ List.replicate 44 0 ++ wLe 4 1000000 ++ List.replicate 20 0
        ++ (List.replicate 11 (List.replicate 6 (0 : Byte) ++ [1, 0])).flatten ++ List.replicate 40 0)
    ++ ([1, 0, 0, 0, 64, 0, 1, 0] ++ List.replicate 12 0 ++ List.replicate 4 0) ++ List.replicate 16 0

/-- A directory entry of a section. -/
def wDir (typ off len : Nat) : Bytes := wLe 2 typ ++ [0, 0] ++ wLe 4 off ++ wLe 4 len ++ [1, 0, 0, 0]

/-- The head of that Grain, in clear, up to its last directory entry: one body block, six sections, no signature. -/
def wGrainTop : Bytes :=
  [0x47, 0x52, 0x4E, 0x31, 1, 0, 1, 0] ++ wLe 8 1 ++ List.replicate 8 0 ++ [1, 0, 6, 0, 2] ++ List.replicate 19 0 ++ wLe 4 1328
    ++ List.replicate 204 0
    ++ (wDir 1 0 976 ++ wDir 3 976 80 ++ wDir 4 1056 32 ++ wDir 5 1088 200 ++ wDir 0xB 1288 20 ++ wDir 0xC 1312 16)

/-- The head with the 64 KiB of a block that is not the last (R98). -/
def wGrainHead : Bytes := wGrainTop ++ List.replicate 65184 0

/-- A machine with that Grain in staging; `v`: VFUSE is applied. -/
def wStaged (v : Bool) : State :=
  { boot := { pwrgood := true, vfuse := v, dramTrained := 1, dramGib := [1] }
    grn := { push := { state := 3, staging := [(0, wGrainHead), (1, wGrainBody)] } } }


theorem wPad_length (x : Bytes) (n : Nat) : (x ++ List.replicate n 0).length = x.length + n := by simp

/-- The head is one whole block. -/
theorem wGrainHead_length : wGrainHead.length = 65536 := (wPad_length wGrainTop 65184).trans (by decide +kernel)

/-- The small Grain is refused by no check (R111). -/
theorem test_grainAccepted (v : Bool) : grainRefusal (wStaged v) = none := by
  have h : blocksFull (wStaged v).grn.push = true := by
    have k : (stagedBody (wStaged v).grn.push).length = (headFields wGrainHead).bodyLen := by cases v <;> decide +kernel
    have l : ([((0 : Nat), wGrainHead)].all fun e => e.2.length == 65536) = true := by
      simp only [List.all_cons, List.all_nil, wGrainHead_length, beq_self_eq_true, Bool.and_true]
    show (([((0 : Nat), wGrainHead)].all fun e => e.2.length == 65536)
      && ((stagedBody (wStaged v).grn.push).length == (headFields wGrainHead).bodyLen)) = true
    rw [l, k]; simp
  have a : (headFields wGrainHead).isPartial = false := by decide +kernel
  have b : sectionsOk wGrainHead (stagedBody (wStaged v).grn.push) = true := by cases v <;> decide +kernel
  have c : structureOk (stagedGrain (wStaged v)) (wStaged v) = true := by cases v <;> decide +kernel
  have d : amendSigned (stagedGrain (wStaged v)).amendments = true := by cases v <;> decide +kernel
  have e : tget [] (wStaged v).grn.push.staging 0 = wGrainHead := rfl
  unfold grainRefusal
  simp only [e, a, b, c, d, h]
  rfl

/-- A fold over a list, cut at its `n`-th element. -/
theorem wFold {α β : Type} (f : β → α → β) (n : Nat) (a : β) (l : List α) :
    l.foldl f a = (l.drop n).foldl f ((l.take n).foldl f a) := by rw [← List.foldl_append, List.take_append_drop]

/-- A format header of a device without FUSE_ID, under an empty JMK (R235). -/
def wFmt : Bytes :=
  [0x4b, 0x50, 0x46, 0x31, 0x01] ++ List.replicate 219 0 ++
    [0x88, 0x80, 0x9c, 0x99] ++ List.replicate 12 0 ++ [0xea, 0x76, 0x02, 0x1d, 0x57, 0x8c, 0x14, 0x57, 0x01, 0xfc, 0xe7, 0x4d, 0xdd, 0x26, 0xad, 0x3c]

theorem wFmt_sound : pageSound false [] wFmt = true := by
  have a : ∀ i l x y, ((l : Bytes).take 56).foldl (crcByte 32 0x1EDC6F41 true) x = y →
      crcFinal 32 true 0xFFFFFFFF ((l.drop 56).foldl (crcByte 32 0x1EDC6F41 true) y) = i →
      crcFinal 32 true 0xFFFFFFFF (l.foldl (crcByte 32 0x1EDC6F41 true) x) = i := fun i l x y h k => by rw [wFold _ 56, h, k]
  have c : fieldLe wFmt 0xE0 4 = crc32c (wFmt.take 0xE0) := by
    refine Eq.symm (a _ _ _ 2316528266 (by decide +kernel) (a _ _ _ 1484059073 (by decide +kernel) (a _ _ _ 3311566692 (by decide +kernel) ?_)))
    decide +kernel
  have l : (wFmt.length == 256) = true := by decide +kernel
  have m : pageMac false [] wFmt = true := by decide +kernel
  unfold pageSound
  rw [l, m, ← c, beq_self_eq_true]; rfl

/-- The header of an empty journal sector, under an empty JMK (R236). -/
def wSector : Bytes :=
  [0x4b, 0x4a, 0x53, 0x31, 0x00, 0x00, 0x00, 0x00, 0x01] ++ List.replicate 215 0 ++
    [0x07, 0x22, 0xe2, 0xa9] ++ List.replicate 12 0 ++ [0xf6, 0x75, 0x88, 0x38, 0xe3, 0xed, 0xb1, 0x4a, 0x31, 0xd1, 0x1f, 0x25, 0xeb, 0x88, 0xc1, 0x28]

theorem wSector_sound : pageSound false [] wSector = true := by
  have a : ∀ i l x y, ((l : Bytes).take 56).foldl (crcByte 32 0x1EDC6F41 true) x = y →
      crcFinal 32 true 0xFFFFFFFF ((l.drop 56).foldl (crcByte 32 0x1EDC6F41 true) y) = i →
      crcFinal 32 true 0xFFFFFFFF (l.foldl (crcByte 32 0x1EDC6F41 true) x) = i := fun i l x y h k => by rw [wFold _ 56, h, k]
  have c : fieldLe wSector 0xE0 4 = crc32c (wSector.take 0xE0) := by
    refine Eq.symm (a _ _ _ 161126129 (by decide +kernel) (a _ _ _ 3294903333 (by decide +kernel) (a _ _ _ 2381531318 (by decide +kernel) ?_)))
    decide +kernel
  have l : (wSector.length == 256) = true := by decide +kernel
  have m : pageMac false [] wSector = true := by decide +kernel
  unfold pageSound
  rw [l, m, ← c, beq_self_eq_true]; rfl

/-- 4,096 samples that neither test of R145 objects to. -/
def wQuiet : Bytes := List.replicate 512 0x5A

theorem wQuiet_run : (healthRun {} (sampleBits wQuiet)).2 = true := by
  let f := fun (a : Health × Bool) b => let r := a.1.step b; (r.1, a.2 && !r.2)
  let x (k : Nat) : Health × Bool := ({ last := false, run := 1, first := false, taken := 256 * (k % 4), same := 128 * k }, true)
  have a : ∀ l y k z, ((l : List Bool).take 256).foldl f y = x k → (l.drop 256).foldl f (x k) = z → l.foldl f y = z :=
    fun l y k z h g => by rw [wFold _ 256, h, g]
  have p : ∀ y, ((sampleBits (List.replicate 128 0x5A)).take 256).foldl f y = x 1 →
      (sampleBits (List.replicate 128 0x5A)).foldl f y = x 4 := fun y h =>
    a _ _ 1 _ h (a _ _ 2 _ (by decide +kernel) (a _ _ 3 _ (by decide +kernel) (by decide +kernel)))
  have e : wQuiet = List.replicate 128 0x5A ++ (List.replicate 128 0x5A ++ (List.replicate 128 0x5A ++ List.replicate 128 0x5A)) := by
    simp [wQuiet]
  have q : sampleBits wQuiet = sampleBits (List.replicate 128 0x5A) ++ (sampleBits (List.replicate 128 0x5A)
      ++ (sampleBits (List.replicate 128 0x5A) ++ sampleBits (List.replicate 128 0x5A))) := by
    rw [e]; unfold sampleBits; rw [List.flatMap_append, List.flatMap_append, List.flatMap_append]
  have r : (sampleBits (List.replicate 128 0x5A)).foldl f (x 4) = x 4 := p _ (by decide +kernel)
  show ((sampleBits wQuiet).foldl f ({}, true)).2 = true
  rw [q, List.foldl_append, List.foldl_append, List.foldl_append, p ({}, true) (by decide +kernel), r, r, r]

/-- A page that mirror 0 holds sound reads so. -/
theorem readPage_first (s : State) (k : Nat) (b : Bytes) (h : mirrors s = [0, 1]) (hb : s.kpf.m0.read k = b) (hn : b ≠ erasedPage)
    (hj : pageSound s.boot.keyless (tapKey 2 s) b = true) : readPage k s = .sound b := by
  simp [readPage, h, mir, hb, pageJudge, hn, hj]

/-- A device before its journal has been read, whose keep flash has a format header. -/
def wFormatted : State :=
  { boot := { pwrgood := true, romRunning := true, phase := .dram }, kpf := { m0 := { pages := [(0, wFmt)] } } }

theorem wFormatted_formatted :
    keepFormatted (deriveJmk (withKpf { wFormatted.kpf with keylessRead := false, replayed := true } { wFormatted with out := [] })) = true := by
  have h : ∀ s, readPage 0 s = .sound wFmt → s.fuses.fuseId = [] → keepFormatted s = true := by
    intro s h f
    have g : (slice wFmt 0 4 == [0x4B, 0x50, 0x46, 0x31] && fieldLe wFmt 4 2 == 1 && slice wFmt 8 16 == padTo 16 []) = true := by decide +kernel
    simp only [keepFormatted, formatPages, List.any_cons, h, f, g, Bool.true_or]
  exact h _ (readPage_first _ _ _ (by decide +kernel) (by decide +kernel) (by decide +kernel) wFmt_sound) rfl

/-- A device with one journal sector that holds no record, and a checkpoint in progress. -/
def wHeld : State :=
  { boot := { pwrgood := true }, kpf := { replayed := true, ckpt := some {}, prog := some {}, m0 := { pages := [(272, wSector)] } } }

theorem wHeld_sector : sectorHeld 1 wHeld = some 0 := by
  have q : ∀ s b, readPage (ringPage 1 0) s = .sound b → slice b 0 4 = [0x4B, 0x4A, 0x53, 0x31] → fieldLe b 4 4 = 0 →
      sectorHeld 1 s = some 0 := by intro s b h m e; simp [sectorHeld, h, m, e]
  have t : tapKey 2 wHeld = [] := by decide +kernel
  refine q wHeld wSector (readPage_first wHeld _ wSector (by decide +kernel) ?_ (by decide +kernel) ?_) (by decide +kernel) (by decide +kernel)
  · decide +kernel
  · rw [t]; exact wSector_sound

theorem wHeld_oldest : oldestSector wHeld = some 1 := by
  have u : usedSectors wHeld = [1] := by decide +kernel
  have h : wHeld.kpf.headSector = 0 := rfl
  simp [oldestSector, u, wHeld_sector, h]

theorem wHeld_records : journalRecords wHeld = [] := by
  have u : usedSectors wHeld = [1] := by decide +kernel
  have r : ((List.range 15).filterMap (fun i => (readRec 1 (i + 1) wHeld).map (fun r => (16 * 1 + (i + 1), r)))) = [] := by decide +kernel
  simp only [journalRecords, u, List.flatMap_cons, List.flatMap_nil, List.append_nil, sectorRecs, wHeld_sector, Option.isNone_some]
  exact r

/-! ### Leaf words written out bit by bit from the formats of 14 -/

/-- R381, R383, R387: ADD.s w3, w4, w5; SRAI w1, w2, 7; CLZ w6, w7; ADDI w1, w2, -1; LUI w9, 0x1234; DIVS w4, w1, w2. -/
theorem test_decodeArithmetic :
    leafDecode 0b000000_00011_00100_00101_1_0000000000 = .alu .add true 3 4 5 ∧
    leafDecode 0b000000_00001_00010_00111_0_0000010110 = .sh .srai false 1 2 7 ∧
    leafDecode 0b000000_00110_00111_00000_0_0000011000 = .un .clz false 6 7 ∧
    leafDecode 0b000001_00001_00010_1111111111111111 = .imm .addi 1 2 0xFFFF ∧
    leafDecode 0b000111_01001_00000_0001001000110100 = .lui 9 0x1234 ∧
    leafDecode 0b100001_00100_00001_00010_0_0000000001 = .div true 2 1 2 := by decide

/-- R384, R386: LW w1, [w2]+4; SB w3, [w4-1]!; LH w5, [w6+w7<<1]; SWAPW w1, [w2+8]; MAC w1, w2; MFA w3, 2; ASHL by 5. -/
theorem test_decodeMemoryAndAccumulator :
    leafDecode 0b010000_00001_00010_001_0000000000100 = .mem .lw 1 2 (.post 4) ∧
    leafDecode 0b010111_00011_00100_010_0000000000001 = .mem .sb 3 4 (.pre 1) ∧
    leafDecode 0b010001_00101_00110_011_00111_01_000000 = .mem .lh 5 6 (.idx 7 1) ∧
    leafDecode 0b011000_00001_00010_000_0000000001000 = .swapw 1 2 8 ∧
    leafDecode 0b100000_00000_00001_00010_0000000_0100 = .mac .mac 1 2 ∧
    leafDecode 0b100000_00011_00000_00000_0000010_1000 = .mfa 3 2 ∧
    leafDecode 0b100000_00000_00000_00000_0000101_1101 = .ashift true 5 := by decide

/-- R388, R389: B.GTS -2; BNZ w3, 5; JAL 1; JALR w30, w2; WAIT w1, 0x8001; MFS w2, PENDING. -/
theorem test_decodeControl :
    leafDecode 0b110000_1110_1111111111111111111110 = .bcond .gts 0x3FFFFE ∧
    leafDecode 0b110010_00000_00011_0000000000000101 = .bz true 3 5 ∧
    leafDecode 0b110100_00000000000000000000000001 = .j true 1 ∧
    leafDecode 0b110110_11110_00010_00000_0_0000000000 = .jalr 30 2 ∧
    leafDecode 0b111010_00001_00000_1000000000000001 = .wait 1 0x8001 ∧
    leafDecode 0b111100_00010_00000_00011_0_0000000010 = .mfs 2 3 := by decide

/-- R380: OP 0x3F, FN 0x00F, MODE 4, COND 1, an odd RD in a divide, an unlisted SEL and a field that should be 0 are undefined. -/
theorem test_decodeUndefined :
    leafDecode 0b111111_00000_00000_0000000000000000 = .undef ∧
    leafDecode 0b000000_00000_00000_00000_0_0000001111 = .undef ∧
    leafDecode 0b010000_00001_00010_100_0000000000000 = .undef ∧
    leafDecode 0b110000_0001_0000000000000000000000 = .undef ∧
    leafDecode 0b100001_00011_00001_00010_0_0000000000 = .undef ∧
    leafDecode 0b100000_00011_00000_00000_0000011_1000 = .undef ∧
    leafDecode 0b000111_01001_00001_0001001000110100 = .undef := by decide

/-- Leaf words that stand at the pc of a running leaf, one for each shape of the leaf's statements. -/
theorem wit_leafAtInsn :
    AtInsn 0 (.alu .add true 3 4 5) (wLeaf 0b000000_00011_00100_00101_1_0000000000 {}) ∧
    AtInsn 0 (.un .clz false 6 7) (wLeaf 0b000000_00110_00111_00000_0_0000011000 {}) ∧
    AtInsn 0 (.imm .addi 1 2 0xFFFF) (wLeaf 0b000001_00001_00010_1111111111111111 {}) ∧
    AtInsn 0 (.mac .mac 1 2) (wLeaf 0b100000_00000_00001_00010_0000000_0100 {}) ∧
    AtInsn 0 (.div true 2 1 2) (wLeaf 0b100001_00100_00001_00010_0_0000000001 {}) ∧
    AtInsn 0 (.bcond .gts 0x3FFFFE) (wLeaf 0b110000_1110_1111111111111111111110 {}) ∧
    AtInsn 0 (.mfs 2 3) (wLeaf 0b111100_00010_00000_00011_0_0000000010 {}) ∧
    AtInsn 0 .undef (wLeaf 0b111111_00000_00000_0000000000000000 {}) := by
  unfold AtInsn
  decide +kernel

/-- StepRunsFront: a machine with a command at the front of its queue. -/
theorem wit_stepRunsFront : ∃ (c : Instr) (q : List Instr) (s : State), s.pending = c :: q :=
  ⟨.idcode, [], { pending := [.idcode] }, rfl⟩

/-! ### Check values published with the algorithms that the spec names -/

/-- The text 123456789. -/
def wDigits : Bytes := [0x31, 0x32, 0x33, 0x34, 0x35, 0x36, 0x37, 0x38, 0x39]

/-- CRC-32C, CRC-32 and CRC-16 with polynomial 0x1021 from 0xFFFF of 123456789. -/
theorem test_crcCheckValues : crc32c wDigits = 0xE3069283 ∧ crc32 wDigits = 0xCBF43926 ∧ crc16 wDigits = 0x29B1 := by
  decide +kernel

/-- AES-256 of FIPS 197 C.3. -/
theorem test_aes256 :
    aesEnc ((List.range 32).map (BitVec.ofNat 8)) ((List.range 16).map (fun i => BitVec.ofNat 8 (17 * i)))
      = [0x8E, 0xA2, 0xB7, 0xCA, 0x51, 0x67, 0x45, 0xBF, 0xEA, 0xFC, 0x49, 0x90, 0x4B, 0x49, 0x60, 0x89] := by decide +kernel

/-- SHA-384 of the text abc begins with these bytes (FIPS 180-4's example). -/
theorem test_sha384 : (sha384 [0x61, 0x62, 0x63]).take 8 = [0xCB, 0x00, 0x75, 0x3F, 0x45, 0xA3, 0x5E, 0x8B] := by decide +kernel

/-- SHA3-256 of the empty text begins with these bytes. -/
theorem test_sha3 : (sha3_256 []).take 8 = [0xA7, 0xFF, 0xC6, 0xF8, 0xBF, 0x1E, 0xD7, 0x66] := by decide +kernel

/-! ### Ill-formed operands -/

/-- A register access off its alignment, a meter that names too many boughs, one whose share exceeds the whole. -/
theorem test_wfRegistersAndMeters :
    (Instr.registerWrite 0 false 2 false 0).wf = false ∧ (Instr.registerWrite 0 false 4 true 0).wf = false ∧
    (Instr.lcyAccess 0 false 2 0).wf = false ∧ (Instr.dbgAccess 0 false 2 0).wf = false ∧
    (Instr.grvRelayAccess 0 4 true none).wf = false ∧
    (Instr.slotEdge 0 { boughs := List.replicate 13 0 } 0).wf = false ∧ (Instr.slotEdge 0 { total := 1, c0 := 2 } 0).wf = false ∧
    (Instr.registerWrite 0 false 8 true 0).wf = true := by decide

/-- Byte strings that no bus carries: empty ones, ones that overrun their frame, and ones of the wrong length. -/
theorem test_wfByteStrings :
    (Instr.pushFrameWrite 0 0 []).wf = false ∧ (Instr.pushFrameWrite 0 65535 [1, 2]).wf = false ∧
    (Instr.i3cRegisterAccess [] 0).wf = false ∧ (Instr.hostRead 0 3 false 0 0 [] none).wf = false ∧
    (Instr.hostProgram 0 0 2 false 0 []).wf = false ∧ (Instr.frameReceive 0 0 0 []).wf = false ∧
    (Instr.pauseReceive 0 0 0 true 1 [5]).wf = false ∧ (Instr.pauseReceive 0 0 0 false 0 [65536]).wf = false ∧
    (Instr.dramTrainingDone 0 ⟨1, 1, 0⟩ [16]).wf = false ∧ (Instr.leafWaitWake 0 0).wf = false ∧
    (Instr.brlModexp (.taproot 0 [1] [])).wf = false ∧ (Instr.brlModexp (.custody 0 (List.replicate 96 0) [[], [], [], [], []])).wf = false ∧
    (Instr.ringHello 0 false { body := .hello [1] 0 }).wf = false ∧
    (Instr.ringEvidenceReq 0 false { body := .evidenceReq [1] false }).wf = false ∧
    (Instr.ringXfer 0 false { body := .xferCtx [(0, [1])] true }).wf = false := by decide

/-! ### Single steps -/

/-- The block idles at reset; PWRGOOD then raises it into start-up. -/
theorem test_resetIdles : step State.reset = .next State.reset ∧ State.reset.boot.pwrgood = false := ⟨rfl, by decide⟩

/-- ADD.s of 0xFFFFFFFF and 1 puts 0 in flight with Z and C set and N and V clear (R381, R382). -/
theorem test_addWraps :
    (aluValue .add false 0xFFFFFFFF 1, aluCarry .add false 0xFFFFFFFF 1, aluOverflow .add false 0xFFFFFFFF 1) = (0, some true, some false) := by
  decide
/-- BringUp: states and operands that meet the premises of its clauses (part 1 of 2). -/
theorem wit_bringUp_1 :
    (∃ (n : Nat) (s : State) (b : Nat) (bs : List Nat), let due := s.boot.installedAt + 12500000 + 25000000 * s.boot.releases; live s = true ∧ s.boot.releaseQueue = b :: bs ∧ max s.now n < due) ∧
    (∃ (n : Nat) (s : State) (b : Nat) (bs : List Nat), let due := s.boot.installedAt + 12500000 + 25000000 * s.boot.releases; live s = true ∧ s.boot.releaseQueue = b :: bs ∧ due ≤ max s.now n ∧ bs ≠ []) ∧
    (∃ (l : Fin 192) (s : State), live s = true ∧ s.grn.swaps.contains l.val = false) ∧
    (∃ (l : Fin 192) (s : State), live s = true ∧ s.grn.swaps.contains l.val = true ∧ (leafAt l.val s).fenced = true) ∧
    (∃ (l : Fin 192) (s : State), live s = true ∧ s.grn.swaps.contains l.val = true ∧ (leafAt l.val s).fenced = false ∧ (boughRuns (l.val / 16) s = false ∨ roleWorkDone l.val s = false)) ∧
    (∃ (l : Fin 192) (s : State), live s = true ∧ s.grn.swaps.contains l.val = true ∧ (leafAt l.val s).fenced = false ∧ boughRuns (l.val / 16) s = true ∧ roleWorkDone l.val s = true) ∧
    (∃ (b : Fin 12) (s : State), let idle := s.grn.powerDown.contains b.val = true ∧ (∀ l ∈ s.grn.swaps, l / 16 ≠ b.val) ∧ (∀ e ∈ (eng b.val s).ports, e.2 = noJob) ∧ (s.boot.helper = some b.val → ∀ e ∈ s.cus.dom, e.2.st ≠ CusState.select ∧ e.2.st ≠ CusState.verify ∧ (e.2.bootDue = false ∨ e.2.pg = false)); live s = true ∧ idle ∧ s.boot.helper ≠ some b.val ∧ s.hlw.chan = []) ∧
    (∃ (b : Fin 12) (s : State), let idle := s.grn.powerDown.contains b.val = true ∧ (∀ l ∈ s.grn.swaps, l / 16 ≠ b.val) ∧ (∀ e ∈ (eng b.val s).ports, e.2 = noJob) ∧ (s.boot.helper = some b.val → ∀ e ∈ s.cus.dom, e.2.st ≠ CusState.select ∧ e.2.st ≠ CusState.verify ∧ (e.2.bootDue = false ∨ e.2.pg = false)); live s = true ∧ ¬idle) := by
  refine ⟨?_, ?_, ?_, ?_, ?_, ?_, ?_, ?_⟩
  · exact ⟨0, { boot := { pwrgood := true, releaseQueue := (0 :: []) } }, 0, [], by and_intros <;> decide +kernel⟩
  · exact ⟨12500000, { boot := { pwrgood := true, releaseQueue := (0 :: [1]) } }, 0, [1], by and_intros <;> decide +kernel⟩
  · exact ⟨0, { boot := { pwrgood := true } }, by and_intros <;> decide +kernel⟩
  · exact ⟨0, { boot := { pwrgood := true }, grn := { swaps := [0] }, lvs := { leaf := [(0, { fenced := true })] } }, by and_intros <;> decide +kernel⟩
  · exact ⟨0, { boot := { pwrgood := true }, grn := { swaps := [0] } }, by and_intros <;> decide +kernel⟩
  · exact ⟨0, { boot := { pwrgood := true }, grn := { swaps := [0] }, nrg := { boughs := [(0, { power := .running })] } }, by and_intros <;> decide +kernel⟩
  · exact ⟨0, { boot := { pwrgood := true }, grn := { powerDown := [0] } }, by and_intros <;> decide +kernel⟩
  · exact ⟨0, { boot := { pwrgood := true } }, by and_intros <;> decide +kernel⟩

/-- BringUp: states and operands that meet the premises of its clauses (part 2 of 2). -/
theorem wit_bringUp_2 :
    (∃ (s : State), live s = true ∧ s.grn.drains = [] ∧ s.cnp.opens = []) ∧
    (∃ (n : Nat) (s : State), let may := s.fuses.bootSet = true ∧ lcsLoads s.boot.lcs = true ∧ s.grn.installed = false ∧ s.boot.stopped = false ∧ s.boot.helper.isSome = true ∧ s.boot.dramTrained ≠ 0 ∧ s.boot.dramOff = false ∧ s.kpf.replayed = true ∧ (cdom 0 s).st = CusState.held ∧ (cdom 0 s).pg = true ∧ ((cdom 0 s).pgLost = true → (cdom 0 s).pgAt + 10000000000 ≤ max s.now n) ∧ cusOn 0 s = true ∧ (s.boot.bootstrapped = true → (cdom 0 s).bootDue = true); live s = true ∧ ¬may) ∧
    (∃ (n : Nat) (a : Bytes) (b : Bytes) (f : FlashSeen) (s : State), let may := s.fuses.bootSet = true ∧ lcsLoads s.boot.lcs = true ∧ s.grn.installed = false ∧ s.boot.stopped = false ∧ s.boot.helper.isSome = true ∧ s.boot.dramTrained ≠ 0 ∧ s.boot.dramOff = false ∧ s.kpf.replayed = true ∧ (cdom 0 s).st = CusState.held ∧ (cdom 0 s).pg = true ∧ ((cdom 0 s).pgLost = true → (cdom 0 s).pgAt + 10000000000 ≤ max s.now n) ∧ cusOn 0 s = true ∧ (s.boot.bootstrapped = true → (cdom 0 s).bootDue = true); live s = true ∧ may ∧ twf { } s.cus.dom = true ∧ (s.kpf.anchorLost = true ∨ flashDummy f.sfdp 0 50 = none ∨ (bootstrapOrder a b s).1 = [] ∨ ∀ e ∈ (bootstrapOrder a b s).1, bootstrapTest e.2 s ≠ none)) := by
  refine ⟨?_, ?_, ?_⟩
  · exact ⟨{ boot := { pwrgood := true } }, by and_intros <;> decide +kernel⟩
  · exact ⟨0, { boot := { pwrgood := true } }, by and_intros <;> decide +kernel⟩
  · exact ⟨0, [], [], { sfdp := [], regs := [] }, { boot := { pwrgood := true, lcs := .grafted, helper := some 0, dramTrained := 1 }, fuses := { bootSet := true }, kpf := { replayed := true, anchorLost := true }, cus := { dom := [(0, { pg := true })] } }, by and_intros <;> decide +kernel⟩

/-- BurlModular: states and operands that meet the premises of its clauses. -/
theorem wit_burlModular :
    (∃ (bits : Nat) (a : Nat) (m : Nat), m % 2 = 1 ∧ m.log2 + 1 = bits ∧ 1 < m ∧ a.Coprime m) ∧
    (∃ (bits : Nat) (a : Nat) (m : Nat), m % 2 = 1 ∧ m.log2 + 1 = bits ∧ ¬a.Coprime m) ∧
    (∃ (bits : Nat) (m : Nat), (m % 2 = 0 ∨ m.log2 + 1 ≠ bits)) := by
  refine ⟨?_, ?_, ?_⟩
  · exact ⟨2, 2, 3, by and_intros <;> decide +kernel⟩
  · exact ⟨2, 3, 3, by and_intros <;> decide +kernel⟩
  · exact ⟨0, 0, by decide +kernel⟩

/-- BurlSubmissions: states and operands that meet the premises of its clauses. -/
theorem wit_burlSubmissions :
    (∃ (c : Instr) (op : Nat) (l : Fin 192) (desc : BitVec 16) (s : State), let x := leafAt l.val s; let a := desc.toNat / 16 * 16; let d := mread 0 x.dmem a 96; let b := l.val / 16; IsBrl c op (BrlSender.leaf l desc) ∧ live s = true ∧ leafCanIssue l.val s = true ∧ fieldLe d 0 1 = op ∧ brlPort (eng b s) (l.val % 16) = noJob) ∧
    (∃ (c : Instr) (op : Nat) (l : Fin 192) (desc : BitVec 16) (s : State), let x := leafAt l.val s; let a := desc.toNat / 16 * 16; let d := mread 0 x.dmem a 96; let b := l.val / 16; IsBrl c op (BrlSender.leaf l desc) ∧ live s = true ∧ leafCanIssue l.val s = true ∧ fieldLe d 0 1 = op ∧ brlPort (eng b s) (l.val % 16) ≠ noJob) ∧
    (∃ (c : Instr) (op : Nat) (b : Fin 12) (d : Bytes) (ops : List Bytes) (s : State), op < 256 ∧ live s = true ∧ IsBrl c op (BrlSender.taproot b d ops) ∧ brlPort (eng b.val s) 16 = noJob) ∧
    (∃ (c : Instr) (op : Nat) (b : Fin 12) (d : Bytes) (ops : List Bytes) (s : State), op < 256 ∧ live s = true ∧ IsBrl c op (BrlSender.custody b d ops) ∧ brlPort (eng b.val s) 17 = noJob) ∧
    (∃ (b : Fin 12) (s : State) (p : Nat), live s = true ∧ (eng b.val s).fenced = false ∧ (∀ p ∈ (eng b.val s).ports, p.2.running = false) ∧ brlOn b.val s = true ∧ boughRuns b.val s = true ∧ p < 18 ∧ brlPort (eng b.val s) p ≠ noJob ∧ (p ≠ 16 → brlPort (eng b.val s) 16 = noJob) ∧ (p < 16 → brlPort (eng b.val s) 17 = noJob ∧ ∀ q < 16, (q + 15 - (eng b.val s).lastLeaf % 16) % 16 < (p + 15 - (eng b.val s).lastLeaf % 16) % 16 → brlPort (eng b.val s) q = noJob)) ∧
    (∃ (b : Fin 12) (s : State) (p : Nat) (j : BrlJob) (r : BrlOut), live s = true ∧ boughRuns b.val s = true ∧ (eng b.val s).fenced = false ∧ List.find? (fun (e : Nat × BrlJob) => e.2.running) (eng b.val s).ports = some (p, j) ∧ p < 16 ∧ j.res = some r ∧ j.orphan = false ∧ (leafAt (16 * b.val + p) s).released = true ∧ r.code = 0 ∧ r.fence = false ∧ r.secure = 0 ∧ r.secret = [] ∧ r.toSlot = none ∧ (brlOutRef j.desc).loc = 3) ∧
    (∃ (b : Fin 12) (s : State) (p : Nat) (j : BrlJob) (r : BrlOut), live s = true ∧ boughRuns b.val s = true ∧ (eng b.val s).fenced = false ∧ List.find? (fun (e : Nat × BrlJob) => e.2.running) (eng b.val s).ports = some (p, j) ∧ p < 16 ∧ j.res = some r ∧ j.orphan = false ∧ (leafAt (16 * b.val + p) s).released = true ∧ r.code ≠ 20497 ∧ twf [] s.lvs.bough = true) := by
  refine ⟨?_, ?_, ?_, ?_, ?_, ?_, ?_⟩
  · exact ⟨.brlModexp (.leaf 0 0), 1, 0, 0, { boot := { pwrgood := true }, nrg := { boughs := [(0, { power := .running })] }, lvs := { leaf := [(0, { released := true, dmem := [(0,1)] })] } }, ⟨rfl, by decide +kernel, by decide +kernel, by decide +kernel, by decide +kernel⟩⟩
  · exact ⟨.brlModexp (.leaf 0 0), 1, 0, 0, { boot := { pwrgood := true }, nrg := { boughs := [(0, { power := .running })] }, lvs := { leaf := [(0, { released := true, dmem := [(0,1)] })] }, brl := { eng := [(0, { ports := [(0, { desc := [1] })] })] } }, ⟨rfl, by decide +kernel, by decide +kernel, by decide +kernel, by decide +kernel⟩⟩
  · exact ⟨.brlModexp (.taproot 0 [] []), 1, 0, [], [], { boot := { pwrgood := true } }, ⟨by decide +kernel, by decide +kernel, rfl, by decide +kernel⟩⟩
  · exact ⟨.brlModexp (.custody 0 [] []), 1, 0, [], [], { boot := { pwrgood := true } }, ⟨by decide +kernel, by decide +kernel, rfl, by decide +kernel⟩⟩
  · exact ⟨0, { boot := { pwrgood := true }, nrg := { boughs := [(0, { power := .running })] }, brl := { eng := [(0, { ports := [(0, { desc := [1] })] })] } }, 0, by and_intros <;> decide +kernel⟩
  · exact ⟨0, { boot := { pwrgood := true }, nrg := { boughs := [(0, { power := .running })] }, brl := { eng := [(0, { ports := [(0, { desc := List.replicate 80 3 ++ List.replicate 60 3, running := true, res := some {} })] })] }, lvs := { leaf := [(0, { released := true })] } }, 0, { desc := List.replicate 80 3 ++ List.replicate 60 3, running := true, res := some {} }, {}, by and_intros <;> decide +kernel⟩
  · exact ⟨0, { boot := { pwrgood := true }, nrg := { boughs := [(0, { power := .running })] }, brl := { eng := [(0, { ports := [(0, { desc := [1], running := true, res := some {} })] })] }, lvs := { leaf := [(0, { released := true })] } }, 0, { desc := [1], running := true, res := some {} }, {}, by and_intros <;> decide +kernel⟩

/-- CambiumReadsAndModes: states and operands that meet the premises of its clauses (part 1 of 5). -/
theorem wit_cambiumReadsAndModes_1 :
    (∃ (c : Instr) (d : Fin 32) (cls : Nat) (op : BitVec 8) (ext : Bool) (a : State → Nat) (n : Nat) (inp : State → State) (s : State), let x := cdom d.val s; HostTxn c d cls op ext a n inp ∧ live s = true ∧ twf { } s.cus.dom = true ∧ (x.st ≠ CusState.running ∨ cusOn d.val s = false)) ∧
    (∃ (c : Instr) (d : Fin 32) (cls : Nat) (op : BitVec 8) (ext : Bool) (a : State → Nat) (n : Nat) (inp : State → State) (s : State), let x := cdom d.val s; HostTxn c d cls op ext a n inp ∧ live s = true ∧ twf { } s.cus.dom = true ∧ x.st = CusState.running ∧ cusOn d.val s = true ∧ fltClass (fltEntry d.val s) op.toNat ≠ cls) ∧
    (∃ (c : Instr) (d : Fin 32) (cls : Nat) (op : BitVec 8) (ext : Bool) (a : State → Nat) (n : Nat) (inp : State → State) (s : State), let x := cdom d.val s; HostTxn c d cls op ext a n inp ∧ live s = true ∧ twf { } s.cus.dom = true ∧ x.st = CusState.running ∧ cusOn d.val s = true ∧ fltClass (fltEntry d.val s) op.toNat = cls ∧ x.flt.dpd = true ∧ (cls ≠ 11 ∨ op = 185)) ∧
    (∃ (c : Instr) (d : Fin 32) (cls : Nat) (op : BitVec 8) (ext : Bool) (a : State → Nat) (n : Nat) (inp : State → State) (s : State), let x := cdom d.val s; HostTxn c d cls op ext a n inp ∧ live s = true ∧ twf { } s.cus.dom = true ∧ FltReady d.val cls op.toNat s ∧ x.flt.hostMode = 3 ∧ ext = false) ∧
    (∃ (c : Instr) (d : Fin 32) (cls : Nat) (op : BitVec 8) (ext : Bool) (a : State → Nat) (n : Nat) (inp : State → State) (s : State), let x := cdom d.val s; HostTxn c d cls op ext a n inp ∧ live s = true ∧ twf { } s.cus.dom = true ∧ FltReady d.val cls op.toNat s ∧ (x.flt.hostMode ≠ 3 ∨ ext = true) ∧ x.flt.busy = true ∧ cls ∉ [1, 2, 10, 12] ∧ (cls ≠ 0 ∨ x.flt.suspended = false)) ∧
    (∃ (c : Instr) (d : Fin 32) (cls : Nat) (op : BitVec 8) (ext : Bool) (a : State → Nat) (n : Nat) (inp : State → State) (s : State), let x := cdom d.val s; HostTxn c d cls op ext a n inp ∧ live s = true ∧ twf { } s.cus.dom = true ∧ FltReady d.val cls op.toNat s ∧ (x.flt.hostMode ≠ 3 ∨ ext = true) ∧ x.flt.busy = false ∧ cls ∉ [4, 5, 6, 7] ∧ eAllows (fltEntry d.val s) x.flt.phase op.toNat = false) ∧
    (∃ (d : Fin 32) (op : BitVec 8) (ext : Bool) (s : State) (addr : BitVec 32) (n : Nat) (k : Nat), let x := cdom d.val s; let e := fltEntry d.val s; let size := flashBytes x.info.sfdp; let a := hostAddr d.val op.toNat addr.toNat s; let at_ := fun (i : Nat) => (a + i) % max 1 size; twf { } s.cus.dom = true ∧ FltTakes d.val 0 op.toNat ext s ∧ (op ≠ 3 ∧ op ≠ 19 ∨ x.flt.hostMode = 0) ∧ x.shadowLost = false ∧ (∀ i < n, permAt e x.flt.phase (at_ i) % 2 = 1) ∧ k ≤ n) ∧
    (∃ (d : Fin 32) (op : BitVec 8) (ext : Bool) (s : State) (addr : BitVec 32) (n : Nat), let x := cdom d.val s; let e := fltEntry d.val s; let size := flashBytes x.info.sfdp; let a := hostAddr d.val op.toNat addr.toNat s; let at_ := fun (i : Nat) => (a + i) % max 1 size; twf { } s.cus.dom = true ∧ FltTakes d.val 0 op.toNat ext s ∧ (op ≠ 3 ∧ op ≠ 19 ∨ x.flt.hostMode = 0) ∧ x.shadowLost = false ∧ 0 < n ∧ (∀ i < n, permAt e x.flt.phase (at_ i) % 2 = 0)) := by
  refine ⟨?_, ?_, ?_, ?_, ?_, ?_, ?_, ?_⟩
  · exact ⟨.wren 0 0x06 true, 0, 3, 0x06, true, (fun _ => 0), 0, (fun s => { s with out := [] }), { boot := { pwrgood := true }, grn := { installed := true, grain := { custody := { domains := [(0, { filter := wFilter })] } } }, cus := { dom := [(0, { st := .held, flt := { phase := 1 } })] } }, by refine ⟨by constructor <;> decide +kernel, ?_, ?_, ?_⟩ <;> decide +kernel⟩
  · exact ⟨.deepPowerDown 0 { op := 0xB9, ext := true }, 0, 11, 0xB9, true, (fun _ => 0), 0, (fun s => { s with out := [] }), { boot := { pwrgood := true }, cus := { dom := [(0, { st := .running, flt := { phase := 1 } })] }, grn := { installed := true, grain := { custody := { domains := [(0, { filter := (wFilter.set (0xC0 + 0xB9) 3) })] } } } }, by refine ⟨by constructor <;> decide +kernel, ?_, ?_, ?_, ?_, ?_⟩ <;> decide +kernel⟩
  · exact ⟨.wren 0 0x06 true, 0, 3, 0x06, true, (fun _ => 0), 0, (fun s => { s with out := [] }), { boot := { pwrgood := true }, cus := { dom := [(0, { st := .running, flt := { dpd := true, phase := 1 } })] }, grn := { installed := true, grain := { custody := { domains := [(0, { filter := wFilter })] } } } }, by refine ⟨by constructor <;> decide +kernel, ?_, ?_, ?_, ?_, ?_, ?_, ?_⟩ <;> decide +kernel⟩
  · exact ⟨.wren 0 0x06 false, 0, 3, 0x06, false, (fun _ => 0), 0, (fun s => { s with out := [] }), { boot := { pwrgood := true }, cus := { dom := [(0, { flt := { hostMode := 3, phase := 1 }, st := .running })] }, grn := { installed := true, grain := { custody := { domains := [(0, { filter := wFilter })] } } } }, by refine ⟨by constructor <;> decide +kernel, ?_, ?_, (by unfold FltReady; decide +kernel), ?_, ?_⟩ <;> decide +kernel⟩
  · exact ⟨.wren 0 0x06 true, 0, 3, 0x06, true, (fun _ => 0), 0, (fun s => { s with out := [] }), { boot := { pwrgood := true }, grn := { installed := true, grain := { custody := { domains := [(0, { filter := wFilter })] } } }, cus := { dom := [(0, { st := .running, flt := { phase := 1, fwd := some {} } })] } }, by refine ⟨by constructor <;> decide +kernel, ?_, ?_, (by unfold FltReady; decide +kernel), ?_, ?_, ?_, ?_⟩ <;> decide +kernel⟩
  · exact ⟨.wren 0 0x06 true, 0, 3, 0x06, true, (fun _ => 0), 0, (fun s => { s with out := [] }), { boot := { pwrgood := true }, grn := { installed := true, grain := { custody := { domains := [(0, { filter := wFilter })] } } }, cus := { dom := [(0, { st := .running, flt := { phase := 2 } })] } }, by refine ⟨by constructor <;> decide +kernel, ?_, ?_, (by unfold FltReady; decide +kernel), ?_, ?_, ?_, ?_⟩ <;> decide +kernel⟩
  · exact ⟨0, 0x0B, false, { boot := { pwrgood := true }, grn := { installed := true, grain := { custody := { domains := [(0, { filter := wFilter })] } } }, cus := { dom := [(0, { st := .running, flt := { phase := 1 } })] } }, 0, 0, 0, by and_intros <;> first | decide +kernel | (unfold FltTakes FltReady; decide +kernel)⟩
  · exact ⟨0, 0x0B, false, { boot := { pwrgood := true }, grn := { installed := true, grain := { custody := { domains := [(0, { filter := wFilter })] } } }, cus := { dom := [(0, { st := .running, flt := { phase := 3 } })] } }, 0, 2, by and_intros <;> first | decide +kernel | (unfold FltTakes FltReady; decide +kernel)⟩

/-- CambiumReadsAndModes: states and operands that meet the premises of its clauses (part 2 of 5). -/
theorem wit_cambiumReadsAndModes_2 :
    (∃ (d : Fin 32) (op : BitVec 8) (ext : Bool) (s : State) (addr : BitVec 32) (n : Nat) (p : Nat), let x := cdom d.val s; let e := fltEntry d.val s; let size := flashBytes x.info.sfdp; let a := hostAddr d.val op.toNat addr.toNat s; twf { } s.cus.dom = true ∧ FltTakes d.val 0 op.toNat ext s ∧ (op ≠ 3 ∧ op ≠ 19 ∨ x.flt.hostMode = 0) ∧ x.shadowLost = false ∧ p ∈ readPages a n size ∧ permAt e x.flt.phase p % 2 = 1 ∧ shadowAt x p = none) ∧
    (∃ (d : Fin 32) (ext : Bool) (s : State), let x := cdom d.val s; twf { } s.cus.dom = true ∧ FltTakes d.val 1 5 ext s ∧ x.flt.errClear = false) ∧
    (∃ (d : Fin 32) (op : BitVec 8) (ext : Bool) (s : State) (a : BitVec 32) (n : Nat), let x := cdom d.val s; twf { } s.cus.dom = true ∧ FltTakes d.val 2 op.toNat ext s ∧ a.toNat + n ≤ List.length x.flt.sfdp ∧ a.toNat < 2 ^ 24) ∧
    (∃ (d : Fin 32) (op : BitVec 8) (ext : Bool) (s : State), twf { } s.cus.dom = true ∧ FltTakes d.val 3 op.toNat ext s ∧ op ≠ 4) ∧
    (∃ (d : Fin 32) (ext : Bool) (s : State), twf { } s.cus.dom = true ∧ FltTakes d.val 3 4 ext s) ∧
    (∃ (d : Fin 32) (op : BitVec 8) (ext : Bool) (s : State) (o : HostOp), twf { } s.cus.dom = true ∧ o = { op := op, ext := ext } ∧ live s = true ∧ FltTakes d.val 9 op.toNat ext s ∧ op ≠ 233) ∧
    (∃ (d : Fin 32) (op : BitVec 8) (ext : Bool) (s : State) (o : HostOp), twf { } s.cus.dom = true ∧ o = { op := op, ext := ext } ∧ live s = true ∧ FltTakes d.val 9 op.toNat ext s ∧ op ≠ 183) ∧
    (∃ (d : Fin 32) (op : BitVec 8) (ext : Bool) (s : State) (o : HostOp), twf { } s.cus.dom = true ∧ o = { op := op, ext := ext } ∧ live s = true ∧ FltTakes d.val 11 op.toNat ext s ∧ op ≠ 171) := by
  refine ⟨?_, ?_, ?_, ?_, ?_, ?_, ?_, ?_⟩
  · exact ⟨0, 3, false, { boot := { pwrgood := true }, grn := { installed := true, grain := { custody := { domains := [(0, { filter := wFilter })] } } }, cus := { dom := [(0, { st := .running, flt := { phase := 1 } })] } }, 0, 1, 0, by and_intros <;> first | decide +kernel | (unfold FltTakes FltReady; decide +kernel)⟩
  · exact ⟨0, false, { boot := { pwrgood := true }, grn := { installed := true, grain := { custody := { domains := [(0, { filter := wFilter })] } } }, cus := { dom := [(0, { st := .running, flt := { phase := 1 } })] } }, by and_intros <;> first | decide +kernel | (unfold FltTakes FltReady; decide +kernel)⟩
  · exact ⟨0, 0x5A, false, { boot := { pwrgood := true }, grn := { installed := true, grain := { custody := { domains := [(0, { filter := wFilter })] } } }, cus := { dom := [(0, { st := .running, flt := { phase := 1 } })] } }, 0, 0, by and_intros <;> first | decide +kernel | (unfold FltTakes FltReady; decide +kernel)⟩
  · exact ⟨0, 0x06, false, { boot := { pwrgood := true }, grn := { installed := true, grain := { custody := { domains := [(0, { filter := wFilter })] } } }, cus := { dom := [(0, { st := .running, flt := { phase := 1 } })] } }, by and_intros <;> first | decide +kernel | (unfold FltTakes FltReady; decide +kernel)⟩
  · exact ⟨0, false, { boot := { pwrgood := true }, grn := { installed := true, grain := { custody := { domains := [(0, { filter := wFilter })] } } }, cus := { dom := [(0, { st := .running, flt := { phase := 1 } })] } }, ⟨by decide +kernel, (by unfold FltTakes FltReady; decide +kernel)⟩⟩
  · exact ⟨0, 0xB7, true, { boot := { pwrgood := true }, grn := { installed := true, grain := { custody := { domains := [(0, { filter := wFilter })] } } }, cus := { dom := [(0, { st := .running, flt := { phase := 1 } })] } }, { op := 0xB7, ext := true }, by and_intros <;> first | decide +kernel | (unfold FltTakes FltReady; decide +kernel)⟩
  · exact ⟨0, 0xE9, true, { boot := { pwrgood := true }, grn := { installed := true, grain := { custody := { domains := [(0, { filter := wFilter })] } } }, cus := { dom := [(0, { st := .running, flt := { phase := 1 } })] } }, { op := 0xE9, ext := true }, by and_intros <;> first | decide +kernel | (unfold FltTakes FltReady; decide +kernel)⟩
  · exact ⟨0, 0xB9, true, { boot := { pwrgood := true }, grn := { installed := true, grain := { custody := { domains := [(0, { filter := wFilter })] } } }, cus := { dom := [(0, { st := .running, flt := { phase := 1 } })] } }, { op := 0xB9, ext := true }, by and_intros <;> first | decide +kernel | (unfold FltTakes FltReady; decide +kernel)⟩

/-- CambiumReadsAndModes: states and operands that meet the premises of its clauses (part 3 of 5). -/
theorem wit_cambiumReadsAndModes_3 :
    (∃ (d : Fin 32) (op : BitVec 8) (ext : Bool) (s : State) (o : HostOp), twf { } s.cus.dom = true ∧ o = { op := op, ext := ext } ∧ live s = true ∧ FltTakes d.val 11 op.toNat ext s ∧ op ≠ 185) ∧
    (∃ (d : Fin 32) (op : BitVec 8) (ext : Bool) (s : State) (o : HostOp), twf { } s.cus.dom = true ∧ o = { op := op, ext := ext } ∧ live s = true ∧ FltTakes d.val 10 op.toNat ext s ∧ op ≠ 153) ∧
    (∃ (d : Fin 32) (op : BitVec 8) (ext : Bool) (s : State) (o : HostOp), let x := cdom d.val s; twf { } s.cus.dom = true ∧ o = { op := op, ext := ext } ∧ live s = true ∧ FltTakes d.val 10 op.toNat ext s ∧ op ≠ 102 ∧ x.flt.resetArmed = false) ∧
    (∃ (d : Fin 32) (op : BitVec 8) (ext : Bool) (s : State) (o : HostOp), let x := cdom d.val s; twf { } s.cus.dom = true ∧ o = { op := op, ext := ext } ∧ live s = true ∧ FltTakes d.val 10 op.toNat ext s ∧ op ≠ 102 ∧ x.flt.resetArmed = true) ∧
    (∃ (op : BitVec 8) (ext : Bool) (s : State) (o : HostOp), twf { } s.cus.dom = true ∧ o = { op := op, ext := ext } ∧ live s = true ∧ op = 233) ∧
    (∃ (op : BitVec 8) (ext : Bool) (s : State) (o : HostOp), twf { } s.cus.dom = true ∧ o = { op := op, ext := ext } ∧ live s = true ∧ op = 183) ∧
    (∃ (op : BitVec 8) (ext : Bool) (s : State) (o : HostOp), twf { } s.cus.dom = true ∧ o = { op := op, ext := ext } ∧ live s = true ∧ op = 171) ∧
    (∃ (op : BitVec 8) (ext : Bool) (s : State) (o : HostOp), twf { } s.cus.dom = true ∧ o = { op := op, ext := ext } ∧ live s = true ∧ op = 185) := by
  refine ⟨?_, ?_, ?_, ?_, ?_, ?_, ?_, ?_⟩
  · exact ⟨0, 0xAB, true, { boot := { pwrgood := true }, grn := { installed := true, grain := { custody := { domains := [(0, { filter := wFilter })] } } }, cus := { dom := [(0, { st := .running, flt := { phase := 1 } })] } }, { op := 0xAB, ext := true }, by and_intros <;> first | decide +kernel | (unfold FltTakes FltReady; decide +kernel)⟩
  · exact ⟨0, 0x66, true, { boot := { pwrgood := true }, grn := { installed := true, grain := { custody := { domains := [(0, { filter := wFilter })] } } }, cus := { dom := [(0, { st := .running, flt := { phase := 1 } })] } }, { op := 0x66, ext := true }, by and_intros <;> first | decide +kernel | (unfold FltTakes FltReady; decide +kernel)⟩
  · exact ⟨0, 0x99, true, { boot := { pwrgood := true }, grn := { installed := true, grain := { custody := { domains := [(0, { filter := wFilter })] } } }, cus := { dom := [(0, { st := .running, flt := { phase := 1 } })] } }, { op := 0x99, ext := true }, by and_intros <;> first | decide +kernel | (unfold FltTakes FltReady; decide +kernel)⟩
  · exact ⟨0, 0x99, true, { boot := { pwrgood := true }, cus := { dom := [(0, { flt := { resetArmed := true, phase := 1 }, st := .running })] }, grn := { installed := true, grain := { custody := { domains := [(0, { filter := wFilter })] } } } }, { op := 0x99, ext := true }, by and_intros <;> first | decide +kernel | (unfold FltTakes FltReady; decide +kernel)⟩
  · exact ⟨0xE9, true, { boot := { pwrgood := true }, grn := { installed := true, grain := { custody := { domains := [(0, { filter := wFilter })] } } }, cus := { dom := [(0, { st := .running, flt := { phase := 1 } })] } }, { op := 0xE9, ext := true }, by and_intros <;> decide +kernel⟩
  · exact ⟨0xB7, true, { boot := { pwrgood := true }, grn := { installed := true, grain := { custody := { domains := [(0, { filter := wFilter })] } } }, cus := { dom := [(0, { st := .running, flt := { phase := 1 } })] } }, { op := 0xB7, ext := true }, by and_intros <;> decide +kernel⟩
  · exact ⟨0xAB, true, { boot := { pwrgood := true }, grn := { installed := true, grain := { custody := { domains := [(0, { filter := wFilter })] } } }, cus := { dom := [(0, { st := .running, flt := { phase := 1 } })] } }, { op := 0xAB, ext := true }, by and_intros <;> decide +kernel⟩
  · exact ⟨0xB9, true, { boot := { pwrgood := true }, grn := { installed := true, grain := { custody := { domains := [(0, { filter := wFilter })] } } }, cus := { dom := [(0, { st := .running, flt := { phase := 1 } })] } }, { op := 0xB9, ext := true }, by and_intros <;> decide +kernel⟩

/-- CambiumReadsAndModes: states and operands that meet the premises of its clauses (part 4 of 5). -/
theorem wit_cambiumReadsAndModes_4 :
    (∃ (d : Fin 32) (op : BitVec 8) (s : State), let x := cdom d.val s; twf { } s.cus.dom = true ∧ FltReady d.val 14 op.toNat s ∧ x.flt.busy = false ∧ x.flt.hostMode ≠ 3) ∧
    (∃ (d : Fin 32) (op : BitVec 8) (ext : Bool) (s : State), let e := fltEntry d.val s; twf { } s.cus.dom = true ∧ FltTakes d.val 13 op.toNat ext s ∧ op.toNat ≠ fieldLe e 8 1 ∧ op.toNat ≠ fieldLe e 9 1) ∧
    (∃ (d : Fin 32) (op : BitVec 8) (s : State), let x := cdom d.val s; let e := fltEntry d.val s; twf { } s.cus.dom = true ∧ FltReady d.val 8 op.toNat s ∧ x.flt.busy = false ∧ x.flt.hostMode ≠ 3 ∧ secRead e op.toNat = true) ∧
    (∃ (d : Fin 32) (s : State), let x := cdom d.val s; twf { } s.cus.dom = true ∧ live s = true ∧ x.st = CusState.running) ∧
    (∃ (d : Fin 32) (s : State), let x := cdom d.val s; twf { } s.cus.dom = true ∧ live s = true ∧ x.st ≠ CusState.running) ∧
    (∃ (d : Fin 32) (s : State), let x := cdom d.val s; twf { } s.cus.dom = true ∧ live s = true ∧ x.flt.suspended = true ∧ x.flt.mimic.isSome = true) ∧
    (∃ (d : Fin 32) (s : State), let x := cdom d.val s; twf { } s.cus.dom = true ∧ live s = true ∧ (x.flt.suspended = false ∨ x.flt.mimic = none)) ∧
    (∃ (d : Fin 32) (op : BitVec 8) (ext : Bool) (s : State) (w : Fwd), let f := (cdom d.val s).flt; FltTakes d.val 12 op.toNat ext s ∧ twf { } s.cus.dom = true ∧ op ≠ 122 ∧ op ≠ 48 ∧ f.fwd = some w ∧ f.suspended = false ∧ f.esc = none) := by
  refine ⟨?_, ?_, ?_, ?_, ?_, ?_, ?_, ?_⟩
  · exact ⟨0, 0, { boot := { pwrgood := true }, grn := { installed := true, grain := { custody := { domains := [(0, { filter := wFilter })] } } }, cus := { dom := [(0, { st := .running, flt := { phase := 1 } })] } }, by and_intros <;> first | decide +kernel | (unfold FltReady; decide +kernel)⟩
  · exact ⟨0, 1, true, { boot := { pwrgood := true }, grn := { installed := true, grain := { custody := { domains := [(0, { filter := (wFilter.set (0xC0 + 1) 13) })] } } }, cus := { dom := [(0, { st := .running, flt := { phase := 1 } })] } }, by and_intros <;> first | decide +kernel | (unfold FltTakes FltReady; decide +kernel)⟩
  · exact ⟨0, 0x48, { boot := { pwrgood := true }, grn := { installed := true, grain := { custody := { domains := [(0, { filter := wFilter })] } } }, cus := { dom := [(0, { st := .running, flt := { phase := 1 } })] } }, by and_intros <;> first | decide +kernel | (unfold FltReady; decide +kernel)⟩
  · exact ⟨0, { boot := { pwrgood := true }, cus := { dom := [(0, { st := .running, flt := { phase := 1 } })] }, grn := { installed := true, grain := { custody := { domains := [(0, { filter := wFilter })] } } } }, by and_intros <;> decide +kernel⟩
  · exact ⟨0, { boot := { pwrgood := true }, grn := { installed := true, grain := { custody := { domains := [(0, { filter := wFilter })] } } }, cus := { dom := [(0, { st := .held, flt := { phase := 1 } })] } }, by and_intros <;> decide +kernel⟩
  · exact ⟨0, { boot := { pwrgood := true }, cus := { dom := [(0, { flt := { suspended := true, phase := 1, mimic := some 5 }, st := .running })] }, grn := { installed := true, grain := { custody := { domains := [(0, { filter := wFilter })] } } } }, by and_intros <;> decide +kernel⟩
  · exact ⟨0, { boot := { pwrgood := true }, grn := { installed := true, grain := { custody := { domains := [(0, { filter := wFilter })] } } }, cus := { dom := [(0, { st := .running, flt := { phase := 1 } })] } }, by and_intros <;> decide +kernel⟩
  · exact ⟨0, 0x75, false, { boot := { pwrgood := true }, cus := { dom := [(0, { flt := { fwd := some {}, phase := 1 }, st := .running })] }, grn := { installed := true, grain := { custody := { domains := [(0, { filter := wFilter })] } } } }, {}, by and_intros <;> first | decide +kernel | (unfold FltTakes FltReady; decide +kernel)⟩

/-- CambiumReadsAndModes: states and operands that meet the premises of its clauses (part 5 of 5). -/
theorem wit_cambiumReadsAndModes_5 :
    (∃ (d : Fin 32) (op : BitVec 8) (ext : Bool) (s : State) (k : Nat), let f := (cdom d.val s).flt; FltTakes d.val 12 op.toNat ext s ∧ twf { } s.cus.dom = true ∧ op ≠ 122 ∧ op ≠ 48 ∧ f.fwd = none ∧ f.mimic = some k ∧ f.suspended = false ∧ f.esc = none) ∧
    (∃ (d : Fin 32) (op : BitVec 8) (ext : Bool) (s : State), let f := (cdom d.val s).flt; FltTakes d.val 12 op.toNat ext s ∧ twf { } s.cus.dom = true ∧ op ≠ 122 ∧ op ≠ 48 ∧ (f.suspended = true ∨ f.esc.isSome = true ∨ f.fwd = none ∧ f.mimic = none)) ∧
    (∃ (d : Fin 32) (op : BitVec 8) (ext : Bool) (s : State) (w : Fwd), let f := (cdom d.val s).flt; FltTakes d.val 12 op.toNat ext s ∧ twf { } s.cus.dom = true ∧ op ≠ 117 ∧ op ≠ 176 ∧ f.fwd = some w ∧ f.suspended = true) ∧
    (∃ (d : Fin 32) (op : BitVec 8) (ext : Bool) (s : State), let f := (cdom d.val s).flt; FltTakes d.val 12 op.toNat ext s ∧ twf { } s.cus.dom = true ∧ op ≠ 117 ∧ op ≠ 176 ∧ f.fwd = none ∧ f.suspended = true) ∧
    (∃ (d : Fin 32) (op : BitVec 8) (ext : Bool) (s : State), let f := (cdom d.val s).flt; FltTakes d.val 12 op.toNat ext s ∧ twf { } s.cus.dom = true ∧ op ≠ 117 ∧ op ≠ 176 ∧ f.suspended = false) := by
  refine ⟨?_, ?_, ?_, ?_, ?_⟩
  · exact ⟨0, 0x75, true, { boot := { pwrgood := true }, cus := { dom := [(0, { flt := { mimic := some 0, phase := 1 }, st := .running })] }, grn := { installed := true, grain := { custody := { domains := [(0, { filter := wFilter })] } } } }, 0, by and_intros <;> first | decide +kernel | (unfold FltTakes FltReady; decide +kernel)⟩
  · exact ⟨0, 0x75, false, { boot := { pwrgood := true }, grn := { installed := true, grain := { custody := { domains := [(0, { filter := wFilter })] } } }, cus := { dom := [(0, { st := .running, flt := { phase := 1 } })] } }, by and_intros <;> first | decide +kernel | (unfold FltTakes FltReady; decide +kernel)⟩
  · exact ⟨0, 0x7A, false, { boot := { pwrgood := true }, cus := { dom := [(0, { flt := { fwd := some {}, suspended := true, phase := 1 }, st := .running })] }, grn := { installed := true, grain := { custody := { domains := [(0, { filter := wFilter })] } } } }, {}, by and_intros <;> first | decide +kernel | (unfold FltTakes FltReady; decide +kernel)⟩
  · exact ⟨0, 0x7A, true, { boot := { pwrgood := true }, cus := { dom := [(0, { flt := { suspended := true, phase := 1 }, st := .running })] }, grn := { installed := true, grain := { custody := { domains := [(0, { filter := wFilter })] } } } }, by and_intros <;> first | decide +kernel | (unfold FltTakes FltReady; decide +kernel)⟩
  · exact ⟨0, 0x7A, false, { boot := { pwrgood := true }, grn := { installed := true, grain := { custody := { domains := [(0, { filter := wFilter })] } } }, cus := { dom := [(0, { st := .running, flt := { phase := 1 } })] } }, by and_intros <;> first | decide +kernel | (unfold FltTakes FltReady; decide +kernel)⟩

/-- CambiumWritesAndEscapes: states and operands that meet the premises of its clauses (part 1 of 4). -/
theorem wit_cambiumWritesAndEscapes_1 :
    (∃ (d : Fin 32) (op : BitVec 8) (ext : Bool) (s : State), let x := cdom d.val s; twf { } s.cus.dom = true ∧ x.flt.rom = true ∧ x.flt.wel = true ∧ FltTakes d.val 4 op.toNat ext s) ∧
    (∃ (d : Fin 32) (op : BitVec 8) (ext : Bool) (s : State), let x := cdom d.val s; twf { } s.cus.dom = true ∧ x.flt.rom = true ∧ x.flt.wel = true ∧ FltTakes d.val 5 op.toNat ext s) ∧
    (∃ (d : Fin 32) (op : BitVec 8) (ext : Bool) (s : State), let x := cdom d.val s; twf { } s.cus.dom = true ∧ x.flt.rom = true ∧ x.flt.wel = true ∧ FltTakes d.val 6 op.toNat ext s) ∧
    (∃ (d : Fin 32) (op : BitVec 8) (ext : Bool) (s : State) (b : Bytes), let x := cdom d.val s; twf { } s.cus.dom = true ∧ x.flt.rom = false ∧ FltTakes d.val 4 op.toNat ext s ∧ List.length b ≤ flashPage x.info.sfdp ∧ 0 < List.length b ∧ x.flt.wel = false) ∧
    (∃ (d : Fin 32) (op : BitVec 8) (ext : Bool) (addr : BitVec 32) (s : State) (b : Bytes), let x := cdom d.val s; let a := hostAddr d.val op.toNat addr.toNat s; let region := fun (p : Nat) => x.hdr.regions.any fun (g : Nat × Nat × Nat × Bool × Nat) => decide (g.2.2.1 ≤ p ∧ p < g.2.2.1 + g.2.1); let r := opRange d.val op.toNat 4 a (List.length b) s; twf { } s.cus.dom = true ∧ x.flt.rom = false ∧ FltTakes d.val 4 op.toNat ext s ∧ List.length b ≤ flashPage x.info.sfdp ∧ 0 < List.length b ∧ x.flt.wel = true ∧ (∃ p ∈ pages4k r.1 r.2, region p = true)) ∧
    (∃ (d : Fin 32) (op : BitVec 8) (ext : Bool) (addr : BitVec 32) (s : State) (b : Bytes), let x := cdom d.val s; let a := hostAddr d.val op.toNat addr.toNat s; let region := fun (p : Nat) => x.hdr.regions.any fun (g : Nat × Nat × Nat × Bool × Nat) => decide (g.2.2.1 ≤ p ∧ p < g.2.2.1 + g.2.1); let r := opRange d.val op.toNat 4 a (List.length b) s; twf { } s.cus.dom = true ∧ x.flt.rom = false ∧ FltTakes d.val 4 op.toNat ext s ∧ List.length b ≤ flashPage x.info.sfdp ∧ 0 < List.length b ∧ x.flt.wel = true ∧ (∀ p ∈ pages4k r.1 r.2, region p = false) ∧ x.src ≤ 1 ∧ overlaps r.1 (r.2 - r.1) (slotBase x.pol x.src) (slotSize x.pol x.src) = true) ∧
    (∃ (d : Fin 32) (op : BitVec 8) (ext : Bool) (addr : BitVec 32) (s : State) (b : Bytes), let x := cdom d.val s; let e := fltEntry d.val s; let a := hostAddr d.val op.toNat addr.toNat s; let region := fun (p : Nat) => x.hdr.regions.any fun (g : Nat × Nat × Nat × Bool × Nat) => decide (g.2.2.1 ≤ p ∧ p < g.2.2.1 + g.2.1); let free := fun (cls len : Nat) => have r := opRange d.val op.toNat cls a len s; (∀ p ∈ pages4k r.1 r.2, region p = false) ∧ (2 ≤ x.src ∨ overlaps r.1 (r.2 - r.1) (slotBase x.pol x.src) (slotSize x.pol x.src) = false) ∧ x.upd.st = 0 ∧ x.flt.phase ≠ 3 ∧ eEscapes e op.toNat = false ∧ ∀ p ∈ pages4k r.1 r.2, bitOf (permAt e x.flt.phase p) 3 = false; let r := opRange d.val op.toNat 4 a (List.length b) s; twf { } s.cus.dom = true ∧ x.flt.rom = false ∧ FltTakes d.val 4 op.toNat ext s ∧ List.length b ≤ flashPage x.info.sfdp ∧ 0 < List.length b ∧ x.flt.wel = true ∧ free 4 (List.length b) ∧ (∀ p ∈ pages4k r.1 r.2, bitOf (permAt e x.flt.phase p) 1 = true)) ∧
    (∃ (d : Fin 32) (op : BitVec 8) (ext : Bool) (addr : BitVec 32) (s : State) (b : Bytes) (p : Nat) (q : List Nat), let x := cdom d.val s; let e := fltEntry d.val s; let a := hostAddr d.val op.toNat addr.toNat s; let region := fun (p : Nat) => x.hdr.regions.any fun (g : Nat × Nat × Nat × Bool × Nat) => decide (g.2.2.1 ≤ p ∧ p < g.2.2.1 + g.2.1); let free := fun (cls len : Nat) => have r := opRange d.val op.toNat cls a len s; (∀ p ∈ pages4k r.1 r.2, region p = false) ∧ (2 ≤ x.src ∨ overlaps r.1 (r.2 - r.1) (slotBase x.pol x.src) (slotSize x.pol x.src) = false) ∧ x.upd.st = 0 ∧ x.flt.phase ≠ 3 ∧ eEscapes e op.toNat = false ∧ ∀ p ∈ pages4k r.1 r.2, bitOf (permAt e x.flt.phase p) 3 = false; let r := opRange d.val op.toNat 4 a (List.length b) s; twf { } s.cus.dom = true ∧ x.flt.rom = false ∧ FltTakes d.val 4 op.toNat ext s ∧ List.length b ≤ flashPage x.info.sfdp ∧ 0 < List.length b ∧ x.flt.wel = true ∧ free 4 (List.length b) ∧ pages4k r.1 r.2 = p :: q ∧ bitOf (permAt e x.flt.phase p) 1 = false) := by
  refine ⟨?_, ?_, ?_, ?_, ?_, ?_, ?_, ?_⟩
  · exact ⟨0, 2, false, { boot := { pwrgood := true }, cus := { dom := [(0, { flt := { rom := true, wel := true, phase := 1 }, st := .running })] }, grn := { installed := true, grain := { custody := { domains := [(0, { filter := wFilter })] } } } }, by and_intros <;> first | decide +kernel | (unfold FltTakes FltReady; decide +kernel)⟩
  · exact ⟨0, 0x20, false, { boot := { pwrgood := true }, cus := { dom := [(0, { flt := { rom := true, wel := true, phase := 1 }, st := .running })] }, grn := { installed := true, grain := { custody := { domains := [(0, { filter := wFilter })] } } } }, by and_intros <;> first | decide +kernel | (unfold FltTakes FltReady; decide +kernel)⟩
  · exact ⟨0, 0x60, false, { boot := { pwrgood := true }, cus := { dom := [(0, { flt := { rom := true, wel := true, phase := 1 }, st := .running })] }, grn := { installed := true, grain := { custody := { domains := [(0, { filter := wFilter })] } } } }, by and_intros <;> first | decide +kernel | (unfold FltTakes FltReady; decide +kernel)⟩
  · exact ⟨0, 2, false, { boot := { pwrgood := true }, grn := { installed := true, grain := { custody := { domains := [(0, { filter := wFilter })] } } }, cus := { dom := [(0, { st := .running, flt := { phase := 1 } })] } }, [1], by and_intros <;> first | decide +kernel | (unfold FltTakes FltReady; decide +kernel)⟩
  · exact ⟨0, 2, false, 0, { boot := { pwrgood := true }, cus := { dom := [(0, { flt := { wel := true, phase := 1 }, st := .running, hdr := { regions := [(0, 4096, 0, false, 0)] } })] }, grn := { installed := true, grain := { custody := { domains := [(0, { filter := wFilter })] } } } }, [1], by and_intros <;> first | decide +kernel | (unfold FltTakes FltReady; decide +kernel)⟩
  · exact ⟨0, 2, false, 0, { boot := { pwrgood := true }, cus := { dom := [(0, { flt := { wel := true, phase := 1 }, st := .running, pol := (List.replicate 512 0x00 |>.set 0x16 1) })] }, grn := { installed := true, grain := { custody := { domains := [(0, { filter := wFilter })] } } } }, [1], by and_intros <;> first | decide +kernel | (unfold FltTakes FltReady; decide +kernel)⟩
  · exact ⟨0, 2, false, 0, { boot := { pwrgood := true }, cus := { dom := [(0, { flt := { wel := true, phase := 1 }, st := .running })] }, grn := { installed := true, grain := { custody := { domains := [(0, { filter := (wFilter.set 12 7) })] } } } }, [1], by and_intros <;> first | decide +kernel | (unfold FltTakes FltReady; decide +kernel) | (refine ⟨?_, ?_, ?_⟩ <;> decide +kernel)⟩
  · exact ⟨0, 2, false, 0, { boot := { pwrgood := true }, cus := { dom := [(0, { flt := { wel := true, phase := 1 }, st := .running })] }, grn := { installed := true, grain := { custody := { domains := [(0, { filter := (wFilter.set 12 0) })] } } } }, [1], 0, [], by and_intros <;> first | decide +kernel | (unfold FltTakes FltReady; decide +kernel) | (refine ⟨?_, ?_, ?_⟩ <;> decide +kernel)⟩

/-- CambiumWritesAndEscapes: states and operands that meet the premises of its clauses (part 2 of 4). -/
theorem wit_cambiumWritesAndEscapes_2 :
    (∃ (d : Fin 32) (op : BitVec 8) (ext : Bool) (addr : BitVec 32) (s : State), let x := cdom d.val s; let e := fltEntry d.val s; let a := hostAddr d.val op.toNat addr.toNat s; let region := fun (p : Nat) => x.hdr.regions.any fun (g : Nat × Nat × Nat × Bool × Nat) => decide (g.2.2.1 ≤ p ∧ p < g.2.2.1 + g.2.1); let free := fun (cls len : Nat) => have r := opRange d.val op.toNat cls a len s; (∀ p ∈ pages4k r.1 r.2, region p = false) ∧ (2 ≤ x.src ∨ overlaps r.1 (r.2 - r.1) (slotBase x.pol x.src) (slotSize x.pol x.src) = false) ∧ x.upd.st = 0 ∧ x.flt.phase ≠ 3 ∧ eEscapes e op.toNat = false ∧ ∀ p ∈ pages4k r.1 r.2, bitOf (permAt e x.flt.phase p) 3 = false; let r := opRange d.val op.toNat 5 a 0 s; twf { } s.cus.dom = true ∧ x.flt.rom = false ∧ FltTakes d.val 5 op.toNat ext s ∧ x.flt.wel = true ∧ free 5 0 ∧ (∀ p ∈ pages4k r.1 r.2, bitOf (permAt e x.flt.phase p) 2 = true)) ∧
    (∃ (d : Fin 32) (op : BitVec 8) (ext : Bool) (s : State), let x := cdom d.val s; twf { } s.cus.dom = true ∧ x.flt.rom = false ∧ FltTakes d.val 6 op.toNat ext s ∧ x.flt.wel = true) ∧
    (∃ (d : Fin 32) (op : BitVec 8) (ext : Bool) (addr : BitVec 32) (s : State) (ab : Fin 5) (b : Bytes) (cls : Nat) (m : Nat), let x := cdom d.val s; let e := fltEntry d.val s; twf { } s.cus.dom = true ∧ x.flt.rom = false ∧ (cls = 7 ∨ cls = 8 ∧ secRead e op.toNat = false) ∧ FltTakes d.val cls op.toNat ext s ∧ (cls = 8 ∨ x.flt.wel = true) ∧ switchMode e op.toNat ab.val addr.toNat b = some m) ∧
    (∃ (d : Fin 32) (op : BitVec 8) (ext : Bool) (addr : BitVec 32) (s : State) (ab : Fin 5) (b : Bytes) (cls : Nat), let x := cdom d.val s; let e := fltEntry d.val s; twf { } s.cus.dom = true ∧ x.flt.rom = false ∧ (cls = 7 ∨ cls = 8 ∧ secRead e op.toNat = false) ∧ FltTakes d.val cls op.toNat ext s ∧ (cls = 8 ∨ x.flt.wel = true) ∧ switchMode e op.toNat ab.val addr.toNat b = none ∧ escLeaf e s = none) ∧
    (∃ (d : Fin 32) (op : BitVec 8) (ext : Bool) (addr : BitVec 32) (s : State) (ab : Fin 5) (b : Bytes) (cls : Nat) (l : Nat), let x := cdom d.val s; let e := fltEntry d.val s; twf { } s.cus.dom = true ∧ x.flt.rom = false ∧ (cls = 7 ∨ cls = 8 ∧ secRead e op.toNat = false) ∧ FltTakes d.val cls op.toNat ext s ∧ (cls = 8 ∨ x.flt.wel = true) ∧ switchMode e op.toNat ab.val addr.toNat b = none ∧ escLeaf e s = some l) ∧
    (∃ (d : Fin 32) (s : State), let f := (cdom d.val s).flt; live s = true ∧ twf { } s.cus.dom = true ∧ f.fwd = none) ∧
    (∃ (d : Fin 32) (s : State) (w : Fwd), let f := (cdom d.val s).flt; live s = true ∧ twf { } s.cus.dom = true ∧ f.fwd = some w ∧ (w.check = false ∨ w.polled = true)) ∧
    (∃ (d : Fin 32) (s : State) (w : Fwd), let f := (cdom d.val s).flt; live s = true ∧ twf { } s.cus.dom = true ∧ f.fwd = some w ∧ w.check = true ∧ w.polled = false) := by
  refine ⟨?_, ?_, ?_, ?_, ?_, ?_, ?_, ?_⟩
  · exact ⟨0, 0x20, false, 0, { boot := { pwrgood := true }, cus := { dom := [(0, { flt := { wel := true, phase := 1 }, st := .running })] }, grn := { installed := true, grain := { custody := { domains := [(0, { filter := (wFilter.set 12 7) })] } } } }, by and_intros <;> first | decide +kernel | (unfold FltTakes FltReady; decide +kernel) | (refine ⟨?_, ?_, ?_⟩ <;> decide +kernel)⟩
  · exact ⟨0, 0xC7, false, { boot := { pwrgood := true }, cus := { dom := [(0, { flt := { wel := true, phase := 1 }, st := .running })] }, grn := { installed := true, grain := { custody := { domains := [(0, { filter := wFilter })] } } } }, by and_intros <;> first | decide +kernel | (unfold FltTakes FltReady; decide +kernel)⟩
  · exact ⟨0, 1, false, 0, { boot := { pwrgood := true }, grn := { installed := true, grain := { custody := { domains := [(0, { filter := (wFilter.set 0x1C0 1) })] } } }, cus := { dom := [(0, { st := .running, flt := { phase := 1, wel := true } })] } }, 0, [0], 7, 0, by and_intros <;> first | decide +kernel | (unfold FltTakes FltReady; decide +kernel)⟩
  · exact ⟨0, 1, false, 0, { boot := { pwrgood := true }, grn := { installed := true, grain := { custody := { domains := [(0, { filter := (wFilter.set 4 0xFF) })] } } }, cus := { dom := [(0, { st := .running, flt := { phase := 1, wel := true } })] } }, 0, [], 7, by and_intros <;> first | decide +kernel | (unfold FltTakes FltReady; decide +kernel)⟩
  · exact ⟨0, 1, false, 0, { boot := { pwrgood := true }, grn := { installed := true, grain := { custody := { domains := [(0, { filter := wFilter })] } } }, cus := { dom := [(0, { st := .running, flt := { phase := 1, wel := true } })] } }, 0, [], 7, 0, by and_intros <;> first | decide +kernel | (unfold FltTakes FltReady; decide +kernel)⟩
  · exact ⟨0, { boot := { pwrgood := true }, grn := { installed := true, grain := { custody := { domains := [(0, { filter := wFilter })] } } }, cus := { dom := [(0, { st := .running, flt := { phase := 1 } })] } }, by and_intros <;> decide +kernel⟩
  · exact ⟨0, { boot := { pwrgood := true }, cus := { dom := [(0, { flt := { fwd := (some {}), phase := 1 }, st := .running })] }, grn := { installed := true, grain := { custody := { domains := [(0, { filter := wFilter })] } } } }, {}, by and_intros <;> decide +kernel⟩
  · exact ⟨0, { boot := { pwrgood := true }, cus := { dom := [(0, { flt := { fwd := (some { check := true }), phase := 1 }, st := .running })] }, grn := { installed := true, grain := { custody := { domains := [(0, { filter := wFilter })] } } } }, { check := true }, by and_intros <;> decide +kernel⟩

/-- CambiumWritesAndEscapes: states and operands that meet the premises of its clauses (part 3 of 4). -/
theorem wit_cambiumWritesAndEscapes_3 :
    (∃ (d : Fin 32) (s : State), let f := (cdom d.val s).flt; live s = true ∧ twf { } s.cus.dom = true ∧ f.mimic = none) ∧
    (∃ (n : Nat) (d : Fin 32) (s : State) (k : Nat), let f := (cdom d.val s).flt; live s = true ∧ twf { } s.cus.dom = true ∧ f.mimic = some k ∧ f.suspended = false ∧ k ≤ max s.now n) ∧
    (∃ (n : Nat) (d : Fin 32) (s : State) (k : Nat), let f := (cdom d.val s).flt; live s = true ∧ twf { } s.cus.dom = true ∧ f.mimic = some k ∧ (f.suspended = true ∨ max s.now n < k)) ∧
    (∃ (d : Fin 32) (s : State) (l : Fin 192) (w : BitVec 32), let f := (cdom d.val s).flt; live s = true ∧ twf { } s.cus.dom = true ∧ f.esc = none ∧ leafCanIssue l.val s = true ∧ bitsOf w.toNat 7 3 = d.val) ∧
    (∃ (n : Nat) (d : Fin 32) (s : State) (q : Esc), let f := (cdom d.val s).flt; live s = true ∧ twf { } s.cus.dom = true ∧ f.esc = some q ∧ f.later = [] ∧ max s.now n < q.due) ∧
    (∃ (n : Nat) (d : Fin 32) (s : State) (q : Esc), let f := (cdom d.val s).flt; live s = true ∧ twf { } s.cus.dom = true ∧ f.esc = some q ∧ f.later = [] ∧ q.due ≤ max s.now n ∧ q.mimic = false) ∧
    (∃ (d : Fin 32) (s : State) (q : Esc) (l : Fin 192) (w : BitVec 32), let f := (cdom d.val s).flt; live s = true ∧ twf { } s.cus.dom = true ∧ f.esc = some q ∧ f.later = [] ∧ leafCanIssue l.val s = true ∧ bitsOf w.toNat 7 3 = d.val ∧ (q.leaf ≠ l.val ∨ bitsOf w.toNat 31 8 ≠ q.seq % 2 ^ 24)) ∧
    (∃ (d : Fin 32) (s : State) (q : Esc) (l : Fin 192) (w : BitVec 32), let f := (cdom d.val s).flt; live s = true ∧ twf { } s.cus.dom = true ∧ f.esc = some q ∧ f.later = [] ∧ leafCanIssue l.val s = true ∧ bitsOf w.toNat 7 3 = d.val ∧ q.leaf = l.val ∧ bitsOf w.toNat 31 8 = q.seq % 2 ^ 24 ∧ bitsOf w.toNat 1 0 = 2) := by
  refine ⟨?_, ?_, ?_, ?_, ?_, ?_, ?_, ?_⟩
  · exact ⟨0, { boot := { pwrgood := true }, grn := { installed := true, grain := { custody := { domains := [(0, { filter := wFilter })] } } }, cus := { dom := [(0, { st := .running, flt := { phase := 1 } })] } }, by and_intros <;> decide +kernel⟩
  · exact ⟨1000000000000000, 0, { boot := { pwrgood := true }, cus := { dom := [(0, { flt := { mimic := (some 0), phase := 1 }, st := .running })] }, grn := { installed := true, grain := { custody := { domains := [(0, { filter := wFilter })] } } } }, 0, by and_intros <;> decide +kernel⟩
  · exact ⟨0, 0, { boot := { pwrgood := true }, cus := { dom := [(0, { flt := { mimic := (some 0), suspended := true, phase := 1 }, st := .running })] }, grn := { installed := true, grain := { custody := { domains := [(0, { filter := wFilter })] } } } }, 0, by and_intros <;> decide +kernel⟩
  · exact ⟨0, { boot := { pwrgood := true }, nrg := { boughs := [(0, { power := .running })] }, lvs := { leaf := [(0, { released := true })] }, grn := { installed := true, grain := { custody := { domains := [(0, { filter := wFilter })] } } }, cus := { dom := [(0, { st := .running, flt := { phase := 1 } })] } }, 0, 0, by and_intros <;> decide +kernel⟩
  · exact ⟨0, 0, { boot := { pwrgood := true }, cus := { dom := [(0, { flt := { esc := (some { due := 1 }), phase := 1 }, st := .running })] }, grn := { installed := true, grain := { custody := { domains := [(0, { filter := wFilter })] } } } }, { due := 1 }, by and_intros <;> decide +kernel⟩
  · exact ⟨1000000000000000, 0, { boot := { pwrgood := true }, cus := { dom := [(0, { flt := { esc := (some {}), phase := 1 }, st := .running })] }, grn := { installed := true, grain := { custody := { domains := [(0, { filter := wFilter })] } } } }, {}, by and_intros <;> decide +kernel⟩
  · exact ⟨0, { boot := { pwrgood := true }, cus := { dom := [(0, { flt := { esc := (some { leaf := 1 }), phase := 1 }, st := .running })] }, nrg := { boughs := [(0, { power := .running })] }, lvs := { leaf := [(0, { released := true })] }, grn := { installed := true, grain := { custody := { domains := [(0, { filter := wFilter })] } } } }, { leaf := 1 }, 0, 0, by and_intros <;> decide +kernel⟩
  · exact ⟨0, { boot := { pwrgood := true }, cus := { dom := [(0, { flt := { esc := (some {}), phase := 1 }, st := .running })] }, nrg := { boughs := [(0, { power := .running })] }, lvs := { leaf := [(0, { released := true })] }, grn := { installed := true, grain := { custody := { domains := [(0, { filter := wFilter })] } } } }, {}, 0, 2, by and_intros <;> decide +kernel⟩

/-- CambiumWritesAndEscapes: states and operands that meet the premises of its clauses (part 4 of 4). -/
theorem wit_cambiumWritesAndEscapes_4 :
    (∃ (d : Fin 32) (s : State) (q : Esc) (l : Fin 192) (w : BitVec 32), let f := (cdom d.val s).flt; live s = true ∧ twf { } s.cus.dom = true ∧ f.esc = some q ∧ f.later = [] ∧ leafCanIssue l.val s = true ∧ bitsOf w.toNat 7 3 = d.val ∧ q.leaf = l.val ∧ bitsOf w.toNat 31 8 = q.seq % 2 ^ 24 ∧ bitsOf w.toNat 1 0 = 0 ∧ (cdom d.val s).upd.st = 0) ∧
    (∃ (d : Fin 32) (s : State), live s = true ∧ (cdom d.val s).flt.phase = 1 ∧ s.boot.pf1 = true) ∧
    (∃ (d : Fin 32) (s : State), live s = true ∧ (cdom d.val s).flt.phase = 1 ∧ s.boot.pf1 = false) ∧
    (∃ (n : Nat) (d : Fin 32) (s : State), let k := fieldLe (fltEntry d.val s) 6 2; live s = true ∧ (cdom d.val s).flt.phase = 1 ∧ (k = 0 ∨ max s.now n < (cdom d.val s).flt.bootFrom + k * psS)) ∧
    (∃ (n : Nat) (d : Fin 32) (s : State), let k := fieldLe (fltEntry d.val s) 6 2; live s = true ∧ (cdom d.val s).flt.phase = 1 ∧ k ≠ 0 ∧ (cdom d.val s).flt.bootFrom + k * psS ≤ max s.now n) := by
  refine ⟨?_, ?_, ?_, ?_, ?_⟩
  · exact ⟨0, { boot := { pwrgood := true }, cus := { dom := [(0, { flt := { esc := (some {}), phase := 1 }, st := .running })] }, nrg := { boughs := [(0, { power := .running })] }, lvs := { leaf := [(0, { released := true })] }, grn := { installed := true, grain := { custody := { domains := [(0, { filter := wFilter })] } } } }, {}, 0, 0, by and_intros <;> decide +kernel⟩
  · exact ⟨0, { boot := { pwrgood := true, pf1 := true }, cus := { dom := [(0, { flt := { phase := 1 }, st := .running })] }, grn := { installed := true, grain := { custody := { domains := [(0, { filter := wFilter })] } } } }, by and_intros <;> decide +kernel⟩
  · exact ⟨0, { boot := { pwrgood := true }, cus := { dom := [(0, { flt := { phase := 1 }, st := .running })] }, grn := { installed := true, grain := { custody := { domains := [(0, { filter := wFilter })] } } } }, by and_intros <;> decide +kernel⟩
  · exact ⟨0, 0, { boot := { pwrgood := true }, cus := { dom := [(0, { flt := { phase := 1 }, st := .running })] }, grn := { installed := true, grain := { custody := { domains := [(0, { filter := wFilter })] } } } }, by and_intros <;> decide +kernel⟩
  · exact ⟨1000000000000000, 0, { boot := { pwrgood := true }, cus := { dom := [(0, { flt := { phase := 1 }, st := .running })] }, grn := { installed := true, grain := { custody := { domains := [(0, { filter := (wFilter.set 6 1) })] } } } }, by and_intros <;> decide +kernel⟩

/-- CheckUnits: states and operands that meet the premises of its clauses (part 1 of 2). -/
theorem wit_checkUnits_1 :
    (∃ (u : Fin 13) (who : ChkUser) (v : W32) (s : State), let c := chk u.val s; ChkMine u who s ∧ c.fifo = [] ∧ 1 ≤ BitVec.toNat v % 64 ∧ BitVec.toNat v % 64 ≤ 32) ∧
    (∃ (u : Fin 13) (who : ChkUser) (v : W32) (s : State), let c := chk u.val s; ChkMine u who s ∧ c.fifo = [] ∧ (BitVec.toNat v % 64 = 0 ∨ 32 < BitVec.toNat v % 64)) ∧
    (∃ (u : Fin 13) (who : ChkUser) (s : State) (r : ChkReg), let c := chk u.val s; ChkMine u who s ∧ c.fifo ≠ [] ∧ r ≠ ChkReg.init) ∧
    (∃ (u : Fin 13) (who : ChkUser) (s : State), let c := chk u.val s; ChkMine u who s ∧ c.fifo.length < 4) ∧
    (∃ (u : Fin 13) (who : ChkUser) (s : State), let c := chk u.val s; ChkMine u who s ∧ 4 ≤ c.fifo.length ∧ u.val < 12) ∧
    (∃ (u : Fin 13) (s : State) (e : Bytes) (t : List Bytes), live s = true ∧ (chk u.val s).fifo = e :: t) ∧
    (∃ (u : Fin 13) (s : State), let c := chk u.val s; live s = true ∧ (u.val < 12 → boughOff u.val s = false) ∧ c.ready = true) ∧
    (∃ (u : Fin 13) (s : State), let c := chk u.val s; live s = true ∧ (u.val < 12 → boughOff u.val s = false) ∧ c.ready = false) := by
  refine ⟨?_, ?_, ?_, ?_, ?_, ?_, ?_, ?_⟩
  · exact ⟨0, .dma, 32, { boot := { pwrgood := true }, nrg := { boughs := [(0, { power := .running })] }, lvs := { leaf := [(0, { released := true })] } }, by and_intros <;> first | decide +kernel | (unfold ChkMine; decide +kernel)⟩
  · exact ⟨0, .dma, 0, { boot := { pwrgood := true }, nrg := { boughs := [(0, { power := .running })] } }, by and_intros <;> first | decide +kernel | (unfold ChkMine; decide +kernel)⟩
  · exact ⟨0, .dma, { boot := { pwrgood := true }, nrg := { boughs := [(0, { power := .running })] }, chk := [(0, { fifo := [[]] })] }, .cfg, by and_intros <;> first | decide +kernel | (unfold ChkMine; decide +kernel)⟩
  · exact ⟨0, .dma, { boot := { pwrgood := true }, nrg := { boughs := [(0, { power := .running })] } }, ⟨(by unfold ChkMine; decide +kernel), by decide +kernel⟩⟩
  · exact ⟨0, .dma, { boot := { pwrgood := true }, nrg := { boughs := [(0, { power := .running })] }, chk := [(0, { fifo := [[],[],[],[]] })] }, by and_intros <;> first | decide +kernel | (unfold ChkMine; decide +kernel)⟩
  · exact ⟨0, { boot := { pwrgood := true }, chk := [(0, { fifo := [[]] })] }, [], [], by and_intros <;> decide +kernel⟩
  · exact ⟨0, { boot := { pwrgood := true }, nrg := { boughs := [(0, { power := .running })] }, chk := [(0, { ready := true })] }, by and_intros <;> decide +kernel⟩
  · exact ⟨0, { boot := { pwrgood := true }, nrg := { boughs := [(0, { power := .running })] }, chk := [(0, { ready := false })] }, by and_intros <;> decide +kernel⟩

/-- CheckUnits: states and operands that meet the premises of its clauses (part 2 of 2). -/
theorem wit_checkUnits_2 :
    (∃ (u : Fin 12) (who : ChkUser) (s : State), live s = true ∧ boughOff u.val s = false ∧ chkOwns u.val who (chk u.val s) = false) ∧
    (∃ (u : Fin 13) (who : ChkUser) (s : State), ChkMine u who s ∧ (chk u.val s).fifo = [] ∧ (chk u.val s).raw = (chk u.val s).st ∧ BitVec.toNat (chk u.val s).st < 2 ^ (chk u.val s).width) := by
  refine ⟨?_, ?_⟩
  · exact ⟨0, (.leaf 3), { boot := { pwrgood := true }, nrg := { boughs := [(0, { power := .running })] } }, by and_intros <;> decide +kernel⟩
  · exact ⟨0, .dma, { boot := { pwrgood := true }, chk := [(0, { raw := 0 })], nrg := { boughs := [(0, { power := .running })] } }, by and_intros <;> first | decide +kernel | (unfold ChkMine; decide +kernel)⟩

/-- CurveTable: states and operands that meet the premises of its clauses. -/
theorem wit_curveTable :
    (∃ (s : State) (r : Bytes), let id := fieldLe r 0 1; let f := curveCheck r s.freeCtr; live s = true ∧ s.brl.checking = some r ∧ f ≠ 0 ∧ (f = 1 ∨ tget [] s.brl.curves id = [])) ∧
    (∃ (s : State) (r : Bytes), let id := fieldLe r 0 1; let f := curveCheck r s.freeCtr; live s = true ∧ s.brl.checking = some r ∧ f ≠ 1 ∧ tget [] s.brl.curves id ≠ []) ∧
    (∃ (id : Fin 16) (s : State), live s = true ∧ s.boot.pf1 = true ∧ s.brl.checking = none ∧ (∀ e ∈ s.vault.slots, e.2.mat ≠ [] → attrType e.2.attr = 5 → attrParam e.2.attr ≠ id.val)) ∧
    (∃ (id : Fin 16) (s : State), live s = true ∧ s.boot.pf1 = true ∧ s.brl.checking = none ∧ 3 ≤ id.val ∧ (∃ e ∈ s.vault.slots, e.2.mat ≠ [] ∧ attrType e.2.attr = 5 ∧ attrParam e.2.attr = id.val)) := by
  refine ⟨?_, ?_, ?_, ?_⟩
  · exact ⟨{ boot := { pwrgood := true }, brl := { checking := (some []) } }, [], by and_intros <;> decide +kernel⟩
  · exact ⟨{ boot := { pwrgood := true }, brl := { checking := some ([3, 1, 160, 0] ++ List.replicate 12 0), curves := [(3, [1])] } }, ([3, 1, 160, 0] ++ List.replicate 12 0), ⟨by decide +kernel, by decide +kernel, by decide +kernel, by decide +kernel⟩⟩
  · exact ⟨0, { boot := { pwrgood := true, pf1 := true } }, by and_intros <;> decide +kernel⟩
  · exact ⟨3, { boot := { pwrgood := true, pf1 := true }, vault := { slots := [(0, { mat := [0], attr := BitVec.ofNat 32 (5 * 2 ^ 28 + 3 * 2 ^ 24) })] } }, ⟨by decide +kernel, by decide +kernel, by decide +kernel, by decide +kernel, (0, _), List.mem_cons_self, by decide +kernel⟩⟩

/-- CustodyBootSteps: states and operands that meet the premises of its clauses (part 1 of 5). -/
theorem wit_custodyBootSteps_1 :
    (∃ (n : Nat) (d : Fin 32) (s : State), let x := cdom d.val s; live s = true ∧ (x.bootDue = false ∨ x.pg = false ∨ cusConfigured d.val s = false ∨ cusOn d.val s = false ∨ x.st = CusState.fenced ∨ x.st = CusState.running ∨ lcsLoads s.boot.lcs = false ∨ s.kpf.anchorLost = true ∨ x.pgLost = true ∧ max s.now n < x.pgAt + 10 * psMs)) ∧
    (∃ (n : Nat) (d : Fin 32) (s : State), let x := cdom d.val s; live s = true ∧ x.bootDue = true ∧ x.pg = true ∧ cusConfigured d.val s = true ∧ cusOn d.val s = true ∧ x.st ≠ CusState.fenced ∧ x.st ≠ CusState.running ∧ lcsLoads s.boot.lcs = true ∧ s.kpf.anchorLost = false ∧ (x.pgLost = true → x.pgAt + 10 * psMs ≤ max s.now n)) ∧
    (∃ (d : Fin 32) (s : State), let x := cdom d.val s; live s = true ∧ twf { } s.cus.dom = true ∧ (x.step ≠ CusStep.discovery ∨ cusOn d.val s = false)) ∧
    (∃ (d : Fin 32) (s : State) (sfdp : Bytes), let x := cdom d.val s; live s = true ∧ twf { } s.cus.dom = true ∧ x.step = CusStep.discovery ∧ cusOn d.val s = true ∧ discoverFlash x.pol sfdp (x.src == 2) = none) ∧
    (∃ (d : Fin 32) (s : State) (sfdp : Bytes) (i : FlashInfo), let x := cdom d.val s; live s = true ∧ twf { } s.cus.dom = true ∧ x.step = CusStep.discovery ∧ cusOn d.val s = true ∧ discoverFlash x.pol sfdp (x.src == 2) = some i) ∧
    (∃ (d : Fin 32) (s : State), let x := cdom d.val s; live s = true ∧ twf { } s.cus.dom = true ∧ (x.step ≠ CusStep.select ∨ cusOn d.val s = false)) ∧
    (∃ (d : Fin 32) (s : State) (a : Bytes) (c : W16), let x := cdom d.val s; let u := { s with out := [] }; live s = true ∧ twf { } s.cus.dom = true ∧ x.step = CusStep.select ∧ cusOn d.val s = true ∧ x.src = 2 ∧ cusHeadTest d.val 2 (List.take 512 a) u = some c) ∧
    (∃ (d : Fin 32) (s : State) (a : Bytes), let x := cdom d.val s; let u := { s with out := [] }; live s = true ∧ twf { } s.cus.dom = true ∧ x.step = CusStep.select ∧ cusOn d.val s = true ∧ x.src = 2 ∧ cusHeadTest d.val 2 (List.take 512 a) u = none) := by
  refine ⟨?_, ?_, ?_, ?_, ?_, ?_, ?_, ?_⟩
  · exact ⟨0, 0, { boot := { pwrgood := true } }, by and_intros <;> decide +kernel⟩
  · exact ⟨1000000000000000, 0, { boot := { pwrgood := true, lcs := .grafted }, cus := { dom := [(0, { bootDue := true, pg := true })] }, grn := { installed := true, grain := { custody := { domains := [(0, { policy := [0] })] } } } }, by and_intros <;> decide +kernel⟩
  · exact ⟨0, { boot := { pwrgood := true } }, by and_intros <;> decide +kernel⟩
  · exact ⟨0, { boot := { pwrgood := true }, cus := { dom := [(0, { step := CusStep.discovery })] } }, [], by and_intros <;> decide +kernel⟩
  · exact ⟨0, { boot := { pwrgood := true }, cus := { dom := [(0, { step := CusStep.discovery, pol := (wPol.set 0x24 1) })] } }, [], _, by refine ⟨?_, ?_, ?_, ?_, rfl⟩ <;> decide +kernel⟩
  · exact ⟨0, { boot := { pwrgood := true } }, by and_intros <;> decide +kernel⟩
  · exact ⟨0, { boot := { pwrgood := true }, cus := { dom := [(0, { step := CusStep.select, src := 2 })] } }, (List.replicate 512 0), 0x2002, by and_intros <;> decide +kernel⟩
  · exact ⟨0, { boot := { pwrgood := true }, cus := { dom := [(0, { step := CusStep.select, src := 2, pol := wPol })] } }, (wHead 1), by and_intros <;> decide +kernel⟩

/-- CustodyBootSteps: states and operands that meet the premises of its clauses (part 2 of 5). -/
theorem wit_custodyBootSteps_2 :
    (∃ (d : Fin 32) (s : State) (a : Bytes) (b : Bytes), let x := cdom d.val s; let u := { s with out := [] }; let sa := (hdrOf a).seq; let sb := (hdrOf b).seq; live s = true ∧ twf { } s.cus.dom = true ∧ x.step = CusStep.select ∧ cusOn d.val s = true ∧ x.src ≤ 1 ∧ List.length a = 512 ∧ List.length b = 512 ∧ cusHeadTest d.val 0 a u = none ∧ cusHeadTest d.val 1 b u = none ∧ sb ≤ sa) ∧
    (∃ (d : Fin 32) (s : State) (a : Bytes) (b : Bytes), let x := cdom d.val s; let u := { s with out := [] }; let sa := (hdrOf a).seq; let sb := (hdrOf b).seq; live s = true ∧ twf { } s.cus.dom = true ∧ x.step = CusStep.select ∧ cusOn d.val s = true ∧ x.src ≤ 1 ∧ List.length a = 512 ∧ List.length b = 512 ∧ cusHeadTest d.val 0 a u = none ∧ cusHeadTest d.val 1 b u = none ∧ sa < sb) ∧
    (∃ (d : Fin 32) (s : State) (a : Bytes) (b : Bytes) (c : W16), let x := cdom d.val s; let u := { s with out := [] }; live s = true ∧ twf { } s.cus.dom = true ∧ x.step = CusStep.select ∧ cusOn d.val s = true ∧ x.src ≤ 1 ∧ List.length a = 512 ∧ List.length b = 512 ∧ cusHeadTest d.val 0 a u = none ∧ cusHeadTest d.val 1 b u = some c) ∧
    (∃ (d : Fin 32) (s : State) (a : Bytes) (b : Bytes) (c : W16), let x := cdom d.val s; let u := { s with out := [] }; live s = true ∧ twf { } s.cus.dom = true ∧ x.step = CusStep.select ∧ cusOn d.val s = true ∧ x.src ≤ 1 ∧ List.length a = 512 ∧ List.length b = 512 ∧ cusHeadTest d.val 0 a u = some c ∧ cusHeadTest d.val 1 b u = none) ∧
    (∃ (d : Fin 32) (s : State) (a : Bytes) (b : Bytes) (c : W16) (e : W16), let x := cdom d.val s; let u := { s with out := [] }; live s = true ∧ twf { } s.cus.dom = true ∧ x.step = CusStep.select ∧ cusOn d.val s = true ∧ x.src ≤ 1 ∧ List.length a = 512 ∧ List.length b = 512 ∧ cusHeadTest d.val 0 a u = some c ∧ cusHeadTest d.val 1 b u = some e) ∧
    (∃ (d : Fin 32) (s : State), let x := cdom d.val s; live s = true ∧ twf { } s.cus.dom = true ∧ (x.step ≠ CusStep.header ∨ x.src = 3 ∨ cusOn d.val s = false)) ∧
    (∃ (d : Fin 32) (s : State) (b : Bytes) (c : W16), let x := cdom d.val s; let u := { s with out := [] }; live s = true ∧ twf { } s.cus.dom = true ∧ x.step = CusStep.header ∧ cusOn d.val s = true ∧ x.src ≤ 2 ∧ cusHeadTest d.val x.src (List.take 512 (x.header ++ b)) u = some c) ∧
    (∃ (d : Fin 32) (s : State) (b : Bytes), let x := cdom d.val s; let u := { s with out := [] }; let h := hdrOf (x.header ++ b); let full := List.take h.headerLen (x.header ++ b); live s = true ∧ twf { } s.cus.dom = true ∧ x.step = CusStep.header ∧ cusOn d.val s = true ∧ x.src ≤ 2 ∧ cusHeadTest d.val x.src (List.take 512 (x.header ++ b)) u = none ∧ full.length < h.headerLen) := by
  refine ⟨?_, ?_, ?_, ?_, ?_, ?_, ?_, ?_⟩
  · exact ⟨0, { boot := { pwrgood := true }, cus := { dom := [(0, { step := CusStep.select, pol := wPol })] } }, (wHead 2), (wHead 1), by and_intros <;> decide +kernel⟩
  · exact ⟨0, { boot := { pwrgood := true }, cus := { dom := [(0, { step := CusStep.select, pol := wPol })] } }, (wHead 1), (wHead 2), by and_intros <;> decide +kernel⟩
  · exact ⟨0, { boot := { pwrgood := true }, cus := { dom := [(0, { step := CusStep.select, pol := wPol })] } }, (wHead 1), (List.replicate 512 0), 0x2002, by and_intros <;> decide +kernel⟩
  · exact ⟨0, { boot := { pwrgood := true }, cus := { dom := [(0, { step := CusStep.select, pol := wPol })] } }, (List.replicate 512 0), (wHead 1), 0x2002, by and_intros <;> decide +kernel⟩
  · exact ⟨0, { boot := { pwrgood := true }, cus := { dom := [(0, { step := CusStep.select, pol := wPol })] } }, (List.replicate 512 0), (List.replicate 512 0), 0x2002, 0x2002, by and_intros <;> decide +kernel⟩
  · exact ⟨0, { boot := { pwrgood := true } }, by and_intros <;> decide +kernel⟩
  · exact ⟨0, { boot := { pwrgood := true }, cus := { dom := [(0, { step := CusStep.header })] } }, (List.replicate 512 0), 0x2002, by and_intros <;> decide +kernel⟩
  · exact ⟨0, { boot := { pwrgood := true }, cus := { dom := [(0, { step := CusStep.header, pol := wPol })] } }, (wHead 1), by and_intros <;> decide +kernel⟩

/-- CustodyBootSteps: states and operands that meet the premises of its clauses (part 3 of 5). -/
theorem wit_custodyBootSteps_3 :
    (∃ (d : Fin 32) (s : State) (b : Bytes) (c : W16), let x := cdom d.val s; let u := { s with out := [] }; let h := hdrOf (x.header ++ b); let full := List.take h.headerLen (x.header ++ b); live s = true ∧ twf { } s.cus.dom = true ∧ x.step = CusStep.header ∧ cusOn d.val s = true ∧ x.src ≤ 2 ∧ cusHeadTest d.val x.src (List.take 512 (x.header ++ b)) u = none ∧ full.length = h.headerLen ∧ signedTest full (polKeys x.pol) = some c) ∧
    (∃ (d : Fin 32) (s : State), let x := cdom d.val s; live s = true ∧ twf { } s.cus.dom = true ∧ (x.step ≠ CusStep.table ∧ x.step ≠ CusStep.body ∨ x.sigOk = true ∨ cusOn d.val s = false ∨ cusBoughRuns d.val s = false)) ∧
    (∃ (d : Fin 32) (s : State), let x := cdom d.val s; live s = true ∧ twf { } s.cus.dom = true ∧ (x.step = CusStep.table ∨ x.step = CusStep.body) ∧ x.sigOk = false ∧ cusOn d.val s = true ∧ cusBoughRuns d.val s = true ∧ sigTest x.header (polRule x.pol) = false) ∧
    (∃ (d : Fin 32) (s : State), let x := cdom d.val s; live s = true ∧ twf { } s.cus.dom = true ∧ (x.step ≠ CusStep.table ∨ cusOn d.val s = false ∨ cusBoughRuns d.val s = false)) ∧
    (∃ (d : Fin 32) (s : State) (b : Bytes), let x := cdom d.val s; let k := 48 * x.hdr.blocks; let c := if x.src = 3 then slice s.cus.push.stream x.hdr.headerLen k else List.take k b; live s = true ∧ twf { } s.cus.dom = true ∧ x.step = CusStep.table ∧ cusOn d.val s = true ∧ cusBoughRuns d.val s = true ∧ List.length c = k ∧ sha384 c = x.hdr.tableDigest) ∧
    (∃ (d : Fin 32) (s : State) (b : Bytes), let x := cdom d.val s; let k := 48 * x.hdr.blocks; let c := if x.src = 3 then slice s.cus.push.stream x.hdr.headerLen k else List.take k b; live s = true ∧ twf { } s.cus.dom = true ∧ x.step = CusStep.table ∧ cusOn d.val s = true ∧ cusBoughRuns d.val s = true ∧ x.src = 3 ∧ List.length s.cus.push.stream < x.hdr.headerLen + k ∧ List.length c ≠ k) ∧
    (∃ (d : Fin 32) (s : State) (b : Bytes), let x := cdom d.val s; let k := 48 * x.hdr.blocks; let c := if x.src = 3 then slice s.cus.push.stream x.hdr.headerLen k else List.take k b; live s = true ∧ twf { } s.cus.dom = true ∧ x.step = CusStep.table ∧ cusOn d.val s = true ∧ cusBoughRuns d.val s = true ∧ x.src ≤ 2 ∧ (List.length c ≠ k ∨ sha384 c ≠ x.hdr.tableDigest)) ∧
    (∃ (d : Fin 32) (s : State), let x := cdom d.val s; live s = true ∧ twf { } s.cus.dom = true ∧ (x.step ≠ CusStep.body ∨ cusOn d.val s = false ∨ cusBoughRuns d.val s = false ∨ x.hdr.blocks ≤ x.accepted + x.pendingB.length)) := by
  refine ⟨?_, ?_, ?_, ?_, ?_, ?_, ?_, ?_⟩
  · exact ⟨0, { boot := { pwrgood := true }, cus := { dom := [(0, { step := CusStep.header, pol := wPol })] } }, (wHead 1 ++ List.replicate 3584 0), 0x2002, by and_intros <;> decide +kernel⟩
  · exact ⟨0, { boot := { pwrgood := true } }, by and_intros <;> decide +kernel⟩
  · exact ⟨0, { boot := { pwrgood := true }, cus := { dom := [(0, { step := CusStep.table })] }, nrg := { boughs := [(0, { power := .running })] } }, by and_intros <;> decide +kernel⟩
  · exact ⟨0, { boot := { pwrgood := true } }, by and_intros <;> decide +kernel⟩
  · exact ⟨0, { boot := { pwrgood := true }, cus := { dom := [(0, { step := CusStep.table, hdr := { tableDigest := sha384 [] } })] }, nrg := { boughs := [(0, { power := .running })] } }, [], by and_intros <;> decide +kernel⟩
  · exact ⟨0, { boot := { pwrgood := true }, cus := { dom := [(0, { step := CusStep.table, src := 3, hdr := { headerLen := 1, blocks := 1 } })] }, nrg := { boughs := [(0, { power := .running })] } }, [], by and_intros <;> decide +kernel⟩
  · exact ⟨0, { boot := { pwrgood := true }, cus := { dom := [(0, { step := CusStep.table })] }, nrg := { boughs := [(0, { power := .running })] } }, [], by and_intros <;> decide +kernel⟩
  · exact ⟨0, { boot := { pwrgood := true } }, by and_intros <;> decide +kernel⟩

/-- CustodyBootSteps: states and operands that meet the premises of its clauses (part 4 of 5). -/
theorem wit_custodyBootSteps_4 :
    (∃ (d : Fin 32) (s : State), let x := cdom d.val s; let i := x.accepted + x.pendingB.length; let o := x.hdr.bodyOff + i * 2 ^ x.hdr.blockLog2; live s = true ∧ twf { } s.cus.dom = true ∧ x.step = CusStep.body ∧ cusOn d.val s = true ∧ cusBoughRuns d.val s = true ∧ x.accepted + x.pendingB.length < x.hdr.blocks ∧ x.src = 3 ∧ List.length s.cus.push.stream < o + x.hdr.blockLen i) ∧
    (∃ (d : Fin 32) (s : State) (b : Bytes), let x := cdom d.val s; let i := x.accepted + x.pendingB.length; let o := x.hdr.bodyOff + i * 2 ^ x.hdr.blockLog2; let c := if x.src = 3 then slice s.cus.push.stream o (x.hdr.blockLen i) else List.take (x.hdr.blockLen i) b; let there := x.src ≤ 2 ∨ x.src = 3 ∧ o + x.hdr.blockLen i ≤ List.length s.cus.push.stream; live s = true ∧ twf { } s.cus.dom = true ∧ x.step = CusStep.body ∧ cusOn d.val s = true ∧ cusBoughRuns d.val s = true ∧ x.accepted + x.pendingB.length < x.hdr.blocks ∧ there ∧ (List.length c ≠ x.hdr.blockLen i ∨ sha384 c ≠ tableEntry x.table i)) ∧
    (∃ (d : Fin 32) (s : State) (b : Bytes) (dram : Bool), let x := cdom d.val s; let i := x.accepted + x.pendingB.length; let o := x.hdr.bodyOff + i * 2 ^ x.hdr.blockLog2; let c := if x.src = 3 then slice s.cus.push.stream o (x.hdr.blockLen i) else List.take (x.hdr.blockLen i) b; let there := x.src ≤ 2 ∨ x.src = 3 ∧ o + x.hdr.blockLen i ≤ List.length s.cus.push.stream; live s = true ∧ twf { } s.cus.dom = true ∧ x.step = CusStep.body ∧ cusOn d.val s = true ∧ cusBoughRuns d.val s = true ∧ x.accepted + x.pendingB.length < x.hdr.blocks ∧ there ∧ List.length c = x.hdr.blockLen i ∧ sha384 c = tableEntry x.table i ∧ dram = true) ∧
    (∃ (d : Fin 32) (s : State) (b : Bytes) (dram : Bool), let x := cdom d.val s; let i := x.accepted + x.pendingB.length; let o := x.hdr.bodyOff + i * 2 ^ x.hdr.blockLog2; let c := if x.src = 3 then slice s.cus.push.stream o (x.hdr.blockLen i) else List.take (x.hdr.blockLen i) b; let there := x.src ≤ 2 ∨ x.src = 3 ∧ o + x.hdr.blockLen i ≤ List.length s.cus.push.stream; live s = true ∧ twf { } s.cus.dom = true ∧ x.step = CusStep.body ∧ cusOn d.val s = true ∧ cusBoughRuns d.val s = true ∧ x.accepted + x.pendingB.length < x.hdr.blocks ∧ there ∧ List.length c = x.hdr.blockLen i ∧ sha384 c = tableEntry x.table i ∧ dram = false) ∧
    (∃ (d : Fin 32) (s : State), let x := cdom d.val s; live s = true ∧ twf { } s.cus.dom = true ∧ x.seals = []) ∧
    (∃ (d : Fin 32) (s : State) (src : Nat) (hd : Bytes) (pd : Bytes) (r : List (Nat × Bytes × Bytes)), let x := cdom d.val s; live s = true ∧ twf { } s.cus.dom = true ∧ x.seals = (src, hd, pd) :: r ∧ journalShut s = false) ∧
    (∃ (d : Fin 32) (s : State), let x := cdom d.val s; live s = true ∧ twf { } s.cus.dom = true ∧ (x.step ≠ CusStep.body ∨ x.sigOk = false ∨ x.accepted ≠ x.hdr.blocks ∨ cusOn d.val s = false)) ∧
    (∃ (d : Fin 32) (s : State), let x := cdom d.val s; live s = true ∧ twf { } s.cus.dom = true ∧ x.step = CusStep.body ∧ x.sigOk = true ∧ x.accepted = x.hdr.blocks ∧ cusOn d.val s = true ∧ x.hdr.svn < cusFloor d.val s) := by
  refine ⟨?_, ?_, ?_, ?_, ?_, ?_, ?_, ?_⟩
  · exact ⟨0, { boot := { pwrgood := true }, cus := { dom := [(0, { step := CusStep.body, src := 3, hdr := { blocks := 1, headerLen := 1 } })] }, nrg := { boughs := [(0, { power := .running })] } }, by and_intros <;> decide +kernel⟩
  · exact ⟨0, { boot := { pwrgood := true }, cus := { dom := [(0, { step := CusStep.body, hdr := { blocks := 1 } })] }, nrg := { boughs := [(0, { power := .running })] } }, [], by and_intros <;> decide +kernel⟩
  · exact ⟨0, { boot := { pwrgood := true }, cus := { dom := [(0, { step := CusStep.body, hdr := { blocks := 1 }, table := sha384 [] })] }, nrg := { boughs := [(0, { power := .running })] } }, [], true, by and_intros <;> decide +kernel⟩
  · exact ⟨0, { boot := { pwrgood := true }, cus := { dom := [(0, { step := CusStep.body, hdr := { blocks := 1 }, table := sha384 [] })] }, nrg := { boughs := [(0, { power := .running })] } }, [], false, by and_intros <;> decide +kernel⟩
  · exact ⟨0, { boot := { pwrgood := true } }, by and_intros <;> decide +kernel⟩
  · exact ⟨0, { boot := { pwrgood := true }, cus := { dom := [(0, { seals := (0, [], []) :: [] })] } }, 0, [], [], [], by and_intros <;> decide +kernel⟩
  · exact ⟨0, { boot := { pwrgood := true } }, by and_intros <;> decide +kernel⟩
  · exact ⟨0, { boot := { pwrgood := true }, cus := { dom := [(0, { step := CusStep.body, sigOk := true, accepted := 0 })] }, kpf := { floors := [(0, 1)] } }, by and_intros <;> decide +kernel⟩

/-- CustodyBootSteps: states and operands that meet the premises of its clauses (part 5 of 5). -/
theorem wit_custodyBootSteps_5 :
    (∃ (d : Fin 32) (s : State), let x := cdom d.val s; live s = true ∧ twf { } s.cus.dom = true ∧ x.step = CusStep.body ∧ x.sigOk = true ∧ x.accepted = x.hdr.blocks ∧ cusOn d.val s = true ∧ cusFloor d.val s ≤ x.hdr.svn) ∧
    (∃ (n : Nat) (s : State), let first := List.find? (fun (d : Nat) => (cdom d s).pg && (cdom d s).st == CusState.waitRelease && cusOn d s && decide ((cdom d s).rstAt + psMs ≤ max s.now n)) s.cus.ready; let gap := s.grn.grain.custody.spacingMs * psMs; let free := ∀ (l : Nat), s.cus.lastRelease = some l → l + gap ≤ max s.now n; live s = true ∧ twf { } s.cus.dom = true ∧ (first = none ∨ ¬free)) ∧
    (∃ (n : Nat) (s : State) (d : Nat), let first := List.find? (fun (d : Nat) => (cdom d s).pg && (cdom d s).st == CusState.waitRelease && cusOn d s && decide ((cdom d s).rstAt + psMs ≤ max s.now n)) s.cus.ready; let gap := s.grn.grain.custody.spacingMs * psMs; let free := ∀ (l : Nat), s.cus.lastRelease = some l → l + gap ≤ max s.now n; live s = true ∧ twf { } s.cus.dom = true ∧ first = some d ∧ free) := by
  refine ⟨?_, ?_, ?_⟩
  · exact ⟨0, { boot := { pwrgood := true }, cus := { dom := [(0, { step := CusStep.body, sigOk := true, accepted := 0 })] } }, by and_intros <;> decide +kernel⟩
  · exact ⟨0, { boot := { pwrgood := true } }, by and_intros <;> decide +kernel⟩
  · exact ⟨1000000000000, { boot := { pwrgood := true }, cus := { dom := [(0, { pg := true, st := .waitRelease, rstAt := 0 })], ready := [0] } }, 0, by and_intros <;> decide +kernel⟩

/-- CustodyFailuresAndPush: states and operands that meet the premises of its clauses (part 1 of 4). -/
theorem wit_custodyFailuresAndPush_1 :
    (∃ (d : Fin 32) (s : State), let x := cdom d.val s; live s = true ∧ twf { } s.cus.dom = true ∧ (x.st = CusState.held ∨ x.st = CusState.fenced ∨ x.st = CusState.failed ∧ cusPushing d.val s = false)) ∧
    (∃ (d : Fin 32) (s : State), let x := cdom d.val s; live s = true ∧ twf { } s.cus.dom = true ∧ x.st = CusState.failed ∧ cusPushing d.val s = true) ∧
    (∃ (d : Fin 32) (s : State), let x := cdom d.val s; live s = true ∧ twf { } s.cus.dom = true ∧ (x.st = CusState.select ∨ x.st = CusState.verify ∨ x.st = CusState.waitRelease ∨ x.st = CusState.running)) ∧
    (∃ (d : Fin 32) (s : State), let x := cdom d.val s; live s = true ∧ twf { } s.cus.dom = true ∧ s.boot.pf1 = true ∧ x.st ≠ CusState.fenced ∧ cusConfigured d.val s = true) ∧
    (∃ (d : Fin 32) (s : State), let x := cdom d.val s; live s = true ∧ twf { } s.cus.dom = true ∧ s.boot.pf1 = true ∧ x.st ≠ CusState.fenced ∧ cusConfigured d.val s = false) ∧
    (∃ (d : Fin 32) (s : State), let x := cdom d.val s; live s = true ∧ twf { } s.cus.dom = true ∧ x.pg = true) ∧
    (∃ (d : Fin 32) (s : State), let x := cdom d.val s; live s = true ∧ twf { } s.cus.dom = true ∧ x.pg = false) ∧
    (∃ (s : State), live s = true ∧ twf { } s.cus.dom = true ∧ s.boot.pf1 = false) := by
  refine ⟨?_, ?_, ?_, ?_, ?_, ?_, ?_, ?_⟩
  · exact ⟨0, { boot := { pwrgood := true }, cus := { dom := [(0, { st := .fenced })] } }, by and_intros <;> decide +kernel⟩
  · exact ⟨0, { boot := { pwrgood := true }, cus := { dom := [(0, { st := CusState.failed })], push := { state := 1 } } }, by and_intros <;> decide +kernel⟩
  · exact ⟨0, { boot := { pwrgood := true }, cus := { dom := [(0, { st := CusState.select })] } }, by and_intros <;> decide +kernel⟩
  · exact ⟨0, { boot := { pwrgood := true, pf1 := true }, grn := { installed := true, grain := { custody := { domains := [(0, { policy := [0] })] } } } }, by and_intros <;> decide +kernel⟩
  · exact ⟨0, { boot := { pwrgood := true, pf1 := true } }, by and_intros <;> decide +kernel⟩
  · exact ⟨0, { boot := { pwrgood := true }, cus := { dom := [(0, { pg := true })] } }, by and_intros <;> decide +kernel⟩
  · exact ⟨0, { boot := { pwrgood := true } }, by and_intros <;> decide +kernel⟩
  · exact ⟨{ boot := { pwrgood := true } }, by and_intros <;> decide +kernel⟩

/-- CustodyFailuresAndPush: states and operands that meet the premises of its clauses (part 2 of 4). -/
theorem wit_custodyFailuresAndPush_2 :
    (∃ (d : Fin 32) (s : State), let x := cdom d.val s; live s = true ∧ twf { } s.cus.dom = true ∧ s.boot.pf1 = true ∧ x.st = CusState.fenced) ∧
    (∃ (d : Fin 32) (s : State), let x := cdom d.val s; live s = true ∧ twf { } s.cus.dom = true ∧ (x.step = CusStep.idle ∨ x.step = CusStep.verified ∨ x.step = CusStep.writeBack ∨ x.src = 3)) ∧
    (∃ (d : Fin 32) (s : State), let x := cdom d.val s; live s = true ∧ twf { } s.cus.dom = true ∧ x.step ≠ CusStep.idle ∧ x.step ≠ CusStep.verified ∧ x.step ≠ CusStep.writeBack ∧ x.src ≤ 2 ∧ x.timeouts = 0) ∧
    (∃ (d : Fin 32) (s : State), let x := cdom d.val s; live s = true ∧ twf { } s.cus.dom = true ∧ x.step ≠ CusStep.idle ∧ x.step ≠ CusStep.verified ∧ x.step ≠ CusStep.writeBack ∧ x.src ≤ 2 ∧ 1 ≤ x.timeouts) ∧
    (∃ (d : Fin 32) (s : State), let x := cdom d.val s; live s = true ∧ twf { } s.cus.dom = true ∧ x.st ≠ CusState.running) ∧
    (∃ (d : Fin 32) (s : State), let x := cdom d.val s; live s = true ∧ twf { } s.cus.dom = true ∧ (s.boot.pf1 = false ∨ x.st ≠ CusState.running ∨ polOnCommand x.pol = false ∨ BitVec.toNat x.svn ≤ cusFloor d.val s)) ∧
    (∃ (d : Fin 32) (s : State), let x := cdom d.val s; live s = true ∧ twf { } s.cus.dom = true ∧ s.boot.pf1 = true ∧ x.st = CusState.running ∧ polOnCommand x.pol = true ∧ cusFloor d.val s < BitVec.toNat x.svn ∧ s.fuses.anchor < 4096 ∧ journalShut s = false) ∧
    (∃ (d : Fin 32) (s : State), let x := cdom d.val s; live s = true ∧ twf { } s.cus.dom = true ∧ s.boot.pf1 = true ∧ x.st = CusState.running ∧ polOnCommand x.pol = true ∧ cusFloor d.val s < BitVec.toNat x.svn ∧ 4096 ≤ s.fuses.anchor) := by
  refine ⟨?_, ?_, ?_, ?_, ?_, ?_, ?_, ?_⟩
  · exact ⟨0, { boot := { pwrgood := true, pf1 := true }, cus := { dom := [(0, { st := CusState.fenced })] } }, by and_intros <;> decide +kernel⟩
  · exact ⟨0, { boot := { pwrgood := true }, cus := { dom := [(0, { step := CusStep.idle, st := .fenced })] } }, by and_intros <;> decide +kernel⟩
  · exact ⟨0, { boot := { pwrgood := true }, cus := { dom := [(0, { step := .header })] } }, by and_intros <;> decide +kernel⟩
  · exact ⟨0, { boot := { pwrgood := true }, cus := { dom := [(0, { step := .header, timeouts := 1 })] } }, by and_intros <;> decide +kernel⟩
  · exact ⟨0, { boot := { pwrgood := true } }, by and_intros <;> decide +kernel⟩
  · exact ⟨0, { boot := { pwrgood := true } }, by and_intros <;> decide +kernel⟩
  · exact ⟨0, { boot := { pwrgood := true, pf1 := true }, cus := { dom := [(0, { st := CusState.running, pol := [0,0,1], svn := 1 })] } }, by and_intros <;> decide +kernel⟩
  · exact ⟨0, { boot := { pwrgood := true, pf1 := true }, cus := { dom := [(0, { st := CusState.running, pol := [0,0,1], svn := 1 })] }, fuses := { anchor := 4096 } }, by and_intros <;> decide +kernel⟩

/-- CustodyFailuresAndPush: states and operands that meet the premises of its clauses (part 3 of 4). -/
theorem wit_custodyFailuresAndPush_3 :
    (∃ (s : State), live s = true ∧ s.boot.pf1 = false) ∧
    (∃ (d : Fin 32) (s : State), live s = true ∧ s.boot.pf1 = true ∧ ((cdom d.val s).st ≠ CusState.failed ∨ cusPushOpen s = true ∨ cusOn d.val s = false ∨ s.kpf.anchorLost = true)) ∧
    (∃ (d : Fin 32) (s : State), live s = true ∧ s.boot.pf1 = true ∧ (cdom d.val s).st = CusState.failed ∧ cusPushOpen s = false ∧ cusOn d.val s = true ∧ s.kpf.anchorLost = false) ∧
    (∃ (s : State), live s = true ∧ s.boot.pf1 = true ∧ twf { } s.cus.dom = true ∧ cusPushOpen s = false) ∧
    (∃ (s : State), live s = true ∧ s.boot.pf1 = true ∧ twf { } s.cus.dom = true ∧ cusPushOpen s = true) ∧
    (∃ (k : BitVec 12) (m : BitVec 17) (s : State), let p := s.cus.push; live s = true ∧ s.boot.pf1 = true ∧ twf { } s.cus.dom = true ∧ (s.cus.push.state = 1 ∨ s.cus.push.state = 2) ∧ (k.toNat ≠ p.accepted ∨ m = 0 ∨ 65536 < m.toNat)) ∧
    (∃ (k : BitVec 12) (m : BitVec 17) (s : State), let p := s.cus.push; live s = true ∧ s.boot.pf1 = true ∧ twf { } s.cus.dom = true ∧ (s.cus.push.state = 1 ∨ s.cus.push.state = 2) ∧ k.toNat = p.accepted ∧ 0 < m.toNat ∧ m.toNat ≤ 65536 ∧ (cdom p.domain s).step ≠ CusStep.header) ∧
    (∃ (n : Nat) (k : BitVec 12) (m : BitVec 17) (s : State), let p := s.cus.push; let q := { p with accepted := p.accepted + 1, frames := tset [] p.frames (k.toNat % 8) [], stream := p.stream ++ padTo m.toNat (tget [] p.frames (k.toNat % 8)), lastPost := max s.now n }; let v := { (atInput n s) with cus := { s.cus with push := q } }; live s = true ∧ s.boot.pf1 = true ∧ twf { } s.cus.dom = true ∧ (s.cus.push.state = 1 ∨ s.cus.push.state = 2) ∧ k.toNat = p.accepted ∧ 0 < m.toNat ∧ m.toNat ≤ 65536 ∧ (cdom p.domain s).step = CusStep.header ∧ cusHeadTest p.domain 3 (List.take 512 q.stream) v = none ∧ List.length q.stream < (hdrOf q.stream).headerLen) := by
  refine ⟨?_, ?_, ?_, ?_, ?_, ?_, ?_, ?_⟩
  · exact ⟨{ boot := { pwrgood := true } }, by and_intros <;> decide +kernel⟩
  · exact ⟨0, { boot := { pwrgood := true, pf1 := true } }, by and_intros <;> decide +kernel⟩
  · exact ⟨0, { boot := { pwrgood := true, pf1 := true }, cus := { dom := [(0, { st := CusState.failed })] } }, by and_intros <;> decide +kernel⟩
  · exact ⟨{ boot := { pwrgood := true, pf1 := true }, cus := { dom := [(0, { step := .writeBack })] } }, by and_intros <;> decide +kernel⟩
  · exact ⟨{ boot := { pwrgood := true, pf1 := true }, cus := { push := { state := 1 } } }, by and_intros <;> decide +kernel⟩
  · exact ⟨0, 0, { boot := { pwrgood := true, pf1 := true }, cus := { push := { state := 1 } } }, by and_intros <;> decide +kernel⟩
  · exact ⟨0, 1, { boot := { pwrgood := true, pf1 := true }, cus := { push := { state := 1 } } }, by and_intros <;> decide +kernel⟩
  · exact ⟨0, 0, 1, { boot := { pwrgood := true, pf1 := true }, cus := { push := { state := 1, stream := (wHead 1) }, dom := [(0, { step := .header, src := 3, pol := wPol })] } }, by and_intros <;> decide +kernel⟩

/-- CustodyFailuresAndPush: states and operands that meet the premises of its clauses (part 4 of 4). -/
theorem wit_custodyFailuresAndPush_4 :
    (∃ (n : Nat) (k : BitVec 12) (m : BitVec 17) (s : State) (c : W16), let p := s.cus.push; let q := { p with accepted := p.accepted + 1, frames := tset [] p.frames (k.toNat % 8) [], stream := p.stream ++ padTo m.toNat (tget [] p.frames (k.toNat % 8)), lastPost := max s.now n }; let v := { (atInput n s) with cus := { s.cus with push := q } }; live s = true ∧ s.boot.pf1 = true ∧ twf { } s.cus.dom = true ∧ (s.cus.push.state = 1 ∨ s.cus.push.state = 2) ∧ k.toNat = p.accepted ∧ 0 < m.toNat ∧ m.toNat ≤ 65536 ∧ (cdom p.domain s).step = CusStep.header ∧ (cdom p.domain s).src = 3 ∧ cusHeadTest p.domain 3 (List.take 512 q.stream) v = some c) ∧
    (∃ (n : Nat) (s : State), let p := s.cus.push; live s = true ∧ twf { } s.cus.dom = true ∧ (p.state = 1 ∨ p.state = 2) ∧ p.lastPost + 60 * psS ≤ max s.now n ∧ (p.total = 0 ∨ p.accepted < p.total)) ∧
    (∃ (n : Nat) (s : State), let p := s.cus.push; live s = true ∧ twf { } s.cus.dom = true ∧ (p.state ≠ 1 ∧ p.state ≠ 2 ∨ max s.now n < p.lastPost + 60 * psS)) ∧
    (∃ (s : State), let p := s.cus.push; let x := cdom p.domain s; let due := s.cus.push.state = 3 ∧ x.step = CusStep.writeBack ∧ cusOn p.domain s = true; live s = true ∧ twf { } s.cus.dom = true ∧ ¬due) ∧
    (∃ (back : Option Bytes) (s : State), let p := s.cus.push; let x := cdom p.domain s; let k := b2n p.wbSlot; let img := slice p.stream 0 x.hdr.imageLen; let due := s.cus.push.state = 3 ∧ x.step = CusStep.writeBack ∧ cusOn p.domain s = true; let good := back = some img ∧ List.length img ≤ slotSize x.pol k; live s = true ∧ twf { } s.cus.dom = true ∧ due ∧ good) ∧
    (∃ (back : Option Bytes) (s : State), let p := s.cus.push; let x := cdom p.domain s; let k := b2n p.wbSlot; let img := slice p.stream 0 x.hdr.imageLen; let due := s.cus.push.state = 3 ∧ x.step = CusStep.writeBack ∧ cusOn p.domain s = true; let good := back = some img ∧ List.length img ≤ slotSize x.pol k; live s = true ∧ twf { } s.cus.dom = true ∧ due ∧ ¬good) := by
  refine ⟨?_, ?_, ?_, ?_, ?_, ?_⟩
  · exact ⟨0, 0, 1, { boot := { pwrgood := true, pf1 := true }, cus := { push := { state := 1, stream := (List.replicate 512 0) }, dom := [(0, { step := .header, src := 3 })] } }, 0x2002, by and_intros <;> decide +kernel⟩
  · exact ⟨1000000000000000, { boot := { pwrgood := true }, cus := { push := { state := 1 } } }, by and_intros <;> decide +kernel⟩
  · exact ⟨0, { boot := { pwrgood := true } }, by and_intros <;> decide +kernel⟩
  · exact ⟨{ boot := { pwrgood := true } }, by and_intros <;> decide +kernel⟩
  · exact ⟨some [], { boot := { pwrgood := true }, cus := { push := { state := 3 }, dom := [(0, { step := .writeBack })] } }, by and_intros <;> decide +kernel⟩
  · exact ⟨none, { boot := { pwrgood := true }, cus := { push := { state := 3 }, dom := [(0, { step := .writeBack })] } }, by and_intros <;> decide +kernel⟩

/-- DebugAccess: states and operands that meet the premises of its clauses (part 1 of 3). -/
theorem wit_debugAccess_1 :
    (∃ (a : BitVec 32) (s : State), live s = true ∧ 4096 ≤ a.toNat ∧ a.toNat < 20480) ∧
    (∃ (a : BitVec 32) (s : State), live s = true ∧ (a = 0 ∨ 12 ≤ a.toNat ∧ a.toNat < 4096 ∨ 20480 ≤ a.toNat)) ∧
    (∃ (s : State), live s = true ∧ dbgOpen s = false ∧ s.lcy.unlocked = false) ∧
    (∃ (l : Nat) (o : Nat) (s : State), live s = true ∧ (dbgOpen s = true ∨ s.lcy.unlocked = true) ∧ l < 192 ∧ o < 131072 ∧ dbgLeaf l s = true ∧ o < 65536) ∧
    (∃ (l : Nat) (o : Nat) (s : State), live s = true ∧ (dbgOpen s = true ∨ s.lcy.unlocked = true) ∧ l < 192 ∧ o < 131072 ∧ dbgLeaf l s = true ∧ 65536 ≤ o) ∧
    (∃ (l : Nat) (o : Nat) (s : State), live s = true ∧ (dbgOpen s = true ∨ s.lcy.unlocked = true) ∧ l < 192 ∧ o < 131072 ∧ dbgLeaf l s = false) ∧
    (∃ (l : Nat) (o : Nat) (s : State), live s = true ∧ (dbgOpen s = true ∨ s.lcy.unlocked = true) ∧ l < 192 ∧ 131076 ≤ o ∧ o < 1048576 ∧ (dbgLeaf l s = true ∨ dbgScope 0 0 s = true)) ∧
    (∃ (l : Nat) (o : Nat) (s : State), live s = true ∧ (dbgOpen s = true ∨ s.lcy.unlocked = true) ∧ l < 192 ∧ 131076 ≤ o ∧ o < 1048576 ∧ dbgLeaf l s = true ∧ twf { } s.lvs.leaf = true ∧ o = 131076) := by
  refine ⟨?_, ?_, ?_, ?_, ?_, ?_, ?_, ?_⟩
  · exact ⟨4096, { boot := { pwrgood := true } }, by and_intros <;> decide +kernel⟩
  · exact ⟨0, { boot := { pwrgood := true } }, by and_intros <;> decide +kernel⟩
  · exact ⟨{ boot := { pwrgood := true, lcs := .grafted } }, by and_intros <;> decide +kernel⟩
  · exact ⟨0, 0, { boot := { pwrgood := true } }, by and_intros <;> decide +kernel⟩
  · exact ⟨0, 65536, { boot := { pwrgood := true } }, by and_intros <;> decide +kernel⟩
  · exact ⟨0, 0, { boot := { pwrgood := true, lcs := .grafted }, lcy := { unlocked := true } }, by and_intros <;> decide +kernel⟩
  · exact ⟨0, 131076, { boot := { pwrgood := true } }, by and_intros <;> decide +kernel⟩
  · exact ⟨0, 131076, { boot := { pwrgood := true } }, by and_intros <;> decide +kernel⟩

/-- DebugAccess: states and operands that meet the premises of its clauses (part 2 of 3). -/
theorem wit_debugAccess_2 :
    (∃ (l : Nat) (o : Nat) (s : State), live s = true ∧ (dbgOpen s = true ∨ s.lcy.unlocked = true) ∧ l < 192 ∧ 131076 ≤ o ∧ o < 1048576 ∧ dbgLeaf l s = true ∧ twf { } s.lvs.leaf = true ∧ 131200 ≤ o ∧ o < 131328) ∧
    (∃ (l : Fin 192) (s : State), live s = true ∧ dbgLeaf l.val s = false) ∧
    (∃ (l : Fin 192) (s : State), live s = true ∧ dbgLeaf l.val s = true ∧ (leafAt l.val s).attached = true) ∧
    (∃ (l : Fin 192) (s : State), live s = true ∧ dbgLeaf l.val s = true ∧ (leafAt l.val s).attached = false ∧ (leafAt l.val s).fenced = true ∧ twf { } s.lvs.leaf = true) ∧
    (∃ (l : Fin 192) (s : State), live s = true ∧ dbgLeaf l.val s = true ∧ (leafAt l.val s).halted = false) ∧
    (∃ (l : Fin 192) (s : State) (f : Bool) (rd : BitVec 5) (rs : BitVec 5) (rt : BitVec 5) (t : State), let u := { s with out := [] }; let to_ := fun (h : Bool) (s : State) => modLeaf l.val (fun (x : Leaf) => { x with halted := h }) s; live s = true ∧ dbgLeaf l.val s = true ∧ (leafAt l.val s).halted = true ∧ leafRuns l.val (to_ false u) = true ∧ boughRuns (boughOfLeaf l.val) (to_ false u) = true ∧ (leafAt l.val (to_ false u)).waiting = none ∧ leafDecode (leafAt l.val (to_ false u)).word = LInsn.alu AluOp.add f rd rs rt ∧ exec (aluInstr AluOp.add l f rd rs rt) (to_ false u) = Host.Outcome.next t) ∧
    (∃ (s : State), s.boot.pwrgood = false) ∧
    (∃ (s : State), (s.boot.lcs = Lcs.seed ∨ s.boot.lcs = Lcs.returned ∨ s.boot.lcs = Lcs.felled)) := by
  refine ⟨?_, ?_, ?_, ?_, ?_, ?_, ?_, ?_⟩
  · exact ⟨0, 131200, { boot := { pwrgood := true } }, by and_intros <;> decide +kernel⟩
  · exact ⟨0, { boot := { pwrgood := true, lcs := .grafted } }, by and_intros <;> decide +kernel⟩
  · exact ⟨0, { boot := { pwrgood := true }, lvs := { leaf := [(0, { attached := true })] } }, by and_intros <;> decide +kernel⟩
  · exact ⟨0, { boot := { pwrgood := true }, lvs := { leaf := [(0, { fenced := true })] } }, by and_intros <;> decide +kernel⟩
  · exact ⟨0, { boot := { pwrgood := true } }, by and_intros <;> decide +kernel⟩
  · exact ⟨0, { boot := { pwrgood := true, lcs := .seed }, lvs := { leaf := [(0, { halted := true, released := true })] }, nrg := { boughs := [(0, { power := .running })] } }, false, 0, 0, 0, _, by refine ⟨?_, ?_, ?_, ?_, ?_, ?_, ?_, rfl⟩ <;> decide +kernel⟩
  · exact ⟨{}, by decide +kernel⟩
  · exact ⟨{ boot := { pwrgood := true, lcs := Lcs.seed } }, by decide +kernel⟩

/-- DebugAccess: states and operands that meet the premises of its clauses (part 3 of 3). -/
theorem wit_debugAccess_3 :
    ∃ (s : State), s.boot.pwrgood = true ∧ (s.boot.lcs = Lcs.sapling ∨ s.boot.lcs = Lcs.grafted ∨ s.boot.lcs = Lcs.standing) ∧ s.cus.dom = [] :=
  ⟨{ boot := { pwrgood := true, lcs := Lcs.sapling } }, by and_intros <;> decide +kernel⟩

/-- DisableGroup: states and operands that meet the premises of its clauses (part 1 of 2). -/
theorem wit_disableGroup_1 :
    (∃ (s : State), live s = true ∧ s.boot.pf1 = false) ∧
    (∃ (u : UnitId) (s : State), live s = true ∧ disActs u s = false) ∧
    (∃ (u : UnitId) (s : State), live s = true ∧ s.boot.pf1 = true ∧ disActs u s = true ∧ (disOf u s).off = false ∧ (disOf u s).running = false ∧ (∀ (p : Fin 16), u ≠ UnitId.rxp p)) ∧
    (∃ (u : UnitId) (s : State), live s = true ∧ s.boot.pf1 = true ∧ disActs u s = true ∧ (disOf u s).off = false ∧ (disOf u s).running = false ∧ twf { } s.dis = true) ∧
    (∃ (u : UnitId) (s : State), live s = true ∧ (disOf u s).running = true ∧ (disOf u s).cut = false ∧ twf { } s.dis = true ∧ s.boot.pf1 = true ∧ disActs u s = true) ∧
    (∃ (u : UnitId) (s : State), live s = true ∧ ((disOf u s).running = false ∨ (disOf u s).cut = true)) ∧
    (∃ (b : Fin 12) (s : State) (p : Nat) (j : BrlJob), live s = true ∧ (disOf (UnitId.burl b) s).running = true ∧ (disOf (UnitId.burl b) s).cut = false ∧ List.find? (fun (e : Nat × BrlJob) => e.2.running) (eng b.val s).ports = some (p, j) ∧ p < 16 ∧ j.orphan = false ∧ (leafAt (16 * b.val + p) s).released = true ∧ twf { } s.lvs.leaf = true ∧ s.boot.pf1 = true) ∧
    (∃ (u : UnitId) (s : State), let d := disOf u s; live s = true ∧ (∀ (d : Fin 32), u ≠ UnitId.custody d) ∧ (disOf u s).running = true ∧ (disOf u s).enPending = false ∧ ((disOf u s).cut = true ∨ disBusy u s = false)) := by
  refine ⟨?_, ?_, ?_, ?_, ?_, ?_, ?_, ?_⟩
  · exact ⟨{ boot := { pwrgood := true } }, by and_intros <;> decide +kernel⟩
  · exact ⟨(.lane 0), { boot := { pwrgood := true } }, by and_intros <;> decide +kernel⟩
  · exact ⟨(.txp 0), { boot := { pwrgood := true, pf1 := true } }, by and_intros <;> decide +kernel⟩
  · exact ⟨(.custody 0), { boot := { pwrgood := true, pf1 := true } }, by and_intros <;> decide +kernel⟩
  · exact ⟨(.rxp 0), { boot := { pwrgood := true, pf1 := true }, dis := [(224, { running := true })] }, by and_intros <;> decide +kernel⟩
  · exact ⟨(.lane 0), { boot := { pwrgood := true } }, by and_intros <;> decide +kernel⟩
  · exact ⟨0, { boot := { pwrgood := true, pf1 := true }, dis := [(256, { running := true })], brl := { eng := [(0, { ports := [(0, { desc := [1], running := true })] })] }, lvs := { leaf := [(0, { released := true })] } }, 0, { desc := [1], running := true }, by and_intros <;> decide +kernel⟩
  · exact ⟨(.rxp 0), { boot := { pwrgood := true }, dis := [(224, { running := true })] }, by and_intros <;> decide +kernel⟩

/-- DisableGroup: states and operands that meet the premises of its clauses (part 2 of 2). -/
theorem wit_disableGroup_2 :
    (∃ (p : Fin 32) (s : State), live s = true ∧ (disOf (UnitId.custody p) s).running = true ∧ (disOf (UnitId.custody p) s).enPending = false ∧ ((disOf (UnitId.custody p) s).cut = true ∨ disBusy (UnitId.custody p) s = false) ∧ cusConfigured p.val s = true ∧ (cdom p.val s).st ≠ CusState.fenced ∧ twf { } s.dis = true ∧ twf { } s.cus.dom = true) ∧
    (∃ (u : UnitId) (s : State), live s = true ∧ ((disOf u s).running = false ∨ (disOf u s).cut = false ∧ disBusy u s = true)) ∧
    (∃ (u : UnitId) (s : State), live s = true ∧ s.boot.pf1 = true ∧ disActs u s = true ∧ (disOf u s).running = false ∧ (disOf u s).off = true ∧ twf { } s.dis = true) ∧
    (∃ (b : Fin 12) (s : State), live s = true ∧ s.boot.pf1 = true ∧ (disOf (UnitId.burl b) s).running = false ∧ (disOf (UnitId.burl b) s).off = true) := by
  refine ⟨?_, ?_, ?_, ?_⟩
  · exact ⟨0, { boot := { pwrgood := true }, grn := { installed := true, grain := { custody := { domains := [(0, { policy := [0] })] } } }, dis := [(192, { running := true })] }, by and_intros <;> decide +kernel⟩
  · exact ⟨(.lane 0), { boot := { pwrgood := true } }, by and_intros <;> decide +kernel⟩
  · exact ⟨(.rxp 0), { boot := { pwrgood := true, pf1 := true }, dis := [(224, { off := true })] }, by and_intros <;> decide +kernel⟩
  · exact ⟨0, { boot := { pwrgood := true, pf1 := true }, dis := [(256, { off := true })] }, by and_intros <;> decide +kernel⟩

/-- EnergyLedger: states and operands that meet the premises of its clauses (part 1 of 2). -/
theorem wit_energyLedger_1 :
    (∃ (pf1 : Bool) (s : State), live s = true ∧ (pf1 = true ∨ s.grn.installed = false ∨ s.grn.grain.energy.flags.testBit 0 = true)) ∧
    (∃ (pf1 : Bool) (s : State), live s = true ∧ pf1 = false ∧ s.grn.installed = true ∧ s.grn.grain.energy.flags.testBit 0 = false) ∧
    (∃ (kind : Fin 16) (s : State), let w := workEntry s kind.val; live s = true ∧ s.nrg.jobs = [] ∧ w.cls = 0) ∧
    (∃ (n : Nat) (kind : Fin 16) (b : Option (Fin 12)) (pC0 : Nat) (m : Meter) (s : State), let u := metered n pC0 m s; let w := workEntry s kind.val; let j := { id := s.nrg.nextJob, kind := kind.val, c2 := w.cls == 2, bough := Option.map (fun (x : Fin 12) => x.val) b, eUj := w.eUj }; live s = true ∧ s.nrg.jobs = [] ∧ w.cls ≠ 0 ∧ FitsBudget pC0 j u) ∧
    (∃ (n : Nat) (kind : Fin 16) (b : Option (Fin 12)) (pC0 : Nat) (m : Meter) (s : State), let u := metered n pC0 m s; let w := workEntry s kind.val; let j := { id := s.nrg.nextJob, kind := kind.val, c2 := w.cls == 2, bough := Option.map (fun (x : Fin 12) => x.val) b, eUj := w.eUj }; live s = true ∧ s.nrg.jobs = [] ∧ w.cls ≠ 0 ∧ ¬FitsBudget pC0 j u) ∧
    (∃ (n : Nat) (pC0 : Nat) (m : Meter) (s : State) (j0 : Job), let u := metered n pC0 m s; let j := { j0 with eUj := (workEntry s j0.kind).eUj }; live s = true ∧ s.nrg.jobs = [j0] ∧ FitsBudget pC0 j u) ∧
    (∃ (n : Nat) (pC0 : Nat) (m : Meter) (s : State) (j0 : Job), let u := metered n pC0 m s; let j := { j0 with eUj := (workEntry s j0.kind).eUj }; live s = true ∧ s.nrg.jobs = [j0] ∧ ¬FitsBudget pC0 j u) ∧
    (∃ (b : Fin 12) (s : State), let idle := (∀ j ∈ s.nrg.admitted, j.bough ≠ some b.val) ∧ (boughNrg b.val s).c0 = 0 ∧ (eng b.val s).ports = [] ∧ (∀ e ∈ s.cus.dom, custodyDue e.2 = true → custodyBough e.2 s ≠ b.val) ∧ ∀ e ∈ s.lvs.leaf, e.1 / 16 = b.val → e.2.xfer = none ∧ ∀ t ∈ e.2.tags, t.2.req = none; let freezable := s.grn.installed = true ∧ (s.grn.grain.boughs.getD b.val { }).freezable = 1 ∧ (boughNrg b.val s).power = BoughPower.running ∧ ∀ e ∈ s.lvs.leaf, e.1 / 16 = b.val → e.2.released = true → e.2.role < 1 ∨ 3 < e.2.role; live s = true ∧ idle ∧ freezable) := by
  refine ⟨?_, ?_, ?_, ?_, ?_, ?_, ?_, ?_⟩
  · exact ⟨false, { boot := { pwrgood := true } }, by and_intros <;> decide +kernel⟩
  · exact ⟨false, { boot := { pwrgood := true }, grn := { installed := true } }, by and_intros <;> decide +kernel⟩
  · exact ⟨0, { boot := { pwrgood := true } }, by and_intros <;> decide +kernel⟩
  · exact ⟨0, 0, none, 0, {}, { boot := { pwrgood := true }, grn := { grain := { energy := { work := [{ cls := 1 }] } } } }, by and_intros <;> first | decide +kernel | (unfold FitsBudget; decide +kernel)⟩
  · exact ⟨0, 0, none, 0, {}, { boot := { pwrgood := true }, grn := { grain := { energy := { work := [{ cls := 1, eUj := 5 }] } } } }, by and_intros <;> first | decide +kernel | (unfold FitsBudget; decide +kernel)⟩
  · exact ⟨0, 0, {}, { boot := { pwrgood := true }, nrg := { jobs := [{}] } }, {}, by and_intros <;> first | decide +kernel | (unfold FitsBudget; decide +kernel)⟩
  · exact ⟨0, 0, {}, { boot := { pwrgood := true }, nrg := { jobs := [{}] }, grn := { grain := { energy := { work := (List.replicate 11 { eUj := 1000000000000 }) } } } }, {}, by and_intros <;> first | decide +kernel | (unfold FitsBudget; decide +kernel)⟩
  · exact ⟨0, { boot := { pwrgood := true }, grn := { installed := true, grain := { boughs := [{ freezable := 1 }] } }, nrg := { boughs := [(0, { power := .running })] } }, by and_intros <;> decide +kernel⟩

/-- EnergyLedger: states and operands that meet the premises of its clauses (part 2 of 2). -/
theorem wit_energyLedger_2 :
    (∃ (b : Fin 12) (s : State), let idle := (∀ j ∈ s.nrg.admitted, j.bough ≠ some b.val) ∧ (boughNrg b.val s).c0 = 0 ∧ (eng b.val s).ports = [] ∧ (∀ e ∈ s.cus.dom, custodyDue e.2 = true → custodyBough e.2 s ≠ b.val) ∧ ∀ e ∈ s.lvs.leaf, e.1 / 16 = b.val → e.2.xfer = none ∧ ∀ t ∈ e.2.tags, t.2.req = none; let freezable := s.grn.installed = true ∧ (s.grn.grain.boughs.getD b.val { }).freezable = 1 ∧ (boughNrg b.val s).power = BoughPower.running ∧ ∀ e ∈ s.lvs.leaf, e.1 / 16 = b.val → e.2.released = true → e.2.role < 1 ∨ 3 < e.2.role; live s = true ∧ (¬(idle ∧ freezable))) ∧
    (∃ (n : Nat) (b : Fin 12) (s : State), let need := (boughNrg b.val s).thawDue = true ∨ (boughNrg b.val s).c0 ≠ 0 ∨ (boughNrg b.val s).queued ≠ [] ∨ (eng b.val s).ports ≠ [] ∨ (∃ j ∈ s.nrg.admitted, j.bough = some b.val) ∨ ∃ e ∈ s.cus.dom, custodyDue e.2 = true ∧ custodyBough e.2 s = b.val; let free := ∀ (l : Nat), s.nrg.lastThaw = some l → l + 5000000 ≤ max s.now n; live s = true ∧ (boughNrg b.val s).power = BoughPower.frozen ∧ need ∧ free) ∧
    (∃ (n : Nat) (b : Fin 12) (s : State), let need := (boughNrg b.val s).thawDue = true ∨ (boughNrg b.val s).c0 ≠ 0 ∨ (boughNrg b.val s).queued ≠ [] ∨ (eng b.val s).ports ≠ [] ∨ (∃ j ∈ s.nrg.admitted, j.bough = some b.val) ∨ ∃ e ∈ s.cus.dom, custodyDue e.2 = true ∧ custodyBough e.2 s = b.val; let free := ∀ (l : Nat), s.nrg.lastThaw = some l → l + 5000000 ≤ max s.now n; live s = true ∧ (boughNrg b.val s).power = BoughPower.frozen ∧ (¬(need ∧ free))) ∧
    (∃ (b : Fin 12) (s : State), live s = true ∧ (boughNrg b.val s).power ≠ BoughPower.frozen) := by
  refine ⟨?_, ?_, ?_, ?_⟩
  · exact ⟨0, { boot := { pwrgood := true } }, by and_intros <;> decide +kernel⟩
  · exact ⟨0, 0, { boot := { pwrgood := true }, nrg := { boughs := [(0, { power := .frozen, thawDue := true })] } }, by and_intros <;> decide +kernel⟩
  · exact ⟨0, 0, { boot := { pwrgood := true }, nrg := { boughs := [(0, { power := BoughPower.frozen })] } }, ⟨by decide +kernel, by decide +kernel, by rintro ⟨h | h | h | h | ⟨j, h, _⟩ | ⟨e, h, _⟩, _⟩ <;> first | exact absurd h (by decide) | cases h⟩⟩
  · exact ⟨0, { boot := { pwrgood := true } }, by and_intros <;> decide +kernel⟩

/-- EntropySteps: states and operands that meet the premises of its clauses (part 1 of 3). -/
theorem wit_entropySteps_1 :
    (∃ (i : Fin 4) (b : Bytes) (s : State), let run := healthRun { } (sampleBits b); live s = true ∧ (noise i.val s).startup ≠ 0 ∧ (noise i.val s).fenced = false ∧ s.boot.phase ≠ BootPhase.entropy ∧ List.length b = 512 ∧ run.2 = true ∧ twf { } s.ent.src = true) ∧
    (∃ (i : Fin 4) (b : Bytes) (s : State), let run := healthRun { } (sampleBits b); live s = true ∧ (noise i.val s).startup ≠ 0 ∧ (noise i.val s).fenced = false ∧ s.boot.phase ≠ BootPhase.entropy ∧ (List.length b ≠ 512 ∨ run.2 = false) ∧ twf { } s.ent.src = true) ∧
    (∃ (i : Fin 4) (s : State), live s = true ∧ ((noise i.val s).startup = 0 ∨ (noise i.val s).fenced = true)) ∧
    (∃ (r : NoiseRun) (s : State), let c := collect (healthySources s) 0 r.samples s.ent.src; let i := r.src.val; live s = true ∧ s.boot.phase ≠ BootPhase.entropy ∧ (healthySources s = [] ∨ c.2 ≠ some i)) ∧
    (∃ (r : NoiseRun) (s : State), let c := collect (healthySources s) 0 r.samples s.ent.src; let i := r.src.val; live s = true ∧ s.boot.phase ≠ BootPhase.entropy ∧ healthySources s ≠ [] ∧ c.2 = some i) ∧
    (∃ (b : Bytes) (s : State), live s = true ∧ s.boot.vfuse = false ∧ s.ent.waits = [] ∧ (s.ent.valid = false ∨ healthySources s = [] ∨ List.length b ≠ 128)) ∧
    (∃ (b : Bytes) (s : State), let c := collect (healthySources s) 0 (sampleBits b) s.ent.src; live s = true ∧ s.boot.vfuse = false ∧ s.ent.waits = [] ∧ s.ent.valid = true ∧ healthySources s ≠ [] ∧ List.length b = 128 ∧ c.2 = none ∧ s.ent.dramKeysDue = []) ∧
    (∃ (b : Bytes) (s : State) (i : Nat), let c := collect (healthySources s) 0 (sampleBits b) s.ent.src; live s = true ∧ s.boot.vfuse = false ∧ s.ent.waits = [] ∧ s.ent.valid = true ∧ healthySources s ≠ [] ∧ List.length b = 128 ∧ c.2 = some i ∧ s.boot.phase ≠ BootPhase.entropy) := by
  refine ⟨?_, ?_, ?_, ?_, ?_, ?_, ?_, ?_⟩
  · exact ⟨0, wQuiet, { boot := { pwrgood := true }, ent := { src := [(0, { startup := 1 })] } }, ⟨by decide +kernel, by decide +kernel, by decide +kernel, by decide +kernel, by decide +kernel, wQuiet_run, by decide +kernel⟩⟩
  · exact ⟨0, [], { boot := { pwrgood := true }, ent := { src := [(0, { startup := 1 })] } }, by and_intros <;> decide +kernel⟩
  · exact ⟨0, { boot := { pwrgood := true } }, by and_intros <;> decide +kernel⟩
  · exact ⟨{ src := 0, samples := [] }, { boot := { pwrgood := true }, ent := { src := [(0, { healthy := true })] } }, by and_intros <;> decide +kernel⟩
  · exact ⟨{ src := 0, samples := List.replicate 41 true }, { boot := { pwrgood := true }, ent := { src := [(0, { healthy := true })] } }, by and_intros <;> decide +kernel⟩
  · exact ⟨[], { boot := { pwrgood := true } }, by and_intros <;> decide +kernel⟩
  · exact ⟨(List.replicate 128 0x5A), { boot := { pwrgood := true }, ent := { valid := true, src := [(0, { healthy := true })] } }, by and_intros <;> decide +kernel⟩
  · exact ⟨(List.replicate 128 0), { boot := { pwrgood := true }, ent := { src := [(0, { healthy := true })], valid := true } }, 0, by and_intros <;> decide +kernel⟩

/-- EntropySteps: states and operands that meet the premises of its clauses (part 2 of 3). -/
theorem wit_entropySteps_2 :
    (∃ (i : Fin 5) (s : State) (b0 : Bytes) (b1 : Bytes) (bs : List Bytes), live s = true ∧ (drbg i.val s).on = false ∧ s.ent.blocks = b0 :: b1 :: bs ∧ s.ent.dramKeysDue = [] ∧ s.ent.hsVDue = false ∧ s.ent.waits = [] ∧ s.boot.vfuse = false) ∧
    (∃ (n : Nat) (i : Fin 5) (s : State) (b : Bytes) (bs : List Bytes), live s = true ∧ (drbg i.val s).on = true ∧ drbgDue (drbg i.val s) (atInput n s) = true ∧ s.ent.blocks = b :: bs) ∧
    (∃ (n : Nat) (i : Fin 5) (s : State), live s = true ∧ ((drbg i.val s).on = false ∨ drbgDue (drbg i.val s) (atInput n s) = true ∧ s.ent.blocks = [])) ∧
    (∃ (s : State), live s = true ∧ s.ent.blocks = [] ∧ s.ent.dramKeysDue = [] ∧ s.ent.hsVDue = false ∧ s.ent.waits = [] ∧ s.boot.vfuse = false) ∧
    (∃ (s : State), live s = true ∧ s.boot.pf1 = false) ∧
    (∃ (s : State), live s = true ∧ s.boot.pf1 = true ∧ s.ent.running = true) ∧
    (∃ (s : State), live s = true ∧ s.boot.pf1 = true ∧ s.ent.running = false) ∧
    (∃ (n : Nat) (s : State) (b : Bytes) (u : State), let count := 4 * (s.ent.asked.toNat + 1); let ask := drbgRequest 4 false count; live s = true ∧ s.ent.running = true ∧ ask (atInput n s) = some (b, u)) := by
  refine ⟨?_, ?_, ?_, ?_, ?_, ?_, ?_, ?_⟩
  · exact ⟨0, { boot := { pwrgood := true }, ent := { blocks := [] :: [] :: [] } }, [], [], [], by and_intros <;> decide +kernel⟩
  · exact ⟨0, 0, { boot := { pwrgood := true }, ent := { blocks := [] :: [], drbg := [(0, { on := true, reqs := 65536 })] } }, [], [], by and_intros <;> decide +kernel⟩
  · exact ⟨0, 0, { boot := { pwrgood := true } }, by and_intros <;> decide +kernel⟩
  · exact ⟨{ boot := { pwrgood := true } }, by and_intros <;> decide +kernel⟩
  · exact ⟨{ boot := { pwrgood := true } }, by and_intros <;> decide +kernel⟩
  · exact ⟨{ boot := { pwrgood := true, pf1 := true }, ent := { running := true } }, by and_intros <;> decide +kernel⟩
  · exact ⟨{ boot := { pwrgood := true, pf1 := true } }, by and_intros <;> decide +kernel⟩
  · exact ⟨0, { boot := { pwrgood := true }, ent := { running := true, drbg := [(4, { on := true, k := [1], v := [2] })] } }, _, _, by refine ⟨?_, ?_, rfl⟩ <;> decide +kernel⟩

/-- EntropySteps: states and operands that meet the premises of its clauses (part 3 of 3). -/
theorem wit_entropySteps_3 :
    (∃ (n : Nat) (s : State), let count := 4 * (s.ent.asked.toNat + 1); let ask := drbgRequest 4 false count; live s = true ∧ s.ent.running = true ∧ ask (atInput n s) = none) ∧
    (∃ (s : State), let count := 4 * (s.ent.asked.toNat + 1); let ask := drbgRequest 4 false count; live s = true ∧ s.ent.running = true ∧ s.ent.waits = [] ∧ ask (atInput (s.ent.since + 10000000000) s) = none) ∧
    (∃ (s : State), live s = true ∧ s.ent.running = false ∧ s.ent.waits = []) ∧
    (∃ (s : State), live s = true ∧ s.ent.ready = false) ∧
    (∃ (i : Fin 16) (s : State), live s = true ∧ s.ent.ready = true ∧ s.ent.valid = true ∧ i.val ≤ s.ent.asked.toNat ∧ tget false s.ent.outRead i.val = false) ∧
    (∃ (i : Fin 16) (s : State), live s = true ∧ s.ent.ready = true ∧ s.ent.valid = true ∧ i.val ≤ s.ent.asked.toNat ∧ tget false s.ent.outRead i.val = true) ∧
    (∃ (i : Fin 16) (s : State), live s = true ∧ s.ent.ready = true ∧ (s.ent.valid = false ∨ s.ent.asked.toNat < i.val)) := by
  refine ⟨?_, ?_, ?_, ?_, ?_, ?_, ?_⟩
  · exact ⟨0, { boot := { pwrgood := true }, ent := { running := true } }, by and_intros <;> decide +kernel⟩
  · exact ⟨{ boot := { pwrgood := true }, ent := { running := true } }, by and_intros <;> decide +kernel⟩
  · exact ⟨{ boot := { pwrgood := true } }, by and_intros <;> decide +kernel⟩
  · exact ⟨{ boot := { pwrgood := true } }, by and_intros <;> decide +kernel⟩
  · exact ⟨0, { boot := { pwrgood := true }, ent := { ready := true, valid := true } }, by and_intros <;> decide +kernel⟩
  · exact ⟨0, { boot := { pwrgood := true }, ent := { ready := true, valid := true, outRead := [(0, true)] } }, by and_intros <;> decide +kernel⟩
  · exact ⟨0, { boot := { pwrgood := true }, ent := { ready := true } }, by and_intros <;> decide +kernel⟩

/-- EnvelopesToLanes: states and operands that meet the premises of its clauses (part 1 of 3). -/
theorem wit_envelopesToLanes_1 :
    (∃ (s : State), live s = true ∧ s.cnp.inbound = []) ∧
    (∃ (s : State) (e : Entry) (rest : List Entry), live s = true ∧ s.cnp.inbound = e :: rest ∧ s.tmp.erased = true) ∧
    (∃ (s : State) (e : Entry) (rest : List Entry), live s = true ∧ s.cnp.inbound = e :: rest ∧ s.tmp.erased = false ∧ canopyOn s = false) ∧
    (∃ (n : Nat) (s : State) (e : Entry) (rest : List Entry), let recent := List.filter (fun (x : Nat) => decide (max s.now n < x + 10 * psUs)) (tget [] s.cnp.admits e.limb); live s = true ∧ s.cnp.inbound = e :: rest ∧ s.tmp.erased = false ∧ canopyOn s = true ∧ envGood e.frame = true ∧ NoRein e s ∧ s.grv.isolated = false ∧ 160 ≤ recent.length ∧ (ctxIndex (BitVec.toNat e.sensor) s).isSome = true ∧ CnpWf s) ∧
    (∃ (n : Nat) (s : State) (e : Entry) (rest : List Entry), let recent := List.filter (fun (x : Nat) => decide (max s.now n < x + 10 * psUs)) (tget [] s.cnp.admits e.limb); live s = true ∧ s.cnp.inbound = e :: rest ∧ s.tmp.erased = false ∧ canopyOn s = true ∧ envGood e.frame = true ∧ NoRein e s ∧ s.grv.isolated = false ∧ recent.length < 160 ∧ (ctxIndex (BitVec.toNat e.sensor) s).isSome = true ∧ s.cnp.shed = true ∧ fieldBe e.frame 24 1 = 32 ∧ CnpWf s) ∧
    (∃ (n : Nat) (s : State) (e : Entry) (rest : List Entry), let recent := List.filter (fun (x : Nat) => decide (max s.now n < x + 10 * psUs)) (tget [] s.cnp.admits e.limb); live s = true ∧ s.cnp.inbound = e :: rest ∧ s.tmp.erased = false ∧ canopyOn s = true ∧ envGood e.frame = true ∧ NoRein e s ∧ s.grv.isolated = false ∧ recent.length < 160 ∧ (ctxIndex (BitVec.toNat e.sensor) s).isSome = true ∧ (s.cnp.shed = false ∨ fieldBe e.frame 24 1 ≠ 32) ∧ spilling e.limb s = false ∧ shareUsed e.limb s + e.size ≤ shareSize) ∧
    (∃ (l : Fin 4) (s : State), live s = true ∧ (∀ e ∈ s.cnp.entries, e.limb = l.val → dispatchable e s = false)) ∧
    (∃ (l : Fin 4) (s : State) (e : Entry) (r : List Entry), live s = true ∧ s.cnp.entries = e :: r ∧ e.limb = l.val ∧ dispatchable e s = true ∧ (∀ x ∈ r, x.handle ≠ e.handle) ∧ envGood e.frame = false) := by
  refine ⟨?_, ?_, ?_, ?_, ?_, ?_, ?_, ?_⟩
  · exact ⟨{ boot := { pwrgood := true } }, by and_intros <;> decide +kernel⟩
  · exact ⟨{ boot := { pwrgood := true }, cnp := { inbound := {} :: [] }, tmp := { erased := true } }, {}, [], by and_intros <;> decide +kernel⟩
  · exact ⟨{ boot := { pwrgood := true }, cnp := { inbound := {} :: [] } }, {}, [], by and_intros <;> decide +kernel⟩
  · exact ⟨0, { boot := { pwrgood := true }, cnp := { inbound := { frame := [1, 1, 0, 24] ++ List.replicate 44 0 } :: [], admits := [(0, (List.replicate 160 0))] }, grn := { installed := true, grain := { canopy := some { idCount := 64 } } } }, { frame := [1, 1, 0, 24] ++ List.replicate 44 0 }, [], by and_intros <;> first | decide +kernel | (unfold NoRein; decide +kernel) | ((intro c; rcases c with _ | c <;> exact rfl))⟩
  · exact ⟨0, { boot := { pwrgood := true }, cnp := { inbound := { frame := [1, 1, 0, 24] ++ List.replicate 20 0 ++ [0x20] ++ List.replicate 23 0 } :: [], shed := true }, grn := { installed := true, grain := { canopy := some { idCount := 64 } } } }, { frame := [1, 1, 0, 24] ++ List.replicate 20 0 ++ [0x20] ++ List.replicate 23 0 }, [], by and_intros <;> first | decide +kernel | (unfold NoRein; decide +kernel) | ((intro c; rcases c with _ | c <;> exact rfl))⟩
  · exact ⟨0, { boot := { pwrgood := true }, cnp := { inbound := { frame := [1, 1, 0, 24] ++ List.replicate 44 0 } :: [] }, grn := { installed := true, grain := { canopy := some { idCount := 64 } } } }, { frame := [1, 1, 0, 24] ++ List.replicate 44 0 }, [], by and_intros <;> first | decide +kernel | (unfold NoRein; decide +kernel)⟩
  · exact ⟨0, { boot := { pwrgood := true } }, by and_intros <;> decide +kernel⟩
  · exact ⟨0, { boot := { pwrgood := true }, cnp := { entries := {} :: [], st := 3 } }, {}, [], by and_intros <;> decide +kernel⟩

/-- EnvelopesToLanes: states and operands that meet the premises of its clauses (part 2 of 3). -/
theorem wit_envelopesToLanes_2 :
    (∃ (l : Fin 4) (s : State) (e : Entry) (r : List Entry) (i : Nat), let ln := laneOf (bucketOf (BitVec.toNat e.sensor)) s; let x := laneAt ln s; live s = true ∧ s.cnp.entries = e :: r ∧ e.limb = l.val ∧ dispatchable e s = true ∧ (∀ x ∈ r, x.handle ≠ e.handle) ∧ envGood e.frame = true ∧ queuedIndex (BitVec.toNat e.sensor) s = some i ∧ e.retried = false) ∧
    (∃ (l : Fin 4) (s : State) (e : Entry), live s = true ∧ List.filter (fun (e : Entry) => e.limb == l.val ∧ e.place == 0) s.cnp.entries = [e] ∧ shareSize < shareUsed l.val s + e.size) ∧
    (∃ (l : Fin 4) (s : State) (e : Entry), live s = true ∧ List.filter (fun (e : Entry) => e.limb == l.val ∧ e.place == 0) s.cnp.entries = [e] ∧ shareUsed l.val s + e.size ≤ shareSize ∧ CnpWf s) ∧
    (∃ (l : Fin 192) (s : State), live s = true ∧ leafCanIssue l.val s = true) ∧
    (∃ (l : Fin 192) (s : State), live s = true ∧ leafCanIssue l.val s = false) ∧
    (∃ (s : State), live s = true ∧ canopyOn s = false) ∧
    (∃ (s : State), let g := gcan s; let f := fillNow s; live s = true ∧ canopyOn s = true ∧ (s.cnp.level = 3 ∨ s.cnp.level < 3 ∧ f < g.reinMark.getD s.cnp.level 1001) ∧ (s.cnp.level = 0 ∨ g.reinMark.getD (s.cnp.level - 1) 0 ≤ f + g.reinHyst)) ∧
    (∃ (s : State), let g := gcan s; let f := fillNow s; live s = true ∧ canopyOn s = true ∧ s.cnp.level = 0 ∧ g.reinMark.getD 0 1001 ≤ f ∧ f < g.reinMark.getD 1 1001 ∧ g.reinMark.getD 0 0 ≤ f + g.reinHyst) := by
  refine ⟨?_, ?_, ?_, ?_, ?_, ?_, ?_, ?_⟩
  · exact ⟨0, { boot := { pwrgood := true }, cnp := { entries := { frame := [1, 1, 0, 24] ++ List.replicate 44 0 } :: [], st := 3 }, lvs := { leaf := [(0, { released := true })] }, grn := { grain := { canopy := some { idCount := 64 } } } }, { frame := [1, 1, 0, 24] ++ List.replicate 44 0 }, [], 0, by and_intros <;> decide +kernel⟩
  · exact ⟨0, { boot := { pwrgood := true }, cnp := { entries := [{ place := 0, size := 5000000 }] } }, { place := 0, size := 5000000 }, ⟨by decide +kernel, by decide +kernel, by decide +kernel⟩⟩
  · exact ⟨0, { boot := { pwrgood := true }, cnp := { entries := [{ place := 0 }] } }, { place := 0 }, ⟨by decide +kernel, by decide +kernel, by decide +kernel, ⟨by decide +kernel, by decide +kernel, by decide +kernel, by decide +kernel, by decide +kernel, fun c => by rcases c with _ | c <;> rfl⟩⟩⟩
  · exact ⟨0, { boot := { pwrgood := true }, nrg := { boughs := [(0, { power := .running })] }, lvs := { leaf := [(0, { released := true })] } }, by and_intros <;> decide +kernel⟩
  · exact ⟨0, { boot := { pwrgood := true } }, by and_intros <;> decide +kernel⟩
  · exact ⟨{ boot := { pwrgood := true } }, by and_intros <;> decide +kernel⟩
  · exact ⟨{ boot := { pwrgood := true }, grn := { installed := true, grain := { canopy := some { idCount := 64 } } } }, by and_intros <;> decide +kernel⟩
  · exact ⟨{ boot := { pwrgood := true }, grn := { installed := true, grain := { canopy := some { idCount := 64, reinMark := [0] } } } }, by and_intros <;> decide +kernel⟩

/-- EnvelopesToLanes: states and operands that meet the premises of its clauses (part 3 of 3). -/
theorem wit_envelopesToLanes_3 :
    (∃ (n : Nat) (c : Fin 32) (cause : Nat) (a : LossAcc) (s : State) (l : Nat), live s = true ∧ CnpWf s ∧ (chanAt c.val s).loss = [(cause, a)] ∧ cause < 8 ∧ a.count ≠ 0 ∧ a.last = some l ∧ max s.now n < l + psMs) ∧
    (∃ (n : Nat) (c : Fin 32) (cause : Nat) (a : LossAcc) (s : State), live s = true ∧ CnpWf s ∧ (chanAt c.val s).loss = [(cause, a)] ∧ cause < 8 ∧ a.count ≠ 0 ∧ (∀ (l : Nat), a.last = some l → l + psMs ≤ max s.now n) ∧ chanRoom c.val 48 s = true) ∧
    (∃ (c : Fin 32) (cause : Nat) (a : LossAcc) (s : State), live s = true ∧ CnpWf s ∧ (chanAt c.val s).loss = [(cause, a)] ∧ cause < 8 ∧ a.count ≠ 0 ∧ chanRoom c.val 48 s = false) ∧
    (∃ (n : Nat) (s : State) (k : Nat) (d : DropState), live s = true ∧ s.cnp.drops = [(k, d)] ∧ (d.active = false ∨ max s.now n < d.last + 10 * psMs)) ∧
    (∃ (n : Nat) (s : State) (k : Nat) (d : DropState), live s = true ∧ s.cnp.drops = [(k, d)] ∧ d.active = true ∧ d.last + 10 * psMs ≤ max s.now n) := by
  refine ⟨?_, ?_, ?_, ?_, ?_⟩
  · exact ⟨0, 0, 0, { count := 1, last := some 0 }, { boot := { pwrgood := true }, cnp := { chans := [(0, { loss := [(0, { count := 1, last := some 0 })] })] } }, 0, by and_intros <;> first | decide +kernel | ((intro c; rcases c with _ | c <;> exact rfl))⟩
  · exact ⟨1000000000000000, 0, 0, { count := 1, last := none }, { boot := { pwrgood := true }, cnp := { chans := [(0, { loss := [(0, { count := 1, last := none })] })] } }, by and_intros <;> first | decide +kernel | ((intro c; rcases c with _ | c <;> exact rfl))⟩
  · exact ⟨0, 0, { count := 1 }, { boot := { pwrgood := true }, cnp := { chans := [(0, { loss := [(0, { count := 1 })], buf := (List.replicate 1400 {}) })] } }, by and_intros <;> first | decide +kernel | ((intro c; rcases c with _ | c <;> exact rfl))⟩
  · exact ⟨0, { boot := { pwrgood := true }, cnp := { drops := [(0, {})] } }, 0, {}, by and_intros <;> decide +kernel⟩
  · exact ⟨1000000000000, { boot := { pwrgood := true }, cnp := { drops := [(0, { active := true })] } }, 0, { active := true }, by and_intros <;> decide +kernel⟩

/-- EvidenceReports: states and operands that meet the premises of its clauses (part 1 of 2). -/
theorem wit_evidenceReports_1 :
    (∃ (s : State), live s = true ∧ s.boot.pf1 = false) ∧
    (∃ (s : State), live s = true ∧ s.boot.pf1 = true ∧ s.att.job ≠ none) ∧
    (∃ (grove : Bool) (s : State), let need := 64 + 24576 * if (grove && isCrown s) = true then max 1 (groveSize s) else 1; live s = true ∧ s.boot.pf1 = true ∧ s.att.job = none ∧ BitVec.toNat s.att.len < need) ∧
    (∃ (n : Nat) (grove : Bool) (s : State), let need := 64 + 24576 * if (grove && isCrown s) = true then max 1 (groveSize s) else 1; live s = true ∧ s.boot.pf1 = true ∧ s.att.job = none ∧ need ≤ BitVec.toNat s.att.len ∧ max s.now n < waitsSince (max s.now n) s + 10 * psMs) ∧
    (∃ (s : State), let a := s.att; let now := BitVec.toNat s.slt.slot; let due := a.period ≠ 0 ∧ a.lastSlot + BitVec.toNat a.period ≤ now; live s = true ∧ s.nrg.jobs = [] ∧ s.nrg.admitted = [] ∧ ¬due) ∧
    (∃ (n : Nat) (s : State), let u := atInput n s; let a := s.att; let now := BitVec.toNat s.slt.slot; let due := a.period ≠ 0 ∧ a.lastSlot + BitVec.toNat a.period ≤ now; let job := { id := s.nrg.nextJob, kind := 4, c2 := (workEntry s 4).cls == 2, bough := some (attBough s), eUj := (workEntry s 4).eUj, act := JobAct.attest }; live s = true ∧ s.nrg.jobs = [] ∧ s.nrg.admitted = [] ∧ due ∧ admits job u = false) ∧
    (∃ (n : Nat) (s : State), let u := atInput n s; let a := s.att; let now := BitVec.toNat s.slt.slot; let due := a.period ≠ 0 ∧ a.lastSlot + BitVec.toNat a.period ≤ now; let job := { id := s.nrg.nextJob, kind := 4, c2 := (workEntry s 4).cls == 2, bough := some (attBough s), eUj := (workEntry s 4).eUj, act := JobAct.attest }; live s = true ∧ s.nrg.jobs = [] ∧ s.nrg.admitted = [] ∧ due ∧ admits job u = true ∧ a.job ≠ none) ∧
    (∃ (n : Nat) (s : State), let u := atInput n s; let a := s.att; let now := BitVec.toNat s.slt.slot; let need := 64 + 24576 * if (a.grove && isCrown s) = true then max 1 (groveSize s) else 1; let due := a.period ≠ 0 ∧ a.lastSlot + BitVec.toNat a.period ≤ now; let job := { id := s.nrg.nextJob, kind := 4, c2 := (workEntry s 4).cls == 2, bough := some (attBough s), eUj := (workEntry s 4).eUj, act := JobAct.attest }; live s = true ∧ s.nrg.jobs = [] ∧ s.nrg.admitted = [] ∧ due ∧ admits job u = true ∧ a.job = none ∧ BitVec.toNat a.len < need) := by
  refine ⟨?_, ?_, ?_, ?_, ?_, ?_, ?_, ?_⟩
  · exact ⟨{ boot := { pwrgood := true } }, by and_intros <;> decide +kernel⟩
  · exact ⟨{ boot := { pwrgood := true, pf1 := true }, att := { job := some {} } }, by and_intros <;> decide +kernel⟩
  · exact ⟨false, { boot := { pwrgood := true, pf1 := true } }, by and_intros <;> decide +kernel⟩
  · exact ⟨0, false, { boot := { pwrgood := true, pf1 := true }, att := { len := 0x10000 } }, by and_intros <;> decide +kernel⟩
  · exact ⟨{ boot := { pwrgood := true } }, by and_intros <;> decide +kernel⟩
  · exact ⟨0, { boot := { pwrgood := true }, att := { period := 1 }, slt := { slot := 1 }, grn := { grain := { energy := { work := (List.replicate 11 { eUj := 1000000000000 }) } } } }, by and_intros <;> decide +kernel⟩
  · exact ⟨0, { boot := { pwrgood := true }, att := { period := 1, job := some {} }, slt := { slot := 1 } }, by and_intros <;> decide +kernel⟩
  · exact ⟨0, { boot := { pwrgood := true }, att := { period := 1 }, slt := { slot := 1 } }, by and_intros <;> decide +kernel⟩

/-- EvidenceReports: states and operands that meet the premises of its clauses (part 2 of 2). -/
theorem wit_evidenceReports_2 :
    (∃ (n : Nat) (s : State), let u := atInput n s; let a := s.att; let now := BitVec.toNat s.slt.slot; let need := 64 + 24576 * if (a.grove && isCrown s) = true then max 1 (groveSize s) else 1; let due := a.period ≠ 0 ∧ a.lastSlot + BitVec.toNat a.period ≤ now; let job := { id := s.nrg.nextJob, kind := 4, c2 := (workEntry s 4).cls == 2, bough := some (attBough s), eUj := (workEntry s 4).eUj, act := JobAct.attest }; live s = true ∧ s.nrg.jobs = [] ∧ s.nrg.admitted = [] ∧ due ∧ admits job u = true ∧ a.job = none ∧ need ≤ BitVec.toNat a.len ∧ max s.now n < waitsSince (max s.now n) s + 10 * psMs) ∧
    (∃ (s : State) (j : AttJob), let a := s.att; live s = true ∧ a.job = some j ∧ (j.wait ≠ [] ∨ j.built = false ∨ (boughNrg j.bough s).power = BoughPower.frozen)) ∧
    (∃ (s : State) (j : AttJob), let a := s.att; live s = true ∧ a.job = some j ∧ j.wait = [] ∧ j.built = true ∧ (boughNrg j.bough s).power ≠ BoughPower.frozen ∧ s.nrg.admitted = []) ∧
    (∃ (n : Nat) (e : Bool) (f : RingFrame) (s : State) (x : Bytes) (c : Bool), let v := ringIn n e f s; let w := calm (needThaw (attBough v) v); let r := memberReport x c w; RingTaken (Instr.ringEvidenceReq n e f) n e f s ∧ f.body = RingBody.evidenceReq x c ∧ r.2.ent.hungry = false) ∧
    (∃ (n : Nat) (e : Bool) (f : RingFrame) (s : State) (x : Bytes) (c : Bool), RingTaken (Instr.ringEvidenceReq n e f) n e f s ∧ f.body = RingBody.evidenceReq x c ∧ hasDevid s = false) ∧
    (∃ (n : Nat) (e : Bool) (f : RingFrame) (s : State) (x : Bytes) (c : Bool), let v := ringIn n e f s; let w := calm (needThaw (attBough v) v); let r := memberReport x c w; RingTaken (Instr.ringEvidenceReq n e f) n e f s ∧ f.body = RingBody.evidenceReq x c ∧ r.2.ent.hungry = true ∧ max s.now n < waitsSince (max s.now n) s + 10 * psMs) ∧
    (∃ (n : Nat) (e : Bool) (f : RingFrame) (s : State) (d : Bytes) (last : Bool), RingTaken (Instr.ringEvidence n e f) n e f s ∧ f.body = RingBody.evidence d last ∧ s.att.job = none) ∧
    (∃ (n : Nat) (e : Bool) (f : RingFrame) (s : State) (d : Bytes) (last : Bool) (j : AttJob), RingTaken (Instr.ringEvidence n e f) n e f s ∧ f.body = RingBody.evidence d last ∧ s.att.job = some j) := by
  refine ⟨?_, ?_, ?_, ?_, ?_, ?_, ?_, ?_⟩
  · exact ⟨0, { boot := { pwrgood := true }, att := { period := 1, len := 0x10000 }, slt := { slot := 1 } }, by and_intros <;> decide +kernel⟩
  · exact ⟨{ boot := { pwrgood := true }, att := { job := (some {}) } }, {}, by and_intros <;> decide +kernel⟩
  · exact ⟨{ boot := { pwrgood := true }, att := { job := some { built := true } } }, { built := true }, by and_intros <;> decide +kernel⟩
  · exact ⟨0, false, { dst := 1, body := RingBody.evidenceReq [] false }, { boot := { pwrgood := true }, grn := { installed := true, grain := { grove := some [{}, { fuseId := [1] }, { fuseId := [2] }] } }, fuses := { fuseId := [1] }, grv := { east := true, west := true } }, [], false, by and_intros <;> first | decide +kernel | (constructor)⟩
  · exact ⟨0, false, { dst := 1, body := RingBody.evidenceReq [] false }, { boot := { pwrgood := true }, grn := { installed := true, grain := { grove := some [{}, { fuseId := [1] }, { fuseId := [2] }] } }, fuses := { fuseId := [1] }, grv := { east := true, west := true } }, [], false, by and_intros <;> first | decide +kernel | (constructor)⟩
  · exact ⟨0, false, { dst := 1, body := RingBody.evidenceReq [] false }, { boot := { pwrgood := true }, grn := { installed := true, grain := { grove := some [{}, { fuseId := [1] }, { fuseId := [2] }] } }, fuses := { fuseId := [1] }, grv := { east := true, west := true }, vault := { tap := [(3, [1])] } }, [], false, by and_intros <;> first | decide +kernel | (constructor)⟩
  · exact ⟨0, false, { dst := 1, body := RingBody.evidence [] false }, { boot := { pwrgood := true }, grn := { installed := true, grain := { grove := some [{}, { fuseId := [1] }, { fuseId := [2] }] } }, fuses := { fuseId := [1] }, grv := { east := true, west := true } }, [], false, by and_intros <;> first | decide +kernel | (constructor)⟩
  · exact ⟨0, false, { dst := 1, body := RingBody.evidence [] false }, { boot := { pwrgood := true }, grn := { installed := true, grain := { grove := some [{}, { fuseId := [1] }, { fuseId := [2] }] } }, fuses := { fuseId := [1] }, grv := { east := true, west := true }, att := { job := (some {}) } }, [], false, {}, by and_intros <;> first | decide +kernel | (constructor)⟩

/-- GrainSteps: states and operands that meet the premises of its clauses (part 1 of 2). -/
theorem wit_grainSteps_1 :
    (∃ (i3c : Bool) (h : Bytes) (s : State) (c : W16), let p := s.grn.push; let f := if i3c = true then p.i3cFrame else tget { } p.frames 0; MyPush i3c s ∧ s.grn.push.state = 1 ∧ grainBough s ≠ none ∧ f.posted = some (0, h) ∧ headTests h s = some c) ∧
    (∃ (i3c : Bool) (b : Bytes) (s : State), let p := s.grn.push; let k := p.accepted; let f := if i3c = true then p.i3cFrame else tget { } p.frames (k % 256); MyPush i3c s ∧ s.grn.push.state = 2 ∧ grainBough s ≠ none ∧ f.posted = some (k, b) ∧ sha384 b = headDigestOf (tget [] p.staging 0) k) ∧
    (∃ (i3c : Bool) (b : Bytes) (s : State), let p := s.grn.push; let k := p.accepted; let f := if i3c = true then p.i3cFrame else tget { } p.frames (k % 256); MyPush i3c s ∧ s.grn.push.state = 2 ∧ grainBough s ≠ none ∧ f.posted = some (k, b) ∧ sha384 b ≠ headDigestOf (tget [] p.staging 0) k) ∧
    (∃ (n : Nat) (s : State) (c : W16), live s = true ∧ s.grn.push.state = 3 ∧ s.grn.push.result ≠ 4135 ∧ (s.grn.installed = true → s.cnp.st ≠ 1 ∧ s.cnp.st ≠ 2) ∧ grainRefusal (atInput n s) = some c ∧ (c = 4134 → s.grn.push.store = false ∨ s.grn.push.source = 2) ∧ s.grn.push.source ≤ 2) ∧
    (∃ (n : Nat) (s : State), let g := stagedGrain (atInput n s); live s = true ∧ s.grn.push.state = 3 ∧ s.grn.push.result ≠ 4135 ∧ (s.grn.installed = true → s.cnp.st ≠ 1 ∧ s.cnp.st ≠ 2) ∧ grainRefusal (atInput n s) = none ∧ g.svnCommit = true ∧ s.fuses.svn < g.svn ∧ s.boot.vfuse = false) ∧
    (∃ (n : Nat) (s : State), let g := stagedGrain (atInput n s); live s = true ∧ s.grn.push.state = 3 ∧ s.grn.push.result ≠ 4135 ∧ (s.grn.installed = true → s.cnp.st ≠ 1 ∧ s.cnp.st ≠ 2) ∧ grainRefusal (atInput n s) = none ∧ (g.svnCommit = false ∨ g.svn ≤ s.fuses.svn ∨ s.boot.vfuse = true)) ∧
    (∃ (n : Nat) (s : State), let u := atInput n s; live s = true ∧ s.grn.installed = false ∧ grainBough s ≠ none ∧ s.grn.keepTried = false ∧ (¬(1 ≤ s.grn.push.state ∧ s.grn.push.state ≤ 3)) ∧ (s.boot.src = 0 ∨ s.boot.src = 3) ∧ keepCopies u = []) ∧
    (∃ (s : State), live s = true ∧ s.grn.installed = false ∧ grainBough s ≠ none ∧ s.grn.keepTried = false ∧ (¬(1 ≤ s.grn.push.state ∧ s.grn.push.state ≤ 3)) ∧ (s.boot.src = 1 ∨ s.boot.src = 2)) := by
  refine ⟨?_, ?_, ?_, ?_, ?_, ?_, ?_, ?_⟩
  · exact ⟨false, [], { boot := { pwrgood := true, helper := some 0, dramTrained := 1 }, grn := { push := { state := 1, frames := [(0, { posted := some (0, []) })] } } }, 0x1011, by and_intros <;> first | decide +kernel | (unfold MyPush; decide +kernel)⟩
  · exact ⟨false, [], { boot := { pwrgood := true, helper := some 0, dramTrained := 1 }, grn := { push := { state := 2, frames := [(0, { posted := some (0, []) })], staging := [(0, List.replicate 4096 0 ++ sha384 [])] } } }, by and_intros <;> first | decide +kernel | (unfold MyPush; decide +kernel)⟩
  · exact ⟨false, [], { boot := { pwrgood := true, helper := some 0, dramTrained := 1 }, grn := { push := { state := 2, frames := [(0, { posted := some (0, []) })] } } }, by and_intros <;> first | decide +kernel | (unfold MyPush; decide +kernel)⟩
  · exact ⟨0, { boot := { pwrgood := true, helper := some 0 }, grn := { push := { state := 3 } } }, 0x1015, by and_intros <;> decide +kernel⟩
  · exact ⟨0, (wStaged false), ⟨by decide +kernel, by decide +kernel, by decide +kernel, by decide +kernel, test_grainAccepted false, by decide +kernel, by decide +kernel, by decide +kernel⟩⟩
  · exact ⟨0, (wStaged true), ⟨by decide +kernel, by decide +kernel, by decide +kernel, by decide +kernel, test_grainAccepted true, by decide +kernel⟩⟩
  · exact ⟨0, { boot := { pwrgood := true, helper := some 0, dramTrained := 1 } }, by and_intros <;> decide +kernel⟩
  · exact ⟨{ boot := { pwrgood := true, helper := some 0, dramTrained := 1, src := 1 } }, by and_intros <;> decide +kernel⟩

/-- GrainSteps: states and operands that meet the premises of its clauses (part 2 of 2). -/
theorem wit_grainSteps_2 :
    (∃ (s : State), live s = true ∧ s.grn.storeDue = false) ∧
    (∃ (s : State), live s = true ∧ s.grn.storeDue = true ∧ (s.boot.keyless = true ∨ s.tmp.erased = true)) ∧
    (∃ (s : State), live s = true ∧ s.grn.storeDue = true ∧ s.boot.keyless = false ∧ s.tmp.erased = false ∧ (∀ j ∈ s.nrg.admitted, j.act ≠ JobAct.store)) ∧
    (∃ (s : State), live s = true ∧ s.grn.storeDue = true ∧ s.boot.keyless = false ∧ s.tmp.erased = false ∧ (∃ j ∈ s.nrg.admitted, j.act = JobAct.store) ∧ mirrors s = [0, 1] ∧ twf [] s.kpf.m0.pages = true ∧ twf [] s.kpf.m1.pages = true) := by
  refine ⟨?_, ?_, ?_, ?_⟩
  · exact ⟨{ boot := { pwrgood := true, helper := some 0 } }, by and_intros <;> decide +kernel⟩
  · exact ⟨{ boot := { pwrgood := true, keyless := true, helper := some 0 }, grn := { storeDue := true } }, by and_intros <;> decide +kernel⟩
  · exact ⟨{ boot := { pwrgood := true, helper := some 0 }, grn := { storeDue := true } }, by and_intros <;> decide +kernel⟩
  · exact ⟨{ boot := { pwrgood := true, helper := some 0 }, grn := { storeDue := true }, nrg := { admitted := [{ act := .store }] } }, by and_intros <;> decide +kernel⟩

/-- HollowOpenCloseKnock: states and operands that meet the premises of its clauses. -/
theorem wit_hollowOpenCloseKnock :
    (∃ (c : Fin 64) (v : BitVec 32) (s : State), let x := { (hchan c.val s) with notice := v.getLsbD 30, dirOut := v.getLsbD 29, abort := v.getLsbD 28, outside := v.toNat / 2 ^ 22 % 64, leaf := v.toNat / 2 ^ 14 % 256 }; live s = true ∧ s.boot.pf1 = true ∧ (hchan c.val s).open_ = false ∧ HlwOpens c.val x s) ∧
    (∃ (c : Fin 64) (v : BitVec 32) (s : State), let x := { (hchan c.val s) with notice := v.getLsbD 30, dirOut := v.getLsbD 29, abort := v.getLsbD 28, outside := v.toNat / 2 ^ 22 % 64, leaf := v.toNat / 2 ^ 14 % 256 }; live s = true ∧ s.boot.pf1 = true ∧ (hchan c.val s).open_ = false ∧ ¬HlwOpens c.val x s) ∧
    (∃ (c : Fin 64) (s : State), let x := hchan c.val s; live s = true ∧ s.boot.pf1 = true ∧ HlwWf c.val s ∧ x.open_ = true ∧ x.dirOut = false ∧ x.notice = false ∧ x.ackEn = false) ∧
    (∃ (n : Nat) (c : Fin 64) (s : State) (m : HMsg) (r : List HMsg), let x := hchan c.val s; live s = true ∧ x.open_ = true ∧ x.waiting = m :: r ∧ x.timeoutMs ≠ 0 ∧ x.timeoutMs * 1000000000 < max s.now n - m.at_) ∧
    (∃ (n : Nat) (c : Fin 64) (s : State) (m : HMsg) (r : List HMsg), let x := hchan c.val s; live s = true ∧ x.open_ = true ∧ x.waiting = m :: r ∧ x.timeoutMs ≠ 0 ∧ max s.now n - m.at_ ≤ x.timeoutMs * 1000000000) ∧
    (∃ (pf1 : Bool) (s : State), live s = true ∧ if pf1 = true then s.boot.pf1 = true else s.grn.installed = true) := by
  refine ⟨?_, ?_, ?_, ?_, ?_, ?_⟩
  · exact ⟨16, 0x80000000, { boot := { pwrgood := true, pf1 := true }, lvs := { leaf := [(0, { released := true, role := 4 })] } }, by and_intros <;> first | decide +kernel | (unfold HlwOpens; decide +kernel)⟩
  · exact ⟨0, 0, { boot := { pwrgood := true, pf1 := true } }, by and_intros <;> first | decide +kernel | (unfold HlwOpens; decide +kernel)⟩
  · exact ⟨0, { boot := { pwrgood := true, pf1 := true }, hlw := { chan := [(0, { open_ := true })] } }, by and_intros <;> first | decide +kernel | (unfold HlwWf; decide +kernel)⟩
  · exact ⟨2000000000, 0, { boot := { pwrgood := true }, hlw := { chan := [(0, { open_ := true, waiting := {} :: [], timeoutMs := 1 })] } }, {}, [], by and_intros <;> decide +kernel⟩
  · exact ⟨0, 0, { boot := { pwrgood := true }, hlw := { chan := [(0, { open_ := true, waiting := {} :: [], timeoutMs := 1 })] } }, {}, [], by and_intros <;> decide +kernel⟩
  · exact ⟨true, { boot := { pwrgood := true, pf1 := true } }, by and_intros <;> decide +kernel⟩

/-- HollowSendAndTake: states and operands that meet the premises of its clauses (part 1 of 2). -/
theorem wit_hollowSendAndTake_1 :
    (∃ (pf1 : Bool) (c : Fin 64) (s : State), let x := hchan c.val s; HlwMine pf1 c s ∧ HlwWf c.val s ∧ x.open_ = true ∧ x.dirOut = false ∧ x.notice = false ∧ x.waiting.length + x.taken.length + x.acks.length < 8 ∧ hdead x s = false ∧ x.rxEn = false) ∧
    (∃ (pf1 : Bool) (c : Fin 64) (s : State), let x := hchan c.val s; HlwMine pf1 c s ∧ HlwWf c.val s ∧ (x.open_ = false ∨ x.dirOut = true)) ∧
    (∃ (pf1 : Bool) (c : Fin 64) (s : State), let x := hchan c.val s; HlwMine pf1 c s ∧ HlwWf c.val s ∧ x.open_ = true ∧ x.dirOut = false ∧ x.notice = false ∧ 8 ≤ x.waiting.length + x.taken.length + x.acks.length) ∧
    (∃ (pf1 : Bool) (c : Fin 64) (s : State) (m : HMsg) (r : List HMsg), let x := hchan c.val s; HlwMine pf1 c s ∧ HlwWf c.val s ∧ x.open_ = true ∧ x.dirOut = true ∧ x.waiting = m :: r) ∧
    (∃ (pf1 : Bool) (c : Fin 64) (s : State), let x := hchan c.val s; HlwMine pf1 c s ∧ HlwWf c.val s ∧ (x.open_ = false ∨ x.dirOut = false ∨ x.waiting = [])) ∧
    (∃ (pf1 : Bool) (c : Fin 64) (s : State) (q : W16) (code : W16) (r : List (W16 × W16)), let x := hchan c.val s; HlwMine pf1 c s ∧ HlwWf c.val s ∧ x.dirOut = false ∧ x.acks = (q, code) :: r) ∧
    (∃ (pf1 : Bool) (c : Fin 64) (s : State), let x := hchan c.val s; HlwMine pf1 c s ∧ HlwWf c.val s ∧ (x.dirOut = true ∨ x.acks = [])) ∧
    (∃ (pf1 : Bool) (c : Fin 64) (s : State) (q : W16) (r : List W16), let x := hchan c.val s; HlwMine pf1 c s ∧ HlwWf c.val s ∧ x.open_ = true ∧ x.dirOut = true ∧ x.notice = false ∧ x.taken = q :: r ∧ x.ackEn = false) := by
  refine ⟨?_, ?_, ?_, ?_, ?_, ?_, ?_, ?_⟩
  · exact ⟨false, 16, { boot := { pwrgood := true }, hlw := { chan := [(16, { open_ := true })] }, lvs := { leaf := [(0, { released := true })] }, nrg := { boughs := [(0, { power := .running })] }, grn := { installed := true } }, by and_intros <;> first | decide +kernel | (unfold HlwMine; decide +kernel) | (unfold HlwWf; decide +kernel)⟩
  · exact ⟨false, 16, { boot := { pwrgood := true }, grn := { installed := true } }, ⟨(by unfold HlwMine; decide +kernel), (by unfold HlwWf; decide +kernel), by decide +kernel⟩⟩
  · exact ⟨false, 16, { boot := { pwrgood := true }, hlw := { chan := [(16, { open_ := true, waiting := (List.replicate 8 {}) })] }, grn := { installed := true } }, by and_intros <;> first | decide +kernel | (unfold HlwMine; decide +kernel) | (unfold HlwWf; decide +kernel)⟩
  · exact ⟨false, 16, { boot := { pwrgood := true }, hlw := { chan := [(16, { open_ := true, dirOut := true, waiting := {} :: [] })] }, grn := { installed := true } }, {}, [], by and_intros <;> first | decide +kernel | (unfold HlwMine; decide +kernel) | (unfold HlwWf; decide +kernel)⟩
  · exact ⟨false, 16, { boot := { pwrgood := true }, grn := { installed := true } }, ⟨(by unfold HlwMine; decide +kernel), (by unfold HlwWf; decide +kernel), by decide +kernel⟩⟩
  · exact ⟨false, 16, { boot := { pwrgood := true }, hlw := { chan := [(16, { acks := (0, 0) :: [] })] }, grn := { installed := true } }, 0, 0, [], by and_intros <;> first | decide +kernel | (unfold HlwMine; decide +kernel) | (unfold HlwWf; decide +kernel)⟩
  · exact ⟨false, 16, { boot := { pwrgood := true }, hlw := { chan := [(16, { dirOut := true })] }, grn := { installed := true } }, ⟨(by unfold HlwMine; decide +kernel), (by unfold HlwWf; decide +kernel), by decide +kernel⟩⟩
  · exact ⟨false, 16, { boot := { pwrgood := true }, hlw := { chan := [(16, { open_ := true, dirOut := true, taken := (0 :: []) })] }, grn := { installed := true } }, 0, [], by and_intros <;> first | decide +kernel | (unfold HlwMine; decide +kernel) | (unfold HlwWf; decide +kernel)⟩

/-- HollowSendAndTake: states and operands that meet the premises of its clauses (part 2 of 2). -/
theorem wit_hollowSendAndTake_2 :
    ∃ (pf1 : Bool) (c : Fin 64) (s : State) (q : W16), let x := hchan c.val s; HlwMine pf1 c s ∧ HlwWf c.val s ∧ x.open_ = true ∧ x.dirOut = true ∧ x.notice = false ∧ x.taken.head? ≠ some q :=
  ⟨false, 16, { boot := { pwrgood := true }, hlw := { chan := [(16, { open_ := true, dirOut := true })] }, grn := { installed := true } }, 0, by and_intros <;> first | decide +kernel | (unfold HlwMine; decide +kernel) | (unfold HlwWf; decide +kernel)⟩

/-- JournalRows: states and operands that meet the premises of its clauses (part 1 of 3). -/
theorem wit_journalRows_1 :
    (∃ (s : State), let acts := List.filter (actLive s) s.kpf.acts; let v := withKpf ({ s.kpf with acts := acts }) { s with out := [] }; let may := s.kpf.replayed = true ∧ s.boot.keyless = false ∧ s.tmp.erased = false ∧ s.nrg.pfw = false ∧ s.nrg.pending < s.nrg.nMax; live s = true ∧ (¬may ∨ List.find? (actReady v) acts = none)) ∧
    (∃ (s : State) (a : JAct), let acts := List.filter (actLive s) s.kpf.acts; let v := withKpf ({ s.kpf with acts := acts }) { s with out := [] }; let may := s.kpf.replayed = true ∧ s.boot.keyless = false ∧ s.tmp.erased = false ∧ s.nrg.pfw = false ∧ s.nrg.pending < s.nrg.nMax; live s = true ∧ may ∧ List.find? (actReady v) acts = some a) ∧
    (∃ (s : State), s.kpf.prog = none) ∧
    (∃ (b0 : Bytes) (b1 : Bytes) (s : State) (p : Prog) (q : JPage), s.kpf.prog = some p ∧ p.mirrors = [0, 1] ∧ fullPage p.bytes = p.bytes ∧ s.kpf.copying = false ∧ twf [] s.kpf.m0.pages = true ∧ twf [] s.kpf.m1.pages = true ∧ s.kpf.formatDue = [] ∧ p.kind = ProgKind.record ∧ s.kpf.pages = [q] ∧ q.acts = [] ∧ fullPage b0 = p.bytes ∧ fullPage b1 = p.bytes) ∧
    (∃ (b0 : Bytes) (b1 : Bytes) (s : State) (p : Prog) (q : JPage), s.kpf.prog = some p ∧ p.mirrors = [0, 1] ∧ fullPage p.bytes = p.bytes ∧ s.kpf.copying = false ∧ twf [] s.kpf.m0.pages = true ∧ twf [] s.kpf.m1.pages = true ∧ s.kpf.formatDue = [] ∧ p.kind = ProgKind.record ∧ s.kpf.pages = [q] ∧ fullPage b0 ≠ p.bytes ∧ fullPage b1 = p.bytes ∧ s.kpf.fails = [0, 0] ∧ s.kpf.headPage ≤ 14 ∧ s.kpf.degraded = 0 ∧ s.kpf.copyDue = 0) ∧
    (∃ (b0 : Bytes) (b1 : Bytes) (s : State) (p : Prog), s.kpf.prog = some p ∧ p.mirrors = [0, 1] ∧ fullPage p.bytes = p.bytes ∧ s.kpf.copying = false ∧ twf [] s.kpf.m0.pages = true ∧ twf [] s.kpf.m1.pages = true ∧ s.kpf.formatDue = [] ∧ p.kind = ProgKind.header ∧ 65 ≤ s.kpf.freeSectors ∧ fullPage b0 = p.bytes ∧ fullPage b1 = p.bytes) ∧
    (∃ (s : State) (p : Prog), s.kpf.prog = some p ∧ p.mirrors = [0, 1] ∧ fullPage p.bytes = p.bytes ∧ s.kpf.copying = false ∧ twf [] s.kpf.m0.pages = true ∧ twf [] s.kpf.m1.pages = true ∧ s.kpf.formatDue = [] ∧ s.nrg.flush ≠ Flush.pages) ∧
    (∃ (s : State) (p : Prog) (q : JPage), s.kpf.prog = some p ∧ p.mirrors = [0, 1] ∧ fullPage p.bytes = p.bytes ∧ s.kpf.copying = false ∧ twf [] s.kpf.m0.pages = true ∧ twf [] s.kpf.m1.pages = true ∧ s.kpf.formatDue = [] ∧ s.nrg.flush = Flush.pages ∧ p.kind = ProgKind.record ∧ s.kpf.pages = [q]) := by
  refine ⟨?_, ?_, ?_, ?_, ?_, ?_, ?_, ?_⟩
  · exact ⟨{ boot := { pwrgood := true } }, by and_intros <;> decide +kernel⟩
  · exact ⟨{ boot := { pwrgood := true }, kpf := { replayed := true, acts := [.key 0] }, nrg := { nMax := 1 }, vault := { slots := [(0, { mat := [1] })] } }, (.key 0), by and_intros <;> decide +kernel⟩
  · exact ⟨{ boot := { pwrgood := true } }, by decide +kernel⟩
  · exact ⟨[], [], { boot := { pwrgood := true }, kpf := { prog := some { kind := .record, mirrors := [0, 1], bytes := erasedPage }, pages := [{}] } }, { kind := .record, mirrors := [0, 1], bytes := erasedPage }, {}, by and_intros <;> decide +kernel⟩
  · exact ⟨[0], [], { boot := { pwrgood := true }, kpf := { prog := some { kind := .record, mirrors := [0, 1], bytes := erasedPage }, pages := [{}], fails := [0, 0] } }, { kind := .record, mirrors := [0, 1], bytes := erasedPage }, {}, by and_intros <;> decide +kernel⟩
  · exact ⟨[], [], { boot := { pwrgood := true }, kpf := { prog := some { kind := .header, mirrors := [0, 1], bytes := erasedPage }, pages := [{}], freeSectors := 65 } }, { kind := .header, mirrors := [0, 1], bytes := erasedPage }, by and_intros <;> decide +kernel⟩
  · exact ⟨{ boot := { pwrgood := true }, kpf := { prog := some { kind := .record, mirrors := [0, 1], bytes := erasedPage }, pages := [{}] } }, { kind := .record, mirrors := [0, 1], bytes := erasedPage }, by and_intros <;> decide +kernel⟩
  · exact ⟨{ boot := { pwrgood := true }, kpf := { prog := some { kind := .record, mirrors := [0, 1], bytes := erasedPage }, pages := [{}] }, nrg := { flush := Flush.pages } }, { kind := .record, mirrors := [0, 1], bytes := erasedPage }, {}, by and_intros <;> decide +kernel⟩

/-- JournalRows: states and operands that meet the premises of its clauses (part 2 of 3). -/
theorem wit_journalRows_2 :
    (∃ (s : State), live s = true ∧ s.kpf.ckpt = none) ∧
    (∃ (s : State) (c : Ckpt), live s = true ∧ s.kpf.ckpt = some c ∧ s.boot.keyless = false ∧ s.tmp.erased = false) ∧
    (∃ (s : State) (n : Nat) (fl : List Nat), live s = true ∧ s.kpf.burnTo = some (n, fl) ∧ s.boot.vfuse = false) ∧
    (∃ (s : State) (n : Nat) (fl : List Nat), live s = true ∧ s.kpf.burnTo = some (n, fl) ∧ s.boot.vfuse = true ∧ s.kpf.burning = [] ∧ n < 4096) ∧
    (∃ (s : State), live s = true ∧ s.kpf.burnTo = none) ∧
    (∃ (s : State), live s = true ∧ journalShut s = false ∧ s.boot.pf1 = true ∧ s.vault.window.isSome = true ∧ s.kpf.anchorLost = true) ∧
    (∃ (s : State), live s = true ∧ journalShut s = false ∧ (s.boot.pf1 = false ∨ s.vault.window = none ∨ s.kpf.anchorLost = false)) ∧
    (∃ (s : State), live s = true ∧ (s.kpf.replayed = true ∨ s.boot.romRunning = false ∨ s.boot.phase = BootPhase.entropy)) := by
  refine ⟨?_, ?_, ?_, ?_, ?_, ?_, ?_, ?_⟩
  · exact ⟨{ boot := { pwrgood := true } }, by and_intros <;> decide +kernel⟩
  · exact ⟨{ boot := { pwrgood := true }, kpf := { ckpt := (some {}) } }, {}, by and_intros <;> decide +kernel⟩
  · exact ⟨{ boot := { pwrgood := true }, kpf := { burnTo := (some (0, [])) } }, 0, [], by and_intros <;> decide +kernel⟩
  · exact ⟨{ boot := { pwrgood := true, vfuse := true }, kpf := { burnTo := (some (0, [])) } }, 0, [], by and_intros <;> decide +kernel⟩
  · exact ⟨{ boot := { pwrgood := true } }, by and_intros <;> decide +kernel⟩
  · exact ⟨{ boot := { pwrgood := true, pf1 := true }, kpf := { anchorLost := true }, vault := { window := some (0, 0) } }, by and_intros <;> decide +kernel⟩
  · exact ⟨{ boot := { pwrgood := true } }, by and_intros <;> decide +kernel⟩
  · exact ⟨{ boot := { pwrgood := true }, kpf := { replayed := true } }, by and_intros <;> decide +kernel⟩

/-- JournalRows: states and operands that meet the premises of its clauses (part 3 of 3). -/
theorem wit_journalRows_3 :
    (∃ (s : State), let u := deriveJmk (withKpf ({ s.kpf with keylessRead := false, replayed := true }) { s with out := [] }); live s = true ∧ s.kpf.replayed = false ∧ s.boot.romRunning = true ∧ (s.boot.phase = BootPhase.dram ∨ s.boot.phase = BootPhase.helper) ∧ s.boot.keyless = false ∧ s.tmp.erased = false ∧ s.kpf.prog = none ∧ keepFormatted u = false ∧ s.fuses.anchor = 0 ∧ s.kpf.copyDue = 0 ∧ s.kpf.degraded = 0) ∧
    (∃ (s : State), let u := deriveJmk (withKpf ({ s.kpf with keylessRead := false, replayed := true }) { s with out := [] }); live s = true ∧ s.kpf.replayed = false ∧ s.boot.romRunning = true ∧ (s.boot.phase = BootPhase.dram ∨ s.boot.phase = BootPhase.helper) ∧ s.boot.keyless = false ∧ s.tmp.erased = false ∧ s.kpf.prog = none ∧ keepFormatted u = true ∧ (∀ e ∈ usedSectors u, sectorHeld e u = none) ∧ s.fuses.anchor = 0 ∧ s.kpf.copyDue = 0 ∧ s.kpf.ckptSeq = 0) ∧
    (∃ (s : State), live s = true ∧ s.kpf.replayed = false ∧ s.kpf.freeSectors < 32) ∧
    (∃ (s : State), live s = true ∧ s.kpf.replayed = true ∧ s.kpf.freeSectors < 32 ∧ journalShut s = false ∧ s.kpf.ckpt.isSome = true ∧ s.kpf.prog.isSome = true ∧ oldestSector s = none) ∧
    (∃ (s : State) (n : Nat), live s = true ∧ s.kpf.replayed = true ∧ s.kpf.freeSectors < 32 ∧ journalShut s = false ∧ s.kpf.ckpt.isSome = true ∧ s.kpf.prog.isSome = true ∧ oldestSector s = some n ∧ (∀ e ∈ journalRecords s, e.1 / 16 = n → recordLive (journalRecords s) s.kpf.ckptPrev e.2 = false)) ∧
    (∃ (s : State), live s = true ∧ s.kpf.replayed = true ∧ s.kpf.freeSectors < 32 ∧ journalShut s = true) ∧
    (∃ (s : State), let w := workEntry s 3; let j := { id := s.nrg.nextJob, kind := 3, eUj := w.eUj, act := JobAct.compact }; live s = true ∧ 64 ≤ s.kpf.freeSectors ∧ s.nrg.jobs = [] ∧ s.nrg.admitted = [] ∧ ¬FitsBudget s.nrg.pC0 j { s with out := [] }) := by
  refine ⟨?_, ?_, ?_, ?_, ?_, ?_, ?_⟩
  · exact ⟨{ boot := { pwrgood := true, romRunning := true, phase := BootPhase.dram } }, by and_intros <;> decide +kernel⟩
  · exact ⟨wFormatted, ⟨by decide +kernel, by decide +kernel, by decide +kernel, by decide +kernel, by decide +kernel, by decide +kernel, by decide +kernel, wFormatted_formatted, by decide +kernel, by decide +kernel, by decide +kernel, by decide +kernel⟩⟩
  · exact ⟨{ boot := { pwrgood := true } }, by and_intros <;> decide +kernel⟩
  · exact ⟨{ boot := { pwrgood := true }, kpf := { replayed := true, ckpt := some {}, prog := some {} } }, by and_intros <;> decide +kernel⟩
  · exact ⟨wHeld, 1, ⟨by decide +kernel, by decide +kernel, by decide +kernel, by decide +kernel, by decide +kernel, by decide +kernel, wHeld_oldest, (by rw [wHeld_records]; decide)⟩⟩
  · exact ⟨{ boot := { pwrgood := true, keyless := true }, kpf := { replayed := true } }, by and_intros <;> decide +kernel⟩
  · exact ⟨{ boot := { pwrgood := true }, kpf := { freeSectors := 64 }, grn := { grain := { energy := { work := (List.replicate 11 { eUj := 1000000000000 }) } } } }, by and_intros <;> first | decide +kernel | (unfold FitsBudget; decide +kernel)⟩

/-- KeyOperations: states and operands that meet the premises of its clauses (part 1 of 3). -/
theorem wit_keyOperations_1 :
    (∃ (n : BitVec 12) (s : State), KeyIdle s ∧ (n.toNat < 64 ∨ s.vault.wrap.toNat < 64)) ∧
    (∃ (n : BitVec 12) (s : State), KeyIdle s ∧ 64 ≤ n.toNat ∧ 64 ≤ s.vault.wrap.toNat ∧ (slotEmpty n.toNat s = true ∨ slotEmpty s.vault.wrap.toNat s = true)) ∧
    (∃ (n : BitVec 12) (s : State), let wv := vslot s.vault.wrap.toNat s; KeyIdle s ∧ 64 ≤ n.toNat ∧ 64 ≤ s.vault.wrap.toNat ∧ slotEmpty n.toNat s = false ∧ slotEmpty s.vault.wrap.toNat s = false ∧ attrHost wv.attr = false) ∧
    (∃ (n : BitVec 12) (s : State), let v := vslot n.toNat s; let wv := vslot s.vault.wrap.toNat s; KeyIdle s ∧ 64 ≤ n.toNat ∧ 64 ≤ s.vault.wrap.toNat ∧ slotEmpty n.toNat s = false ∧ slotEmpty s.vault.wrap.toNat s = false ∧ attrHost wv.attr = true ∧ (attrExport v.attr = false ∨ attrUsage wv.attr ≠ 2 ∨ attrType wv.attr ≠ 2)) ∧
    (∃ (n : BitVec 12) (s : State), let v := vslot n.toNat s; let wv := vslot s.vault.wrap.toNat s; KeyIdle s ∧ 64 ≤ n.toNat ∧ 64 ≤ s.vault.wrap.toNat ∧ slotEmpty n.toNat s = false ∧ slotEmpty s.vault.wrap.toNat s = false ∧ attrHost wv.attr = true ∧ attrExport v.attr = true ∧ attrUsage wv.attr = 2 ∧ attrType wv.attr = 2 ∧ s.boot.keyless = true ∧ (v.clear = false ∨ wv.clear = false)) ∧
    (∃ (n : BitVec 12) (s : State) (iv : Bytes) (u : State), let v := vslot n.toNat s; let wv := vslot s.vault.wrap.toNat s; let start := calm (withVault ({ s.vault with ready := false, busy := true, buf := [], bufSecret := false, bufRead := [] }) { s with out := [] }); KeyIdle s ∧ 64 ≤ n.toNat ∧ 64 ≤ s.vault.wrap.toNat ∧ slotEmpty n.toNat s = false ∧ slotEmpty s.vault.wrap.toNat s = false ∧ attrHost wv.attr = true ∧ attrExport v.attr = true ∧ attrUsage wv.attr = 2 ∧ attrType wv.attr = 2 ∧ (s.boot.keyless = true → v.clear = true ∧ wv.clear = true) ∧ drbgRequest 4 false 12 start = some (iv, u)) ∧
    (∃ (n : BitVec 12) (s : State), let v := vslot n.toNat s; let wv := vslot s.vault.wrap.toNat s; let start := calm (withVault ({ s.vault with ready := false, busy := true, buf := [], bufSecret := false, bufRead := [] }) { s with out := [] }); KeyIdle s ∧ 64 ≤ n.toNat ∧ 64 ≤ s.vault.wrap.toNat ∧ slotEmpty n.toNat s = false ∧ slotEmpty s.vault.wrap.toNat s = false ∧ attrHost wv.attr = true ∧ attrExport v.attr = true ∧ attrUsage wv.attr = 2 ∧ attrType wv.attr = 2 ∧ (s.boot.keyless = true → v.clear = true ∧ wv.clear = true) ∧ drbgRequest 4 false 12 start = none ∧ s.now < waitsSince s.now s + 10 * psMs) ∧
    (∃ (n : BitVec 12) (s : State), KeyIdle s ∧ n.toNat < 64) := by
  refine ⟨?_, ?_, ?_, ?_, ?_, ?_, ?_, ?_⟩
  · exact ⟨0, { boot := { pwrgood := true } }, ⟨(by unfold KeyIdle; decide +kernel), by decide +kernel⟩⟩
  · exact ⟨64, { boot := { pwrgood := true }, vault := { wrap := 64 } }, by and_intros <;> first | decide +kernel | (unfold KeyIdle; decide +kernel)⟩
  · exact ⟨64, { boot := { pwrgood := true }, vault := { wrap := 64, slots := [(64, { mat := (List.replicate 16 0), attr := 538968064 })] } }, by and_intros <;> first | decide +kernel | (unfold KeyIdle; decide +kernel)⟩
  · exact ⟨64, { boot := { pwrgood := true }, vault := { wrap := 64, slots := [(64, { mat := (List.replicate 16 0), attr := 538984448 })] } }, by and_intros <;> first | decide +kernel | (unfold KeyIdle; decide +kernel)⟩
  · exact ⟨64, { boot := { pwrgood := true, keyless := true }, vault := { wrap := 64, slots := [(64, { mat := (List.replicate 16 0), attr := 539115520 })] } }, by and_intros <;> first | decide +kernel | (unfold KeyIdle; decide +kernel)⟩
  · exact ⟨64, { boot := { pwrgood := true }, vault := { wrap := 64, slots := [(64, { mat := (List.replicate 16 0), attr := 539115520 })] }, ent := { drbg := [(4, { on := true, k := [1], v := [2] })] } }, _, _, by refine ⟨(by unfold KeyIdle; decide +kernel), ?_, ?_, ?_, ?_, ?_, ?_, ?_, ?_, ?_, rfl⟩ <;> decide +kernel⟩
  · exact ⟨64, { boot := { pwrgood := true }, vault := { wrap := 64, slots := [(64, { mat := (List.replicate 16 0), attr := 539115520 })] } }, by and_intros <;> first | decide +kernel | (unfold KeyIdle; decide +kernel)⟩
  · exact ⟨0, { boot := { pwrgood := true } }, ⟨(by unfold KeyIdle; decide +kernel), by decide +kernel⟩⟩

/-- KeyOperations: states and operands that meet the premises of its clauses (part 2 of 3). -/
theorem wit_keyOperations_2 :
    (∃ (n : BitVec 12) (s : State), KeyIdle s ∧ 64 ≤ n.toNat ∧ slotEmpty n.toNat s = true) ∧
    (∃ (n : BitVec 12) (s : State), KeyIdle s ∧ 64 ≤ n.toNat ∧ slotEmpty n.toNat s = false ∧ twf { } s.vault.slots = true ∧ twf { } s.vault.staged = true) ∧
    (∃ (s : State), KeyIdle s) ∧
    (∃ (s : State), let v := s.vault; live s = true ∧ v.ready = false) ∧
    (∃ (s : State), let v := s.vault; live s = true ∧ v.ready = true ∧ v.bufSecret = false) ∧
    (∃ (w : Fin 4096) (s : State), let v := s.vault; live s = true ∧ v.ready = true ∧ v.bufSecret = true ∧ tget false v.bufRead w.val = false) ∧
    (∃ (w : Fin 4096) (s : State), let v := s.vault; live s = true ∧ v.ready = true ∧ v.bufSecret = true ∧ tget false v.bufRead w.val = true) ∧
    (∃ (n : BitVec 12) (s : State), live s = true ∧ oldHeld n.toNat s = true) := by
  refine ⟨?_, ?_, ?_, ?_, ?_, ?_, ?_, ?_⟩
  · exact ⟨64, { boot := { pwrgood := true } }, by and_intros <;> first | decide +kernel | (unfold KeyIdle; decide +kernel)⟩
  · exact ⟨64, { boot := { pwrgood := true }, vault := { slots := [(64, { mat := (List.replicate 16 0), attr := 539115520 })] } }, by and_intros <;> first | decide +kernel | (unfold KeyIdle; decide +kernel)⟩
  · exact ⟨{ boot := { pwrgood := true } }, (by unfold KeyIdle; decide +kernel)⟩
  · exact ⟨{ boot := { pwrgood := true } }, by and_intros <;> decide +kernel⟩
  · exact ⟨{ boot := { pwrgood := true }, vault := { ready := true } }, by and_intros <;> decide +kernel⟩
  · exact ⟨0, { boot := { pwrgood := true }, vault := { ready := true, bufSecret := true } }, by and_intros <;> decide +kernel⟩
  · exact ⟨0, { boot := { pwrgood := true }, vault := { ready := true, bufSecret := true, bufRead := [(0, true)] } }, by and_intros <;> decide +kernel⟩
  · exact ⟨0, { boot := { pwrgood := true }, lvs := { leaf := [(0, { tags := [(0, { req := some { key := some (0, 1) } })] })] } }, by and_intros <;> decide +kernel⟩

/-- KeyOperations: states and operands that meet the premises of its clauses (part 3 of 3). -/
theorem wit_keyOperations_3 :
    (∃ (n : BitVec 12) (s : State), live s = true ∧ oldHeld n.toNat s = false) ∧
    (∃ (n : BitVec 12) (s : State), live s = true ∧ s.kpf.acked.contains (JAct.key n.toNat) = true ∧ (vslot n.toNat s).mat ≠ [] ∧ s.vault.awaiting = [n.toNat] ∧ s.vault.busy = true) ∧
    (∃ (n : BitVec 12) (s : State), live s = true ∧ s.kpf.acked.contains (JAct.key n.toNat) = false) ∧
    (∃ (s : State) (n : Nat) (x : Nat) (r : List (Nat × Nat)), live s = true ∧ s.vault.rewrap = (n, x) :: r ∧ journalShut s = false ∧ s.nrg.jobs = [] ∧ (∃ j ∈ s.nrg.admitted, j.act = JobAct.rewrap) ∧ (∀ j ∈ s.nrg.admitted, j.begun = false → j.act = JobAct.rewrap ∨ j.act = JobAct.none)) ∧
    (∃ (s : State), live s = true ∧ s.vault.rewrap = []) ∧
    (∃ (s : State), live s = true ∧ s.vault.erased = true ∧ twf { } s.vault.slots = true) ∧
    (∃ (s : State), live s = true ∧ s.vault.erased = false) := by
  refine ⟨?_, ?_, ?_, ?_, ?_, ?_, ?_⟩
  · exact ⟨0, { boot := { pwrgood := true } }, by and_intros <;> decide +kernel⟩
  · exact ⟨0, { boot := { pwrgood := true }, vault := { awaiting := [0], busy := true, slots := [(0, { mat := [1] })] }, kpf := { acked := [.key 0] } }, by and_intros <;> decide +kernel⟩
  · exact ⟨0, { boot := { pwrgood := true } }, by and_intros <;> decide +kernel⟩
  · exact ⟨{ boot := { pwrgood := true }, vault := { rewrap := (0, 0) :: [] }, nrg := { admitted := [{ act := .rewrap }] } }, 0, 0, [], by and_intros <;> decide +kernel⟩
  · exact ⟨{ boot := { pwrgood := true } }, by and_intros <;> decide +kernel⟩
  · exact ⟨{ boot := { pwrgood := true }, vault := { erased := true } }, by and_intros <;> decide +kernel⟩
  · exact ⟨{ boot := { pwrgood := true } }, by and_intros <;> decide +kernel⟩

/-- KeyRecovery: states and operands that meet the premises of its clauses. -/
theorem wit_keyRecovery :
    (∃ (n : Nat) (s : State) (c : Bytes) (u : State), let start := calm (withVault ({ s.vault with ready := false, busy := true, buf := [], bufSecret := false, bufRead := [] }) (atInput n s)); KeyIdle s ∧ drbgRequest 4 false 32 start = some (c, u)) ∧
    (∃ (n : Nat) (s : State), let start := calm (withVault ({ s.vault with ready := false, busy := true, buf := [], bufSecret := false, bufRead := [] }) (atInput n s)); KeyIdle s ∧ drbgRequest 4 false 32 start = none ∧ max s.now n < waitsSince (max s.now n) s + 10 * psMs) ∧
    (∃ (s : State) (n : Nat), live s = true ∧ s.ent.running = false ∧ s.ent.waits = [(EntReq.rcvChallenge, n)] ∧ (drbg 4 s).on = false) ∧
    (∃ (s : State), let b := mread 0 s.vault.buf 0 16384; KeyIdle s ∧ rcvTokenOk b s = false) := by
  refine ⟨?_, ?_, ?_, ?_⟩
  · exact ⟨0, { boot := { pwrgood := true }, ent := { drbg := [(4, { on := true, k := [1], v := [2] })] } }, _, _, ⟨(by unfold KeyIdle; decide +kernel), rfl⟩⟩
  · exact ⟨0, { boot := { pwrgood := true } }, by and_intros <;> first | decide +kernel | (unfold KeyIdle; decide +kernel)⟩
  · exact ⟨{ boot := { pwrgood := true }, ent := { waits := [(EntReq.rcvChallenge, 0)] } }, 0, by and_intros <;> decide +kernel⟩
  · exact ⟨{ boot := { pwrgood := true } }, ⟨(by unfold KeyIdle; decide +kernel), by decide +kernel⟩⟩

/-- KeyWrites: states and operands that meet the premises of its clauses. -/
theorem wit_keyWrites :
    (∃ (c : Instr) (replace : Bool) (clear : Bool) (n : BitVec 12) (s : State) (e : W16), let i := keyInput clear s; KeyWrite c replace clear n ∧ KeyIdle s ∧ keyWriteTests replace n.toNat i s = some e) ∧
    (∃ (c : Instr) (replace : Bool) (clear : Bool) (n : BitVec 12) (s : State), KeyWrite c replace clear n ∧ KeyIdle s ∧ clear = true ∧ clearAllowed n.toNat s = false) ∧
    (∃ (c : Instr) (replace : Bool) (clear : Bool) (n : BitVec 12) (s : State), KeyWrite c replace clear n ∧ KeyIdle s ∧ clear = true ∧ clearAllowed n.toNat s = true ∧ n.toNat < 64) ∧
    (∃ (c : Instr) (replace : Bool) (clear : Bool) (n : BitVec 12) (s : State) (e : W16), let i := keyInput clear s; KeyWrite c replace clear n ∧ KeyIdle s ∧ keyWriteTests replace n.toNat i s = none ∧ keyMaterial i s = Except.error e) ∧
    (∃ (c : Instr) (replace : Bool) (clear : Bool) (n : BitVec 12) (s : State) (m : Bytes), let i := keyInput clear s; KeyWrite c replace clear n ∧ KeyIdle s ∧ keyWriteTests replace n.toNat i s = none ∧ keyMaterial i s = Except.ok m ∧ spans i.attr s = false ∧ twf { } s.vault.slots = true ∧ m ≠ [] ∧ replace = false) ∧
    (∃ (c : Instr) (replace : Bool) (clear : Bool) (n : BitVec 12) (s : State) (m : Bytes), let i := keyInput clear s; KeyWrite c replace clear n ∧ KeyIdle s ∧ keyWriteTests replace n.toNat i s = none ∧ keyMaterial i s = Except.ok m ∧ spans i.attr s = false ∧ twf { } s.vault.slots = true ∧ m ≠ [] ∧ replace = true ∧ kcvOf m ≠ s.vault.expectKcv) ∧
    (∃ (c : Instr) (replace : Bool) (clear : Bool) (n : BitVec 12) (s : State) (m : Bytes), let i := keyInput clear s; KeyWrite c replace clear n ∧ KeyIdle s ∧ keyWriteTests replace n.toNat i s = none ∧ keyMaterial i s = Except.ok m ∧ spans i.attr s = false ∧ twf { } s.vault.slots = true ∧ m ≠ [] ∧ replace = true ∧ kcvOf m = s.vault.expectKcv ∧ s.vault.arg = 0) ∧
    (∃ (c : Instr) (replace : Bool) (clear : Bool) (n : BitVec 12) (s : State) (m : Bytes), let i := keyInput clear s; KeyWrite c replace clear n ∧ KeyIdle s ∧ keyWriteTests replace n.toNat i s = none ∧ keyMaterial i s = Except.ok m ∧ spans i.attr s = false ∧ twf { } s.vault.slots = true ∧ m ≠ [] ∧ replace = true ∧ kcvOf m = s.vault.expectKcv ∧ s.vault.arg ≠ 0) := by
  refine ⟨?_, ?_, ?_, ?_, ?_, ?_, ?_, ?_⟩
  · exact ⟨.keyWriteClear 0, false, true, 0, { boot := { pwrgood := true, lcs := .sapling }, grn := { grain := { slotPolicy := wSlots } } }, 0x5008, ⟨by constructor, (by unfold KeyIdle; decide +kernel), by decide +kernel⟩⟩
  · exact ⟨.keyWriteClear 64, false, true, 64, { boot := { pwrgood := true, lcs := .seed }, grn := { grain := { slotPolicy := wSlots } } }, by and_intros <;> first | decide +kernel | (constructor) | (unfold KeyIdle; decide +kernel)⟩
  · exact ⟨.keyWriteClear 0, false, true, 0, { boot := { pwrgood := true, lcs := .sapling }, grn := { grain := { slotPolicy := wSlots } } }, by and_intros <;> first | decide +kernel | (constructor) | (unfold KeyIdle; decide +kernel)⟩
  · exact ⟨.keyImport 64, false, false, 64, { boot := { pwrgood := true, lcs := .sapling }, grn := { grain := { slotPolicy := wSlots } }, vault := { buf := [(8, 1), (11, 16)] } }, _, ⟨by constructor, (by unfold KeyIdle; decide +kernel), by decide +kernel, rfl⟩⟩
  · exact ⟨.keyWriteClear 64, false, true, 64, { boot := { pwrgood := true, lcs := .sapling }, grn := { grain := { slotPolicy := wSlots } }, vault := { buf := [(0, 1), (3, 16), (8, 1)] } }, _, by refine ⟨by constructor, (by unfold KeyIdle; decide +kernel), ?_, rfl, ?_, ?_, ?_, ?_⟩ <;> decide +kernel⟩
  · exact ⟨.keyReplace 64 true, true, true, 64, { boot := { pwrgood := true, lcs := .sapling }, grn := { grain := { slotPolicy := wSlots } }, vault := { buf := [(0, 1), (3, 16), (8, 1)], slots := [(64, { mat := [1], attr := 268435457 })] } }, _, by refine ⟨by constructor, (by unfold KeyIdle; decide +kernel), ?_, rfl, ?_, ?_, ?_, ?_, ?_⟩ <;> decide +kernel⟩
  · exact ⟨.keyReplace 64 true, true, true, 64, { boot := { pwrgood := true, lcs := .sapling }, grn := { grain := { slotPolicy := wSlots } }, vault := { buf := [(0, 1), (3, 16), (8, 1)], expectKcv := kcvOf (1 :: List.replicate 15 0), slots := [(64, { mat := [1], attr := 268435457 })] } }, _, by refine ⟨by constructor, (by unfold KeyIdle; decide +kernel), ?_, rfl, ?_, ?_, ?_, ?_, ?_, ?_⟩ <;> decide +kernel⟩
  · exact ⟨.keyReplace 64 true, true, true, 64, { boot := { pwrgood := true, lcs := .sapling }, grn := { grain := { slotPolicy := wSlots } }, vault := { buf := [(0, 1), (3, 16), (8, 1)], expectKcv := kcvOf (1 :: List.replicate 15 0), arg := 1, slots := [(64, { mat := [1], attr := 268435457 })] } }, _, by refine ⟨by constructor, (by unfold KeyIdle; decide +kernel), ?_, rfl, ?_, ?_, ?_, ?_, ?_, ?_⟩ <;> decide +kernel⟩

/-- LeafCompletionsAct: states and operands that meet the premises of its clauses. -/
theorem wit_leafCompletionsAct :
    (∃ (x : Leaf), twf 0 x.w = true) ∧
    (∃ (f : List (Nat × LeafEff)) (e : LeafEff), inOrder f ∧ (∀ (w : W32), e ≠ LeafEff.mtf w)) ∧
    (∃ (f : List (Nat × LeafEff)) (e : LeafEff), inOrder f ∧ (∃ (w : W32), e = LeafEff.mtf w)) := by
  refine ⟨?_, ?_, ?_⟩
  · exact ⟨{}, by decide +kernel⟩
  · exact ⟨[], .setDz, ⟨by unfold inOrder; decide +kernel, fun w h => by cases h⟩⟩
  · exact ⟨[], (.mtf 0), ⟨by unfold inOrder; decide +kernel, 0, rfl⟩⟩

/-- LeafControlTransfers: states and operands that meet the premises of its clauses. -/
theorem wit_leafControlTransfers :
    ∃ (x : Leaf) (a : BitVec 16), x.pc = a ∧ x.redirects = [] :=
  ⟨{}, 0, by and_intros <;> decide +kernel⟩

/-- LeafLoadResults: states and operands that meet the premises of its clauses. -/
theorem wit_leafLoadResults :
    (∃ (c : Instr) (l : Fin 192) (o : MemOp) (rd : BitVec 5) (rb : BitVec 5) (m : LeafMode) (n : Nat) (ext : Nat → W32) (s : State) (v : Nat) (g : Leaf → Leaf), let u := atIssue l.val s; let x := leafAt l.val u; let ea := (eaOf x rb m).1; IsLoad c l o rd rb m n ext ∧ AtInsn l.val (LInsn.mem o rd rb m) s ∧ loadAt l.val n (BitVec.toNat ea - BitVec.toNat ea % n) u x = some (v, g)) ∧
    (∃ (c : Instr) (l : Fin 192) (o : MemOp) (rd : BitVec 5) (rb : BitVec 5) (m : LeafMode) (n : Nat) (s : State) (g : Leaf → Leaf) (es : List (Nat × LeafEff)), let u := atIssue l.val s; let x := leafAt l.val u; let ea := (eaOf x rb m).1; IsStore c l o rd rb m n ∧ AtInsn l.val (LInsn.mem o rd rb m) s ∧ storeAt (leBytes n (BitVec.toNat (x.reg rd))) (BitVec.toNat ea - BitVec.toNat ea % n) x = some (g, es)) := by
  refine ⟨?_, ?_⟩
  · exact ⟨_, 0, .lw, 1, 0, (.off 0), 4, _, wLeaf 0x40200000 {}, _, _, ⟨⟨rfl, rfl, rfl⟩, ⟨by decide +kernel, by decide +kernel, by decide +kernel⟩, rfl⟩⟩
  · exact ⟨_, 0, .sw, 1, 0, (.off 0), 4, wLeaf 0x54200000 {}, _, _, ⟨⟨rfl, rfl⟩, ⟨by decide +kernel, by decide +kernel, by decide +kernel⟩, rfl⟩⟩

/-- LeafResultsComplete: states and operands that meet the premises of its clauses. -/
theorem wit_leafResultsComplete :
    (∃ (l : Fin 192) (s : State), let x := leafAt l.val s; let due := List.takeWhile (fun (e : Nat × LeafEff) => decide (e.1 ≤ x.cyc)) x.flight; live s = true ∧ leafRuns l.val s = true ∧ boughRuns (boughOfLeaf l.val) s = true ∧ (∀ e ∈ due, (∀ (tw : Bool) (a : Nat) (b : Bytes), e.2 ≠ LeafEff.store tw a b) ∧ ∀ (tw : Bool) (a : Nat) (v : W32), e.2 ≠ LeafEff.swap tw a v)) ∧
    (∃ (l : Fin 192) (s : State) (c : Nat) (a : Nat) (b : Bytes), let x := leafAt l.val s; let due := List.takeWhile (fun (e : Nat × LeafEff) => decide (e.1 ≤ x.cyc)) x.flight; live s = true ∧ leafRuns l.val s = true ∧ boughRuns (boughOfLeaf l.val) s = true ∧ due = [(c, LeafEff.store false a b)] ∧ Memory.wf x.dmem = true ∧ x.timer = none) ∧
    (∃ (l : Fin 192) (s : State) (c : Nat) (a : Nat) (b : Bytes), let x := leafAt l.val s; let due := List.takeWhile (fun (e : Nat × LeafEff) => decide (e.1 ≤ x.cyc)) x.flight; live s = true ∧ leafRuns l.val s = true ∧ boughRuns (boughOfLeaf l.val) s = true ∧ due = [(c, LeafEff.store true a b)] ∧ (∀ e ∈ s.hlw.chan, e.2.open_ = false ∨ e.2.leaf ≠ l.val) ∧ twf [] s.lvs.twig = true ∧ Memory.wf (tget [] s.lvs.twig (l.val / 4)) = true ∧ x.timer = none) := by
  refine ⟨?_, ?_, ?_⟩
  · exact ⟨0, { boot := { pwrgood := true }, nrg := { boughs := [(0, { power := .running })] }, lvs := { leaf := [(0, { released := true })] } }, ⟨by decide +kernel, by decide +kernel, by decide +kernel, fun e h => by cases h⟩⟩
  · exact ⟨0, { boot := { pwrgood := true }, nrg := { boughs := [(0, { power := .running })] }, lvs := { leaf := [(0, { released := true, flight := [(0, .store false 0 [1])] })] } }, 0, 0, [1], by and_intros <;> decide +kernel⟩
  · exact ⟨0, { boot := { pwrgood := true }, nrg := { boughs := [(0, { power := .running })] }, lvs := { leaf := [(0, { released := true, flight := [(0, .store true 0 [1])] })] } }, 0, 0, [1], by and_intros <;> decide +kernel⟩

/-- LeafSwapwResults: states and operands that meet the premises of its clauses. -/
theorem wit_leafSwapwResults :
    (∃ (l : Fin 192) (rd : BitVec 5) (rb : BitVec 5) (i : BitVec 13) (s : State), let u := atIssue l.val s; let x := leafAt l.val u; let ea := (eaOf x rb (LeafMode.off i)).1; let a := BitVec.toNat ea - BitVec.toNat ea % 4; AtInsn l.val (LInsn.swapw rd rb i) s ∧ 1048576 ≤ a ∧ a < 1310720) ∧
    (∃ (l : Fin 192) (rd : BitVec 5) (rb : BitVec 5) (i : BitVec 13) (s : State), let u := atIssue l.val s; let x := leafAt l.val u; let ea := (eaOf x rb (LeafMode.off i)).1; let a := BitVec.toNat ea - BitVec.toNat ea % 4; AtInsn l.val (LInsn.swapw rd rb i) s ∧ a < 65536 ∧ lineGuarded x a false = false ∧ tget 0 x.once (a / 4) = 0 ∧ (∀ e ∈ x.flight, ∀ (v : W32), e.2 ≠ LeafEff.swap false a v)) ∧
    (∃ (l : Fin 192) (rd : BitVec 5) (rb : BitVec 5) (i : BitVec 13) (s : State), let u := atIssue l.val s; let x := leafAt l.val u; let ea := (eaOf x rb (LeafMode.off i)).1; let a := BitVec.toNat ea - BitVec.toNat ea % 4; AtInsn l.val (LInsn.swapw rd rb i) s ∧ (65536 ≤ a ∧ a < 1048576 ∨ 1310720 ≤ a ∧ a < 16777216 ∨ 16781312 ≤ a)) := by
  refine ⟨?_, ?_, ?_⟩
  · exact ⟨0, 1, 1, 0, (wLeaf 0x60210000 { w := [(1, 0x100000)] }), by and_intros <;> first | decide +kernel | exact ⟨by decide +kernel, by decide +kernel, by decide +kernel⟩⟩
  · exact ⟨0, 1, 0, 0, (wLeaf 0x60200000 {}), by and_intros <;> first | decide +kernel | exact ⟨by decide +kernel, by decide +kernel, by decide +kernel⟩⟩
  · exact ⟨0, 1, 1, 0, (wLeaf 0x60210000 { w := [(1, 0x10000)] }), ⟨⟨by decide +kernel, by decide +kernel, by decide +kernel⟩, by decide +kernel⟩⟩

/-- LeafSystemResults: states and operands that meet the premises of its clauses. -/
theorem wit_leafSystemResults :
    (∃ (l : Fin 192) (rd : BitVec 5) (mask : BitVec 16) (s : State), let x := leafAt l.val s; AtInsn l.val (LInsn.wait rd mask) s ∧ x.flight = [] ∧ x.timer = none) ∧
    (∃ (l : Fin 192) (rd : Nat) (mask : W16) (s : State), let x := leafAt l.val s; live s = true ∧ leafRuns l.val s = true ∧ (leafAt l.val s).halted = false ∧ boughRuns (boughOfLeaf l.val) s = true ∧ x.waiting = some (rd, mask) ∧ x.flight = [] ∧ x.timer = none) ∧
    (∃ (l : Fin 192) (d : Nat) (rd : Nat) (mask : W16) (s : State), let x := leafAt l.val s; live s = true ∧ leafRuns l.val s = true ∧ (leafAt l.val s).halted = false ∧ boughRuns (boughOfLeaf l.val) s = true ∧ x.waiting = some (rd, mask) ∧ x.flight = [] ∧ x.timer = some d ∧ x.cyc ≤ d ∧ BitVec.getLsbD mask 1 = true) ∧
    (∃ (l : Fin 192) (d : Nat) (s : State), let x := leafAt l.val s; live s = true ∧ (leafAt l.val s).released = true ∧ x.waiting = none ∧ x.timer = some d ∧ d ≤ x.cyc) := by
  refine ⟨?_, ?_, ?_, ?_⟩
  · exact ⟨0, 1, 2, (wLeaf 0xE8200002 {}), by and_intros <;> first | decide +kernel | exact ⟨by decide +kernel, by decide +kernel, by decide +kernel⟩⟩
  · exact ⟨0, 0, 0, { boot := { pwrgood := true }, nrg := { boughs := [(0, { power := .running })] }, lvs := { leaf := [(0, { released := true, waiting := (some (0, 0)) })] } }, by and_intros <;> decide +kernel⟩
  · exact ⟨0, 0, 0, 2, { boot := { pwrgood := true }, nrg := { boughs := [(0, { power := .running })] }, lvs := { leaf := [(0, { released := true, waiting := (some (0, 2)), timer := (some 0) })] } }, by and_intros <;> decide +kernel⟩
  · exact ⟨0, 0, { boot := { pwrgood := true }, lvs := { leaf := [(0, { released := true, timer := (some 0) })] } }, by and_intros <;> decide +kernel⟩

/-- LifeRequests: states and operands that meet the premises of its clauses (part 1 of 4). -/
theorem wit_lifeRequests_1 :
    (∃ (c : Instr) (v : Bool) (n : Nat) (s : State), LcyRequest c v n ∧ live s = true ∧ v = false ∧ s.boot.pf1 = false) ∧
    (∃ (c : Instr) (v : Bool) (n : Nat) (s : State), LcyRequest c v n ∧ live s = true ∧ (v = true ∨ s.boot.pf1 = true) ∧ s.lcy.busy = true) ∧
    (∃ (v : Bool) (n : Nat) (s : State) (k : Bytes) (t : State), let u := atInput n s; lcyServed v s ∧ s.lcy.busy = false ∧ freshChallenge (withLcy (lcyTaken n s) u) = some (k, t)) ∧
    (∃ (v : Bool) (n : Nat) (s : State), let u := atInput n s; lcyServed v s ∧ s.lcy.busy = false ∧ freshChallenge (withLcy (lcyTaken n s) u) = none) ∧
    (∃ (v : Bool) (s : State), lcyServed v s ∧ s.lcy.busy = false ∧ s.lcy.transChallenge = none) ∧
    (∃ (v : Bool) (s : State) (k : Bytes), let b := lcyBuf 16384 s; let a := fieldLe b 4 1; lcyServed v s ∧ s.lcy.busy = false ∧ s.lcy.transChallenge = some k ∧ (fieldLe b 5 1 ≠ s.boot.lcs.num ∨ a ≤ 5 ∧ lcsAllowed s.boot.lcs.num a = false ∨ a = 1 ∧ v = false ∨ 6 ≤ a ∧ a < 16 ∨ 20 < a ∨ 16 ≤ a ∧ s.boot.lcs ≠ Lcs.grafted)) ∧
    (∃ (v : Bool) (n : Nat) (s : State) (k : Bytes) (e : W16), let u := atInput n s; let b := lcyBuf 16384 s; let x := { (lcyTaken n s) with transChallenge := none }; lcyServed v s ∧ s.lcy.busy = false ∧ s.lcy.transChallenge = some k ∧ tokenTest v b (some k) (withLcy x u) = some e) ∧
    (∃ (v : Bool) (n : Nat) (s : State) (k : Bytes), let u := atInput n s; let b := lcyBuf 16384 s; let x := { (lcyTaken n s) with transChallenge := none }; let a := fieldLe b 4 1; lcyServed v s ∧ s.lcy.busy = false ∧ s.lcy.transChallenge = some k ∧ tokenTest v b (some k) (withLcy x u) = none ∧ a ≤ 5) := by
  refine ⟨?_, ?_, ?_, ?_, ?_, ?_, ?_, ?_⟩
  · exact ⟨.transChallenge false 0, false, 0, { boot := { pwrgood := true } }, by and_intros <;> first | decide +kernel | (constructor)⟩
  · exact ⟨.transChallenge true 0, true, 0, { boot := { pwrgood := true }, lcy := { busy := true } }, by and_intros <;> first | decide +kernel | (constructor)⟩
  · exact ⟨true, 0, { boot := { pwrgood := true }, ent := { drbg := [(4, { on := true, k := [1], v := [2] })] } }, _, _, ⟨(by unfold lcyServed; decide +kernel), by decide +kernel, rfl⟩⟩
  · exact ⟨true, 0, { boot := { pwrgood := true } }, by and_intros <;> first | decide +kernel | (unfold lcyServed; decide +kernel)⟩
  · exact ⟨true, { boot := { pwrgood := true } }, by and_intros <;> first | decide +kernel | (unfold lcyServed; decide +kernel)⟩
  · exact ⟨true, { boot := { pwrgood := true }, lcy := { transChallenge := (some []) } }, [], by and_intros <;> first | decide +kernel | (unfold lcyServed; decide +kernel)⟩
  · exact ⟨true, 0, { boot := { pwrgood := true }, lcy := { transChallenge := (some []) } }, [], 0x6003, by and_intros <;> first | decide +kernel | (unfold lcyServed; decide +kernel)⟩
  · exact ⟨true, 0, { boot := { pwrgood := true, lcs := .seed }, lcy := { transChallenge := (some (List.replicate 32 0)), buf := [(0, 0x4C), (1, 0x43), (2, 0x54), (3, 0x31), (4, 1), (8, 1)] }, fuses := { fuseId := [1], trims := some [] } }, (List.replicate 32 0), by and_intros <;> first | decide +kernel | (unfold lcyServed; decide +kernel)⟩

/-- LifeRequests: states and operands that meet the premises of its clauses (part 2 of 4). -/
theorem wit_lifeRequests_2 :
    (∃ (v : Bool) (n : Nat) (s : State) (l : Nat), lcyServed v s ∧ s.lcy.busy = false ∧ s.lcy.lastResponse = some l ∧ max s.now n < l + 2 * psS) ∧
    (∃ (v : Bool) (n : Nat) (s : State), lcyServed v s ∧ s.lcy.busy = false ∧ (∀ (l : Nat), s.lcy.lastResponse = some l → l + 2 * psS ≤ max s.now n) ∧ s.lcy.dbgChallenge = none) ∧
    (∃ (v : Bool) (n : Nat) (s : State) (e : W16), let u := atInput n s; let b := lcyBuf 16384 s; let x := { (lcyTaken n s) with dbgChallenge := none, lastResponse := some (max s.now n) }; lcyServed v s ∧ s.lcy.busy = false ∧ (∀ (l : Nat), s.lcy.lastResponse = some l → l + 2 * psS ≤ max s.now n) ∧ responseTest b s.lcy.dbgChallenge (withLcy x u) = some e) ∧
    (∃ (v : Bool) (s : State), lcyServed v s ∧ s.lcy.busy = false ∧ s.lcy.unlocked = true) ∧
    (∃ (v : Bool) (s : State), lcyServed v s ∧ s.lcy.busy = false ∧ s.lcy.unlocked = false) ∧
    (∃ (n : Nat) (s : State), live s = true ∧ (s.lcy.busy = false ∨ s.lcy.pending = none ∨ max s.now n < s.lcy.since + 10000000000)) ∧
    (∃ (n : Nat) (s : State) (c : W16), live s = true ∧ s.lcy.busy = true ∧ s.lcy.since + 10000000000 ≤ max s.now n ∧ s.lcy.pending = some (LcyAct.refused c)) ∧
    (∃ (n : Nat) (s : State), live s = true ∧ s.lcy.busy = true ∧ s.lcy.since + 10000000000 ≤ max s.now n ∧ s.lcy.pending = some LcyAct.done) := by
  refine ⟨?_, ?_, ?_, ?_, ?_, ?_, ?_, ?_⟩
  · exact ⟨true, 0, { boot := { pwrgood := true }, lcy := { lastResponse := (some 0) } }, 0, by and_intros <;> first | decide +kernel | (unfold lcyServed; decide +kernel)⟩
  · exact ⟨true, 1000000000000000, { boot := { pwrgood := true } }, by and_intros <;> first | decide +kernel | (unfold lcyServed; decide +kernel)⟩
  · exact ⟨true, 1000000000000000, { boot := { pwrgood := true } }, 0x6012, by and_intros <;> first | decide +kernel | (unfold lcyServed; decide +kernel)⟩
  · exact ⟨true, { boot := { pwrgood := true }, lcy := { unlocked := true } }, by and_intros <;> first | decide +kernel | (unfold lcyServed; decide +kernel)⟩
  · exact ⟨true, { boot := { pwrgood := true } }, by and_intros <;> first | decide +kernel | (unfold lcyServed; decide +kernel)⟩
  · exact ⟨0, { boot := { pwrgood := true } }, by and_intros <;> decide +kernel⟩
  · exact ⟨1000000000000000, { boot := { pwrgood := true }, lcy := { busy := true, pending := (some (LcyAct.refused 0x6003)) } }, 0x6003, by and_intros <;> decide +kernel⟩
  · exact ⟨1000000000000000, { boot := { pwrgood := true }, lcy := { busy := true, pending := (some LcyAct.done) } }, by and_intros <;> decide +kernel⟩

/-- LifeRequests: states and operands that meet the premises of its clauses (part 3 of 4). -/
theorem wit_lifeRequests_3 :
    (∃ (n : Nat) (s : State) (d : Bool) (k : Bytes) (t : State), let u := atInput n s; live s = true ∧ s.lcy.busy = true ∧ s.lcy.since + 10000000000 ≤ max s.now n ∧ s.lcy.pending = some (LcyAct.challenge d) ∧ freshChallenge u = some (k, t)) ∧
    (∃ (n : Nat) (s : State) (d : Bool), let u := atInput n s; live s = true ∧ s.lcy.busy = true ∧ s.lcy.since + 10000000000 ≤ max s.now n ∧ s.lcy.pending = some (LcyAct.challenge d) ∧ freshChallenge u = none) ∧
    (∃ (n : Nat) (s : State) (sc : Nat) (bo : Nat), live s = true ∧ s.lcy.busy = true ∧ s.lcy.since + 10000000000 ≤ max s.now n ∧ s.lcy.pending = some (LcyAct.grant sc bo)) ∧
    (∃ (n : Nat) (s : State) (a : LcyAct), live s = true ∧ s.lcy.busy = true ∧ s.lcy.since + 10000000000 ≤ max s.now n ∧ s.lcy.pending = some a ∧ a.fuses = true ∧ s.boot.vfuse = false) ∧
    (∃ (n : Nat) (copies : Fin 4) (s : State) (a : LcyAct), live s = true ∧ s.lcy.busy = true ∧ s.lcy.since + 10000000000 ≤ max s.now n ∧ s.lcy.pending = some a ∧ a.fuses = true ∧ s.boot.vfuse = true ∧ copies ≠ 3) ∧
    (∃ (n : Nat) (copies : Fin 4) (s : State) (k : Nat) (d : Bytes), live s = true ∧ s.lcy.busy = true ∧ s.lcy.since + 10000000000 ≤ max s.now n ∧ s.lcy.pending = some (LcyAct.fuse k d) ∧ k < 4 ∧ s.boot.vfuse = true ∧ copies = 3 ∧ (s.fuses.hsO.isSome = true ∨ ∃ h ∈ s.fuses.ownerKeys, h ≠ [])) ∧
    (∃ (n : Nat) (copies : Fin 4) (s : State) (k : Nat) (d : Bytes) (h : Bytes) (t : State), let u := atInput n s; live s = true ∧ s.lcy.busy = true ∧ s.lcy.since + 10000000000 ≤ max s.now n ∧ s.lcy.pending = some (LcyAct.fuse k d) ∧ k < 4 ∧ s.boot.vfuse = true ∧ copies = 3 ∧ s.fuses.hsO = none ∧ (∀ x ∈ s.fuses.ownerKeys, x = []) ∧ drbgRequest 4 true 32 u = some (h, t)) ∧
    (∃ (n : Nat) (copies : Fin 4) (s : State) (d : Bytes), live s = true ∧ s.lcy.busy = true ∧ s.lcy.since + 10000000000 ≤ max s.now n ∧ s.lcy.pending = some (LcyAct.fuse 4 d) ∧ s.boot.vfuse = true ∧ copies = 3) := by
  refine ⟨?_, ?_, ?_, ?_, ?_, ?_, ?_, ?_⟩
  · exact ⟨1000000000000000, { boot := { pwrgood := true }, lcy := { busy := true, pending := (some (LcyAct.challenge false)) }, ent := { drbg := [(4, { on := true, k := [1], v := [2] })], blocks := [List.replicate 48 0] } }, false, _, _, by refine ⟨?_, ?_, ?_, ?_, rfl⟩ <;> decide +kernel⟩
  · exact ⟨1000000000000000, { boot := { pwrgood := true }, lcy := { busy := true, pending := (some (LcyAct.challenge false)) } }, false, by and_intros <;> decide +kernel⟩
  · exact ⟨1000000000000000, { boot := { pwrgood := true }, lcy := { busy := true, pending := (some (LcyAct.grant 0 0)) } }, 0, 0, by and_intros <;> decide +kernel⟩
  · exact ⟨1000000000000000, { boot := { pwrgood := true }, lcy := { busy := true, pending := (some (.move 1)) } }, (.move 1), by and_intros <;> decide +kernel⟩
  · exact ⟨1000000000000000, 0, { boot := { pwrgood := true, vfuse := true }, lcy := { busy := true, pending := (some (.move 1)) } }, (.move 1), by and_intros <;> decide +kernel⟩
  · exact ⟨1000000000000000, 3, { boot := { pwrgood := true, vfuse := true }, lcy := { busy := true, pending := (some (LcyAct.fuse 0 [])) }, fuses := { hsO := some [] } }, 0, [], by and_intros <;> decide +kernel⟩
  · exact ⟨1000000000000000, 3, { boot := { pwrgood := true, vfuse := true }, lcy := { busy := true, pending := (some (LcyAct.fuse 0 [])) }, ent := { drbg := [(4, { on := true, k := [1], v := [2] })], blocks := [List.replicate 48 0] } }, 0, [], _, _, by refine ⟨?_, ?_, ?_, ?_, ?_, ?_, ?_, ?_, ?_, rfl⟩ <;> decide +kernel⟩
  · exact ⟨1000000000000000, 3, { boot := { pwrgood := true, vfuse := true }, lcy := { busy := true, pending := (some (LcyAct.fuse 4 [])) } }, [], by and_intros <;> decide +kernel⟩

/-- LifeRequests: states and operands that meet the premises of its clauses (part 4 of 4). -/
theorem wit_lifeRequests_4 :
    (∃ (n : Nat) (copies : Fin 4) (i : StartIn) (s : State), let u := atInput n s; let f := { s.fuses with lcs := [lcsWord 3, lcsWord 3, lcsWord 3] }; live s = true ∧ s.lcy.busy = true ∧ s.lcy.since + 10000000000 ≤ max s.now n ∧ s.lcy.pending = some (LcyAct.move 3) ∧ s.boot.vfuse = true ∧ copies = 3 ∧ s.fuses.lcs = [lcsWord 2, lcsWord 2, lcsWord 2] ∧ PlainStart i 3 { u with fuses := f }) ∧
    (∃ (n : Nat) (s : State), live s = true ∧ (s.tmp.disBusy = true ∨ max s.now n < s.tmp.disAt)) ∧
    (∃ (n : Nat) (s : State) (k : Bytes) (t : State), let u := atInput n s; let x := { s.tmp with disReady := true, disAt := max s.now n + 10 * psMs, buf := [] }; live s = true ∧ s.tmp.disBusy = false ∧ s.tmp.disAt ≤ max s.now n ∧ freshChallenge (calm (withTmp x u)) = some (k, t)) ∧
    (∃ (n : Nat) (s : State), let u := atInput n s; let x := { s.tmp with disReady := true, disAt := max s.now n + 10 * psMs, buf := [] }; live s = true ∧ s.tmp.disBusy = false ∧ s.tmp.disAt ≤ max s.now n ∧ freshChallenge (calm (withTmp x u)) = none ∧ max s.now n < waitsSince (max s.now n) s + 10 * psMs) ∧
    (∃ (n : Nat) (s : State), let u := atInput n s; live s = true ∧ s.tmp.disBusy = false ∧ s.tmp.disAt ≤ max s.now n ∧ disTokenOk (mread 0 s.tmp.buf 0 4096) u = false) ∧
    (∃ (n : Nat) (s : State), live s = true ∧ s.tmp.disBusy = false ∧ s.tmp.disAt ≤ max s.now n ∧ (s.tmp.disChallenge = none ∨ s.boot.lcs ≠ Lcs.sapling ∧ s.boot.lcs ≠ Lcs.grafted)) := by
  refine ⟨?_, ?_, ?_, ?_, ?_, ?_⟩
  · exact ⟨1000000000000000, 3, { strap := 0, mbistOk := true, fuseOk := true }, { boot := { pwrgood := true, vfuse := true }, lcy := { busy := true, pending := (some (LcyAct.move 3)) }, fuses := { lcs := [lcsWord 2, lcsWord 2, lcsWord 2] } }, by and_intros <;> first | decide +kernel | (unfold PlainStart; decide +kernel)⟩
  · exact ⟨0, { boot := { pwrgood := true }, tmp := { disBusy := true } }, by and_intros <;> decide +kernel⟩
  · exact ⟨0, { boot := { pwrgood := true }, ent := { drbg := [(4, { on := true, k := [1], v := [2] })] } }, _, _, by refine ⟨?_, ?_, ?_, rfl⟩ <;> decide +kernel⟩
  · exact ⟨1000000000000000, { boot := { pwrgood := true } }, by and_intros <;> decide +kernel⟩
  · exact ⟨1000000000000000, { boot := { pwrgood := true } }, by and_intros <;> decide +kernel⟩
  · exact ⟨1000000000000000, { boot := { pwrgood := true } }, by and_intros <;> decide +kernel⟩

/-- LinkPorts: states and operands that meet the premises of its clauses (part 1 of 3). -/
theorem wit_linkPorts_1 :
    (∃ (p : Fin 16) (k : Fin 4) (s : State), let x := lport p.val k.val s; live s = true ∧ (portsOn s = false ∨ s.nrg.laneGroups.getLsbD p.val = false ∨ x.up = true ∨ lportCount (gport p.val s).mode ≤ k.val)) ∧
    (∃ (p : Fin 16) (k : Fin 4) (s : State), let x := lport p.val k.val s; live s = true ∧ portsOn s = true ∧ s.nrg.laneGroups.getLsbD p.val = true ∧ x.up = false ∧ k.val < lportCount (gport p.val s).mode) ∧
    (∃ (p : Fin 16) (s : State) (pfc : Bool), live s = true ∧ (gport p.val s).flow = 1 ∧ pfc = false) ∧
    (∃ (p : Fin 16) (s : State) (pfc : Bool), live s = true ∧ ((gport p.val s).flow = 0 ∨ (gport p.val s).flow = 1 ∧ pfc = true ∨ (gport p.val s).flow = 2 ∧ pfc = false)) ∧
    (∃ (p : Fin 16) (k : Fin 4) (s : State) (pfc : Bool), let x := lport p.val k.val s; live s = true ∧ (gport p.val s).flow = 2 ∧ pfc = true ∧ LinkWf p.val s ∧ twf 0 x.pfc = true) ∧
    (∃ (p : Fin 16) (k : Fin 4) (s : State), let x := lport p.val k.val s; live s = true ∧ x.xoff = false ∧ rxpOn (partner p.val s) s = true) ∧
    (∃ (p : Fin 16) (k : Fin 4) (s : State), let x := lport p.val k.val s; live s = true ∧ (x.xoff = true ∨ rxpOn (partner p.val s) s = false) ∧ (gport p.val s).flow = 1) ∧
    (∃ (p : Fin 16) (k : Fin 4) (s : State), let x := lport p.val k.val s; live s = true ∧ x.queue = []) := by
  refine ⟨?_, ?_, ?_, ?_, ?_, ?_, ?_, ?_⟩
  · exact ⟨0, 0, { boot := { pwrgood := true } }, by and_intros <;> decide +kernel⟩
  · exact ⟨0, 0, { boot := { pwrgood := true }, grn := { installed := true, grain := { ports := some [{}] } }, nrg := { laneGroups := 1 } }, by and_intros <;> decide +kernel⟩
  · exact ⟨0, { boot := { pwrgood := true }, grn := { grain := { ports := some [{ flow := 1 }] } } }, false, by and_intros <;> decide +kernel⟩
  · exact ⟨0, { boot := { pwrgood := true } }, false, by and_intros <;> decide +kernel⟩
  · exact ⟨0, 0, { boot := { pwrgood := true }, grn := { grain := { ports := some [{ flow := 2 }] } } }, true, by and_intros <;> first | decide +kernel | ((intro k; rcases k with _ | k <;> exact ⟨rfl, rfl⟩))⟩
  · exact ⟨0, 0, { boot := { pwrgood := true } }, by and_intros <;> decide +kernel⟩
  · exact ⟨0, 0, { boot := { pwrgood := true }, lnk := { ports := [(0, { lports := [(0, { xoff := true })] })] }, grn := { grain := { ports := some [{ flow := 1 }] } } }, by and_intros <;> decide +kernel⟩
  · exact ⟨0, 0, { boot := { pwrgood := true } }, by and_intros <;> decide +kernel⟩

/-- LinkPorts: states and operands that meet the premises of its clauses (part 2 of 3). -/
theorem wit_linkPorts_2 :
    (∃ (n : Nat) (p : Fin 16) (k : Fin 4) (s : State) (f : EgFrame) (rest : List EgFrame), let x := lport p.val k.val s; live s = true ∧ x.queue = f :: rest ∧ (x.up = false ∨ txpOn p.val s = false ∨ max s.now n < x.pausedUntil ∨ max s.now n < tget 0 x.pfc f.prio)) ∧
    (∃ (n : Nat) (p : Fin 16) (k : Fin 4) (s : State) (f : EgFrame) (rest : List EgFrame), let x := lport p.val k.val s; live s = true ∧ x.queue = f :: rest ∧ x.up = true ∧ txpOn p.val s = true ∧ x.pausedUntil ≤ max s.now n ∧ tget 0 x.pfc f.prio ≤ max s.now n ∧ LinkWf p.val s ∧ x.xoff = false ∧ (List.map EgFrame.size rest).sum < xoffAt p.val s ∧ protectedPort p.val s = false) ∧
    (∃ (n : Nat) (p : Fin 16) (k : Fin 4) (s : State) (f : EgFrame) (rest : List EgFrame), let x := lport p.val k.val s; live s = true ∧ x.queue = f :: rest ∧ x.up = true ∧ txpOn p.val s = true ∧ x.pausedUntil ≤ max s.now n ∧ tget 0 x.pfc f.prio ≤ max s.now n ∧ LinkWf p.val s ∧ x.xoff = false ∧ (List.map EgFrame.size rest).sum < xoffAt p.val s ∧ protectedPort p.val s = true ∧ f.plain = false ∧ x.secy.cur = none) ∧
    (∃ (n : Nat) (p : Fin 16) (k : Fin 4) (s : State) (f : EgFrame) (rest : List EgFrame) (sc : Nat) (an : Nat), let x := lport p.val k.val s; let sa := tget { } x.secy.tx (4 * sc + an); live s = true ∧ x.queue = f :: rest ∧ x.up = true ∧ txpOn p.val s = true ∧ x.pausedUntil ≤ max s.now n ∧ tget 0 x.pfc f.prio ≤ max s.now n ∧ LinkWf p.val s ∧ x.xoff = false ∧ (List.map EgFrame.size rest).sum < xoffAt p.val s ∧ protectedPort p.val s = true ∧ f.plain = false ∧ x.secy.cur = some (sc, an) ∧ sa.key ≠ [] ∧ sa.pn < pnEnd (gsecy p.val k.val s).suite ∧ sa.pn + 1 ≠ pnThreshold (gsecy p.val k.val s).suite) ∧
    (∃ (p : Fin 16) (k : Fin 4) (w : Bytes) (s : State), let x := lport p.val k.val s; live s = true ∧ x.up = true ∧ (if protectedPort p.val s = true then 9248 else 9216) < List.length w) ∧
    (∃ (p : Fin 16) (k : Fin 4) (w : Bytes) (s : State), let x := lport p.val k.val s; live s = true ∧ x.up = true ∧ List.length w ≤ (if protectedPort p.val s = true then 9248 else 9216) ∧ slice w 12 2 ≠ [136, 8] ∧ rxpOn p.val s = false ∧ LinkWf p.val s ∧ (List.map (fun (e : Nat × Bytes) => List.length e.2) (List.filter (fun (e : Nat × Bytes) => e.1 == k.val) (portAt p.val s).heldRx)).sum + List.length w ≤ headroom p.val s) ∧
    (∃ (p : Fin 16) (k : Fin 4) (w : Bytes) (s : State), let x := lport p.val k.val s; live s = true ∧ x.up = true ∧ List.length w ≤ (if protectedPort p.val s = true then 9248 else 9216) ∧ slice w 12 2 ≠ [136, 8] ∧ rxpOn p.val s = false ∧ LinkWf p.val s ∧ headroom p.val s < (List.map (fun (e : Nat × Bytes) => List.length e.2) (List.filter (fun (e : Nat × Bytes) => e.1 == k.val) (portAt p.val s).heldRx)).sum + List.length w) ∧
    (∃ (p : Fin 16) (k : Fin 4) (w : Bytes) (s : State), let x := lport p.val k.val s; live s = true ∧ x.up = true ∧ List.length w ≤ (if protectedPort p.val s = true then 9248 else 9216) ∧ slice w 12 2 ≠ [136, 8] ∧ rxpOn p.val s = true ∧ s.slp.state ≠ 0) := by
  refine ⟨?_, ?_, ?_, ?_, ?_, ?_, ?_, ?_⟩
  · exact ⟨0, 0, 0, { boot := { pwrgood := true }, lnk := { ports := [(0, { lports := [(0, { queue := {} :: [] })] })] } }, {}, [], by and_intros <;> decide +kernel⟩
  · exact ⟨1000000000000000, 0, 0, { boot := { pwrgood := true }, lnk := { ports := [(0, { lports := [(0, { queue := {} :: [], up := true })] })] } }, {}, [], by and_intros <;> first | decide +kernel | ((intro k; rcases k with _ | k <;> exact ⟨rfl, rfl⟩))⟩
  · exact ⟨1000000000000000, 0, 0, { boot := { pwrgood := true }, lnk := { ports := [(0, { lports := [(0, { queue := { plain := false } :: [], up := true })] })] }, grn := { grain := { ports := some [{ prot := 1 }] } } }, { plain := false }, [], by and_intros <;> first | decide +kernel | ((intro k; rcases k with _ | k <;> exact ⟨rfl, rfl⟩))⟩
  · exact ⟨1000000000000000, 0, 0, { boot := { pwrgood := true }, lnk := { ports := [(0, { lports := [(0, { queue := { plain := false } :: [], up := true, secy := { cur := (some (0, 0)), tx := [(0, { key := [1] })] } })] })] }, grn := { grain := { ports := some [{ prot := 1 }] } } }, { plain := false }, [], 0, 0, by and_intros <;> first | decide +kernel | ((intro k; rcases k with _ | k <;> exact ⟨rfl, rfl⟩))⟩
  · exact ⟨0, 0, (List.replicate 9300 0), { boot := { pwrgood := true }, lnk := { ports := [(0, { lports := [(0, { up := true })] })] } }, by and_intros <;> decide +kernel⟩
  · exact ⟨0, 0, [], { boot := { pwrgood := true }, lnk := { ports := [(0, { lports := [(0, { up := true })] })] }, dis := [(224, { off := true })] }, by and_intros <;> first | decide +kernel | ((intro k; rcases k with _ | k <;> exact ⟨rfl, rfl⟩))⟩
  · exact ⟨0, 0, [], { boot := { pwrgood := true }, lnk := { ports := [(0, { lports := [(0, { up := true })], heldRx := [(0, List.replicate 28600 0)] })] }, dis := [(224, { off := true })] }, by and_intros <;> first | decide +kernel | ((intro k; rcases k with _ | k <;> exact ⟨rfl, rfl⟩))⟩
  · exact ⟨0, 0, [], { boot := { pwrgood := true }, lnk := { ports := [(0, { lports := [(0, { up := true })] })] }, slp := { state := 1 } }, by and_intros <;> decide +kernel⟩

/-- LinkPorts: states and operands that meet the premises of its clauses (part 3 of 3). -/
theorem wit_linkPorts_3 :
    (∃ (p : Fin 16) (k : Fin 4) (w : Bytes) (s : State), let x := lport p.val k.val s; let f := List.take (List.length w - 4) w; live s = true ∧ x.up = true ∧ List.length w ≤ (if protectedPort p.val s = true then 9248 else 9216) ∧ slice w 12 2 ≠ [136, 8] ∧ rxpOn p.val s = true ∧ List.drop (List.length w - 4) w = leBytes 4 (crc32 f) ∧ s.slp.state = 0 ∧ protectedPort p.val s = true ∧ slice f 12 2 ≠ [136, 142] ∧ slice f 12 2 ≠ [136, 229] ∧ (gsecy p.val k.val s).validate = 0) ∧
    (∃ (p : Fin 16) (k : Fin 4) (w : Bytes) (s : State), let x := lport p.val k.val s; let f := List.take (List.length w - 4) w; let m := tget { } s.lnk.mka (mkaLeafOf p.val k.val s); live s = true ∧ x.up = true ∧ List.length w ≤ (if protectedPort p.val s = true then 9248 else 9216) ∧ slice w 12 2 ≠ [136, 8] ∧ rxpOn p.val s = true ∧ List.drop (List.length w - 4) w = leBytes 4 (crc32 f) ∧ s.slp.state = 0 ∧ protectedPort p.val s = true ∧ slice f 12 2 = [136, 142] ∧ BitVec.toNat (m.head - m.consumed) < 32 ∧ f.length ≤ 2040) ∧
    (∃ (p : Fin 16) (k : Fin 4) (w : Bytes) (s : State) (e : Bytes), let x := lport p.val k.val s; let f := List.take (List.length w - 4) w; live s = true ∧ x.up = true ∧ List.length w ≤ (if protectedPort p.val s = true then 9248 else 9216) ∧ slice w 12 2 ≠ [136, 8] ∧ rxpOn p.val s = true ∧ List.drop (List.length w - 4) w = leBytes 4 (crc32 f) ∧ s.slp.state = 0 ∧ protectedPort p.val s = false ∧ sieveOf p.val k.val f s = some e ∧ fieldBe e 0 1 = 1) ∧
    (∃ (p : Fin 16) (k : Fin 4) (w : Bytes) (s : State) (e : Bytes), let x := lport p.val k.val s; let f := List.take (List.length w - 4) w; live s = true ∧ x.up = true ∧ List.length w ≤ (if protectedPort p.val s = true then 9248 else 9216) ∧ slice w 12 2 ≠ [136, 8] ∧ rxpOn p.val s = true ∧ List.drop (List.length w - 4) w = leBytes 4 (crc32 f) ∧ s.slp.state = 0 ∧ protectedPort p.val s = false ∧ sieveOf p.val k.val f s = some e ∧ fieldBe e 0 1 = 3) ∧
    (∃ (p : Fin 16) (k : Fin 4) (w : Bytes) (s : State) (q : Nat), let x := lport p.val k.val s; let f := List.take (List.length w - 4) w; live s = true ∧ x.up = true ∧ List.length w ≤ (if protectedPort p.val s = true then 9248 else 9216) ∧ slice w 12 2 ≠ [136, 8] ∧ rxpOn p.val s = true ∧ List.drop (List.length w - 4) w = leBytes 4 (crc32 f) ∧ s.slp.state = 0 ∧ protectedPort p.val s = false ∧ sieveOf p.val k.val f s = none ∧ partner p.val s = q ∧ q ≠ p.val ∧ (lport q k.val s).up = true ∧ (gport q s).fwd ≠ 0 ∧ LinkWf q s ∧ (lport q k.val s).fill + f.length + 4 ≤ queueSize q s) ∧
    (∃ (l : Fin 192) (s : State), live s = true ∧ leafCanIssue l.val s = true) ∧
    (∃ (l : Fin 192) (s : State), live s = true ∧ leafCanIssue l.val s = false) := by
  refine ⟨?_, ?_, ?_, ?_, ?_, ?_, ?_⟩
  · exact ⟨0, 0, ([0, 0, 0, 0] : Bytes), { boot := { pwrgood := true }, lnk := { ports := [(0, { lports := [(0, { up := true })] })] }, grn := { grain := { ports := some [{ prot := 1 }] } } }, by and_intros <;> decide +kernel⟩
  · exact ⟨0, 0, ((List.replicate 12 (0 : Byte) ++ [136, 142]) ++ leBytes 4 (crc32 (List.replicate 12 (0 : Byte) ++ [136, 142]))), { boot := { pwrgood := true }, lnk := { ports := [(0, { lports := [(0, { up := true })] })] }, grn := { grain := { ports := some [{ prot := 1 }] } } }, by and_intros <;> decide +kernel⟩
  · exact ⟨0, 0, ((List.replicate 38 (0 : Byte)) ++ leBytes 4 (crc32 (List.replicate 38 (0 : Byte)))), { boot := { pwrgood := true }, lnk := { ports := [(0, { lports := [(0, { up := true })] })] }, grn := { grain := { sieve := { entries := [[([1, 1] ++ List.replicate 30 0)]] } } } }, ([1, 1] ++ List.replicate 30 0), by and_intros <;> decide +kernel⟩
  · exact ⟨0, 0, ((List.replicate 38 (0 : Byte)) ++ leBytes 4 (crc32 (List.replicate 38 (0 : Byte)))), { boot := { pwrgood := true }, lnk := { ports := [(0, { lports := [(0, { up := true })] })] }, grn := { grain := { sieve := { entries := [[([3, 1] ++ List.replicate 30 0)]] } } } }, ([3, 1] ++ List.replicate 30 0), by and_intros <;> decide +kernel⟩
  · exact ⟨0, 0, ([0, 0, 0, 0] : Bytes), { boot := { pwrgood := true }, lnk := { ports := [(0, { lports := [(0, { up := true })] }), (1, { lports := [(0, { up := true })] })] }, grn := { grain := { ports := some [{}, { fwd := 1 }] } } }, 1, by and_intros <;> first | decide +kernel | ((intro k; rcases k with _ | k <;> exact ⟨rfl, rfl⟩))⟩
  · exact ⟨0, { boot := { pwrgood := true }, nrg := { boughs := [(0, { power := .running })] }, lvs := { leaf := [(0, { released := true })] } }, by and_intros <;> decide +kernel⟩
  · exact ⟨0, { boot := { pwrgood := true } }, by and_intros <;> decide +kernel⟩

/-- MailboxAndUpdates: states and operands that meet the premises of its clauses (part 1 of 5). -/
theorem wit_mailboxAndUpdates_1 :
    (∃ (c : Instr) (n : Nat) (d : Fin 32) (fn : Nat) (g : Nat) (a : BitVec 8) (tag : BitVec 16) (b : Bytes) (ext : Bool) (s : State), MbxPut c n d fn g a tag b ext ∧ twf { } s.cus.dom = true ∧ MbxOpen d.val 8 ext s ∧ (List.length b ≠ 64 ∨ (cdom d.val s).flt.mbx.ready = false ∨ max s.now n < (cdom d.val s).flt.mbx.at_)) ∧
    (∃ (c : Instr) (n : Nat) (d : Fin 32) (fn : Nat) (g : Nat) (a : BitVec 8) (tag : BitVec 16) (b : Bytes) (ext : Bool) (s : State), MbxPut c n d fn g a tag b ext ∧ twf { } s.cus.dom = true ∧ MbxOpen d.val 8 ext s ∧ fn = 19 ∧ allZero b = false) ∧
    (∃ (c : Instr) (n : Nat) (d : Fin 32) (fn : Nat) (g : Nat) (a : BitVec 8) (tag : BitVec 16) (b : Bytes) (ext : Bool) (s : State), MbxPut c n d fn g a tag b ext ∧ twf { } s.cus.dom = true ∧ MbxOpen d.val 8 ext s ∧ MbxAccepts n d b ext s ∧ mbxGroup (fltEntry d.val s) g = false ∧ fn ≠ 19 ∧ (fn ≠ 1 ∨ mbxChannel d.val a.toNat s = false ∨ (hchan a.toNat s).dirOut = false)) ∧
    (∃ (c : Instr) (n : Nat) (d : Fin 32) (fn : Nat) (g : Nat) (a : BitVec 8) (tag : BitVec 16) (b : Bytes) (ext : Bool) (s : State), MbxPut c n d fn g a tag b ext ∧ twf { } s.cus.dom = true ∧ MbxOpen d.val 8 ext s ∧ MbxAccepts n d b ext s ∧ mbxGroup (fltEntry d.val s) g = false ∧ fn = 19 ∧ allZero b = true) ∧
    (∃ (n : Nat) (d : Fin 32) (b : Bytes) (ext : Bool) (s : State), let x := cdom d.val s; let e := fltEntry d.val s; twf { } s.cus.dom = true ∧ MbxAccepts n d b ext s ∧ mbxGroup e 1 = true ∧ x.flt.phase = 1) ∧
    (∃ (n : Nat) (d : Fin 32) (b : Bytes) (ext : Bool) (s : State), let x := cdom d.val s; let e := fltEntry d.val s; twf { } s.cus.dom = true ∧ MbxAccepts n d b ext s ∧ mbxGroup e 1 = true ∧ x.flt.phase ≠ 1) ∧
    (∃ (n : Nat) (d : Fin 32) (b : Bytes) (ext : Bool) (s : State), let x := cdom d.val s; let e := fltEntry d.val s; twf { } s.cus.dom = true ∧ MbxAccepts n d b ext s ∧ mbxGroup e 2 = true ∧ (polOnCommand x.pol = false ∨ BitVec.toNat x.svn ≤ cusFloor d.val s)) ∧
    (∃ (n : Nat) (d : Fin 32) (b : Bytes) (ext : Bool) (s : State), let x := cdom d.val s; let e := fltEntry d.val s; twf { } s.cus.dom = true ∧ MbxAccepts n d b ext s ∧ mbxGroup e 2 = true ∧ polOnCommand x.pol = true ∧ cusFloor d.val s < BitVec.toNat x.svn ∧ 4096 ≤ s.fuses.anchor) := by
  refine ⟨?_, ?_, ?_, ?_, ?_, ?_, ?_, ?_⟩
  · exact ⟨.mbxReboot 0 0 0 0 [] true, 0, 0, 0x12, 3, 0, 0, [], true, { boot := { pwrgood := true }, grn := { installed := true, grain := { custody := { domains := [(0, { filter := wFilter })] } } }, cus := { dom := [(0, { st := .running, flt := { phase := 1 } })] } }, by and_intros <;> first | decide +kernel | (constructor <;> decide +kernel) | (unfold MbxOpen FltReady; decide +kernel)⟩
  · exact ⟨.mbxUpdateOpen 0 0 0 0 (List.replicate 64 1) true, 0, 0, 0x13, 4, 0, 0, (List.replicate 64 1), true, { boot := { pwrgood := true }, grn := { installed := true, grain := { custody := { domains := [(0, { filter := wFilter })] } } }, cus := { dom := [(0, { st := .running, flt := { phase := 1 } })] } }, by and_intros <;> first | decide +kernel | (constructor <;> decide +kernel) | (unfold MbxOpen FltReady; decide +kernel)⟩
  · exact ⟨.mbxReboot 0 0 0 0 (List.replicate 64 0) true, 0, 0, 0x12, 3, 0, 0, (List.replicate 64 0), true, { boot := { pwrgood := true }, grn := { installed := true, grain := { custody := { domains := [(0, { filter := (wFilter.set 10 0) })] } } }, cus := { dom := [(0, { st := .running, flt := { phase := 1 } })] } }, by and_intros <;> first | decide +kernel | (constructor <;> decide +kernel) | (unfold MbxOpen FltReady; decide +kernel) | (unfold MbxAccepts MbxOpen FltReady; decide +kernel)⟩
  · exact ⟨.mbxUpdateOpen 0 0 0 0 (List.replicate 64 0) true, 0, 0, 0x13, 4, 0, 0, (List.replicate 64 0), true, { boot := { pwrgood := true }, grn := { installed := true, grain := { custody := { domains := [(0, { filter := (wFilter.set 10 0) })] } } }, cus := { dom := [(0, { st := .running, flt := { phase := 1 } })] } }, by and_intros <;> first | decide +kernel | (constructor <;> decide +kernel) | (unfold MbxOpen FltReady; decide +kernel) | (unfold MbxAccepts MbxOpen FltReady; decide +kernel)⟩
  · exact ⟨0, 0, (List.replicate 64 0), false, { boot := { pwrgood := true }, cus := { dom := [(0, { flt := { phase := 1 }, st := .running })] }, grn := { installed := true, grain := { custody := { domains := [(0, { filter := wFilter })] } } } }, by and_intros <;> first | decide +kernel | (unfold MbxAccepts MbxOpen FltReady; decide +kernel)⟩
  · exact ⟨0, 0, (List.replicate 64 0), false, { boot := { pwrgood := true }, grn := { installed := true, grain := { custody := { domains := [(0, { filter := wFilter })] } } }, cus := { dom := [(0, { st := .running, flt := { phase := 2 } })] } }, by and_intros <;> first | decide +kernel | (unfold MbxAccepts MbxOpen FltReady; decide +kernel)⟩
  · exact ⟨0, 0, (List.replicate 64 0), false, { boot := { pwrgood := true }, grn := { installed := true, grain := { custody := { domains := [(0, { filter := wFilter })] } } }, cus := { dom := [(0, { st := .running, flt := { phase := 1 } })] } }, by and_intros <;> first | decide +kernel | (unfold MbxAccepts MbxOpen FltReady; decide +kernel)⟩
  · exact ⟨0, 0, (List.replicate 64 0), false, { boot := { pwrgood := true }, grn := { installed := true, grain := { custody := { domains := [(0, { filter := wFilter })] } } }, cus := { dom := [(0, { st := .running, flt := { phase := 1 }, pol := [0, 0, 1], svn := 1 })] }, fuses := { anchor := 4096 } }, by and_intros <;> first | decide +kernel | (unfold MbxAccepts MbxOpen FltReady; decide +kernel)⟩

/-- MailboxAndUpdates: states and operands that meet the premises of its clauses (part 2 of 5). -/
theorem wit_mailboxAndUpdates_2 :
    (∃ (n : Nat) (d : Fin 32) (b : Bytes) (ext : Bool) (s : State), let x := cdom d.val s; let e := fltEntry d.val s; twf { } s.cus.dom = true ∧ MbxAccepts n d b ext s ∧ mbxGroup e 2 = true ∧ polOnCommand x.pol = true ∧ cusFloor d.val s < BitVec.toNat x.svn ∧ s.fuses.anchor < 4096 ∧ journalShut s = false) ∧
    (∃ (n : Nat) (d : Fin 32) (b : Bytes) (ext : Bool) (s : State), let e := fltEntry d.val s; twf { } s.cus.dom = true ∧ MbxAccepts n d b ext s ∧ mbxGroup e 3 = true ∧ cusConfigured d.val s = true ∧ cusPushOpen s = false) ∧
    (∃ (n : Nat) (d : Fin 32) (b : Bytes) (ext : Bool) (s : State), let e := fltEntry d.val s; twf { } s.cus.dom = true ∧ MbxAccepts n d b ext s ∧ mbxGroup e 3 = true ∧ cusConfigured d.val s = false) ∧
    (∃ (n : Nat) (d : Fin 32) (a : BitVec 8) (b : Bytes) (ext : Bool) (s : State), let x := cdom d.val s; let e := fltEntry d.val s; twf { } s.cus.dom = true ∧ MbxAccepts n d b ext s ∧ mbxGroup e 4 = true ∧ allZero b = true ∧ x.flt.phase = 2 ∧ x.upd.st = 0 ∧ a.toNat ≤ 1 ∧ x.src ≠ a.toNat) ∧
    (∃ (n : Nat) (d : Fin 32) (a : BitVec 8) (b : Bytes) (ext : Bool) (s : State), let x := cdom d.val s; let e := fltEntry d.val s; twf { } s.cus.dom = true ∧ MbxAccepts n d b ext s ∧ mbxGroup e 4 = true ∧ allZero b = true ∧ (x.flt.phase ≠ 2 ∨ x.upd.st ≠ 0 ∨ 1 < a.toNat ∨ x.src = a.toNat)) ∧
    (∃ (n : Nat) (d : Fin 32) (b : Bytes) (ext : Bool) (s : State), let x := cdom d.val s; let e := fltEntry d.val s; twf { } s.cus.dom = true ∧ MbxAccepts n d b ext s ∧ mbxGroup e 4 = true ∧ x.upd.st = 2) ∧
    (∃ (n : Nat) (d : Fin 32) (b : Bytes) (ext : Bool) (s : State), let e := fltEntry d.val s; twf { } s.cus.dom = true ∧ MbxAccepts n d b ext s ∧ mbxGroup e 5 = true) ∧
    (∃ (n : Nat) (d : Fin 32) (a : BitVec 8) (b : Bytes) (ext : Bool) (s : State), let e := fltEntry d.val s; twf { } s.cus.dom = true ∧ MbxAccepts n d b ext s ∧ mbxGroup e 0 = true ∧ mbxChannel d.val a.toNat s = false) := by
  refine ⟨?_, ?_, ?_, ?_, ?_, ?_, ?_, ?_⟩
  · exact ⟨0, 0, (List.replicate 64 0), false, { boot := { pwrgood := true }, grn := { installed := true, grain := { custody := { domains := [(0, { filter := wFilter })] } } }, cus := { dom := [(0, { st := .running, flt := { phase := 1 }, pol := [0,0,1], svn := 1 })] } }, by and_intros <;> first | decide +kernel | (unfold MbxAccepts MbxOpen FltReady; decide +kernel)⟩
  · exact ⟨0, 0, (List.replicate 64 0), false, { boot := { pwrgood := true }, grn := { installed := true, grain := { custody := { domains := [(0, { policy := [0], filter := wFilter })] } } }, cus := { dom := [(0, { st := .running, flt := { phase := 1 } })] } }, by and_intros <;> first | decide +kernel | (unfold MbxAccepts MbxOpen FltReady; decide +kernel)⟩
  · exact ⟨0, 0, (List.replicate 64 0), false, { boot := { pwrgood := true }, grn := { installed := true, grain := { custody := { domains := [(0, { filter := wFilter })] } } }, cus := { dom := [(0, { st := .running, flt := { phase := 1 } })] } }, by and_intros <;> first | decide +kernel | (unfold MbxAccepts MbxOpen FltReady; decide +kernel)⟩
  · exact ⟨0, 0, 1, (List.replicate 64 0), false, { boot := { pwrgood := true }, cus := { dom := [(0, { flt := { phase := 2 }, st := .running })] }, grn := { installed := true, grain := { custody := { domains := [(0, { filter := wFilter })] } } } }, by and_intros <;> first | decide +kernel | (unfold MbxAccepts MbxOpen FltReady; decide +kernel)⟩
  · exact ⟨0, 0, 0, (List.replicate 64 0), false, { boot := { pwrgood := true }, grn := { installed := true, grain := { custody := { domains := [(0, { filter := wFilter })] } } }, cus := { dom := [(0, { st := .running, flt := { phase := 1 } })] } }, by and_intros <;> first | decide +kernel | (unfold MbxAccepts MbxOpen FltReady; decide +kernel)⟩
  · exact ⟨0, 0, (List.replicate 64 0), false, { boot := { pwrgood := true }, cus := { dom := [(0, { upd := { st := 2 }, st := .running, flt := { phase := 1 } })] }, grn := { installed := true, grain := { custody := { domains := [(0, { filter := wFilter })] } } } }, by and_intros <;> first | decide +kernel | (unfold MbxAccepts MbxOpen FltReady; decide +kernel)⟩
  · exact ⟨0, 0, (List.replicate 64 0), false, { boot := { pwrgood := true }, grn := { installed := true, grain := { custody := { domains := [(0, { filter := wFilter })] } } }, cus := { dom := [(0, { st := .running, flt := { phase := 1 } })] } }, by and_intros <;> first | decide +kernel | (unfold MbxAccepts MbxOpen FltReady; decide +kernel)⟩
  · exact ⟨0, 0, 0, (List.replicate 64 0), false, { boot := { pwrgood := true }, grn := { installed := true, grain := { custody := { domains := [(0, { filter := wFilter })] } } }, cus := { dom := [(0, { st := .running, flt := { phase := 1 } })] } }, by and_intros <;> first | decide +kernel | (unfold MbxAccepts MbxOpen FltReady; decide +kernel)⟩

/-- MailboxAndUpdates: states and operands that meet the premises of its clauses (part 3 of 5). -/
theorem wit_mailboxAndUpdates_3 :
    (∃ (n : Nat) (d : Fin 32) (a : BitVec 8) (b : Bytes) (ext : Bool) (s : State), let e := fltEntry d.val s; twf { } s.cus.dom = true ∧ MbxAccepts n d b ext s ∧ mbxGroup e 0 = true ∧ mbxChannel d.val a.toNat s = true ∧ (hchan a.toNat s).dirOut = false) ∧
    (∃ (n : Nat) (d : Fin 32) (ext : Bool) (s : State), let m := (cdom d.val s).flt.mbx; twf { } s.cus.dom = true ∧ MbxOpen d.val 9 ext s ∧ m.ready = true ∧ m.at_ ≤ max s.now n) ∧
    (∃ (n : Nat) (d : Fin 32) (ext : Bool) (s : State), let m := (cdom d.val s).flt.mbx; twf { } s.cus.dom = true ∧ MbxOpen d.val 9 ext s ∧ (m.ready = false ∨ max s.now n < m.at_)) ∧
    (∃ (d : Fin 32) (ext : Bool) (s : State) (k : BitVec 8), twf { } s.cus.dom = true ∧ MbxOpen d.val 9 ext s ∧ (mbxGroup (fltEntry d.val s) 6 = false ∨ mbxChannel d.val k.toNat s = false)) ∧
    (∃ (d : Fin 32) (ext : Bool) (s : State) (k : BitVec 8), twf { } s.cus.dom = true ∧ MbxOpen d.val 9 ext s ∧ mbxGroup (fltEntry d.val s) 6 = true ∧ mbxChannel d.val k.toNat s = true ∧ (hchan k.toNat s).dirOut = true ∧ (hchan k.toNat s).open_ = false) ∧
    (∃ (n : Nat) (d : Fin 32) (ext : Bool) (s : State) (k : BitVec 8) (q : HMsg) (t : State), let v := mbxTaken n d s; twf { } s.cus.dom = true ∧ MbxOpen d.val 9 ext s ∧ mbxGroup (fltEntry d.val s) 6 = true ∧ mbxChannel d.val k.toNat s = true ∧ (hchan k.toNat s).dirOut = true ∧ (hchan k.toNat s).open_ = true ∧ hTake k.toNat v = some (q, t)) ∧
    (∃ (s : State), live s = true ∧ twf { } s.cus.dom = true ∧ s.boot.pf1 = false) ∧
    (∃ (d : Fin 32) (target : Bool) (s : State), let x := cdom d.val s; live s = true ∧ twf { } s.cus.dom = true ∧ s.boot.pf1 = true ∧ x.flt.phase = 2 ∧ x.upd.st = 0 ∧ x.src ≠ b2n target) := by
  refine ⟨?_, ?_, ?_, ?_, ?_, ?_, ?_, ?_⟩
  · exact ⟨0, 0, 16, (List.replicate 64 0), false, { boot := { pwrgood := true }, grn := { installed := true, grain := { custody := { domains := [(0, { filter := wFilter })] } } }, cus := { dom := [(0, { st := .running, flt := { phase := 1 } })] }, hlw := { chan := [(16, { outside := 2 })] } }, by and_intros <;> first | decide +kernel | (unfold MbxAccepts MbxOpen FltReady; decide +kernel)⟩
  · exact ⟨1000000000000000, 0, false, { boot := { pwrgood := true }, cus := { dom := [(0, { flt := { mbx := { ready := true }, phase := 1 }, st := .running })] }, grn := { installed := true, grain := { custody := { domains := [(0, { filter := wFilter })] } } }, hlw := { chan := [(16, { outside := 2 })] } }, by and_intros <;> first | decide +kernel | (unfold MbxOpen FltReady; decide +kernel)⟩
  · exact ⟨0, 0, false, { boot := { pwrgood := true }, grn := { installed := true, grain := { custody := { domains := [(0, { filter := wFilter })] } } }, cus := { dom := [(0, { st := .running, flt := { phase := 1, mbx := { ready := false } } })] } }, by and_intros <;> first | decide +kernel | (unfold MbxOpen FltReady; decide +kernel)⟩
  · exact ⟨0, false, { boot := { pwrgood := true }, grn := { installed := true, grain := { custody := { domains := [(0, { filter := wFilter })] } } }, cus := { dom := [(0, { st := .running, flt := { phase := 1 } })] } }, 0, by and_intros <;> first | decide +kernel | (unfold MbxOpen FltReady; decide +kernel)⟩
  · exact ⟨0, false, { boot := { pwrgood := true }, hlw := { chan := [(16, { dirOut := true, outside := 2 })] }, grn := { installed := true, grain := { custody := { domains := [(0, { filter := wFilter })] } } }, cus := { dom := [(0, { st := .running, flt := { phase := 1 } })] } }, 16, by and_intros <;> first | decide +kernel | (unfold MbxOpen FltReady; decide +kernel)⟩
  · exact ⟨0, 0, false, { boot := { pwrgood := true }, hlw := { chan := [(16, { outside := 2, dirOut := true, open_ := true, waiting := [{}] })] }, grn := { installed := true, grain := { custody := { domains := [(0, { filter := wFilter })] } } }, cus := { dom := [(0, { st := .running, flt := { phase := 1 } })] } }, 16, {}, _, by refine ⟨?_, (by unfold MbxOpen FltReady; decide +kernel), ?_, ?_, ?_, ?_, rfl⟩ <;> decide +kernel⟩
  · exact ⟨{ boot := { pwrgood := true }, grn := { installed := true, grain := { custody := { domains := [(0, { filter := wFilter })] } } }, cus := { dom := [(0, { st := .running, flt := { phase := 1 } })] } }, by and_intros <;> decide +kernel⟩
  · exact ⟨0, true, { boot := { pwrgood := true, pf1 := true }, cus := { dom := [(0, { flt := { phase := 2 }, st := .running })] }, grn := { installed := true, grain := { custody := { domains := [(0, { filter := wFilter })] } } } }, by and_intros <;> decide +kernel⟩

/-- MailboxAndUpdates: states and operands that meet the premises of its clauses (part 4 of 5). -/
theorem wit_mailboxAndUpdates_4 :
    (∃ (d : Fin 32) (target : Bool) (s : State), let x := cdom d.val s; live s = true ∧ twf { } s.cus.dom = true ∧ s.boot.pf1 = true ∧ (x.flt.phase ≠ 2 ∨ x.upd.st ≠ 0 ∨ x.src = b2n target)) ∧
    (∃ (d : Fin 32) (s : State), let x := cdom d.val s; live s = true ∧ twf { } s.cus.dom = true ∧ s.boot.pf1 = true ∧ x.upd.st = 2) ∧
    (∃ (d : Fin 32) (s : State), let x := cdom d.val s; let b := x.upd.bytes; let h := hdrOf b; live s = true ∧ twf { } s.cus.dom = true ∧ s.boot.pf1 = true ∧ x.upd.st = 1 ∧ x.upd.sigDue = false ∧ (List.length b < 512 ∨ List.length b < h.imageLen)) ∧
    (∃ (d : Fin 32) (s : State), let x := cdom d.val s; let b := x.upd.bytes; let h := hdrOf b; live s = true ∧ twf { } s.cus.dom = true ∧ s.boot.pf1 = true ∧ x.upd.st = 1 ∧ x.upd.sigDue = false ∧ 512 ≤ List.length b ∧ h.imageLen ≤ List.length b ∧ x.upd.sigOk = false) ∧
    (∃ (d : Fin 32) (s : State), let x := cdom d.val s; let b := x.upd.bytes; let h := hdrOf b; live s = true ∧ twf { } s.cus.dom = true ∧ s.boot.pf1 = true ∧ x.upd.st = 1 ∧ x.upd.sigDue = false ∧ 512 ≤ List.length b ∧ h.imageLen ≤ List.length b ∧ x.upd.sigOk = true ∧ cusFloor d.val s ≤ h.svn) ∧
    (∃ (d : Fin 32) (s : State), let x := cdom d.val s; live s = true ∧ twf { } s.cus.dom = true ∧ s.boot.pf1 = true ∧ x.upd.st = 1 ∧ x.upd.sigDue = true) ∧
    (∃ (d : Fin 32) (s : State), let x := cdom d.val s; live s = true ∧ twf { } s.cus.dom = true ∧ (cusBoughRuns d.val s = false ∨ x.closed = [] ∧ x.upd.sigDue = false)) ∧
    (∃ (d : Fin 32) (s : State) (u : Upd) (r : List Upd), let x := cdom d.val s; live s = true ∧ twf { } s.cus.dom = true ∧ cusBoughRuns d.val s = true ∧ x.closed = u :: r) := by
  refine ⟨?_, ?_, ?_, ?_, ?_, ?_, ?_, ?_⟩
  · exact ⟨0, false, { boot := { pwrgood := true, pf1 := true }, grn := { installed := true, grain := { custody := { domains := [(0, { filter := wFilter })] } } }, cus := { dom := [(0, { st := .running, flt := { phase := 1 } })] } }, by and_intros <;> decide +kernel⟩
  · exact ⟨0, { boot := { pwrgood := true, pf1 := true }, cus := { dom := [(0, { upd := { st := 2 }, st := .running, flt := { phase := 1 } })] }, grn := { installed := true, grain := { custody := { domains := [(0, { filter := wFilter })] } } } }, by and_intros <;> decide +kernel⟩
  · exact ⟨0, { boot := { pwrgood := true, pf1 := true }, cus := { dom := [(0, { upd := { st := 1 }, st := .running, flt := { phase := 1 } })] }, grn := { installed := true, grain := { custody := { domains := [(0, { filter := wFilter })] } } } }, by and_intros <;> decide +kernel⟩
  · exact ⟨0, { boot := { pwrgood := true, pf1 := true }, cus := { dom := [(0, { upd := { st := 1, bytes := (List.replicate 512 0) }, st := .running, flt := { phase := 1 } })] }, grn := { installed := true, grain := { custody := { domains := [(0, { filter := wFilter })] } } } }, by and_intros <;> decide +kernel⟩
  · exact ⟨0, { boot := { pwrgood := true, pf1 := true }, cus := { dom := [(0, { upd := { st := 1, sigOk := true, bytes := (List.replicate 512 0) }, st := .running, flt := { phase := 1 } })] }, grn := { installed := true, grain := { custody := { domains := [(0, { filter := wFilter })] } } } }, by and_intros <;> decide +kernel⟩
  · exact ⟨0, { boot := { pwrgood := true, pf1 := true }, cus := { dom := [(0, { upd := { st := 1, sigDue := true }, st := .running, flt := { phase := 1 } })] }, grn := { installed := true, grain := { custody := { domains := [(0, { filter := wFilter })] } } } }, by and_intros <;> decide +kernel⟩
  · exact ⟨0, { boot := { pwrgood := true }, grn := { installed := true, grain := { custody := { domains := [(0, { filter := wFilter })] } } }, cus := { dom := [(0, { st := .running, flt := { phase := 1 } })] } }, by and_intros <;> decide +kernel⟩
  · exact ⟨0, { boot := { pwrgood := true }, nrg := { boughs := [(0, { power := .running })] }, cus := { dom := [(0, { closed := [{}], st := .running, flt := { phase := 1 } })] }, grn := { installed := true, grain := { custody := { domains := [(0, { filter := wFilter })] } } } }, {}, [], by and_intros <;> decide +kernel⟩

/-- MailboxAndUpdates: states and operands that meet the premises of its clauses (part 5 of 5). -/
theorem wit_mailboxAndUpdates_5 :
    (∃ (d : Fin 32) (s : State), let x := cdom d.val s; live s = true ∧ twf { } s.cus.dom = true ∧ cusBoughRuns d.val s = true ∧ x.closed = [] ∧ x.upd.sigDue = true ∧ x.upd.st = 1) ∧
    (∃ (n : Nat) (d : Fin 32) (s : State), let x := cdom d.val s; live s = true ∧ twf { } s.cus.dom = true ∧ x.upd.st ≠ 0 ∧ x.upd.lastAt + 600 * psS ≤ max s.now n) ∧
    (∃ (n : Nat) (d : Fin 32) (s : State), let x := cdom d.val s; live s = true ∧ twf { } s.cus.dom = true ∧ (x.upd.st = 0 ∨ max s.now n < x.upd.lastAt + 600 * psS)) ∧
    (∃ (d : Fin 32) (s : State), let x := cdom d.val s; live s = true ∧ twf { } s.cus.dom = true ∧ x.flt.fwd = none) ∧
    (∃ (d : Fin 32) (fl : Bytes) (s : State) (w : Fwd), let x := cdom d.val s; live s = true ∧ twf { } s.cus.dom = true ∧ x.flt.fwd = some w ∧ w.check = true ∧ w.polled = true ∧ x.upd.st = 1 ∧ fl ≠ w.data) ∧
    (∃ (d : Fin 32) (fl : Bytes) (s : State) (w : Fwd), let x := cdom d.val s; live s = true ∧ twf { } s.cus.dom = true ∧ x.flt.fwd = some w ∧ w.check = true ∧ w.polled = true ∧ x.upd.st = 1 ∧ fl = w.data ∧ List.length x.upd.bytes + List.length fl < 512) := by
  refine ⟨?_, ?_, ?_, ?_, ?_, ?_⟩
  · exact ⟨0, { boot := { pwrgood := true }, nrg := { boughs := [(0, { power := .running })] }, cus := { dom := [(0, { upd := { sigDue := true, st := 1 }, st := .running, flt := { phase := 1 } })] }, grn := { installed := true, grain := { custody := { domains := [(0, { filter := wFilter })] } } } }, by and_intros <;> decide +kernel⟩
  · exact ⟨1000000000000000, 0, { boot := { pwrgood := true }, grn := { installed := true, grain := { custody := { domains := [(0, { filter := wFilter })] } } }, cus := { dom := [(0, { st := .running, flt := { phase := 1 }, upd := { st := 1 } })] } }, by and_intros <;> decide +kernel⟩
  · exact ⟨0, 0, { boot := { pwrgood := true }, grn := { installed := true, grain := { custody := { domains := [(0, { filter := wFilter })] } } }, cus := { dom := [(0, { st := .running, flt := { phase := 1 } })] } }, by and_intros <;> decide +kernel⟩
  · exact ⟨0, { boot := { pwrgood := true }, grn := { installed := true, grain := { custody := { domains := [(0, { filter := wFilter })] } } }, cus := { dom := [(0, { st := .running, flt := { phase := 1 } })] } }, by and_intros <;> decide +kernel⟩
  · exact ⟨0, [1], { boot := { pwrgood := true }, cus := { dom := [(0, { flt := { fwd := (some { check := true, polled := true }), phase := 1 }, upd := { st := 1 }, st := .running })] }, grn := { installed := true, grain := { custody := { domains := [(0, { filter := wFilter })] } } } }, { check := true, polled := true }, by and_intros <;> decide +kernel⟩
  · exact ⟨0, [], { boot := { pwrgood := true }, cus := { dom := [(0, { flt := { fwd := (some { check := true, polled := true }), phase := 1 }, upd := { st := 1 }, st := .running })] }, grn := { installed := true, grain := { custody := { domains := [(0, { filter := wFilter })] } } } }, { check := true, polled := true }, by and_intros <;> decide +kernel⟩

/-- MarksAndNow: states and operands that meet the premises of its clauses. -/
theorem wit_marksAndNow :
    (∃ (s : State), let z := s.slt; live s = true ∧ BitVec.toNat z.markAt ≤ BitVec.toNat z.slot) ∧
    (∃ (s : State), let z := s.slt; live s = true ∧ BitVec.toNat z.slot < BitVec.toNat z.markAt ∧ z.collecting.isSome = true ∧ z.hold = true) ∧
    (∃ (s : State), let z := s.slt; live s = true ∧ BitVec.toNat z.slot < BitVec.toNat z.markAt ∧ (¬(z.collecting.isSome = true ∧ z.hold = true))) ∧
    (∃ (s : State) (b : Bool) (tag : W64), live s = true ∧ s.slt.collecting = some (b, tag)) ∧
    (∃ (n : Nat) (m : Meter) (s : State), let u := meter m (atInput n s); let slot := s.slt.slot + 1; let p := s.grn.grain.energy.periodSlots; live s = true ∧ s.slt.counting = true ∧ s.slt.anchorDue = false ∧ s.slt.stepNs = 0 ∧ s.slt.lengthenNs = 0 ∧ s.grn.timeNext = none ∧ BitVec.toNat s.slt.slot + 1 < 2 ^ 64 ∧ (s.slt.oneShot = none ∨ ∃ (a : W64), s.slt.oneShot = some a ∧ BitVec.toNat slot < BitVec.toNat a) ∧ (s.slt.markPeriod = 0 ∨ BitVec.toNat slot % BitVec.toNat s.slt.markPeriod ≠ BitVec.toNat s.slt.markPhase % BitVec.toNat s.slt.markPeriod) ∧ (∀ e ∈ s.vault.staged, BitVec.toNat slot < BitVec.toNat e.2.at_) ∧ (s.cnp.rekeyAt = 0 ∨ BitVec.toNat slot < BitVec.toNat s.cnp.rekeyAt) ∧ BitVec.toNat slot < ckptSlot u ∧ (∀ d ∈ s.cnp.deadline, BitVec.toNat slot < BitVec.toNat d.slot) ∧ (s.grv.handbackAt = 0 ∨ BitVec.toNat slot < BitVec.toNat s.grv.handbackAt) ∧ (p = 0 ∨ BitVec.toNat slot % p ≠ 0)) ∧
    (∃ (n : Nat) (m : Meter) (s : State), let u := meter m (atInput n s); let slot := s.slt.slot + 1; let p := s.grn.grain.energy.periodSlots; live s = true ∧ s.slt.counting = true ∧ s.slt.anchorDue = false ∧ s.slt.stepNs = 0 ∧ s.slt.lengthenNs = 0 ∧ s.grn.timeNext = none ∧ BitVec.toNat s.slt.slot + 1 < 2 ^ 64 ∧ (s.slt.oneShot = none ∨ ∃ (a : W64), s.slt.oneShot = some a ∧ BitVec.toNat slot < BitVec.toNat a) ∧ (s.slt.markPeriod = 0 ∨ BitVec.toNat slot % BitVec.toNat s.slt.markPeriod ≠ BitVec.toNat s.slt.markPhase % BitVec.toNat s.slt.markPeriod) ∧ (∀ e ∈ s.vault.staged, BitVec.toNat slot < BitVec.toNat e.2.at_) ∧ (s.cnp.rekeyAt = 0 ∨ BitVec.toNat slot < BitVec.toNat s.cnp.rekeyAt) ∧ BitVec.toNat slot < ckptSlot u ∧ (∀ d ∈ s.cnp.deadline, BitVec.toNat slot < BitVec.toNat d.slot) ∧ (s.grv.handbackAt = 0 ∨ BitVec.toNat slot < BitVec.toNat s.grv.handbackAt) ∧ p ≠ 0 ∧ BitVec.toNat slot % p = 0 ∧ u.nrg.c0Spent ≤ s.nrg.eff ∧ s.nrg.jobs = [] ∧ s.tel.summaries = [] ∧ s.grn.energyNext = none) ∧
    (∃ (lo : Nat) (s : State), lo < BitVec.toNat s.slt.slot ∧ s.grn.grain.energy.periodSlots ≠ 0) := by
  refine ⟨?_, ?_, ?_, ?_, ?_, ?_, ?_⟩
  · exact ⟨{ boot := { pwrgood := true } }, by and_intros <;> decide +kernel⟩
  · exact ⟨{ boot := { pwrgood := true }, slt := { hold := true, markAt := 1, collecting := some (0, 0) } }, by and_intros <;> decide +kernel⟩
  · exact ⟨{ boot := { pwrgood := true }, slt := { markAt := 1, hold := false } }, ⟨by decide +kernel, by decide +kernel, fun h => by cases h.1⟩⟩
  · exact ⟨{ boot := { pwrgood := true }, slt := { collecting := (some (false, 0)) } }, false, 0, by and_intros <;> decide +kernel⟩
  · exact ⟨0, {}, { boot := { pwrgood := true }, slt := { counting := true } }, by and_intros <;> decide +kernel⟩
  · exact ⟨0, {}, { boot := { pwrgood := true }, slt := { counting := true }, grn := { grain := { energy := { periodSlots := 1 } } } }, by and_intros <;> decide +kernel⟩
  · exact ⟨0, { boot := { pwrgood := true }, slt := { slot := 1 }, grn := { grain := { energy := { periodSlots := 1 } } } }, by and_intros <;> decide +kernel⟩

/-- MkaOperations: states and operands that meet the premises of its clauses (part 1 of 2). -/
theorem wit_mkaOperations_1 :
    (∃ (c : Instr) (op : Nat) (l : Fin 192) (tg : Fin 8) (desc : BitVec 16) (s : State), MkaOp c op l tg desc ∧ live s = true ∧ twf { } s.lvs.leaf = true ∧ twf { } (leafAt l.val s).tags = true ∧ leafCanIssue l.val s = false) ∧
    (∃ (c : Instr) (op : Nat) (l : Fin 192) (tg : Fin 8) (desc : BitVec 16) (s : State), MkaOp c op l tg desc ∧ live s = true ∧ twf { } s.lvs.leaf = true ∧ twf { } (leafAt l.val s).tags = true ∧ leafCanIssue l.val s = true ∧ (sapTag l.val tg.val s).req.isSome = true) ∧
    (∃ (c : Instr) (op : Nat) (l : Fin 192) (tg : Fin 8) (desc : BitVec 16) (s : State), MkaOp c op l tg desc ∧ live s = true ∧ twf { } s.lvs.leaf = true ∧ twf { } (leafAt l.val s).tags = true ∧ leafCanIssue l.val s = true ∧ (sapTag l.val tg.val s).req = none ∧ (mkaOwns l.val (fieldLe (mkaB l.val desc s) 0 1) s = false ∨ 65536 < desc.toNat + 48)) ∧
    (∃ (l : Fin 192) (tg : Fin 8) (desc : BitVec 16) (s : State), let b := mkaB l.val desc s; let r := mkaReq b; let who := KeyUser.bough (boughOfLeaf l.val); MkaGood l tg desc s ∧ r.key < 4096 ∧ keyCheck who 4 [2, 3] r.key s = none ∧ attrDest (vslot r.key s).attr = 1 ∧ 1 ≤ r.len ∧ r.len ≤ 32 ∧ localOk r.src r.len = true ∧ newSlotCode r.out1 r.attr1 s = none ∧ BitVec.getLsbD r.attr1 (boughOfLeaf l.val) = true ∧ attrUsage r.attr1 = 6 ∧ matLen r.attr1 s = List.length (vslot r.key s).mat ∧ newSlotCode r.out2 r.attr2 s = none ∧ BitVec.getLsbD r.attr2 (boughOfLeaf l.val) = true ∧ (attrUsage r.attr2 = 2 ∨ attrUsage r.attr2 = 3) ∧ matLen r.attr2 s = List.length (vslot r.key s).mat ∧ r.out1 ≠ r.out2) ∧
    (∃ (l : Fin 192) (tg : Fin 8) (desc : BitVec 16) (s : State), let b := mkaB l.val desc s; let r := mkaReq b; let p := r.secy / 4; let k := r.secy % 4; let g := gsecy p k s; MkaGood l tg desc s ∧ sakTargetCode r.out1 g.suite r.attr1 s = none ∧ drbgRequest (limbOfBough (boughOfLeaf l.val)) false (suiteKeyLen g.suite) { s with out := [] } = none) ∧
    (∃ (l : Fin 192) (tg : Fin 8) (desc : BitVec 16) (s : State) (key : Bytes) (u : State), let b := mkaB l.val desc s; let r := mkaReq b; let p := r.secy / 4; let k := r.secy % 4; let g := gsecy p k s; MkaGood l tg desc s ∧ sakTargetCode r.out1 g.suite r.attr1 s = none ∧ drbgRequest (limbOfBough (boughOfLeaf l.val)) false (suiteKeyLen g.suite) { s with out := [] } = some (key, u)) ∧
    (∃ (l : Fin 192) (tg : Fin 8) (desc : BitVec 16) (s : State), let b := mkaB l.val desc s; let r := mkaReq b; let p := r.secy / 4; let k := r.secy % 4; let g := gsecy p k s; let who := KeyUser.bough (boughOfLeaf l.val); MkaGood l tg desc s ∧ r.key < 4096 ∧ keyCheck who 2 [2] r.key s = none ∧ saSlotCode (decide (attrUsage (vslot r.out1 s).attr ≠ 1)) r.out1 s = none ∧ List.length (vslot r.out1 s).mat = suiteKeyLen g.suite ∧ attrExport (vslot r.out1 s).attr = true ∧ r.dst % 128 = 0 ∧ r.dst + suiteKeyLen g.suite + 8 ≤ 65536) ∧
    (∃ (l : Fin 192) (tg : Fin 8) (desc : BitVec 16) (s : State) (m : Bytes), let b := mkaB l.val desc s; let r := mkaReq b; let p := r.secy / 4; let k := r.secy % 4; let g := gsecy p k s; let who := KeyUser.bough (boughOfLeaf l.val); MkaGood l tg desc s ∧ r.key < 4096 ∧ keyCheck who 3 [2] r.key s = none ∧ sakTargetCode r.out1 g.suite r.attr1 s = none ∧ r.len = suiteKeyLen g.suite + 8 ∧ localOk r.src r.len = true ∧ kwUnwrap (vslot r.key s).mat (localRead l.val r.src r.len s) = some m) := by
  refine ⟨?_, ?_, ?_, ?_, ?_, ?_, ?_, ?_⟩
  · exact ⟨.mkaKeys 0 0 0, 0x48, 0, 0, 0, { boot := { pwrgood := true }, nrg := { boughs := [(0, { power := .running })] }, lvs := { leaf := [(0, { released := false, role := 2 })] }, grn := { grain := { ports := some [{ prot := 1, secy := [{ present := 1 }] }], slotPolicy := wSlots } } }, by and_intros <;> first | decide +kernel | (constructor)⟩
  · exact ⟨.mkaKeys 0 0 0, 0x48, 0, 0, 0, { boot := { pwrgood := true }, nrg := { boughs := [(0, { power := .running })] }, lvs := { leaf := [(0, { released := true, role := 2, tags := [(0, { req := some {} })] })] }, grn := { grain := { ports := some [{ prot := 1, secy := [{ present := 1 }] }], slotPolicy := wSlots } } }, by and_intros <;> first | decide +kernel | (constructor)⟩
  · exact ⟨.mkaKeys 0 0 0xFFFF, 0x48, 0, 0, 0xFFFF, { boot := { pwrgood := true }, nrg := { boughs := [(0, { power := .running })] }, lvs := { leaf := [(0, { released := true, role := 2 })] }, grn := { grain := { ports := some [{ prot := 1, secy := [{ present := 1 }] }], slotPolicy := wSlots } } }, by and_intros <;> first | decide +kernel | (constructor)⟩
  · exact ⟨0, 0, 0, { boot := { pwrgood := true }, nrg := { boughs := [(0, { power := .running })] }, lvs := { leaf := [(0, { released := true, role := 2, dmem := [(4, 64), (6, 65), (8, 66), (10, 1), (20, 1), (22, 96), (23, 32), (24, 1), (26, 32), (27, 32)] })] }, grn := { grain := { ports := some [{ prot := 1, secy := [{ present := 1 }] }], slotPolicy := wSlots } }, vault := { slots := [(64, { mat := (List.replicate 32 0), attr := 541327361 })] } }, by and_intros <;> first | decide +kernel | (unfold MkaGood; decide +kernel)⟩
  · exact ⟨0, 0, 0, { boot := { pwrgood := true }, nrg := { boughs := [(0, { power := .running })] }, lvs := { leaf := [(0, { released := true, role := 2, dmem := [(6, 65), (21, 32), (23, 16)] })] }, grn := { grain := { ports := some [{ prot := 1, secy := [{ present := 1 }] }], slotPolicy := wSlots } } }, by and_intros <;> first | decide +kernel | (unfold MkaGood; decide +kernel)⟩
  · exact ⟨0, 0, 0, { boot := { pwrgood := true }, nrg := { boughs := [(0, { power := .running })] }, lvs := { leaf := [(0, { released := true, role := 2, dmem := [(6, 65), (21, 32), (23, 16)] })] }, grn := { grain := { ports := some [{ prot := 1, secy := [{ present := 1 }] }], slotPolicy := wSlots } }, ent := { drbg := [(0, { on := true, k := [1], v := [2] })] } }, _, _, ⟨(by unfold MkaGood; decide +kernel), by decide +kernel, rfl⟩⟩
  · exact ⟨0, 0, 0, { boot := { pwrgood := true }, nrg := { boughs := [(0, { power := .running })] }, lvs := { leaf := [(0, { released := true, role := 2, dmem := [(4, 64), (6, 65)] })] }, grn := { grain := { ports := some [{ prot := 1, secy := [{ present := 1 }] }], slotPolicy := wSlots } }, vault := { slots := [(64, { mat := (List.replicate 16 0), attr := 538968065 }), (65, { mat := (List.replicate 16 0), attr := 268574720 })] } }, by and_intros <;> first | decide +kernel | (unfold MkaGood; decide +kernel)⟩
  · exact ⟨0, 0, 0, { boot := { pwrgood := true }, nrg := { boughs := [(0, { power := .running })] }, lvs := { leaf := [(0, { released := true, role := 2, dmem := [(4, 64), (6, 65), (10, 24), (13, 1), (21, 32), (23, 16), (256, 181), (257, 149), (258, 161), (259, 192), (260, 175), (261, 190), (262, 122), (263, 137), (264, 206), (265, 67), (266, 128), (267, 124), (268, 179), (269, 178), (270, 186), (271, 87), (272, 55), (273, 255), (274, 93), (275, 113), (276, 208), (277, 163), (278, 92), (279, 215)] })] }, grn := { grain := { ports := some [{ prot := 1, secy := [{ present := 1 }] }], slotPolicy := wSlots } }, vault := { slots := [(64, { mat := (List.replicate 32 0), attr := 540016641 })] } }, (List.replicate 16 0), by and_intros <;> first | decide +kernel | (unfold MkaGood; decide +kernel)⟩

/-- MkaOperations: states and operands that meet the premises of its clauses (part 2 of 2). -/
theorem wit_mkaOperations_2 :
    (∃ (l : Fin 192) (tg : Fin 8) (desc : BitVec 16) (s : State), let b := mkaB l.val desc s; let r := mkaReq b; let p := r.secy / 4; let k := r.secy % 4; let g := gsecy p k s; let who := KeyUser.bough (boughOfLeaf l.val); MkaGood l tg desc s ∧ r.key < 4096 ∧ keyCheck who 3 [2] r.key s = none ∧ sakTargetCode r.out1 g.suite r.attr1 s = none ∧ r.len = suiteKeyLen g.suite + 8 ∧ localOk r.src r.len = true ∧ kwUnwrap (vslot r.key s).mat (localRead l.val r.src r.len s) = none) ∧
    (∃ (l : Fin 192) (tg : Fin 8) (desc : BitVec 16) (s : State), let b := mkaB l.val desc s; let r := mkaReq b; let p := r.secy / 4; let k := r.secy % 4; let g := gsecy p k s; let y := (lport p k s).secy; let h := fieldLe b 4 2; MkaGood l tg desc s ∧ LinkWf p s ∧ r.sel = 1 ∧ r.sc < 4 ∧ r.an ≤ 3 ∧ fieldLe b 6 2 = 0 ∧ allZero (slice b 40 8) = true ∧ suiteXpn g.suite = false ∧ allZero (slice b 24 16) = true ∧ fieldLe b 16 8 < pnEnd g.suite ∧ fieldLe b 16 8 ≠ 0 ∧ saSlotCode true h s = none ∧ List.length (vslot h s).mat = suiteKeyLen g.suite ∧ y.cur ≠ some (r.sc, r.an)) ∧
    (∃ (l : Fin 192) (tg : Fin 8) (desc : BitVec 16) (s : State), let b := mkaB l.val desc s; let r := mkaReq b; let p := r.secy / 4; let k := r.secy % 4; let g := gsecy p k s; let y := (lport p k s).secy; let i := 4 * r.sc + r.an; let h := fieldLe b 4 2; MkaGood l tg desc s ∧ LinkWf p s ∧ r.sel = 0 ∧ r.sc < 64 ∧ r.an ≤ 3 ∧ fieldLe b 6 2 = 0 ∧ allZero (slice b 40 8) = true ∧ suiteXpn g.suite = false ∧ allZero (slice b 24 16) = true ∧ fieldLe b 16 8 < pnEnd g.suite ∧ saSlotCode false h s = none ∧ List.length (vslot h s).mat = suiteKeyLen g.suite ∧ (tget { } y.rx i).accepted = false) ∧
    (∃ (l : Fin 192) (tg : Fin 8) (desc : BitVec 16) (s : State), let b := mkaB l.val desc s; let r := mkaReq b; let p := r.secy / 4; let k := r.secy % 4; let y := (lport p k s).secy; let i := 4 * r.sc + r.an; MkaGood l tg desc s ∧ LinkWf p s ∧ r.sel = 1 ∧ r.sc < 4 ∧ r.an ≤ 3 ∧ y.cur = some (r.sc, r.an) ∧ (tget { } y.tx i).key ≠ []) ∧
    (∃ (l : Fin 192) (tg : Fin 8) (desc : BitVec 16) (s : State), let b := mkaB l.val desc s; let r := mkaReq b; let p := r.secy / 4; let k := r.secy % 4; let g := gsecy p k s; let y := (lport p k s).secy; let i := 4 * r.sc + r.an; MkaGood l tg desc s ∧ LinkWf p s ∧ r.sel = 0 ∧ r.sc < 4 ∧ r.an ≤ 3 ∧ (tget { } y.tx i).key ≠ [] ∧ (tget { } y.tx i).pn < pnThreshold g.suite) ∧
    (∃ (l : Fin 192) (tg : Fin 8) (desc : BitVec 16) (s : State), let b := mkaB l.val desc s; let r := mkaReq b; let p := r.secy / 4; let k := r.secy % 4; let y := (lport p k s).secy; let i := 4 * r.sc + r.an; MkaGood l tg desc s ∧ LinkWf p s ∧ r.sel = 1 ∧ r.sc < 64 ∧ r.an ≤ 3 ∧ (tget { } y.rx i).key ≠ []) ∧
    (∃ (l : Fin 192) (tg : Fin 8) (desc : BitVec 16) (s : State), let b := mkaB l.val desc s; let r := mkaReq b; let p := r.secy / 4; let k := r.secy % 4; let y := (lport p k s).secy; let i := 4 * r.sc + r.an; MkaGood l tg desc s ∧ LinkWf p s ∧ r.sel = 2 ∧ r.sc < 64 ∧ r.an ≤ 3 ∧ (tget { } y.rx i).key ≠ []) ∧
    (∃ (l : Fin 192) (tg : Fin 8) (desc : BitVec 16) (s : State), let b := mkaB l.val desc s; let r := mkaReq b; let p := r.secy / 4; let k := r.secy % 4; let f := localRead l.val r.src r.len s; MkaGood l tg desc s ∧ LinkWf p s ∧ 64 ≤ r.len ∧ r.len ≤ 1518 ∧ 1048576 ≤ r.src ∧ localOk r.src r.len = true ∧ (lport p k s).up = true ∧ (lport p k s).fill + r.len + 4 ≤ queueSize p s ∧ List.length f = r.len) := by
  refine ⟨?_, ?_, ?_, ?_, ?_, ?_, ?_, ?_⟩
  · exact ⟨0, 0, 0, { boot := { pwrgood := true }, nrg := { boughs := [(0, { power := .running })] }, lvs := { leaf := [(0, { released := true, role := 2, dmem := [(4, 64), (6, 65), (10, 24), (21, 32), (23, 16)] })] }, grn := { grain := { ports := some [{ prot := 1, secy := [{ present := 1 }] }], slotPolicy := wSlots } }, vault := { slots := [(64, { mat := (List.replicate 16 0), attr := 540016641 })] } }, by and_intros <;> first | decide +kernel | (unfold MkaGood; decide +kernel)⟩
  · exact ⟨0, 0, 0, { boot := { pwrgood := true }, nrg := { boughs := [(0, { power := .running })] }, lvs := { leaf := [(0, { released := true, role := 2, dmem := [(1, 1), (4, 65), (16, 1)] })] }, grn := { grain := { ports := some [{ prot := 1, secy := [{ present := 1 }] }], slotPolicy := wSlots } }, vault := { slots := [(64, { mat := (List.replicate 16 0), attr := 538968065 }), (65, { mat := (List.replicate 16 0), attr := 268574720 })] } }, by and_intros <;> first | decide +kernel | (unfold MkaGood; decide +kernel) | ((intro k; rcases k with _ | k <;> exact ⟨rfl, rfl⟩))⟩
  · exact ⟨0, 0, 0, { boot := { pwrgood := true }, nrg := { boughs := [(0, { power := .running })] }, lvs := { leaf := [(0, { released := true, role := 2, dmem := [(4, 65), (16, 1)] })] }, grn := { grain := { ports := some [{ prot := 1, secy := [{ present := 1 }] }], slotPolicy := wSlots } }, vault := { slots := [(65, { mat := (List.replicate 16 0), attr := 269623296 })] } }, by and_intros <;> first | decide +kernel | (unfold MkaGood; decide +kernel) | ((intro k; rcases k with _ | k <;> exact ⟨rfl, rfl⟩))⟩
  · exact ⟨0, 0, 0, { boot := { pwrgood := true }, nrg := { boughs := [(0, { power := .running })] }, lvs := { leaf := [(0, { released := true, role := 2, dmem := [(1, 1)] })] }, grn := { grain := { ports := some [{ prot := 1, secy := [{ present := 1 }] }], slotPolicy := wSlots } }, lnk := { ports := [(0, { lports := [(0, { secy := { tx := [(0, { key := [1] })], cur := some (0, 0) } })] })] } }, by and_intros <;> first | decide +kernel | (unfold MkaGood; decide +kernel) | ((intro k; rcases k with _ | k <;> exact ⟨rfl, rfl⟩))⟩
  · exact ⟨0, 0, 0, { boot := { pwrgood := true }, nrg := { boughs := [(0, { power := .running })] }, lvs := { leaf := [(0, { released := true, role := 2 })] }, grn := { grain := { ports := some [{ prot := 1, secy := [{ present := 1 }] }], slotPolicy := wSlots } }, lnk := { ports := [(0, { lports := [(0, { secy := { rx := [(0, { key := [1] })], tx := [(0, { key := [1] })] } })] })] } }, by and_intros <;> first | decide +kernel | (unfold MkaGood; decide +kernel) | ((intro k; rcases k with _ | k <;> exact ⟨rfl, rfl⟩))⟩
  · exact ⟨0, 0, 0, { boot := { pwrgood := true }, nrg := { boughs := [(0, { power := .running })] }, lvs := { leaf := [(0, { released := true, role := 2, dmem := [(1, 1)] })] }, grn := { grain := { ports := some [{ prot := 1, secy := [{ present := 1 }] }], slotPolicy := wSlots } }, lnk := { ports := [(0, { lports := [(0, { secy := { rx := [(0, { key := [1] })], tx := [(0, { key := [1] })] } })] })] } }, by and_intros <;> first | decide +kernel | (unfold MkaGood; decide +kernel) | ((intro k; rcases k with _ | k <;> exact ⟨rfl, rfl⟩))⟩
  · exact ⟨0, 0, 0, { boot := { pwrgood := true }, nrg := { boughs := [(0, { power := .running })] }, lvs := { leaf := [(0, { released := true, role := 2, dmem := [(1, 2)] })] }, grn := { grain := { ports := some [{ prot := 1, secy := [{ present := 1 }] }], slotPolicy := wSlots } }, lnk := { ports := [(0, { lports := [(0, { secy := { rx := [(0, { key := [1] })] } })] })] } }, by and_intros <;> first | decide +kernel | (unfold MkaGood; decide +kernel) | ((intro k; rcases k with _ | k <;> exact ⟨rfl, rfl⟩))⟩
  · exact ⟨0, 0, 0, { boot := { pwrgood := true }, nrg := { boughs := [(0, { power := .running })] }, lvs := { leaf := [(0, { released := true, role := 2, dmem := [(10, 64), (14, 16)] })] }, grn := { grain := { ports := some [{ prot := 1, secy := [{ present := 1 }] }], slotPolicy := wSlots } }, lnk := { ports := [(0, { lports := [(0, { up := true })] })] } }, by and_intros <;> first | decide +kernel | (unfold MkaGood; decide +kernel) | ((intro k; rcases k with _ | k <;> exact ⟨rfl, rfl⟩))⟩

/-- OpensAndCommits: states and operands that meet the premises of its clauses (part 1 of 3). -/
theorem wit_opensAndCommits_1 :
    (∃ (l : Fin 192) (s : State), live s = true ∧ twf { } s.lvs.leaf = true ∧ leafCanIssue l.val s = false) ∧
    (∃ (l : Fin 192) (tg : Fin 8) (s : State), live s = true ∧ twf { } s.lvs.leaf = true ∧ leafCanIssue l.val s = true ∧ (sapTag l.val tg.val s).req.isSome = true) ∧
    (∃ (l : Fin 192) (tg : Fin 8) (desc : BitVec 16) (s : State), let q := mread 0 (leafAt l.val s).dmem desc.toNat 16; let h := BitVec.ofNat 32 (fieldLe q 0 4); live s = true ∧ twf { } s.lvs.leaf = true ∧ leafCanIssue l.val s = true ∧ (sapTag l.val tg.val s).req = none ∧ twf { } (leafAt l.val s).tags = true ∧ NoTurns s ∧ (entryAt h s = none ∨ 65536 < desc.toNat + 16)) ∧
    (∃ (l : Fin 192) (tg : Fin 8) (desc : BitVec 16) (s : State) (e : Entry) (x : W16), let q := mread 0 (leafAt l.val s).dmem desc.toNat 16; let h := BitVec.ofNat 32 (fieldLe q 0 4); let i := fieldLe q 4 4; let fl := fieldLe q 8 2; let out := fieldLe q 12 4; live s = true ∧ twf { } s.lvs.leaf = true ∧ leafCanIssue l.val s = true ∧ (sapTag l.val tg.val s).req = none ∧ twf { } (leafAt l.val s).tags = true ∧ NoTurns s ∧ entryAt h s = some e ∧ e.place = 2 ∧ e.lane = l.val ∧ desc.toNat + 16 ≤ 65536 ∧ fieldLe q 10 2 = 0 ∧ out % 128 = 0 ∧ out + 128 ≤ 65536 ∧ overlaps out 128 desc.toNat 16 = false ∧ isLane l.val s = true ∧ s.cnp.st = 3 ∧ laneOn l.val s = true ∧ ctxLost i s = false ∧ fleetCheck l.val fl s = some x) ∧
    (∃ (l : Fin 192) (tg : Fin 8) (desc : BitVec 16) (s : State) (e : Entry), let q := mread 0 (leafAt l.val s).dmem desc.toNat 16; let h := BitVec.ofNat 32 (fieldLe q 0 4); let i := fieldLe q 4 4; let fl := fieldLe q 8 2; let out := fieldLe q 12 4; let f := e.sframe; let id := ctxSensor i s; live s = true ∧ twf { } s.lvs.leaf = true ∧ leafCanIssue l.val s = true ∧ (sapTag l.val tg.val s).req = none ∧ twf { } (leafAt l.val s).tags = true ∧ NoTurns s ∧ entryAt h s = some e ∧ e.place = 2 ∧ e.lane = l.val ∧ desc.toNat + 16 ≤ 65536 ∧ fieldLe q 10 2 = 0 ∧ out % 128 = 0 ∧ out + 128 ≤ 65536 ∧ overlaps out 128 desc.toNat 16 = false ∧ isLane l.val s = true ∧ s.cnp.st = 3 ∧ laneOn l.val s = true ∧ ctxLost i s = false ∧ fleetCheck l.val fl s = none ∧ (frameGood f = false ∨ fSensor f ≠ id)) ∧
    (∃ (l : Fin 192) (tg : Fin 8) (desc : BitVec 16) (s : State) (e : Entry), let q := mread 0 (leafAt l.val s).dmem desc.toNat 16; let h := BitVec.ofNat 32 (fieldLe q 0 4); let i := fieldLe q 4 4; let fl := fieldLe q 8 2; let out := fieldLe q 12 4; let f := e.sframe; let id := ctxSensor i s; live s = true ∧ twf { } s.lvs.leaf = true ∧ leafCanIssue l.val s = true ∧ (sapTag l.val tg.val s).req = none ∧ twf { } (leafAt l.val s).tags = true ∧ NoTurns s ∧ entryAt h s = some e ∧ e.place = 2 ∧ e.lane = l.val ∧ desc.toNat + 16 ≤ 65536 ∧ fieldLe q 10 2 = 0 ∧ out % 128 = 0 ∧ out + 128 ≤ 65536 ∧ overlaps out 128 desc.toNat 16 = false ∧ isLane l.val s = true ∧ s.cnp.st = 3 ∧ laneOn l.val s = true ∧ ctxLost i s = false ∧ fleetCheck l.val fl s = none ∧ frameGood f = true ∧ fSensor f = id ∧ fJoin f = true) ∧
    (∃ (l : Fin 192) (tg : Fin 8) (desc : BitVec 16) (s : State) (e : Entry), let q := mread 0 (leafAt l.val s).dmem desc.toNat 16; let h := BitVec.ofNat 32 (fieldLe q 0 4); let i := fieldLe q 4 4; let fl := fieldLe q 8 2; let out := fieldLe q 12 4; let f := e.sframe; let c := ctxAt i s; let root := (vslot fl s).mat; let id := ctxSensor i s; let b := List.take (16 + fPlen f) f; let srk := keySrk root id (BitVec.toNat c.epoch); live s = true ∧ twf { } s.lvs.leaf = true ∧ leafCanIssue l.val s = true ∧ (sapTag l.val tg.val s).req = none ∧ twf { } (leafAt l.val s).tags = true ∧ NoTurns s ∧ entryAt h s = some e ∧ e.place = 2 ∧ e.lane = l.val ∧ desc.toNat + 16 ≤ 65536 ∧ fieldLe q 10 2 = 0 ∧ out % 128 = 0 ∧ out + 128 ≤ 65536 ∧ overlaps out 128 desc.toNat 16 = false ∧ isLane l.val s = true ∧ s.cnp.st = 3 ∧ laneOn l.val s = true ∧ ctxLost i s = false ∧ fleetCheck l.val fl s = none ∧ frameGood f = true ∧ fSensor f = id ∧ fJoin f = false ∧ frameMic (keySmk srk c.nonce) 0 (BitVec.toNat c.epoch) b = List.drop (16 + fPlen f) f) ∧
    (∃ (l : Fin 192) (tg : Fin 8) (desc : BitVec 16) (s : State) (e : Entry), let q := mread 0 (leafAt l.val s).dmem desc.toNat 16; let h := BitVec.ofNat 32 (fieldLe q 0 4); let i := fieldLe q 4 4; let fl := fieldLe q 8 2; let out := fieldLe q 12 4; let f := e.sframe; let c := ctxAt i s; let root := (vslot fl s).mat; let id := ctxSensor i s; let b := List.take (16 + fPlen f) f; let srk := keySrk root id (BitVec.toNat c.epoch); live s = true ∧ twf { } s.lvs.leaf = true ∧ leafCanIssue l.val s = true ∧ (sapTag l.val tg.val s).req = none ∧ twf { } (leafAt l.val s).tags = true ∧ NoTurns s ∧ entryAt h s = some e ∧ e.place = 2 ∧ e.lane = l.val ∧ desc.toNat + 16 ≤ 65536 ∧ fieldLe q 10 2 = 0 ∧ out % 128 = 0 ∧ out + 128 ≤ 65536 ∧ overlaps out 128 desc.toNat 16 = false ∧ isLane l.val s = true ∧ s.cnp.st = 3 ∧ laneOn l.val s = true ∧ ctxLost i s = false ∧ fleetCheck l.val fl s = none ∧ frameGood f = true ∧ fSensor f = id ∧ fJoin f = false ∧ frameMic (keySmk srk c.nonce) 0 (BitVec.toNat c.epoch) b ≠ List.drop (16 + fPlen f) f) := by
  refine ⟨?_, ?_, ?_, ?_, ?_, ?_, ?_, ?_⟩
  · exact ⟨0, { boot := { pwrgood := true } }, by and_intros <;> decide +kernel⟩
  · exact ⟨0, 0, { boot := { pwrgood := true }, nrg := { boughs := [(0, { power := .running })] }, lvs := { leaf := [(0, { released := true, tags := [(0, { req := some {} })] })] } }, by and_intros <;> decide +kernel⟩
  · exact ⟨0, 0, 0, { boot := { pwrgood := true }, nrg := { boughs := [(0, { power := .running })] }, lvs := { leaf := [(0, { released := true })] } }, by and_intros <;> first | decide +kernel | (unfold NoTurns; decide +kernel)⟩
  · exact ⟨0, 0, 0, { boot := { pwrgood := true }, nrg := { boughs := [(0, { power := .running })] }, lvs := { leaf := [(0, { released := true, role := 1, dmem := [(8, 64), (12, 128)] })] }, cnp := { st := 3, entries := [{ place := 2, frame := [1, 1, 0, 0] ++ List.replicate 20 0 ++ [] }] }, vault := { slots := [] }, grn := { installed := true, grain := { canopy := some { idCount := 64 } } } }, { place := 2, frame := [1, 1, 0, 0] ++ List.replicate 20 0 ++ [] }, 0x5001, by and_intros <;> first | decide +kernel | (unfold NoTurns; decide +kernel)⟩
  · exact ⟨0, 0, 0, { boot := { pwrgood := true }, nrg := { boughs := [(0, { power := .running })] }, lvs := { leaf := [(0, { released := true, role := 1, dmem := [(8, 64), (12, 128)] })] }, cnp := { st := 3, entries := [{ place := 2, frame := [1, 1, 0, 0] ++ List.replicate 20 0 ++ [] }] }, vault := { slots := [(64, { mat := List.replicate 32 1, attr := 809762817 })] }, grn := { installed := true, grain := { canopy := some { idCount := 64 } } } }, { place := 2, frame := [1, 1, 0, 0] ++ List.replicate 20 0 ++ [] }, by and_intros <;> first | decide +kernel | (unfold NoTurns; decide +kernel)⟩
  · exact ⟨0, 0, 0, { boot := { pwrgood := true }, nrg := { boughs := [(0, { power := .running })] }, lvs := { leaf := [(0, { released := true, role := 1, dmem := [(8, 64), (12, 128)] })] }, cnp := { st := 3, entries := [{ place := 2, frame := [1, 1, 0, 32] ++ List.replicate 20 0 ++ [0x20, 1, 0, 8] ++ List.replicate 28 0 }] }, vault := { slots := [(64, { mat := List.replicate 32 1, attr := 809762817 })] }, grn := { installed := true, grain := { canopy := some { idCount := 64 } } } }, { place := 2, frame := [1, 1, 0, 32] ++ List.replicate 20 0 ++ [0x20, 1, 0, 8] ++ List.replicate 28 0 }, by and_intros <;> first | decide +kernel | (unfold NoTurns; decide +kernel)⟩
  · exact ⟨0, 0, 0, { boot := { pwrgood := true }, nrg := { boughs := [(0, { power := .running })] }, lvs := { leaf := [(0, { released := true, role := 1, dmem := [(8, 64), (12, 128)] })] }, cnp := { st := 3, entries := [{ place := 2, frame := [1, 1, 0, 24] ++ List.replicate 20 0 ++ ([0x10, 0, 1, 0] ++ List.replicate 12 0) ++ [197, 251, 35, 237, 125, 115, 80, 107] }] }, vault := { slots := [(64, { mat := List.replicate 32 1, attr := 809762817 })] }, grn := { installed := true, grain := { canopy := some { idCount := 64 } } } }, { place := 2, frame := [1, 1, 0, 24] ++ List.replicate 20 0 ++ ([0x10, 0, 1, 0] ++ List.replicate 12 0) ++ [197, 251, 35, 237, 125, 115, 80, 107] }, by and_intros <;> first | decide +kernel | (unfold NoTurns; decide +kernel)⟩
  · exact ⟨0, 0, 0, { boot := { pwrgood := true }, nrg := { boughs := [(0, { power := .running })] }, lvs := { leaf := [(0, { released := true, role := 1, dmem := [(8, 64), (12, 128)] })] }, cnp := { st := 3, entries := [{ place := 2, frame := [1, 1, 0, 24] ++ List.replicate 20 0 ++ ([0x10, 0, 1, 0] ++ List.replicate 12 0) ++ List.replicate 8 0 }] }, vault := { slots := [(64, { mat := List.replicate 32 1, attr := 809762817 })] }, grn := { installed := true, grain := { canopy := some { idCount := 64 } } } }, { place := 2, frame := [1, 1, 0, 24] ++ List.replicate 20 0 ++ ([0x10, 0, 1, 0] ++ List.replicate 12 0) ++ List.replicate 8 0 }, by and_intros <;> first | decide +kernel | (unfold NoTurns; decide +kernel)⟩

/-- OpensAndCommits: states and operands that meet the premises of its clauses (part 2 of 3). -/
theorem wit_opensAndCommits_2 :
    (∃ (l : Fin 192) (tg : Fin 8) (desc : BitVec 16) (s : State), let q := mread 0 (leafAt l.val s).dmem desc.toNat 80; let tok := BitVec.ofNat 32 (fieldLe q 0 4); live s = true ∧ twf { } s.lvs.leaf = true ∧ twf { } (leafAt l.val s).tags = true ∧ leafCanIssue l.val s = true ∧ (sapTag l.val tg.val s).req = none ∧ s.cnp.held = [] ∧ desc.toNat + 80 ≤ 65536 ∧ CnpWf s ∧ fieldLe q 9 7 = 0 ∧ s.cnp.opens = [] ∧ (laneAt l.val s).cut.contains tok = false) ∧
    (∃ (l : Fin 192) (tg : Fin 8) (desc : BitVec 16) (s : State), let q := mread 0 (leafAt l.val s).dmem desc.toNat 80; let tok := BitVec.ofNat 32 (fieldLe q 0 4); live s = true ∧ twf { } s.lvs.leaf = true ∧ twf { } (leafAt l.val s).tags = true ∧ leafCanIssue l.val s = true ∧ (sapTag l.val tg.val s).req = none ∧ s.cnp.held = [] ∧ desc.toNat + 80 ≤ 65536 ∧ CnpWf s ∧ fieldLe q 9 7 = 0 ∧ s.cnp.opens = [] ∧ (laneAt l.val s).cut.contains tok = true) ∧
    (∃ (l : Fin 192) (tg : Fin 8) (desc : BitVec 16) (s : State) (o : OpenRec) (e : Entry) (c : W16), let q := mread 0 (leafAt l.val s).dmem desc.toNat 80; let tok := BitVec.ofNat 32 (fieldLe q 0 4); live s = true ∧ twf { } s.lvs.leaf = true ∧ twf { } (leafAt l.val s).tags = true ∧ leafCanIssue l.val s = true ∧ (sapTag l.val tg.val s).req = none ∧ s.cnp.held = [] ∧ desc.toNat + 80 ≤ 65536 ∧ CnpWf s ∧ fieldLe q 9 7 = 0 ∧ s.cnp.opens = [o] ∧ o.begun = true ∧ o.leaf = l.val ∧ o.token = tok ∧ o.mgmt = 0 ∧ entryAt o.entry s = some e ∧ fleetCheck l.val o.fleet s = some c) ∧
    (∃ (l : Fin 192) (tg : Fin 8) (desc : BitVec 16) (s : State) (o : OpenRec) (e : Entry), let q := mread 0 (leafAt l.val s).dmem desc.toNat 80; let tok := BitVec.ofNat 32 (fieldLe q 0 4); live s = true ∧ twf { } s.lvs.leaf = true ∧ twf { } (leafAt l.val s).tags = true ∧ leafCanIssue l.val s = true ∧ (sapTag l.val tg.val s).req = none ∧ s.cnp.held = [] ∧ desc.toNat + 80 ≤ 65536 ∧ CnpWf s ∧ fieldLe q 9 7 = 0 ∧ s.cnp.opens = [o] ∧ o.begun = true ∧ o.leaf = l.val ∧ o.token = tok ∧ o.mgmt = 0 ∧ entryAt o.entry s = some e ∧ fleetCheck l.val o.fleet s = none ∧ commitBad o e q s = false ∧ fieldLe q 5 1 = 0 ∧ ctxLost o.ctx s = false ∧ o.read = ctxAt o.ctx s ∧ fieldLe q 4 1 = 1 ∧ fieldLe q 6 2 = 12292) ∧
    (∃ (l : Fin 192) (tg : Fin 8) (desc : BitVec 16) (s : State) (o : OpenRec) (e : Entry), let q := mread 0 (leafAt l.val s).dmem desc.toNat 80; let new := ctxOf (List.drop 16 q); let tok := BitVec.ofNat 32 (fieldLe q 0 4); let old := ctxAt o.ctx s; let c := channelOf (bucketOf (fSensor e.sframe)) s; live s = true ∧ twf { } s.lvs.leaf = true ∧ twf { } (leafAt l.val s).tags = true ∧ leafCanIssue l.val s = true ∧ (sapTag l.val tg.val s).req = none ∧ s.cnp.held = [] ∧ desc.toNat + 80 ≤ 65536 ∧ CnpWf s ∧ fieldLe q 9 7 = 0 ∧ s.cnp.opens = [o] ∧ o.begun = true ∧ o.leaf = l.val ∧ o.token = tok ∧ o.mgmt = 0 ∧ entryAt o.entry s = some e ∧ fleetCheck l.val o.fleet s = none ∧ commitBad o e q s = false ∧ fieldLe q 5 1 = 0 ∧ ctxLost o.ctx s = false ∧ o.read = ctxAt o.ctx s ∧ fieldLe q 4 1 = 0 ∧ BitVec.toNat new.lastFcnt ≤ BitVec.toNat old.ceiling ∧ chanRoom c (48 + List.length o.plain) s = true ∧ BitVec.toNat new.lastFcnt < 4294901760 ∧ (BitVec.toNat old.ceiling = 4294967295 ∨ BitVec.toNat new.lastFcnt + (gcan s).leaseStep / 4 < BitVec.toNat old.ceiling)) ∧
    (∃ (l : Fin 192) (tg : Fin 8) (desc : BitVec 16) (s : State) (o : OpenRec) (e : Entry), let q := mread 0 (leafAt l.val s).dmem desc.toNat 80; let new := ctxOf (List.drop 16 q); let tok := BitVec.ofNat 32 (fieldLe q 0 4); let old := ctxAt o.ctx s; live s = true ∧ twf { } s.lvs.leaf = true ∧ twf { } (leafAt l.val s).tags = true ∧ leafCanIssue l.val s = true ∧ (sapTag l.val tg.val s).req = none ∧ s.cnp.held = [] ∧ desc.toNat + 80 ≤ 65536 ∧ CnpWf s ∧ fieldLe q 9 7 = 0 ∧ s.cnp.opens = [o] ∧ o.begun = true ∧ o.leaf = l.val ∧ o.token = tok ∧ o.mgmt = 0 ∧ entryAt o.entry s = some e ∧ fleetCheck l.val o.fleet s = none ∧ commitBad o e q s = false ∧ fieldLe q 5 1 = 0 ∧ ctxLost o.ctx s = false ∧ o.read = ctxAt o.ctx s ∧ fieldLe q 4 1 = 0 ∧ BitVec.toNat old.ceiling < BitVec.toNat new.lastFcnt ∧ tget 0 s.cnp.renew o.ctx = 0 ∧ journalShut s = false ∧ old.st ≠ 4) ∧
    (∃ (s : State), live s = true ∧ NoTurns s ∧ s.kpf.acked = []) ∧
    (∃ (s : State) (i : Nat) (v : Nat), live s = true ∧ NoTurns s ∧ s.kpf.acked = [JAct.lease i v] ∧ mirrorWaits i v s = false) := by
  refine ⟨?_, ?_, ?_, ?_, ?_, ?_, ?_, ?_⟩
  · exact ⟨0, 0, 0, { boot := { pwrgood := true }, nrg := { boughs := [(0, { power := .running })] }, lvs := { leaf := [(0, { released := true })] } }, by and_intros <;> first | decide +kernel | ((intro c; rcases c with _ | c <;> exact rfl))⟩
  · exact ⟨0, 0, 0, { boot := { pwrgood := true }, nrg := { boughs := [(0, { power := .running })] }, lvs := { leaf := [(0, { released := true })] }, cnp := { lanes := [(0, { cut := [0] })] } }, by and_intros <;> first | decide +kernel | ((intro c; rcases c with _ | c <;> exact rfl))⟩
  · exact ⟨0, 0, 0, { boot := { pwrgood := true }, nrg := { boughs := [(0, { power := .running })] }, lvs := { leaf := [(0, { released := true })] }, cnp := { opens := [{ begun := true }], entries := [{}] } }, { begun := true }, {}, 0x5008, by and_intros <;> first | decide +kernel | ((intro c; rcases c with _ | c <;> exact rfl))⟩
  · exact ⟨0, 0, 0, { boot := { pwrgood := true }, nrg := { boughs := [(0, { power := .running })] }, lvs := { leaf := [(0, { released := true, dmem := [(4, 1), (6, 4), (7, 48)] })] }, cnp := { opens := [{ begun := true, fleet := 64, read := { st := 1 } }], ctx := [(0, { st := 1 })], entries := [{}] }, vault := { slots := [(64, { mat := List.replicate 32 1, attr := 809762817 })] } }, { begun := true, fleet := 64, read := { st := 1 } }, {}, by and_intros <;> first | decide +kernel | ((intro c; rcases c with _ | c <;> exact rfl))⟩
  · exact ⟨0, 0, 0, { boot := { pwrgood := true }, nrg := { boughs := [(0, { power := .running })] }, lvs := { leaf := [(0, { released := true, dmem := [(24, 1)] })] }, cnp := { opens := [{ begun := true, fleet := 64, micOk := true, read := { st := 1, ceiling := 0xFFFFFFFF } }], ctx := [(0, { st := 1, ceiling := 0xFFFFFFFF })], entries := [{ frame := [1, 1, 0, 24] ++ List.replicate 20 0 ++ [0x10, 0, 1, 0] ++ List.replicate 11 0 ++ [1] ++ List.replicate 8 0 }] }, vault := { slots := [(64, { mat := List.replicate 32 1, attr := 809762817 })] } }, { begun := true, fleet := 64, micOk := true, read := { st := 1, ceiling := 0xFFFFFFFF } }, { frame := [1, 1, 0, 24] ++ List.replicate 20 0 ++ [0x10, 0, 1, 0] ++ List.replicate 11 0 ++ [1] ++ List.replicate 8 0 }, by and_intros <;> first | decide +kernel | ((intro c; rcases c with _ | c <;> exact rfl))⟩
  · exact ⟨0, 0, 0, { boot := { pwrgood := true }, nrg := { boughs := [(0, { power := .running })] }, lvs := { leaf := [(0, { released := true, dmem := [(24, 1)] })] }, cnp := { opens := [{ begun := true, fleet := 64, micOk := true, read := { st := 1 } }], ctx := [(0, { st := 1 })], entries := [{ frame := [1, 1, 0, 24] ++ List.replicate 20 0 ++ [0x10, 0, 1, 0] ++ List.replicate 11 0 ++ [1] ++ List.replicate 8 0 }] }, vault := { slots := [(64, { mat := List.replicate 32 1, attr := 809762817 })] } }, { begun := true, fleet := 64, micOk := true, read := { st := 1 } }, { frame := [1, 1, 0, 24] ++ List.replicate 20 0 ++ [0x10, 0, 1, 0] ++ List.replicate 11 0 ++ [1] ++ List.replicate 8 0 }, by and_intros <;> first | decide +kernel | ((intro c; rcases c with _ | c <;> exact rfl))⟩
  · exact ⟨{ boot := { pwrgood := true } }, by and_intros <;> first | decide +kernel | (unfold NoTurns; decide +kernel)⟩
  · exact ⟨{ boot := { pwrgood := true }, kpf := { acked := [JAct.lease 0 0] } }, 0, 0, by and_intros <;> first | decide +kernel | (unfold NoTurns; decide +kernel)⟩

/-- OpensAndCommits: states and operands that meet the premises of its clauses (part 3 of 3). -/
theorem wit_opensAndCommits_3 :
    (∃ (s : State), live s = true ∧ s.boot.pf1 = false) ∧
    (∃ (tk : Bool) (i : BitVec 22) (s : State), let served := if tk = true then s.cnp.tkState ≠ 0 ∧ i.toNat < s.cnp.tkCount else i.toNat < (gcan s).idCount; live s = true ∧ s.boot.pf1 = true ∧ ¬served) ∧
    (∃ (tk : Bool) (i : BitVec 22) (s : State), let k := if tk = true then (gcan s).idCount + i.toNat else i.toNat; let served := if tk = true then s.cnp.tkState ≠ 0 ∧ i.toNat < s.cnp.tkCount else i.toNat < (gcan s).idCount; live s = true ∧ s.boot.pf1 = true ∧ served ∧ NoTurns s ∧ ctxLost k s = false ∧ payloadOf (BitVec.ofNat 64 (ctxSensor k s)) s = none) := by
  refine ⟨?_, ?_, ?_⟩
  · exact ⟨{ boot := { pwrgood := true } }, by and_intros <;> decide +kernel⟩
  · exact ⟨false, 0, { boot := { pwrgood := true, pf1 := true } }, by and_intros <;> decide +kernel⟩
  · exact ⟨false, 0, { boot := { pwrgood := true, pf1 := true }, grn := { installed := true, grain := { canopy := some { idCount := 64 } } } }, by and_intros <;> first | decide +kernel | (unfold NoTurns; decide +kernel)⟩

/-- PowerAndResets: states and operands that meet the premises of its clauses. -/
theorem wit_powerAndResets :
    (∃ (n : Nat) (rails : Bool) (i : StartIn) (k : Nat) (s : State), s.boot.pwrgood = false ∧ s.boot.vstby = true ∧ rails = true ∧ PlainStart i k (atInput n s)) ∧
    (∃ (rails : Bool) (s : State), (s.boot.pwrgood = true ∨ s.boot.vstby = false ∨ rails = false)) ∧
    (∃ (n : Nat) (i : StartIn) (k : Nat) (s : State), s.boot.pwrgood = true ∧ PlainStart i k (atInput n s)) ∧
    (∃ (i : StartIn) (s : State), s.boot.pwrgood = true ∧ i.mbistOk = false) ∧
    (∃ (s : State), s.boot.pwrgood = true) ∧
    (∃ (s : State), s.boot.pwrgood = true ∧ s.ent.dramKeysDue = [] ∧ s.ent.hsVDue = false ∧ s.lcy.retry = none ∧ s.lcy.waitFuse = false ∧ s.boot.lcs ≠ Lcs.returned ∧ s.boot.lcs ≠ Lcs.felled ∧ s.tmp.disPending = none) ∧
    (∃ (s : State) (c : W16) (m : W16), s.boot.pwrgood = true ∧ s.ent.dramKeysDue = [] ∧ s.ent.hsVDue = false ∧ s.lcy.retry = none ∧ s.lcy.waitFuse = false ∧ s.boot.lcs ≠ Lcs.returned ∧ s.boot.lcs ≠ Lcs.felled ∧ s.tmp.disPending = some (c, m)) := by
  refine ⟨?_, ?_, ?_, ?_, ?_, ?_, ?_⟩
  · exact ⟨0, true, { strap := 0, mbistOk := true, fuseOk := true }, 1, { boot := { vstby := true }, fuses := { lcs := [lcsWord 1, lcsWord 1, lcsWord 1] } }, by and_intros <;> first | decide +kernel | (unfold PlainStart; decide +kernel)⟩
  · exact ⟨false, { boot := { pwrgood := true } }, by decide +kernel⟩
  · exact ⟨0, { strap := 0, mbistOk := true, fuseOk := true }, 1, { boot := { pwrgood := true }, fuses := { lcs := [lcsWord 1, lcsWord 1, lcsWord 1] } }, ⟨by decide +kernel, (by unfold PlainStart; decide +kernel)⟩⟩
  · exact ⟨{ strap := 0, mbistOk := false, fuseOk := true }, { boot := { pwrgood := true } }, by and_intros <;> decide +kernel⟩
  · exact ⟨{ boot := { pwrgood := true } }, by decide +kernel⟩
  · exact ⟨{ boot := { pwrgood := true } }, by and_intros <;> decide +kernel⟩
  · exact ⟨{ boot := { pwrgood := true }, tmp := { disPending := (some (0, 0)) } }, 0, 0, by and_intros <;> decide +kernel⟩

/-- PowerFailAndSleep: states and operands that meet the premises of its clauses (part 1 of 2). -/
theorem wit_powerFailAndSleep_1 :
    (∃ (s : State), s.boot.pwrgood = true ∧ s.nrg.flush = Flush.idle ∧ s.slp.state ≠ 2) ∧
    (∃ (s : State), s.boot.pwrgood = true ∧ (s.nrg.flush ≠ Flush.idle ∨ s.slp.state = 2)) ∧
    (∃ (d : Nat) (s : State), (cdom d s).st = CusState.running ∧ cusConfigured d s = true ∧ s.kpf.anchorLost = false ∧ twf { } s.cus.dom = true) ∧
    (∃ (s : State), s.boot.pwrgood = false) ∧
    (∃ (s : State), s.nrg.flush ≠ Flush.settle) ∧
    (∃ (s : State), s.nrg.flush = Flush.settle ∧ (s.boot.keyless = true ∨ s.tmp.erased = true ∨ s.kpf.replayed = false) ∧ (∀ (q : Prog), s.kpf.prog = some q → q.kind = ProgKind.record ∨ q.kind = ProgKind.header)) ∧
    (∃ (s : State), s.nrg.flush = Flush.settle ∧ s.boot.keyless = false ∧ s.tmp.erased = false ∧ s.kpf.replayed = true ∧ (∃ (q : Prog), s.kpf.prog = some q ∧ (q.kind = ProgKind.record ∨ q.kind = ProgKind.header))) ∧
    (∃ (n : Nat) (i : StartIn) (s : State) (k : Nat), let ready := s.boot.pwrgood = true ∧ s.nrg.flush = Flush.done ∧ s.nrg.pfwBall = false ∧ ∃ (h : Nat), s.nrg.pfwHigh = some h ∧ h + 10000000000 ≤ max s.now n; ready ∧ PlainStart i k (atInput n s)) := by
  refine ⟨?_, ?_, ?_, ?_, ?_, ?_, ?_, ?_⟩
  · exact ⟨{ boot := { pwrgood := true }, nrg := { flush := Flush.idle } }, by and_intros <;> decide +kernel⟩
  · exact ⟨{ boot := { pwrgood := true }, nrg := { flush := .settle } }, by and_intros <;> decide +kernel⟩
  · exact ⟨0, { boot := { pwrgood := true }, cus := { dom := [(0, { st := CusState.running })] }, grn := { installed := true, grain := { custody := { domains := [(0, { policy := [0] })] } } } }, by and_intros <;> decide +kernel⟩
  · exact ⟨{}, by decide +kernel⟩
  · exact ⟨{ boot := { pwrgood := true } }, by decide +kernel⟩
  · exact ⟨{ boot := { pwrgood := true, keyless := true }, nrg := { flush := Flush.settle } }, by and_intros <;> decide +kernel⟩
  · exact ⟨{ boot := { pwrgood := true }, nrg := { flush := Flush.settle }, kpf := { replayed := true, pages := [{}], prog := some {} } }, by and_intros <;> decide +kernel⟩
  · exact ⟨10000000000, { strap := 0, mbistOk := true, fuseOk := true }, { boot := { pwrgood := true }, nrg := { flush := .done, pfwHigh := some 0 }, fuses := { lcs := [lcsWord 1, lcsWord 1, lcsWord 1] } }, 1, ⟨⟨by decide +kernel, by decide +kernel, by decide +kernel, 0, rfl, by decide +kernel⟩, (by unfold PlainStart; decide +kernel)⟩⟩

/-- PowerFailAndSleep: states and operands that meet the premises of its clauses (part 2 of 2). -/
theorem wit_powerFailAndSleep_2 :
    (∃ (n : Nat) (s : State), let ready := s.boot.pwrgood = true ∧ s.nrg.flush = Flush.done ∧ s.nrg.pfwBall = false ∧ ∃ (h : Nat), s.nrg.pfwHigh = some h ∧ h + 10000000000 ≤ max s.now n; ¬ready) ∧
    (∃ (s : State), live s = true ∧ s.boot.pf1 = true ∧ s.slp.state = 0) ∧
    (∃ (s : State), live s = true ∧ s.boot.pf1 = true ∧ s.slp.state ≠ 0) ∧
    (∃ (s : State), live s = true ∧ s.boot.pf1 = false) ∧
    (∃ (s : State), let drained := s.slp.state = 1 ∧ (∀ e ∈ s.cus.dom, e.2.released = false) ∧ s.cnp.entries = [] ∧ s.cnp.inbound = [] ∧ s.cnp.held = [] ∧ s.kpf.acts = [] ∧ s.kpf.pages = [] ∧ ∀ e ∈ s.lnk.ports, ∀ x ∈ e.2.lports, x.2.queue = []; live s = true ∧ ¬drained) ∧
    (∃ (s : State), let drained := s.slp.state = 1 ∧ (∀ e ∈ s.cus.dom, e.2.released = false) ∧ s.cnp.entries = [] ∧ s.cnp.inbound = [] ∧ s.cnp.held = [] ∧ s.kpf.acts = [] ∧ s.kpf.pages = [] ∧ ∀ e ∈ s.lnk.ports, ∀ x ∈ e.2.lports, x.2.queue = []; live s = true ∧ drained ∧ s.tmp.erased = true) ∧
    (∃ (s : State), let drained := s.slp.state = 1 ∧ (∀ e ∈ s.cus.dom, e.2.released = false) ∧ s.cnp.entries = [] ∧ s.cnp.inbound = [] ∧ s.cnp.held = [] ∧ s.kpf.acts = [] ∧ s.kpf.pages = [] ∧ ∀ e ∈ s.lnk.ports, ∀ x ∈ e.2.lports, x.2.queue = []; live s = true ∧ drained ∧ s.tmp.erased = false) ∧
    (∃ (s : State), live s = true ∧ s.slp.state = 1 ∧ s.cus.dom = [] ∧ s.cnp = { } ∧ s.kpf.acts = [] ∧ s.kpf.pages = [] ∧ s.lnk = { } ∧ s.dis = [] ∧ s.tmp.erased = false ∧ (∀ (l : Nat), (leafAt l s).role ≠ 1)) := by
  refine ⟨?_, ?_, ?_, ?_, ?_, ?_, ?_, ?_⟩
  · exact ⟨0, { boot := { pwrgood := true } }, by decide +kernel⟩
  · exact ⟨{ boot := { pwrgood := true, pf1 := true } }, by and_intros <;> decide +kernel⟩
  · exact ⟨{ boot := { pwrgood := true, pf1 := true }, slp := { state := 1 } }, by and_intros <;> decide +kernel⟩
  · exact ⟨{ boot := { pwrgood := true } }, by and_intros <;> decide +kernel⟩
  · exact ⟨{ boot := { pwrgood := true } }, by and_intros <;> decide +kernel⟩
  · exact ⟨{ boot := { pwrgood := true }, tmp := { erased := true }, slp := { state := 1 } }, by and_intros <;> decide +kernel⟩
  · exact ⟨{ boot := { pwrgood := true }, slp := { state := 1 } }, by and_intros <;> decide +kernel⟩
  · exact ⟨{ boot := { pwrgood := true }, slp := { state := 1 } }, ⟨by decide +kernel, by decide +kernel, by decide +kernel, by decide +kernel, by decide +kernel, by decide +kernel, by decide +kernel, by decide +kernel, by decide +kernel, fun l h => absurd (show (0 : Nat) = 1 from h) (by decide)⟩⟩

/-- Pushes: states and operands that meet the premises of its clauses (part 1 of 3). -/
theorem wit_pushes_1 :
    (∃ (i3c : Bool) (s : State), let p := s.grn.push; live s = true ∧ pushAllowed s = true ∧ (¬(1 ≤ p.state ∧ p.state ≤ 3) ∨ p.iface = i3c ∧ p.source ≠ 2)) ∧
    (∃ (i3c : Bool) (s : State), let p := s.grn.push; live s = true ∧ pushAllowed s = true ∧ 1 ≤ p.state ∧ p.state ≤ 3 ∧ (p.iface ≠ i3c ∨ p.source = 2)) ∧
    (∃ (s : State), live s = true ∧ pushAllowed s = false) ∧
    (∃ (i3c : Bool) (s : State), MyPush i3c s) ∧
    (∃ (i3c : Bool) (s : State), live s = true ∧ (¬(1 ≤ s.grn.push.state ∧ s.grn.push.state ≤ 3 ∧ s.grn.push.iface = i3c ∧ s.grn.push.source ≤ 1))) ∧
    (∃ (i3c : Bool) (k : BitVec 12) (s : State), let p := s.grn.push; let f := if i3c = true then p.i3cFrame else tget { } p.frames (k.toNat % 256); MyPush i3c s ∧ k.toNat = p.nextPost ∧ (p.total = 0 ∨ k.toNat < p.total) ∧ f.posted = none) ∧
    (∃ (i3c : Bool) (k : BitVec 12) (s : State), let p := s.grn.push; let f := if i3c = true then p.i3cFrame else tget { } p.frames (k.toNat % 256); MyPush i3c s ∧ k.toNat = p.nextPost ∧ (p.total = 0 ∨ k.toNat < p.total) ∧ f.posted ≠ none) ∧
    (∃ (i3c : Bool) (k : BitVec 12) (s : State), let p := s.grn.push; MyPush i3c s ∧ k.toNat ≠ p.nextPost) := by
  refine ⟨?_, ?_, ?_, ?_, ?_, ?_, ?_, ?_⟩
  · exact ⟨false, { boot := { pwrgood := true }, grn := { push := { state := 1 } } }, by and_intros <;> decide +kernel⟩
  · exact ⟨false, { boot := { pwrgood := true }, grn := { push := { state := 1, source := 2 } } }, by and_intros <;> decide +kernel⟩
  · exact ⟨{ boot := { pwrgood := true, stopped := true }, grn := { push := { state := 1 } } }, by and_intros <;> decide +kernel⟩
  · exact ⟨false, { boot := { pwrgood := true }, grn := { push := { state := 1 } } }, (by unfold MyPush; decide +kernel)⟩
  · exact ⟨false, { boot := { pwrgood := true }, grn := { push := { state := 0 } } }, by and_intros <;> decide +kernel⟩
  · exact ⟨false, 0, { boot := { pwrgood := true }, grn := { push := { state := 1 } } }, by and_intros <;> first | decide +kernel | (unfold MyPush; decide +kernel)⟩
  · exact ⟨false, 0, { boot := { pwrgood := true }, grn := { push := { state := 1, frames := [(0, { posted := some (0, []) })] } } }, by and_intros <;> first | decide +kernel | (unfold MyPush; decide +kernel)⟩
  · exact ⟨false, 1, { boot := { pwrgood := true }, grn := { push := { state := 1 } } }, ⟨(by unfold MyPush; decide +kernel), by decide +kernel⟩⟩

/-- Pushes: states and operands that meet the premises of its clauses (part 2 of 3). -/
theorem wit_pushes_2 :
    (∃ (i3c : Bool) (k : BitVec 12) (s : State), let p := s.grn.push; MyPush i3c s ∧ k.toNat = p.nextPost ∧ p.total ≠ 0 ∧ p.total ≤ k.toNat) ∧
    (∃ (s : State), let p := s.grn.push; live s = true ∧ 1 ≤ p.state ∧ p.state ≤ 3 ∧ p.iface = true) ∧
    (∃ (k : Fin 256) (s : State), let p := s.grn.push; let f := tget { } p.frames k.val; live s = true ∧ (¬(1 ≤ p.state ∧ p.state ≤ 3 ∧ p.iface = true)) ∧ f.posted = none) ∧
    (∃ (k : Fin 256) (s : State), let p := s.grn.push; let f := tget { } p.frames k.val; live s = true ∧ (¬(1 ≤ p.state ∧ p.state ≤ 3 ∧ p.iface = true)) ∧ f.posted ≠ none) ∧
    (∃ (s : State), MyPush s.grn.push.iface s ∧ s.grn.push.state ≠ 3 ∧ (s.grn.push.total = 0 ∨ s.grn.push.nextPost < s.grn.push.total)) ∧
    (∃ (s : State), live s = true ∧ (s.grn.push.state ≠ 1 ∧ s.grn.push.state ≠ 2 ∨ 2 ≤ s.grn.push.source ∨ s.grn.push.total ≠ 0 ∧ s.grn.push.total ≤ s.grn.push.nextPost)) ∧
    (∃ (b : Bytes) (s : State), live s = true ∧ (List.length b < 5 ∨ fieldLe b 0 1 ≠ 197)) ∧
    (∃ (b : Bytes) (s : State), live s = true ∧ List.length b = 5 ∧ fieldLe b 0 1 = 197 ∧ 4096 ≤ fieldLe b 1 4 ∧ (fieldLe b 1 4 < 65536 ∨ 131072 ≤ fieldLe b 1 4)) := by
  refine ⟨?_, ?_, ?_, ?_, ?_, ?_, ?_, ?_⟩
  · exact ⟨false, 1, { boot := { pwrgood := true }, grn := { push := { state := 1, total := 1, nextPost := 1 } } }, by and_intros <;> first | decide +kernel | (unfold MyPush; decide +kernel)⟩
  · exact ⟨{ boot := { pwrgood := true }, grn := { push := { iface := true, state := 1 } } }, by and_intros <;> decide +kernel⟩
  · exact ⟨0, { boot := { pwrgood := true }, grn := { push := { state := 1 } } }, by and_intros <;> decide +kernel⟩
  · exact ⟨0, { boot := { pwrgood := true }, grn := { push := { state := 1, frames := [(0, { posted := some (0, []) })] } } }, by and_intros <;> decide +kernel⟩
  · exact ⟨{ boot := { pwrgood := true }, grn := { push := { state := 1 } } }, by and_intros <;> first | decide +kernel | (unfold MyPush; decide +kernel)⟩
  · exact ⟨{ boot := { pwrgood := true }, grn := { push := { state := 0 } } }, by and_intros <;> decide +kernel⟩
  · exact ⟨[], { boot := { pwrgood := true }, grn := { push := { state := 1 } } }, by and_intros <;> decide +kernel⟩
  · exact ⟨[197, 0, 16, 0, 0], { boot := { pwrgood := true }, grn := { push := { state := 1 } } }, by and_intros <;> decide +kernel⟩

/-- Pushes: states and operands that meet the premises of its clauses (part 3 of 3). -/
theorem wit_pushes_3 :
    (∃ (b : Bytes) (s : State), live s = true ∧ List.length b = 5 ∧ fieldLe b 0 1 = 197 ∧ fieldLe b 1 4 < 4096) ∧
    (∃ (b : Bytes) (s : State), live s = true ∧ List.length b = 5 ∧ fieldLe b 0 1 = 197 ∧ 65536 ≤ fieldLe b 1 4 ∧ fieldLe b 1 4 < 131072) ∧
    (∃ (b : Bytes) (s : State), live s = true ∧ 5 < List.length b ∧ fieldLe b 0 1 = 197 ∧ 65536 ≤ fieldLe b 1 4 ∧ fieldLe b 1 4 < 131072 ∧ (¬(1 ≤ s.grn.push.state ∧ s.grn.push.state ≤ 3)) ∧ s.grn.push.i3cFrame.posted = none) ∧
    (∃ (b : Bytes) (s : State) (v : Byte), live s = true ∧ b = [197, 0, 2, 0, 0, v, 0, 0, 0] ∧ BitVec.getLsbD v 0 = true ∧ BitVec.getLsbD v 1 = false) := by
  refine ⟨?_, ?_, ?_, ?_⟩
  · exact ⟨[197, 0, 0, 0, 0], { boot := { pwrgood := true }, grn := { push := { state := 1 } } }, by and_intros <;> decide +kernel⟩
  · exact ⟨[197, 0, 0, 1, 0], { boot := { pwrgood := true }, grn := { push := { state := 1 } } }, by and_intros <;> decide +kernel⟩
  · exact ⟨[197, 0, 0, 1, 0, 7], { boot := { pwrgood := true }, grn := { push := { state := 0 } } }, by and_intros <;> decide +kernel⟩
  · exact ⟨[197, 0, 2, 0, 0, 1, 0, 0, 0], { boot := { pwrgood := true }, grn := { push := { state := 1 } } }, 1, by and_intros <;> decide +kernel⟩

/-- RecordsAndDownlinks: states and operands that meet the premises of its clauses (part 1 of 2). -/
theorem wit_recordsAndDownlinks_1 :
    (∃ (c : Fin 16) (s : State), let x := chanAt c.val s; live s = true ∧ (x.buf = [] ∨ x.ring.en = false ∨ x.ring.isFull = true)) ∧
    (∃ (c : Fin 16) (s : State) (r : Rec) (rest : List Rec), let x := chanAt c.val s; live s = true ∧ x.buf = r :: rest ∧ x.ring.en = true ∧ x.ring.isFull = false ∧ NoTurns s) ∧
    (∃ (c : Fin 16) (s : State), live s = true ∧ (chanAt (16 + c.val) s).buf = []) ∧
    (∃ (c : Fin 16) (s : State) (r : Rec), let g := (gcan s).recCh.getD c.val { }; let y := chanAt (16 + c.val) s; let lp := lport g.port g.lport s; live s = true ∧ y.buf = [r] ∧ r.size ≤ 8000 ∧ lp.up = false) ∧
    (∃ (c : Fin 16) (s : State) (r : Rec), let g := (gcan s).recCh.getD c.val { }; let y := chanAt (16 + c.val) s; let lp := lport g.port g.lport s; live s = true ∧ y.buf = [r] ∧ r.size ≤ 8000 ∧ lp.up = true ∧ lp.fill + 8100 ≤ queueSize g.port s ∧ NoTurns s ∧ g.vlan = 0 ∧ twf { } s.lnk.ports = true ∧ twf { } (portAt g.port s).lports = true ∧ twf { } s.cnp.chans = true) ∧
    (∃ (s : State) (b : Bool), live s = true ∧ (if b = true then s.tel.pf1 else s.tel.pf0).loss = []) ∧
    (∃ (v : BitVec 64) (s : State), let q := s.cnp.dlqReg; live s = true ∧ q.prod ≤ v.toNat ∧ v.toNat ≤ q.cons + 2 ^ q.size) ∧
    (∃ (v : BitVec 64) (s : State), let q := s.cnp.dlqReg; live s = true ∧ (v.toNat < q.prod ∨ q.cons + 2 ^ q.size < v.toNat)) := by
  refine ⟨?_, ?_, ?_, ?_, ?_, ?_, ?_, ?_⟩
  · exact ⟨0, { boot := { pwrgood := true } }, by and_intros <;> decide +kernel⟩
  · exact ⟨0, { boot := { pwrgood := true }, cnp := { chans := [(0, { buf := {} :: [], ring := { en := true } })] } }, {}, [], by and_intros <;> first | decide +kernel | (unfold NoTurns; decide +kernel)⟩
  · exact ⟨0, { boot := { pwrgood := true } }, by and_intros <;> decide +kernel⟩
  · exact ⟨0, { boot := { pwrgood := true }, cnp := { chans := [(16, { buf := [{}] })] }, lnk := { ports := [(0, { lports := [(0, { up := false })] })] } }, {}, by and_intros <;> decide +kernel⟩
  · exact ⟨0, { boot := { pwrgood := true }, cnp := { chans := [(16, { buf := [{}] })] }, lnk := { ports := [(0, { lports := [(0, { up := true })] })] } }, {}, by and_intros <;> first | decide +kernel | (unfold NoTurns; decide +kernel)⟩
  · exact ⟨{ boot := { pwrgood := true } }, false, by and_intros <;> decide +kernel⟩
  · exact ⟨0, { boot := { pwrgood := true } }, by and_intros <;> decide +kernel⟩
  · exact ⟨9, { boot := { pwrgood := true }, cnp := { dlqReg := { prod := 10 } } }, by and_intros <;> decide +kernel⟩

/-- RecordsAndDownlinks: states and operands that meet the premises of its clauses (part 2 of 2). -/
theorem wit_recordsAndDownlinks_2 :
    (∃ (s : State), let q := s.cnp.dlqReg; live s = true ∧ (q.en = false ∨ q.prod ≤ q.cons)) ∧
    (∃ (s : State), let q := s.cnp.dlqReg; let b := mread 0 s.hostMem (BitVec.toNat q.base + 256 * (q.cons % 2 ^ q.size)) 256; let phase := decide (q.cons / 2 ^ q.size % 2 = 0); live s = true ∧ q.en = true ∧ q.cons < q.prod ∧ bitOf (fieldLe b 14 1) 0 ≠ phase) ∧
    (∃ (s : State) (i : Nat), let q := s.cnp.dlqReg; let b := mread 0 s.hostMem (BitVec.toNat q.base + 256 * (q.cons % 2 ^ q.size)) 256; let phase := decide (q.cons / 2 ^ q.size % 2 = 0); let p : Payload := { sensor := BitVec.ofNat 64 (fieldLe b 0 8), tag := BitVec.ofNat 32 (fieldLe b 8 4), aport := fieldLe b 12 1, data := slice b 16 (min 200 (fieldLe b 13 1)), expire := s.slt.slot + BitVec.ofNat 64 (gcan s).dlTtl }; live s = true ∧ q.en = true ∧ q.cons < q.prod ∧ bitOf (fieldLe b 14 1) 0 = phase ∧ ctxIndex (BitVec.toNat p.sensor) s = some i ∧ (ctxAt i s).st = 1 ∧ payloadOf p.sensor s = none ∧ s.cnp.payloads.length < 65536) ∧
    (∃ (s : State), let q := s.cnp.dlqReg; let b := mread 0 s.hostMem (BitVec.toNat q.base + 256 * (q.cons % 2 ^ q.size)) 256; let phase := decide (q.cons / 2 ^ q.size % 2 = 0); let p : Payload := { sensor := BitVec.ofNat 64 (fieldLe b 0 8), tag := BitVec.ofNat 32 (fieldLe b 8 4), aport := fieldLe b 12 1, data := slice b 16 (min 200 (fieldLe b 13 1)), expire := s.slt.slot + BitVec.ofNat 64 (gcan s).dlTtl }; live s = true ∧ q.en = true ∧ q.cons < q.prod ∧ bitOf (fieldLe b 14 1) 0 = phase ∧ ctxIndex (BitVec.toNat p.sensor) s = none ∧ CnpWf s) ∧
    (∃ (s : State), let q := s.cnp.dlqReg; let b := mread 0 s.hostMem (BitVec.toNat q.base + 256 * (q.cons % 2 ^ q.size)) 256; let p : Payload := { sensor := BitVec.ofNat 64 (fieldLe b 0 8), tag := BitVec.ofNat 32 (fieldLe b 8 4), aport := fieldLe b 12 1, data := slice b 16 (min 200 (fieldLe b 13 1)), expire := s.slt.slot + BitVec.ofNat 64 (gcan s).dlTtl }; live s = true ∧ (∀ p ∈ s.cnp.payloads, BitVec.toNat s.slt.slot < BitVec.toNat p.expire)) ∧
    (∃ (s : State) (p : Payload), let q := s.cnp.dlqReg; let b := mread 0 s.hostMem (BitVec.toNat q.base + 256 * (q.cons % 2 ^ q.size)) 256; let p : Payload := { sensor := BitVec.ofNat 64 (fieldLe b 0 8), tag := BitVec.ofNat 32 (fieldLe b 8 4), aport := fieldLe b 12 1, data := slice b 16 (min 200 (fieldLe b 13 1)), expire := s.slt.slot + BitVec.ofNat 64 (gcan s).dlTtl }; live s = true ∧ s.cnp.payloads = [p] ∧ BitVec.toNat p.expire ≤ BitVec.toNat s.slt.slot ∧ CnpWf s) := by
  refine ⟨?_, ?_, ?_, ?_, ?_, ?_⟩
  · exact ⟨{ boot := { pwrgood := true } }, by and_intros <;> decide +kernel⟩
  · exact ⟨{ boot := { pwrgood := true }, cnp := { dlqReg := { en := true, prod := 1 } } }, by and_intros <;> decide +kernel⟩
  · exact ⟨{ boot := { pwrgood := true }, cnp := { dlqReg := { en := true, prod := 1, size := 1 }, ctx := [(0, { st := 1 })] }, hostMem := [(14, 1)], grn := { grain := { canopy := some { idCount := 64 } } } }, 0, by and_intros <;> decide +kernel⟩
  · exact ⟨{ boot := { pwrgood := true }, cnp := { dlqReg := { en := true, prod := 1, size := 1 } }, hostMem := [(14, 1)] }, by and_intros <;> first | decide +kernel | ((intro c; rcases c with _ | c <;> exact rfl))⟩
  · exact ⟨{ boot := { pwrgood := true } }, by and_intros <;> decide +kernel⟩
  · exact ⟨{ boot := { pwrgood := true }, cnp := { payloads := [{}] } }, {}, by and_intros <;> first | decide +kernel | ((intro c; rcases c with _ | c <;> exact rfl))⟩

/-- RegisterWritesAndLog: states and operands that meet the premises of its clauses. -/
theorem wit_registerWritesAndLog :
    (∃ (a : BitVec 32) (wide : Bool) (s : State), live s = true ∧ (s.boot.pf1 = false ∨ NoWrite a wide)) ∧
    (∃ (a : BitVec 32) (s : State), live s = true ∧ s.grn.installed = false ∧ 12288 ≤ a.toNat ∧ a.toNat + 8 ≤ 16777216) ∧
    (∃ (c : Instr) (f : State → State) (s : State), PlainWrite c f ∧ live s = true ∧ s.boot.pf1 = true) ∧
    (∃ (s : State), twf 0 s.att.nonce = true) ∧
    (∃ (c : Instr) (f : State → State) (s : State), ClearWrite c f ∧ live s = true ∧ s.boot.pf1 = true) ∧
    (∃ (s : State), live s = true ∧ s.fuses.xv = false) ∧
    (∃ (s : State), live s = true ∧ s.fuses.xv = true ∧ (s.env.full = true ∨ s.boot.lcs = Lcs.seed ∨ s.boot.lcs = Lcs.sapling)) ∧
    (∃ (s : State), live s = true ∧ s.fuses.xv = true ∧ s.env.full = false ∧ s.boot.lcs ≠ Lcs.seed ∧ s.boot.lcs ≠ Lcs.sapling) := by
  refine ⟨?_, ?_, ?_, ?_, ?_, ?_, ?_, ?_⟩
  · exact ⟨0, false, { boot := { pwrgood := true } }, ⟨by decide +kernel, (by unfold NoWrite; decide +kernel)⟩⟩
  · exact ⟨0x3000, { boot := { pwrgood := true } }, by and_intros <;> decide +kernel⟩
  · exact ⟨_, _, { boot := { pwrgood := true, pf1 := true } }, by refine ⟨.reportAddr 0 0, ?_, ?_⟩ <;> decide +kernel⟩
  · exact ⟨{ boot := { pwrgood := true } }, by decide +kernel⟩
  · exact ⟨_, _, { boot := { pwrgood := true, pf1 := true } }, by refine ⟨.relayTimeout 0 0, ?_, ?_⟩ <;> decide +kernel⟩
  · exact ⟨{ boot := { pwrgood := true } }, by and_intros <;> decide +kernel⟩
  · exact ⟨{ boot := { pwrgood := true }, fuses := { xv := true }, env := { full := true } }, by and_intros <;> decide +kernel⟩
  · exact ⟨{ boot := { pwrgood := true, lcs := .grafted }, fuses := { xv := true } }, by and_intros <;> decide +kernel⟩

/-- RingFrames: states and operands that meet the premises of its clauses (part 1 of 2). -/
theorem wit_ringFrames_1 :
    (∃ (c : Instr) (n : Nat) (e : Bool) (f : RingFrame) (typ : Nat) (s : State), RingRow c n e f typ ∧ live s = true ∧ (portUp e s = false ∨ ringType f.body ≠ typ)) ∧
    (∃ (c : Instr) (n : Nat) (e : Bool) (f : RingFrame) (s : State), RingRow c n e f (ringType f.body) ∧ live s = true ∧ portUp e s = true ∧ portPasses e s = false) ∧
    (∃ (c : Instr) (n : Nat) (e : Bool) (f : RingFrame) (s : State), RingArrives c n e f s ∧ f.src.toNat = memberNo s) ∧
    (∃ (c : Instr) (n : Nat) (e : Bool) (f : RingFrame) (s : State), RingArrives c n e f s ∧ f.src.toNat ≠ memberNo s ∧ f.dst.toNat ≠ memberNo s ∧ f.dst.toNat ≠ 255) ∧
    (∃ (c : Instr) (n : Nat) (e : Bool) (f : RingFrame) (s : State), RingArrives c n e f s ∧ f.src.toNat ≠ memberNo s ∧ (f.dst.toNat = memberNo s ∨ f.dst.toNat = 255) ∧ ringDup f s = true) ∧
    (∃ (e : Bool) (f : RingFrame) (id : Bytes) (q : BitVec 64) (s : State), live s = true ∧ f.body = RingBody.hello id q ∧ (portUp e s = false ∨ padTo 16 id = padTo 16 s.fuses.fuseId)) ∧
    (∃ (e : Bool) (f : RingFrame) (id : Bytes) (q : BitVec 64) (s : State), let right := padTo 16 (memberRange (expected e s) s).fuseId; live s = true ∧ f.body = RingBody.hello id q ∧ portUp e s = true ∧ padTo 16 id ≠ padTo 16 s.fuses.fuseId ∧ inGrove s = true ∧ f.hops = 0 ∧ padTo 16 id ≠ right) ∧
    (∃ (e : Bool) (f : RingFrame) (id : Bytes) (q : BitVec 64) (s : State), live s = true ∧ f.body = RingBody.hello id q ∧ portUp e s = true ∧ padTo 16 id ≠ padTo 16 s.fuses.fuseId ∧ f.hops ≠ 0 ∧ portPasses e s = false) := by
  refine ⟨?_, ?_, ?_, ?_, ?_, ?_, ?_, ?_⟩
  · exact ⟨.ringControl 0 false {}, 0, false, {}, 10, { boot := { pwrgood := true } }, by and_intros <;> first | decide +kernel | (constructor)⟩
  · exact ⟨_, 0, false, { dst := 1 }, { boot := { pwrgood := true }, grn := { installed := true, grain := { grove := some [{}, { fuseId := [1] }, { fuseId := [2] }] } }, fuses := { fuseId := [1] }, grv := { east := true, west := true, misW := true } }, by refine ⟨by constructor, ?_, ?_, ?_⟩ <;> decide +kernel⟩
  · exact ⟨_, 0, false, { dst := 1, src := 1 }, { boot := { pwrgood := true }, grn := { installed := true, grain := { grove := some [{}, { fuseId := [1] }, { fuseId := [2] }] } }, fuses := { fuseId := [1] }, grv := { east := true, west := true } }, ⟨⟨by constructor, by decide +kernel⟩, by decide +kernel⟩⟩
  · exact ⟨_, 0, false, { dst := 2 }, { boot := { pwrgood := true }, grn := { installed := true, grain := { grove := some [{}, { fuseId := [1] }, { fuseId := [2] }] } }, fuses := { fuseId := [1] }, grv := { east := true, west := true } }, by refine ⟨⟨by constructor, by decide +kernel⟩, ?_, ?_, ?_⟩ <;> decide +kernel⟩
  · exact ⟨_, 0, false, { dst := 1 }, { boot := { pwrgood := true }, grn := { installed := true, grain := { grove := some [{}, { fuseId := [1] }, { fuseId := [2] }] } }, fuses := { fuseId := [1] }, grv := { east := true, west := true, seqIn := (tset 0 [] (ringKey { dst := 1 }) 2) } }, by refine ⟨⟨by constructor, by decide +kernel⟩, ?_, ?_, ?_⟩ <;> decide +kernel⟩
  · exact ⟨false, { dst := 1, body := RingBody.hello [] 0 }, [], 0, { boot := { pwrgood := true } }, by and_intros <;> decide +kernel⟩
  · exact ⟨false, { dst := 1, body := RingBody.hello [7] 0, hops := 0 }, [7], 0, { boot := { pwrgood := true }, grn := { installed := true, grain := { grove := some [{}, { fuseId := [1] }, { fuseId := [2] }] } }, fuses := { fuseId := [1] }, grv := { east := true, west := true } }, by and_intros <;> decide +kernel⟩
  · exact ⟨false, { dst := 1, body := RingBody.hello [] 0, hops := 1 }, [], 0, { boot := { pwrgood := true }, grn := { installed := true, grain := { grove := some [{}, { fuseId := [1] }, { fuseId := [2] }] } }, fuses := { fuseId := [1] }, grv := { east := true, west := true, misW := true } }, by and_intros <;> decide +kernel⟩

/-- RingFrames: states and operands that meet the premises of its clauses (part 2 of 2). -/
theorem wit_ringFrames_2 :
    (∃ (e : Bool) (f : RingFrame) (id : Bytes) (q : BitVec 64) (s : State), let right := padTo 16 (memberRange (expected e s) s).fuseId; live s = true ∧ f.body = RingBody.hello id q ∧ portUp e s = true ∧ padTo 16 id ≠ padTo 16 s.fuses.fuseId ∧ inGrove s = true ∧ f.hops = 0 ∧ padTo 16 id = right) ∧
    (∃ (s : State), live s = true ∧ s.boot.romRunning = false) ∧
    (∃ (s : State), live s = true ∧ s.boot.romRunning = true) ∧
    (∃ (n : Nat) (s : State), live s = true ∧ (inGrove s = false ∨ s.grv.isolated = true ∨ max s.now n < s.grv.heard + 25 * psMs)) ∧
    (∃ (n : Nat) (s : State), live s = true ∧ inGrove s = true ∧ s.grv.isolated = false ∧ s.grv.heard + 25 * psMs ≤ max s.now n) := by
  refine ⟨?_, ?_, ?_, ?_, ?_⟩
  · exact ⟨false, { dst := 1, body := RingBody.hello [] 0, hops := 0 }, [], 0, { boot := { pwrgood := true }, grn := { installed := true, grain := { grove := some [{}, { fuseId := [1] }, { fuseId := [2] }] } }, fuses := { fuseId := [1] }, grv := { east := true, west := true } }, by and_intros <;> decide +kernel⟩
  · exact ⟨{ boot := { pwrgood := true } }, by and_intros <;> decide +kernel⟩
  · exact ⟨{ boot := { pwrgood := true, romRunning := true } }, by and_intros <;> decide +kernel⟩
  · exact ⟨0, { boot := { pwrgood := true } }, by and_intros <;> decide +kernel⟩
  · exact ⟨1000000000000000, { boot := { pwrgood := true }, grn := { installed := true, grain := { grove := some [{}, { fuseId := [1] }, { fuseId := [2] }] } }, fuses := { fuseId := [1] }, grv := { east := true, west := true } }, by and_intros <;> decide +kernel⟩

/-- RingGrainAndRelay: states and operands that meet the premises of its clauses (part 1 of 4). -/
theorem wit_ringGrainAndRelay_1 :
    (∃ (n : Nat) (e : Bool) (f : RingFrame) (d : Bytes) (s : State), let p := s.grn.push; let i := f.seq.toNat % 256; RingTaken (Instr.ringGrainBlock n e f) n e f s ∧ f.body = RingBody.grainBlock d ∧ f.src = 0 ∧ isCrown s = false ∧ p.isOpen = true ∧ p.source = 3 ∧ i ≠ 255) ∧
    (∃ (n : Nat) (e : Bool) (f : RingFrame) (d : Bytes) (s : State), let p := s.grn.push; let i := f.seq.toNat % 256; let cnt := if i = 0 then 1 else s.grv.rxCount + 1; let k := p.nextPost; RingTaken (Instr.ringGrainBlock n e f) n e f s ∧ f.body = RingBody.grainBlock d ∧ f.src = 0 ∧ isCrown s = false ∧ p.isOpen = true ∧ p.source = 3 ∧ i = 255 ∧ cnt = 256 ∧ (pushFrame p false k).posted = none) ∧
    (∃ (n : Nat) (e : Bool) (f : RingFrame) (d : Bytes) (s : State), let p := s.grn.push; let i := f.seq.toNat % 256; let cnt := if i = 0 then 1 else s.grv.rxCount + 1; RingTaken (Instr.ringGrainBlock n e f) n e f s ∧ f.body = RingBody.grainBlock d ∧ f.src = 0 ∧ isCrown s = false ∧ p.isOpen = true ∧ p.source = 3 ∧ i = 255 ∧ cnt ≠ 256) ∧
    (∃ (n : Nat) (e : Bool) (f : RingFrame) (d : Bytes) (s : State), let p := s.grn.push; RingTaken (Instr.ringGrainBlock n e f) n e f s ∧ f.body = RingBody.grainBlock d ∧ f.src = 0 ∧ isCrown s = false ∧ (p.isOpen = false ∨ p.source ≠ 3)) ∧
    (∃ (n : Nat) (e : Bool) (f : RingFrame) (s : State) (m : Fin 64), RingTaken (Instr.ringControl n e f) n e f s ∧ f.body = RingBody.control (RingCtl.takeover m)) ∧
    (∃ (n : Nat) (e : Bool) (f : RingFrame) (s : State) (m : Fin 64) (b : Fin 64), RingTaken (Instr.ringControl n e f) n e f s ∧ f.body = RingBody.control (RingCtl.serves m b)) ∧
    (∃ (n : Nat) (e : Bool) (f : RingFrame) (s : State), RingTaken (Instr.ringControl n e f) n e f s ∧ f.body = RingBody.control RingCtl.mirrorReady) ∧
    (∃ (n : Nat) (e : Bool) (f : RingFrame) (s : State) (m : Fin 64) (w : BitVec 64), RingTaken (Instr.ringControl n e f) n e f s ∧ f.body = RingBody.control (RingCtl.handback m w)) := by
  refine ⟨?_, ?_, ?_, ?_, ?_, ?_, ?_, ?_⟩
  · exact ⟨0, false, { dst := 1, body := RingBody.grainBlock [], src := 0, seq := 1 }, [], { boot := { pwrgood := true }, grn := { installed := true, grain := { grove := some [{}, { fuseId := [1] }, { fuseId := [2] }] }, push := { source := 3, state := 1 } }, fuses := { fuseId := [1] }, grv := { east := true, west := true } }, by and_intros <;> first | decide +kernel | (constructor)⟩
  · exact ⟨0, false, { dst := 1, body := RingBody.grainBlock [], src := 0, seq := 255 }, [], { boot := { pwrgood := true }, grn := { installed := true, grain := { grove := some [{}, { fuseId := [1] }, { fuseId := [2] }] }, push := { source := 3, state := 1 } }, fuses := { fuseId := [1] }, grv := { east := true, west := true, rxCount := 255 } }, by and_intros <;> first | decide +kernel | (constructor)⟩
  · exact ⟨0, false, { dst := 1, body := RingBody.grainBlock [], src := 0, seq := 255 }, [], { boot := { pwrgood := true }, grn := { installed := true, grain := { grove := some [{}, { fuseId := [1] }, { fuseId := [2] }] }, push := { source := 3, state := 1 } }, fuses := { fuseId := [1] }, grv := { east := true, west := true } }, by and_intros <;> first | decide +kernel | (constructor)⟩
  · exact ⟨0, false, { dst := 1, body := RingBody.grainBlock [], src := 0 }, [], { boot := { pwrgood := true }, grn := { installed := true, grain := { grove := some [{}, { fuseId := [1] }, { fuseId := [2] }] } }, fuses := { fuseId := [1] }, grv := { east := true, west := true } }, by and_intros <;> first | decide +kernel | (constructor)⟩
  · exact ⟨0, false, { dst := 1, body := RingBody.control (RingCtl.takeover 0) }, { boot := { pwrgood := true }, grn := { installed := true, grain := { grove := some [{}, { fuseId := [1] }, { fuseId := [2] }] } }, fuses := { fuseId := [1] }, grv := { east := true, west := true } }, 0, ⟨⟨⟨by constructor, by decide +kernel⟩, by decide +kernel⟩, by decide +kernel⟩⟩
  · exact ⟨0, false, { dst := 1, body := RingBody.control (RingCtl.serves 0 0) }, { boot := { pwrgood := true }, grn := { installed := true, grain := { grove := some [{}, { fuseId := [1] }, { fuseId := [2] }] } }, fuses := { fuseId := [1] }, grv := { east := true, west := true } }, 0, 0, ⟨⟨⟨by constructor, by decide +kernel⟩, by decide +kernel⟩, by decide +kernel⟩⟩
  · exact ⟨0, false, { dst := 1, body := RingBody.control RingCtl.mirrorReady }, { boot := { pwrgood := true }, grn := { installed := true, grain := { grove := some [{}, { fuseId := [1] }, { fuseId := [2] }] } }, fuses := { fuseId := [1] }, grv := { east := true, west := true } }, ⟨⟨⟨by constructor, by decide +kernel⟩, by decide +kernel⟩, by decide +kernel⟩⟩
  · exact ⟨0, false, { dst := 1, body := RingBody.control (RingCtl.handback 0 0) }, { boot := { pwrgood := true }, grn := { installed := true, grain := { grove := some [{}, { fuseId := [1] }, { fuseId := [2] }] } }, fuses := { fuseId := [1] }, grv := { east := true, west := true } }, 0, 0, ⟨⟨⟨by constructor, by decide +kernel⟩, by decide +kernel⟩, by decide +kernel⟩⟩

/-- RingGrainAndRelay: states and operands that meet the premises of its clauses (part 2 of 4). -/
theorem wit_ringGrainAndRelay_2 :
    (∃ (n : Nat) (e : Bool) (f : RingFrame) (s : State) (base : BitVec 64) (q : BitVec 64), RingTaken (Instr.ringControl n e f) n e f s ∧ f.body = RingBody.control (RingCtl.offer base q)) ∧
    (∃ (n : Nat) (e : Bool) (f : RingFrame) (s : State) (k : BitVec 12) (o : Offer), RingTaken (Instr.ringControl n e f) n e f s ∧ f.body = RingBody.control (RingCtl.blockAck k) ∧ s.grv.offer = some o ∧ o.block = k.toNat ∧ f.src.toNat ∉ o.acked ∧ (∃ m ∈ o.takers, m ∉ o.acked ∧ m ≠ f.src.toNat)) ∧
    (∃ (n : Nat) (e : Bool) (f : RingFrame) (s : State) (k : BitVec 12), RingTaken (Instr.ringControl n e f) n e f s ∧ f.body = RingBody.control (RingCtl.blockAsk k)) ∧
    (∃ (n : Nat) (e : Bool) (f : RingFrame) (s : State), RingTaken (Instr.ringControl n e f) n e f s ∧ f.body = RingBody.control RingCtl.leave) ∧
    (∃ (n : Nat) (e : Bool) (f : RingFrame) (s : State) (m : Fin 64), RingTaken (Instr.ringControl n e f) n e f s ∧ f.body = RingBody.control (RingCtl.back m)) ∧
    (∃ (n : Nat) (e : Bool) (f : RingFrame) (s : State), RingTaken (Instr.ringControl n e f) n e f s ∧ f.body = RingBody.control RingCtl.ceilAsk) ∧
    (∃ (n : Nat) (e : Bool) (f : RingFrame) (s : State) (l : List (BitVec 22 × BitVec 32)) (last : Bool), RingTaken (Instr.ringXfer n e f) n e f s ∧ f.body = RingBody.xferCeil true l last) ∧
    (∃ (n : Nat) (e : Bool) (f : RingFrame) (s : State) (l : List (BitVec 22 × BitVec 32)) (last : Bool), RingTaken (Instr.ringXfer n e f) n e f s ∧ f.body = RingBody.xferCeil false l last) := by
  refine ⟨?_, ?_, ?_, ?_, ?_, ?_, ?_, ?_⟩
  · exact ⟨0, false, { dst := 1, body := RingBody.control (RingCtl.offer 0 0) }, { boot := { pwrgood := true }, grn := { installed := true, grain := { grove := some [{}, { fuseId := [1] }, { fuseId := [2] }] } }, fuses := { fuseId := [1] }, grv := { east := true, west := true } }, 0, 0, ⟨⟨⟨by constructor, by decide +kernel⟩, by decide +kernel⟩, by decide +kernel⟩⟩
  · exact ⟨0, false, { dst := 1, body := RingBody.control (RingCtl.blockAck 0) }, { boot := { pwrgood := true }, grn := { installed := true, grain := { grove := some [{}, { fuseId := [1] }, { fuseId := [2] }] } }, fuses := { fuseId := [1] }, grv := { east := true, west := true, offer := (some { takers := [0, 2] }) } }, 0, { takers := [0, 2] }, by and_intros <;> first | decide +kernel | (constructor)⟩
  · exact ⟨0, false, { dst := 1, body := RingBody.control (RingCtl.blockAsk 0) }, { boot := { pwrgood := true }, grn := { installed := true, grain := { grove := some [{}, { fuseId := [1] }, { fuseId := [2] }] } }, fuses := { fuseId := [1] }, grv := { east := true, west := true } }, 0, ⟨⟨⟨by constructor, by decide +kernel⟩, by decide +kernel⟩, by decide +kernel⟩⟩
  · exact ⟨0, false, { dst := 1, body := RingBody.control RingCtl.leave }, { boot := { pwrgood := true }, grn := { installed := true, grain := { grove := some [{}, { fuseId := [1] }, { fuseId := [2] }] } }, fuses := { fuseId := [1] }, grv := { east := true, west := true } }, ⟨⟨⟨by constructor, by decide +kernel⟩, by decide +kernel⟩, by decide +kernel⟩⟩
  · exact ⟨0, false, { dst := 1, body := RingBody.control (RingCtl.back 0) }, { boot := { pwrgood := true }, grn := { installed := true, grain := { grove := some [{}, { fuseId := [1] }, { fuseId := [2] }] } }, fuses := { fuseId := [1] }, grv := { east := true, west := true } }, 0, ⟨⟨⟨by constructor, by decide +kernel⟩, by decide +kernel⟩, by decide +kernel⟩⟩
  · exact ⟨0, false, { dst := 1, body := RingBody.control RingCtl.ceilAsk }, { boot := { pwrgood := true }, grn := { installed := true, grain := { grove := some [{}, { fuseId := [1] }, { fuseId := [2] }] } }, fuses := { fuseId := [1] }, grv := { east := true, west := true } }, ⟨⟨⟨by constructor, by decide +kernel⟩, by decide +kernel⟩, by decide +kernel⟩⟩
  · exact ⟨0, false, { dst := 1, body := RingBody.xferCeil true [] false }, { boot := { pwrgood := true }, grn := { installed := true, grain := { grove := some [{}, { fuseId := [1] }, { fuseId := [2] }] } }, fuses := { fuseId := [1] }, grv := { east := true, west := true } }, [], false, ⟨⟨⟨by constructor, by decide +kernel⟩, by decide +kernel⟩, by decide +kernel⟩⟩
  · exact ⟨0, false, { dst := 1, body := RingBody.xferCeil false [] false }, { boot := { pwrgood := true }, grn := { installed := true, grain := { grove := some [{}, { fuseId := [1] }, { fuseId := [2] }] } }, fuses := { fuseId := [1] }, grv := { east := true, west := true } }, [], false, ⟨⟨⟨by constructor, by decide +kernel⟩, by decide +kernel⟩, by decide +kernel⟩⟩

/-- RingGrainAndRelay: states and operands that meet the premises of its clauses (part 3 of 4). -/
theorem wit_ringGrainAndRelay_3 :
    (∃ (n : Nat) (e : Bool) (f : RingFrame) (s : State) (l : List (BitVec 22 × Bytes)) (last : Bool), RingTaken (Instr.ringXfer n e f) n e f s ∧ f.body = RingBody.xferCtx l last) ∧
    (∃ (n : Nat) (e : Bool) (f : RingFrame) (s : State) (limb : Fin 4) (env : Bytes), RingTaken (Instr.ringForward n e f) n e f s ∧ f.body = RingBody.forward limb env ∧ canopyOn s = false) ∧
    (∃ (n : Nat) (e : Bool) (f : RingFrame) (s : State) (limb : Fin 4) (env : Bytes), RingTaken (Instr.ringForward n e f) n e f s ∧ f.body = RingBody.forward limb env ∧ canopyOn s = true) ∧
    (∃ (n : Nat) (e : Bool) (f : RingFrame) (s : State) (a : BitVec 32) (wide : Bool) (w : Option (BitVec 64)), RingTaken (Instr.ringRegReq n e f) n e f s ∧ f.body = RingBody.regReq a wide w) ∧
    (∃ (n : Nat) (e : Bool) (f : RingFrame) (s : State) (w : BitVec 64) (r : Relay) (rest : List Relay) (before : List Relay), RingTaken (Instr.ringRegResp n e f) n e f s ∧ f.body = RingBody.regResp w ∧ s.grv.relays = before ++ r :: rest ∧ (∀ x ∈ before, x.member ≠ f.src.toNat) ∧ r.member = f.src.toNat) ∧
    (∃ (s : State), live s = true ∧ s.boot.pf1 = false) ∧
    (∃ (s : State), live s = true ∧ s.boot.pf1 = true ∧ isCrown s = false) ∧
    (∃ (s : State), live s = true ∧ s.boot.pf1 = true ∧ isCrown s = true) := by
  refine ⟨?_, ?_, ?_, ?_, ?_, ?_, ?_, ?_⟩
  · exact ⟨0, false, { dst := 1, body := RingBody.xferCtx [] false }, { boot := { pwrgood := true }, grn := { installed := true, grain := { grove := some [{}, { fuseId := [1] }, { fuseId := [2] }] } }, fuses := { fuseId := [1] }, grv := { east := true, west := true } }, [], false, ⟨⟨⟨by constructor, by decide +kernel⟩, by decide +kernel⟩, by decide +kernel⟩⟩
  · exact ⟨0, false, { dst := 1, body := RingBody.forward 0 [] }, { boot := { pwrgood := true }, grn := { installed := true, grain := { grove := some [{}, { fuseId := [1] }, { fuseId := [2] }] } }, fuses := { fuseId := [1] }, grv := { east := true, west := true } }, 0, [], by and_intros <;> first | decide +kernel | (constructor)⟩
  · exact ⟨0, false, { dst := 1, body := RingBody.forward 0 [] }, { boot := { pwrgood := true }, grn := { installed := true, grain := { grove := some [{}, { fuseId := [1] }, { fuseId := [2] }], canopy := some { idCount := 64 } } }, fuses := { fuseId := [1] }, grv := { east := true, west := true } }, 0, [], by and_intros <;> first | decide +kernel | (constructor)⟩
  · exact ⟨0, false, { dst := 1, body := RingBody.regReq 0 false none }, { boot := { pwrgood := true }, grn := { installed := true, grain := { grove := some [{}, { fuseId := [1] }, { fuseId := [2] }] } }, fuses := { fuseId := [1] }, grv := { east := true, west := true } }, 0, false, none, ⟨⟨⟨by constructor, by decide +kernel⟩, by decide +kernel⟩, by decide +kernel⟩⟩
  · exact ⟨0, false, { dst := 1, body := RingBody.regResp 0 }, { boot := { pwrgood := true }, grn := { installed := true, grain := { grove := some [{}, { fuseId := [1] }, { fuseId := [2] }] } }, fuses := { fuseId := [1] }, grv := { east := true, west := true, relays := [] ++ {} :: [] } }, 0, {}, [], [], by and_intros <;> first | decide +kernel | (constructor)⟩
  · exact ⟨{ boot := { pwrgood := true } }, by and_intros <;> decide +kernel⟩
  · exact ⟨{ boot := { pwrgood := true, pf1 := true } }, by and_intros <;> decide +kernel⟩
  · exact ⟨{ boot := { pwrgood := true, pf1 := true }, grn := { installed := true, grain := { grove := some [{}, { fuseId := [1] }, { fuseId := [2] }] } } }, by and_intros <;> decide +kernel⟩

/-- RingGrainAndRelay: states and operands that meet the premises of its clauses (part 4 of 4). -/
theorem wit_ringGrainAndRelay_4 :
    (∃ (n : Nat) (s : State), let late := fun (r : Relay) => decide (r.since + 100 * psUs ≤ max s.now n); live s = true ∧ List.filter late s.grv.relays = []) ∧
    (∃ (n : Nat) (s : State), let late := fun (r : Relay) => decide (r.since + 100 * psUs ≤ max s.now n); live s = true ∧ List.filter late s.grv.relays ≠ []) := by
  refine ⟨?_, ?_⟩
  · exact ⟨0, { boot := { pwrgood := true } }, by and_intros <;> decide +kernel⟩
  · exact ⟨1000000000, { boot := { pwrgood := true }, grv := { relays := [{}] } }, by and_intros <;> decide +kernel⟩

/-- RingStoreAndTakeover: states and operands that meet the premises of its clauses (part 1 of 5). -/
theorem wit_ringStoreAndTakeover_1 :
    (∃ (s : State), live s = true ∧ s.boot.pf1 = false) ∧
    (∃ (s : State), live s = true ∧ (gcan s).imagePeriod = 0) ∧
    (∃ (s : State) (c : Instr), live s = true ∧ (c = Instr.imageExport ∧ s.boot.pf1 = true ∨ c = Instr.imagePeriodExpiry ∧ (gcan s).imagePeriod ≠ 0) ∧ (s.cnp.st ≠ 3 ∨ s.cnp.img.isSome = true)) ∧
    (∃ (s : State) (c : Instr), live s = true ∧ (c = Instr.imageExport ∧ s.boot.pf1 = true ∨ c = Instr.imagePeriodExpiry ∧ (gcan s).imagePeriod ≠ 0) ∧ s.cnp.st = 3 ∧ s.cnp.img = none ∧ (s.slt.anchored = false ∨ tapKey 46 s = [])) ∧
    (∃ (s : State) (c : Instr), live s = true ∧ (c = Instr.imageExport ∧ s.boot.pf1 = true ∨ c = Instr.imagePeriodExpiry ∧ (gcan s).imagePeriod ≠ 0) ∧ s.cnp.st = 3 ∧ s.cnp.img = none ∧ s.slt.anchored = true ∧ tapKey 46 s ≠ []) ∧
    (∃ (s : State), live s = true ∧ (s.nrg.admitted.all fun (j : Job) => j.act != JobAct.imgExport) = true) ∧
    (∃ (s : State) (m : Img), live s = true ∧ s.cnp.img = some m ∧ (∃ j ∈ s.nrg.admitted, j.act = JobAct.imgExport) ∧ imgChunks s = 1) ∧
    (∃ (s : State), live s = true ∧ s.cnp.st ≠ 1) := by
  refine ⟨?_, ?_, ?_, ?_, ?_, ?_, ?_, ?_⟩
  · exact ⟨{ boot := { pwrgood := true }, grn := { grain := { canopy := some { imagePeriod := 1 } } } }, by and_intros <;> decide +kernel⟩
  · exact ⟨{ boot := { pwrgood := true } }, by and_intros <;> decide +kernel⟩
  · exact ⟨{ boot := { pwrgood := true, pf1 := true } }, .imageExport, by and_intros <;> first | decide +kernel | exact .inl ⟨rfl, by decide⟩⟩
  · exact ⟨{ boot := { pwrgood := true, pf1 := true }, cnp := { st := 3 } }, .imageExport, by and_intros <;> first | decide +kernel | exact .inl ⟨rfl, by decide⟩⟩
  · exact ⟨{ boot := { pwrgood := true, pf1 := true }, cnp := { st := 3 }, slt := { anchored := true }, vault := { tap := [(46, [1])] } }, .imageExport, by and_intros <;> first | decide +kernel | exact .inl ⟨rfl, by decide⟩⟩
  · exact ⟨{ boot := { pwrgood := true } }, by and_intros <;> decide +kernel⟩
  · exact ⟨{ boot := { pwrgood := true }, cnp := { img := (some {}) }, grn := { installed := true, grain := { canopy := some { idCount := 64 } } }, nrg := { admitted := [{ act := .imgExport }] } }, {}, by and_intros <;> decide +kernel⟩
  · exact ⟨{ boot := { pwrgood := true } }, by and_intros <;> decide +kernel⟩

/-- RingStoreAndTakeover: states and operands that meet the premises of its clauses (part 2 of 5). -/
theorem wit_ringStoreAndTakeover_2 :
    (∃ (s : State), let h := mread 0 s.hostMem (BitVec.toNat s.cnp.imgAddr) 64; let good := slice h 8 16 = padTo 16 s.fuses.fuseId ∧ fieldLe h 32 8 = (gcan s).idBase ∧ fieldLe h 40 4 = (gcan s).idCount ∧ fieldLe h 44 4 = imgChunks s; live s = true ∧ s.cnp.st = 1 ∧ s.boot.pf1 = true ∧ ¬good) ∧
    (∃ (s : State), let h := mread 0 s.hostMem (BitVec.toNat s.cnp.imgAddr) 64; let good := slice h 8 16 = padTo 16 s.fuses.fuseId ∧ fieldLe h 32 8 = (gcan s).idBase ∧ fieldLe h 40 4 = (gcan s).idCount ∧ fieldLe h 44 4 = imgChunks s; let c := mread 0 s.hostMem (BitVec.toNat s.cnp.imgAddr + 64) 4112; let k := tapKey 46 s; let iv := imgIv (fieldLe h 24 8) 0; live s = true ∧ s.cnp.st = 1 ∧ s.boot.pf1 = true ∧ good ∧ imgChunks s = 1 ∧ (k = [] ∨ gcmTag k iv (imgAad h 0) (List.take 4096 c) ≠ List.drop 4096 c)) ∧
    (∃ (s : State), live s = true ∧ (s.cnp.st ≠ 2 ∨ ownServed s = true ∨ s.cnp.rangeHeld = true)) ∧
    (∃ (s : State), live s = true ∧ s.cnp.st = 2 ∧ ownServed s = false ∧ s.cnp.rangeHeld = false ∧ inGrove s = true ∧ s.grv.ceilGot = false ∧ 1 < groveSize s ∧ s.now < s.boot.installedAt + (gcan s).imageWait * psS) ∧
    (∃ (s : State), live s = true ∧ s.cnp.st = 2 ∧ ownServed s = false ∧ s.cnp.rangeHeld = false ∧ inGrove s = false ∧ twf { } s.cnp.ctx = true ∧ twf 0 s.kpf.ceilings = true) ∧
    (∃ (i : BitVec 22) (s : State), live s = true ∧ (canopyOn s = false ∨ s.cnp.tkState = 0 ∧ (gcan s).idCount ≤ i.toNat)) ∧
    (∃ (i : BitVec 22) (s : State), live s = true ∧ canopyOn s = true ∧ i.toNat < (gcan s).idCount ∧ ctxLost i.toNat s = true) ∧
    (∃ (i : BitVec 22) (s : State), live s = true ∧ canopyOn s = true ∧ i.toNat < (gcan s).idCount ∧ ctxLost i.toNat s = false ∧ s.cnp.rebuild.length < 64) := by
  refine ⟨?_, ?_, ?_, ?_, ?_, ?_, ?_, ?_⟩
  · exact ⟨{ boot := { pwrgood := true, pf1 := true }, cnp := { st := 1 }, grn := { installed := true, grain := { canopy := some { idCount := 64 } } }, fuses := { fuseId := [1] } }, by and_intros <;> decide +kernel⟩
  · exact ⟨{ boot := { pwrgood := true, pf1 := true }, cnp := { st := 1 }, grn := { installed := true, grain := { canopy := some { idCount := 64 } } }, hostMem := [(40, 64), (44, 1)] }, by and_intros <;> first | decide +kernel | exact ⟨by decide +kernel, by decide +kernel, by decide +kernel, by decide +kernel⟩⟩
  · exact ⟨{ boot := { pwrgood := true } }, by and_intros <;> decide +kernel⟩
  · exact ⟨{ boot := { pwrgood := true }, cnp := { st := 2 }, grn := { installed := true, grain := { grove := some [{}, { fuseId := [1] }, { fuseId := [2] }], canopy := some { imageWait := 1 } } }, fuses := { fuseId := [1] }, grv := { east := true, west := true } }, by and_intros <;> decide +kernel⟩
  · exact ⟨{ boot := { pwrgood := true }, cnp := { st := 2 } }, by and_intros <;> decide +kernel⟩
  · exact ⟨0, { boot := { pwrgood := true } }, by and_intros <;> decide +kernel⟩
  · exact ⟨0, { boot := { pwrgood := true }, grn := { installed := true, grain := { canopy := some { idCount := 64 } } }, cnp := { rebuild := [0] } }, by and_intros <;> decide +kernel⟩
  · exact ⟨0, { boot := { pwrgood := true }, grn := { installed := true, grain := { canopy := some { idCount := 64 } } } }, by and_intros <;> decide +kernel⟩

/-- RingStoreAndTakeover: states and operands that meet the premises of its clauses (part 3 of 5). -/
theorem wit_ringStoreAndTakeover_3 :
    (∃ (i : BitVec 22) (s : State), live s = true ∧ canopyOn s = true ∧ i.toNat < (gcan s).idCount ∧ ctxLost i.toNat s = false ∧ 64 ≤ s.cnp.rebuild.length) ∧
    (∃ (i : BitVec 22) (s : State), live s = true ∧ s.cnp.rebuild.contains i.toNat = false) ∧
    (∃ (i : BitVec 22) (s : State), live s = true ∧ s.cnp.rebuild.contains i.toNat = true ∧ i.toNat < (gcan s).idCount ∧ NoTurns s ∧ CnpWf s) ∧
    (∃ (l : Fin 192) (s : State), live s = true ∧ twf { } s.lvs.leaf = true ∧ (leafAt l.val s).fenced = true) ∧
    (∃ (n : Nat) (l : Fin 192) (s : State), live s = true ∧ twf { } s.lvs.leaf = true ∧ laneStuck l.val (atInput n s) = false) ∧
    (∃ (n : Nat) (l : Fin 192) (s : State), let few := (List.filter (fun (x : Nat) => decide (max s.now n ≤ x + psS)) (tget [] s.lvs.fences (boughOfLeaf l.val))).length < 2; live s = true ∧ twf { } s.lvs.leaf = true ∧ (leafAt l.val s).fenced = false ∧ few ∧ isLane l.val s = false ∧ ((leafAt l.val s).role = roleIdle ∨ (leafAt l.val s).role = roleSpare) ∧ (disOf (UnitId.lane l) s).running = false) ∧
    (∃ (n : Nat) (l : Fin 192) (s : State) (sp : Nat), let few := (List.filter (fun (x : Nat) => decide (max s.now n ≤ x + psS)) (tget [] s.lvs.fences (boughOfLeaf l.val))).length < 2; live s = true ∧ twf { } s.lvs.leaf = true ∧ laneStuck l.val (atInput n s) = true ∧ (leafAt l.val s).fenced = false ∧ few ∧ (gcan s).laneSpare.getD l.val 65535 = sp ∧ spareFree sp s = true ∧ sp ≠ l.val ∧ (disOf (UnitId.lane l) s).running = false ∧ CnpWf s) ∧
    (∃ (b : Fin 12) (s : State), live s = true ∧ twf { } s.lvs.leaf = true ∧ twf { } s.nrg.boughs = true ∧ boughAlive b.val s = false) := by
  refine ⟨?_, ?_, ?_, ?_, ?_, ?_, ?_, ?_⟩
  · exact ⟨1, { boot := { pwrgood := true }, grn := { installed := true, grain := { canopy := some { idCount := 64 } } }, cnp := { rebuild := (List.replicate 64 0) } }, by and_intros <;> decide +kernel⟩
  · exact ⟨0, { boot := { pwrgood := true } }, by and_intros <;> decide +kernel⟩
  · exact ⟨0, { boot := { pwrgood := true }, cnp := { rebuild := [0] }, grn := { installed := true, grain := { canopy := some { idCount := 64 } } } }, by and_intros <;> first | decide +kernel | (unfold NoTurns; decide +kernel) | ((intro c; rcases c with _ | c <;> exact rfl))⟩
  · exact ⟨0, { boot := { pwrgood := true }, lvs := { leaf := [(0, { fenced := true })] } }, by and_intros <;> decide +kernel⟩
  · exact ⟨0, 0, { boot := { pwrgood := true } }, by and_intros <;> decide +kernel⟩
  · exact ⟨0, 0, { boot := { pwrgood := true }, lvs := { leaf := [(0, { role := roleIdle, released := true })] } }, by and_intros <;> decide +kernel⟩
  · exact ⟨200000000, 0, { boot := { pwrgood := true }, grn := { installed := true, grain := { canopy := some { laneSpare := [1] } } }, lvs := { leaf := [(0, { role := 1, released := true }), (1, { role := 5 })] }, nrg := { boughs := [(0, { power := .running })] }, cnp := { lanes := [(0, { ring := [1] })] } }, 1, by and_intros <;> first | decide +kernel | ((intro c; rcases c with _ | c <;> exact rfl))⟩
  · exact ⟨0, { boot := { pwrgood := true } }, by and_intros <;> decide +kernel⟩

/-- RingStoreAndTakeover: states and operands that meet the premises of its clauses (part 4 of 5). -/
theorem wit_ringStoreAndTakeover_4 :
    (∃ (b : Fin 12) (s : State), live s = true ∧ twf { } s.lvs.leaf = true ∧ twf { } s.nrg.boughs = true ∧ boughAlive b.val s = true) ∧
    (∃ (n : Nat) (s : State), live s = true ∧ (∀ p ∈ s.grv.mirrors, max s.now n < p.first + 10 * psMs)) ∧
    (∃ (n : Nat) (s : State) (p : MirrorPage), live s = true ∧ p ∈ s.grv.mirrors ∧ p.first + 10 * psMs ≤ max s.now n ∧ s.cnp.unmirrored = false) ∧
    (∃ (s : State), live s = true ∧ s.grv.tkOrder = none) ∧
    (∃ (s : State) (m : Nat), live s = true ∧ s.grv.tkOrder = some m ∧ canopyOn s = true ∧ inGrove s = true ∧ buddyOf m s = memberNo s ∧ m ≠ memberNo s ∧ s.cnp.tkState = 0) ∧
    (∃ (s : State), live s = true ∧ s.cnp.tkState ≠ 1) ∧
    (∃ (s : State), live s = true ∧ s.cnp.tkState = 1 ∧ twf { } s.cnp.ctx = true) ∧
    (∃ (n : Nat) (s : State), live s = true ∧ (s.cnp.tkState ≠ 3 ∨ handbackQueued s ≠ [] ∧ max s.now n < s.grv.handEdge + psS)) := by
  refine ⟨?_, ?_, ?_, ?_, ?_, ?_, ?_, ?_⟩
  · exact ⟨0, { boot := { pwrgood := true }, nrg := { boughs := [(0, { power := .running })] } }, by and_intros <;> decide +kernel⟩
  · exact ⟨0, { boot := { pwrgood := true } }, by and_intros <;> decide +kernel⟩
  · exact ⟨1000000000000000, { boot := { pwrgood := true }, grv := { mirrors := [{}] } }, {}, by and_intros <;> decide +kernel⟩
  · exact ⟨{ boot := { pwrgood := true } }, by and_intros <;> decide +kernel⟩
  · exact ⟨{ boot := { pwrgood := true }, grv := { tkOrder := (some 0), east := true, west := true }, grn := { installed := true, grain := { canopy := some { idCount := 64 }, grove := some [{}, { fuseId := [1] }, { fuseId := [2] }] } }, fuses := { fuseId := [1] } }, 0, by and_intros <;> decide +kernel⟩
  · exact ⟨{ boot := { pwrgood := true } }, by and_intros <;> decide +kernel⟩
  · exact ⟨{ boot := { pwrgood := true }, cnp := { tkState := 1 } }, by and_intros <;> decide +kernel⟩
  · exact ⟨0, { boot := { pwrgood := true } }, by and_intros <;> decide +kernel⟩

/-- RingStoreAndTakeover: states and operands that meet the premises of its clauses (part 5 of 5). -/
theorem wit_ringStoreAndTakeover_5 :
    (∃ (s : State), live s = true ∧ s.cnp.tkState = 3 ∧ handbackQueued s = []) ∧
    (∃ (s : State), live s = true ∧ (s.cnp.rangeHeld = false ∨ s.grv.xferGot = false)) ∧
    (∃ (s : State), live s = true ∧ s.cnp.rangeHeld = true ∧ s.grv.xferGot = true) ∧
    (∃ (m : Fin 64) (s : State), live s = true ∧ (s.boot.pf1 = false ∨ s.grv.withheld.contains m.val = false)) ∧
    (∃ (m : Fin 64) (s : State), live s = true ∧ s.boot.pf1 = true ∧ s.grv.withheld.contains m.val = true ∧ twf 0 s.grv.served = true) ∧
    (∃ (w : BitVec 64) (s : State), live s = true ∧ s.boot.pf1 = true ∧ (s.grv.back = [] ∨ isCrown s = false ∨ s.grv.handbackAt ≠ 0 ∨ w.toNat ≤ BitVec.toNat s.slt.slot)) ∧
    (∃ (w : BitVec 64) (s : State) (k : Nat) (r : List Nat), live s = true ∧ s.boot.pf1 = true ∧ s.grv.back = k :: r ∧ isCrown s = true ∧ s.grv.handbackAt = 0 ∧ BitVec.toNat s.slt.slot < w.toNat ∧ portPasses true s = false ∧ portPasses false s = false) := by
  refine ⟨?_, ?_, ?_, ?_, ?_, ?_, ?_⟩
  · exact ⟨{ boot := { pwrgood := true }, cnp := { tkState := 3 } }, by and_intros <;> decide +kernel⟩
  · exact ⟨{ boot := { pwrgood := true } }, by and_intros <;> decide +kernel⟩
  · exact ⟨{ boot := { pwrgood := true }, cnp := { rangeHeld := true }, grv := { xferGot := true } }, by and_intros <;> decide +kernel⟩
  · exact ⟨0, { boot := { pwrgood := true } }, by and_intros <;> decide +kernel⟩
  · exact ⟨0, { boot := { pwrgood := true, pf1 := true }, grv := { withheld := [0] } }, by and_intros <;> decide +kernel⟩
  · exact ⟨0, { boot := { pwrgood := true, pf1 := true } }, by and_intros <;> decide +kernel⟩
  · exact ⟨1, { boot := { pwrgood := true, pf1 := true }, grv := { back := (2 :: []), east := false, west := false }, grn := { installed := true, grain := { grove := some [{}, { fuseId := [1] }, { fuseId := [2] }] } }, fuses := { fuseId := [] } }, 2, [], by and_intros <;> decide +kernel⟩

/-- RingTimeAndLoss: states and operands that meet the premises of its clauses (part 1 of 3). -/
theorem wit_ringTimeAndLoss_1 :
    (∃ (s : State), live s = true ∧ isCrown s = false) ∧
    (∃ (s : State), live s = true ∧ isCrown s = true) ∧
    (∃ (s : State), live s = true ∧ (inGrove s = false ∨ groveSize s ≤ 1)) ∧
    (∃ (s : State), live s = true ∧ inGrove s = true ∧ 1 < groveSize s) ∧
    (∃ (s : State), live s = true ∧ inGrove s = false) ∧
    (∃ (e : Bool) (f : RingFrame) (sec : BitVec 48) (ns : BitVec 32) (corr : BitVec 64) (st : Fin 3) (anch : Bool) (s : State), live s = true ∧ f.body = RingBody.sync sec ns corr st anch ∧ portUp e s = true ∧ (portPasses e s = false ∨ isCrown s = true)) ∧
    (∃ (e : Bool) (f : RingFrame) (sec : BitVec 48) (ns : BitVec 32) (corr : BitVec 64) (st : Fin 3) (anch : Bool) (s : State), let d := match s.grv.syncSeq with | none => 1 | some l => (f.seq.toNat + 65536 - l) % 65536; live s = true ∧ f.body = RingBody.sync sec ns corr st anch ∧ portUp e s = true ∧ portPasses e s = true ∧ isCrown s = false ∧ (32768 ≤ d ∨ d = 0 ∧ s.grv.syncHops ≤ f.hops.toNat)) ∧
    (∃ (e : Bool) (f : RingFrame) (sec : BitVec 48) (ns : BitVec 32) (corr : BitVec 64) (st : Fin 3) (anch : Bool) (s : State), let d := match s.grv.syncSeq with | none => 1 | some l => (f.seq.toNat + 65536 - l) % 65536; live s = true ∧ f.body = RingBody.sync sec ns corr st anch ∧ portUp e s = true ∧ portPasses e s = true ∧ onRing s = true ∧ d < 32768 ∧ (d = 0 → f.hops.toNat < s.grv.syncHops)) := by
  refine ⟨?_, ?_, ?_, ?_, ?_, ?_, ?_, ?_⟩
  · exact ⟨{ boot := { pwrgood := true } }, by and_intros <;> decide +kernel⟩
  · exact ⟨{ boot := { pwrgood := true }, grn := { installed := true, grain := { grove := some [{}, { fuseId := [1] }, { fuseId := [2] }] } } }, by and_intros <;> decide +kernel⟩
  · exact ⟨{ boot := { pwrgood := true } }, by and_intros <;> decide +kernel⟩
  · exact ⟨{ boot := { pwrgood := true }, grn := { installed := true, grain := { grove := some [{}, { fuseId := [1] }, { fuseId := [2] }] } }, fuses := { fuseId := [1] }, grv := { east := true, west := true } }, by and_intros <;> decide +kernel⟩
  · exact ⟨{ boot := { pwrgood := true } }, by and_intros <;> decide +kernel⟩
  · exact ⟨false, { dst := 1, body := RingBody.sync 0 0 0 0 false }, 0, 0, 0, 0, false, { boot := { pwrgood := true }, grn := { installed := true, grain := { grove := some [{}, { fuseId := [1] }, { fuseId := [2] }] } }, fuses := { fuseId := [1] }, grv := { east := true, west := true, misE := true, misW := true } }, by and_intros <;> decide +kernel⟩
  · exact ⟨false, { dst := 1, body := RingBody.sync 0 0 0 0 false }, 0, 0, 0, 0, false, { boot := { pwrgood := true }, grn := { installed := true, grain := { grove := some [{}, { fuseId := [1] }, { fuseId := [2] }] } }, fuses := { fuseId := [1] }, grv := { east := true, west := true, syncSeq := some 0 } }, by and_intros <;> decide +kernel⟩
  · exact ⟨false, { dst := 1, body := RingBody.sync 0 0 0 0 false }, 0, 0, 0, 0, false, { boot := { pwrgood := true }, grn := { installed := true, grain := { grove := some [{}, { fuseId := [1] }, { fuseId := [2] }] } }, fuses := { fuseId := [1] }, grv := { east := true, west := true } }, by and_intros <;> decide +kernel⟩

/-- RingTimeAndLoss: states and operands that meet the premises of its clauses (part 2 of 3). -/
theorem wit_ringTimeAndLoss_2 :
    (∃ (n : Nat) (e : Bool) (f : RingFrame) (s : State), RingTaken (Instr.ringDelayReq n e f) n e f s) ∧
    (∃ (n : Nat) (e : Bool) (f : RingFrame) (s : State) (h : Nat) (r : Nat), RingTaken (Instr.ringDelayResp n e f) n e f s ∧ f.body = RingBody.delayResp h ∧ (if e = true then s.grv.reqE else s.grv.reqW) = some r) ∧
    (∃ (n : Nat) (e : Bool) (f : RingFrame) (s : State) (un : Bool) (q : BitVec 64), RingTaken (Instr.ringHeartbeat n e f) n e f s ∧ f.body = RingBody.heartbeat un q) ∧
    (∃ (n : Nat) (e : Bool) (f : RingFrame) (s : State) (l : List (BitVec 22 × BitVec 32)), RingTaken (Instr.ringLeaseMirror n e f) n e f s ∧ f.body = RingBody.leaseMirror l) ∧
    (∃ (n : Nat) (e : Bool) (f : RingFrame) (s : State) (l : List (BitVec 22 × BitVec 32)), RingTaken (Instr.ringLeaseAck n e f) n e f s ∧ f.body = RingBody.leaseAck l) ∧
    (∃ (n : Nat) (m : Fin 64) (s : State), let last := max (tget 0 s.grv.beat m.val - 1) s.boot.installedAt; live s = true ∧ (watches m.val s = false ∨ s.grv.isolated = true ∨ m.val ∈ s.grv.lost ∨ max s.now n < last + 50 * psMs)) ∧
    (∃ (n : Nat) (m : Fin 64) (s : State), let last := max (tget 0 s.grv.beat m.val - 1) s.boot.installedAt; live s = true ∧ watches m.val s = true ∧ s.grv.isolated = false ∧ m.val ∉ s.grv.lost ∧ last + 50 * psMs ≤ max s.now n ∧ s.grv.offer = none ∧ m.val ∈ s.grv.beatUnmirrored) ∧
    (∃ (n : Nat) (m : Fin 64) (s : State), let last := max (tget 0 s.grv.beat m.val - 1) s.boot.installedAt; live s = true ∧ watches m.val s = true ∧ s.grv.isolated = false ∧ m.val ∉ s.grv.lost ∧ last + 50 * psMs ≤ max s.now n ∧ s.grv.offer = none ∧ m.val ∉ s.grv.beatUnmirrored) := by
  refine ⟨?_, ?_, ?_, ?_, ?_, ?_, ?_, ?_⟩
  · exact ⟨0, false, { dst := 1 }, { boot := { pwrgood := true }, grn := { installed := true, grain := { grove := some [{}, { fuseId := [1] }, { fuseId := [2] }] } }, fuses := { fuseId := [1] }, grv := { east := true, west := true } }, ⟨⟨by constructor, by decide +kernel⟩, by decide +kernel⟩⟩
  · exact ⟨0, false, { dst := 1, body := RingBody.delayResp 0 }, { boot := { pwrgood := true }, grn := { installed := true, grain := { grove := some [{}, { fuseId := [1] }, { fuseId := [2] }] } }, fuses := { fuseId := [1] }, grv := { east := true, west := true, reqW := some 0 } }, 0, 0, by and_intros <;> first | decide +kernel | (constructor)⟩
  · exact ⟨0, false, { dst := 1, body := RingBody.heartbeat false 0 }, { boot := { pwrgood := true }, grn := { installed := true, grain := { grove := some [{}, { fuseId := [1] }, { fuseId := [2] }] } }, fuses := { fuseId := [1] }, grv := { east := true, west := true } }, false, 0, ⟨⟨⟨by constructor, by decide +kernel⟩, by decide +kernel⟩, by decide +kernel⟩⟩
  · exact ⟨0, false, { dst := 1, body := RingBody.leaseMirror [] }, { boot := { pwrgood := true }, grn := { installed := true, grain := { grove := some [{}, { fuseId := [1] }, { fuseId := [2] }] } }, fuses := { fuseId := [1] }, grv := { east := true, west := true } }, [], ⟨⟨⟨by constructor, by decide +kernel⟩, by decide +kernel⟩, by decide +kernel⟩⟩
  · exact ⟨0, false, { dst := 1, body := RingBody.leaseAck [] }, { boot := { pwrgood := true }, grn := { installed := true, grain := { grove := some [{}, { fuseId := [1] }, { fuseId := [2] }] } }, fuses := { fuseId := [1] }, grv := { east := true, west := true } }, [], ⟨⟨⟨by constructor, by decide +kernel⟩, by decide +kernel⟩, by decide +kernel⟩⟩
  · exact ⟨0, 0, { boot := { pwrgood := true } }, by and_intros <;> decide +kernel⟩
  · exact ⟨1000000000000000, 0, { boot := { pwrgood := true }, grv := { beatUnmirrored := [0], east := true, west := true }, grn := { installed := true, grain := { grove := some [{}, { fuseId := [1] }, { fuseId := [2] }] } }, fuses := { fuseId := [1] } }, by and_intros <;> decide +kernel⟩
  · exact ⟨1000000000000000, 0, { boot := { pwrgood := true }, grn := { installed := true, grain := { grove := some [{}, { fuseId := [1] }, { fuseId := [2] }] } }, fuses := { fuseId := [1] }, grv := { east := true, west := true } }, by and_intros <;> decide +kernel⟩

/-- RingTimeAndLoss: states and operands that meet the premises of its clauses (part 3 of 3). -/
theorem wit_ringTimeAndLoss_3 :
    (∃ (n : Nat) (s : State), let due := fun (p : MirrorPage) => decide (p.last + 2 * psMs ≤ max s.now n) && decide (p.sent ≤ 4); live s = true ∧ List.filter due s.grv.mirrors = []) ∧
    (∃ (n : Nat) (s : State) (p : MirrorPage), let due := fun (p : MirrorPage) => decide (p.last + 2 * psMs ≤ max s.now n) && decide (p.sent ≤ 4); live s = true ∧ List.filter due s.grv.mirrors = [p] ∧ wayTo (buddyOf (memberNo s) s) s ≠ []) := by
  refine ⟨?_, ?_⟩
  · exact ⟨0, { boot := { pwrgood := true } }, by and_intros <;> decide +kernel⟩
  · exact ⟨100000000000, { boot := { pwrgood := true }, grn := { installed := true, grain := { grove := some [{}, { fuseId := [1] }, { fuseId := [2] }] } }, fuses := { fuseId := [1] }, grv := { east := true, west := true, mirrors := [{}] } }, {}, by and_intros <;> decide +kernel⟩

/-- SapCiphersSubmit: states and operands that meet the premises of its clauses. -/
theorem wit_sapCiphersSubmit :
    ∃ (c : Instr) (op : Nat) (l : Fin 192) (t : Fin 8) (desc : BitVec 16) (s : State), op ≤ 8 ∧ IsSap c l t desc op ∧ SapGood l.val t desc op s ∧ sapKeyOk l.val op (sapD l.val desc s) s ∧ (sapD l.val desc s).key < 4096 :=
  ⟨_, 1, 0, 0, 0, { boot := { pwrgood := true }, nrg := { boughs := [(0, { power := .running })] }, lvs := { leaf := [(0, { released := true, dmem := [(0, 64), (4, 64), (8, 16), (12, 128)] })] }, vault := { slots := [(64, { mat := (List.replicate 16 0), attr := 268435457 })] } }, by refine ⟨?_, rfl, (by refine ⟨?_, ?_, ?_, ?_, ?_⟩ <;> decide +kernel), ⟨_, _, rfl, by decide +kernel⟩, ?_⟩ <;> decide +kernel⟩

/-- SapDerivesAndRandom: states and operands that meet the premises of its clauses. -/
theorem wit_sapDerivesAndRandom :
    (∃ (l : Fin 192) (t : Fin 8) (desc : BitVec 16) (s : State), let d := sapD l.val desc s; SapGood l.val t desc 24 s ∧ sapKeyOk l.val 24 d s ∧ d.key < 4096) ∧
    (∃ (l : Fin 192) (t : Fin 8) (desc : BitVec 16) (s : State), SapGood l.val t desc 32 s) := by
  refine ⟨?_, ?_⟩
  · exact ⟨0, 0, 0, { boot := { pwrgood := true }, nrg := { boughs := [(0, { power := .running })] }, lvs := { leaf := [(0, { released := true, dmem := [(0, 64), (28, 1)] })] }, vault := { slots := [(64, { mat := List.replicate 32 1, attr := 809762817 })] } }, ⟨(by refine ⟨?_, ?_, ?_, ?_, ?_⟩ <;> decide +kernel), ⟨_, _, rfl, by decide +kernel⟩, by decide +kernel⟩⟩
  · exact ⟨0, 0, 0, { boot := { pwrgood := true }, nrg := { boughs := [(0, { power := .running })] }, lvs := { leaf := [(0, { released := true, dmem := [(12, 128), (28, 1)] })] } }, (by refine ⟨?_, ?_, ?_, ?_, ?_⟩ <;> decide +kernel)⟩

/-- SapHashesSubmit: states and operands that meet the premises of its clauses. -/
theorem wit_sapHashesSubmit :
    ∃ (c : Instr) (op : Nat) (l : Fin 192) (t : Fin 8) (desc : BitVec 16) (s : State), let d := sapD l.val desc s; 9 ≤ op ∧ op ≤ 23 ∧ IsSap c l t desc op ∧ SapGood l.val t desc op s ∧ (op ≤ 15 → sapKeyOk l.val op d s ∧ d.key < 4096) :=
  ⟨_, 16, 0, 0, 0, { boot := { pwrgood := true }, nrg := { boughs := [(0, { power := .running })] }, lvs := { leaf := [(0, { released := true, dmem := [(2, 3), (4, 64), (8, 16), (12, 128)] })] } }, by refine ⟨?_, ?_, rfl, (by refine ⟨?_, ?_, ?_, ?_, ?_⟩ <;> decide +kernel), (fun h => absurd h (by decide))⟩ <;> decide +kernel⟩

/-- SapReadyAndDma: states and operands that meet the premises of its clauses. -/
theorem wit_sapReadyAndDma :
    (∃ (l : Fin 192) (t : Fin 8) (s : State) (r : SapReq), live s = true ∧ leafAlive l.val s = true ∧ (sapTag l.val t.val s).req = some r ∧ r.entry = none ∧ r.commit = none ∧ r.toSlots = [] ∧ r.draw = none ∧ r.awaits = [] ∧ r.secure = 0 ∧ r.why = 0 ∧ r.code ≠ 20497 ∧ Memory.wf (leafAt l.val s).dmem = true ∧ twf { } (leafAt l.val s).tags = true) ∧
    (∃ (l : Fin 192) (t : Fin 8) (s : State) (r : SapReq) (n : Nat) (since : Nat), live s = true ∧ leafAlive l.val s = true ∧ (sapTag l.val t.val s).req = some r ∧ r.entry = none ∧ r.commit = none ∧ r.toSlots = [] ∧ r.draw = some (n, since) ∧ r.once = true ∧ r.secure = 0 ∧ r.why = 0 ∧ r.awaits = [] ∧ drbgRequest (limbOfBough (boughOfLeaf l.val)) false n { s with out := [] } = none ∧ s.now < since + 10 ^ 10) ∧
    (∃ (l : Fin 192) (t : Fin 8) (s : State) (r : SapReq) (n : Nat) (since : Nat), live s = true ∧ leafAlive l.val s = true ∧ (sapTag l.val t.val s).req = some r ∧ r.entry = none ∧ r.commit = none ∧ r.toSlots = [] ∧ r.draw = some (n, since) ∧ r.once = true ∧ r.secure = 0 ∧ r.why = 0 ∧ r.awaits = [] ∧ drbgRequest (limbOfBough (boughOfLeaf l.val)) false n { s with out := [] } = none ∧ since + 10 ^ 10 ≤ s.now) ∧
    (∃ (c : Instr) (op : Nat) (l : Fin 192) (t : Fin 8) (desc : BitVec 16) (s : State), IsSap c l t desc op ∧ live s = true ∧ leafCanIssue l.val s = true ∧ (sapTag l.val t.val s).req.isSome = true) ∧
    (∃ (l : Fin 192) (s : State), let x := leafAt l.val s; live s = true ∧ leafCanIssue l.val s = true ∧ x.xfer.isSome = true) ∧
    (∃ (l : Fin 192) (s : State), let x := leafAt l.val s; live s = true ∧ leafCanIssue l.val s = true ∧ x.xfer = none) ∧
    (∃ (l : Fin 192) (s : State) (d : LeafXfer), live s = true ∧ (leafAt l.val s).xfer = some d ∧ boughRuns (boughOfLeaf l.val) s = true ∧ d.refused = false ∧ d.toFar = true ∧ d.bough = true ∧ twf [] s.lvs.bough = true ∧ Memory.wf (tget [] s.lvs.bough (l.val / 16)) = true) := by
  refine ⟨?_, ?_, ?_, ?_, ?_, ?_, ?_⟩
  · exact ⟨0, 0, { boot := { pwrgood := true }, nrg := { boughs := [(0, { power := .running })] }, lvs := { leaf := [(0, { released := true, tags := [(0, { req := some {} })] })] } }, {}, by and_intros <;> decide +kernel⟩
  · exact ⟨0, 0, { boot := { pwrgood := true }, lvs := { leaf := [(0, { released := true, tags := [(0, { req := some { draw := some (0, 0), once := true } })] })] } }, { draw := some (0, 0), once := true }, 0, 0, by and_intros <;> decide +kernel⟩
  · exact ⟨0, 0, { boot := { pwrgood := true }, lvs := { leaf := [(0, { released := true, tags := [(0, { req := some { draw := some (0, 0), once := true } })] })] }, now := 10000000000 }, { draw := some (0, 0), once := true }, 0, 0, by and_intros <;> decide +kernel⟩
  · exact ⟨_, 16, 0, 0, 0, { boot := { pwrgood := true }, nrg := { boughs := [(0, { power := .running })] }, lvs := { leaf := [(0, { released := true, tags := [(0, { req := some {} })] })] } }, by refine ⟨rfl, ?_, ?_, ?_⟩ <;> decide +kernel⟩
  · exact ⟨0, { boot := { pwrgood := true }, nrg := { boughs := [(0, { power := .running })] }, lvs := { leaf := [(0, { released := true, xfer := some {} })] } }, by and_intros <;> decide +kernel⟩
  · exact ⟨0, { boot := { pwrgood := true }, nrg := { boughs := [(0, { power := .running })] }, lvs := { leaf := [(0, { released := true })] } }, by and_intros <;> decide +kernel⟩
  · exact ⟨0, { boot := { pwrgood := true }, lvs := { leaf := [(0, { xfer := (some { toFar := true, bough := true }) })] }, nrg := { boughs := [(0, { power := .running })] } }, { toFar := true, bough := true }, by and_intros <;> decide +kernel⟩

/-- SpdmRequests: states and operands that meet the premises of its clauses (part 1 of 2). -/
theorem wit_spdmRequests_1 :
    (∃ (c : Instr) (q : SpdmPort) (b : Bool) (m : Bytes) (s : State), SpdmAsk c q b m ∧ live s = true ∧ spdmLive q s = false) ∧
    (∃ (c : Instr) (q : SpdmPort) (b : Bool) (m : Bytes) (s : State), SpdmAsk c q b m ∧ live s = true ∧ spdmLive q s = true ∧ b = true) ∧
    (∃ (c : Instr) (q : SpdmPort) (b : Bool) (m : Bytes) (s : State), SpdmAsk c q b m ∧ live s = true ∧ spdmLive q s = true ∧ b = false ∧ (spdmConn (spdmPort q) s).resync = true ∧ spdmCode m ≠ 132) ∧
    (∃ (c : Instr) (q : SpdmPort) (m : Bytes) (s : State), let x := spdmConn (spdmPort q) s; SpdmAsk c q false m ∧ SpdmServed q s ∧ spdmCode m ∉ [129, 130, 131, 132, 224, 225, 227, 228] ∧ x.resync = false) ∧
    (∃ (c : Instr) (q : SpdmPort) (m : Bytes) (s : State), SpdmAsk c q false m ∧ SpdmServed q s ∧ spdmCode m = 132) ∧
    (∃ (c : Instr) (q : SpdmPort) (m : Bytes) (s : State), let x := spdmConn (spdmPort q) s; SpdmAsk c q false m ∧ SpdmServed q s ∧ spdmCode m ∈ [129, 130, 131, 224, 225, 227, 228] ∧ x.resync = false ∧ x.state ≠ spdmStage (spdmCode m)) ∧
    (∃ (c : Instr) (q : SpdmPort) (m : Bytes) (s : State), SpdmAsk c q false m ∧ SpdmInTurn q m s ∧ hasDevid s = false ∧ (spdmCode m ∈ [129, 130, 131, 228] ∨ spdmCode m = 224 ∧ (spdmP1 m).testBit 0 = true)) ∧
    (∃ (c : Instr) (q : SpdmPort) (m : Bytes) (s : State), let u := spdmTurn q m s; SpdmAsk c q false m ∧ SpdmInTurn q m s ∧ (spdmCode m = 131 ∧ spdmP1 m = 0 ∧ hasDevid s = true ∨ spdmCode m = 224 ∧ (measSelect (spdmP2 m) u).isSome = true ∧ ((spdmP1 m).testBit 0 = false ∨ hasDevid s = true)) ∧ drbgRequest 4 false 32 u = none ∧ s.now < waitsSince s.now s + 10 * psMs) := by
  refine ⟨?_, ?_, ?_, ?_, ?_, ?_, ?_, ?_⟩
  · exact ⟨.spdmGetVersion .pf0 false [0x12, 0x84], .pf0, false, [0x12, 0x84], { boot := { pwrgood := true, romRunning := false }, spdm := { conns := [(0, { version := 0x12, state := 0 })] } }, by and_intros <;> first | decide +kernel | (constructor; decide +kernel)⟩
  · exact ⟨.spdmGetVersion .pf0 true [0x12, 0x84], .pf0, true, [0x12, 0x84], { boot := { pwrgood := true, romRunning := true }, spdm := { conns := [(0, { version := 0x12, state := 0 })] } }, by and_intros <;> first | decide +kernel | (constructor; decide +kernel)⟩
  · exact ⟨.spdmGetDigests .pf0 false [0x12, 0x81], .pf0, false, [0x12, 0x81], { boot := { pwrgood := true, romRunning := true }, spdm := { conns := [(0, { version := 0x12, state := 3, resync := true })] } }, by and_intros <;> first | decide +kernel | (constructor; decide +kernel)⟩
  · exact ⟨.spdmUnsupportedRequest .pf0 false [0x12, 0x00], .pf0, [0x12, 0x00], { boot := { pwrgood := true, romRunning := true }, spdm := { conns := [(0, { version := 0x12, state := 3 })] } }, by and_intros <;> first | decide +kernel | (constructor; decide +kernel) | (refine ⟨?_, ?_, ?_⟩ <;> decide +kernel)⟩
  · exact ⟨.spdmGetVersion .pf0 false [0x12, 0x84], .pf0, [0x12, 0x84], { boot := { pwrgood := true, romRunning := true }, spdm := { conns := [(0, { version := 0x12, state := 0 })] } }, ⟨by constructor; decide +kernel, by refine ⟨?_, ?_, ?_⟩ <;> decide +kernel, by decide +kernel⟩⟩
  · exact ⟨.spdmGetDigests .pf0 false [0x12, 0x81], .pf0, [0x12, 0x81], { boot := { pwrgood := true, romRunning := true }, spdm := { conns := [(0, { version := 0x12, state := 0 })] } }, by and_intros <;> first | decide +kernel | (constructor; decide +kernel) | (refine ⟨?_, ?_, ?_⟩ <;> decide +kernel)⟩
  · exact ⟨.spdmGetDigests .pf0 false [0x12, 0x81], .pf0, [0x12, 0x81], { boot := { pwrgood := true, romRunning := true }, spdm := { conns := [(0, { version := 0x12, state := 3 })] } }, by and_intros <;> first | decide +kernel | (constructor; decide +kernel) | (refine ⟨⟨?_, ?_, ?_⟩, ?_, ?_, ?_⟩ <;> decide +kernel)⟩
  · exact ⟨.spdmChallenge .pf0 false [0x12, 0x83], .pf0, [0x12, 0x83], { boot := { pwrgood := true, romRunning := true }, spdm := { conns := [(0, { version := 0x12, state := 3 })] }, vault := { tap := [(3, [1])] } }, by and_intros <;> first | decide +kernel | (constructor <;> decide +kernel) | (unfold SpdmInTurn SpdmServed; decide +kernel)⟩

/-- SpdmRequests: states and operands that meet the premises of its clauses (part 2 of 2). -/
theorem wit_spdmRequests_2 :
    (∃ (c : Instr) (q : SpdmPort) (m : Bytes) (s : State) (l : List Bytes) (n : Bytes) (w : State), let u := spdmTurn q m s; SpdmAsk c q false m ∧ SpdmInTurn q m s ∧ spdmCode m = 224 ∧ (spdmP1 m).testBit 0 = false ∧ measSelect (spdmP2 m) u = some l ∧ drbgRequest 4 false 32 u = some (n, w)) ∧
    (∃ (c : Instr) (q : SpdmPort) (m : Bytes) (s : State), SpdmAsk c q false m ∧ SpdmInTurn q m s ∧ spdmCode m = 225) ∧
    (∃ (c : Instr) (q : SpdmPort) (m : Bytes) (s : State), SpdmAsk c q false m ∧ SpdmInTurn q m s ∧ spdmCode m = 227) ∧
    (∃ (c : Instr) (q : SpdmPort) (m : Bytes) (s : State), SpdmAsk c q false m ∧ SpdmInTurn q m s ∧ spdmCode m = 129 ∧ hasDevid s = true) ∧
    (∃ (c : Instr) (q : SpdmPort) (m : Bytes) (s : State), let ch := spdmChain s; let off := fieldLe m 4 2; SpdmAsk c q false m ∧ SpdmInTurn q m s ∧ spdmCode m = 130 ∧ hasDevid s = true ∧ spdmP1 m % 16 = 0 ∧ off < List.length ch) ∧
    (∃ (c : Instr) (q : SpdmPort) (m : Bytes) (s : State), let ch := spdmChain s; let off := fieldLe m 4 2; SpdmAsk c q false m ∧ SpdmInTurn q m s ∧ spdmCode m = 130 ∧ hasDevid s = true ∧ (spdmP1 m % 16 ≠ 0 ∨ List.length ch ≤ off)) := by
  refine ⟨?_, ?_, ?_, ?_, ?_, ?_⟩
  · exact ⟨.spdmGetMeasurements .pf0 false [0x12, 0xE0], .pf0, [0x12, 0xE0], { boot := { pwrgood := true, romRunning := true }, spdm := { conns := [(0, { version := 0x12, state := 3 })] }, ent := { drbg := [(4, { on := true, k := [1], v := [2] })] } }, [], _, _, by refine ⟨by constructor; decide +kernel, by refine ⟨⟨?_, ?_, ?_⟩, ?_, ?_, ?_⟩ <;> decide +kernel, ?_, ?_, ?_, rfl⟩ <;> decide +kernel⟩
  · exact ⟨.spdmGetCapabilities .pf0 false [0x12, 0xE1], .pf0, [0x12, 0xE1], { boot := { pwrgood := true, romRunning := true }, spdm := { conns := [(0, { version := 0x12, state := 1 })] } }, ⟨by constructor; decide +kernel, by refine ⟨⟨?_, ?_, ?_⟩, ?_, ?_, ?_⟩ <;> decide +kernel, by decide +kernel⟩⟩
  · exact ⟨.spdmNegotiateAlgorithms .pf0 false [0x12, 0xE3], .pf0, [0x12, 0xE3], { boot := { pwrgood := true, romRunning := true }, spdm := { conns := [(0, { version := 0x12, state := 2 })] } }, ⟨by constructor; decide +kernel, by refine ⟨⟨?_, ?_, ?_⟩, ?_, ?_, ?_⟩ <;> decide +kernel, by decide +kernel⟩⟩
  · exact ⟨.spdmGetDigests .pf0 false [0x12, 0x81], .pf0, [0x12, 0x81], { boot := { pwrgood := true, romRunning := true }, spdm := { conns := [(0, { version := 0x12, state := 3 })] }, vault := { tap := [(3, [1])] } }, by and_intros <;> first | decide +kernel | (constructor; decide +kernel) | (refine ⟨⟨?_, ?_, ?_⟩, ?_, ?_, ?_⟩ <;> decide +kernel)⟩
  · exact ⟨.spdmGetCertificate .pf0 false [0x12, 0x82], .pf0, [0x12, 0x82], { boot := { pwrgood := true, romRunning := true }, spdm := { conns := [(0, { version := 0x12, state := 3 })] }, vault := { tap := [(3, [1])] } }, by and_intros <;> first | decide +kernel | (constructor; decide +kernel) | (refine ⟨⟨?_, ?_, ?_⟩, ?_, ?_, ?_⟩ <;> decide +kernel)⟩
  · exact ⟨.spdmGetCertificate .pf0 false ([0x12, 0x82] ++ [1]), .pf0, ([0x12, 0x82] ++ [1]), { boot := { pwrgood := true, romRunning := true }, spdm := { conns := [(0, { version := 0x12, state := 3 })] }, vault := { tap := [(3, [1])] } }, by and_intros <;> first | decide +kernel | (constructor; decide +kernel) | (refine ⟨⟨?_, ?_, ?_⟩, ?_, ?_, ?_⟩ <;> decide +kernel)⟩

/-- SpdmSessions: states and operands that meet the premises of its clauses (part 1 of 2). -/
theorem wit_spdmSessions_1 :
    (∃ (c : Instr) (q : SpdmPort) (m : Bytes) (s : State) (n : Bytes) (w : State), let u := spdmTurn q m s; SpdmAsk c q false m ∧ SpdmInTurn q m s ∧ hasDevid s = true ∧ spdmCode m = 131 ∧ spdmP1 m = 0 ∧ drbgRequest 4 false 32 u = some (n, w)) ∧
    (∃ (c : Instr) (q : SpdmPort) (m : Bytes) (s : State) (l : List Bytes) (n : Bytes) (w : State), let u := spdmTurn q m s; SpdmAsk c q false m ∧ SpdmInTurn q m s ∧ hasDevid s = true ∧ spdmCode m = 224 ∧ (spdmP1 m).testBit 0 = true ∧ measSelect (spdmP2 m) u = some l ∧ drbgRequest 4 false 32 u = some (n, w)) ∧
    (∃ (c : Instr) (q : SpdmPort) (m : Bytes) (s : State), SpdmAsk c q false m ∧ SpdmInTurn q m s ∧ hasDevid s = true ∧ spdmCode m = 228 ∧ 8 ≤ s.spdm.sessions.length) ∧
    (∃ (c : Instr) (q : SpdmPort) (b : Bytes) (row : Nat → Bool) (s : State), let k := spdmConn (spdmPort q) s; SpdmSealed c q b row ∧ SpdmServed q s ∧ row 0 = true ∧ k.resync = true) ∧
    (∃ (c : Instr) (q : SpdmPort) (b : Bytes) (row : Nat → Bool) (s : State), let k := spdmConn (spdmPort q) s; SpdmSealed c q b row ∧ SpdmServed q s ∧ row 0 = true ∧ k.resync = false ∧ spdmNamed q b s = none) ∧
    (∃ (c : Instr) (q : SpdmPort) (b : Bytes) (row : Nat → Bool) (s : State) (x : SpdmSession), let k := spdmConn (spdmPort q) s; SpdmSealed c q b row ∧ SpdmServed q s ∧ row 0 = true ∧ k.resync = false ∧ spdmNamed q b s = some x ∧ x.cleared = true) ∧
    (∃ (c : Instr) (q : SpdmPort) (b : Bytes) (row : Nat → Bool) (s : State) (x : SpdmSession), let k := spdmConn (spdmPort q) s; SpdmSealed c q b row ∧ SpdmServed q s ∧ row 0 = true ∧ k.resync = false ∧ spdmNamed q b s = some x ∧ x.cleared = false ∧ spdmOpen k.version x b = none) ∧
    (∃ (c : Instr) (q : SpdmPort) (b : Bytes) (m : Bytes) (x : SpdmSession) (s : State), SpdmOpens c q b m x s ∧ spdmCode m = 236) := by
  refine ⟨?_, ?_, ?_, ?_, ?_, ?_, ?_, ?_⟩
  · exact ⟨.spdmChallenge .pf0 false [0x12, 0x83], .pf0, [0x12, 0x83], { boot := { pwrgood := true, romRunning := true }, spdm := { conns := [(0, { version := 0x12, state := 3 })] }, vault := { tap := [(3, [1])] }, ent := { drbg := [(0, { on := true, k := [1], v := [2] }), (4, { on := true, k := [1], v := [2] })] } }, _, _, by refine ⟨by constructor; decide +kernel, by refine ⟨⟨?_, ?_, ?_⟩, ?_, ?_, ?_⟩ <;> decide +kernel, ?_, ?_, ?_, rfl⟩ <;> decide +kernel⟩
  · exact ⟨.spdmGetMeasurements .pf0 false ([0x12, 0xE0] ++ [1]), .pf0, ([0x12, 0xE0] ++ [1]), { boot := { pwrgood := true, romRunning := true }, spdm := { conns := [(0, { version := 0x12, state := 3 })] }, vault := { tap := [(3, [1])] }, ent := { drbg := [(0, { on := true, k := [1], v := [2] }), (4, { on := true, k := [1], v := [2] })] } }, [], _, _, by refine ⟨by constructor; decide +kernel, by refine ⟨⟨?_, ?_, ?_⟩, ?_, ?_, ?_⟩ <;> decide +kernel, ?_, ?_, ?_, ?_, rfl⟩ <;> decide +kernel⟩
  · exact ⟨.spdmKeyExchange .pf0 false [0x12, 0xE4], .pf0, [0x12, 0xE4], { boot := { pwrgood := true, romRunning := true }, spdm := { conns := [(0, { version := 0x12, state := 3 })], sessions := (List.replicate 8 {}) }, vault := { tap := [(3, [1])] } }, by and_intros <;> first | decide +kernel | (constructor; decide +kernel) | (refine ⟨⟨?_, ?_, ?_⟩, ?_, ?_, ?_⟩ <;> decide +kernel)⟩
  · exact ⟨.spdmSecuredMessage .pf0 false (List.replicate 4 0), .pf0, (List.replicate 4 0), _, { boot := { pwrgood := true, romRunning := true }, spdm := { conns := [(0, { version := 0x12, state := 3, resync := true })] } }, by refine ⟨SpdmSealed.other _ _, by refine ⟨?_, ?_, ?_⟩ <;> decide +kernel, ?_, ?_⟩ <;> decide +kernel⟩
  · exact ⟨.spdmSecuredMessage .pf0 false (List.replicate 4 0), .pf0, (List.replicate 4 0), _, { boot := { pwrgood := true, romRunning := true }, spdm := { conns := [(0, { version := 0x12, state := 3 })] } }, by refine ⟨SpdmSealed.other _ _, by refine ⟨?_, ?_, ?_⟩ <;> decide +kernel, ?_, ?_, ?_⟩ <;> decide +kernel⟩
  · exact ⟨.spdmSecuredMessage .pf0 false (List.replicate 4 0), .pf0, (List.replicate 4 0), _, { boot := { pwrgood := true, romRunning := true }, spdm := { conns := [(0, { version := 0x12, state := 3 })], sessions := [{ cleared := true }] } }, { cleared := true }, by refine ⟨SpdmSealed.other _ _, by refine ⟨?_, ?_, ?_⟩ <;> decide +kernel, ?_, ?_, ?_, ?_⟩ <;> decide +kernel⟩
  · exact ⟨.spdmSecuredMessage .pf0 false (List.replicate 4 0), .pf0, (List.replicate 4 0), _, { boot := { pwrgood := true, romRunning := true }, spdm := { conns := [(0, { version := 0x12, state := 3 })], sessions := [{}] } }, {}, by refine ⟨SpdmSealed.other _ _, by refine ⟨?_, ?_, ?_⟩ <;> decide +kernel, ?_, ?_, ?_, ?_, ?_⟩ <;> decide +kernel⟩
  · exact ⟨_, .pf0, ([0, 0, 0, 0, 22, 0, 41, 123, 86, 189, 194, 17, 192, 98, 229, 177, 226, 112, 251, 246, 142, 29, 99, 62, 5, 146, 145, 127] : Bytes), [18, 236, 0, 0], {}, { boot := { pwrgood := true, romRunning := true }, spdm := { conns := [(0, { version := 0x12, state := 3 })], sessions := [{}] } }, ⟨⟨⟨_, .ends _ _, rfl⟩, ⟨by decide +kernel, by decide +kernel, by decide +kernel⟩, by decide +kernel, by decide +kernel, by decide +kernel, by decide +kernel⟩, by decide +kernel⟩⟩

/-- SpdmSessions: states and operands that meet the premises of its clauses (part 2 of 2). -/
theorem wit_spdmSessions_2 :
    (∃ (c : Instr) (q : SpdmPort) (b : Bytes) (m : Bytes) (x : SpdmSession) (s : State), let v := (spdmConn (spdmPort q) s).version; let want := hmac384 (spdmExpand v x.reqSecret "finished" [] 48) (sha384 (x.transcript ++ List.take 4 m)); SpdmOpens c q b m x s ∧ spdmCode m = 229 ∧ x.done = false ∧ slice m 4 48 = want) ∧
    (∃ (c : Instr) (q : SpdmPort) (b : Bytes) (m : Bytes) (x : SpdmSession) (s : State), let v := (spdmConn (spdmPort q) s).version; let want := hmac384 (spdmExpand v x.reqSecret "finished" [] 48) (sha384 (x.transcript ++ List.take 4 m)); SpdmOpens c q b m x s ∧ spdmCode m = 229 ∧ x.done = false ∧ slice m 4 48 ≠ want) ∧
    (∃ (c : Instr) (q : SpdmPort) (b : Bytes) (m : Bytes) (x : SpdmSession) (s : State), SpdmOpens c q b m x s ∧ spdmCode m ≠ 229 ∧ spdmCode m ≠ 236 ∧ x.done = false) ∧
    (∃ (c : Instr) (q : SpdmPort) (b : Bytes) (m : Bytes) (x : SpdmSession) (s : State), let u := spdmTaken m s; let r := spdmAnswer (spdmPort q) true m (withSessions (List.map (fun (z : SpdmSession) => if (z.rsp == x.rsp) = true then { z with reqSeq := z.reqSeq + 1 } else z) s.spdm.sessions) u); SpdmOpens c q b m x s ∧ spdmCode m ≠ 229 ∧ spdmCode m ≠ 236 ∧ x.done = true ∧ r.2.ent.hungry = false) := by
  refine ⟨?_, ?_, ?_, ?_⟩
  · exact ⟨_, .pf0, ([0, 0, 0, 0, 70, 0, 25, 123, 86, 180, 194, 17, 235, 139, 115, 165, 101, 43, 60, 193, 115, 76, 120, 73, 53, 204, 100, 46, 195, 121, 166, 128, 104, 225, 162, 67, 28, 163, 240, 124, 56, 94, 208, 220, 65, 141, 51, 197, 138, 43, 34, 168, 215, 77, 61, 231, 60, 171, 74, 127, 113, 239, 114, 247, 197, 223, 61, 254, 34, 94, 114, 239, 153, 1, 79, 241] : Bytes), ([18, 229, 0, 0] ++ [61, 13, 39, 165, 120, 170, 10, 121, 42, 52, 165, 56, 168, 227, 236, 222, 90, 229, 34, 168, 1, 124, 125, 29, 204, 69, 99, 148, 120, 167, 9, 123, 75, 67, 86, 106, 220, 52, 227, 11, 24, 30, 98, 230, 138, 137, 55, 254]), {}, { boot := { pwrgood := true, romRunning := true }, spdm := { conns := [(0, { version := 0x12, state := 3 })], sessions := [{}] } }, by refine ⟨⟨⟨_, .finish _ _, rfl⟩, ⟨by decide +kernel, by decide +kernel, by decide +kernel⟩, by decide +kernel, by decide +kernel, by decide +kernel, by decide +kernel⟩, ?_, ?_, ?_⟩ <;> decide +kernel⟩
  · exact ⟨_, .pf0, ([0, 0, 0, 0, 22, 0, 41, 123, 86, 180, 194, 17, 197, 58, 39, 91, 156, 117, 154, 45, 50, 187, 185, 199, 246, 254, 235, 43] : Bytes), [18, 229, 0, 0], {}, { boot := { pwrgood := true, romRunning := true }, spdm := { conns := [(0, { version := 0x12, state := 3 })], sessions := [{}] } }, by refine ⟨⟨⟨_, .finish _ _, rfl⟩, ⟨by decide +kernel, by decide +kernel, by decide +kernel⟩, by decide +kernel, by decide +kernel, by decide +kernel, by decide +kernel⟩, ?_, ?_, ?_⟩ <;> decide +kernel⟩
  · exact ⟨_, .pf0, ([0, 0, 0, 0, 22, 0, 41, 123, 86, 208, 194, 17, 255, 123, 112, 56, 192, 220, 128, 48, 87, 239, 227, 209, 149, 250, 127, 123] : Bytes), [18, 129, 0, 0], {}, { boot := { pwrgood := true, romRunning := true }, spdm := { conns := [(0, { version := 0x12, state := 3 })], sessions := [{}] } }, by refine ⟨⟨⟨_, .other _ _, rfl⟩, ⟨by decide +kernel, by decide +kernel, by decide +kernel⟩, by decide +kernel, by decide +kernel, by decide +kernel, by decide +kernel⟩, ?_, ?_, ?_⟩ <;> decide +kernel⟩
  · exact ⟨_, .pf0, ([0, 0, 0, 0, 22, 0, 41, 123, 86, 208, 194, 17, 255, 123, 112, 56, 192, 220, 128, 48, 87, 239, 227, 209, 149, 250, 127, 123] : Bytes), [18, 129, 0, 0], { done := true }, { boot := { pwrgood := true, romRunning := true }, spdm := { conns := [(0, { version := 0x12, state := 3 })], sessions := [{ done := true }] } }, by refine ⟨⟨⟨_, .other _ _, rfl⟩, ⟨by decide +kernel, by decide +kernel, by decide +kernel⟩, by decide +kernel, by decide +kernel, by decide +kernel, by decide +kernel⟩, ?_, ?_, ?_, ?_⟩ <;> decide +kernel⟩

/-- StartUpSteps: states and operands that meet the premises of its clauses (part 1 of 3). -/
theorem wit_startUpSteps_1 :
    (∃ (s : State), live s = true ∧ s.boot.romRunning = false ∧ s.boot.stopped = false) ∧
    (∃ (s : State), live s = true ∧ (s.boot.romRunning = true ∨ s.boot.stopped = true)) ∧
    (∃ (s : State), live s = true ∧ s.boot.phase = BootPhase.entropy) ∧
    (∃ (s : State), live s = true ∧ s.boot.phase ≠ BootPhase.entropy) ∧
    (∃ (s : State), live s = true ∧ s.boot.phase = BootPhase.dram ∧ s.boot.lcs ≠ Lcs.seed) ∧
    (∃ (s : State), live s = true ∧ s.boot.phase = BootPhase.dram ∧ s.boot.lcs = Lcs.seed) ∧
    (∃ (s : State), live s = true ∧ s.boot.phase ≠ BootPhase.dram) ∧
    (∃ (s : State), live s = true ∧ s.boot.phase = BootPhase.helper ∧ (s.boot.dramTrained ≠ 0 ∨ s.boot.dramOff = true)) := by
  refine ⟨?_, ?_, ?_, ?_, ?_, ?_, ?_, ?_⟩
  · exact ⟨{ boot := { pwrgood := true } }, by and_intros <;> decide +kernel⟩
  · exact ⟨{ boot := { pwrgood := true, romRunning := true } }, by and_intros <;> decide +kernel⟩
  · exact ⟨{ boot := { pwrgood := true, phase := BootPhase.entropy } }, by and_intros <;> decide +kernel⟩
  · exact ⟨{ boot := { pwrgood := true } }, by and_intros <;> decide +kernel⟩
  · exact ⟨{ boot := { pwrgood := true, phase := BootPhase.dram, lcs := .grafted } }, by and_intros <;> decide +kernel⟩
  · exact ⟨{ boot := { pwrgood := true, phase := BootPhase.dram, lcs := Lcs.seed } }, by and_intros <;> decide +kernel⟩
  · exact ⟨{ boot := { pwrgood := true } }, by and_intros <;> decide +kernel⟩
  · exact ⟨{ boot := { pwrgood := true, phase := BootPhase.helper, dramOff := true } }, by and_intros <;> decide +kernel⟩

/-- StartUpSteps: states and operands that meet the premises of its clauses (part 2 of 3). -/
theorem wit_startUpSteps_2 :
    (∃ (s : State), live s = true ∧ s.boot.phase = BootPhase.helper ∧ s.boot.dramTrained = 0 ∧ s.boot.dramOff = false) ∧
    (∃ (s : State), live s = true ∧ s.boot.phase = BootPhase.helper) ∧
    (∃ (s : State), live s = true ∧ s.boot.phase ≠ BootPhase.helper) ∧
    (∃ (n : Nat) (p : Fin 16) (s : State), let next := portsOn s = true ∧ (∀ (l : Nat), s.nrg.lastGroup = some l → l + 10000000 ≤ max s.now n) ∧ s.nrg.laneGroups.getLsbD p.val = false ∧ ∀ q < p.val, s.nrg.laneGroups.getLsbD q = true; live s = true ∧ ¬next) ∧
    (∃ (n : Nat) (p : Fin 16) (s : State), let next := portsOn s = true ∧ (∀ (l : Nat), s.nrg.lastGroup = some l → l + 10000000 ≤ max s.now n) ∧ s.nrg.laneGroups.getLsbD p.val = false ∧ ∀ q < p.val, s.nrg.laneGroups.getLsbD q = true; live s = true ∧ next ∧ (portAt p.val s).restart = false) ∧
    (∃ (n : Nat) (s : State) (b : Nat) (bs : List Nat), let due := ∀ (l : Nat), s.nrg.lastPower = some l → l + 25000000 ≤ max s.now n; live s = true ∧ s.boot.powerQueue = b :: bs ∧ due ∧ s.boot.releaseQueue ≠ []) ∧
    (∃ (n : Nat) (s : State) (b : Nat) (bs : List Nat), let due := ∀ (l : Nat), s.nrg.lastPower = some l → l + 25000000 ≤ max s.now n; live s = true ∧ s.boot.powerQueue = b :: bs ∧ ¬due) ∧
    (∃ (s : State), live s = true ∧ s.boot.powerQueue = []) := by
  refine ⟨?_, ?_, ?_, ?_, ?_, ?_, ?_, ?_⟩
  · exact ⟨{ boot := { pwrgood := true, phase := BootPhase.helper } }, by and_intros <;> decide +kernel⟩
  · exact ⟨{ boot := { pwrgood := true, phase := BootPhase.helper } }, by and_intros <;> decide +kernel⟩
  · exact ⟨{ boot := { pwrgood := true } }, by and_intros <;> decide +kernel⟩
  · exact ⟨0, 0, { boot := { pwrgood := true } }, by and_intros <;> decide +kernel⟩
  · exact ⟨0, 0, { boot := { pwrgood := true }, grn := { installed := true, grain := { ports := some [{}] } } }, by and_intros <;> first | decide +kernel | exact ⟨by decide, (by intro l h; cases h), by decide, by decide⟩⟩
  · exact ⟨0, { boot := { pwrgood := true, powerQueue := (0 :: []), releaseQueue := [0] } }, 0, [], by and_intros <;> first | decide +kernel | (intro l h; cases h)⟩
  · exact ⟨0, { boot := { pwrgood := true, powerQueue := (0 :: []) }, nrg := { lastPower := some 0 } }, 0, [], by and_intros <;> first | decide +kernel | exact fun h => absurd (h 0 rfl) (by decide)⟩
  · exact ⟨{ boot := { pwrgood := true } }, by and_intros <;> decide +kernel⟩

/-- StartUpSteps: states and operands that meet the premises of its clauses (part 3 of 3). -/
theorem wit_startUpSteps_3 :
    (∃ (s : State), let due := s.grn.installed = true ∧ s.boot.bootstrapped = true ∧ s.boot.shadowCopied = false; live s = true ∧ due) ∧
    (∃ (s : State), let due := s.grn.installed = true ∧ s.boot.bootstrapped = true ∧ s.boot.shadowCopied = false; live s = true ∧ ¬due) := by
  refine ⟨?_, ?_⟩
  · exact ⟨{ boot := { pwrgood := true, bootstrapped := true }, grn := { installed := true } }, by and_intros <;> decide +kernel⟩
  · exact ⟨{ boot := { pwrgood := true } }, by and_intros <;> decide +kernel⟩

/-- TamperResponse: states and operands that meet the premises of its clauses (part 1 of 2). -/
theorem wit_tamperResponse_1 :
    (∃ (s : State), s.boot.pwrgood = false) ∧
    (∃ (m : BitVec 16) (s : State), s.boot.pwrgood = true ∧ armedSources m s = []) ∧
    (∃ (m : BitVec 16) (s : State) (k : Nat), s.boot.pwrgood = true ∧ armedSources m s = [k] ∧ srcDisabled k s = true) ∧
    (∃ (m : BitVec 16) (s : State) (k : Nat), s.boot.pwrgood = true ∧ armedSources m s = [k] ∧ srcDisabled k s = false ∧ lcsDrives s = true ∧ pastStep6 s = false) ∧
    (∃ (m : BitVec 16) (s : State) (k : Nat), s.boot.pwrgood = true ∧ armedSources m s = [k] ∧ srcDisabled k s = false ∧ lcsDrives s = true ∧ pastStep6 s = true ∧ s.tmp.erased = false) ∧
    (∃ (s : State), (s.boot.pwrgood = true ∨ s.boot.vstby = false)) ∧
    (∃ (s : State), s.boot.pwrgood = false ∧ s.boot.vstby = true ∧ srcDisabled 2 s = false) ∧
    (∃ (s : State), live s = true ∧ s.tmp.burnDue = true ∧ s.boot.vfuse = true ∧ pastStep6 s = true ∧ s.nrg.pfw = false ∧ (∀ (k : Nat), s.lcy.pending ≠ some (LcyAct.move k))) := by
  refine ⟨?_, ?_, ?_, ?_, ?_, ?_, ?_, ?_⟩
  · exact ⟨{}, by decide +kernel⟩
  · exact ⟨0, { boot := { pwrgood := true } }, by and_intros <;> decide +kernel⟩
  · exact ⟨1, { boot := { pwrgood := true }, fuses := { tamperOff := 1 } }, 0, by and_intros <;> decide +kernel⟩
  · exact ⟨1, { boot := { pwrgood := true, lcs := .grafted } }, 0, by and_intros <;> decide +kernel⟩
  · exact ⟨1, { boot := { pwrgood := true, lcs := .grafted, romRunning := true, phase := .running } }, 0, by and_intros <;> decide +kernel⟩
  · exact ⟨{ boot := { pwrgood := true } }, by decide +kernel⟩
  · exact ⟨{ boot := { vstby := true } }, by and_intros <;> decide +kernel⟩
  · exact ⟨{ boot := { pwrgood := true, vfuse := true, romRunning := true, phase := .running }, tmp := { burnDue := true } }, ⟨by decide +kernel, by decide +kernel, by decide +kernel, by decide +kernel, by decide +kernel, fun k h => by cases h⟩⟩

/-- TamperResponse: states and operands that meet the premises of its clauses (part 2 of 2). -/
theorem wit_tamperResponse_2 :
    (∃ (s : State), live s = true ∧ (s.tmp.burnDue = false ∨ s.boot.vfuse = false ∨ pastStep6 s = false ∨ s.nrg.pfw = true ∨ ∃ (k : Nat), s.lcy.pending = some (LcyAct.move k))) ∧
    (∃ (s : State), live s = true ∧ s.boot.pf1 = false) ∧
    (∃ (s : State), live s = true ∧ s.boot.pf1 = true ∧ s.tmp.stimLeft = []) ∧
    (∃ (s : State), live s = true ∧ s.boot.pf1 = true ∧ s.tmp.stimLeft ≠ []) ∧
    (∃ (s : State) (k : Nat) (rest : List Nat), live s = true ∧ s.tmp.stimLeft = k :: rest ∧ srcDisabled k s = true) := by
  refine ⟨?_, ?_, ?_, ?_, ?_⟩
  · exact ⟨{ boot := { pwrgood := true } }, ⟨by decide +kernel, .inl rfl⟩⟩
  · exact ⟨{ boot := { pwrgood := true } }, by and_intros <;> decide +kernel⟩
  · exact ⟨{ boot := { pwrgood := true, pf1 := true } }, by and_intros <;> decide +kernel⟩
  · exact ⟨{ boot := { pwrgood := true, pf1 := true }, tmp := { stimLeft := [0] } }, by and_intros <;> decide +kernel⟩
  · exact ⟨{ boot := { pwrgood := true }, tmp := { stimLeft := [0] }, fuses := { tamperOff := 1 } }, 0, [], by and_intros <;> decide +kernel⟩

/-- TimeInputs: states and operands that meet the premises of its clauses (part 1 of 2). -/
theorem wit_timeInputs_1 :
    (∃ (s : State), let z := s.slt; live s = true ∧ sourceNamed 1 s = true ∧ z.todNext = none) ∧
    (∃ (s : State) (sec : Nat), let z := s.slt; live s = true ∧ sourceNamed 1 s = true ∧ z.todNext = some sec ∧ z.timed = false) ∧
    (∃ (s : State) (sec : Nat), let z := s.slt; live s = true ∧ sourceNamed 1 s = true ∧ z.todNext = some sec ∧ z.timed = true) ∧
    (∃ (n : Nat) (m : Bytes) (gap : Bool) (s : State), let z := s.slt; let good := List.length m = 16 ∧ fieldLe m 0 1 = 165 ∧ fieldLe m 1 1 = 1 ∧ fieldBe m 14 2 = crc16 (List.take 14 m) ∧ (fieldLe m 11 1).testBit 0 = true ∧ fieldLe m 10 1 ≠ 255 ∧ fieldLe m 10 1 ≤ s.grn.grain.time.todMax ∧ gap = false ∧ ∃ (l : Nat), z.ppsLast = some l ∧ 100000000000 ≤ n - l ∧ n - l ≤ 900000000000; let sec := fieldBe m 2 6; live s = true ∧ sourceNamed 1 s = true ∧ good ∧ (∀ (l : Nat), z.lastTai = some l → sec = l + 1)) ∧
    (∃ (n : Nat) (m : Bytes) (gap : Bool) (s : State), let z := s.slt; let good := List.length m = 16 ∧ fieldLe m 0 1 = 165 ∧ fieldLe m 1 1 = 1 ∧ fieldBe m 14 2 = crc16 (List.take 14 m) ∧ (fieldLe m 11 1).testBit 0 = true ∧ fieldLe m 10 1 ≠ 255 ∧ fieldLe m 10 1 ≤ s.grn.grain.time.todMax ∧ gap = false ∧ ∃ (l : Nat), z.ppsLast = some l ∧ 100000000000 ≤ n - l ∧ n - l ≤ 900000000000; let sec := fieldBe m 2 6; live s = true ∧ sourceNamed 1 s = true ∧ good ∧ (∃ (l : Nat), z.lastTai = some l ∧ sec ≠ l + 1)) ∧
    (∃ (n : Nat) (m : Bytes) (gap : Bool) (s : State), let z := s.slt; let good := List.length m = 16 ∧ fieldLe m 0 1 = 165 ∧ fieldLe m 1 1 = 1 ∧ fieldBe m 14 2 = crc16 (List.take 14 m) ∧ (fieldLe m 11 1).testBit 0 = true ∧ fieldLe m 10 1 ≠ 255 ∧ fieldLe m 10 1 ≤ s.grn.grain.time.todMax ∧ gap = false ∧ ∃ (l : Nat), z.ppsLast = some l ∧ 100000000000 ≤ n - l ∧ n - l ≤ 900000000000; live s = true ∧ sourceNamed 1 s = true ∧ ¬good) ∧
    (∃ (s : State), live s = true ∧ sourceNamed 1 s = false) ∧
    (∃ (p : Fin 16) (k : Fin 4) (m : Bytes) (s : State), let g := s.grn.grain.time; live s = true ∧ (sourceNamed 2 s = false ∨ g.ptpPort ≠ p.val ∨ g.ptpLport ≠ k.val ∨ fieldLe m 4 1 ≠ g.ptpDomain)) := by
  refine ⟨?_, ?_, ?_, ?_, ?_, ?_, ?_, ?_⟩
  · exact ⟨{ boot := { pwrgood := true }, grn := { installed := true, grain := { time := { phaseSrc := 1 } } } }, by and_intros <;> decide +kernel⟩
  · exact ⟨{ boot := { pwrgood := true }, slt := { todNext := some 0, anchored := false }, grn := { installed := true, grain := { time := { phaseSrc := 1 } } } }, 0, ⟨by decide +kernel, by decide +kernel, by decide +kernel, by decide +kernel⟩⟩
  · exact ⟨{ boot := { pwrgood := true }, slt := { todNext := (some 0), timed := true }, grn := { installed := true, grain := { time := { phaseSrc := 1 } } } }, 0, by and_intros <;> decide +kernel⟩
  · exact ⟨200000000000, [0xA5, 1, 0, 0, 0, 0, 0, 5, 0, 0, 0, 1, 0, 0, 238, 235], false, { boot := { pwrgood := true }, grn := { installed := true, grain := { time := { phaseSrc := 1 } } }, slt := { ppsLast := some 0 } }, ⟨by decide +kernel, by decide +kernel, by refine ⟨rfl, ?_, ?_, ?_, ?_, ?_, ?_, rfl, 0, rfl, ?_, ?_⟩ <;> decide +kernel, fun l h => by cases h⟩⟩
  · exact ⟨200000000000, [0xA5, 1, 0, 0, 0, 0, 0, 5, 0, 0, 0, 1, 0, 0, 238, 235], false, { boot := { pwrgood := true }, grn := { installed := true, grain := { time := { phaseSrc := 1 } } }, slt := { ppsLast := some 0, lastTai := some 7 } }, ⟨by decide +kernel, by decide +kernel, by refine ⟨rfl, ?_, ?_, ?_, ?_, ?_, ?_, rfl, 0, rfl, ?_, ?_⟩ <;> decide +kernel, 7, rfl, by decide +kernel⟩⟩
  · exact ⟨0, [], false, { boot := { pwrgood := true }, grn := { installed := true, grain := { time := { phaseSrc := 1 } } } }, by and_intros <;> decide +kernel⟩
  · exact ⟨{ boot := { pwrgood := true } }, by and_intros <;> decide +kernel⟩
  · exact ⟨0, 0, [], { boot := { pwrgood := true } }, by and_intros <;> decide +kernel⟩

/-- TimeInputs: states and operands that meet the premises of its clauses (part 2 of 2). -/
theorem wit_timeInputs_2 :
    (∃ (p : Fin 16) (k : Fin 4) (m : Bytes) (s : State), let g := s.grn.grain.time; let z := s.slt; live s = true ∧ sourceNamed 2 s = true ∧ g.ptpPort = p.val ∧ g.ptpLport = k.val ∧ fieldLe m 4 1 = g.ptpDomain ∧ fieldLe m 1 1 % 16 = 2 ∧ 34 ≤ List.length m ∧ fieldLe m 0 1 % 16 = 0 ∧ slice m 20 10 = z.ptp.parent ∧ (fieldLe m 6 1).testBit 1 = false) ∧
    (∃ (s : State), live s = true ∧ onRing s = false ∧ s.grn.installed = true ∧ s.slt.timed = true ∧ s.grn.grain.time.fallback = 0 ∧ s.slt.onFallback = false) ∧
    (∃ (s : State), live s = true ∧ onRing s = false ∧ s.grn.grain.time.fallback = 0 ∧ s.slt.onFallback = false ∧ s.slt.st = TimeState.locked) ∧
    (∃ (n : Nat) (s : State), live s = true ∧ onRing s = false ∧ s.grn.installed = true ∧ s.grn.grain.time.fallback ≠ 0 ∧ s.slt.onFallback = false ∧ s.slt.st = TimeState.locked ∧ s.slt.runB.length = 16 ∧ (∀ x ∈ s.slt.runB, n - x ≤ 32 * 10 ^ 12)) ∧
    (∃ (s : State), live s = true ∧ onRing s = false ∧ s.slt.st = TimeState.holdover) := by
  refine ⟨?_, ?_, ?_, ?_, ?_⟩
  · exact ⟨0, 0, ([0, 2] ++ List.replicate 32 0), { boot := { pwrgood := true }, grn := { grain := { time := { ptpPort := 0, ptpLport := 0, phaseSrc := 2 } }, installed := true }, slt := { ptp := { parent := List.replicate 10 0 } } }, ⟨by decide +kernel, by decide +kernel, by decide +kernel, by decide +kernel, by decide +kernel, by decide +kernel, by decide +kernel, by decide +kernel, by decide +kernel, by decide +kernel⟩⟩
  · exact ⟨{ boot := { pwrgood := true }, grn := { installed := true }, slt := { timed := true } }, by and_intros <;> decide +kernel⟩
  · exact ⟨{ boot := { pwrgood := true }, slt := { st := TimeState.locked } }, by and_intros <;> decide +kernel⟩
  · exact ⟨0, { boot := { pwrgood := true }, grn := { installed := true, grain := { time := { fallback := 2 } } }, slt := { st := TimeState.locked, runB := (List.replicate 16 0) } }, by and_intros <;> decide +kernel⟩
  · exact ⟨{ boot := { pwrgood := true }, slt := { st := TimeState.holdover } }, by and_intros <;> decide +kernel⟩

/-- UnpoweredKept: states and operands that meet the premises of its clauses. -/
theorem wit_unpoweredKept :
    ∃ (s : State) (t : State), PowerOff s ∧ (∀ (n : Nat) (rails : Bool) (i : StartIn) (q : List Instr), s.pending ≠ Instr.pwrgoodRise n rails i :: q) ∧ step s = Host.Outcome.next t :=
  ⟨{}, _, ⟨by unfold PowerOff; decide +kernel, fun n r i q => List.cons_ne_nil _ _ |>.symm, rfl⟩⟩

end Sys2Proof
end

section
/-!
PROOFS. Scope: a device without main power, power and resets, start-up, register writes and the mission log, and the reset state
(spec/00_scope.md with the chapters its rules name).
-/
namespace Sys2Proof
open Machine

/-! ### Which commands act while the main domain does not work -/

/-- The rows that act in every power state (log entry 29): supplies and resets, tamper sources, the power-fail flush with its pages, VFUSE
and boundary scan. -/
def actsAlways : Instr → Bool
  | .pwrgoodRise .. | .pwrgoodFall _ | .vstbyLoss _ | .vstbyReturn _ | .fullDeviceReset .. | .railFault _ | .vfuseInRange .. | .pfwAssert _
  | .flushSettleEnd | .pfwDeassert _ | .pfwRecoveryReset .. | .keepPageDone .. | .keepPageTimeout | .tamperFire .. | .standbyTamperFire _
  | .idcode | .extest | .samplePreload .. => true
  | _ => false

/-- Every other command is one of the main domain. -/
theorem exec_eq_act {c : Instr} (hc : actsAlways c = false) : ∃ f, ∀ s, exec c s = act f s := by
  cases c with
  | pwrgoodRise | pwrgoodFall | vstbyLoss | vstbyReturn | fullDeviceReset | railFault | vfuseInRange | pfwAssert | flushSettleEnd
  | pfwDeassert | pfwRecoveryReset | keepPageDone | keepPageTimeout | tamperFire | standbyTamperFire | idcode | extest | samplePreload =>
    nomatch hc
  | escapeVerdict l v => exact ⟨fun s => if leafCanIssue l.val s then escapeVerdictS l.val v s else s, fun _ => rfl⟩
  | imagePeriodExpiry => exact ⟨fun s => if (gcan s).imagePeriod = 0 then s else imgExport s, fun _ => rfl⟩
  | dbgHalt t l => exact ⟨fun s => dbgDo l.val (leafHalt l.val) (atTime t s), fun _ => rfl⟩
  | _ => exact ⟨_, fun _ => rfl⟩

/-- While the main domain does not work, a command of it leaves all but the outputs. -/
theorem exec_dead {c : Instr} {s : State} (hc : actsAlways c = false) (h : live s = false) : exec c s = .next { s with out := [] } := by
  obtain ⟨f, hf⟩ := exec_eq_act hc
  rw [hf, act_dead h]

/-! ### A device without main power (O59) -/

theorem PowerOff.pwrgood {s : State} (h : PowerOff s) : s.boot.pwrgood = false := h.1

theorem PowerOff.not_live {s : State} (h : PowerOff s) : live s = false := by
  simp [live, h.pwrgood]

theorem PowerOff.flush {s : State} (h : PowerOff s) : s.nrg.flush = .idle := by
  obtain ⟨-, -, -, -, -, -, -, -, -, -, -, -, -, -, -, -, -, -, -, hflush, -⟩ := h
  exact hflush

theorem PowerOff.env {s : State} (h : PowerOff s) : s.env = {} := by
  obtain ⟨-, -, -, -, -, -, -, -, -, -, -, -, -, -, -, -, -, -, henv, -⟩ := h
  exact henv

/-- An unpowered device whose keep port still stands at a page of the mission log, with KEEP_PAGE_DONE waiting. -/
def offAtLogPage : State :=
  { pending := [.keepPageDone [] []], kpf := { prog := some { kind := .log }, logNext := logRange } }

theorem offAtLogPage_powerOff : PowerOff offAtLogPage := by
  unfold PowerOff; decide +kernel

/-- The page counts as written, and the log as full, though main power is off. -/
theorem step_offAtLogPage : ∃ t, step offAtLogPage = .next t ∧ t.env.full = true :=
  ⟨_, rfl, by decide +kernel⟩

/-- Refutes O59: `PowerOff` asks for no waiting page and no waiting act, but not for an idle keep port (`kpf.prog`). KEEP_PAGE_DONE acts in
every power state, so a page of the mission log left in programming sets the environment unit's `full`. -/
theorem not_unpoweredKept : ¬ Obligations.UnpoweredKept := by
  unfold Obligations.UnpoweredKept
  intro hkept
  obtain ⟨t, hstep, hfull⟩ := step_offAtLogPage
  have hoff : PowerOff t := hkept offAtLogPage t offAtLogPage_powerOff (by intro n rails i q hq; cases hq) hstep
  rw [hoff.env] at hfull
  exact absurd hfull (by decide)

/-- Main power is off and the keep port programs no page: what a reset leaves, and what O59 would have to assume. -/
def PowerOffIdle (s : State) : Prop := PowerOff s ∧ s.kpf.prog = none

theorem powerOffIdle_coreReset (s : State) :
    PowerOffIdle { coreReset s with boot := { (coreReset s).boot with pwrgood := false, vfuse := false } } :=
  ⟨⟨rfl, rfl, rfl, rfl, rfl, rfl, rfl, rfl, rfl, rfl, rfl, rfl, rfl, rfl, rfl, rfl, rfl, rfl, rfl, rfl, rfl, rfl, rfl⟩, rfl⟩

theorem PowerOffIdle.atTime {s : State} (h : PowerOffIdle s) (n : Nat) : PowerOffIdle (atTime n s) := h

theorem PowerOffIdle.standbyFire {s : State} (h : PowerOffIdle s) (n : Nat) : PowerOffIdle (standbyFire n s) := by
  unfold Machine.standbyFire alarmPut
  dsimp only
  split
  · exact h
  · split <;> exact h

theorem PowerOffIdle.foldS {α : Type} {f : α → State → State} (hf : ∀ a s, PowerOffIdle s → PowerOffIdle (f a s)) :
    ∀ (l : List α) {s : State}, PowerOffIdle s → PowerOffIdle (foldS f l s)
  | [], _, h => h
  | a :: l, _, h => PowerOffIdle.foldS hf l (hf a _ h)

theorem PowerOffIdle.actAny {f : State → State} {s t : State} (hf : PowerOffIdle (f { s with out := [] }))
    (hex : actAny f s = .next t) : PowerOffIdle t := by
  cases hex
  exact hf

/-! The rows that act in every power state, in a device without main power: time passes, and nothing else. -/

section
variable {s : State} (h : s.boot.pwrgood = false)
include h

theorem railFaultS_off (n : Nat) : railFaultS n s = atTime n s := by simp [railFaultS, h]
theorem fullDeviceResetS_off (n : Nat) (i : StartIn) : fullDeviceResetS n i s = atTime n s := by simp [fullDeviceResetS, h]
theorem pfwRecoveryResetS_off (n : Nat) (i : StartIn) : pfwRecoveryResetS n i s = atTime n s := by simp [pfwRecoveryResetS, h]
theorem tamperFireS_off (n : Nat) (srcs raw : BitVec 16) : tamperFireS n srcs raw s = atTime n s := by simp [tamperFireS, h]
theorem pfwAssertS_off (n : Nat) :
    pfwAssertS n s = { atTime n s with nrg := { s.nrg with pfwBall := true, pfwHigh := none } } := by simp [pfwAssertS, h]
theorem idcodeS_off : idcodeS s = s := by simp [idcodeS, h]
theorem extestS_off : extestS s = s := by simp [extestS, h]
theorem samplePreloadS_off (a b : Bytes) : samplePreloadS a b s = s := by simp [samplePreloadS, h]
theorem vfuseS_off (n copies : Nat) (i : StartIn) : vfuseS n copies i s = atTime n s := by
  simp only [vfuseS, vfuseInRangeS, atTime_boot, h, Bool.not_false, if_true, Bool.false_and, Bool.false_eq_true, if_false]
  split <;> rfl

end

theorem PowerOffIdle.exec {c : Instr} {s t : State} (h : PowerOffIdle s) (hc : ∀ n rails i, c ≠ .pwrgoodRise n rails i)
    (hex : exec c s = .next t) : PowerOffIdle t := by
  cases hac : actsAlways c with
  | false =>
    rw [exec_dead hac h.1.not_live] at hex
    cases hex
    exact h
  | true =>
    have h0 : PowerOffIdle { s with out := [] } := h
    have hpw : ({ s with out := [] } : State).boot.pwrgood = false := h.1.pwrgood
    have hflush : s.nrg.flush = .idle := h.1.flush
    have hprog : s.kpf.prog = none := h.2
    cases c with
    | pwrgoodRise n rails i => exact absurd rfl (hc n rails i)
    | pwrgoodFall n => exact .actAny (powerOffIdle_coreReset _) hex
    | railFault n => exact .actAny (by rw [railFaultS_off hpw]; exact h0) hex
    | fullDeviceReset n i => exact .actAny (by rw [fullDeviceResetS_off hpw]; exact h0) hex
    | pfwRecoveryReset n i => exact .actAny (by rw [pfwRecoveryResetS_off hpw]; exact h0) hex
    | vfuseInRange n copies i => exact .actAny (by rw [vfuseS_off hpw]; exact h0) hex
    | tamperFire n srcs raw => exact .actAny (by rw [tamperFireS_off hpw]; exact h0) hex
    | idcode => exact .actAny (by rw [idcodeS_off hpw]; exact h0) hex
    | extest => exact .actAny (by rw [extestS_off hpw]; exact h0) hex
    | samplePreload a b => exact .actAny (by rw [samplePreloadS_off hpw]; exact h0) hex
    | pfwAssert n => exact .actAny (by rw [pfwAssertS_off hpw]; exact h0) hex
    | vstbyLoss | vstbyReturn | pfwDeassert => exact .actAny h0 hex
    | flushSettleEnd => exact .actAny (by simp only [flushSettleEndS, hflush, ne_eq, reduceCtorEq, not_false_eq_true, if_true]; exact h0) hex
    | keepPageDone b0 b1 => exact .actAny (by simp only [keepPageDoneS, hprog]; exact h0) hex
    | keepPageTimeout => exact .actAny (by simp only [keepPageTimeoutS, hprog]; exact h0) hex
    | standbyTamperFire srcs =>
      refine .actAny ?_ hex
      unfold standbyTamperFireS
      split
      · exact h0
      · exact .foldS (fun n _ hs => hs.standbyFire n) _ h0
    | _ => nomatch hac

/-- The step lemma that O59 means, with the missing premise: a command but PWRGOOD_RISE leaves an unpowered device with an idle keep port
so. -/
theorem PowerOffIdle.step {s t : State} (h : PowerOffIdle s) (hq : ∀ n rails i q, s.pending ≠ .pwrgoodRise n rails i :: q)
    (hst : step s = .next t) : PowerOffIdle t := by
  unfold Machine.step at hst
  split at hst
  · cases hst
    exact h
  · rename_i c q hpend
    exact PowerOffIdle.exec (s := { s with pending := q }) h (fun n rails i hc => hq n rails i q (hc ▸ hpend)) hst

/-! ### The state after reset (O60) -/

theorem powerOffIdle_reset : PowerOffIdle State.reset := by
  unfold PowerOffIdle PowerOff; decide +kernel

/-- Settles O60: the units stand at their defaults, and each register word is what its read evaluates to. -/
theorem resetState : Obligations.ResetState := by
  unfold Obligations.ResetState
  refine ⟨powerOffIdle_reset.1, rfl, rfl, rfl, rfl, rfl, rfl, ?_⟩
  decide +kernel

/-! ### What a reset leaves (O27) -/

/-- Both stops of a programming change at most the copies of the life-cycle code, the keep flash's pages with the acts of dropped keys, and
the free-value counter. -/
def StopStep (s t : State) : Prop :=
  t = { s with
    fuses := { s.fuses with lcs := t.fuses.lcs }, freeCtr := t.freeCtr
    kpf := { s.kpf with m0 := t.kpf.m0, m1 := t.kpf.m1, prog := t.kpf.prog, keyRecs := t.kpf.keyRecs, acts := t.kpf.acts } }

theorem StopStep.trans {s t u : State} (h : StopStep s t) (k : StopStep t u) : StopStep s u := by
  unfold StopStep at *; rw [k, h]

theorem StopStep.foldS {α : Type} {f : α → State → State} (h : ∀ a s, StopStep s (f a s)) : ∀ (l : List α) (s : State),
    StopStep s (foldS f l s)
  | [], _ => rfl
  | a :: l, s => (h a s).trans (StopStep.foldS h l _)

theorem StopStep.setMir (m : Nat) (x : Mirror) (s : State) : StopStep s (setMir m x s) := by
  unfold Machine.setMir
  split <;> rfl

theorem StopStep.lcsStop (s : State) : StopStep s (lcsStop s) := by
  unfold Machine.lcsStop
  split
  · split
    · dsimp only
      split <;> rfl
    · rfl
  · rfl

theorem StopStep.progStop (s : State) : StopStep s (progStop s) := by
  unfold Machine.progStop
  split
  · rfl
  · refine StopStep.trans (t := { s with kpf := { s.kpf with prog := none } }) rfl (.foldS (fun m s => ?_) _ _)
    exact StopStep.trans (t := (drawFree s).2) rfl (.setMir _ _ _)

/-- A CORE reset leaves what the statement of O27 lists. -/
theorem coreReset_eq (s : State) : coreReset s = afterReset s := by
  have h : StopStep s (progStop (lcsStop s)) := (StopStep.lcsStop s).trans (.progStop _)
  unfold StopStep at h
  unfold coreReset afterReset mirOut
  dsimp only
  rw [h]

theorem afterReset_xv (s : State) : (afterReset s).fuses.xv = s.fuses.xv := by
  have h : StopStep s (progStop (lcsStop s)) := (StopStep.lcsStop s).trans (.progStop _)
  unfold StopStep at h
  unfold afterReset
  dsimp only
  rw [h]

/-! ### A start (O27) -/

theorem lcsVote_same {w : W16} {n : Nat} (h : lcsRead w = some n) : lcsVote w w w = .state n := by
  simp [lcsVote, h]

theorem lcsRead_lcsWord {n : Nat} (h : n ≤ 3) : lcsRead (lcsWord n) = some n := by
  interval_cases n <;> decide

theorem lcsOf_keeps_fuses {n : Nat} (h : n ≤ 3) : lcsOf n ≠ .returned ∧ lcsOf n ≠ .felled := by
  interval_cases n <;> decide

/-- No fuse write is unfinished, and the life-cycle state wipes no fuse. -/
theorem retryFuses_idle {s : State} (hr : s.lcy.retry = none) (h4 : s.boot.lcs ≠ .returned) (h5 : s.boot.lcs ≠ .felled) :
    retryFuses s = s := by
  have hclear : ({ s with lcy := { s.lcy with retry := none } } : State) = s := by rw [← hr]
  unfold retryFuses
  simp only [hr, hclear, h4, h5, or_self, false_and, if_false, ite_self]

theorem lcsStart_plain {s : State} {n : Nat} (hn : n ≤ 3) (hl : s.fuses.lcs = [lcsWord n, lcsWord n, lcsWord n])
    (hr : s.lcy.retry = none) : lcsStart s = { s with boot := { s.boot with lcs := lcsOf n } } := by
  have hc : ∀ i, i < 3 → lcsCopy i s = lcsWord n := by
    intro i hi
    unfold lcsCopy
    rw [hl]
    interval_cases i <;> rfl
  have hw : ¬ (n = 4 ∨ n = 5) := by omega
  obtain ⟨h4, h5⟩ := lcsOf_keeps_fuses hn
  unfold lcsStart
  simp only [hc, Nat.zero_lt_succ, Nat.one_lt_ofNat, Nat.lt_add_one, lcsVote_same (lcsRead_lcsWord hn), hw, if_false]
  exact retryFuses_idle hr h4 h5

theorem lifeStart_noLog {s : State} (h : s.fuses.xv = false) : lifeStart s = s := by simp [lifeStart, h]

theorem latchFound_none {s : State} (h : s.tmp.latch = 0) : latchFound s = s := if_pos h

/-- A start in which nothing fails. -/
theorem startUp_plain {i : StartIn} {n : Nat} {s : State} (hfuse : i.fuseOk = true) (hmbist : i.mbistOk = true) (hn : n ≤ 3)
    (hl : s.fuses.lcs = [lcsWord n, lcsWord n, lcsWord n]) (hretry : s.lcy.retry = none) (hlatch : s.tmp.latch = 0)
    (hxv : s.fuses.xv = false) :
    startUp i s = { s with boot := { s.boot with
      pwrgood := true, t0 := s.now, src := i.strap, srcBalls := i.strap, phase := .fuses, phaseUs := 0, monitorsArmed := true
      lcs := lcsOf n } } := by
  unfold startUp
  simp only [hfuse, hmbist, Bool.not_true, Bool.false_eq_true, if_false, if_true]
  rw [lcsStart_plain hn, lifeStart_noLog, latchFound_none]
  · simp [setPhase]
  · exact hlatch
  · exact hxv
  · exact hl
  · exact hretry

theorem startUp_afterReset {i : StartIn} {n : Nat} {s : State} (h : PlainStart i n s) : startUp i (afterReset s) = afterStart i n s := by
  obtain ⟨hfuse, hmbist, -, hn, hl, hlatch, hretry, hxv⟩ := h
  exact startUp_plain hfuse hmbist hn hl hretry hlatch ((afterReset_xv s).trans hxv)

/-- A self-test that fails stops start-up before a fuse is sensed. -/
theorem startUp_selfTestFails {i : StartIn} (h : i.mbistOk = false) (s : State) :
    (startUp i s).boot.phase = .stopped ∧ (startUp i s).boot.monitorsArmed = s.boot.monitorsArmed ∧ (startUp i s).lcy.mbist = 0x1000 ∧
      (startUp i s).fuses = s.fuses := by
  simp [startUp, h, stopBoot, setPhase]

/-! ### The fuse supply (O27) -/

theorem serveDue_idle {s : State} (hk : s.ent.dramKeysDue = []) (hv : s.ent.hsVDue = false) (f : Nat) : serveDue (f + 1) s = s := by
  simp [serveDue, hk, hv]

/-- VFUSE comes with nothing waiting but, perhaps, a disable of tamper sources. -/
theorem vfuseS_on {s : State} (hpw : s.boot.pwrgood = true) (hk : s.ent.dramKeysDue = []) (hv : s.ent.hsVDue = false)
    (hr : s.lcy.retry = none) (hw : s.lcy.waitFuse = false) (h4 : s.boot.lcs ≠ .returned) (h5 : s.boot.lcs ≠ .felled)
    (n copies : Nat) (i : StartIn) :
    vfuseS n copies i s = disBurn { atTime n s with boot := { s.boot with vfuse := true } } := by
  have hwait : ∀ u : State, (disBurn u).lcy = u.lcy := by
    intro u
    unfold disBurn
    split
    · split <;> rfl
    · rfl
  unfold vfuseS vfuseInRangeS
  simp only [atTime_boot, hpw, Bool.not_true, Bool.false_eq_true, if_false]
  rw [serveDue_idle, retryFuses_idle]
  · simp only [hwait, atTime_lcy, hw, Bool.and_false, Bool.false_eq_true, if_false]
    split <;> rfl
  · exact hr
  · exact h4
  · exact h5
  · exact hk
  · exact hv

/-! ### The host link (O27) -/

/-- `t` is `s` but for hollow channels, leaves with their memories, outputs and the live counters. -/
def HollowStep (s t : State) : Prop :=
  t = { s with hlw := t.hlw, lvs := t.lvs, out := t.out, tel := { s.tel with ctr := t.tel.ctr } }

theorem HollowStep.trans {s t u : State} (h : HollowStep s t) (k : HollowStep t u) : HollowStep s u := by
  unfold HollowStep at *; rw [k, h]

theorem HollowStep.foldS {α : Type} {f : α → State → State} (h : ∀ a s, HollowStep s (f a s)) : ∀ (l : List α) (s : State),
    HollowStep s (foldS f l s)
  | [], _ => rfl
  | a :: l, s => (h a s).trans (HollowStep.foldS h l _)

theorem HollowStep.ringKnock (k : Nat) (s : State) : HollowStep s (ringKnock k s) := by
  unfold Machine.ringKnock
  dsimp only
  split
  · rfl
  · split <;> rfl
  · split <;> rfl
  · rfl

theorem HollowStep.knockAck (c : Nat) (s : State) : HollowStep s (knockAck c s) := by
  unfold Machine.knockAck
  dsimp only
  split
  · exact .ringKnock _ _
  · rfl

theorem HollowStep.hAck (c : Nat) (q code : W16) (s : State) : HollowStep s (hAck c q code s) := by
  unfold Machine.hAck
  dsimp only
  refine HollowStep.trans ?_ (.knockAck _ _)
  split <;> rfl

theorem HollowStep.hAbortAll (c : Nat) (s : State) : HollowStep s (hAbortAll c s) := by
  have hcount : HollowStep s
      (let u := setHchan c { hchan c s with waiting := [], taken := [] } s
       let n := (hchan c s).waiting.length + (hchan c s).taken.length
       if n = 0 then u else bumpBy (cHlw c 4) n u) := by
    dsimp only
    split <;> rfl
  unfold Machine.hAbortAll
  dsimp only
  split
  · exact hcount
  · exact hcount.trans (.foldS (fun q s => .hAck _ _ _ _) _ _)

theorem HollowStep.hollowSweep (s : State) : HollowStep s (hollowSweep s) := by
  refine .foldS (fun e s => ?_) _ _
  split
  · exact .hAbortAll _ _
  · rfl

/-- Settles O27, row by row: a reset leaves `afterReset`, a plain start goes on to the fuse phase, and the sweep of the hollow channels at
a host link reset touches none of the parts named. -/
theorem powerAndResets : Obligations.PowerAndResets := by
  unfold Obligations.PowerAndResets
  refine ⟨?rise, ?noRise, ?full, ?fullOff, ?selfTest, ?fall, ?standby, ?vfuse, ?vfuseOff, ?disable, ?hostLink⟩
  case rise =>
    intro n rails i k s hpw hvs hrails hplain
    have h : pwrgoodRiseS n rails i { s with out := [] } = startUp i (coreReset (atInput n s)) := by
      simp only [pwrgoodRiseS, atTime_boot, hpw, hvs, hrails, Bool.not_true, Bool.or_self, Bool.false_eq_true, if_false]
      rfl
    exact congrArg Host.Outcome.next (by rw [h, coreReset_eq, startUp_afterReset hplain])
  case noRise =>
    intro n rails i s hno
    have h : (s.boot.pwrgood || !s.boot.vstby || !rails) = true := by
      rcases hno with h | h | h <;> simp [h]
    exact congrArg Host.Outcome.next (if_pos h)
  case full =>
    intro n i k s hpw hplain
    have h : fullDeviceResetS n i { s with out := [] } = startUp i (coreReset (atInput n s)) := if_pos hpw
    exact congrArg Host.Outcome.next (by rw [h, coreReset_eq, startUp_afterReset hplain])
  case fullOff =>
    intro n i s hpw
    exact congrArg Host.Outcome.next (fullDeviceResetS_off (s := { s with out := [] }) hpw n i)
  case selfTest =>
    intro n i s hpw hmbist
    have h : fullDeviceResetS n i { s with out := [] } = startUp i (afterReset (atInput n s)) := by
      rw [← coreReset_eq]
      exact if_pos hpw
    obtain ⟨hphase, harmed, hcode, hfuses⟩ := startUp_selfTestFails hmbist (afterReset (atInput n s))
    exact ⟨_, congrArg Host.Outcome.next h, hphase, harmed, hcode, hfuses⟩
  case fall =>
    intro n s
    have h : pwrgoodFallS n { s with out := [] } =
        { afterReset (atInput n s) with boot := { (afterReset (atInput n s)).boot with pwrgood := false, vfuse := false } } := by
      unfold pwrgoodFallS
      rw [coreReset_eq]
      rfl
    refine ⟨congrArg Host.Outcome.next h, fun hpw => ?_, fun hpw => ?_⟩
    · exact congrArg Host.Outcome.next ((if_pos hpw).trans h)
    · exact congrArg Host.Outcome.next (railFaultS_off (s := { s with out := [] }) hpw n)
  case standby => exact fun n s => ⟨rfl, rfl⟩
  case vfuse =>
    intro n copies i s hpw hk hv hr hw h4 h5 hdis
    refine congrArg Host.Outcome.next ((vfuseS_on (s := { s with out := [] }) hpw hk hv hr hw h4 h5 n copies i).trans ?_)
    unfold disBurn
    simp only [atTime_tmp, hdis]
    rfl
  case vfuseOff =>
    intro n copies i s hpw
    exact congrArg Host.Outcome.next (vfuseS_off (s := { s with out := [] }) hpw n copies i)
  case disable =>
    intro n copies i s c m hpw hk hv hr hw h4 h5 hdis
    refine congrArg Host.Outcome.next ((vfuseS_on (s := { s with out := [] }) hpw hk hv hr hw h4 h5 n copies i).trans ?_)
    unfold disBurn
    simp only [atTime_tmp, hdis]
    rfl
  case hostLink =>
    intro s hlive
    refine ⟨act_live hlive, _, act_live hlive, ?_⟩
    unfold hostLinkResetS
    dsimp only
    rw [HollowStep.hollowSweep]
    refine ⟨rfl, rfl, rfl, ?_, rfl, rfl, rfl, rfl, rfl, rfl⟩
    simp [spdmPortReset, dropWaits, List.filter_filter, Bool.and_comm]

/-! ### What a received frame leaves of the ledger (O29)

A lane group that comes up again takes up the frames held at its pipes; none of what they do reaches the NRG block. -/

section ledger
variable (p k : Nat) (s : State)

@[simp] theorem modLport_nrg (f : Lport → Lport) : (modLport p k f s).nrg = s.nrg := rfl
@[simp] theorem modSecy_nrg (f : Secy → Secy) : (modSecy p k f s).nrg = s.nrg := rfl
@[simp] theorem linkDrop_nrg (code : W16) : (linkDrop p k code s).nrg = s.nrg := by simp [linkDrop, linkCount]
@[simp] theorem lportLose_nrg (n : Nat) : (lportLose p k n s).nrg = s.nrg := rfl
@[simp] theorem wireOut_nrg (bad : Bool) (b : Bytes) : (wireOut p k bad b s).nrg = s.nrg := rfl

@[simp] theorem flowEmit_nrg (q quanta : Nat) : (flowEmit q p k quanta s).nrg = s.nrg := by
  unfold flowEmit
  dsimp only
  split <;> rfl

@[simp] theorem flowUpdate_nrg : (flowUpdate p k s).nrg = s.nrg := by
  unfold flowUpdate
  dsimp only
  split
  · simp
  · split <;> simp

@[simp] theorem pnCheck_nrg (pn : Nat) : (pnCheck p k pn s).nrg = s.nrg := by
  unfold pnCheck
  split <;> simp

@[simp] theorem txStall_nrg : (txStall p k s).nrg = s.nrg := by
  unfold txStall
  dsimp only
  split <;> simp [linkCount]

@[simp] theorem txPipe_nrg (f : EgFrame) : (txPipe p k f s).2.nrg = s.nrg := by
  unfold txPipe
  dsimp only
  split
  · split <;> rfl
  · split
    · simp
    · split
      · simp
      · split <;> simp

@[simp] theorem egressPut_nrg (f : EgFrame) : (egressPut p k f s).2.nrg = s.nrg := by
  unfold egressPut
  dsimp only
  split
  · simp
  · split <;> simp

@[simp] theorem egressForward_nrg (bad : Bool) (f : EgFrame) : (egressForward p k bad f s).2.nrg = s.nrg := by
  unfold egressForward
  dsimp only
  split
  · split
    · simp
    · split <;> simp
  · split <;> simp

@[simp] theorem rxAccept_nrg (i pn : Nat) : (rxAccept p k i pn s).nrg = s.nrg := by
  unfold rxAccept
  dsimp only
  split <;> simp

@[simp] theorem rxNoSa_nrg (g : GSecy) (c : Option Nat) (f : Bytes) (t : SecTag) : (rxNoSa p k g c f t s).2.nrg = s.nrg := by
  unfold rxNoSa
  dsimp only
  split <;> cases c <;> rfl

@[simp] theorem rxTagged_nrg (f : Bytes) : (rxTagged p k f s).2.nrg = s.nrg := by
  unfold rxTagged
  dsimp only
  split
  · rfl
  · split
    · simp
    · split
      · simp
      · split
        · rfl
        · split
          · rfl
          · simp

@[simp] theorem rxPipe_nrg (f : Bytes) : (rxPipe p k f s).2.nrg = s.nrg := by
  unfold rxPipe
  split
  · rfl
  · split
    · simp
    · split <;> rfl

@[simp] theorem mkaFrame_nrg (f : Bytes) : (mkaFrame p k f s).nrg = s.nrg := by
  unfold mkaFrame
  dsimp only
  split <;> simp

@[simp] theorem rxForward_nrg (f : Bytes) (bad : Bool) (code : W16) : (rxForward p k f bad code s).nrg = s.nrg := by
  unfold rxForward
  dsimp only
  split <;> simp

@[simp] theorem ptpSend_nrg (typ : Nat) (seq : W16) (corr body : Bytes) : (ptpSend typ seq corr body s).nrg = s.nrg := by
  simp [ptpSend]

@[simp] theorem modPtp_nrg (f : Ptp → Ptp) : (modPtp f s).nrg = s.nrg := rfl
@[simp] theorem ptpAsk_nrg (peer : Bool) : (ptpAsk peer s).nrg = s.nrg := by simp [ptpAsk]

@[simp] theorem acceptTime_nrg (tai at_ : Nat) : (acceptTime tai at_ s).nrg = s.nrg := by
  unfold acceptTime
  split <;> rfl

@[simp] theorem ptpSync_nrg (t2 t1 : Nat) (corr : Int) : (ptpSync t2 t1 corr s).nrg = s.nrg := by simp [ptpSync]

@[simp] theorem ptpDelayResp_nrg (m : Bytes) : (ptpDelayResp m s).nrg = s.nrg := by
  unfold ptpDelayResp
  dsimp only
  split
  · split <;> rfl
  · rfl

@[simp] theorem ptpPdelayResp_nrg (m : Bytes) : (ptpPdelayResp m s).nrg = s.nrg := by
  unfold ptpPdelayResp
  dsimp only
  split
  · split
    · rfl
    · split <;> rfl
  · rfl

@[simp] theorem ptpPdelayFollow_nrg (m : Bytes) : (ptpPdelayFollow m s).nrg = s.nrg := by
  unfold ptpPdelayFollow
  dsimp only
  split
  · split <;> rfl
  · rfl

@[simp] theorem ptpMessageS_nrg (t : Nat) (m : Bytes) : (ptpMessageS t p k m s).nrg = s.nrg := by
  unfold ptpMessageS
  dsimp only
  split
  · rfl
  · split
    · split <;> simp
    · split
      · rfl
      · split <;> simp
    · split
      · split <;> simp
      · rfl
    · split <;> simp
    · simp [ptpPdelayReq]
    · simp
    · simp
    · rfl

@[simp] theorem sieveAct_nrg (f : Bytes) (bad : Bool) (code : W16) : (sieveAct p k f bad code s).nrg = s.nrg := by
  unfold sieveAct
  dsimp only
  split
  · simp
  · split
    · split
      · split <;> simp
      · simp
    · rw [rxForward_nrg]
      split
      · split <;> simp
      · rfl
    · split
      · split <;> simp
      · simp
    · simp

@[simp] theorem rxFrame_nrg (w : Bytes) : (rxFrame p k w s).nrg = s.nrg := by
  unfold rxFrame
  dsimp only
  split
  · rfl
  · split
    · split <;> simp
    · split
      · split <;> simp
      · split <;> simp
      · split <;> simp

end ledger

theorem foldS_nrg {α : Type} {f : α → State → State} (h : ∀ a s, (f a s).nrg = s.nrg) : ∀ (l : List α) (s : State),
    (foldS f l s).nrg = s.nrg
  | [], _ => rfl
  | a :: l, s => (foldS_nrg h l _).trans (h a s)

/-- An ingress pipe that is enabled again takes up its held frames and lets its partner's queue go on. -/
@[simp] theorem disOn_rxp_nrg (p : Fin 16) (s : State) : (disOn (.rxp p) s).nrg = s.nrg := by
  unfold disOn disResume
  dsimp only
  rw [foldS_nrg, foldS_nrg]
  · rfl
  · simp
  · intro k s
    split <;> simp

@[simp] theorem disOn_txp_nrg (p : Fin 16) (s : State) : (disOn (.txp p) s).nrg = s.nrg := rfl

/-! ### The steps of start-up (O29) -/

section steps
variable {s : State} (hlive : live s = true)
include hlive

theorem exec_coreClockLock_starts (n : Nat) (hrom : s.boot.romRunning = false) (hstop : s.boot.stopped = false) :
    exec (.coreClockLock n) s = .next (phaseTo .entropy { atInput n s with
      ent := { s.ent with src := [(0, { startup := 1 }), (1, { startup := 1 }), (2, { startup := 1 }), (3, { startup := 1 })] }
      tmp := { s.tmp with stimLeft := List.range 16, stimDone := 0, stimPass := 0 }
      boot := { s.boot with romRunning := true } }) := by
  refine (act_live hlive).trans (congrArg Host.Outcome.next ?_)
  simp only [coreClockLockS, atTime_boot, live_pwrgood hlive, hrom, hstop, Bool.not_true, Bool.or_self, Bool.false_eq_true, if_false]
  rfl

theorem exec_coreClockLock_again (n : Nat) (h : s.boot.romRunning = true ∨ s.boot.stopped = true) :
    exec (.coreClockLock n) s = .next (atInput n s) := by
  have hc : (!s.boot.pwrgood || s.boot.romRunning || s.boot.stopped) = true := by
    rcases h with h | h <;> simp [h]
  exact (act_live hlive).trans (congrArg Host.Outcome.next (if_pos hc))

theorem exec_entropyTimeout (n : Nat) :
    (s.boot.phase = .entropy → exec (.entropyTimeout n) s = .next (phaseTo .helper (emit .fault 0x1002 (srcTree 3) []
      (withBoot { s.boot with keyless := true, dramOff := true, result := 0x1002 } (atInput n s))))) ∧
    (s.boot.phase ≠ .entropy → exec (.entropyTimeout n) s = .next (atInput n s)) := by
  constructor
  · intro h
    exact (act_live hlive).trans (congrArg Host.Outcome.next (if_pos h))
  · intro h
    exact (act_live hlive).trans (congrArg Host.Outcome.next (if_neg h))

end steps

/-- The channels that failed both trainings reported, in ascending order. -/
def dramReported (c : DramTry) (ok : BitVec 4) (s : State) : State :=
  foldS (fun k s => if c.populated.getLsbD k && !ok.getLsbD k then emit .fault 0x1003 (srcTree (7 + k)) [] s else s) [0, 1, 2, 3] s

theorem dramReported_boot (c : DramTry) (ok : BitVec 4) (s : State) : (dramReported c ok s).boot = s.boot := by
  unfold dramReported
  generalize [0, 1, 2, 3] = l
  induction l generalizing s with
  | nil => rfl
  | cons k l ih =>
    rw [foldS_cons, ih]
    split <;> simp

/-- DRAM's training has ended with the channels `ok`. -/
def dramEnd (n : Nat) (c : DramTry) (gib : List Nat) (ok : BitVec 4) (s : State) : State :=
  let u := dramReported c ok (withBoot { s.boot with dramTrained := ok, dramGib := gib, romRegion := ok != 0 } (atInput n s))
  if ok = 0 then withBoot { u.boot with result := 0x1003 } u else u

theorem dramEnd_lcs (n : Nat) (c : DramTry) (gib : List Nat) (ok : BitVec 4) (s : State) :
    (dramEnd n c gib ok s).boot.lcs = s.boot.lcs := by
  unfold dramEnd
  dsimp only
  split <;> simp [withBoot, dramReported_boot]

/-- The same, its tests as propositions. -/
theorem dramEnd_eq (n : Nat) (c : DramTry) (gib : List Nat) (ok : BitVec 4) (s : State) :
    dramEnd n c gib ok s =
      let u := foldS (fun k s => if c.populated.getLsbD k = true ∧ ok.getLsbD k = false then emit .fault 0x1003 (srcTree (7 + k)) [] s else s)
        [0, 1, 2, 3] (withBoot { s.boot with dramTrained := ok, dramGib := gib, romRegion := decide (ok ≠ 0) } (atInput n s))
      if ok = 0 then withBoot { u.boot with result := 0x1003 } u else u := by
  have hrom : (ok != 0) = decide (ok ≠ 0) := by rw [bne, beq_eq_decide, decide_not]
  unfold dramEnd dramReported
  rw [hrom]
  simp only [Bool.and_eq_true, Bool.not_eq_true']

theorem dramTrainingDoneS_eq {s : State} (hp : s.boot.phase = .dram) (n : Nat) (c : DramTry) (gib : List Nat) :
    dramTrainingDoneS n c gib { s with out := [] } =
      let v := dramEnd n c gib (c.populated &&& (c.first ||| c.second)) s
      if v.boot.lcs = .seed then stopBoot v else setPhase .helper v :=
  if_neg (not_not.mpr hp)

/-! Lane groups, and boughs that are powered on. -/

/-- Whether lane group `p` is the next to start: ports are there, 10 µs have passed, and it is the lowest group that is down. -/
theorem laneGroupStart_test (n : Nat) (p : Fin 16) (s : State) :
    (!portsOn s || !(match s.nrg.lastGroup with | some l => decide (l + 10 * psUs ≤ max s.now n) | none => true) ||
      (List.range 16).find? (fun i => !s.nrg.laneGroups.getLsbD i) != some p.val) = false ↔
    portsOn s = true ∧ (∀ l, s.nrg.lastGroup = some l → l + 10000000 ≤ max s.now n) ∧
      s.nrg.laneGroups.getLsbD p = false ∧ ∀ q < p.val, s.nrg.laneGroups.getLsbD q = true := by
  have hfind : (List.range 16).find? (fun i => !s.nrg.laneGroups.getLsbD i) = some p.val ↔
      s.nrg.laneGroups.getLsbD p = false ∧ ∀ q < p.val, s.nrg.laneGroups.getLsbD q = true := by
    rw [List.find?_range_eq_some]
    simp [p.isLt]
  have hfree : (match s.nrg.lastGroup with | some l => decide (l + 10 * psUs ≤ max s.now n) | none => true) = true ↔
      ∀ l, s.nrg.lastGroup = some l → l + 10000000 ≤ max s.now n := by
    cases s.nrg.lastGroup with
    | none => simp
    | some l =>
      simp only [psUs, Option.some.injEq, forall_eq']
      exact decide_eq_true_iff
  simp only [Bool.or_eq_false_iff, Bool.not_eq_false', hfree, bne_eq_false_iff_eq, hfind, and_assoc]

theorem laneGroupStartS_nrg {n : Nat} {p : Fin 16} {s : State}
    (h : portsOn s = true ∧ (∀ l, s.nrg.lastGroup = some l → l + 10000000 ≤ max s.now n) ∧
      s.nrg.laneGroups.getLsbD p = false ∧ ∀ q < p.val, s.nrg.laneGroups.getLsbD q = true) :
    (laneGroupStartS n p { s with out := [] }).nrg =
      { s.nrg with laneGroups := setBit s.nrg.laneGroups p true, lastGroup := some (max s.now n) } := by
  have hup : ∀ (c : Bool) (f : State → State) (u : State), (f u).nrg = u.nrg → (if c then f u else u).nrg = u.nrg := by
    intro c f u hf
    cases c
    · rfl
    · exact hf
  have hnext : laneGroupStartS n p { s with out := [] } = _ := if_neg (Bool.eq_false_iff.mp ((laneGroupStart_test n p s).mpr h))
  rw [hnext]
  dsimp only
  split
  · rw [hup _ (disOn (.txp (Fin.ofNat 16 p))) _ (disOn_txp_nrg _ _), hup _ (disOn (.rxp (Fin.ofNat 16 p))) _ (disOn_rxp_nrg _ _)]
    rfl
  · rfl

/-- What a leaf of a bough that fails its power-on self-test is: fenced, in the role that the Grain gives it. -/
def failedLeaf (l : Nat) (s : State) : Leaf := { role := (grainLeaf l s).role, program := (grainLeaf l s).program, fenced := true }

theorem failedLeaf_ne (l : Nat) (s : State) : failedLeaf l s ≠ {} := by
  intro h
  exact Bool.noConfusion (congrArg Leaf.fenced h)

/-- The leaves of the list fail, one after another. -/
def leavesFail (b : Nat) (is : List Nat) (s : State) : State := foldS (fun i s => setLeaf (16 * b + i) (failedLeaf (16 * b + i) s) s) is s

theorem leavesFail_frame (b : Nat) : ∀ (is : List Nat) (s : State), leavesFail b is s = { s with lvs := (leavesFail b is s).lvs }
  | [], _ => rfl
  | _ :: is, _ => leavesFail_frame b is _

theorem leafAt_leavesFail (b : Nat) : ∀ (is : List Nat) (l : Nat) (s : State), l ∈ is.map (16 * b + ·) ∨ leafAt l s = failedLeaf l s →
    leafAt l (leavesFail b is s) = failedLeaf l s
  | [], _, _, h => h.resolve_left (List.not_mem_nil)
  | i :: is, l, s, h => by
    refine leafAt_leavesFail b is l (setLeaf (16 * b + i) (failedLeaf (16 * b + i) s) s) ?_
    change _ ∨ _ = failedLeaf l s
    by_cases hl : l = 16 * b + i
    · subst hl
      exact .inr (leafAt_setLeaf _ _ _ (failedLeaf_ne _ _))
    · rw [leafAt_setLeaf_other _ _ _ _ (failedLeaf_ne _ _) hl]
      exact h.imp_left (fun hm => (List.mem_cons.mp hm).resolve_left hl)

/-- A bough that fails its power-on self-test. -/
structure BoughFailed (b : Nat) (s t : State) : Prop where
  power : (boughNrg b t).power = .fenced
  engine : (eng b t).fenced = true
  mbist : t.lcy.mbist = setBit s.lcy.mbist b true
  boot : t.boot = { s.boot with failed := s.boot.failed ++ [b], result := 0x1022 }
  leaf : ∀ l, l / 16 = b → leafAt l t = failedLeaf l s

theorem boughFail_failed (b : Nat) (s : State) : BoughFailed b s (boughFail b s) := by
  have hfold : boughFail b s =
      let u := leavesFail b (List.range 16) (modBough b (fun x => { x with power := .fenced }) s)
      bootCode .fault 0x1022 (srcBough b) (brlFence b { u with
        boot := { u.boot with failed := u.boot.failed ++ [b] }, lcy := { u.lcy with mbist := setBit u.lcy.mbist b true } }) := rfl
  have hframe := leavesFail_frame b (List.range 16) (modBough b (fun x => { x with power := .fenced }) s)
  have hleaf : ∀ l, l / 16 = b → leafAt l (leavesFail b (List.range 16) (modBough b (fun x => { x with power := .fenced }) s)) = failedLeaf l s := by
    intro l hl
    refine leafAt_leavesFail b _ l _ (.inl (List.mem_map.mpr ⟨l % 16, List.mem_range.mpr (Nat.mod_lt _ (by decide)), ?_⟩))
    subst hl
    exact Nat.div_add_mod l 16
  rw [hfold]
  generalize leavesFail b (List.range 16) (modBough b (fun x => { x with power := .fenced }) s) = u at hframe hleaf
  constructor
  case power =>
    have h : ∀ x : BoughNrg, ({ x with power := .fenced } : BoughNrg) ≠ {} := fun x hx => BoughPower.noConfusion (congrArg BoughNrg.power hx)
    simp only [boughNrg, bootCode, emit_nrg, brlFence, modEng, setEng_nrg]
    rw [hframe, modBough_nrg]
    simp only [tmod]
    rw [tget_tset_ne _ _ _ _ (h _)]
  case engine =>
    have h : ∀ x : BrlEng, ({ x with fenced := true, regs := [] } : BrlEng) ≠ {} := fun x hx => Bool.noConfusion (congrArg BrlEng.fenced hx)
    simp only [eng, bootCode, emit_brl, brlFence, modEng, setEng_brl]
    rw [tget_tset_ne _ _ _ _ (h _)]
  case mbist =>
    simp only [bootCode, emit_lcy, brlFence, modEng, setEng_lcy]
    rw [hframe, modBough_lcy]
  case boot =>
    simp only [bootCode, emit_boot, brlFence, modEng, setEng_boot]
    rw [hframe, modBough_boot]
  case leaf =>
    intro l hl
    rw [← hleaf l hl]
    simp only [leafAt, bootCode, emit_lvs, brlFence, modEng, setEng_lvs]

/-! A bough is powered on. -/

theorem bringUpDone_waits {s : State} (h : s.boot.powerQueue ≠ [] ∨ s.boot.releaseQueue ≠ []) : bringUpDone s = s := if_pos h

/-- The first bough that waits is taken from the queue, and is powered. -/
def bringUpNext (n b : Nat) (bs : List Nat) (ok : Bool) (s : State) : State :=
  boughPowered b ok { atInput n s with nrg := { s.nrg with lastPower := some (max s.now n) }, boot := { s.boot with powerQueue := bs } }

/-- What is zeroed when a bough is powered does not matter to how its failure leaves it. -/
theorem bringUpNext_failed (n b : Nat) (bs : List Nat) (s : State) :
    BoughFailed b { s with boot := { s.boot with powerQueue := bs } } (bringUpNext n b bs false s) := by
  obtain ⟨hpower, hengine, hmbist, hboot, hleaf⟩ := boughFail_failed b _
  exact ⟨hpower, hengine, hmbist, hboot, hleaf⟩

/-- Whether 25 µs have passed since the bough before. -/
theorem powerOn_test (n : Nat) (s : State) :
    (match s.nrg.lastPower with | some l => decide (l + 25 * psUs ≤ max s.now n) | none => true) = true ↔
      ∀ l, s.nrg.lastPower = some l → l + 25000000 ≤ max s.now n := by
  cases s.nrg.lastPower with
  | none => simp
  | some l =>
    simp only [psUs, Option.some.injEq, forall_eq']
    exact decide_eq_true_iff

theorem boughPowerOnS_due {n b : Nat} {bs : List Nat} {s : State} (hq : s.boot.powerQueue = b :: bs) (ok : Bool)
    (hdue : ∀ l, s.nrg.lastPower = some l → l + 25000000 ≤ max s.now n) :
    boughPowerOnS n ok { s with out := [] } = bringUpDone (bringUpNext n b bs ok s) := by
  simp only [boughPowerOnS, atTime_boot, hq]
  refine if_neg ?_
  rw [Bool.not_eq_true, Bool.not_eq_false']
  exact (powerOn_test n s).mpr hdue

theorem boughPowerOnS_early {n b : Nat} {bs : List Nat} {s : State} (hq : s.boot.powerQueue = b :: bs) (ok : Bool)
    (hdue : ¬ ∀ l, s.nrg.lastPower = some l → l + 25000000 ≤ max s.now n) :
    boughPowerOnS n ok { s with out := [] } = atInput n s := by
  simp only [boughPowerOnS, atTime_boot, hq]
  refine if_pos ?_
  rw [Bool.not_eq_true', ← Bool.not_eq_true]
  exact mt (powerOn_test n s).mp hdue

theorem boughPowerOnS_none {n : Nat} {s : State} (hq : s.boot.powerQueue = []) (ok : Bool) :
    boughPowerOnS n ok { s with out := [] } = atInput n s := by
  simp only [boughPowerOnS, atTime_boot, hq]
  rfl

/-- Settles O29: each step's test is decided from its hypotheses; what it then leaves is the model's own record, but for
the self-test of a bough, whose outcome `BoughFailed` states. -/
theorem startUpSteps : Obligations.StartUpSteps := by
  unfold Obligations.StartUpSteps
  refine ⟨fun n s hl hr hs => exec_coreClockLock_starts hl n hr hs, fun n s hl h => exec_coreClockLock_again hl n h,
    fun n s hl => exec_entropyTimeout hl n, ?dram, ?helper, ?noHelper, ?lanes, ?power, ?noPower, ?shadow⟩
  case dram =>
    intro n c gib s hl
    have hv := dramEnd_eq n c gib (c.populated &&& (c.first ||| c.second)) s
    have hlcs := dramEnd_lcs n c gib (c.populated &&& (c.first ||| c.second)) s
    refine ⟨fun hp hs => ?_, fun hp hs => ?_, fun hp => ?_⟩
    · refine (act_live hl).trans (congrArg Host.Outcome.next ((dramTrainingDoneS_eq hp n c gib).trans ?_))
      exact (if_neg (hlcs ▸ hs)).trans (congrArg (setPhase .helper) hv)
    · refine (act_live hl).trans (congrArg Host.Outcome.next ((dramTrainingDoneS_eq hp n c gib).trans ?_))
      exact (if_pos (hlcs ▸ hs)).trans (congrArg stopBoot hv)
    · exact (act_live hl).trans (congrArg Host.Outcome.next (if_pos hp))
  case helper =>
    intro n s hl hp
    have hrun : ∀ ok, exec (.helperBoughStart n ok) s = .next (helperBoughStartS n ok { s with out := [] }) := fun ok => act_live hl
    have hstep : ∀ {ok : Bool} {t : State}, helperBoughStartS n ok { s with out := [] } = t → exec (.helperBoughStart n ok) s = .next t :=
      fun h => (hrun _).trans (congrArg Host.Outcome.next h)
    refine ⟨⟨fun hd => hstep ?_, fun h0 hoff => hstep ?_⟩, hstep ?_⟩
    · refine (if_neg (not_not.mpr hp)).trans ((if_pos rfl).trans (if_neg ?_))
      rintro ⟨h0, hoff⟩
      rcases hd with hd | hd
      · exact hd h0
      · exact absurd (hoff.symm.trans hd) (by decide)
    · exact (if_neg (not_not.mpr hp)).trans ((if_pos rfl).trans (if_pos ⟨h0, hoff⟩))
    · exact if_neg (not_not.mpr hp)
  case noHelper =>
    intro n ok s hl hp
    exact (act_live hl).trans (congrArg Host.Outcome.next (if_pos hp))
  case lanes =>
    intro n p s hl
    have htest := laneGroupStart_test n p s
    refine ⟨fun hno => ?_, fun hnext hr => ?_, fun hnext => ?_⟩
    · exact (act_live hl).trans (congrArg Host.Outcome.next (if_pos (Bool.not_eq_false _ ▸ mt htest.mp hno)))
    · refine (act_live hl).trans (congrArg Host.Outcome.next ((if_neg (Bool.eq_false_iff.mp (htest.mpr hnext))).trans (if_neg ?_)))
      exact Bool.eq_false_iff.mp hr
    · have hnrg := laneGroupStartS_nrg hnext
      exact ⟨_, act_live hl, by rw [hnrg], by rw [hnrg]⟩
  case power =>
    intro n s b bs hl hq
    refine ⟨fun hdue => ?_, fun hdue hrel => ?_, fun hdue ok => ?_⟩
    · refine (act_live hl).trans (congrArg Host.Outcome.next ((boughPowerOnS_due hq true hdue).trans (bringUpDone_waits (.inr ?_))))
      exact List.append_ne_nil_of_right_ne_nil _ (List.cons_ne_nil _ _)
    · have hfail := bringUpNext_failed n b bs s
      refine ⟨_, (act_live hl).trans (congrArg Host.Outcome.next ((boughPowerOnS_due hq false hdue).trans (bringUpDone_waits (.inr ?_)))),
        hfail.power, ?_, ?_, hfail.mbist, hfail.engine, ?_, hfail.leaf⟩
      · rw [hfail.boot]
        exact hrel
      · rw [hfail.boot]
      · rw [hfail.boot]
      · rw [hfail.boot]
    · exact (act_live hl).trans (congrArg Host.Outcome.next (boughPowerOnS_early hq ok hdue))
  case noPower =>
    intro n ok s hl hq
    exact (act_live hl).trans (congrArg Host.Outcome.next (boughPowerOnS_none hq ok))
  case shadow =>
    intro s hl
    refine ⟨fun hdue => ?_, fun hdue => ?_⟩
    · obtain ⟨hi, hb, hc⟩ := hdue
      exact (act_live hl).trans (congrArg Host.Outcome.next (if_pos (by simp [hi, hb, hc])))
    · refine (act_live hl).trans (congrArg Host.Outcome.next (if_neg ?_))
      simpa [and_assoc] using hdue

/-! ### Registers, temperature and the mission log (O58) -/

section registers
variable {n : Nat} {a : BitVec 32} {wide : Bool} {v : BitVec 64} {s : State}

theorem exec_registerWrite_pf1 (hl : live s = true) (hpf : s.boot.pf1 = true) :
    exec (.registerWrite n true a wide v) s = .next (bar2Write n a.toNat wide v.toNat (atInput n s)) :=
  (act_live hl).trans (congrArg Host.Outcome.next (if_pos hpf))

theorem exec_registerWrite_noPf1 (hl : live s = true) (hpf : s.boot.pf1 = false) :
    exec (.registerWrite n true a wide v) s = .next (atInput n s) :=
  (act_live hl).trans (congrArg Host.Outcome.next (if_neg (Bool.eq_false_iff.mp hpf)))

theorem exec_registerWrite_bar0 (hl : live s = true) :
    exec (.registerWrite n false a wide v) s = .next (bar0Write a.toNat wide v.toNat (atInput n s)) := act_live hl

end registers

/-! The blocks of BAR2 as a write finds them. -/

section blocks
variable (o t : Nat) (wide : Bool) (v : Nat) (s : State)

theorem bar2Word1_key (ho : o < 0x8000) : bar2Word1 t (0x20000 + o) wide v s = keyWrite t o wide v s := by
  simp only [bar2Word1, decide_eq_true_eq]
  iterate 2 rw [if_neg (by omega)]
  rw [if_pos (by omega), Nat.add_sub_cancel_left]

theorem bar2Word1_att (ho : o < 0x1000) : bar2Word1 t (0x48000 + o) wide v s = attWrite t o wide v s := by
  simp only [bar2Word1, decide_eq_true_eq]
  iterate 10 rw [if_neg (by omega)]
  rw [if_pos (by omega), Nat.add_sub_cancel_left]

theorem bar2Word1_slt (ho : o < 0x1000) : bar2Word1 t (0x49000 + o) wide v s = sltWrite o wide v s := by
  simp only [bar2Word1, decide_eq_true_eq]
  iterate 11 rw [if_neg (by omega)]
  rw [if_pos (by omega), Nat.add_sub_cancel_left]

theorem bar2Word1_nrg (ho : o < 0x1000) : bar2Word1 t (0x4A000 + o) wide v s = nrgWrite true o wide v s := by
  simp only [bar2Word1, decide_eq_true_eq]
  iterate 12 rw [if_neg (by omega)]
  rw [if_pos (by omega), Nat.add_sub_cancel_left]

theorem bar2Word1_grv (ho : o < 0x20000) : bar2Word1 t (0x60000 + o) wide v s = grvWrite t o wide v s := by
  simp only [bar2Word1, decide_eq_true_eq]
  iterate 13 rw [if_neg (by omega)]
  rw [if_pos (by omega), Nat.add_sub_cancel_left]

theorem bar2Word1_noRow {a : Nat} (hlo : 0x4B000 ≤ a) (hhi : a < 0x60000) : bar2Word1 t a wide v s = s := by
  simp only [bar2Word1, decide_eq_true_eq]
  iterate 16 rw [if_neg (by omega)]

theorem bar2Word_att (ho : o < 0x1000) : bar2Word (0x48000 + o) s = (attRead o s, s) := by
  simp only [bar2Word, decide_eq_true_eq]
  iterate 11 rw [if_neg (by omega)]
  rw [if_pos (by omega), Nat.add_sub_cancel_left]

theorem bar2Word_grv (ho : o < 0x10000) : bar2Word (0x60000 + o) s = (grvRead o s, s) := by
  simp only [bar2Word, decide_eq_true_eq]
  iterate 14 rw [if_neg (by omega)]
  rw [if_pos (by omega), Nat.add_sub_cancel_left]

end blocks

theorem offWide_false {a : Nat} (h : a < 0x46100 ∨ 0x46400 ≤ a) (s : State) : offWide a s = false := by
  have h : decide (0x46100 ≤ a ∧ a < 0x46400) = false := decide_eq_false (by omega)
  rw [offWide, h, Bool.false_and, Bool.false_and]

/-- A 32-bit write acts on one word, and so does a 64-bit write of a 64-bit register, but at an engine of a bough that is off. -/
theorem bar2Write_one {a : Nat} {wide : Bool} (ha : a % 4 = 0) (hw : wide = false ∨ wide2 a = true) (hoff : a < 0x46100 ∨ 0x46400 ≤ a)
    (t v : Nat) (s : State) : bar2Write t a wide v s = bar2Word1 t a wide v s := by
  have ha : a / 4 * 4 = a := by omega
  have hw : (wide && !wide2 a) = false := by
    rcases hw with h | h <;> simp [h]
  simp only [bar2Write, ha, offWide_false hoff, hw, Bool.and_false, Bool.false_eq_true, if_false]

theorem bar2Read_word {a : Nat} (ha : a % 4 = 0) (s : State) : (bar2Read a false s).1 = BitVec.ofNat 64 (bar2Word a s).1 := by
  have ha : a / 4 * 4 = a := by omega
  simp only [bar2Read, ha, Bool.false_and, Bool.false_eq_true, if_false]

theorem bar2Read_wide {a : Nat} (ha : a % 4 = 0) (hnow : a ≠ 0x49000) (hoff : a < 0x46100 ∨ 0x46400 ≤ a) (s : State) :
    (bar2Read a true s).1 = BitVec.ofNat 64 ((bar2Word (a + 4) (bar2Word a s).2).1 * 2 ^ 32 + (bar2Word a s).1) := by
  have ha : a / 4 * 4 = a := by omega
  simp only [bar2Read, ha, offWide_false hoff, beq_eq_false_iff_ne.mpr hnow, Bool.and_false, Bool.false_eq_true, if_false, if_true]

/-! Addresses that no write reaches. -/

theorem bar2Write_noWrite {a : BitVec 32} {wide : Bool} (h : NoWrite a wide) (t : Nat) (v : Nat) (s : State) :
    bar2Write t a.toNat wide v s = s := by
  rcases h with ⟨hlo, hhi⟩ | ⟨rfl, ha⟩
  · have h1 := fun wide v s => bar2Word1_noRow t wide v s (a := a.toNat / 4 * 4) (by omega) (by omega)
    have h2 := fun wide v s => bar2Word1_noRow t wide v s (a := a.toNat / 4 * 4 + 4) (by omega) (by omega)
    simp only [bar2Write, h1, h2, ite_self]
  · have hone : a.toNat % 4 = 0 ∧ 0x46400 ≤ a.toNat := by
      simp only [List.mem_cons, List.not_mem_nil, or_false] at ha
      rcases ha with rfl | rfl | rfl | rfl | rfl <;> decide
    rw [bar2Write_one hone.1 (.inl rfl) (.inr hone.2)]
    simp only [List.mem_cons, List.not_mem_nil, or_false] at ha
    rcases ha with rfl | rfl | rfl | rfl | rfl
    · exact bar2Word1_grv 0x8 t false v s (by decide)
    · exact bar2Word1_grv 0xC t false v s (by decide)
    · exact bar2Word1_grv 0x10 t false v s (by decide)
    · exact bar2Word1_grv 0x14 t false v s (by decide)
    · exact bar2Word1_att 0x4 t false v s (by decide)

theorem bar0Write_slt {o : Nat} (ho : o < 0x1000) (h4 : o % 4 = 0) (v : Nat) (s : State) :
    bar0Write (0x1000 + o) false v s = sltWrite o false v s := by
  have ha : (0x1000 + o) / 4 * 4 = 0x1000 + o := by omega
  simp only [bar0Write, ha, Bool.false_and, Bool.false_eq_true, if_false, bar0Word]
  iterate 2 rw [if_neg (by omega)]
  rw [if_pos (by omega), Nat.add_sub_cancel_left]

theorem bar0Word_notInstalled {a : Nat} {s : State} (hi : s.grn.installed = false) (hlo : 0x3000 ≤ a) (hhi : a < 0x1000000) (wide : Bool) (v : Nat) :
    bar0Word a wide v s = s := by
  simp only [bar0Word]
  iterate 4 rw [if_neg (by omega)]
  exact if_pos (by rw [hi]; rfl)

theorem bar0Write_notInstalled {a : Nat} {s : State} (hi : s.grn.installed = false) (hlo : 0x3000 ≤ a) (hhi : a + 8 ≤ 0x1000000) (wide : Bool) (v : Nat) :
    bar0Write a wide v s = s := by
  have h1 := fun wide v => bar0Word_notInstalled (a := a / 4 * 4) hi (by omega) (by omega) wide v
  have h2 := fun wide v => bar0Word_notInstalled (a := a / 4 * 4 + 4) hi (by omega) (by omega) wide v
  simp only [bar0Write, h1, h2, ite_self]

/-! Plain registers. -/

theorem attWrite_nonce {i : Nat} (hi : i < 8) (t : Nat) (v : Nat) (s : State) :
    attWrite t (0x20 + 4 * i) false v s = withAtt { s.att with nonce := tset 0 s.att.nonce i (BitVec.ofNat 32 v) } s := by
  have h64 : in64 8 (0x20 + 4 * i) = false := by simp [in64]; omega
  have hidx : (0x20 + 4 * i - 0x20) / 4 = i := by omega
  unfold attWrite
  rw [if_neg (by omega), if_neg (Bool.eq_false_iff.mp h64), if_neg (by omega), if_neg (by omega), if_pos (by omega), hidx]
  rfl

theorem attRead_nonce {i : Nat} (hi : i < 8) (s : State) : attRead (0x20 + 4 * i) s = (tget 0 s.att.nonce i).toNat := by
  have hidx : (0x20 + 4 * i - 0x20) / 4 = i := by omega
  unfold attRead
  dsimp only
  iterate 5 rw [if_neg (by omega)]
  rw [if_pos (by omega), hidx]

theorem ofNat_toNat_mod (v : BitVec 64) : BitVec.ofNat 64 (v.toNat % 2 ^ 64) = v := by
  rw [Nat.mod_eq_of_lt v.isLt, BitVec.ofNat_toNat, BitVec.setWidth_eq]

/-- The two halves of a 64-bit register as its reads join them. -/
theorem ofNat_halfOf (b : Nat) (v : BitVec 64) : BitVec.ofNat 64 (halfOf b (b + 4) v.toNat * 2 ^ 32 + halfOf b b v.toNat) = v := by
  apply BitVec.eq_of_toNat_eq
  simp only [halfOf, Nat.add_sub_cancel_left, Nat.sub_self, Nat.shiftRight_eq_div_pow, BitVec.toNat_ofNat]
  omega

/-- A write of one word of BAR2 by PF1 has the effect `u` that its block gives it. -/
theorem exec_bar2Word1 {n : Nat} {a : BitVec 32} {wide : Bool} {v : BitVec 64} {s u : State} (hl : live s = true) (hpf : s.boot.pf1 = true)
    (ha : a.toNat % 4 = 0) (hw : wide = false ∨ wide2 a.toNat = true) (hoff : a.toNat < 0x46100 ∨ 0x46400 ≤ a.toNat)
    (hu : bar2Word1 n a.toNat wide v.toNat (atInput n s) = u) : exec (.registerWrite n true a wide v) s = .next u := by
  rw [exec_registerWrite_pf1 hl hpf, bar2Write_one ha hw hoff, hu]

theorem PlainWrite.effect {c : Instr} {f : State → State} {s : State} (h : PlainWrite c f) (hl : live s = true) (hpf : s.boot.pf1 = true) :
    exec c s = .next (f s) := by
  cases h with
  | reportAddr n v =>
    refine exec_bar2Word1 hl hpf (by decide) (.inr (by decide)) (.inr (by decide)) ((bar2Word1_att 0x8 n true _ _ (by decide)).trans ?_)
    exact congrArg (fun x => withAtt { s.att with addr := x } (atInput n s)) (ofNat_toNat_mod v)
  | reportLen n v =>
    refine exec_bar2Word1 hl hpf (by decide) (.inl rfl) (.inr (by decide)) ((bar2Word1_att 0x10 n false _ _ (by decide)).trans ?_)
    exact congrArg (fun x => withAtt { s.att with len := x } (atInput n s)) (BitVec.ofNat_toNat 32 v)
  | period n v =>
    refine exec_bar2Word1 hl hpf (by decide) (.inl rfl) (.inr (by decide)) ((bar2Word1_att 0x14 n false _ _ (by decide)).trans ?_)
    exact congrArg (fun x => withAtt { s.att with period := x } (atInput n s)) (BitVec.ofNat_toNat 32 v)
  | nonce n i v =>
    have ha : (BitVec.ofNat 32 (0x48020 + 4 * i.val)).toNat = 0x48000 + (0x20 + 4 * i.val) := by
      rw [BitVec.toNat_ofNat]; omega
    refine exec_bar2Word1 hl hpf (by omega) (.inl rfl) (.inr (by omega)) ?_
    rw [ha, bar2Word1_att _ _ _ _ _ (by omega), attWrite_nonce i.isLt, BitVec.ofNat_toNat]
    rfl
  | relaySel n v =>
    refine exec_bar2Word1 hl hpf (by decide) (.inl rfl) (.inr (by decide)) ((bar2Word1_grv 0x28 n false _ _ (by decide)).trans ?_)
    exact congrArg (fun x => withGrv { s.grv with relaySel := x &&& 0xFC00FFFF } (atInput n s)) (BitVec.ofNat_toNat 32 v)
  | keyArg n v =>
    refine exec_bar2Word1 hl hpf (by decide) (.inr (by decide)) (.inl (by decide)) ((bar2Word1_key 0x8 n true _ _ (by decide)).trans ?_)
    exact congrArg (fun x => withVault { s.vault with arg := x } (atInput n s)) (ofNat_toNat_mod v)
  | keyWrap n v =>
    refine exec_bar2Word1 hl hpf (by decide) (.inl rfl) (.inl (by decide)) ((bar2Word1_key 0x14 n false _ _ (by decide)).trans ?_)
    exact congrArg (fun x => withVault { s.vault with wrap := x } (atInput n s)) (BitVec.ofNat_toNat 12 v)

theorem ClearWrite.effect {c : Instr} {f : State → State} {s : State} (h : ClearWrite c f) (hl : live s = true) (hpf : s.boot.pf1 = true) :
    exec c s = .next (f s) := by
  cases h with
  | steppedBar0 n v => exact (exec_registerWrite_bar0 hl).trans (congrArg Host.Outcome.next (bar0Write_slt (o := 8) (by decide) (by decide) _ _))
  | relayTimeout n v => exact exec_bar2Word1 hl hpf (by decide) (.inl rfl) (.inr (by decide)) (bar2Word1_grv 0 n false _ _ (by decide))
  | stepped n v => exact exec_bar2Word1 hl hpf (by decide) (.inl rfl) (.inr (by decide)) (bar2Word1_slt 8 n false _ _ (by decide))
  | nrgStat n v => exact exec_bar2Word1 hl hpf (by decide) (.inl rfl) (.inr (by decide)) (bar2Word1_nrg 0 n false _ _ (by decide))

/-! What a plain register reads. -/

theorem bar2Read_reportAddr (s : State) : (bar2Read 0x48008 true s).1 = s.att.addr := by
  have hlo : bar2Word 0x48008 s = (halfOf 8 8 s.att.addr.toNat, s) := bar2Word_att 8 s (by decide)
  have hhi : bar2Word 0x4800C s = (halfOf 8 (8 + 4) s.att.addr.toNat, s) := bar2Word_att 12 s (by decide)
  rw [bar2Read_wide (by decide) (by decide) (.inr (by decide)), hlo, hhi, ofNat_halfOf]

/-- The bits of GRV_RELAY_SEL all lie in its low word. -/
theorem setWidth_and_relaySel (v : BitVec 64) : (v.setWidth 32 &&& 0xFC00FFFF#32).setWidth 64 = v &&& 0xFC00FFFF#64 := by
  apply BitVec.eq_of_toNat_eq
  have hlt : v.toNat &&& 0xFC00FFFF < 2 ^ 32 := Nat.and_lt_two_pow _ (by decide)
  rw [BitVec.toNat_setWidth, BitVec.toNat_and, BitVec.toNat_setWidth, BitVec.toNat_and]
  change (v.toNat % 2 ^ 32 &&& 0xFC00FFFF) % 2 ^ 64 = v.toNat &&& 0xFC00FFFF
  calc (v.toNat % 2 ^ 32 &&& 0xFC00FFFF) % 2 ^ 64
      = (v.toNat &&& 0xFC00FFFF) % 2 ^ 32 % 2 ^ 64 := by rw [Nat.and_mod_two_pow (n := 32)]
    _ = v.toNat &&& 0xFC00FFFF := by omega

theorem plainRead (v : BitVec 64) (s : State) (hwf : twf 0 s.att.nonce = true) :
    (bar2Read 0x48008 true (withAtt { s.att with addr := v } s)).1 = v ∧
    (bar2Read 0x48010 false (withAtt { s.att with len := v.setWidth 32 } s)).1 = (v.setWidth 32).setWidth 64 ∧
    (∀ i : Fin 8, (bar2Read (0x48020 + 4 * i.val) false (withAtt { s.att with nonce := tset 0 s.att.nonce i (v.setWidth 32) } s)).1 =
      (v.setWidth 32).setWidth 64) ∧
    (bar2Read 0x60028 false (withGrv { s.grv with relaySel := v.setWidth 32 &&& 0xFC00FFFF } s)).1 = v &&& 0xFC00FFFF := by
  refine ⟨?_, ?_, fun i => ?_, ?_⟩
  · exact bar2Read_reportAddr _
  · rw [bar2Read_word (by decide)]
    exact (congrArg (fun r : Nat × State => BitVec.ofNat 64 r.1) (bar2Word_att 0x10 _ (by decide))).trans (BitVec.ofNat_toNat 64 _)
  · rw [bar2Read_word (by omega)]
    have ha : 0x48020 + 4 * i.val = 0x48000 + (0x20 + 4 * i.val) := by omega
    rw [ha, bar2Word_att _ _ (by omega), attRead_nonce i.isLt, BitVec.ofNat_toNat]
    exact congrArg (BitVec.setWidth 64) (tget_tset_same 0 _ _ _ hwf)
  · rw [bar2Read_word (by decide)]
    refine (congrArg (fun r : Nat × State => BitVec.ofNat 64 r.1) (bar2Word_grv 0x28 _ (by decide))).trans ((BitVec.ofNat_toNat 64 _).trans ?_)
    exact setWidth_and_relaySel v

/-! Commands that no table lists. -/

theorem keyCmdWrite_unlisted {v : Nat} (h : v % 256 = 0 ∨ 10 ≤ v % 256) (t : Nat) (s : State) : keyCmdWrite t v s = s := by
  unfold keyCmdWrite
  rcases h with h | h
  · rw [h]
    rfl
  · obtain ⟨k, hk⟩ := Nat.exists_eq_add_of_le' h
    rw [hk]
    rfl

theorem lcyWrite_unlisted {v : W32} (h : v.toNat % 256 = 0 ∨ 6 ≤ v.toNat % 256) (t : Nat) (s : State) : lcyWrite false t 4 v s = s := by
  unfold lcyWrite
  rw [if_pos rfl]
  rcases h with h | h
  · rw [h]
    rfl
  · obtain ⟨k, hk⟩ := Nat.exists_eq_add_of_le' h
    rw [hk]
    rfl

theorem curveCmdWrite_unlisted {v : Nat} (h : v % 4 = 0 ∨ v % 4 = 3) (s : State) : curveCmdWrite v s = s := by
  unfold curveCmdWrite
  rcases h with h | h
  · rw [h]
    rfl
  · rw [h]
    rfl

theorem cmdWrite_unlisted {r : CmdReg} {v : Nat} (h : opListed r v = false) (t : Nat) (s : State) : cmdWrite t r v s = s := by
  cases r with
  | key =>
    have hv := of_decide_eq_false h
    exact keyCmdWrite_unlisted (by omega) t s
  | lcy =>
    have hv := of_decide_eq_false h
    have hw : (BitVec.ofNat 32 v).toNat % 256 = v % 256 := by
      rw [BitVec.toNat_ofNat]; omega
    exact lcyWrite_unlisted (by omega) t s
  | curve =>
    obtain ⟨h1, h2⟩ := Bool.or_eq_false_iff.mp h
    have h1 := beq_eq_false_iff_ne.mp h1
    have h2 := beq_eq_false_iff_ne.mp h2
    exact curveCmdWrite_unlisted (by omega) s

theorem exec_undefinedOpWrite (n : Nat) (r : CmdReg) (v : BitVec 32) (s : State) :
    exec (.undefinedOpWrite n r v) s = .next { s with out := [] } := by
  have hstep : undefinedOpWriteS n r v.toNat { s with out := [] } = { s with out := [] } := by
    unfold undefinedOpWriteS
    split
    · rfl
    · next h => rw [pf1Do, cmdWrite_unlisted (Bool.eq_false_iff.mpr h), ite_self]
  cases hl : live s with
  | true => exact (act_live hl).trans (congrArg Host.Outcome.next hstep)
  | false => exact act_dead hl

/-! A temperature sample. -/

/-- The taproot's sample stands in bits 39:32, the limbs' in bits 31:0. -/
theorem temp_ofNat (limbs : BitVec 32) (tap : BitVec 8) : (0#24 ++ tap ++ limbs) = BitVec.ofNat 64 (tap.toNat * 2 ^ 32 + limbs.toNat) := by
  apply BitVec.eq_of_toNat_eq
  have ht := tap.isLt
  have hl := limbs.isLt
  rw [BitVec.toNat_append, BitVec.toNat_append, BitVec.toNat_ofNat, BitVec.toNat_ofNat, Nat.zero_mod, Nat.zero_shiftLeft, Nat.zero_or,
    ← Nat.shiftLeft_add_eq_or_of_lt hl, Nat.shiftLeft_eq]
  omega

theorem exec_tempSample {s : State} (hl : live s = true) (limbs : BitVec 32) (tap : BitVec 8) :
    exec (.tempSample limbs tap) s = .next { s with
      out := [], env := { s.env with temp := BitVec.ofNat 64 (tap.toNat * 2 ^ 32 + limbs.toNat) } } := by
  rw [← temp_ofNat]
  exact act_live hl

/-! The mission log. -/

theorem bitsOf_byte (v i : Nat) : bitsOf v (8 * i + 7) (8 * i) = v / 256 ^ i % 256 := by
  rw [bitsOf, Nat.shiftRight_eq_div_pow, Nat.pow_mul, show 8 * i + 7 - 8 * i + 1 = 8 by omega]
  rfl

/-- The weighted minutes of an hour, in thousandths of an hour (R545). -/
def lifeOf (m : BitVec 32) : Nat :=
  (m.toNat / 256 ^ 0 % 256 + 3 * (m.toNat / 256 ^ 1 % 256) + 15 * (m.toNat / 256 ^ 2 % 256) + 15 * (m.toNat / 256 ^ 3 % 256)) * 1000 / 60

theorem hourLife_eq (m : BitVec 32) : hourLife m = lifeOf m := by
  simp only [hourLife, lifeOf, bitsOf_byte]

theorem lcs_num_lt_two (l : Lcs) : l.num < 2 ↔ l = .seed ∨ l = .sapling := by
  cases l <;> simp [Lcs.num]

/-- The life used before the hour and in it, as the statement writes it. -/
def withLife (m : BitVec 32) (s : State) : Env := { s.env with lifeMilli := s.env.lifeMilli + lifeOf m }

section missionLog
variable (n : Nat) (hi mean : BitVec 8) (m : BitVec 32) {s : State}

theorem missionLogHourS_other (hxv : s.fuses.xv = false) : missionLogHourS n hi mean m { s with out := [] } = atInput n s :=
  if_pos (congrArg not hxv)

/-- GAP of the record that the hour writes. -/
def hourGap (s : State) : Nat :=
  if !s.slt.anchored then 0xFFFFFFFF else if s.env.logged then s.env.lost else (drawFree s).1.toNat % 2 ^ 32

theorem hourGap_unanchored (h : s.slt.anchored = false) : hourGap s = 0xFFFFFFFF := by
  simp [hourGap, h]

theorem hourGap_logged (h : s.slt.anchored = true) (hlog : s.env.logged = true) : hourGap s = s.env.lost := by
  simp [hourGap, h, hlog]

theorem hourGap_lt (hlog : s.env.logged = false) : hourGap s < 2 ^ 32 := by
  unfold hourGap
  split
  · decide
  · rw [hlog]
    exact Nat.mod_lt _ (by decide)

/-- The hours of the log after this one. -/
def hourAfter (s : State) : Nat := s.env.hour + 1 + (if hourGap s = 0xFFFFFFFF then 0 else hourGap s)

/-- The record that the hour writes. -/
def recordOf (hi mean : BitVec 8) (m : BitVec 32) (s : State) : Bytes :=
  hourRecord (hourAfter s) (hourGap s) hi mean m ((s.nrg.total - s.env.energyAt).toNat / 1000000)

/-- The page with the hour's record. -/
def envLogged (hi mean : BitVec 8) (m : BitVec 32) (s : State) : Env :=
  { withLife m s with
    page := s.env.page ++ [recordOf hi mean m s], hour := hourAfter s, energyAt := s.nrg.total, logged := true, lost := 0 }

/-- What the hour does once its GAP stands. -/
def hourEnd (hi mean : BitVec 8) (m : BitVec 32) (gap : Nat) (s : State) : State :=
  let hour := s.env.hour + 1 + (if gap = 0xFFFFFFFF then 0 else gap)
  let r := hourRecord hour gap hi mean m ((s.nrg.total - s.env.energyAt).toNat / 1000000)
  let s : State := { s with env := { s.env with
    page := s.env.page ++ [r], hour := hour, energyAt := s.nrg.total, logged := true, lost := 0 } }
  if 8 ≤ s.env.page.length then logPage s else s

theorem drawFree_if (c : Bool) (s : State) :
    (if c then (drawFree s).2 else s) = { s with freeCtr := if c then s.freeCtr + 1 else s.freeCtr } := by
  cases c <;> rfl

/-- An hour of an ESG-6416-XV: its life use, and its record where records are written. -/
theorem missionLogHourS_eq (hxv : s.fuses.xv = true) :
    missionLogHourS n hi mean m { s with out := [] } =
      let u : State := { atInput n s with env := withLife m s }
      if s.env.full || decide (s.boot.lcs.num < 2) then u
      else hourEnd hi mean m (hourGap s) (if s.slt.anchored && !s.env.logged then (drawFree u).2 else u) := by
  rw [withLife, ← hourLife_eq]
  exact if_neg (by simp [hxv])

theorem missionLogHourS_idle (hxv : s.fuses.xv = true) (h : s.env.full = true ∨ s.boot.lcs = .seed ∨ s.boot.lcs = .sapling) :
    missionLogHourS n hi mean m { s with out := [] } = { atInput n s with env := withLife m s } := by
  refine (missionLogHourS_eq n hi mean m hxv).trans (if_pos ?_)
  rw [Bool.or_eq_true, decide_eq_true_eq]
  exact h.imp_right (lcs_num_lt_two _).mpr

/-- The record joins the page, and the eighth one closes it. -/
theorem missionLogHourS_logs (hxv : s.fuses.xv = true) (hfull : s.env.full = false) (h0 : s.boot.lcs ≠ .seed) (h1 : s.boot.lcs ≠ .sapling) :
    ∃ k, let u : State := { atInput n s with freeCtr := k, env := envLogged hi mean m s }
      missionLogHourS n hi mean m { s with out := [] } = if 8 ≤ u.env.page.length then logPage u else u := by
  have hlcs : ¬ (s.env.full || decide (s.boot.lcs.num < 2)) = true := by
    rw [Bool.or_eq_true, decide_eq_true_eq, hfull, lcs_num_lt_two]
    simp [h0, h1]
  refine ⟨if s.slt.anchored && !s.env.logged then s.freeCtr + 1 else s.freeCtr, (missionLogHourS_eq n hi mean m hxv).trans ((if_neg hlcs).trans ?_)⟩
  exact congrArg (hourEnd hi mean m (hourGap s)) (drawFree_if (s.slt.anchored && !s.env.logged) { atInput n s with env := withLife m s })

end missionLog

/-! A page of eight records. -/

theorem logPage_shut {s : State} (h : journalShut s = true) :
    logPage s = keepDropped { s with env := { s.env with page := [], lost := s.env.lost + 8 } } := if_pos h

theorem logPage_open {s : State} (h : journalShut s = false) :
    logPage s = queueJobAs false .log 3 none { s with
      env := { s.env with page := [] }, kpf := { s.kpf with logDue := s.kpf.logDue ++ [s.env.page.flatten] } } :=
  if_neg (Bool.eq_false_iff.mp h)

theorem keepDropped_env (s : State) : (keepDropped s).env = s.env := by simp only [keepDropped, emit_env]

theorem keepDropped_nrg (s : State) : (keepDropped s).nrg = s.nrg := by simp only [keepDropped, emit_nrg]

theorem keepDropped_logDue (s : State) : (keepDropped s).kpf.logDue = s.kpf.logDue := by simp only [keepDropped, emit_kpf]

theorem recordOf_eq (hi mean : BitVec 8) (m : BitVec 32) (s : State) :
    recordOf hi mean m s =
      let r := hourBytes (hourAfter s) (hourGap s) hi mean m ((s.nrg.total - s.env.energyAt).toNat / 1000000) (lifeOf m)
      r ++ leBytes 4 (crc32c r) := by
  rw [recordOf, hourRecord, hourLife_eq]
  rfl

/-- What an hour whose record joined the page leaves. -/
theorem hour_logged (n : Nat) (hi mean : BitVec 8) (m : BitVec 32) {s : State} (hl : live s = true) (hxv : s.fuses.xv = true)
    (hfull : s.env.full = false) (h0 : s.boot.lcs ≠ .seed) (h1 : s.boot.lcs ≠ .sapling) :
    ∃ t, exec (.missionLogHour n hi mean m) s = .next t ∧
      let page := s.env.page ++ [recordOf hi mean m s]
      t.env.hour = hourAfter s ∧ t.env.lifeMilli = (withLife m s).lifeMilli ∧ t.env.energyAt = s.nrg.total ∧ t.env.logged = true ∧
      (page.length < 8 → t.env.page = page ∧ t.env.lost = 0 ∧ t.kpf = s.kpf ∧ t.nrg = s.nrg) ∧
      (8 ≤ page.length → t.env.page = [] ∧
        (journalShut s = false → t.kpf = { s.kpf with logDue := s.kpf.logDue ++ [page.flatten] } ∧ ∃ job : Job, job.act = .log ∧ job.kind = 3 ∧
          job.c2 = false ∧ t.nrg = { s.nrg with jobs := s.nrg.jobs ++ [job], nextJob := s.nrg.nextJob + 1 }) ∧
        (journalShut s = true → t.env.lost = 8 ∧ t.kpf.logDue = s.kpf.logDue ∧ t.nrg = s.nrg)) := by
  obtain ⟨k, hk⟩ := missionLogHourS_logs n hi mean m hxv hfull h0 h1
  refine ⟨_, (act_live hl).trans (congrArg Host.Outcome.next hk), ?_⟩
  by_cases hlen : 8 ≤ (s.env.page ++ [recordOf hi mean m s]).length
  case neg =>
    rw [if_neg (by exact hlen)]
    exact ⟨rfl, rfl, rfl, rfl, fun _ => ⟨rfl, rfl, rfl, rfl⟩, fun h => absurd h hlen⟩
  case pos =>
    have hlt : ¬ (s.env.page ++ [recordOf hi mean m s]).length < 8 := Nat.not_lt.mpr hlen
    rw [if_pos (by exact hlen)]
    cases hj : journalShut s with
    | true =>
      rw [logPage_shut (by exact hj), keepDropped_env, keepDropped_nrg, keepDropped_logDue]
      exact ⟨rfl, rfl, rfl, rfl, fun h => absurd h hlt, fun _ => ⟨rfl, fun h => absurd h (by decide), fun _ => ⟨rfl, rfl, rfl⟩⟩⟩
    | false =>
      rw [logPage_open (by exact hj)]
      exact ⟨rfl, rfl, rfl, rfl, fun h => absurd h hlt, fun _ => ⟨rfl, fun _ => ⟨rfl, _, rfl, rfl, rfl, rfl⟩, fun h => absurd h (by decide)⟩⟩

/-- Settles O58: each register's block is found from its address, and each command's row is evaluated from its tests. -/
theorem registerWritesAndLog : Obligations.RegisterWritesAndLog := by
  unfold Obligations.RegisterWritesAndLog
  refine ⟨fun n a wide v s hl => ⟨?noWrite, ?notInstalled⟩, fun c f s h hl hpf => h.effect hl hpf, plainRead,
    fun c f s h hl hpf => h.effect hl hpf, exec_undefinedOpWrite, fun limbs tap s hl => exec_tempSample hl limbs tap, ?hour⟩
  case noWrite =>
    intro h
    cases hpf : s.boot.pf1 with
    | false => exact exec_registerWrite_noPf1 hl hpf
    | true =>
      have hno : NoWrite a wide := h.resolve_left (by rw [hpf]; decide)
      rw [exec_registerWrite_pf1 hl hpf, bar2Write_noWrite hno]
  case notInstalled =>
    intro hi hlo hhi
    rw [exec_registerWrite_bar0 hl, bar0Write_notInstalled (by exact hi) hlo hhi]
  case hour =>
    intro n hi mean m s hl
    refine ⟨fun hxv => ?_, fun hxv h => ?_, fun hxv hfull h0 h1 => ?_⟩
    · exact (act_live hl).trans (congrArg Host.Outcome.next (missionLogHourS_other n hi mean m hxv))
    · exact (act_live hl).trans (congrArg Host.Outcome.next (missionLogHourS_idle n hi mean m hxv h))
    · obtain ⟨t, ht, hlog⟩ := hour_logged n hi mean m hl hxv hfull h0 h1
      rw [recordOf_eq] at hlog
      exact ⟨hourGap s, t, ht, hourGap_unanchored, hourGap_logged, hourGap_lt, hlog⟩
end Sys2Proof
end

section
/-!
PROOFS. Scope: the disable group of every unit, and the Ring store with its fences, takeovers and hand-backs
(spec/01_leaf_to_forest.md with the chapters its rules name).
-/
namespace Sys2Proof
open Machine

/-! ### Commands of PF1 -/

section host
variable {f : State → State} {s : State}

/-- A command that only PF1 gives acts while PF1 is present. -/
theorem act_pf1 (hl : live s = true) (hpf : s.boot.pf1 = true) : act (pf1Do f) s = .next (f { s with out := [] }) :=
  (act_live hl).trans (congrArg Host.Outcome.next (if_pos hpf))

/-- Without PF1 it leaves all but the outputs. -/
theorem act_noPf1 (hl : live s = true) (hpf : s.boot.pf1 = false) : act (pf1Do f) s = .next { s with out := [] } :=
  (act_live hl).trans (congrArg Host.Outcome.next (if_neg (Bool.eq_false_iff.mp hpf)))

/-- A command that changes nothing in this state, with PF1 or without. -/
theorem act_pf1_same (hl : live s = true) (hf : f { s with out := [] } = { s with out := [] }) :
    act (pf1Do f) s = .next { s with out := [] } := by
  cases hpf : s.boot.pf1 with
  | false => exact act_noPf1 hl hpf
  | true => rw [act_pf1 hl hpf, hf]

end host

/-! ### What the units of the tree leave alone -/

/-- What the lane moves have changed, with the report of the last one (R302). -/
def laneMoves (n : Cnp) : Tab Nat × Nat × Nat × Nat := (n.moved, n.moveOld, n.moveNew, n.moveRetried)

/-- The parts that a fence, a disable and a lane move depend on and that no traffic of a unit reaches: the disable groups, the ledger
with the boughs' power, the Grain, the journal, and the lane moves. -/
def treeParts (s : State) : Tab Dis × Nrg × Grn × Kpf × Tab Nat × Nat × Nat × Nat :=
  (s.dis, s.nrg, s.grn, s.kpf, laneMoves s.cnp)

/-- The same with the leaves. -/
def treeView (s : State) := (treeParts s, s.lvs.leaf)

theorem treeView_leaf {s t : State} (h : treeView t = treeView s) : t.lvs.leaf = s.lvs.leaf := congrArg (·.2) h
theorem treeView_parts {s t : State} (h : treeView t = treeView s) : treeParts t = treeParts s := congrArg (·.1) h
theorem treeParts_dis {s t : State} (h : treeParts t = treeParts s) : t.dis = s.dis := congrArg (·.1) h
theorem treeParts_nrg {s t : State} (h : treeParts t = treeParts s) : t.nrg = s.nrg := congrArg (·.2.1) h
theorem treeParts_grn {s t : State} (h : treeParts t = treeParts s) : t.grn = s.grn := congrArg (·.2.2.1) h
theorem treeParts_kpf {s t : State} (h : treeParts t = treeParts s) : t.kpf = s.kpf := congrArg (·.2.2.2.1) h

section view
variable (s : State)

@[simp] theorem emit_view (c : EvClass) (code src : W16) (d : Bytes) : treeView (emit c code src d s) = treeView s := by
  simp [treeView, treeParts]
@[simp] theorem bump_view (o : Nat) : treeView (bump o s) = treeView s := rfl
@[simp] theorem bumpBy_view (o n : Nat) : treeView (bumpBy o n s) = treeView s := rfl
@[simp] theorem atTime_view (t : Nat) : treeView (atTime t s) = treeView s := rfl
@[simp] theorem drawFree_view : treeView (drawFree s).2 = treeView s := rfl
@[simp] theorem twigWrite_view (t a : Nat) (b : Bytes) : treeView (twigWrite t a b s) = treeView s := rfl
@[simp] theorem modGrv_view (f : Grv → Grv) : treeView (modGrv f s) = treeView s := rfl
@[simp] theorem modCus_view (f : Cus → Cus) : treeView (modCus f s) = treeView s := rfl
@[simp] theorem modCdom_view (d : Nat) (f : CusDom → CusDom) : treeView (modCdom d f s) = treeView s := rfl
@[simp] theorem modFlt_view (d : Nat) (f : Flt → Flt) : treeView (modFlt d f s) = treeView s := rfl
@[simp] theorem modEng_view (b : Nat) (f : BrlEng → BrlEng) : treeView (modEng b f s) = treeView s := rfl
theorem modCnp_view {f : Cnp → Cnp} (hf : ∀ n, laneMoves (f n) = laneMoves n) : treeView (modCnp f s) = treeView s := by
  simp [treeView, treeParts, hf]
@[simp] theorem modLane_view (l : Nat) (f : Lane → Lane) : treeView (modLane l f s) = treeView s := rfl
@[simp] theorem modEntry_view (h : W32) (f : Entry → Entry) : treeView (modEntry h f s) = treeView s := rfl
@[simp] theorem releaseEntry_view (h : W32) : treeView (releaseEntry h s) = treeView s := rfl

theorem foldS_view {α : Type} {f : α → State → State} (h : ∀ a s, treeView (f a s) = treeView s) : ∀ (l : List α) (s : State),
    treeView (foldS f l s) = treeView s
  | [], _ => rfl
  | a :: l, s => (foldS_view h l _).trans (h a s)

end view

/-! A frame that a port receives: the ingress pipe, the sieve, the egress pipe, the MKA rings and the time receiver. -/

section frame
variable (p k : Nat) (s : State)

@[simp] theorem modPort_view (f : Port → Port) : treeView (modPort p f s) = treeView s := rfl
@[simp] theorem modLport_view (f : Lport → Lport) : treeView (modLport p k f s) = treeView s := rfl
@[simp] theorem modSecy_view (f : Secy → Secy) : treeView (modSecy p k f s) = treeView s := rfl
@[simp] theorem modMka_view (f : Mka → Mka) : treeView (modMka p f s) = treeView s := rfl
@[simp] theorem modPtp_view (f : Ptp → Ptp) : treeView (modPtp f s) = treeView s := rfl
@[simp] theorem linkCount_view (code : W16) : treeView (linkCount p k code s) = treeView s := rfl
@[simp] theorem linkDrop_view (code : W16) : treeView (linkDrop p k code s) = treeView s := by simp [linkDrop]
@[simp] theorem lportLose_view (n : Nat) : treeView (lportLose p k n s) = treeView s := rfl
@[simp] theorem wireOut_view (bad : Bool) (b : Bytes) : treeView (wireOut p k bad b s) = treeView s := rfl

@[simp] theorem flowEmit_view (q quanta : Nat) : treeView (flowEmit q p k quanta s) = treeView s := by
  rw [flowEmit]
  split <;> rfl

@[simp] theorem flowUpdate_view : treeView (flowUpdate p k s) = treeView s := by
  rw [flowUpdate]
  split
  · simp
  · split <;> simp

@[simp] theorem pnCheck_view (pn : Nat) : treeView (pnCheck p k pn s) = treeView s := by
  rw [pnCheck]
  split <;> simp

@[simp] theorem txStall_view : treeView (txStall p k s) = treeView s := by
  rw [txStall]
  split <;> simp

@[simp] theorem txPipe_view (f : EgFrame) : treeView (txPipe p k f s).2 = treeView s := by
  unfold txPipe
  dsimp only
  split
  · split <;> rfl
  · split
    · simp
    · split
      · simp
      · split <;> simp

@[simp] theorem egressPut_view (f : EgFrame) : treeView (egressPut p k f s).2 = treeView s := by
  unfold egressPut
  dsimp only
  split
  · simp
  · split <;> simp

@[simp] theorem egressForward_view (bad : Bool) (f : EgFrame) : treeView (egressForward p k bad f s).2 = treeView s := by
  unfold egressForward
  dsimp only
  split
  · split
    · simp
    · split <;> simp
  · split <;> simp

@[simp] theorem rxAccept_view (i pn : Nat) : treeView (rxAccept p k i pn s) = treeView s := by
  rw [rxAccept]
  split <;> simp

@[simp] theorem rxNoSa_view (g : GSecy) (c : Option Nat) (f : Bytes) (t : SecTag) : treeView (rxNoSa p k g c f t s).2 = treeView s := by
  unfold rxNoSa
  dsimp only
  split <;> cases c <;> rfl

@[simp] theorem rxTagged_view (f : Bytes) : treeView (rxTagged p k f s).2 = treeView s := by
  unfold rxTagged
  dsimp only
  split
  · rfl
  · split
    · simp
    · split
      · simp
      · split
        · rfl
        · split
          · rfl
          · simp

@[simp] theorem rxPipe_view (f : Bytes) : treeView (rxPipe p k f s).2 = treeView s := by
  unfold rxPipe
  split
  · rfl
  · split
    · simp
    · split <;> rfl

@[simp] theorem mkaFrame_view (f : Bytes) : treeView (mkaFrame p k f s) = treeView s := by
  rw [mkaFrame]
  split <;> simp

@[simp] theorem rxForward_view (f : Bytes) (bad : Bool) (code : W16) : treeView (rxForward p k f bad code s) = treeView s := by
  rw [rxForward]
  split <;> simp

@[simp] theorem ptpSend_view (typ : Nat) (seq : W16) (corr body : Bytes) : treeView (ptpSend typ seq corr body s) = treeView s := by
  simp [ptpSend]

@[simp] theorem ptpAsk_view (peer : Bool) : treeView (ptpAsk peer s) = treeView s := by simp [ptpAsk]

@[simp] theorem acceptTime_view (tai at_ : Nat) : treeView (acceptTime tai at_ s) = treeView s := by
  rw [acceptTime]
  split <;> rfl

@[simp] theorem ptpSync_view (t2 t1 : Nat) (corr : Int) : treeView (ptpSync t2 t1 corr s) = treeView s := by simp [ptpSync]

@[simp] theorem ptpDelayResp_view (m : Bytes) : treeView (ptpDelayResp m s) = treeView s := by
  unfold ptpDelayResp
  dsimp only
  split
  · split <;> rfl
  · rfl

@[simp] theorem ptpPdelayResp_view (m : Bytes) : treeView (ptpPdelayResp m s) = treeView s := by
  unfold ptpPdelayResp
  dsimp only
  split
  · split
    · rfl
    · split <;> rfl
  · rfl

@[simp] theorem ptpPdelayFollow_view (m : Bytes) : treeView (ptpPdelayFollow m s) = treeView s := by
  unfold ptpPdelayFollow
  dsimp only
  split
  · split <;> rfl
  · rfl

@[simp] theorem ptpMessageS_view (t : Nat) (m : Bytes) : treeView (ptpMessageS t p k m s) = treeView s := by
  unfold ptpMessageS
  dsimp only
  split
  · rfl
  · split
    · split <;> simp
    · split
      · rfl
      · split <;> simp
    · split
      · split <;> simp
      · rfl
    · split <;> simp
    · simp [ptpPdelayReq]
    · simp
    · simp
    · rfl

@[simp] theorem sieveAct_view (f : Bytes) (bad : Bool) (code : W16) : treeView (sieveAct p k f bad code s) = treeView s := by
  unfold sieveAct
  dsimp only
  split
  · simp
  · split
    · split
      · split <;> simp
      · rfl
    · rw [rxForward_view]
      split
      · split <;> simp
      · rfl
    · split
      · split <;> simp
      · simp
    · simp

@[simp] theorem rxFrame_view (w : Bytes) : treeView (rxFrame p k w s) = treeView s := by
  unfold rxFrame
  dsimp only
  split
  · rfl
  · split
    · split <;> simp
    · split
      · split <;> simp
      · split <;> simp
      · split <;> simp

end frame

/-! What a custody domain discards when it is held or cut. -/

section custody
variable (d : Nat) (s : State)

@[simp] theorem verdictSend_view (v : Verdict) : treeView (verdictSend d v s) = treeView s := by simp [verdictSend]

@[simp] theorem verdictFlush_view : treeView (verdictFlush d s) = treeView s :=
  (foldS_view (fun v s => verdictSend_view d s v) _ _).trans rfl

@[simp] theorem escDrop_view : treeView (escDrop d s) = treeView s := by
  rw [escDrop]
  split <;> simp

end custody

/-! ### Steps that may change leaves -/

/-- `t` has the tree's parts of `s`, and of every leaf keeps what `π` shows. -/
structure TreeKept {β : Type} (π : Leaf → β) (s t : State) : Prop where
  parts : treeParts t = treeParts s
  wf : twf {} s.lvs.leaf = true → twf {} t.lvs.leaf = true
  leaf : twf {} s.lvs.leaf = true → ∀ l, π (leafAt l t) = π (leafAt l s)

section kept
variable {β : Type} {π : Leaf → β}

theorem TreeKept.ofView {s t : State} (h : treeView t = treeView s) : TreeKept π s t :=
  ⟨treeView_parts h, fun hw => by rw [treeView_leaf h]; exact hw, fun _ l => by rw [leafAt, treeView_leaf h]; rfl⟩

theorem TreeKept.refl (s : State) : TreeKept π s s := .ofView rfl

theorem TreeKept.trans {s t u : State} (h : TreeKept π s t) (k : TreeKept π t u) : TreeKept π s u :=
  ⟨k.parts.trans h.parts, fun hw => k.wf (h.wf hw), fun hw l => (k.leaf (h.wf hw) l).trans (h.leaf hw l)⟩

theorem TreeKept.fromView {s t u : State} (k : TreeKept π t u) (h : treeView t = treeView s) : TreeKept π s u := (ofView h).trans k

theorem TreeKept.peel {s t u : State} (h : treeView u = treeView t) (k : TreeKept π s t) : TreeKept π s u := k.trans (ofView h)

theorem TreeKept.foldS {α : Type} {f : α → State → State} (h : ∀ a s, TreeKept π s (f a s)) : ∀ (l : List α) (s : State),
    TreeKept π s (foldS f l s)
  | [], s => .refl s
  | a :: l, s => (h a s).trans (TreeKept.foldS h l _)

/-- A change of a leaf that `π` does not show. -/
theorem TreeKept.modLeaf (l : Nat) {f : Leaf → Leaf} (hf : ∀ x, π (f x) = π x) (s : State) : TreeKept π s (modLeaf l f s) := by
  refine ⟨rfl, fun hw => twf_tset _ _ _ _ hw, fun hw j => ?_⟩
  by_cases hj : j = l
  · subst hj
    exact (congrArg π (tget_tmod_same _ _ _ f hw)).trans (hf _)
  · exact congrArg π (tget_tmod_other _ _ _ _ f hw hj)

end kept

/-! A lane's OPENs and COMMITs change no more of a leaf than its sap tags. -/

@[simp] theorem pushRec_view (c : Nat) (r : Rec) (s : State) : treeView (pushRec c r s) = treeView s := by
  rw [pushRec]
  split <;> rfl

@[simp] theorem downlinkDone_view (p : Payload) (o : Nat) (d : Option Dlink) (s : State) :
    treeView (downlinkDone p o d s) = treeView s := by
  unfold downlinkDone
  cases d <;> simp

theorem ctxManage_view (op i : Nat) (s : State) : treeView (ctxManage op i s) = treeView s := by
  unfold ctxManage
  dsimp only
  split
  · split
    · exact downlinkDone_view _ _ _ _
    · rfl
  · rfl
  · split
    · exact downlinkDone_view _ _ _ _
    · rfl
  · rfl

section tags
variable {β : Type} {π : Leaf → β}

/-- One more of a counter, or not. -/
theorem TreeKept.iteBump {s t : State} {o : Nat} {c : Prop} [Decidable c] (h : TreeKept π s t) :
    TreeKept π s (if c then bump o t else t) := by
  split
  · exact .peel (bump_view _ _) h
  · exact h

theorem TreeKept.iteCount {s t : State} {o n : Nat} {c : Prop} [Decidable c] (h : TreeKept π s t) :
    TreeKept π s (if c then t else bumpBy o n t) := by
  split
  · exact h
  · exact .peel (bumpBy_view _ _ _) h

variable (hπ : ∀ (x : Leaf) t, π { x with tags := t } = π x)
include hπ

theorem TreeKept.modReq (l t : Nat) (f : SapReq → SapReq) (s : State) : TreeKept π s (modReq l t f s) :=
  .modLeaf l (fun x => hπ x _) s

theorem TreeKept.commitReady (l t : Nat) (code : W16) (s : State) : TreeKept π s (commitReady l t code s) :=
  .fromView (.modReq hπ l t _ _) (modLane_view s l _)

theorem TreeKept.openStart (o : OpenRec) (s : State) : TreeKept π s (openStart o s) := by
  unfold Machine.openStart
  split
  · exact .ofView (ctxManage_view _ _ _)
  · split
    · exact .modReq hπ _ _ _ _
    · dsimp only
      refine .peel (bumpBy_view _ _ _) (.iteBump ?_)
      exact .peel (modLane_view _ _ _) (.peel (bump_view _ _) (.peel (modCnp_view _ (fun _ => rfl))
        (.fromView (.modReq hπ _ _ _ _) (drawFree_view s))))

theorem TreeKept.beginFrom : ∀ (os : List OpenRec) (seen : List Nat) (s : State), TreeKept π s (beginFrom os seen s)
  | [], _, s => .refl s
  | o :: os, seen, s => by
    rw [Machine.beginFrom]
    split
    · exact .fromView (TreeKept.beginFrom os _ _) rfl
    · split
      · exact .fromView (TreeKept.beginFrom os _ _) rfl
      · exact (TreeKept.openStart hπ o s).trans (TreeKept.beginFrom os _ _)

theorem TreeKept.beginOpens (s : State) : TreeKept π s (beginOpens s) := .fromView (.beginFrom hπ _ _ _) rfl

theorem TreeKept.laneCut (l : Nat) (s : State) : TreeKept π s (laneCut l s).2 := by
  refine TreeKept.trans (.iteCount ?_) (.beginOpens hπ _)
  refine .fromView (.foldS (fun h s => ?_) _ _) ((modLane_view _ _ _).trans (modCnp_view _ (fun _ => rfl)))
  exact .fromView (.commitReady hπ _ _ _ _) (drawFree_view s)

end tags

/-! ### The disable group (O26) -/

theorem unitKey_inj {u v : UnitId} (h : unitKey u = unitKey v) : u = v := by
  cases u <;> cases v <;> simp only [unitKey, UnitId.lane.injEq, UnitId.custody.injEq, UnitId.rxp.injEq, UnitId.txp.injEq,
    UnitId.burl.injEq, reduceCtorEq, Fin.ext_iff] at h ⊢ <;> omega

/-- In `t` the group of `u` is `d`, and every other group is that of `s`. -/
def GroupIs (u : UnitId) (d : Dis) (s t : State) : Prop := disOf u t = d ∧ ∀ v, v ≠ u → disOf v t = disOf v s

theorem GroupIs.modDis {u : UnitId} {s : State} (hw : twf {} s.dis = true) (f : Dis → Dis) : GroupIs u (f (disOf u s)) s (modDis u f s) :=
  ⟨tget_tmod_same _ _ _ f hw, fun _ hv => tget_tmod_other _ _ _ _ f hw (fun h => hv (unitKey_inj h))⟩

theorem twf_modDis (u : UnitId) {s : State} (hw : twf {} s.dis = true) (f : Dis → Dis) : twf {} (modDis u f s).dis = true :=
  twf_tmod _ _ _ f hw

/-- Groups are read from the table of groups alone. -/
theorem disOf_congr {s t : State} (h : t.dis = s.dis) (u : UnitId) : disOf u t = disOf u s := by rw [disOf, h]; rfl

theorem GroupIs.congr {u : UnitId} {d : Dis} {s t s' t' : State} (h : GroupIs u d s t) (hs : s'.dis = s.dis) (ht : t'.dis = t.dis) :
    GroupIs u d s' t' :=
  ⟨(disOf_congr ht u).trans h.1, fun v hv => ((disOf_congr ht v).trans (h.2 v hv)).trans (disOf_congr hs v).symm⟩

/-- A group that runs a disable, changed twice. -/
theorem modDis_modDis {u : UnitId} {s : State} (f g : Dis → Dis) (h : f (disOf u s) ≠ {}) :
    modDis u g (modDis u f s) = modDis u (fun d => g (f d)) s := by
  have hread : disOf u (modDis u f s) = f (disOf u s) := tget_tset_ne _ _ _ _ h
  have hset : ∀ x, tset {} (modDis u f s).dis (unitKey u) x = tset {} s.dis (unitKey u) x := fun x => tset_tset_ne _ _ _ _ x h
  show { modDis u f s with dis := tset {} (modDis u f s).dis (unitKey u) (g (disOf u (modDis u f s))) } = _
  rw [hread, hset]
  rfl

/-! What a CUT discards leaves the groups alone, and does not depend on them. -/

theorem disDiscard_dis (u : UnitId) (s : State) : (disDiscard u s).2.dis = s.dis := by
  cases u with
  | lane l => exact treeParts_dis (TreeKept.laneCut (π := Leaf.fenced) (fun _ _ => rfl) _ _).parts
  | custody d => exact treeParts_dis (treeView_parts ((escDrop_view _ _).trans (modCdom_view _ _ _)))
  | rxp | txp => rfl
  | burl b =>
    simp only [disDiscard, brlCut]
    split
    · rfl
    · split <;> rfl

theorem disDiscard_modDis (u v : UnitId) (f : Dis → Dis) (s : State) : (disDiscard u (modDis v f s)).1 = (disDiscard u s).1 := by
  cases u with
  | burl b =>
    simp only [disDiscard, brlCut]
    split
    · next h => rw [show (eng b s).ports.find? _ = none from h]
    · next h => rw [show (eng b s).ports.find? _ = some _ from h]
  | _ => rfl

/-- A change of the group followed by a CUT: what was in flight is counted. -/
theorem GroupIs.disCut {u : UnitId} {s : State} (hw : twf {} s.dis = true) (f : Dis → Dis) :
    GroupIs u { f (disOf u s) with cut := true, discarded := (f (disOf u s)).discarded + (disDiscard u s).1 } s (disCut u (Machine.modDis u f s)) := by
  have h := GroupIs.modDis (u := u) hw (fun d => { f d with cut := true, discarded := (f d).discarded + (disDiscard u s).1 })
  rw [← disDiscard_modDis u u f s] at h ⊢
  have hw1 := twf_modDis u hw f
  have hd := disDiscard_dis u (Machine.modDis u f s)
  have h1 := GroupIs.modDis (u := u) (s := (disDiscard u (Machine.modDis u f s)).2) (by rw [hd]; exact hw1)
    (fun d => { d with cut := true, discarded := d.discarded + (disDiscard u (Machine.modDis u f s)).1 })
  rw [disOf_congr hd, (GroupIs.modDis hw f).1] at h1
  exact ⟨h1.1, fun v hv => (h1.2 v hv).trans ((disOf_congr hd v).trans ((GroupIs.modDis hw f).2 v hv))⟩

@[simp] theorem disXoff_view (u : UnitId) (s : State) : treeView (disXoff u s) = treeView s := by
  cases u with
  | rxp p => exact foldS_view (fun k s => by simp) _ _
  | _ => rfl

theorem disResume_dis (u : UnitId) (s : State) : (disResume u s).dis = s.dis := by
  cases u with
  | lane l => exact treeParts_dis ((TreeKept.beginOpens (π := Leaf.fenced) (fun _ _ => rfl) _).fromView (modLane_view _ _ _)).parts
  | custody d =>
    simp only [disResume]
    split <;> rfl
  | rxp p =>
    refine treeParts_dis (treeView_parts ?_)
    unfold disResume
    dsimp only
    rw [foldS_view, foldS_view]
    · rfl
    · simp
    · intro k s
      split <;> simp
  | txp | burl => rfl

section group
variable {u : UnitId} {cut : Bool} {s : State}

/-! EN written 0, row by row. -/

theorem disStart_off (ha : disActs u s = true) (hr : (disOf u s).running = false) (hoff : (disOf u s).off = true) :
    disStart u cut s = modDis u (fun d => { d with mode := cut }) s := by simp [disStart, ha, hr, hoff]

theorem disStart_drainAgain (ha : disActs u s = true) (hr : (disOf u s).running = true) :
    disStart u false s = modDis u (fun d => { d with mode := false, enPending := false }) s := by simp [disStart, ha, hr]

theorem disStart_cutNow (ha : disActs u s = true) (hr : (disOf u s).running = true) (hc : (disOf u s).cut = false) :
    disStart u true s = disCut u (modDis u (fun d => { d with mode := true, enPending := false }) s) := by simp [disStart, ha, hr, hc]

theorem disStart_on (ha : disActs u s = true) (hr : (disOf u s).running = false) (hoff : (disOf u s).off = false) :
    disStart u cut s =
      let t := modDis u (fun d => { d with
        off := true, mode := cut, running := true, quiesced := false, escalated := if cut then d.escalated else false }) s
      disXoff u (if cut then disCut u t else t) := by simp [disStart, ha, hr, hoff]

theorem disStart_idle (ha : disActs u s = false) : disStart u cut s = s := by simp [disStart, ha]

/-- A new disable changes its own group alone. -/
theorem GroupIs.disStart (hw : twf {} s.dis = true) (ha : disActs u s = true) (hr : (disOf u s).running = false)
    (hoff : (disOf u s).off = false) :
    GroupIs u { disOf u s with
      off := true, mode := cut, running := true, quiesced := false, escalated := cut && (disOf u s).escalated
      cut := cut || (disOf u s).cut, discarded := (disOf u s).discarded + if cut then (disDiscard u s).1 else 0 } s (disStart u cut s) := by
  rw [disStart_on ha hr hoff]
  have hx : ∀ t, (disXoff u t).dis = t.dis := fun t => treeParts_dis (treeView_parts (disXoff_view u t))
  cases cut with
  | false => exact (GroupIs.modDis hw _).congr rfl (hx _)
  | true => exact (GroupIs.disCut hw _).congr rfl (hx _)

/-! A DRAIN that becomes a CUT. -/

theorem modeCutS_runs (hr : (disOf u s).running = true) (hc : (disOf u s).cut = false) :
    modeCutS u s = disCut u (modDis u (fun d => { d with mode := true }) s) := by simp [modeCutS, hr, hc]

theorem disBound_runs (hr : (disOf u s).running = true) (hc : (disOf u s).cut = false) :
    disBound u s = disCut u (modDis u (fun d => { d with escalated := true, bound := true }) s) := by simp [disBound, hr, hc]

theorem modeCutS_idle (h : (disOf u s).running = false ∨ (disOf u s).cut = true) : modeCutS u s = s := by
  rcases h with h | h <;> simp [modeCutS, h]

theorem disBound_idle (h : (disOf u s).running = false ∨ (disOf u s).cut = true) : disBound u s = s := by
  rcases h with h | h <;> simp [disBound, h]

/-! EN written 1. -/

theorem disEnable_idle (ha : disActs u s = false) : disEnable u cut s = s := by simp [disEnable, ha]

theorem disEnable_pending (ha : disActs u s = true) (hr : (disOf u s).running = true) :
    disEnable u false s = modDis u (fun d => { d with mode := false, enPending := true }) s := by
  have hne : { disOf u s with mode := false } ≠ ({} : Dis) := fun h => by simpa [hr] using congrArg Dis.running h
  simp only [disEnable, ha, hr, Bool.not_true, Bool.false_eq_true, if_false, if_true]
  exact modDis_modDis _ _ hne

theorem disEnable_on (ha : disActs u s = true) (hr : (disOf u s).running = false) (hoff : (disOf u s).off = true) :
    disEnable u cut s = disOn u (modDis u (fun d => { d with mode := cut }) s) := by
  simp only [disEnable, ha, hr, hoff, Bool.not_true, Bool.false_eq_true, if_false, if_true, modeCutS_idle (.inl hr), ite_self]

/-- An enable of a quiet unit changes its own group alone. -/
theorem GroupIs.disEnable (hw : twf {} s.dis = true) (ha : disActs u s = true) (hr : (disOf u s).running = false)
    (hoff : (disOf u s).off = true) :
    GroupIs u { disOf u s with mode := cut, off := false, enPending := false, quiesced := false } s (disEnable u cut s) := by
  rw [disEnable_on ha hr hoff]
  have h1 := GroupIs.modDis (u := u) hw (fun d => { d with mode := cut })
  have h2 := GroupIs.modDis (u := u) (twf_modDis u hw (fun d => { d with mode := cut })) (fun d => { d with off := false, enPending := false, quiesced := false })
  rw [h1.1] at h2
  exact GroupIs.congr ⟨h2.1, fun v hv => (h2.2 v hv).trans (h1.2 v hv)⟩ rfl (disResume_dis _ _)

/-! A disable that completes. -/

theorem disComplete_finishes (hr : (disOf u s).running = true) (h : (disOf u s).cut = true ∨ disBusy u s = false) :
    disComplete u s = disFinish u s := by
  rcases h with h | h <;> simp [disComplete, hr, h]

theorem disComplete_waits (h : (disOf u s).running = false ∨ ((disOf u s).cut = false ∧ disBusy u s = true)) : disComplete u s = s := by
  rcases h with h | ⟨h, hb⟩
  · simp [disComplete, h]
  · simp [disComplete, h, hb]

end group

/-! A custody domain that its port's quiescence holds. -/

/-- A step of a custody domain: the tree's parts and leaves stay, and the table of domains keeps its form. -/
structure DomStep (s t : State) : Prop where
  view : treeView t = treeView s
  wf : twf {} s.cus.dom = true → twf {} t.cus.dom = true

theorem DomStep.trans {s t u : State} (h : DomStep s t) (k : DomStep t u) : DomStep s u :=
  ⟨k.view.trans h.view, fun hw => k.wf (h.wf hw)⟩

theorem DomStep.same {s t : State} (h : treeView t = treeView s) (hc : t.cus = s.cus) : DomStep s t := ⟨h, fun hw => by rw [hc]; exact hw⟩

theorem DomStep.modCdom (d : Nat) (f : CusDom → CusDom) (s : State) : DomStep s (modCdom d f s) := ⟨rfl, twf_tmod _ _ _ _⟩

theorem DomStep.modFlt (d : Nat) (f : Flt → Flt) (s : State) : DomStep s (modFlt d f s) := .modCdom d _ s

theorem DomStep.emit (c : EvClass) (code src : W16) (b : Bytes) (s : State) : DomStep s (emit c code src b s) :=
  .same (emit_view s c code src b) (emit_cus c code src b s)

theorem DomStep.foldS {α : Type} {f : α → State → State} (h : ∀ a s, DomStep s (f a s)) : ∀ (l : List α) (s : State), DomStep s (foldS f l s)
  | [], _ => .same rfl rfl
  | a :: l, s => (h a s).trans (DomStep.foldS h l _)

theorem DomStep.cusRecord (d : Nat) (code : W16) (o src : Nat) (s : State) : DomStep s (cusRecord d code o src s) :=
  (((DomStep.modCdom d _ s).trans (.emit _ _ _ _ _)).trans (.emit _ _ _ _ _)).trans (.same rfl rfl)

theorem DomStep.escDrop (d : Nat) (s : State) : DomStep s (escDrop d s) := by
  have hsend : ∀ v t, DomStep t (verdictSend d v t) := fun v t => (DomStep.modFlt d _ t).trans (.emit _ _ _ _ _)
  unfold Machine.escDrop
  split
  · exact .same rfl rfl
  · have hfree : DomStep s (drawFree s).2 := .same rfl rfl
    exact ((hfree.trans (.modFlt d _ _)).trans (hsend _ _)).trans ((DomStep.modFlt d _ _).trans (.foldS hsend _ _))

theorem DomStep.updResult (d : Nat) (code : W16) (s : State) : DomStep s (updResult d code false s) := by
  unfold Machine.updResult
  dsimp only
  rw [if_neg Bool.false_ne_true]
  exact (DomStep.modCdom d _ s).trans (.emit _ _ _ _ _)

theorem DomStep.updAbandon (d : Nat) (s : State) : DomStep s (updAbandon d s) := by
  unfold Machine.updAbandon
  dsimp only
  split
  · exact (DomStep.modCdom d _ s).trans (.updResult d _ _)
  · exact .modCdom d _ s

theorem cdom_modCdom {d : Nat} {f : CusDom → CusDom} {s : State} (hw : twf {} s.cus.dom = true) : cdom d (modCdom d f s) = f (cdom d s) :=
  tget_tmod_same _ _ _ f hw

theorem phaseRun_view (s : State) : treeView (phaseRun s) = treeView s := by
  rw [phaseRun]
  split <;> rfl

theorem phaseRun_cus (s : State) : (phaseRun s).cus = s.cus := by
  rw [phaseRun]
  split <;> rfl

theorem hollowSweep_parts (s : State) : treeParts (hollowSweep s) = treeParts s := by rw [HollowStep.hollowSweep s]; rfl

theorem hollowSweep_cus (s : State) : (hollowSweep s).cus = s.cus := by rw [HollowStep.hollowSweep s]

/-- What a hold ends first: the open window, the pending escape, the reset line and the push session. -/
def cusStopped (d : Nat) (s : State) : State :=
  let s := rstAssert d (escDrop d (updAbandon d s))
  if cusPushing d s then cusPushEnd 0x2038 s else s

/-- The domain as it is held in `st`. -/
def cusHeld (st : CusState) (x : CusDom) : CusDom :=
  { x.dropAttempt with st := st, step := .idle, cand := [], shadow := [], shadowLost := false, rcvTried := false, flt := x.flt.hold }

theorem cusHold_eq (d : Nat) (st : CusState) (s : State) :
    cusHold d st s =
      let u := cusStopped d s
      let st := if st == .held && u.kpf.anchorLost && cusConfigured d u then .failed else st
      phaseRun (hollowSweep (modCus (fun c => { c with ready := c.ready.filter (· != d) }) (modCdom d (cusHeld st) u))) := rfl

theorem cusPushEnd_dom (code : W16) (s : State) : (cusPushEnd code s).cus.dom = s.cus.dom := by simp [cusPushEnd]

theorem DomStep.cusPushEnd (code : W16) (s : State) : DomStep s (cusPushEnd code s) :=
  ⟨(emit_view _ _ _ _ _).trans (modCus_view _ _), fun hw => by rw [cusPushEnd_dom]; exact hw⟩

theorem DomStep.cusStopped (d : Nat) (s : State) : DomStep s (cusStopped d s) := by
  have h : DomStep s (rstAssert d (Machine.escDrop d (Machine.updAbandon d s))) :=
    ((DomStep.updAbandon d s).trans (.escDrop d _)).trans (.modCdom d _ _)
  unfold Sys2Proof.cusStopped
  dsimp only
  split
  · exact h.trans (.cusPushEnd _ _)
  · exact h

theorem cusStopped_released (d : Nat) {s : State} (hw : twf {} s.cus.dom = true) : (cdom d (cusStopped d s)).released = false := by
  have h : (cdom d (rstAssert d (escDrop d (updAbandon d s)))).released = false :=
    congrArg CusDom.released (cdom_modCdom (((DomStep.updAbandon d s).trans (.escDrop d _)).wf hw))
  unfold cusStopped
  dsimp only
  split
  · rw [cdom, cusPushEnd_dom]
    exact h
  · exact h

theorem cusHold_parts (d : Nat) (st : CusState) (s : State) : treeParts (cusHold d st s) = treeParts s := by
  rw [cusHold_eq]
  dsimp only
  rw [treeView_parts (phaseRun_view _), hollowSweep_parts]
  exact treeView_parts ((modCus_view _ _).trans ((modCdom_view _ _ _).trans (DomStep.cusStopped d s).view))

theorem cusConfigured_congr {s t : State} (h : t.grn = s.grn) (d : Nat) : cusConfigured d t = cusConfigured d s := by
  simp [cusConfigured, gdom, h]

/-- A held domain: HELD, or FAILED while the anchor is lost; reset is asserted, no escape waits, and READY shows no image. -/
theorem cusHold_held {d : Nat} {s : State} (hw : twf {} s.cus.dom = true) (hc : cusConfigured d s = true) :
    let t := cusHold d .held s
    (cdom d t).st = (if s.kpf.anchorLost then .failed else .held) ∧ (cdom d t).released = false ∧ (cdom d t).flt.esc = none ∧ d ∉ t.cus.ready := by
  have hstop := DomStep.cusStopped d s
  have hkpf := treeParts_kpf (treeView_parts hstop.view)
  have hcfg := (cusConfigured_congr (treeParts_grn (treeView_parts hstop.view)) d).trans hc
  have hst : (if CusState.held == .held && (cusStopped d s).kpf.anchorLost && cusConfigured d (cusStopped d s) then CusState.failed
      else .held) = if s.kpf.anchorLost then .failed else .held := by simp [hkpf, hcfg]
  have heq := cusHold_eq d .held s
  dsimp only at heq
  rw [hst] at heq
  dsimp only
  rw [heq, cdom, phaseRun_cus, hollowSweep_cus]
  have hdom := cdom_modCdom (d := d) (f := cusHeld (if s.kpf.anchorLost then .failed else .held)) (hstop.wf hw)
  refine ⟨congrArg CusDom.st hdom, (congrArg CusDom.released hdom).trans (cusStopped_released d hw),
    congrArg (fun x => x.flt.esc) hdom, ?_⟩
  simp [modCus]

/-! A disable that completes. -/

theorem disQuiet_other {u : UnitId} (h : ∀ d, u ≠ .custody d) (s : State) : disQuiet u s = s := by
  cases u with
  | custody d => exact absurd rfl (h d)
  | _ => rfl

theorem disQuiet_custody {p : Fin 32} {s : State} (hc : cusConfigured p s = true) (hf : (cdom p s).st ≠ .fenced) :
    ∃ v, DomStep s v ∧ disQuiet (.custody p) s = cusHold p .held v := by
  unfold disQuiet
  dsimp only
  rw [if_neg (by simp [hc, hf])]
  split
  · exact ⟨_, .cusRecord _ _ _ _ _, rfl⟩
  · exact ⟨s, .same rfl rfl, rfl⟩

/-- The group after the completion of its disable. -/
def disDone (d : Dis) : Dis := { d with quiesced := true, running := false, cut := false, bound := false, discarded := 0 }

theorem disFinish_eq {u : UnitId} {s : State} (hp : (disOf u (disQuiet u s)).enPending = false) :
    disFinish u s =
      let t := disQuiet u s
      let d := disOf u t
      let e := disEvent u
      modDis u disDone (emit .info e.1 e.2 (d2 e.2.toNat ++ [if d.cut then 1 else 0] ++ [if d.bound then 1 else 0] ++ d4 d.discarded) t) := by
  have hbit : ∀ b : Bool, d1 (b2n b) = [if b then 1 else 0] := by decide
  unfold disFinish
  dsimp only
  rw [if_neg (by simp [hp]), hbit, hbit]
  rfl

/-! A CUT of a Burl engine. -/

/-- The engine without the running job `j` of port `p`. -/
def brlFreed (p : Nat) (j : BrlJob) (e : BrlEng) : BrlEng :=
  { e with
    ports := tset {} e.ports p noJob, regs := (j.res.map (·.regs)).getD e.regs, lastCode := 0x503F, lastOp := fieldLe j.desc 0 1
    lastSub := p, lastLeaf := p }

/-- The leaf whose job was discarded. -/
def brlLost (x : Leaf) : Leaf := { x.unguard 9 with brl := { x.brl with discarded := true }, events := setBit x.events 6 true }

theorem brlCut_leaf {b p : Nat} {j : BrlJob} {s : State} (hj : (eng b s).ports.find? (fun e => e.2.running) = some (p, j)) (hp : p < 16)
    (ho : j.orphan = false) :
    brlCut b s = (1, modLeaf (16 * b + p) brlLost (bump (cBough b 12) (modEng b (brlFreed p j) s))) := by
  simp only [brlCut, hj, hp, ho, Bool.not_false, and_self, if_true]
  rfl

theorem disBusy_out (u : UnitId) (s : State) (o : List Output) : disBusy u { s with out := o } = disBusy u s := by cases u <;> rfl

/-- What a CUT of the engine at the running job of leaf port `p` leaves, its group being `d`. -/
theorem disCut_burl {b : Fin 12} {p : Nat} {j : BrlJob} {s : State} (f : Dis → Dis) (hr : (f (disOf (.burl b) s)).running = true)
    (hj : (eng b s).ports.find? (fun e => e.2.running) = some (p, j)) (hp : p < 16) (ho : j.orphan = false)
    (hl : (leafAt (16 * b + p) s).released = true) :
    let x := leafAt (16 * b + p) s
    let t := disCut (.burl b) (modDis (.burl b) f s)
    t = { s with
        tel := { s.tel with ctr := t.tel.ctr }
        dis := tset {} s.dis (256 + b) { f (disOf (.burl b) s) with cut := true, discarded := (f (disOf (.burl b) s)).discarded + 1 }
        brl := { s.brl with eng := tset {} s.brl.eng b { eng b s with
          ports := tset {} (eng b s).ports p noJob, regs := (j.res.map (·.regs)).getD (eng b s).regs
          lastCode := 0x503F, lastOp := fieldLe j.desc 0 1, lastSub := p, lastLeaf := p } }
        lvs := { s.lvs with leaf := t.lvs.leaf } } ∧
      leafAt (16 * b + p) t = { x with guards := x.guards.filter (fun g => g.who != 9), brl := { x.brl with discarded := true }, events := setBit x.events 6 true } ∧
      ∀ k, k ≠ 16 * b.val + p → leafAt k t = leafAt k s := by
  have hne : f (disOf (.burl b) s) ≠ {} := fun h => by simpa [hr] using congrArg Dis.running h
  have hcut : disDiscard (.burl b) (modDis (.burl b) f s) = _ := brlCut_leaf (s := modDis (.burl b) f s) hj hp ho
  have ht : disCut (.burl b) (modDis (.burl b) f s) =
      modDis (.burl b) (fun d => { f d with cut := true, discarded := (f d).discarded + 1 })
        (modLeaf (16 * b + p) brlLost (bump (cBough b 12) (modEng b (brlFreed p j) s))) := by
    rw [disCut, hcut]
    exact modDis_modDis (s := modLeaf (16 * b + p) brlLost (bump (cBough b 12) (modEng b (brlFreed p j) s))) f _ hne
  have hlost : brlLost (leafAt (16 * b + p) s) ≠ {} := released_ne hl
  dsimp only
  rw [ht]
  exact ⟨rfl, leafAt_modLeaf _ brlLost (bump (cBough b 12) (modEng b (brlFreed p j) s)) hlost,
    fun k hk => leafAt_setLeaf_other _ _ _ _ hlost hk⟩

/-- Settles O26, row by row. -/
theorem disableGroup : Obligations.DisableGroup := by
  unfold Obligations.DisableGroup
  refine ⟨fun u cut s hl hpf => ⟨act_noPf1 hl hpf, act_noPf1 hl hpf, act_noPf1 hl hpf⟩,
    fun u cut s hl ha => ⟨act_pf1_same hl (disStart_idle ha), act_pf1_same hl (disEnable_idle ha)⟩,
    fun u s hl hpf ha hoff hr hx => ?drain,
    fun u cut s hl hpf ha hoff hr hw => ⟨_, act_pf1 hl hpf, GroupIs.disStart (s := { s with out := [] }) hw ha hr hoff⟩,
    fun u s hl hpf ha hoff hr cut => (act_pf1 hl hpf).trans (congrArg _ (disStart_off (s := { s with out := [] }) ha hr hoff)),
    fun u s hl hpf ha hr => (act_pf1 hl hpf).trans (congrArg _ (disStart_drainAgain (s := { s with out := [] }) ha hr)),
    fun u s hl hr hc hw => ⟨fun hpf ha => ?cutAgain, fun hpf => ?cutMode, ?bound⟩,
    fun u s hl h => ⟨act_pf1_same hl (modeCutS_idle h), (act_live hl).trans (congrArg _ (disBound_idle h))⟩,
    fun b s p j hl hr hc hj hp ho hrel hw => ⟨fun hpf => ?burlMode, ?burlBound⟩,
    fun u s hl hu hr hp h => ?complete, fun p s hl hr hp h hc hf hw hd => ?custody,
    fun u s hl h => (act_live hl).trans (congrArg _ (disComplete_waits ?waits)),
    fun u s hl hpf ha hr => (act_pf1 hl hpf).trans (congrArg _ (disEnable_pending (s := { s with out := [] }) ha hr)),
    fun u cut s hl hpf ha hr hoff hw => ⟨_, act_pf1 hl hpf, GroupIs.disEnable (s := { s with out := [] }) hw ha hr hoff⟩,
    fun b cut s hl hpf hr hoff => ⟨_, act_pf1 hl hpf, ?burlOn⟩⟩
  case drain =>
    refine (act_pf1 hl hpf).trans (congrArg _ ((disStart_on (s := { s with out := [] }) ha hr hoff).trans ?_))
    cases u with
    | rxp p => exact absurd rfl (hx p)
    | _ => rfl
  case cutAgain =>
    exact ⟨_, act_pf1 hl hpf, by
      rw [disStart_cutNow (s := { s with out := [] }) ha hr hc]
      exact GroupIs.disCut (s := { s with out := [] }) hw _⟩
  case cutMode =>
    exact ⟨_, act_pf1 hl hpf, by
      rw [modeCutS_runs (s := { s with out := [] }) hr hc]
      exact GroupIs.disCut (s := { s with out := [] }) hw _⟩
  case bound =>
    exact ⟨_, act_live hl, by
      rw [disBound_runs (s := { s with out := [] }) hr hc]
      exact GroupIs.disCut (s := { s with out := [] }) hw _⟩
  case burlMode =>
    exact ⟨_, act_pf1 hl hpf, by
      rw [modeCutS_runs (s := { s with out := [] }) hr hc]
      exact disCut_burl (s := { s with out := [] }) (fun d => { d with mode := true }) hr hj hp ho hrel⟩
  case burlBound =>
    exact ⟨_, act_live hl, by
      rw [disBound_runs (s := { s with out := [] }) hr hc]
      exact disCut_burl (s := { s with out := [] }) (fun d => { d with escalated := true, bound := true }) hr hj hp ho hrel⟩
  case complete =>
    refine (act_live hl).trans (congrArg _ ?_)
    have hq := disQuiet_other hu { s with out := [] }
    rw [disComplete_finishes (s := { s with out := [] }) hr (h.imp_right ((disBusy_out u s []).trans ·)), disFinish_eq (by rw [hq]; exact hp), hq]
    rfl
  case custody =>
    obtain ⟨v, hv, hquiet⟩ := disQuiet_custody (p := p) (s := { s with out := [] }) hc hf
    have hparts := (cusHold_parts p .held v).trans (treeView_parts hv.view)
    have hgroup : disOf (.custody p) (cusHold p .held v) = disOf (.custody p) s := disOf_congr (treeParts_dis hparts) _
    have hheld := cusHold_held (hv.wf hd) ((cusConfigured_congr (treeParts_grn (treeView_parts hv.view)) p).trans hc)
    rw [treeParts_kpf (treeView_parts hv.view)] at hheld
    refine ⟨_, act_live hl, ?_⟩
    rw [disComplete_finishes (s := { s with out := [] }) hr (h.imp_right ((disBusy_out _ s []).trans ·)),
      disFinish_eq (by rw [hquiet, hgroup]; exact hp), hquiet]
    have hw' : twf {} (cusHold p .held v).dis = true := by rw [treeParts_dis hparts]; exact hw
    refine ⟨?_, ?_⟩
    · refine ((GroupIs.modDis (by rw [emit_dis]; exact hw') disDone).1).trans ?_
      rw [disOf_congr (emit_dis _ _ _ _ _), hgroup]
      rfl
    · simp only [cdom, modDis_cus, emit_cus]
      exact hheld
  case waits => exact h.imp_right (And.imp_right ((disBusy_out u s []).trans ·))
  case burlOn =>
    rw [disEnable_on (s := { s with out := [] }) rfl hr hoff]
    rfl

/-! ### Tables built entry by entry (O49) -/

section tables
variable {α γ : Type} [DecidableEq α] [DecidableEq γ]

/-- A step that writes the key of its entry alone. -/
structure KeyStep (d : α) (step : Tab α → Nat × γ → Tab α) (put : Nat × γ → α → α) : Prop where
  wf : ∀ u e, twf d u = true → twf d (step u e) = true
  same : ∀ u e, twf d u = true → tget d (step u e) e.1 = put e (tget d u e.1)
  other : ∀ u e j, twf d u = true → j ≠ e.1 → tget d (step u e) j = tget d u j

variable {d : α} {d0 : γ} {step : Tab α → Nat × γ → Tab α} {put : Nat × γ → α → α}

omit [DecidableEq γ] in
theorem KeyStep.foldl_wf (h : KeyStep d step put) : ∀ (l : Tab γ) (u : Tab α), twf d u = true → twf d (l.foldl step u) = true
  | [], _, hu => hu
  | e :: l, u, hu => h.foldl_wf l _ (h.wf u e hu)

/-- A table whose keys lie above `lo` does not reach a key up to it. -/
theorem KeyStep.foldl_below (h : KeyStep d step put) : ∀ (l : Tab γ) (u : Tab α) (lo j : Nat), twfFrom d0 (some lo) l = true → j ≤ lo →
    twf d u = true → tget d (l.foldl step u) j = tget d u j
  | [], _, _, _, _, _, _ => rfl
  | (k, v) :: l, u, lo, j, hl, hj, hu => by
    rw [twfFrom_cons] at hl
    obtain ⟨hk, -, hl⟩ := hl
    have hlt : lo < k := by simpa [aboveLo] using hk
    exact (h.foldl_below l _ k j hl (by omega) (h.wf u _ hu)).trans (h.other u _ j hu (by simp; omega))

/-- Folding a table into another: a key reads what the table's entry there puts, where the default puts nothing new. -/
theorem KeyStep.foldl (h : KeyStep d step put) {j : Nat} : ∀ (l : Tab γ) (lo : Option Nat) (u : Tab α), twfFrom d0 lo l = true →
    twf d u = true → put (j, d0) (tget d u j) = tget d u j → tget d (l.foldl step u) j = put (j, tget d0 l j) (tget d u j)
  | [], _, _, _, _, h0 => h0.symm
  | (k, v) :: l, lo, u, hl, hu, h0 => by
    rw [twfFrom_cons] at hl
    obtain ⟨-, -, hl⟩ := hl
    rw [List.foldl_cons, tget]
    by_cases hjk : j = k
    · subst hjk
      rw [h.foldl_below l _ j j hl (Nat.le_refl _) (h.wf u _ hu), if_pos rfl]
      exact h.same u _ hu
    · have hu' := h.other u (k, v) j hu hjk
      rw [if_neg hjk]
      by_cases hlt : j < k
      · rw [if_pos hlt, h.foldl_below l _ k j hl (by omega) (h.wf u _ hu), hu', h0]
      · rw [if_neg hlt, ← hu']
        exact h.foldl l _ _ hl (h.wf u _ hu) (by rw [hu']; exact h0)

omit [DecidableEq α] in
/-- Two tables one after the other, the keys of the second from `n` on. -/
theorem tget_append {n : Nat} {b : Tab α} (hb : ∀ e ∈ b, n ≤ e.1) {j : Nat} : ∀ (a : Tab α), (∀ e ∈ a, e.1 < n) →
    tget d (a ++ b) j = if j < n then tget d a j else tget d b j
  | [], _ => by
    cases b with
    | nil => simp
    | cons e b =>
      have he := hb e (by simp)
      have h1 : j < n → ¬ j = e.1 ∧ j < e.1 := fun h => by omega
      by_cases hj : j < n
      · simp [tget, hj, h1 hj]
      · simp [hj]
  | (k, v) :: a, ha => by
    have hk : k < n := ha (k, v) List.mem_cons_self
    have ih := tget_append hb (j := j) a (fun e he => ha e (List.mem_cons_of_mem _ he))
    rw [List.cons_append, tget, tget, ih]
    by_cases hj : j < n
    · simp [hj]
    · have h1 : ¬ j = k := by omega
      have h2 : ¬ j < k := by omega
      simp [hj, h1, h2]

/-- A filtered table reads its kept keys, and the default elsewhere. -/
theorem tget_tfilter (p : Nat → Bool) (j : Nat) : ∀ (t : Tab α) (lo : Option Nat), twfFrom d lo t = true →
    tget d (tfilter p t) j = if p j then tget d t j else d
  | [], _, _ => by simp [tfilter]
  | (k, v) :: t, lo, ht => by
    rw [twfFrom_cons] at ht
    obtain ⟨-, -, ht⟩ := ht
    have ih := tget_tfilter p j t _ ht
    have hlow : j ≤ k → tget d t j = d := fun h => tget_below d t k j h ht
    rw [tfilter] at ih ⊢
    by_cases hp : p k
    · rw [List.filter_cons_of_pos (by exact hp), tget, tget, ih]
      by_cases hjk : j = k
      · subst hjk; simp [hp]
      · by_cases hlt : j < k <;> simp [hjk, hlt]
    · rw [List.filter_cons_of_neg (by exact hp), ih, tget]
      by_cases hjk : j = k
      · subst hjk; simp [hp]
      · by_cases hlt : j < k
        · simp [hjk, hlt, hlow (by omega)]
        · simp [hjk, hlt]

omit [DecidableEq α] in
/-- A table of consecutive keys. -/
theorem tget_consecutive (n : Nat) (f : Nat → α) {j : Nat} : ∀ m i, i ≤ j → j < i + m →
    tget d ((List.range' i m).map (fun k => (n + k, f k))) (n + j) = f j
  | 0, _, _, _ => by omega
  | m + 1, i, hi, hj => by
    rw [List.range'_succ, List.map_cons, tget]
    by_cases h : j = i
    · simp [h]
    · have h1 : ¬ n + j = n + i := by omega
      have h2 : ¬ n + j < n + i := by omega
      rw [if_neg h1, if_neg h2]
      exact tget_consecutive n f m (i + 1) (by omega) (by omega)

end tables

/-! ### Images of the Ring store -/

section image
variable {s : State}

theorem imgExport_busy (h : s.cnp.st ≠ 3 ∨ s.cnp.img.isSome = true) : imgExport s = s := if_pos h

theorem imgExport_refuses (hst : s.cnp.st = 3) (hi : s.cnp.img = none) (h : s.slt.anchored = false ∨ tapKey 46 s = []) :
    imgExport s = imgRefuse s := by
  rcases h with h | h <;> simp [imgExport, hst, hi, h]

theorem imgExport_begins (hst : s.cnp.st = 3) (hi : s.cnp.img = none) (ha : s.slt.anchored = true) (hk : tapKey 46 s ≠ []) :
    imgExport s = queueJobAs false .imgExport 3 none (withCnp { s.cnp with
        imgResult := 0, img := some { addr := s.cnp.imgAddr, slot := s.slt.slot, header := imgHeader s } }
        { s with hostMem := mwrite 0 s.hostMem s.cnp.imgAddr.toNat (imgHeader s) }) := by
  rw [imgExport, if_neg (by simp [hst, hi]), if_neg (by simp [ha, hk])]
  rfl

theorem imageExportDoneS_none (h : s.cnp.img = none) : imageExportDoneS s = s := by simp [imageExportDoneS, h]

theorem imageExportDoneS_waits (h : s.nrg.admitted.all (fun j => j.act != .imgExport) = true) : imageExportDoneS s = s := by
  have hn : s.nrg.admitted.any (fun j => j.act == .imgExport) = false := by
    simpa [List.any_eq_false, List.all_eq_true] using h
  unfold imageExportDoneS
  split
  · rfl
  · rw [hn]; rfl

theorem imageExportDoneS_seals {m : Img} (hm : s.cnp.img = some m) (hj : ∃ j ∈ s.nrg.admitted, j.act = .imgExport) (h1 : imgChunks s = 1) :
    imageExportDoneS s =
      let iv := imgIv m.slot.toNat 0
      let ct := gcmCrypt (tapKey 46 s) iv (chunkPlain 0 s)
      jobDone .imgExport (withCnp { s.cnp with img := none, st := if s.cnp.stopDue then 0 else s.cnp.st, stopDue := false }
        { s with hostMem := mwrite 0 s.hostMem (m.addr.toNat + 64) (ct ++ gcmTag (tapKey 46 s) iv (imgAad m.header 0) ct) }) := by
  have hany : s.nrg.admitted.any (fun j => j.act == .imgExport) = true := by
    simpa [List.any_eq_true] using hj
  unfold imageExportDoneS
  rw [hm]
  dsimp only
  rw [if_neg (by simp [hany]), h1]
  rfl

theorem imageRestoreS_other (h : s.cnp.st ≠ 1) : imageRestoreS s = s := if_pos h

/-- An image of this device's range (R285). -/
def imgMatches (s : State) : Prop :=
  let h := mread 0 s.hostMem s.cnp.imgAddr.toNat 64
  slice h 8 16 = padTo 16 s.fuses.fuseId ∧ fieldLe h 0x20 8 = (gcan s).idBase ∧ fieldLe h 0x28 4 = (gcan s).idCount ∧ fieldLe h 0x2C 4 = imgChunks s

theorem imageRestoreS_refuses (hst : s.cnp.st = 1) (hg : ¬ imgMatches s) : imageRestoreS s = imgRefuse s := by
  rw [imageRestoreS, if_neg (not_not.mpr hst)]
  refine if_pos ?_
  simpa only [imgMatches, not_and_or] using hg

theorem imageRestoreS_takes (hst : s.cnp.st = 1) (hg : imgMatches s) (h1 : imgChunks s = 1) :
    imageRestoreS s = modCnp (fun n => { n with st := 2 })
      (imgChunkIn (mread 0 s.hostMem s.cnp.imgAddr.toNat 64) 0 (withCnp { s.cnp with badChunks := 0, imgResult := 0 } s)) := by
  rw [imageRestoreS, if_neg (not_not.mpr hst)]
  refine (if_neg ?_).trans ?_
  · simpa only [imgMatches, not_or, ne_eq, not_not] using hg
  · exact congrArg (fun m => modCnp (fun n => { n with st := 2 }) (foldS (imgChunkIn (mread 0 s.hostMem s.cnp.imgAddr.toNat 64))
      (List.range m) (withCnp { s.cnp with badChunks := 0, imgResult := 0 } s))) h1

theorem imgOff_zero (a : Nat) : a + imgOff 0 = a + 64 := rfl

/-- The chunk's tag verifies under STORE_F. -/
def chunkGood (hdr : Bytes) (i : Nat) (b : Bytes) (s : State) : Prop :=
  tapKey 46 s ≠ [] ∧ gcmTag (tapKey 46 s) (imgIv (fieldLe hdr 0x18 8) i) (imgAad hdr i) (b.take 4096) = b.drop 4096

/-- The plaintext of a chunk. -/
def chunkOpen (hdr : Bytes) (i : Nat) (b : Bytes) (s : State) : Bytes := gcmCrypt (tapKey 46 s) (imgIv (fieldLe hdr 0x18 8) i) (b.take 4096)

theorem imgChunkIn_bad {hdr b : Bytes} {i : Nat} (hb : mread 0 s.hostMem (s.cnp.imgAddr.toNat + imgOff i) 4112 = b) (h : ¬ chunkGood hdr i b s) :
    imgChunkIn hdr i s = modCnp (fun n => { n with badChunks := min 0x7FFF (n.badChunks + 1) }) s := by
  subst hb
  exact if_pos (by rw [chunkGood, Decidable.not_and_iff_not_or_not, not_ne_iff] at h; exact h)

/-- The contexts of an image's first chunk, which verifies, are written. -/
theorem imgChunkIn_good {hdr b : Bytes} (hb : mread 0 s.hostMem (s.cnp.imgAddr.toNat + imgOff 0) 4112 = b) (h : chunkGood hdr 0 b s) :
    imgChunkIn hdr 0 s = foldS (fun j u => if j < (gcan u).idCount then setCtx j (ctxOf (slice (chunkOpen hdr 0 b s) (64 * j) 64)) u else u)
      (List.range 64) s := by
  subst hb
  refine (if_neg (by rw [not_or, not_ne_iff]; exact h)).trans ?_
  refine congrArg (fun f => foldS f (List.range 64) s) (funext fun j => funext fun t => ?_)
  rw [show 64 * 0 + j = j by omega]
  rfl

/-- Contexts of the range written one after another. -/
theorem foldS_setCtx (g : Nat → Ctx) : ∀ (l : List Nat) (s : State), twf {} s.cnp.ctx = true →
    let t := foldS (fun j s => if j < (gcan s).idCount then setCtx j (g j) s else s) l s
    t = withCnp { s.cnp with ctx := t.cnp.ctx } s ∧ ∀ j, ctxAt j t = if j ∈ l ∧ j < (gcan s).idCount then g j else ctxAt j s
  | [], s, _ => ⟨rfl, fun j => by simp⟩
  | a :: l, s, hw => by
    rw [foldS_cons]
    by_cases ha : a < (gcan s).idCount
    case neg =>
      rw [if_neg ha]
      obtain ⟨h, hget⟩ := foldS_setCtx g l s hw
      refine ⟨h, fun j => (hget j).trans (if_congr ?_ rfl rfl)⟩
      have : j < (gcan s).idCount → j ≠ a := fun h h' => ha (h' ▸ h)
      simp only [List.mem_cons]
      tauto
    case pos =>
      rw [if_pos ha]
      obtain ⟨h, hget⟩ := foldS_setCtx g l (setCtx a (g a) s) (twf_tset _ _ _ _ hw)
      refine ⟨h, fun j => (hget j).trans ?_⟩
      have hset : ctxAt j (setCtx a (g a) s) = if j = a then g j else ctxAt j s := by
        by_cases hj : j = a
        · rw [if_pos hj, hj]
          exact tget_tset_same _ _ _ _ hw
        · rw [if_neg hj]
          exact tget_tset_other _ _ _ _ _ hw hj
      rw [hset, show gcan (setCtx a (g a) s) = gcan s from rfl]
      by_cases hj : j = a
      · subst hj
        simp [ha]
      · simp only [List.mem_cons, hj, false_or, if_false]

/-- A restore whose only chunk verifies (R285). -/
theorem imageRestoreS_good {h b : Bytes} (hst : s.cnp.st = 1) (hg : imgMatches s) (h1 : imgChunks s = 1) (hw : twf {} s.cnp.ctx = true)
    (hh : mread 0 s.hostMem s.cnp.imgAddr.toNat 64 = h) (hb : mread 0 s.hostMem (s.cnp.imgAddr.toNat + 64) 4112 = b) (hc : chunkGood h 0 b s) :
    let t := imageRestoreS s
    t.cnp = { s.cnp with badChunks := 0, imgResult := 0, st := 2, ctx := t.cnp.ctx } ∧
      (∀ j, j < (gcan s).idCount → ctxAt j t = ctxOf (slice (chunkOpen h 0 b s) (64 * j) 64)) ∧
      ∀ j, (gcan s).idCount ≤ j → ctxAt j t = ctxAt j s := by
  rw [← imgOff_zero] at hb
  have ht := imageRestoreS_takes hst hg h1
  rw [hh, imgChunkIn_good (s := withCnp { s.cnp with badChunks := 0, imgResult := 0 } s) hb hc] at ht
  rw [show chunkOpen h 0 b (withCnp { s.cnp with badChunks := 0, imgResult := 0 } s) = chunkOpen h 0 b s from rfl] at ht
  obtain ⟨hcnp, hget⟩ := foldS_setCtx (fun j => ctxOf (slice (chunkOpen h 0 b s) (64 * j) 64))
    (List.range 64) (withCnp { s.cnp with badChunks := 0, imgResult := 0 } s) hw
  have hchunks : (gcan s).idCount ≤ 64 := by
    rw [imgChunks] at h1
    omega
  dsimp only
  rw [ht]
  generalize foldS _ _ _ = u at hcnp hget ⊢
  have hctx : ∀ j, ctxAt j (modCnp (fun n => { n with st := 2 }) u) = ctxAt j u := fun _ => rfl
  have hcan : gcan (withCnp { s.cnp with badChunks := 0, imgResult := 0 } s) = gcan s := rfl
  have hold : ∀ j, ctxAt j (withCnp { s.cnp with badChunks := 0, imgResult := 0 } s) = ctxAt j s := fun _ => rfl
  rw [hcan] at hget
  have hcnp' : u.cnp = { s.cnp with badChunks := 0, imgResult := 0, ctx := u.cnp.ctx } := congrArg State.cnp hcnp
  refine ⟨congrArg (fun n : Cnp => { n with st := 2 }) hcnp', fun j hj => ?_, fun j hj => ?_⟩
  · rw [hctx, hget, if_pos ⟨List.mem_range.mpr (hj.trans_le hchunks), hj⟩]
  · rw [hctx, hget, if_neg fun h => absurd h.2 hj.not_gt, hold]

/-- A restore whose only chunk does not verify. -/
theorem imageRestoreS_bad {h b : Bytes} (hst : s.cnp.st = 1) (hg : imgMatches s) (h1 : imgChunks s = 1)
    (hh : mread 0 s.hostMem s.cnp.imgAddr.toNat 64 = h) (hb : mread 0 s.hostMem (s.cnp.imgAddr.toNat + 64) 4112 = b) (hc : ¬ chunkGood h 0 b s) :
    imageRestoreS s = withCnp { s.cnp with badChunks := 1, imgResult := 0, st := 2 } s := by
  rw [← imgOff_zero] at hb
  rw [imageRestoreS_takes hst hg h1, hh, imgChunkIn_bad (s := withCnp { s.cnp with badChunks := 0, imgResult := 0 } s) hb hc]
  rfl

/-! ### The Ring store is built (R268) -/

theorem ringStoreBuildDoneS_other (h : s.cnp.st ≠ 2 ∨ ownServed s = true ∨ s.cnp.rangeHeld = true) : ringStoreBuildDoneS s = s := if_pos h

theorem ringStoreBuildDoneS_waits (hst : s.cnp.st = 2) (hs : ownServed s = false) (hr : s.cnp.rangeHeld = false) (hg : inGrove s = true)
    (hc : s.grv.ceilGot = false) (hn : 1 < groveSize s) (ht : s.now < s.boot.installedAt + (gcan s).imageWait * psS) :
    ringStoreBuildDoneS s = s := by
  simp [ringStoreBuildDoneS, hst, hs, hr, hg, hc, hn, ht]

/-- The contexts without their ceilings, and with those of the journal. -/
def ctxLow (n : Nat) (e : Nat × Ctx) : Ctx := if e.1 < n then { e.2 with ceiling := 0 } else e.2

theorem ringStoreBuildDoneS_alone (hst : s.cnp.st = 2) (hs : ownServed s = false) (hr : s.cnp.rangeHeld = false) (hg : inGrove s = false) :
    ringStoreBuildDoneS s =
      let n := (gcan s).idCount
      withCnp { s.cnp with
        st := 3
        ctx := s.kpf.ceilings.foldl (fun t e => if e.1 < n then tmod {} t e.1 (ctxFloor e.2) else t)
          (s.cnp.ctx.foldl (fun t e => tset {} t e.1 (ctxLow n e)) []) } { s with grv := { s.grv with ceil := [], ceilGot := false } } := by
  have hlow : ∀ n : Nat, (fun (t : Tab Ctx) (e : Nat × Ctx) => if e.1 < n then tset {} t e.1 { e.2 with ceiling := 0 } else tset {} t e.1 e.2) =
      fun t e => tset {} t e.1 (ctxLow n e) := by
    intro n
    funext t e
    rw [ctxLow]
    split <;> rfl
  rw [ringStoreBuildDoneS, if_neg (by simp [hst, hs, hr])]
  simp only [hg, Bool.false_and, Bool.false_eq_true, if_false, hlow]
  rfl

theorem keyStep_ctxLow (n : Nat) : KeyStep ({} : Ctx) (fun t e => tset {} t e.1 (ctxLow n e)) (fun e _ => ctxLow n e) :=
  ⟨fun _ _ => twf_tset _ _ _ _, fun _ _ => tget_tset_same _ _ _ _, fun _ _ _ => tget_tset_other _ _ _ _ _⟩

theorem keyStep_ctxFloor (n : Nat) : KeyStep ({} : Ctx) (fun t (e : Nat × Nat) => if e.1 < n then tmod {} t e.1 (ctxFloor e.2) else t)
    (fun e x => if e.1 < n then ctxFloor e.2 x else x) := by
  refine ⟨fun u e hu => ?_, fun u e hu => ?_, fun u e j hu hj => ?_⟩ <;> split
  · exact twf_tmod _ _ _ _ hu
  · exact hu
  · exact tget_tmod_same _ _ _ _ hu
  · rfl
  · exact tget_tmod_other _ _ _ _ _ hu hj
  · rfl

/-- Every context of the range takes its ceiling, and its floor. -/
theorem ctxAt_built {n j : Nat} {ctx : Tab Ctx} {ceils : Tab Nat} (hw : twf {} ctx = true) (hc : twf 0 ceils = true) :
    tget {} (ceils.foldl (fun t e => if e.1 < n then tmod {} t e.1 (ctxFloor e.2) else t)
      (ctx.foldl (fun t e => tset {} t e.1 (ctxLow n e)) [])) j =
      if j < n then ctxFloor (tget 0 ceils j) (tget {} ctx j) else tget {} ctx j := by
  have hlow : tget {} (ctx.foldl (fun t e => tset {} t e.1 (ctxLow n e)) []) j = ctxLow n (j, tget {} ctx j) :=
    (keyStep_ctxLow n).foldl ctx none [] hw rfl (by simp [ctxLow])
  have hwf : twf {} (ctx.foldl (fun t e => tset {} t e.1 (ctxLow n e)) []) = true := (keyStep_ctxLow n).foldl_wf ctx [] rfl
  refine ((keyStep_ctxFloor n).foldl ceils none _ hc hwf ?_).trans ?_
  all_goals
    rw [hlow]
    by_cases hj : j < n <;> simp [hj, ctxLow, ctxFloor]

end image

/-- A live device's command, with what it makes of the state. -/
theorem act_next {f : State → State} {s t : State} (hl : live s = true) (h : f { s with out := [] } = t) : act f s = .next t :=
  (act_live hl).trans (congrArg _ h)

/-- The same for a command that only PF1 gives. -/
theorem act_pf1_next {f : State → State} {s t : State} (hl : live s = true) (hpf : s.boot.pf1 = true) (h : f { s with out := [] } = t) :
    act (pf1Do f) s = .next t := (act_pf1 hl hpf).trans (congrArg _ h)

/-! ### Steps of Canopy alone -/

section onlyCanopy
variable {s t u : State}

theorem OnlyCanopy.trans (h : OnlyCanopy s t) (k : OnlyCanopy t u) : OnlyCanopy s u := by
  unfold OnlyCanopy at *
  rw [k, h]

theorem OnlyCanopy.emit (c : EvClass) (code src : W16) (d : Bytes) (s : State) : OnlyCanopy s (emit c code src d s) := by
  have h := emit_same c code src d s
  unfold SameButTel at h
  unfold OnlyCanopy
  rw [h]

theorem OnlyCanopy.modCnp (f : Cnp → Cnp) (s : State) : OnlyCanopy s (modCnp f s) := rfl
theorem OnlyCanopy.bump (o : Nat) (s : State) : OnlyCanopy s (bump o s) := rfl
theorem OnlyCanopy.drawFree (s : State) : OnlyCanopy s (drawFree s).2 := rfl

theorem OnlyCanopy.lossAdd (c cause limb : Nat) (lo hi rx : W64) (s : State) : OnlyCanopy s (lossAdd c cause limb lo hi rx s) := rfl

theorem OnlyCanopy.dropNote (cause limb : Nat) (s : State) : OnlyCanopy s (dropNote cause limb s) := by
  unfold Machine.dropNote
  dsimp only
  split
  · exact OnlyCanopy.trans (.modCnp _ _) (.bump _ _)
  · exact OnlyCanopy.trans (.trans (.modCnp _ _) (.bump _ _)) (.emit _ _ _ _ _)

theorem dropNote_cnp (cause limb : Nat) (s : State) :
    (dropNote cause limb s).cnp = { s.cnp with lastDrop := (dropNote cause limb s).cnp.lastDrop, drops := (dropNote cause limb s).cnp.drops } := by
  unfold dropNote
  dsimp only
  split
  · rfl
  · simp only [emit_cnp]
    rfl

end onlyCanopy

/-! ### Lost lines of the Ring store (R306) -/

section lines
variable {i ch : Nat} {mac : Bool} {s : State}

/-- A line of no context, and a line while Canopy is off, is not counted. -/
theorem contextLineLostS_none (h : canopyOn s = false ∨ (s.cnp.tkState = 0 ∧ (gcan s).idCount ≤ i)) : contextLineLostS i ch mac s = s := by
  rcases h with h | ⟨h, hi⟩
  · simp [contextLineLostS, h]
  · simp [contextLineLostS, h, hi]

/-- A line of a context is counted, and entered once. -/
theorem contextLineLostS_counts (hc : canopyOn s = true) (hi : i < (gcan s).idCount) :
    contextLineLostS i ch mac s =
      let v := bump (cDram ch (if mac then 2 else 1)) s
      if ctxLost i s then v
      else if s.cnp.rebuild.length < 64 then withCnp { s.cnp with rebuild := s.cnp.rebuild ++ [i] } v
      else withCnp { s.cnp with rebuildWait := s.cnp.rebuildWait ++ [i] } v := by
  have hn : ¬ (gcan s).idCount + (if s.cnp.tkState = 0 then 0 else s.cnp.tkCount) ≤ i := by omega
  rw [contextLineLostS, if_neg (by simp [hc, hn])]
  rfl

theorem contextRebuildDoneS_none (h : s.cnp.rebuild.contains i = false) : contextRebuildDoneS i s = s := by
  rw [contextRebuildDoneS, h]
  rfl

/-- Without OPENs and held COMMITs none is tried. -/
theorem runHeld_noTurns (ho : s.cnp.opens = []) (hh : s.cnp.held = []) : runHeld s = s := by
  have h1 : modCnp (fun n => { n with held := [] }) s = s := congrArg (fun l => { s with cnp := { s.cnp with held := l } }) hh.symm
  have h2 : modCnp (fun n => { n with opens := [] }) s = s := congrArg (fun l => { s with cnp := { s.cnp with opens := l } }) ho.symm
  rw [runHeld, hh, h1, commitFrom, beginOpens, ho, h2, beginFrom]

theorem OnlyCanopy.lineLoss (i : Nat) (s : State) : OnlyCanopy s (lineLoss i s) :=
  ((OnlyCanopy.drawFree s).trans (.dropNote _ _ _)).trans (.lossAdd _ _ _ _ _ _ _)

/-- A lost line's drop changes no more of Canopy than its notes and the losses of its channel. -/
theorem lineLoss_cnp (i : Nat) (s : State) :
    (lineLoss i s).cnp = { s.cnp with
      lastDrop := (lineLoss i s).cnp.lastDrop, drops := (lineLoss i s).cnp.drops, chans := (lineLoss i s).cnp.chans } := by
  unfold lineLoss
  dsimp only [lossAdd, modChan, modCnp]
  rw [dropNote_cnp]
  rfl

theorem lossMore_lossAdd {c cause limb : Nat} {lo hi rx : W64} (hw : twf {} s.cnp.chans = true) (hl : twf {} (chanAt c s).loss = true) :
    lossMore c cause s (lossAdd c cause limb lo hi rx s) := by
  unfold lossMore chanAt lossAdd modChan modCnp at *
  rw [tget_tmod_same _ _ _ _ hw, tget_tmod_same _ _ _ _ hl]
  refine ⟨?_, rfl⟩
  split
  · next h => exact congrArg (· + 1) h.symm
  · rfl

/-- A channel's losses are read from the table of channels. -/
theorem lossMore.congr {c k : Nat} {s t s' t' : State} (h : lossMore c k s t) (hs : s'.cnp.chans = s.cnp.chans) (ht : t'.cnp.chans = t.cnp.chans) :
    lossMore c k s' t' := by
  unfold lossMore chanAt at *
  rwa [hs, ht]

theorem lossMore_lineLoss (hw : twf {} s.cnp.chans = true) (hl : ∀ c, twf {} (chanAt c s).loss = true) :
    lossMore (channelOf (bucketOf (ctxSensor i s)) s) (lostKey (ctxSensor i s)) s (lineLoss i s) := by
  have hnote : ∀ c l t, (dropNote c l t).cnp.chans = t.cnp.chans := fun c l t => by rw [dropNote_cnp]
  unfold lineLoss
  dsimp only
  generalize hu : dropNote _ _ _ = u
  have hc : u.cnp.chans = s.cnp.chans := by
    rw [← hu]
    exact hnote _ _ _
  refine (lossMore_lossAdd (s := u) ?_ ?_).congr hc.symm rfl
  · rw [hc]
    exact hw
  · rw [chanAt, hc]
    exact hl _

/-- A line of the own range written anew (R306). -/
theorem contextRebuildDoneS_own (hr : s.cnp.rebuild.contains i = true) (hi : i < (gcan s).idCount) (hn : NoTurns s) :
    contextRebuildDoneS i s = Machine.modCnp (fun c => { c with
        rebuild := c.rebuild.filter (· != i) ++ c.rebuildWait.take 1, rebuildWait := c.rebuildWait.drop 1 })
      (emit .fault 0x3015 (srcLimb 0) [] (lineLoss i (setCtx i (lostCtx (tget 0 s.kpf.ceilings i)) s))) := by
  obtain ⟨ho, hh⟩ := hn
  have hc : knownCeiling i s = tget 0 s.kpf.ceilings i := if_pos hi
  have hq : ((setCtx i (lostCtx (tget 0 s.kpf.ceilings i)) s).cnp.opens.filter (fun o => o.ctx == i && o.mgmt == 0)).length = 0 := by
    rw [show (setCtx i _ s).cnp.opens = [] from ho]
    rfl
  rw [contextRebuildDoneS, hr]
  dsimp only
  rw [hc, hq, if_neg (by decide), orderLost, if_pos rfl]
  have hcnp := lineLoss_cnp i (setCtx i (lostCtx (tget 0 s.kpf.ceilings i)) s)
  refine runHeld_noTurns ?_ ?_
  · simp only [modCnp_cnp, emit_cnp]
    rw [hcnp]
    exact ho
  · simp only [modCnp_cnp, emit_cnp]
    rw [hcnp]
    exact hh

/-- What a rebuilt line changes: its context, its loss, and the rebuild table. -/
theorem contextRebuildDoneS_kept (hr : s.cnp.rebuild.contains i = true) (hi : i < (gcan s).idCount) (hn : NoTurns s) (hw : CnpWf s) :
    let t := contextRebuildDoneS i s
    OnlyCanopy s t ∧ t.cnp.rebuild = s.cnp.rebuild.filter (· != i) ++ s.cnp.rebuildWait.take 1 ∧ (∀ j, j ≠ i → ctxAt j t = ctxAt j s) ∧
      ctxAt i t = lostCtx (tget 0 s.kpf.ceilings i) ∧
      lossMore (channelOf (bucketOf (ctxSensor i s)) s) (lostKey (ctxSensor i s)) s t := by
  obtain ⟨hctx, hchans, -, -, -, hloss⟩ := hw
  have hcnp := lineLoss_cnp i (setCtx i (lostCtx (tget 0 s.kpf.ceilings i)) s)
  dsimp only
  rw [contextRebuildDoneS_own hr hi hn]
  have hset : ∀ x, (Machine.modCnp (fun c => { c with
        rebuild := c.rebuild.filter (· != i) ++ c.rebuildWait.take 1, rebuildWait := c.rebuildWait.drop 1 })
      (emit .fault 0x3015 (srcLimb 0) [] x)).cnp = { x.cnp with
        rebuild := x.cnp.rebuild.filter (· != i) ++ x.cnp.rebuildWait.take 1, rebuildWait := x.cnp.rebuildWait.drop 1 } := fun x => by simp
  refine ⟨(((OnlyCanopy.modCnp _ _).trans (.lineLoss _ _)).trans (.emit _ _ _ _ _)).trans (.modCnp _ _), ?_, fun j hj => ?_, ?_, ?_⟩
  · rw [hset, hcnp]
    rfl
  · rw [ctxAt, hset, hcnp]
    exact tget_tset_other _ _ _ _ _ hctx hj
  · rw [ctxAt, hset, hcnp]
    exact tget_tset_same _ _ _ _ hctx
  · refine (lossMore_lineLoss (s := setCtx i (lostCtx (tget 0 s.kpf.ceilings i)) s) hchans hloss).congr rfl ?_
    rw [hset]

end lines

/-! ### Frames sent on the grove ring -/

/-- A frame sent changes no more of the member than its sequence numbers, the telemetry and the outputs. -/
def RingSent (s t : State) : Prop := t = { s with grv := { s.grv with seqOut := t.grv.seqOut }, tel := t.tel, out := t.out }

section ring
variable {s t u : State}

theorem RingSent.refl (s : State) : RingSent s s := rfl

theorem RingSent.trans (h : RingSent s t) (k : RingSent t u) : RingSent s u := by
  unfold RingSent at *
  rw [k, h]

theorem RingSent.cnp (h : RingSent s t) : t.cnp = s.cnp := by rw [h]
theorem RingSent.kpf (h : RingSent s t) : t.kpf = s.kpf := by rw [h]
theorem RingSent.grv (h : RingSent s t) : t.grv = { s.grv with seqOut := t.grv.seqOut } := by
  conv => lhs; rw [h]

theorem RingSent.ringNew (dst : Nat) (b : RingBody) (s : State) : RingSent s (ringNew dst b s).2 := rfl

theorem RingSent.ringOut (east : Bool) (f : RingFrame) (s : State) : RingSent s (ringOut east f s) := rfl

theorem RingSent.ringTo (dst : Nat) (b : RingBody) (s : State) : RingSent s (ringTo dst b s) := by
  unfold Machine.ringTo ringSend
  dsimp only
  split
  · exact (RingSent.ringNew dst b s).trans (.ringOut _ _ _)
  · exact .refl s

theorem RingSent.whenOut {c east : Bool} {f : RingFrame} (h : RingSent s t) : RingSent s (whenB c (Machine.ringOut east f) t) := by
  cases c with
  | false => exact h
  | true => exact h.trans (.ringOut _ _ _)

theorem RingSent.ringBoth (dst : Nat) (b : RingBody) (s : State) : RingSent s (ringBoth dst b s) := (RingSent.ringNew dst b s).whenOut.whenOut

theorem RingSent.xferSend {α : Type} (m : Nat) (mk : List α → Bool → RingBody) : ∀ (l : List (List α)) (s : State), RingSent s (xferSend m mk l s)
  | [], s => .ringTo m _ s
  | [_], s => .ringTo m _ s
  | _ :: g' :: l, s => (RingSent.ringTo m _ s).trans (RingSent.xferSend m mk (g' :: l) _)

end ring

/-! ### Takeover and hand-back of a range (R309, R310, R312, R504) -/

section takeover
variable {n m : Nat} {s : State}

theorem unmirror_first (h : s.cnp.unmirrored = false) :
    unmirror s = emit .fault 0x3019 (srcLimb 0) [] (withCnp { s.cnp with unmirrored := true } { s with grv := { s.grv with mirrors := [] } }) :=
  if_neg (Bool.eq_false_iff.mp h)

theorem buddyAckTimeoutS_early (h : ∀ p ∈ s.grv.mirrors, max s.now n < p.first + 10 * psMs) : buddyAckTimeoutS n s = atTime n s := by
  refine if_neg (fun hany => ?_)
  obtain ⟨p, hp, hdue⟩ := List.any_eq_true.mp hany
  exact absurd (of_decide_eq_true hdue) (h p hp).not_ge

theorem buddyAckTimeoutS_due {p : MirrorPage} (hp : p ∈ s.grv.mirrors) (h : p.first + 10 * psMs ≤ max s.now n)
    (hu : s.cnp.unmirrored = false) : buddyAckTimeoutS n s =
      emit .fault 0x3019 (srcLimb 0) [] (withCnp { s.cnp with unmirrored := true } { atTime n s with grv := { s.grv with mirrors := [] } }) :=
  (if_pos (List.any_eq_true.mpr ⟨p, hp, decide_eq_true h⟩)).trans (unmirror_first (s := atTime n s) hu)

theorem takeoverStartS_none (h : s.grv.tkOrder = none) : takeoverStartS n s = atTime n s := by simp [takeoverStartS, h]

theorem takeoverStartS_builds (h : s.grv.tkOrder = some m) (hc : canopyOn s = true) (hg : inGrove s = true) (hb : buddyOf m s = memberNo s)
    (hm : m ≠ memberNo s) (ht : s.cnp.tkState = 0) :
    takeoverStartS n s =
      let g := (groveMembers s).getD m {}
      withCnp { s.cnp with tkMember := m, tkState := 1, tkBase := BitVec.ofNat 64 g.idBase, tkCount := g.idCount }
        { atTime n s with grv := { s.grv with tkOrder := none, served := tset 0 s.grv.served m (memberNo s + 1) } } := by
  unfold takeoverStartS
  dsimp only [atTime_grv]
  rw [h]
  refine if_pos ?_
  have h1 : canopyOn (modGrv (fun g => { g with tkOrder := none }) (atTime n s)) = true := hc
  have h2 : inGrove (modGrv (fun g => { g with tkOrder := none }) (atTime n s)) = true := hg
  have h3 : buddyOf m (modGrv (fun g => { g with tkOrder := none }) (atTime n s)) = memberNo s := hb
  have h4 : memberNo (modGrv (fun g => { g with tkOrder := none }) (atTime n s)) = memberNo s := rfl
  simp [h1, h2, h3, h4, hm, ht]

theorem takeoverBuildDoneS_other (h : s.cnp.tkState ≠ 1) : takeoverBuildDoneS n s = atTime n s := if_pos h

/-- The table of contexts after a takeover's build. -/
def takeoverBuilt (s : State) : Tab Ctx :=
  tfilter (fun i => decide (i < (gcan s).idCount)) s.cnp.ctx ++
    (List.range s.cnp.tkCount).map (fun k => ((gcan s).idCount + k, takeoverCtx (knownCeiling ((gcan s).idCount + k) s)))

theorem takeoverBuildDoneS_builds (h : s.cnp.tkState = 1) :
    takeoverBuildDoneS n s = emit .fault 0x3017 (srcLimb 0) [] (withCnp { s.cnp with tkState := 2, ctx := takeoverBuilt s } (atTime n s)) :=
  if_neg (not_not.mpr h)

/-- A table cut at `n` and continued above. -/
theorem tget_cutAppend {t b : Tab Ctx} {k j : Nat} (hw : twf {} t = true) (hb : ∀ e ∈ b, k ≤ e.1) :
    tget {} (tfilter (fun i => decide (i < k)) t ++ b) j = if j < k then tget {} t j else tget {} b j := by
  rw [tget_append hb _ (fun e he => by simpa using (List.mem_filter.mp he).2), tget_tfilter _ _ _ _ hw]
  by_cases hj : j < k <;> simp [hj]

theorem takeoverBuilt_own {j : Nat} (hw : twf {} s.cnp.ctx = true) (hj : j < (gcan s).idCount) : tget {} (takeoverBuilt s) j = ctxAt j s := by
  refine (tget_cutAppend hw ?_).trans (if_pos hj)
  simp only [List.mem_map, forall_exists_index, and_imp]
  rintro e k - rfl
  exact Nat.le_add_right _ _

theorem takeoverBuilt_lost {j : Nat} (hw : twf {} s.cnp.ctx = true) (hj : j < s.cnp.tkCount) :
    tget {} (takeoverBuilt s) ((gcan s).idCount + j) = takeoverCtx (knownCeiling ((gcan s).idCount + j) s) := by
  refine ((tget_cutAppend hw ?_).trans (if_neg (by omega))).trans ?_
  · simp only [List.mem_map, forall_exists_index, and_imp]
    rintro e k - rfl
    exact Nat.le_add_right _ _
  · rw [List.range_eq_range']
    exact tget_consecutive _ (fun k => takeoverCtx (knownCeiling ((gcan s).idCount + k) s)) _ 0 (Nat.zero_le _) (by omega)

theorem knownCeiling_lost (j : Nat) :
    knownCeiling ((gcan s).idCount + j) s = max (tget 0 s.kpf.ceilings ((gcan s).idCount + j)) (tget 0 s.kpf.buddyCeil j) := by
  simp [knownCeiling]

/-- The range is built: its contexts take the greatest ceilings known, and the own ones stay. -/
theorem takeoverBuildDoneS_kept (h : s.cnp.tkState = 1) (hw : twf {} s.cnp.ctx = true) :
    let t := takeoverBuildDoneS n s
    OnlyCanopy s t ∧ t.cnp.tkState = 2 ∧ (∀ j, j < (gcan s).idCount → ctxAt j t = ctxAt j s) ∧
      ∀ j, j < s.cnp.tkCount → ctxAt ((gcan s).idCount + j) t =
        takeoverCtx (max (tget 0 s.kpf.ceilings ((gcan s).idCount + j)) (tget 0 s.kpf.buddyCeil j)) := by
  dsimp only
  rw [takeoverBuildDoneS_builds h]
  have hbuilt : OnlyCanopy s (withCnp { s.cnp with tkState := 2, ctx := takeoverBuilt s } (atTime n s)) := rfl
  unfold ctxAt
  rw [emit_cnp]
  refine ⟨hbuilt.trans (.emit _ _ _ _ _), rfl, fun j hj => takeoverBuilt_own hw hj, fun j hj => ?_⟩
  rw [← knownCeiling_lost]
  exact takeoverBuilt_lost hw hj

theorem handbackDrainExpiryS_waits (h : s.cnp.tkState ≠ 3 ∨ (handbackQueued s ≠ [] ∧ max s.now n < s.grv.handEdge + psS)) :
    handbackDrainExpiryS n s = atTime n s := if_pos h

/-- The contexts of the range sent to the member that takes it back. -/
def handbackSent (s : State) : State :=
  xferSend s.cnp.tkMember .xferCtx (groupsOf 3 (handbackContexts s).length (handbackContexts s)) s

theorem handbackDrainExpiryS_empty (ht : s.cnp.tkState = 3) (hq : handbackQueued s = []) :
    handbackDrainExpiryS n s = modCnp (fun c => { c with
      tkState := 0, tkMember := 0, tkBase := 0, tkCount := 0, ctx := tfilter (fun i => decide (i < (gcan s).idCount)) c.ctx })
      (handbackSent (atTime n s)) := by
  have hq' : handbackQueued (atTime n s) = [] := hq
  unfold handbackDrainExpiryS
  dsimp only
  rw [hq', if_neg (by simp [ht])]
  rfl

/-- A hand-back whose entries are all gone sends the contexts and zeroes them (R312). -/
theorem handbackDrainExpiryS_ends (ht : s.cnp.tkState = 3) (hq : handbackQueued s = []) :
    (handbackDrainExpiryS n s).cnp = { s.cnp with
        tkState := 0, tkMember := 0, tkBase := 0, tkCount := 0, ctx := s.cnp.ctx.filter (fun e => decide (e.1 < (gcan s).idCount)) } ∧
      (handbackDrainExpiryS n s).kpf = s.kpf := by
  have hsent : RingSent (atTime n s) (handbackSent (atTime n s)) := .xferSend _ _ _ _
  rw [handbackDrainExpiryS_empty ht hq]
  refine ⟨?_, hsent.kpf⟩
  rw [modCnp_cnp, hsent.cnp]
  rfl

theorem handbackTransferDoneS_waits (h : s.cnp.rangeHeld = false ∨ s.grv.xferGot = false) : handbackTransferDoneS n s = atTime n s := by
  rcases h with h | h <;> simp [handbackTransferDoneS, h]

/-- The member takes the transferred contexts (R312). -/
theorem handbackTransferDoneS_takes (hr : s.cnp.rangeHeld = true) (hx : s.grv.xferGot = true) :
    let t := handbackTransferDoneS n s
    t.grv = { s.grv with xfer := [], xferGot := false } ∧ t.cnp = { s.cnp with
      st := 3, rangeHeld := false
      ctx := tfilter (fun i => decide (i < (gcan s).idCount)) s.grv.xfer ++ tfilter (fun i => !decide (i < (gcan s).idCount)) s.cnp.ctx } := by
  have hgo : ¬ (!((atTime n s).cnp.rangeHeld && (atTime n s).grv.xferGot)) = true := by simp [hr, hx]
  unfold handbackTransferDoneS
  dsimp only
  rw [if_neg hgo]
  simp only [emit_grv, emit_cnp]
  exact ⟨rfl, rfl⟩

theorem ctxs_transferred {x c : Tab Ctx} {k j : Nat} (hx : twf {} x = true) (hc : twf {} c = true) :
    tget {} (tfilter (fun i => decide (i < k)) x ++ tfilter (fun i => !decide (i < k)) c) j = if j < k then tget {} x j else tget {} c j := by
  refine (tget_cutAppend hx (fun e he => by simpa using (List.mem_filter.mp he).2)).trans ?_
  rw [tget_tfilter _ _ _ _ hc]
  by_cases hj : j < k <;> simp [hj]

end takeover

/-! The grove's crown and its members order takeovers and hand-backs. -/

section orders
variable {m : Nat} {w : W64} {s : State}

theorem forceTakeoverS_other (h : s.grv.withheld.contains m = false) : forceTakeoverS m s = s := if_neg (Bool.eq_false_iff.mp h)

theorem forceTakeoverS_withheld (h : s.grv.withheld.contains m = true) :
    forceTakeoverS m s = takeoverOrder m (modGrv (fun g => { g with withheld := g.withheld.filter (· != m) }) s) := if_pos h

/-- The buddy is recorded as serving the range, and told so; a member that is the buddy has the order itself (R310). -/
def takeoverTold (m : Nat) (s : State) : State :=
  if buddyOf m s = memberNo s then modGrv (fun g => { g with tkOrder := some m }) s
  else ringTo (buddyOf m s) (.control (.takeover (Fin.ofNat 64 m))) s

theorem takeoverTold_grv (m : Nat) (s : State) :
    (takeoverTold m s).cnp = s.cnp ∧ (takeoverTold m s).grv = { s.grv with
      seqOut := (takeoverTold m s).grv.seqOut, tkOrder := if buddyOf m s = memberNo s then some m else s.grv.tkOrder } := by
  have hsent := RingSent.ringTo (buddyOf m s) (.control (.takeover (Fin.ofNat 64 m))) s
  unfold takeoverTold
  split
  · exact ⟨rfl, rfl⟩
  · exact ⟨hsent.cnp, hsent.grv⟩

theorem takeoverOrder_grv (m : Nat) (s : State) :
    (takeoverOrder m s).cnp = s.cnp ∧ (takeoverOrder m s).grv = { s.grv with
      seqOut := (takeoverOrder m s).grv.seqOut, served := tset 0 s.grv.served m (buddyOf m s + 1)
      tkOrder := if buddyOf m s = memberNo s then some m else s.grv.tkOrder } := by
  obtain ⟨hcnp, hgrv⟩ := takeoverTold_grv m s
  have hsent : RingSent (modGrv (fun g => { g with served := tset 0 g.served m (buddyOf m s + 1) }) (takeoverTold m s)) (takeoverOrder m s) :=
    RingSent.ringBoth _ _ _
  refine ⟨hsent.cnp.trans hcnp, hsent.grv.trans ?_⟩
  rw [modGrv_grv, hgrv]

theorem handbackAtWriteS_refused (h : s.grv.back = [] ∨ isCrown s = false ∨ s.grv.handbackAt ≠ 0 ∨ w.toNat ≤ s.slt.slot.toNat) :
    handbackAtWriteS w s = emit .secure 0x1036 srcGrove [] s := by
  unfold handbackAtWriteS
  split
  · next m r hb =>
    refine if_neg (fun hgo => ?_)
    simp only [Bool.and_eq_true, beq_iff_eq, decide_eq_true_eq] at hgo
    obtain ⟨⟨hc, h0⟩, hlt⟩ := hgo
    rcases h with h | h | h | h
    · simp [h] at hb
    · simp [h] at hc
    · exact h h0
    · exact absurd hlt h.not_gt
  · rfl

theorem handbackAtWriteS_armed {r : List Nat} (hb : s.grv.back = m :: r) (hc : isCrown s = true) (h0 : s.grv.handbackAt = 0)
    (hw : s.slt.slot.toNat < w.toNat) :
    (handbackAtWriteS w s).cnp = s.cnp ∧
      (handbackAtWriteS w s).grv = { s.grv with handbackAt := w, handMember := m, seqOut := (handbackAtWriteS w s).grv.seqOut } := by
  have hsent : RingSent (modGrv (fun g => { g with handbackAt := w, handMember := m }) s) (handbackAtWriteS w s) := by
    unfold handbackAtWriteS
    rw [hb]
    dsimp only
    rw [if_pos (by simp [hc, h0, hw])]
    exact RingSent.ringBoth _ _ _
  exact ⟨hsent.cnp, hsent.grv⟩

end orders

/-! ### What a fence leaves alone (R35, R302-R305) -/

/-! The hollow channels of a fenced leaf: a sweep changes no more of a leaf than its events. -/

section sweep
variable {β : Type} {π : Leaf → β} (hπ : ∀ (x : Leaf) e, π { x with events := e } = π x)
include hπ

theorem TreeKept.ringKnock (k : Nat) (s : State) : TreeKept π s (ringKnock k s) := by
  unfold Machine.ringKnock
  dsimp only
  split
  · exact .modLeaf _ (fun x => hπ x _) s
  · split <;> exact .ofView rfl
  · split <;> exact .ofView rfl
  · exact .refl s

theorem TreeKept.knockAck (c : Nat) (s : State) : TreeKept π s (knockAck c s) := by
  unfold Machine.knockAck
  dsimp only
  split
  · exact .ringKnock hπ _ s
  · exact .refl s

theorem TreeKept.hAck (c : Nat) (q code : W16) (s : State) : TreeKept π s (hAck c q code s) := by
  unfold Machine.hAck
  dsimp only
  refine TreeKept.trans ?_ (.knockAck hπ c _)
  split <;> exact .ofView rfl

theorem TreeKept.hAbortAll (c : Nat) (s : State) : TreeKept π s (hAbortAll c s) := by
  unfold Machine.hAbortAll
  dsimp only
  have hcount : TreeKept π s (if (hchan c s).waiting.length + (hchan c s).taken.length = 0 then
      setHchan c { hchan c s with waiting := [], taken := [] } s
    else bumpBy (cHlw c 4) ((hchan c s).waiting.length + (hchan c s).taken.length) (setHchan c { hchan c s with waiting := [], taken := [] } s)) := by
    split <;> exact .ofView rfl
  split
  · exact hcount
  · exact hcount.trans (.foldS (fun q s => .hAck hπ _ _ _ s) _ _)

theorem TreeKept.hollowSweep (s : State) : TreeKept π s (hollowSweep s) := by
  refine .foldS (fun e s => ?_) _ s
  split
  · exact .hAbortAll hπ _ s
  · exact .refl s

end sweep

/-! The escapes of a fenced escape leaf (R211). -/

section escapes
variable (d : Nat) (x : Esc) (s : State)

theorem fltCount_view (code : W16) : treeView (fltCount d code s) = treeView s := by
  rw [fltCount]
  split <;> rfl

theorem mimicStart_view (op cls : Nat) (e : Bytes) : treeView (mimicStart d op cls e s) = treeView s := by
  rw [mimicStart, bump_view, modFlt_view]

theorem escRefuse_view (code : W16) (mimic : Bool) : treeView (escRefuse d x code mimic s) = treeView s := by
  have hclose : treeView (bump (cCus d 2) (escClose d x code s)) = treeView s := by
    rw [bump_view, escClose, verdictFlush_view, verdictSend_view, fltCount_view, modFlt_view]
  rw [escRefuse]
  split
  · rw [mimicStart_view, hclose]
  · exact hclose

theorem escLeafFenced_view (l : Nat) : treeView (escLeafFenced l s) = treeView s := by
  refine foldS_view (fun d s => ?_) _ s
  split
  · split
    · rfl
    · split
      · rfl
      · exact escRefuse_view _ _ _ _ _
  · rfl

end escapes

/-! Held entries dispatched again (R302). -/

theorem RingSent.view {s t : State} (h : RingSent s t) : treeView t = treeView s := by
  rw [h]
  rfl

theorem sensorCode_view (id : Nat) (code : W16) (s : State) : treeView (sensorCode id code s) = treeView s := by
  unfold sensorCode laneCode
  split <;> rfl

theorem envForeign_view (e : Entry) (s : State) : treeView (envForeign e s) = treeView s := by
  have hlost : treeView (envUnreachable e s) = treeView s := sensorCode_view _ _ s
  have hsent : ∀ dst body, treeView (ringSend dst body s).2 = treeView s := fun dst body => (RingSent.ringTo dst body s).view
  unfold envForeign
  split
  · exact sensorCode_view _ _ s
  · dsimp only
    rw [apply_ite treeView, apply_ite treeView, bump_view, modGrv_view, hsent, hlost, ite_self, ite_self]

theorem dispatchEntry_view (e : Entry) (s : State) : treeView (dispatchEntry e s) = treeView s := by
  unfold dispatchEntry
  split
  · exact sensorCode_view _ _ s
  · split
    · exact (envForeign_view e _).trans (releaseEntry_view s _)
    · dsimp only
      rw [modEntry_view, modLane_view, twigWrite_view]
      split <;> rfl

theorem reDispatch_view (h : W32) (s : State) : treeView (reDispatch h s) = treeView s := by
  unfold reDispatch
  split
  · rfl
  · split
    · exact dispatchEntry_view _ s
    · rfl

/-! ### A fence marks leaves and moves their roles; none is unfenced -/

/-- Every bough keeps its power, and every fenced leaf stays fenced. -/
structure FenceKept (s t : State) : Prop where
  boughs : twf {} s.nrg.boughs = true → twf {} t.nrg.boughs = true ∧ ∀ b, (boughNrg b t).power = (boughNrg b s).power
  leaf : twf {} s.lvs.leaf = true → twf {} t.lvs.leaf = true ∧ ∀ l, (leafAt l s).fenced = true → (leafAt l t).fenced = true

section fence
variable {s t u : State} {l : Nat}

theorem FenceKept.trans (h : FenceKept s t) (k : FenceKept t u) : FenceKept s u := by
  refine ⟨fun hb => ?_, fun hl => ?_⟩
  · obtain ⟨hw, hp⟩ := h.boughs hb
    obtain ⟨hw', hp'⟩ := k.boughs hw
    exact ⟨hw', fun b => (hp' b).trans (hp b)⟩
  · obtain ⟨hw, hf⟩ := h.leaf hl
    obtain ⟨hw', hf'⟩ := k.leaf hw
    exact ⟨hw', fun l h => hf' l (hf l h)⟩

theorem FenceKept.ofTree (h : TreeKept Leaf.fenced s t) : FenceKept s t := by
  have hn := treeParts_nrg h.parts
  refine ⟨fun hb => ⟨by rw [hn]; exact hb, fun b => by rw [boughNrg, hn]; rfl⟩, fun hl => ⟨h.wf hl, fun l hf => ?_⟩⟩
  rw [h.leaf hl l]
  exact hf

theorem FenceKept.same (hn : t.nrg = s.nrg) (hl : t.lvs = s.lvs) : FenceKept s t := by
  refine ⟨fun hb => ⟨by rw [hn]; exact hb, fun b => by rw [boughNrg, hn]; rfl⟩, fun hw => ⟨by rw [hl]; exact hw, fun l hf => ?_⟩⟩
  rw [leafAt, hl]
  exact hf

theorem FenceKept.refl (s : State) : FenceKept s s := .same rfl rfl

theorem FenceKept.foldS {α : Type} {f : α → State → State} (h : ∀ a s, FenceKept s (f a s)) : ∀ (l : List α) (s : State),
    FenceKept s (foldS f l s)
  | [], s => .refl s
  | a :: l, s => (h a s).trans (FenceKept.foldS h l _)

theorem FenceKept.emit (c : EvClass) (code src : W16) (d : Bytes) (s : State) : FenceKept s (emit c code src d s) :=
  .same (emit_nrg _ _ _ _ _) (emit_lvs _ _ _ _ _)

theorem FenceKept.beginOpens (s : State) : FenceKept s (beginOpens s) := .ofTree (.beginOpens (fun _ _ => rfl) s)

theorem FenceKept.hollowSweep (s : State) : FenceKept s (hollowSweep s) := .ofTree (.hollowSweep (fun _ _ => rfl) s)

/-! The fence itself. -/

theorem FenceKept.modDis (u : UnitId) (f : Dis → Dis) (s : State) : FenceKept s (modDis u f s) := .same rfl rfl

theorem FenceKept.disCut_lane (k : Fin 192) (s : State) : FenceKept s (disCut (.lane k) s) :=
  FenceKept.trans (t := (disDiscard (.lane k) s).2) (.ofTree (.laneCut (fun _ _ => rfl) _ _)) (.modDis _ _ _)

theorem FenceKept.disBound_lane (k : Fin 192) (s : State) : FenceKept s (disBound (.lane k) s) := by
  unfold disBound
  dsimp only
  split
  · exact (FenceKept.modDis _ _ s).trans (.disCut_lane k _)
  · exact .refl s

theorem FenceKept.disOn_lane (k : Fin 192) (s : State) : FenceKept s (disOn (.lane k) s) := by
  unfold disOn disResume
  exact FenceKept.trans (t := laneWork k.val (Machine.modDis (.lane k) (fun d => { d with off := false, enPending := false, quiesced := false }) s))
    (.same rfl rfl) (.beginOpens _)

theorem FenceKept.disFinish_lane (k : Fin 192) (s : State) : FenceKept s (disFinish (.lane k) s) := by
  have hdone : ∀ c code src b f, FenceKept s (Machine.modDis (.lane k) f (Machine.emit c code src b s)) := fun c code src b f =>
    (FenceKept.emit c code src b s).trans (.modDis _ _ _)
  unfold disFinish
  dsimp only
  rw [disQuiet_other (fun _ h => by cases h)]
  split
  · exact (hdone _ _ _ _ _).trans (.disOn_lane k _)
  · exact hdone _ _ _ _ _

/-- A leaf with what it has in flight discarded. -/
def leafIdled (x : Leaf) : Leaf := { x with tags := [], guards := [], xfer := none, waiting := none, flight := [] }

theorem leafDrop_view (l : Nat) (s : State) : treeView (leafDrop l s) = treeView (modLeaf l leafIdled s) := by
  unfold leafDrop
  dsimp only
  refine (modEng_view _ _ _).trans ?_
  rfl

theorem TreeKept.leafDrop {β : Type} {π : Leaf → β} (hπ : ∀ x, π (leafIdled x) = π x) (l : Nat) (s : State) : TreeKept π s (leafDrop l s) :=
  (TreeKept.modLeaf l hπ s).trans (.ofView (leafDrop_view l s))

end fence

section fence
variable {s t : State} {l sp : Nat}

/-! Rules of leaves and boughs. -/

theorem twf_modLeaf {f : Leaf → Leaf} (hw : twf {} s.lvs.leaf = true) : twf {} (modLeaf l f s).lvs.leaf = true := twf_tmod _ _ _ _ hw

theorem leafAt_modLeaf_same {f : Leaf → Leaf} (hw : twf {} s.lvs.leaf = true) : leafAt l (modLeaf l f s) = f (leafAt l s) :=
  tget_tmod_same _ _ _ f hw

theorem leafAt_modLeaf_other {f : Leaf → Leaf} {j : Nat} (hw : twf {} s.lvs.leaf = true) (hj : j ≠ l) : leafAt j (modLeaf l f s) = leafAt j s :=
  tget_tmod_other _ _ _ _ f hw hj

theorem twf_modBough {b : Nat} {f : BoughNrg → BoughNrg} (hw : twf {} s.nrg.boughs = true) : twf {} (modBough b f s).nrg.boughs = true :=
  twf_tmod _ _ _ _ hw

theorem boughNrg_modBough_same {b : Nat} {f : BoughNrg → BoughNrg} (hw : twf {} s.nrg.boughs = true) :
    boughNrg b (modBough b f s) = f (boughNrg b s) := tget_tmod_same _ _ _ f hw

theorem boughNrg_modBough_other {b c : Nat} {f : BoughNrg → BoughNrg} (hw : twf {} s.nrg.boughs = true) (hc : c ≠ b) :
    boughNrg c (modBough b f s) = boughNrg c s := tget_tmod_other _ _ _ _ f hw hc

/-! ### A leaf is marked -/

theorem fenceMark_fenced (h : (leafAt l s).fenced = true) : fenceMark l s = s := by simp [fenceMark, h]

/-- The fenced leaf, before what it has in flight is dropped. -/
def fenceStart (l : Nat) (s : State) : State :=
  let s := bump (cBough (boughOfLeaf l) 9) (modLeaf l (fun x => { x with fenced := true }) s)
  let u : UnitId := .lane (Fin.ofNat 192 l)
  if !(disOf u s).running then s
  else if (disOf u s).cut then disFinish u s
  else disFinish u (disBound u s)

theorem fenceMark_eq (hl : l < 192) (hf : (leafAt l s).fenced = false) : fenceMark l s = leafDrop l (fenceStart l s) :=
  if_neg (by simp [hl, hf])

/-- A leaf whose lane runs no disable stops at once. -/
theorem fenceMark_stops (hl : l < 192) (hf : (leafAt l s).fenced = false) (hr : (disOf (.lane (Fin.ofNat 192 l)) s).running = false) :
    fenceMark l s = leafDrop l (bump (cBough (boughOfLeaf l) 9) (modLeaf l (fun x => { x with fenced := true }) s)) :=
  (fenceMark_eq hl hf).trans (congrArg (leafDrop l) (if_pos (congrArg not hr)))

theorem FenceKept.modLeaf (l : Nat) {f : Leaf → Leaf} (hf : ∀ x, x.fenced = true → (f x).fenced = true) (s : State) :
    FenceKept s (modLeaf l f s) := by
  refine ⟨fun hb => ⟨hb, fun _ => rfl⟩, fun hw => ⟨twf_modLeaf hw, fun j hj => ?_⟩⟩
  by_cases h : j = l
  · subst h
    rw [leafAt_modLeaf_same hw]
    exact hf _ hj
  · rw [leafAt_modLeaf_other hw h]
    exact hj

theorem FenceKept.leafDrop (l : Nat) (s : State) : FenceKept s (leafDrop l s) := .ofTree (.leafDrop (fun _ => rfl) l s)

theorem FenceKept.fenceStart (l : Nat) (s : State) : FenceKept (Machine.modLeaf l (fun x => { x with fenced := true }) s) (fenceStart l s) := by
  have hbump : FenceKept (Machine.modLeaf l (fun x => { x with fenced := true }) s)
      (bump (cBough (boughOfLeaf l) 9) (Machine.modLeaf l (fun x => { x with fenced := true }) s)) := .same rfl rfl
  unfold Sys2Proof.fenceStart
  dsimp only
  split
  · exact hbump
  · split
    · exact hbump.trans (.disFinish_lane _ _)
    · exact (hbump.trans (.disBound_lane _ _)).trans (.disFinish_lane _ _)

theorem FenceKept.fenceMark (l : Nat) (s : State) : FenceKept s (fenceMark l s) := by
  by_cases hf : (leafAt l s).fenced = false ∧ l < 192
  · rw [fenceMark_eq hf.2 hf.1]
    exact ((FenceKept.modLeaf l (fun _ _ => rfl) s).trans (.fenceStart l s)).trans (.leafDrop l _)
  · refine (congrArg (FenceKept s) (if_pos ?_)).mpr (.refl s)
    simp only [not_and, Nat.not_lt, Bool.or_eq_true, Bool.not_eq_true', decide_eq_false_iff_not] at hf ⊢
    cases h : (leafAt l s).fenced with
    | true => exact .inr rfl
    | false => exact .inl (by have := hf h; omega)

theorem fenceMark_marks (hl : l < 192) (hw : twf {} s.lvs.leaf = true) : (leafAt l (fenceMark l s)).fenced = true := by
  cases hf : (leafAt l s).fenced with
  | true => rw [fenceMark_fenced hf, hf]
  | false =>
    rw [fenceMark_eq hl hf]
    have hset : FenceKept (Machine.modLeaf l (fun x => { x with fenced := true }) s) (Machine.leafDrop l (fenceStart l s)) :=
      (FenceKept.fenceStart l s).trans (.leafDrop l _)
    refine (hset.leaf (twf_modLeaf hw)).2 l ?_
    rw [leafAt_modLeaf_same hw]

/-- Leaves marked one after another are all fenced. -/
theorem foldS_fenceMark : ∀ (ls : List Nat) (s : State), twf {} s.lvs.leaf = true → ∀ l ∈ ls, l < 192 →
    (leafAt l (foldS fenceMark ls s)).fenced = true
  | [], _, _, _, hl, _ => absurd hl List.not_mem_nil
  | a :: ls, s, hw, l, hl, hlt => by
    rw [foldS_cons]
    have hw' := ((FenceKept.fenceMark a s).leaf hw).1
    rcases List.mem_cons.mp hl with rfl | hl
    · exact ((FenceKept.foldS (fun a s => .fenceMark a s) ls _).leaf hw').2 l (fenceMark_marks hlt hw)
    · exact foldS_fenceMark ls _ hw' l hl hlt

/-! ### A role moves -/

theorem FenceKept.needThaw (b : Nat) (s : State) : FenceKept s (needThaw b s) := by
  unfold Machine.needThaw
  split
  · refine ⟨fun hb => ⟨twf_modBough hb, fun c => ?_⟩, fun hw => ⟨hw, fun _ => id⟩⟩
    by_cases h : c = b
    · rw [h, boughNrg_modBough_same hb]
    · rw [boughNrg_modBough_other hb h]
  · exact .refl s

theorem needThaw_lvs (b : Nat) (s : State) : (needThaw b s).lvs = s.lvs := by
  unfold needThaw
  split <;> rfl

theorem needThaw_cnp (b : Nat) (s : State) : (needThaw b s).cnp = s.cnp := by
  unfold needThaw
  split <;> rfl

theorem needThaw_grn (b : Nat) (s : State) : (needThaw b s).grn = s.grn := by
  unfold needThaw
  split <;> rfl

theorem spareTake_cnp (sp l : Nat) (s : State) : (spareTake sp l s).cnp = s.cnp := needThaw_cnp _ s

theorem spareTake_grn (sp l : Nat) (s : State) : (spareTake sp l s).grn = s.grn := needThaw_grn _ s

/-- A spare is not fenced, and so none is unfenced. -/
theorem FenceKept.spareTake (hf : (leafAt sp s).fenced = false) : FenceKept s (spareTake sp l s) := by
  have hload : ∀ e (u : State), (leafAt sp u).fenced = false → FenceKept u (loadLeaf sp e u) := by
    refine fun e u hu => ⟨fun hb => ⟨hb, fun _ => rfl⟩, fun hw => ⟨twf_tset _ _ _ _ hw, fun j hj => ?_⟩⟩
    have hne : j ≠ sp := fun h => by simp [h, hu] at hj
    exact (congrArg Leaf.fenced (tget_tset_other _ _ _ _ _ hw hne)).trans hj
  refine (FenceKept.needThaw _ s).trans (hload _ _ ?_)
  rw [leafAt, needThaw_lvs]
  exact hf

theorem spareFree_fenced (h : spareFree sp s = true) : (leafAt sp s).fenced = false := by
  simp only [spareFree, Bool.and_eq_true, Bool.not_eq_true'] at h
  exact h.1.1.2

end fence

section move
variable {s t : State} {l sp : Nat}

/-! ### A lane moves (R302, R304) -/

/-- The spare that a lane's role goes to, if it is free. -/
def laneSpareOf (l : Nat) (s : State) : Nat := (gcan s).laneSpare.getD l 0xFFFF

/-- The free spare has taken the lane's role. -/
def moveSpared (l : Nat) (s : State) : State :=
  if spareFree (laneSpareOf l s) s then
    modCnp (fun n => { n with sparesUsed := n.sparesUsed ++ [laneSpareOf l s] }) (spareTake (laneSpareOf l s) l s)
  else s

/-- The lanes that take the buckets. -/
def moveTargets (l : Nat) (s : State) : List Nat :=
  if spareFree (laneSpareOf l s) s then [laneSpareOf l s] else lanesLeft l (moveSpared l s)

/-- Buckets go to the targets in turn. -/
def bucketsTo (targets : List Nat) (buckets : List Nat) (t : Tab Nat) : Tab Nat :=
  if targets = [] then t else (buckets.zipIdx).foldl (fun t e => tset 0 t e.1 (targets.getD (e.2 % targets.length) 0 + 1)) t

/-- The buckets of a lane. -/
def laneBuckets (l : Nat) (s : State) : List Nat := (List.range 1024).filter (fun b => laneOf b s == l)

/-- The report of a lane's move. -/
def moveReport (old new retried : Nat) (n : Cnp) : Cnp := { n with moveOld := old, moveNew := new, moveRetried := retried }

/-- The spare has taken the role, and the targets the buckets. -/
def moveTabled (l : Nat) (s : State) : State :=
  modCnp (fun n => { n with moved := bucketsTo (moveTargets l s) (laneBuckets l s) (moveSpared l s).cnp.moved }) (moveSpared l s)

/-- The report that the move of lane `l` writes. -/
def moveReportOf (l : Nat) (s : State) : Cnp → Cnp :=
  moveReport l (if spareFree (laneSpareOf l s) s then laneSpareOf l s else 0xFF) (min (laneAt l (moveSpared l s)).ring.length 0xFFFF)

/-- What a lane's move leaves behind in the parts of the tree: the buckets' lanes and the report. -/
def moveDone (l : Nat) (s : State) : State := modCnp (moveReportOf l s) (moveTabled l s)

/-- A report of a lane's move on states that the tree's parts do not tell apart. -/
theorem treeView_moveReport {u v : State} (h : treeView u = treeView v) (old new retried : Nat) :
    treeView (modCnp (moveReport old new retried) u) = treeView (modCnp (moveReport old new retried) v) :=
  congrArg (fun w => ((w.1.1, w.1.2.1, w.1.2.2.1, w.1.2.2.2.1, w.1.2.2.2.2.1, old, new, retried), w.2)) h

/-- The lane's ring emptied into the share, and each entry dispatched again. -/
def moveUnloaded (l : Nat) (s : State) : State := foldS reDispatch (laneUnload l (moveTabled l s)).1 (laneUnload l (moveTabled l s)).2

theorem moveUnloaded_view (l : Nat) (s : State) : treeView (moveUnloaded l s) = treeView (moveTabled l s) :=
  (foldS_view reDispatch_view _ _).trans ((modLane_view _ _ _).trans (modCnp_view _ fun _ => rfl))

theorem moveLane_eq (l : Nat) (s : State) :
    ∃ d, moveLane l s = beginOpens (emit .fault 0x3011 (srcLeaf l) d (modCnp (moveReportOf l s) (moveUnloaded l s))) := ⟨_, rfl⟩

/-- A lane's move changes no more of the tree and of a leaf than `moveDone`, but for its tags. -/
theorem TreeKept.moveLane {β : Type} {π : Leaf → β} (hπ : ∀ (x : Leaf) t, π { x with tags := t } = π x) (l : Nat) (s : State) :
    TreeKept π (moveDone l s) (moveLane l s) := by
  obtain ⟨d, heq⟩ := moveLane_eq l s
  rw [heq]
  refine .fromView (.beginOpens hπ _) ((emit_view _ _ _ _ _).trans ?_)
  exact treeView_moveReport (moveUnloaded_view l s) _ _ _

theorem FenceKept.modCnp (f : Cnp → Cnp) (s : State) : FenceKept s (modCnp f s) := .same rfl rfl

theorem FenceKept.moveSpared (l : Nat) (s : State) : FenceKept s (moveSpared l s) := by
  unfold Sys2Proof.moveSpared
  split
  · next h => exact (FenceKept.spareTake (spareFree_fenced h)).trans (.modCnp _ _)
  · exact .refl s

theorem FenceKept.moveLane (l : Nat) (s : State) : FenceKept s (moveLane l s) :=
  have hdone : FenceKept (Sys2Proof.moveSpared l s) (moveDone l s) := FenceKept.trans (t := moveTabled l s) (.modCnp _ _) (.modCnp _ _)
  ((FenceKept.moveSpared l s).trans hdone).trans (.ofTree (.moveLane (fun _ _ => rfl) l s))

theorem FenceKept.fenceMove (l : Nat) (s : State) : FenceKept s (fenceMove l s) := by
  unfold Machine.fenceMove
  dsimp only
  refine FenceKept.trans ?_ (.hollowSweep _)
  have hmoved : FenceKept s (if isLane l s then Machine.moveLane l s
      else if (leafAt l s).role = roleMka ∨ (leafAt l s).role = roleEscape ∨ (leafAt l s).role = roleTelemetry then
        if spareFree (grainLeaf l s).spare s then Machine.spareTake (grainLeaf l s).spare l s else s
      else s) := by
    split
    · exact .moveLane l s
    · split
      · split
        · next h => exact .spareTake (spareFree_fenced h)
        · exact .refl s
      · exact .refl s
  split
  · exact hmoved.trans (.ofTree (.ofView (escLeafFenced_view _ l)))
  · exact hmoved

/-! ### A bough is fenced (R305) -/

theorem custodyBlocksLost_view (b : Nat) (s : State) : treeView (custodyBlocksLost b s) = treeView s := by
  refine foldS_view (fun e s => ?_) _ s
  split <;> rfl

/-- The bough's power and engine are fenced, before its leaves are. -/
def boughStopped (b : Nat) (s : State) : State := brlFence b (modBough b (fun x => { x with power := .fenced }) (custodyBlocksLost b s))

theorem fenceBough_eq {b : Nat} (h : (boughNrg b s).power ≠ .fenced) :
    fenceBough b s =
      let u := boughStopped b s
      let ls := ((List.range 16).map (fun i => 16 * b + i)).filter (fun l => leafAlive l u)
      hollowSweep (foldS fenceMove ls (foldS fenceMark ls u)) := if_neg h

theorem boughStopped_leaf (b : Nat) (s : State) : (boughStopped b s).lvs.leaf = s.lvs.leaf :=
  (show (boughStopped b s).lvs.leaf = (custodyBlocksLost b s).lvs.leaf from rfl).trans (treeView_leaf (custodyBlocksLost_view b s))

theorem leafAt_boughStopped (b l : Nat) (s : State) : leafAt l (boughStopped b s) = leafAt l s := by
  rw [leafAt, boughStopped_leaf]
  rfl

/-- Every leaf of a fenced bough that lived is fenced with it. -/
theorem fenceBough_fences {b : Nat} (hb : b < 12) (hp : (boughNrg b s).power ≠ .fenced) (hw : twf {} s.lvs.leaf = true)
    (hwb : twf {} s.nrg.boughs = true) :
    (boughNrg b (fenceBough b s)).power = .fenced ∧ ∀ l, boughOfLeaf l = b → leafAlive l s = true → (leafAt l (fenceBough b s)).fenced = true := by
  have hnrg := treeParts_nrg (treeView_parts (custodyBlocksLost_view b s))
  have hw' : twf {} (boughStopped b s).lvs.leaf = true := by
    rw [boughStopped_leaf]
    exact hw
  have hwb' : twf {} (custodyBlocksLost b s).nrg.boughs = true := by
    rw [hnrg]
    exact hwb
  have hpow : (boughNrg b (boughStopped b s)).power = .fenced := congrArg BoughNrg.power (boughNrg_modBough_same hwb')
  have hwb2 : twf {} (boughStopped b s).nrg.boughs = true := twf_modBough hwb'
  rw [fenceBough_eq hp]
  dsimp only
  generalize hls : List.filter _ _ = ls
  have hmark : FenceKept (boughStopped b s) (foldS fenceMark ls (boughStopped b s)) := .foldS (fun l s => .fenceMark l s) ls _
  have hmove : FenceKept (foldS fenceMark ls (boughStopped b s)) (hollowSweep (foldS fenceMove ls (foldS fenceMark ls (boughStopped b s)))) :=
    (FenceKept.foldS (fun l s => .fenceMove l s) ls _).trans (.hollowSweep _)
  refine ⟨(((hmark.trans hmove).boughs hwb2).2 b).trans hpow, fun l hl ha => (hmove.leaf (hmark.leaf hw').1).2 l ?_⟩
  have hlt : l < 192 := by
    unfold boughOfLeaf at hl
    omega
  refine foldS_fenceMark ls _ hw' l ?_ hlt
  rw [← hls, List.mem_filter]
  refine ⟨List.mem_map.mpr ⟨l % 16, List.mem_range.mpr (Nat.mod_lt _ (by decide)), ?_⟩, ?_⟩
  · rw [← hl, boughOfLeaf]
    omega
  · rw [leafAlive, leafAt_boughStopped]
    exact ha

end move

section fenceLeaf
variable {s : State} {l sp : Nat}

/-! ### A leaf is fenced (R35, R302) -/

/-- The faults of a leaf's bough within the last second. -/
def faultsOf (l : Nat) (s : State) : List Nat := (tget [] s.lvs.fences (boughOfLeaf l)).filter (fun t => decide (s.now ≤ t + psS))

/-- One more of them. -/
def faultNoted (l : Nat) (s : State) : State :=
  { s with lvs := { s.lvs with fences := tset [] s.lvs.fences (boughOfLeaf l) (s.now :: faultsOf l s) } }

/-- The leaf as the fence leaves it, before its role moves. -/
def leafStopped (l : Nat) (s : State) : State :=
  leafDrop l (bump (cBough (boughOfLeaf l) 9) (modLeaf l (fun x => { x with fenced := true }) (faultNoted l s)))

theorem fenceLeaf_fenced (h : (leafAt l s).fenced = true) : fenceLeaf l s = s := by simp [fenceLeaf, h]

/-- One of the first two fences of a bough within a second fences its leaf alone. -/
theorem fenceLeaf_few (hl : l < 192) (hf : (leafAt l s).fenced = false) (hfew : (faultsOf l s).length < 2)
    (hr : (disOf (.lane (Fin.ofNat 192 l)) s).running = false) : fenceLeaf l s = fenceMove l (leafStopped l s) := by
  have hgo : ¬ ((leafAt l s).fenced || !decide (l < 192)) = true := by simp [hl, hf]
  have heq : fenceLeaf l s = if 2 ≤ (faultsOf l s).length then fenceBough (boughOfLeaf l) (fenceMove l (fenceMark l (faultNoted l s)))
    else fenceMove l (fenceMark l (faultNoted l s)) := if_neg hgo
  rw [heq, if_neg hfew.not_ge, fenceMark_stops (s := faultNoted l s) hl hf hr]
  rfl

theorem leafStopped_view (l : Nat) (s : State) :
    treeView (leafStopped l s) = treeView (modLeaf l leafIdled (modLeaf l (fun x => { x with fenced := true }) s)) := leafDrop_view l _

theorem leafAt_leafStopped (hw : twf {} s.lvs.leaf = true) : leafAt l (leafStopped l s) = leafIdled { leafAt l s with fenced := true } := by
  rw [leafAt, treeView_leaf (leafStopped_view l s)]
  exact (leafAt_modLeaf_same (twf_modLeaf hw)).trans (congrArg leafIdled (leafAt_modLeaf_same hw))

theorem leafAt_leafStopped_other {j : Nat} (hw : twf {} s.lvs.leaf = true) (hj : j ≠ l) : leafAt j (leafStopped l s) = leafAt j s := by
  rw [leafAt, treeView_leaf (leafStopped_view l s)]
  exact (leafAt_modLeaf_other (twf_modLeaf hw) hj).trans (leafAt_modLeaf_other hw hj)

theorem twf_leafStopped (hw : twf {} s.lvs.leaf = true) : twf {} (leafStopped l s).lvs.leaf = true := by
  rw [treeView_leaf (leafStopped_view l s)]
  exact twf_modLeaf (twf_modLeaf hw)

theorem leafStopped_parts (l : Nat) (s : State) : treeParts (leafStopped l s) = treeParts s :=
  (treeView_parts (leafStopped_view l s)).trans rfl

theorem isLane_leafStopped (hw : twf {} s.lvs.leaf = true) : isLane l (leafStopped l s) = isLane l s := by
  rw [isLane, leafAt_leafStopped hw]
  rfl

theorem laneMoves_of {s t : State} (h : treeParts t = treeParts s) : laneMoves t.cnp = laneMoves s.cnp := congrArg (·.2.2.2.2) h

/-- A role that does not move stays with the fenced leaf. -/
theorem fenceMove_still (hl : isLane l s = false) (hr : (leafAt l s).role = roleIdle ∨ (leafAt l s).role = roleSpare) :
    fenceMove l s = hollowSweep s := by
  have hrole : ¬ ((leafAt l s).role = roleMka ∨ (leafAt l s).role = roleEscape ∨ (leafAt l s).role = roleTelemetry) := by
    rcases hr with h | h <;> rw [h] <;> decide
  unfold fenceMove
  dsimp only
  rw [hl, if_neg (fun h => hrole (.inr (.inl h))), if_neg hrole]
  rfl

/-- What a fenced IDLE or SPARE leaf shows (R35). -/
theorem fenceLeaf_still (hl : l < 192) (hf : (leafAt l s).fenced = false) (hfew : (faultsOf l s).length < 2)
    (hr : (disOf (.lane (Fin.ofNat 192 l)) s).running = false) (hlane : isLane l s = false)
    (hrole : (leafAt l s).role = roleIdle ∨ (leafAt l s).role = roleSpare) (hw : twf {} s.lvs.leaf = true) :
    let t := fenceLeaf l s
    (leafAt l t).fenced = true ∧ (leafAt l t).tags = [] ∧ (leafAt l t).waiting = none ∧ (leafAt l t).imem = (leafAt l s).imem ∧
      t.cnp.moved = s.cnp.moved := by
  have hleaf := leafAt_leafStopped (l := l) hw
  have hsweep := TreeKept.hollowSweep (π := fun x => (x.fenced, x.tags, x.waiting, x.imem)) (fun _ _ => rfl) (leafStopped l s)
  dsimp only
  rw [fenceLeaf_few hl hf hfew hr, fenceMove_still ((isLane_leafStopped hw).trans hlane) (by rw [hleaf]; exact hrole)]
  have hpart := hsweep.leaf (twf_leafStopped hw) l
  rw [hleaf] at hpart
  simp only [leafIdled, Prod.mk.injEq] at hpart
  obtain ⟨hfen, htags, hwait, himem⟩ := hpart
  exact ⟨hfen, htags, hwait, himem, congrArg (·.1) (laneMoves_of (hsweep.parts.trans (leafStopped_parts l s)))⟩

/-! ### A stuck lane moves to its spare (R302) -/

theorem laneStuck_iff : laneStuck l s = true ↔ (isLane l s = true ∧ leafAlive l s = true ∧ laneOn l s = true ∧ (laneAt l s).ring ≠ [] ∧
    (∀ o ∈ s.cnp.opens, o.mgmt ≠ 0 ∨ o.begun = true ∨ o.leaf ≠ l) ∧ (∀ h ∈ s.cnp.held, h.leaf ≠ l) ∧ (laneAt l s).since + 200 * psUs ≤ s.now) := by
  simp only [laneStuck, Bool.and_eq_true, List.all_eq_true, Bool.or_eq_true, bne_iff_ne, ne_eq, decide_eq_true_eq, and_assoc, or_assoc]

theorem laneOf_congr {s t : State} (h : treeParts t = treeParts s) (b : Nat) : laneOf b t = laneOf b s := by
  have hm : t.cnp.moved = s.cnp.moved := congrArg (·.1) (laneMoves_of h)
  rw [laneOf, laneOf, gcan, gcan, hm, treeParts_grn h]

/-- Buckets that one lane takes. -/
theorem bucketsTo_one (sp : Nat) : ∀ (bs : List Nat) (n : Nat) (t : Tab Nat), twf 0 t = true →
    ∀ b, tget 0 ((bs.zipIdx n).foldl (fun t e => tset 0 t e.1 ([sp].getD (e.2 % 1) 0 + 1)) t) b = if b ∈ bs then sp + 1 else tget 0 t b
  | [], _, _, _, _ => by simp
  | a :: bs, n, t, ht, b => by
    rw [List.zipIdx_cons, List.foldl_cons, bucketsTo_one sp bs _ _ (twf_tset _ _ _ _ ht), Nat.mod_one]
    by_cases h : b = a
    · subst h
      simp [tget_tset_same _ _ _ _ ht]
    · simp [tget_tset_other _ _ _ _ _ ht h, h]

theorem spareFree_leafStopped (hw : twf {} s.lvs.leaf = true) (h : sp ≠ l) : spareFree sp (leafStopped l s) = spareFree sp s := by
  have hn : (leafStopped l s).nrg = s.nrg := treeParts_nrg (leafStopped_parts l s)
  rw [spareFree, spareFree, leafAt_leafStopped_other hw h, boughAlive, boughAlive, boughNrg, boughNrg, hn]
  rfl

theorem laneSpareOf_congr {s t : State} (h : treeParts t = treeParts s) (l : Nat) : laneSpareOf l t = laneSpareOf l s := by
  rw [laneSpareOf, laneSpareOf, gcan, gcan, treeParts_grn h]

/-- A spare that takes a role leaves the rings and the buckets' lanes. -/
theorem moveSpared_kept (l : Nat) (s : State) :
    (moveSpared l s).cnp.lanes = s.cnp.lanes ∧ (moveSpared l s).cnp.moved = s.cnp.moved ∧ (moveSpared l s).grn = s.grn := by
  unfold moveSpared
  split
  · rw [modCnp_cnp, modCnp_grn, spareTake_cnp, spareTake_grn]
    exact ⟨rfl, rfl, rfl⟩
  · exact ⟨rfl, rfl, rfl⟩

theorem laneAt_leafStopped (hw : twf {} s.cnp.lanes = true) : (laneAt l (leafStopped l s)).ring = (laneAt l s).ring := by
  have h : (leafStopped l s).cnp.lanes = tmod {} s.cnp.lanes l (fun x => { x with cut := [] }) := rfl
  rw [laneAt, h, tget_tmod_same _ _ _ _ hw]
  rfl

/-- What the move of a lane to a free spare leaves: the report, and the spare in the lane's place (R302). -/
theorem moveDone_spared (hsp : laneSpareOf l s = sp) (hfree : spareFree sp s = true) (hm : twf 0 s.cnp.moved = true) :
    laneMoves (moveDone l s).cnp = ((moveDone l s).cnp.moved, l, sp, min (laneAt l s).ring.length 0xFFFF) ∧
      ∀ b, b < 1024 → laneOf b (moveDone l s) = if laneOf b s = l then sp else laneOf b s := by
  obtain ⟨hlanes, hmoved, hgrn⟩ := moveSpared_kept l s
  have hgrn' : (moveDone l s).grn = s.grn := by rw [moveDone, modCnp_grn, moveTabled, modCnp_grn, hgrn]
  have hring : laneAt l (moveSpared l s) = laneAt l s := by
    rw [laneAt, hlanes]
    rfl
  have hfree' : spareFree (laneSpareOf l s) s = true := by rw [hsp, hfree]
  refine ⟨?_, fun b hb => ?_⟩
  · rw [moveDone, moveReportOf, if_pos hfree', hsp, hring]
    rfl
  · have htab : (moveDone l s).cnp.moved = bucketsTo [sp] (laneBuckets l s) s.cnp.moved := by
      rw [← hmoved, ← hsp, ← show moveTargets l s = [laneSpareOf l s] from if_pos hfree']
      rfl
    have hget : tget 0 (moveDone l s).cnp.moved b = if b ∈ laneBuckets l s then sp + 1 else tget 0 s.cnp.moved b := by
      rw [htab]
      exact bucketsTo_one sp _ 0 _ hm b
    have hmem : b ∈ laneBuckets l s ↔ laneOf b s = l := by simp [laneBuckets, hb]
    rw [laneOf, hget]
    by_cases h : laneOf b s = l
    · rw [if_pos (hmem.mpr h), if_pos h]
      rfl
    · rw [if_neg (mt hmem.mp h), if_neg h, laneOf, gcan, gcan, hgrn']

/-- The move of a lane decides the tree's parts after its fence. -/
theorem TreeKept.fenceMove_lane (h : isLane l s = true) : TreeKept Leaf.fenced (moveDone l s) (fenceMove l s) := by
  have hmove : TreeKept Leaf.fenced (moveDone l s) (Machine.moveLane l s) := .moveLane (fun _ _ => rfl) l s
  unfold fenceMove
  dsimp only
  rw [if_pos h]
  refine TreeKept.trans ?_ (.hollowSweep (fun _ _ => rfl) _)
  split
  · exact .peel (escLeafFenced_view _ l) hmove
  · exact hmove

/-- A stuck lane whose spare is free. -/
theorem fenceLeaf_moves (hl : l < 192) (hf : (leafAt l s).fenced = false) (hfew : (faultsOf l s).length < 2)
    (hr : (disOf (.lane (Fin.ofNat 192 l)) s).running = false) (hlane : isLane l s = true) (hsp : laneSpareOf l s = sp)
    (hfree : spareFree sp s = true) (hne : sp ≠ l) (hw : twf {} s.lvs.leaf = true) (hwl : twf {} s.cnp.lanes = true) (hwm : twf 0 s.cnp.moved = true) :
    let t := fenceLeaf l s
    (leafAt l t).fenced = true ∧ t.cnp.moveOld = l ∧ t.cnp.moveNew = sp ∧ t.cnp.moveRetried = min (laneAt l s).ring.length 0xFFFF ∧
      ∀ b, b < 1024 → laneOf b t = if laneOf b s = l then sp else laneOf b s := by
  have hparts := leafStopped_parts l s
  have hmoved : (leafStopped l s).cnp.moved = s.cnp.moved := congrArg (·.1) (laneMoves_of hparts)
  obtain ⟨hrep, hlanes⟩ := moveDone_spared (s := leafStopped l s) ((laneSpareOf_congr hparts l).trans hsp)
    ((spareFree_leafStopped hw hne).trans hfree) (by rw [hmoved]; exact hwm)
  have hkept := TreeKept.fenceMove_lane ((isLane_leafStopped hw).trans hlane)
  dsimp only
  rw [fenceLeaf_few hl hf hfew hr]
  have hmv := (laneMoves_of hkept.parts).trans hrep
  rw [laneAt_leafStopped hwl] at hmv
  refine ⟨?_, congrArg (·.2.1) hmv, congrArg (·.2.2.1) hmv, congrArg (·.2.2.2) hmv, fun b hb => ?_⟩
  · refine ((FenceKept.fenceMove l _).leaf (twf_leafStopped hw)).2 l ?_
    rw [leafAt_leafStopped hw]
    rfl
  · rw [laneOf_congr hkept.parts, hlanes b hb, laneOf_congr hparts]

end fenceLeaf

/-- Settles O49: the images, the lost lines, the fences, the takeover and the hand-back, each by the lemmas about its rows. -/
theorem ringStoreAndTakeover : Obligations.RingStoreAndTakeover := by
  unfold Obligations.RingStoreAndTakeover
  refine ⟨fun s hl => ?images, fun i ch mac s hl => ?lines, fun n l s hl hw => ?fences, fun n b s hl hw hwb => ?bough,
    fun n s hl => ?takeover, fun m w s hl => ?handback⟩
  case images =>
    have hbegin : ∀ c t, (c = Instr.imageExport ∧ s.boot.pf1 = true) ∨ (c = .imagePeriodExpiry ∧ (gcan s).imagePeriod ≠ 0) →
        imgExport { s with out := [] } = t → exec c s = .next t := by
      rintro c t (⟨rfl, hpf⟩ | ⟨rfl, hp⟩) h
      · exact act_pf1_next hl hpf h
      · exact act_next (f := fun s => if (gcan s).imagePeriod = 0 then s else imgExport s) hl ((if_neg hp).trans h)
    refine ⟨fun hpf => ⟨act_noPf1 hl hpf, act_noPf1 hl hpf, act_noPf1 hl hpf⟩, fun hpf => act_pf1 hl hpf, act_live hl,
      fun hp => act_next (f := fun s => if (gcan s).imagePeriod = 0 then s else imgExport s) hl (if_pos hp),
      fun c hc => ⟨fun h => hbegin c _ hc (imgExport_busy (s := { s with out := [] }) h), fun hst hi =>
        ⟨fun h => hbegin c _ hc (imgExport_refuses (s := { s with out := [] }) hst hi h),
          fun ha hk => hbegin c _ hc (imgExport_begins (s := { s with out := [] }) hst hi ha hk)⟩⟩,
      fun h => act_next hl (imageExportDoneS_waits h), fun h => act_next hl (imageExportDoneS_none h),
      fun m hm hj h1 => act_next hl (imageExportDoneS_seals hm hj h1), fun h => act_pf1_same hl (imageRestoreS_other h),
      fun hst hpf => ⟨fun hg => act_pf1_next hl hpf (imageRestoreS_refuses hst hg),
        fun hg h1 => ⟨fun hk => act_pf1_next hl hpf (imageRestoreS_bad hst hg h1 rfl rfl (fun h => hk.elim h.1 (absurd h.2))),
          fun hk ht hw => ⟨_, act_pf1 hl hpf, imageRestoreS_good (s := { s with out := [] }) hst hg h1 hw rfl rfl ⟨hk, ht⟩⟩⟩⟩,
      fun h => act_next hl (ringStoreBuildDoneS_other h),
      fun hst hs hr hg hc hn ht => act_next hl (ringStoreBuildDoneS_waits hst hs hr hg hc hn ht),
      fun hst hs hr hg hw hc => ⟨_, act_next hl (ringStoreBuildDoneS_alone hst hs hr hg), rfl, rfl, fun j hj => ?_, fun j hj => ?_⟩⟩
    · exact (ctxAt_built hw hc).trans (if_neg (Nat.not_lt.mpr hj))
    · exact (ctxAt_built hw hc).trans (if_pos hj)
  case lines =>
    refine ⟨fun h => act_next hl (contextLineLostS_none h), fun hc hi => ⟨fun h => ?_, fun h hr => ?_, fun h hr => ?_⟩,
      fun h => act_next hl (contextRebuildDoneS_none h),
      fun hr hi hn hw => ⟨_, act_live hl, contextRebuildDoneS_kept (s := { s with out := [] }) hr hi hn hw⟩⟩
    all_goals refine act_next hl ((contextLineLostS_counts (s := { s with out := [] }) hc hi).trans ?_)
    · exact if_pos h
    · exact (if_neg (Bool.eq_false_iff.mp h)).trans (if_pos hr)
    · exact (if_neg (Bool.eq_false_iff.mp h)).trans (if_neg (Nat.not_lt.mpr hr))
  case fences =>
    have hlane : Fin.ofNat 192 l.val = l := Fin.ext (Nat.mod_eq_of_lt l.isLt)
    refine ⟨fun h => act_next hl (fenceLeaf_fenced (s := atInput n s) h), fun h => act_next hl (if_neg (Bool.eq_false_iff.mp h)),
      laneStuck_iff (s := atInput n s), fun hf hfew hnl hrole hr => ⟨_, act_live hl, ?_⟩,
      fun sp hs hf hfew hsp hfree hne hr hcw => ⟨_, act_next hl (if_pos hs), ?_⟩⟩
    · exact fenceLeaf_still (s := atInput n s) l.isLt hf hfew (by rw [hlane]; exact hr) hnl hrole hw
    · obtain ⟨-, -, hlanes, hmoved, -, -⟩ := hcw
      exact fenceLeaf_moves (s := atInput n s) l.isLt hf hfew (by rw [hlane]; exact hr) (laneStuck_iff.mp hs).1 hsp hfree hne hw hlanes hmoved
  case bough =>
    refine ⟨fun h => act_next hl (if_neg (Bool.eq_false_iff.mp h)), fun h => ⟨_, act_next hl (if_pos h), ?_⟩⟩
    have hp : (boughNrg b s).power ≠ .fenced := fun h' => by simp [boughAlive, h'] at h
    exact fenceBough_fences (s := atInput n s) b.isLt hp hw hwb
  case takeover =>
    refine ⟨fun h => act_next hl (buddyAckTimeoutS_early h),
      fun p hp h hu => act_next hl (buddyAckTimeoutS_due (s := { s with out := [] }) hp h hu),
      fun h => act_next hl (takeoverStartS_none h),
      fun m h hc hg hb hm ht => act_next hl (takeoverStartS_builds (s := { s with out := [] }) h hc hg hb hm ht),
      fun h => act_next hl (takeoverBuildDoneS_other h),
      fun h hw => ⟨_, act_live hl, takeoverBuildDoneS_kept (s := { s with out := [] }) h hw⟩,
      fun h => act_next hl (handbackDrainExpiryS_waits h),
      fun h hq => ⟨_, act_live hl, handbackDrainExpiryS_ends (s := { s with out := [] }) h hq⟩,
      fun h => act_next hl (handbackTransferDoneS_waits h), fun hr hx => ?_⟩
    · obtain ⟨hgrv, hcnp⟩ := handbackTransferDoneS_takes (n := n) (s := { s with out := [] }) hr hx
      refine ⟨_, act_live hl, ?_, ?_, hgrv, fun hw hxw j => ?_⟩
      · rw [hcnp]
      · rw [hcnp]
      · rw [ctxAt, hcnp]
        exact ctxs_transferred hxw hw
  case handback =>
    refine ⟨fun h => ?_, fun hpf => act_noPf1 hl hpf, fun hpf hm hw => ?_,
      fun hpf h => act_pf1_next hl hpf (handbackAtWriteS_refused h),
      fun k r hpf hb hc h0 hlt _ _ => ⟨_, act_pf1 hl hpf, ?_⟩⟩
    · exact h.elim (act_noPf1 hl) fun h => act_pf1_same hl (forceTakeoverS_other h)
    · refine ⟨_, act_pf1_next hl hpf (forceTakeoverS_withheld hm), ?_⟩
      obtain ⟨hcnp, hgrv⟩ := takeoverOrder_grv m (modGrv (fun g => { g with withheld := g.withheld.filter (· != m.val) }) { s with out := [] })
      refine ⟨?_, ?_, hcnp, ?_⟩
      · rw [hgrv]
        rfl
      · rw [hgrv]
        exact tget_tset_same _ _ _ _ hw
      · rw [hgrv]
        rfl
    · exact (handbackAtWriteS_armed (s := { s with out := [] }) hb hc h0 hlt).symm

end Sys2Proof
end

section
/-!
PROOFS. Scope: ring marks at a slot edge, the frames of the grove ring, and its time, heartbeats and losses (spec/02_slot_time.md and
spec/19_attestation_and_grove.md).
-/
namespace Sys2Proof
open Machine

/-! ### The events of a slot edge (R52, R53) -/

/-- A device at its first edge, with ledger periods of 10 slots, whose ring mark MARK_GO has armed for slot 100. -/
def markAhead : State := { slt := { slot := 1, oneShot := some 100 }, grn := { grain := { energy := { periodSlots := 10 } } } }

/-- The mark counts among the edge's events though its slot has not come, and with it the nine boundaries before that slot. -/
theorem edgeActs_markAhead : edgeActs 0 markAhead = [(99, .boundary 9), (100, .mark)] := by decide

/-- Refutes O24: `edgeActs` lists a one-shot mark at its armed slot at every edge, due or not, and `withBoundaries` counts the ledger
periods up to that slot. So an edge to slot 1 with a mark armed for slot 100 has nine boundaries of 10-slot periods, where the last clause
(R62) allows none. -/
theorem not_marksAndNow : ¬ Obligations.MarksAndNow := by
  unfold Obligations.MarksAndNow
  rintro ⟨-, -, -, hsum⟩
  have h := hsum 0 markAhead (by decide) (by decide)
  rw [edgeActs_markAhead] at h
  exact absurd h (by decide)

/-! ### A frame arrives on the grove ring (R493, R494, R497) -/

section ringArrival
variable {n typ : Nat} {e : Bool} {f : RingFrame} {k : State → State} {c : Instr} {s t : State}

/-- Every frame row is one reception with the row's TYPE. -/
theorem RingRow.exec_ringRx (h : RingRow c n e f typ) : ∃ k, ∀ s, exec c s = act (ringRx n e f typ k) s := by
  cases h <;> exact ⟨_, fun _ => rfl⟩

theorem ringHeard_eq (n : Nat) (e : Bool) (f : RingFrame) (s : State) : ringHeard e f (atInput n s) = heardOn n e f s := by
  have hnum : ∀ i : Bool, (!i && !e && f.src == 0) = true ↔ i = false ∧ e = false ∧ f.src = 0 := by
    simp [and_assoc]
  unfold ringHeard heardOn
  simp only [hnum]
  rfl

theorem ringForward_eq (e : Bool) (f : RingFrame) (s : State) : ringForward e f s = onward e f s := by
  unfold ringForward onward
  cases portPasses (!e) s <;> rfl

theorem ringGoesOn_iff : ringGoesOn f s = true ↔ groveSize s = 0 ∨ f.hops.toNat + 2 < groveSize s := by
  simp [ringGoesOn]

/-- A member of a grove has its number from the Grain, whatever the ring shows. -/
theorem memberNo_congr (hg : inGrove s = true) (h : ownMember t = ownMember s) : memberNo t = memberNo s := by
  obtain ⟨m, hm⟩ := Option.isSome_iff_exists.mp (Bool.and_eq_true_iff.mp hg).2
  rw [memberNo, memberNo, h, hm]
  rfl

theorem memberNo_heardOn (hg : inGrove s = true) : memberNo (heardOn n e f s) = memberNo s := memberNo_congr hg rfl

theorem ringRx_idle (h : portUp e s = false ∨ ringType f.body ≠ typ) : ringRx n e f typ k { s with out := [] } = atInput n s := by
  have hc : (!portUp e (atInput n s) || ringType f.body != typ) = true := by
    have hu : portUp e (atInput n s) = portUp e s := rfl
    simpa [hu] using h
  exact if_pos hc

/-- A frame of the row's TYPE on a port that is up: what follows the count. -/
theorem ringRx_heard (hu : portUp e s = true) : ringRx n e f (ringType f.body) k { s with out := [] } =
    let u := heardOn n e f s
    if (!portPasses e s || (f.src.toNat == memberNo u && (inGrove s || memberNo u != 0))) = true then u
    else if f.dst.toNat ≠ ringAll ∧ (f.dst.toNat ≠ memberNo u ∨ (!inGrove s ∧ memberNo u = 0)) then onward e f u
    else
      let v := if f.dst.toNat = ringAll ∧ ringGoesOn f u ∧ !ringDup f s then onward e f u else u
      if ringDup f s = true then v else k (ringTake f v) := by
  have hc : ¬ (!portUp e (atInput n s) || ringType f.body != ringType f.body) = true := by
    have hu' : portUp e (atInput n s) = true := hu
    simp [hu']
  rw [← ringHeard_eq]
  simp only [← ringForward_eq]
  exact if_neg hc

theorem ringRx_wrong (hu : portUp e s = true) (hp : portPasses e s = false) :
    ringRx n e f (ringType f.body) k { s with out := [] } = heardOn n e f s := by
  rw [ringRx_heard hu]
  exact if_pos (by simp [hp])

section member
variable (hg : inGrove s = true) (hu : portUp e s = true)
include hg hu

theorem ringRx_own (h : f.src.toNat = memberNo s) : ringRx n e f (ringType f.body) k { s with out := [] } = heardOn n e f s := by
  rw [ringRx_heard hu]
  exact if_pos (by simp [memberNo_heardOn hg, h, hg])

variable (hp : portPasses e s = true) (h : f.src.toNat ≠ memberNo s)
include hp h

/-- The frame is another member's, on a port that passes it. -/
theorem ringRx_others : ringRx n e f (ringType f.body) k { s with out := [] } =
    let u := heardOn n e f s
    if f.dst.toNat ≠ ringAll ∧ f.dst.toNat ≠ memberNo s then onward e f u
    else
      let v := if f.dst.toNat = ringAll ∧ ringGoesOn f u ∧ !ringDup f s then onward e f u else u
      if ringDup f s = true then v else k (ringTake f v) := by
  rw [ringRx_heard hu]
  refine (if_neg (by simp [memberNo_heardOn hg, hp, h])).trans ?_
  simp only [memberNo_heardOn hg, hg, Bool.not_true, Bool.false_eq_true, false_and, or_false]

theorem ringRx_onward (hd : f.dst.toNat ≠ memberNo s) (ha : f.dst.toNat ≠ 0xFF) :
    ringRx n e f (ringType f.body) k { s with out := [] } = onward e f (heardOn n e f s) :=
  (ringRx_others hg hu hp h).trans (if_pos ⟨ha, hd⟩)

variable (hd : f.dst.toNat = memberNo s ∨ f.dst.toNat = 0xFF)
include hd

theorem ringRx_dup (hdup : ringDup f s = true) : ringRx n e f (ringType f.body) k { s with out := [] } = heardOn n e f s := by
  refine (ringRx_others hg hu hp h).trans ((if_neg (fun hc => hd.elim hc.2 hc.1)).trans ?_)
  simp [hdup]

theorem ringRx_taken (hdup : ringDup f s = false) : ringRx n e f (ringType f.body) k { s with out := [] } = k (ringIn n e f s) := by
  have hon : (f.dst.toNat = ringAll ∧ ringGoesOn f (heardOn n e f s) = true ∧ (!false) = true) ↔
      f.dst.toNat = 0xFF ∧ (groveSize s = 0 ∨ f.hops.toNat + 2 < groveSize s) := by
    rw [ringGoesOn_iff]
    exact and_congr_right fun _ => and_iff_left rfl
  refine (ringRx_others hg hu hp h).trans ((if_neg (fun hc => hd.elim hc.2 hc.1)).trans ?_)
  simp only [hon, hdup, Bool.false_eq_true, if_false]
  rfl

end member

theorem RingRow.type_unique {typ' : Nat} (h : RingRow c n e f typ) (h' : RingRow c n e f typ') : typ = typ' := by
  cases h <;> cases h' <;> rfl

/-- A frame that is taken acts by its row. -/
theorem RingTaken.exec (h : RingTaken c n e f s) (hr : RingRow c n e f typ) (hc : ∀ s, exec c s = act (ringRx n e f typ k) s) :
    exec c s = .next (k (ringIn n e f s)) := by
  obtain ⟨⟨hrow, hl, hg, hu, hp⟩, hsrc, hdst, hdup⟩ := h
  obtain rfl := hr.type_unique hrow
  rw [hc]
  exact act_next hl (ringRx_taken hg hu hp hsrc hdst hdup)

/-! What a frame that arrives leaves alone. -/

theorem onward_same (e : Bool) (f : RingFrame) (s : State) :
    onward e f s = { s with out := (onward e f s).out, tel := (onward e f s).tel } := by
  unfold onward
  split <;> rfl

theorem ringIn_same (n : Nat) (e : Bool) (f : RingFrame) (s : State) :
    ringIn n e f s = { s with
      now := max s.now n, out := (ringIn n e f s).out, tel := (ringIn n e f s).tel
      grv := { (heardOn n e f s).grv with seqIn := (ringIn n e f s).grv.seqIn } } := by
  unfold ringIn
  dsimp only
  split
  · rw [onward_same]
    rfl
  · rfl

theorem memberNo_ringIn (hg : inGrove s = true) : memberNo (ringIn n e f s) = memberNo s := by
  refine memberNo_congr hg ?_
  rw [ringIn_same]
  rfl

end ringArrival

/-! ### What the ring's frames say of a port's neighbour (R494, R497) -/

/-- The neighbours that are not the expected members, the time of the last frame and the isolation. -/
def ringLinks (s : State) : Bool × Bool × Nat × Bool := (s.grv.misE, s.grv.misW, s.grv.heard, s.grv.isolated)

section links
variable (s : State)

theorem RingSent.links {s t : State} (h : RingSent s t) : ringLinks t = ringLinks s := by
  rw [ringLinks, ringLinks, h.grv]

@[simp] theorem emit_links (c : EvClass) (code src : W16) (d : Bytes) : ringLinks (emit c code src d s) = ringLinks s := by
  rw [ringLinks, emit_grv, ringLinks]

theorem ringForward_links (e : Bool) (f : RingFrame) : ringLinks (ringForward e f s) = ringLinks s := (RingSent.refl s).whenOut.links

theorem RingSent.foldS {α : Type} {f : α → State → State} (h : ∀ a s, RingSent s (f a s)) :
    ∀ (l : List α) (s : State), RingSent s (foldS f l s)
  | [], s => .refl s
  | a :: l, s => (h a s).trans (RingSent.foldS h l _)

theorem RingSent.offerSend (o : Offer) : RingSent s (offerSend o s) := .foldS (fun _ _ => .ringBoth _ _ _) _ _

theorem offerStart_links (i : Nat) (takers : List Nat) : ringLinks (offerStart i takers s) = ringLinks s := by
  unfold offerStart
  split
  · rfl
  · exact (RingSent.offerSend _ _).links.trans (RingSent.ringBoth _ _ s).links

theorem memberBack_links (m : Nat) : ringLinks (memberBack m s) = ringLinks s := by
  unfold memberBack
  dsimp only
  split
  · exact (RingSent.ringBoth _ _ _).links.trans (emit_links _ _ _ _ _)
  · exact (RingSent.ringTo _ _ _).links.trans ((RingSent.ringBoth _ _ _).links.trans (emit_links _ _ _ _ _))

/-- A member's HELLO is noted, and a lost one that is watched is back (R503). -/
def helloNoted (m q : Nat) (s : State) : State :=
  let u := modGrv (fun g => { g with helloSeq := tset 0 g.helloSeq m q }) s
  if watches m u && u.grv.lost.contains m && decide (grnInstalledSeq u ≤ q) then memberBack m u else u

/-- The crown offers it the Grain that follows its own (R495). -/
def helloOffered (m q : Nat) (s : State) : State :=
  if isCrown s && m != 0 then
    match offerFor q s with
    | some i => offerStart i [m] s
    | none => s
  else s

theorem helloNoted_links (m q : Nat) : ringLinks (helloNoted m q s) = ringLinks s := by
  unfold helloNoted
  dsimp only
  split
  · exact memberBack_links _ m
  · rfl

theorem helloOffered_links (m q : Nat) : ringLinks (helloOffered m q s) = ringLinks s := by
  unfold helloOffered
  split
  · split
    · exact offerStart_links s _ _
    · rfl
  · rfl

/-- What a HELLO tells about a member leaves the ports alone. -/
theorem helloMember_links (id : Bytes) (q : Nat) : ringLinks (helloMember id q s) = ringLinks s := by
  unfold helloMember
  split
  · rfl
  · next m _ => exact (helloOffered_links (helloNoted m q s) m q).trans (helloNoted_links s m q)

end links

/-! HELLO (R494, R495). -/

section hello
variable {n : Nat} {e : Bool} {f : RingFrame} {id : Bytes} {q : BitVec 64} {s : State}

/-- The port's neighbour counts as wrong, or not. -/
def markPort (e b : Bool) (g : Grv) : Grv := if e = true then { g with misE := b } else { g with misW := b }

theorem portPasses_markPort (e b : Bool) (s : State) : portPasses e (modGrv (markPort e b) s) = (portUp e s && !b) := by cases e <;> rfl

theorem portPasses_emit (c : EvClass) (code src : W16) (d : Bytes) (e : Bool) (s : State) :
    portPasses e (emit c code src d s) = portPasses e s := by
  rw [portPasses, emit_grv, portPasses]

theorem helloNeighbour_wrong (hg : inGrove s = true) (hid : padTo 16 id ≠ padTo 16 (memberRange (expected e s) s).fuseId) :
    helloNeighbour e id s = if (if e = true then s.grv.misE else s.grv.misW) = true then modGrv (markPort e true) s
      else emit .fault 0x1030 srcGrove [] (modGrv (markPort e true) s) := by
  have hbad : (padTo 16 id != padTo 16 (memberRange (expected e s) s).fuseId) = true := by simpa using hid
  unfold helloNeighbour
  dsimp only
  rw [if_neg (by simp [hg]), hbad]
  cases (if e = true then s.grv.misE else s.grv.misW) <;> rfl

theorem helloNeighbour_right (hg : inGrove s = true) (hid : padTo 16 id = padTo 16 (memberRange (expected e s) s).fuseId) :
    helloNeighbour e id s = modGrv (markPort e false) s := by
  have hbad : (padTo 16 id != padTo 16 (memberRange (expected e s) s).fuseId) = false := by simpa using hid
  unfold helloNeighbour
  dsimp only
  rw [if_neg (by simp [hg]), hbad]
  rfl

/-- A HELLO on a port that passes frames: a restarted sender's sequences start anew, the frame goes on, and what it tells is taken. -/
def helloPassed (e : Bool) (f : RingFrame) (id : Bytes) (q : Nat) (s : State) : State :=
  let u := if f.seq = 0 then modGrv (fun g => { g with seqIn := tfilter (fun k => k / 65536 != f.src.toNat) g.seqIn }) s else s
  helloMember id q (if ringGoesOn f u then ringForward e f u else u)

theorem helloPassed_links : ringLinks (helloPassed e f id q.toNat s) = ringLinks s := by
  unfold helloPassed
  dsimp only
  rw [helloMember_links, apply_ite ringLinks, ringForward_links, ite_self]
  split <;> rfl

theorem expected_heardOn (hg : inGrove s = true) : expected e (heardOn n e f s) = expected e s := by
  unfold expected
  rw [memberNo_heardOn hg]
  rfl

variable (hb : f.body = .hello id q)
include hb

theorem ringHelloS_idle (h : portUp e s = false ∨ padTo 16 id = padTo 16 s.fuses.fuseId) :
    ringHelloS n e f { s with out := [] } = atInput n s := by
  unfold ringHelloS
  rw [hb]
  refine if_pos ?_
  have hu : portUp e (atTime n { s with out := [] }) = portUp e s := rfl
  simpa [hu] using h

variable (hu : portUp e s = true) (hid : padTo 16 id ≠ padTo 16 s.fuses.fuseId)
include hu hid

/-- Another's HELLO is heard, its sender compared if it is the neighbour, and it goes no further on a port with a wrong neighbour. -/
theorem ringHelloS_heard : ringHelloS n e f { s with out := [] } =
    let u := if f.hops = 0 then helloNeighbour e id (heardOn n e f s) else heardOn n e f s
    if (!portPasses e u) = true then u else helloPassed e f id q.toNat u := by
  unfold ringHelloS
  rw [hb, ← ringHeard_eq]
  refine if_neg ?_
  have hu' : portUp e (atTime n { s with out := [] }) = true := hu
  simpa [hu'] using hid

theorem ringHelloS_far (hh : f.hops ≠ 0) (hp : portPasses e s = false) : ringHelloS n e f { s with out := [] } = heardOn n e f s := by
  have hp' : portPasses e (heardOn n e f s) = false := hp
  rw [ringHelloS_heard hb hu hid, if_neg hh]
  exact if_pos (by rw [hp']; rfl)

variable (hg : inGrove s = true) (hh : f.hops = 0)
include hg hh

theorem ringHelloS_wrong (hr : padTo 16 id ≠ padTo 16 (memberRange (expected e s) s).fuseId) :
    ringHelloS n e f { s with out := [] } =
      let u := modGrv (markPort e true) (heardOn n e f s)
      if (if e = true then s.grv.misE else s.grv.misW) = true then u else emit .fault 0x1030 srcGrove [] u := by
  have hn : helloNeighbour e id (heardOn n e f s) = _ := helloNeighbour_wrong hg (by rw [expected_heardOn hg]; exact hr)
  have hp : portPasses e (helloNeighbour e id (heardOn n e f s)) = false := by
    have hmark : portPasses e (modGrv (markPort e true) (heardOn n e f s)) = false := by
      rw [portPasses_markPort, Bool.not_true, Bool.and_false]
    rw [hn, apply_ite (portPasses e), portPasses_emit, ite_self, hmark]
  rw [ringHelloS_heard hb hu hid, if_pos hh]
  dsimp only
  rw [hp, hn]
  rfl

theorem ringHelloS_right (hr : padTo 16 id = padTo 16 (memberRange (expected e s) s).fuseId) :
    ringLinks (ringHelloS n e f { s with out := [] }) = ringLinks (modGrv (markPort e false) (heardOn n e f s)) := by
  have hn : helloNeighbour e id (heardOn n e f s) = _ := helloNeighbour_right hg (by rw [expected_heardOn hg]; exact hr)
  rw [ringHelloS_heard hb hu hid, if_pos hh, hn]
  dsimp only
  split
  · rfl
  · exact helloPassed_links

end hello

/-! ### Frames that leave (R493) -/

section sends
variable (dst : Nat) (b : RingBody) (s : State)

/-- One new frame on one port. -/
theorem sends_ringOut (e : Bool) : Sends dst b [e] s (ringOut e (ringNew dst b s).1 (ringNew dst b s).2) := ⟨rfl, rfl⟩

/-- One new frame on the east port and on the west port, where each may send. -/
theorem sends_whenOut (east west : Bool) :
    Sends dst b ((if east = true then [true] else []) ++ (if west = true then [false] else [])) s
      (whenB west (ringOut false (ringNew dst b s).1) (whenB east (ringOut true (ringNew dst b s).1) (ringNew dst b s).2)) := by
  refine ⟨?_, by cases east <;> cases west <;> rfl⟩
  cases east <;> cases west
  · exact (List.append_nil _).symm
  · rfl
  · rfl
  · exact List.append_assoc _ [_] [_]

theorem sends_ringBoth : Sends dst b (passing s) s (ringBoth dst b s) := sends_whenOut dst b s _ _

/-- One frame to a member leaves by the shorter way, else by the other, else not at all. -/
theorem sendsTo_ringTo : SendsTo dst b s (ringTo dst b s) := by
  have hway : wayTo dst s = if portPasses (ringWay dst s) s = true then [ringWay dst s]
    else if portPasses (!ringWay dst s) s = true then [!ringWay dst s] else [] := rfl
  unfold SendsTo ringTo ringSend
  rw [hway]
  cases hw : portPasses (ringWay dst s) s with
  | true => simpa [hw] using sends_ringOut dst b s (ringWay dst s)
  | false =>
    cases hv : portPasses (!ringWay dst s) s with
    | true => simpa [hw, hv] using sends_ringOut dst b s (!ringWay dst s)
    | false => simp [hw, hv]

variable {dst b s} in
theorem SendsTo.sends {t : State} (h : SendsTo dst b s t) (hw : wayTo dst s ≠ []) : Sends dst b (wayTo dst s) s t := by
  unfold SendsTo at h
  rwa [if_neg hw] at h

end sends

/-! ### Timers and ports of the ring (R56, R493, R497) -/

section ports
variable {n : Nat} {e : Bool} {s : State}

theorem helloTimerS_off (h : s.boot.romRunning = false) : helloTimerS n { s with out := [] } = atInput n s :=
  if_pos (by rw [atTime_boot, h]; rfl)

theorem helloTimerS_sends (h : s.boot.romRunning = true) :
    Sends 0xFF (.hello s.fuses.fuseId (BitVec.ofNat 64 (grnInstalledSeq s)))
      ((if s.grv.east = true then [true] else []) ++ (if s.grv.west = true then [false] else [])) (atInput n s)
      (helloTimerS n { s with out := [] }) := by
  have hs : helloTimerS n { s with out := [] } = _ := if_neg (by rw [atTime_boot, h]; decide)
  rw [hs]
  exact sends_whenOut _ _ _ s.grv.east s.grv.west

theorem isolationTimeoutS_eq : isolationTimeoutS n { s with out := [] } =
    if inGrove s = true ∧ s.grv.isolated = false ∧ s.grv.heard + 25 * psMs ≤ max s.now n then
      emit .fault 0x1033 srcGrove [] (withGrv { s.grv with isolated := true } (atInput n s))
    else atInput n s := by
  refine if_congr ?_ rfl rfl
  simp only [Bool.and_eq_true, Bool.not_eq_true', decide_eq_true_eq, and_assoc]
  rfl

theorem isolationTimeoutS_early (h : inGrove s = false ∨ s.grv.isolated = true ∨ max s.now n < s.grv.heard + 25 * psMs) :
    isolationTimeoutS n { s with out := [] } = atInput n s := by
  refine isolationTimeoutS_eq.trans (if_neg fun ⟨hg, hi, hn⟩ => ?_)
  rcases h with h | h | h
  · simp [hg] at h
  · simp [hi] at h
  · exact absurd hn h.not_ge

theorem ringFrameBadS_eq (b : Bytes) : ringFrameBadS n e b { s with out := [] } =
    if portUp e s = true ∧ ringGood b = false then bump (cGrove 2) (atInput n s) else atInput n s := by
  refine if_congr ?_ rfl rfl
  rw [Bool.and_eq_true, Bool.not_eq_true']
  rfl

/-- The port's link is down, with what was known of its neighbour. -/
def portLost (e : Bool) (g : Grv) : Grv :=
  if e = true then { g with east := false, misE := false, reqE := none } else { g with west := false, misW := false, reqW := none }

theorem grovePortDownS_eq : grovePortDownS n e { s with out := [] } =
    if onRing s = true ∧ (portLost e s.grv).east = false ∧ (portLost e s.grv).west = false ∧ s.slt.ringSt = .locked then
      enterOwn .holdover (withGrv (portLost e s.grv) (atInput n s))
    else withGrv (portLost e s.grv) (atInput n s) := by
  refine if_congr ?_ rfl rfl
  simp only [Bool.and_eq_true, Bool.not_eq_true', beq_iff_eq, and_assoc]
  refine and_congr_right fun hr => ?_
  have hown : ownTime (withGrv (portLost e s.grv) (atInput n s)) = s.slt.ringSt := if_pos hr
  rw [← hown]
  rfl

theorem grovePortUpS_eq : grovePortUpS n e { s with out := [] } =
    withGrv (if e = true then { s.grv with east := true } else { s.grv with west := true }) (atInput n s) := rfl

end ports

/-- Settles O54: every frame command is `ringRx` with its TYPE, so the first clauses are the branches of that one reception; HELLO, the
timers and the ports have equations of their own. -/
theorem ringFrames : Obligations.RingFrames := by
  unfold Obligations.RingFrames
  refine ⟨fun c n e f typ s hc hl h => ?idle, fun c n e f s hc hl hu hp => ?wrong, fun c n e f s h => ?arrives,
    fun n e f id q s hl hb => ?hello, fun n s hl => ?timers, fun n e b s hl => act_next hl (ringFrameBadS_eq b), fun n e s hl => ?ports⟩
  case idle =>
    obtain ⟨k, hk⟩ := hc.exec_ringRx
    rw [hk]
    exact act_next hl (ringRx_idle h)
  case wrong =>
    obtain ⟨k, hk⟩ := hc.exec_ringRx
    rw [hk]
    exact act_next hl (ringRx_wrong hu hp)
  case arrives =>
    obtain ⟨hc, hl, hg, hu, hp⟩ := h
    obtain ⟨k, hk⟩ := hc.exec_ringRx
    rw [hk]
    exact ⟨fun hme => act_next hl (ringRx_own hg hu hme), fun hme hd ha => act_next hl (ringRx_onward hg hu hp hme hd ha),
      fun hme hd hdup => act_next hl (ringRx_dup hg hu hp hme hd hdup)⟩
  case hello =>
    refine ⟨fun h => act_next hl (ringHelloS_idle hb h), fun hu hid hg hh hr => act_next hl (ringHelloS_wrong hb hu hid hg hh hr),
      fun hu hid hh hp => act_next hl (ringHelloS_far hb hu hid hh hp), fun hu hid hg hh hr => ⟨_, act_live hl, ?_⟩⟩
    have hlinks := ringHelloS_right (n := n) hb hu hid hg hh hr
    cases e with
    | true => exact ⟨congrArg (·.1) hlinks, congrArg (·.2.2.1) hlinks, congrArg (·.2.2.2) hlinks⟩
    | false => exact ⟨congrArg (·.2.1) hlinks, congrArg (·.2.2.1) hlinks, congrArg (·.2.2.2) hlinks⟩
  case timers =>
    exact ⟨fun h => act_next hl (helloTimerS_off h), fun h => ⟨_, act_live hl, helloTimerS_sends h⟩,
      fun h => act_next hl (isolationTimeoutS_early h),
      fun hg hi hn => act_next hl (isolationTimeoutS_eq.trans (if_pos ⟨hg, hi, hn⟩))⟩
  case ports => exact ⟨act_next hl grovePortUpS_eq, act_next hl grovePortDownS_eq⟩

/-! ### SYNC (R50, R51, R55, R56, R496) -/

section sync
variable {s : State}

/-- A change of the time state leaves the timebase's phase alone. -/
theorem enterTime_slt (st : TimeState) (s : State) : ∃ bad left due,
    (enterTime st s).slt = { s.slt with st := st, bad := bad, holdLeft := left, anchorDue := due } := by
  unfold enterTime
  split
  · next h => exact ⟨s.slt.bad, s.slt.holdLeft, s.slt.anchorDue, by rw [← h]⟩
  · exact ⟨_, _, _, emit_slt _ _ _ _ _⟩

theorem enterTime_grv (st : TimeState) (s : State) : (enterTime st s).grv = s.grv := by
  unfold enterTime
  split
  · rfl
  · exact emit_grv _ _ _ _ _

theorem enterTime_now (st : TimeState) (s : State) : (enterTime st s).now = s.now := by
  unfold enterTime
  split
  · rfl
  · exact emit_now _ _ _ _ _

theorem taiPs_enterTime (st : TimeState) (s : State) : taiPs (enterTime st s) = taiPs s := by
  obtain ⟨_, _, _, h⟩ := enterTime_slt st s
  rw [taiPs, slewedPs, h, enterTime_now]
  rfl

/-- What a measured offset `d` leaves of the timebase, its running slot lengthened by `l` before: the offset is shown, corrected by R51, and
taken into the rate estimate. -/
structure OffsetTaken (d : Int) (l : Nat) (x : Slt) : Prop where
  offset : x.offset = satOffset d
  rate : x.rate.isSome = true
  slew : d.natAbs ≤ 10000 → x.slewNs = -d
  step : 10000 < d.natAbs → d < 0 → x.stepNs = d.natAbs
  lengthen : 10000 < d.natAbs → 0 < d → x.lengthenNs = l + d.toNat

theorem measured_takes (d : Int) (s : State) : OffsetTaken d s.slt.lengthenNs (measured d s).slt := by
  unfold measured correct
  dsimp only
  split
  · next h => exact ⟨rfl, rfl, fun _ => rfl, fun h' => absurd h h'.not_ge, fun h' => absurd h h'.not_ge⟩
  · next h =>
    split
    · next hd => exact ⟨rfl, rfl, fun h' => absurd h' h, fun _ h' => absurd hd h'.not_gt, fun _ _ => rfl⟩
    · next hd => exact ⟨rfl, rfl, fun h' => absurd h' h, fun _ _ => rfl, fun _ h' => absurd h' hd⟩

theorem measured_kept (d : Int) (s : State) : (measured d s).grv = s.grv ∧ (measured d s).slt.crownState = s.slt.crownState ∧
    (measured d s).slt.st = s.slt.st ∧ (measured d s).slt.slot = s.slt.slot := by
  unfold measured correct
  dsimp only
  split
  · exact ⟨rfl, rfl, rfl, rfl⟩
  · split <;> exact ⟨rfl, rfl, rfl, rfl⟩

/-- What a SYNC that names `tai` at `now` leaves on a member whose timebase was `z`, at TAI `own` (R50, R55, R56). -/
structure SyncUsed (tai now own : Nat) (c : TimeState) (anch : Bool) (z x : Slt) : Prop where
  crown : x.crownState = c
  st : x.st = z.ringSt.worse c
  slot : x.slot = z.slot
  unanchored : anch = false → x.offset = z.offset ∧ x.tai = z.tai
  first : anch = true → z.timed = false → x.timed = true ∧ x.tai = tai ∧ x.taiAt = now
  later : anch = true → z.timed = true → OffsetTaken (((own : Int) - tai) / 1000) z.lengthenNs x

/-- The member under the crown's time state `c`: its own is the worse of that and its reception's (R56). -/
def underCrown (c : TimeState) (s : State) : State :=
  enterTime (s.slt.ringSt.worse c) { s with slt := { s.slt with crownState := c } }

theorem underCrown_slt (c : TimeState) (s : State) : ∃ bad left due, (underCrown c s).slt =
    { s.slt with crownState := c, st := s.slt.ringSt.worse c, bad := bad, holdLeft := left, anchorDue := due } := enterTime_slt _ _

theorem underCrown_grv (c : TimeState) (s : State) : (underCrown c s).grv = s.grv := enterTime_grv _ _

theorem underCrown_now (c : TimeState) (s : State) : (underCrown c s).now = s.now := enterTime_now _ _

theorem taiPs_underCrown (c : TimeState) (s : State) : taiPs (underCrown c s) = taiPs s := taiPs_enterTime _ _

theorem syncUse_eq (h : onRing s = true) (sec ns corr st : Nat) (anch : Bool) : syncUse sec ns corr st anch s =
    let x := underCrown (timeStateOf st) s
    if anch = false then x
    else if s.slt.timed = false then acceptTime (sec * psS + ns * 1000 + corr) s.now x
    else measured (((taiPs s : Int) - ↑(sec * psS + ns * 1000 + corr)) / 1000) x := by
  have htimed : (underCrown (timeStateOf st) s).slt.timed = s.slt.timed := by
    obtain ⟨_, _, _, h⟩ := underCrown_slt (timeStateOf st) s
    rw [h]
  rw [← underCrown_now (timeStateOf st) s, ← taiPs_underCrown (timeStateOf st) s, ← htimed]
  exact (if_neg (by simp [h])).trans (if_congr (by simp) rfl (if_congr (Bool.not_eq_true' _).to_iff rfl rfl))

theorem acceptTime_first (tai at_ : Nat) (h : s.slt.timed = false) : acceptTime tai at_ s =
    { s with slt := { s.slt with timed := true, tai := tai, taiAt := at_, slewNs := 0 } } := if_neg (by simp [h])

theorem syncUse_used (h : onRing s = true) (sec ns corr st : Nat) (anch : Bool) :
    (syncUse sec ns corr st anch s).grv = s.grv ∧ SyncUsed (sec * psS + ns * 1000 + corr) s.now (taiPs s) (timeStateOf st) anch s.slt
      (syncUse sec ns corr st anch s).slt := by
  obtain ⟨bad, left, due, hslt⟩ := underCrown_slt (timeStateOf st) s
  have hgrv := underCrown_grv (timeStateOf st) s
  rw [syncUse_eq h]
  generalize sec * psS + ns * 1000 + corr = tai
  cases anch with
  | false =>
    simp only [if_true]
    rw [hslt]
    exact ⟨hgrv, rfl, rfl, rfl, fun _ => ⟨rfl, rfl⟩, nofun, nofun⟩
  | true =>
    simp only [Bool.true_eq_false, if_false]
    cases ht : s.slt.timed with
    | false =>
      rw [if_pos rfl, acceptTime_first _ _ (by rw [hslt]; exact ht), hslt]
      exact ⟨hgrv, rfl, rfl, rfl, nofun, fun _ _ => ⟨rfl, rfl, rfl⟩, fun _ h' => absurd (ht.symm.trans h') (by decide)⟩
    | true =>
      simp only [Bool.true_eq_false, if_false]
      have htaken := measured_takes (((taiPs s : Int) - tai) / 1000) (underCrown (timeStateOf st) s)
      obtain ⟨hg, hcrown, hst, hslot⟩ := measured_kept (((taiPs s : Int) - tai) / 1000) (underCrown (timeStateOf st) s)
      rw [hslt] at hcrown hst hslot htaken
      exact ⟨hg.trans hgrv, hcrown, hst, hslot, nofun, fun _ h' => absurd (ht.symm.trans h') (by decide), fun _ _ => htaken⟩

/-- The place of a SYNC's SEQ after the last one used; 1 where none has been. -/
def syncAhead (f : RingFrame) (s : State) : Nat :=
  match s.grv.syncSeq with
  | none => 1
  | some l => (f.seq.toNat + 65536 - l) % 65536

/-- CORR with the delay of the hop on which the frame arrived (R496). -/
def hopCorr (e : Bool) (corr : BitVec 64) (s : State) : BitVec 64 := corr + BitVec.ofNat 64 (if e = true then s.grv.hopE else s.grv.hopW)

/-- A SYNC heard and, where it goes on round the ring, sent on with the body `b`. -/
def syncPassed (n : Nat) (e : Bool) (f : RingFrame) (b : RingBody) (s : State) : State :=
  if groveSize s = 0 ∨ f.hops.toNat + 2 < groveSize s then onward e { f with body := b } (heardOn n e f s) else heardOn n e f s

theorem syncPassed_same (n : Nat) (e : Bool) (f : RingFrame) (b : RingBody) (s : State) : syncPassed n e f b s = { heardOn n e f s with
    out := (syncPassed n e f b s).out, tel := (syncPassed n e f b s).tel } := by
  unfold syncPassed
  split
  · exact onward_same _ _ _
  · rfl

theorem isCrown_heardOn (n : Nat) (e : Bool) (f : RingFrame) (s : State) : isCrown (heardOn n e f s) = isCrown s := by
  have hg : inGrove (heardOn n e f s) = inGrove s := rfl
  unfold isCrown
  rw [hg]
  cases h : inGrove s with
  | false => rfl
  | true => rw [memberNo_heardOn h]

/-- A member on the ring is not the crown. -/
theorem isCrown_onRing (h : onRing s = true) : isCrown s = false := by
  unfold onRing at h
  split at h
  · next m hm => simp [isCrown, memberNo, hm]
  · cases h

section receives
variable {n res : Nat} {e : Bool} {f : RingFrame} {sec : BitVec 48} {ns : BitVec 32} {corr : BitVec 64} {st : Fin 3} {anch : Bool}
variable (hb : f.body = .sync sec ns corr st anch) (hu : portUp e s = true)
include hb hu

theorem ringSyncS_heard : ringSyncS n e f res { s with out := [] } =
    if (!portPasses e s || isCrown s) = true then heardOn n e f s
    else
      let c := hopCorr e corr s
      let v := syncPassed n e f (.sync sec ns (c + BitVec.ofNat 64 res) st anch) s
      if 32768 ≤ syncAhead f s ∨ (syncAhead f s = 0 ∧ s.grv.syncHops ≤ f.hops.toNat) then v
      else syncUse sec.toNat ns.toNat c.toNat st.val anch
        (modGrv (fun g => { g with syncSeq := some f.seq.toNat, syncHops := f.hops.toNat }) v) := by
  have hin : atTime n { s with out := [] } = atInput n s := rfl
  have hup : ¬ (!portUp e (atInput n s)) = true := by rw [Bool.not_eq_true', Bool.not_eq_false]; exact hu
  have hv : ∀ b, (if ringGoesOn f (heardOn n e f s) = true then ringForward e { f with body := b } (heardOn n e f s) else heardOn n e f s) =
      syncPassed n e f b s := fun b => if_congr ringGoesOn_iff (ringForward_eq _ _ _) rfl
  have hgrv : ∀ b, (syncPassed n e f b s).grv = (heardOn n e f s).grv := fun b => by rw [syncPassed_same]
  unfold ringSyncS
  rw [hb, hin]
  dsimp only
  rw [if_neg hup, ringHeard_eq, isCrown_heardOn, hv, hgrv]
  have hseq : (heardOn n e f s).grv.syncSeq = s.grv.syncSeq := rfl
  rw [hseq]
  unfold syncAhead
  cases s.grv.syncSeq <;> rfl

theorem ringSyncS_stops (h : portPasses e s = false ∨ isCrown s = true) : ringSyncS n e f res { s with out := [] } = heardOn n e f s :=
  (ringSyncS_heard hb hu).trans (if_pos (by simpa using h))

variable (hp : portPasses e s = true)
include hp

/-- A SYNC that came by no shorter way is sent on and not used (R496). -/
theorem ringSyncS_repeated (hc : isCrown s = false) (hd : 32768 ≤ syncAhead f s ∨ (syncAhead f s = 0 ∧ s.grv.syncHops ≤ f.hops.toNat)) :
    ringSyncS n e f res { s with out := [] } =
      syncPassed n e f (.sync sec ns (hopCorr e corr s + BitVec.ofNat 64 res) st anch) s :=
  (ringSyncS_heard hb hu).trans ((if_neg (by simp [hp, hc])).trans (if_pos hd))

theorem ringSyncS_used (hr : onRing s = true) (hd : syncAhead f s < 32768) (h0 : syncAhead f s = 0 → f.hops.toNat < s.grv.syncHops) :
    let v := syncPassed n e f (.sync sec ns (hopCorr e corr s + BitVec.ofNat 64 res) st anch) s
    let t := ringSyncS n e f res { s with out := [] }
    t.grv = { v.grv with syncSeq := some f.seq.toNat, syncHops := f.hops.toNat } ∧
      SyncUsed (sec.toNat * psS + ns.toNat * 1000 + (hopCorr e corr s).toNat) (max s.now n) (taiPs (heardOn n e f s)) (timeStateOf st.val) anch
        s.slt t.slt := by
  have hnew : ¬ (32768 ≤ syncAhead f s ∨ (syncAhead f s = 0 ∧ s.grv.syncHops ≤ f.hops.toNat)) := fun h =>
    h.elim hd.not_ge fun h => (h0 h.1).not_ge h.2
  rw [ringSyncS_heard hb hu, if_neg (by simp [hp, isCrown_onRing hr])]
  dsimp only
  rw [if_neg hnew]
  generalize hv : syncPassed n e f (.sync sec ns (hopCorr e corr s + BitVec.ofNat 64 res) st anch) s = v
  have hsame := syncPassed_same n e f (.sync sec ns (hopCorr e corr s + BitVec.ofNat 64 res) st anch) s
  rw [hv] at hsame
  let w : State := modGrv (fun g => { g with syncSeq := some f.seq.toNat, syncHops := f.hops.toNat }) v
  have hslt : w.slt = s.slt := (congrArg State.slt hsame :)
  have hnow : w.now = max s.now n := (congrArg State.now hsame :)
  have hring : onRing w = true := (congrArg onRing hsame :).trans hr
  have htai : taiPs w = taiPs (heardOn n e f s) := (congrArg taiPs hsame :)
  rw [← hslt, ← hnow, ← htai]
  exact syncUse_used hring _ _ _ _ _

end receives
end sync

/-! ### Timers of the crown and of every member (R496, R502) -/

section timers
variable {n : Nat} {s : State}

theorem syncTimerS_other (h : isCrown s = false) : syncTimerS n { s with out := [] } = atInput n s := by
  have hc : isCrown (atInput n s) = false := h
  exact if_pos (by rw [Bool.not_eq_true']; exact hc)

theorem syncTimerS_sends (h : isCrown s = true) :
    let x := taiPs (atInput n s)
    Sends 0xFF (.sync (BitVec.ofNat 48 (x / psS)) (BitVec.ofNat 32 (x % psS / 1000)) 0 (Fin.ofNat 3 s.slt.st.num) s.slt.anchored)
      (passing s) (atInput n s) (syncTimerS n { s with out := [] }) := by
  have hc : ¬ (!isCrown (atInput n s)) = true := by rw [Bool.not_eq_true', Bool.not_eq_false]; exact h
  have ht : syncTimerS n { s with out := [] } = _ := if_neg hc
  rw [ht]
  exact sends_ringBoth _ _ _

theorem heartbeatTimerS_alone (h : inGrove s = false ∨ groveSize s ≤ 1) : heartbeatTimerS n { s with out := [] } = atInput n s :=
  if_pos (by rw [Bool.or_eq_true, Bool.not_eq_true', decide_eq_true_eq]; exact h)

theorem heartbeatTimerS_sends (hg : inGrove s = true) (hs : 1 < groveSize s) :
    Sends (if isCrown s = true then 1 else 0) (.heartbeat s.cnp.unmirrored (BitVec.ofNat 64 s.kpf.seq)) (passing s) (atInput n s)
      (heartbeatTimerS n { s with out := [] }) := by
  have hc : ¬ (!inGrove (atInput n s) || decide (groveSize (atInput n s) ≤ 1)) = true := by
    rw [Bool.or_eq_true, Bool.not_eq_true', decide_eq_true_eq]
    rintro (h | h)
    · exact absurd (hg.symm.trans h) (by decide)
    · exact absurd h hs.not_ge
  have ht : heartbeatTimerS n { s with out := [] } = _ := if_neg hc
  rw [ht]
  exact sends_ringBoth _ _ _

/-- DELAY_REQ on one port that passes frames, its time noted. -/
theorem delayAsk_sends (e : Bool) (s : State) :
    if portPasses e s = true then ∃ v, Sends (expected e s) .delayReq [e] s v ∧
      delayAsk e s = withGrv (if e = true then { v.grv with reqE := some s.now } else { v.grv with reqW := some s.now }) v
    else delayAsk e s = s := by
  unfold delayAsk
  cases h : portPasses e s with
  | false => rfl
  | true => exact ⟨_, sends_ringOut _ _ _ e, by cases e <;> rfl⟩

theorem delayAsk_kept (e w : Bool) (s : State) :
    portPasses w (delayAsk e s) = portPasses w s ∧ expected w (delayAsk e s) = expected w s ∧ (delayAsk e s).now = s.now := by
  unfold delayAsk
  split
  · exact ⟨rfl, rfl, rfl⟩
  · cases e <;> cases w <;> exact ⟨rfl, rfl, rfl⟩

theorem delayTimerS_other (h : inGrove s = false) : delayTimerS n { s with out := [] } = atInput n s :=
  if_neg (fun hc => by
    have h' : inGrove s = true := hc
    simp [h] at h')

theorem delayTimerS_asks (h : inGrove s = true) : delayTimerS n { s with out := [] } = delayAsk false (delayAsk true (atInput n s)) := if_pos h

end timers

/-! ### Rows of frames that are taken (R496, R501, R502) -/

section rows
variable {n : Nat} {e : Bool} {f : RingFrame} {s : State}

theorem ringDelayReq_answers (h : RingTaken (.ringDelayReq n e f) n e f s) :
    ∃ t, exec (.ringDelayReq n e f) s = .next t ∧ Sends f.src.toNat (.delayResp 0) [e] (ringIn n e f s) t :=
  ⟨_, h.exec (.delayReq n e f) fun _ => rfl, sends_ringOut _ _ _ e⟩

theorem ringDelayResp_takes {h r : Nat} (ht : RingTaken (.ringDelayResp n e f) n e f s) (hb : f.body = .delayResp h)
    (hr : (if e = true then s.grv.reqE else s.grv.reqW) = some r) :
    exec (.ringDelayResp n e f) s = .next (modGrv (fun g =>
      if e = true then { g with hopE := (max s.now n - r - h) / 2, reqE := none }
      else { g with hopW := (max s.now n - r - h) / 2, reqW := none })
      (ringIn n e f s)) := by
  have hnow : (ringIn n e f s).now = max s.now n := by rw [ringIn_same]
  have hreq : (if e = true then (ringIn n e f s).grv.reqE else (ringIn n e f s).grv.reqW) = some r := by
    rw [ringIn_same]
    exact hr
  refine (ht.exec (.delayResp n e f) fun _ => rfl).trans (congrArg _ ?_)
  rw [hb, hreq, hnow]

theorem ringHeartbeat_notes {un : Bool} {q : BitVec 64} (h : RingTaken (.ringHeartbeat n e f) n e f s) (hb : f.body = .heartbeat un q) :
    exec (.ringHeartbeat n e f) s = .next (modGrv (fun g => { g with
      beat := tset 0 s.grv.beat f.src.toNat (max s.now n + 1), beatSeq := tset 0 s.grv.beatSeq f.src.toNat q.toNat
      beatUnmirrored := s.grv.beatUnmirrored.filter (· != f.src.toNat) ++ (if un = true then [f.src.toNat] else []) })
      (ringIn n e f s)) := by
  refine (h.exec (.heartbeat n e f) fun _ => rfl).trans (congrArg _ ?_)
  rw [hb, ringIn_same]
  rfl

theorem foldS_eq_foldl {α : Type} (g : α → State → State) : ∀ (l : List α) (s : State), foldS g l s = l.foldl (fun t a => g a t) s
  | [], _ => rfl
  | a :: l, s => foldS_eq_foldl g l (g a s)

theorem ringLeaseMirror_journals {l : List (BitVec 22 × BitVec 32)} (h : RingTaken (.ringLeaseMirror n e f) n e f s)
    (hb : f.body = .leaseMirror l) : exec (.ringLeaseMirror n e f) s =
      .next (if buddyOf f.src.toNat s = memberNo s ∧ s.cnp.tkState = 0 then
        l.foldl (fun t x => journalAct (.buddy f.src.toNat x.1.toNat x.2.toNat) t) (ringIn n e f s) else ringIn n e f s) := by
  obtain ⟨⟨-, -, hg, -, -⟩, -⟩ := id h
  have hbuddy : buddyOf f.src.toNat (ringIn n e f s) = buddyOf f.src.toNat s := by
    rw [ringIn_same]
    rfl
  have hcnp : (ringIn n e f s).cnp = s.cnp := by rw [ringIn_same]
  refine (h.exec (.mirror n e f) fun _ => rfl).trans (congrArg _ ?_)
  rw [hb]
  dsimp only
  rw [hbuddy, hcnp, memberNo_ringIn hg, foldS_eq_foldl]

theorem ringLeaseAck_clears {l : List (BitVec 22 × BitVec 32)} (h : RingTaken (.ringLeaseAck n e f) n e f s) (hb : f.body = .leaseAck l) :
    exec (.ringLeaseAck n e f) s = .next (if f.src.toNat = buddyOf (memberNo s) s then
      modGrv (fun g => { g with mirrors := (s.grv.mirrors.map (fun p => { p with
        entries := p.entries.filter (fun x => !(l.map (fun y => (y.1.toNat, y.2.toNat))).contains x) })).filter (fun p => !p.entries.isEmpty) })
        (ringIn n e f s)
      else ringIn n e f s) := by
  obtain ⟨⟨-, -, hg, -, -⟩, -⟩ := id h
  have hbuddy : buddyOf (memberNo (ringIn n e f s)) (ringIn n e f s) = buddyOf (memberNo s) s := by
    rw [memberNo_ringIn hg, ringIn_same]
    rfl
  have hmirrors : (ringIn n e f s).grv.mirrors = s.grv.mirrors := by
    rw [ringIn_same]
    rfl
  refine (h.exec (.ack n e f) fun _ => rfl).trans (congrArg _ ?_)
  rw [hb]
  dsimp only
  rw [hbuddy, ite_not]
  split
  · rw [modGrv, modGrv, hmirrors]
  · rfl

end rows

/-! ### A lost member (R502) -/

section loss
variable {n : Nat} {m : Fin 64} {s : State}

theorem offerDrop_none (m : Nat) (h : s.grv.offer = none) : offerDrop m s = s := by
  have hgrv : ({ s.grv with offer := s.grv.offer.map (fun o => { o with takers := o.takers.filter (· != m) }) } : Grv) = s.grv := by
    rw [h, Option.map_none, ← h]
  have hdrop : offerDrop m s = offerNext s := congrArg (fun g => offerNext { s with grv := g }) hgrv
  rw [hdrop, offerNext, h]

theorem memberLossTimeoutS_eq : memberLossTimeoutS n m { s with out := [] } =
    if watches m s = false ∨ s.grv.isolated = true ∨ m.val ∈ s.grv.lost ∨
        max s.now n < max (tget 0 s.grv.beat m - 1) s.boot.installedAt + 50 * psMs then atInput n s
    else
      let u := offerDrop m (withGrv { s.grv with lost := s.grv.lost ++ [m.val] } (atInput n s))
      if u.grv.beatUnmirrored.contains m.val = true then
        emit .fault 0x1034 srcGrove (d1 m) (modGrv (fun g => { g with withheld := g.withheld ++ [m.val] }) u)
      else takeoverOrder m (emit .fault 0x1031 srcGrove (d1 m) u) := by
  refine if_congr ?_ rfl rfl
  simp only [Bool.or_eq_true, Bool.not_eq_true', List.contains_iff_mem, decide_eq_true_eq, or_assoc]
  rfl

/-- The member as it has declared another lost. -/
def lossNoted (n m : Nat) (s : State) : State := withGrv { s.grv with lost := s.grv.lost ++ [m] } (atInput n s)

section declared
variable (hw : watches m s = true) (hi : s.grv.isolated = false) (hm : m.val ∉ s.grv.lost)
  (hlast : max (tget 0 s.grv.beat m - 1) s.boot.installedAt + 50 * psMs ≤ max s.now n) (ho : s.grv.offer = none)
include hw hi hm hlast ho

theorem memberLossTimeoutS_lost : memberLossTimeoutS n m { s with out := [] } =
    if m.val ∈ s.grv.beatUnmirrored then
      emit .fault 0x1034 srcGrove (d1 m) (modGrv (fun g => { g with withheld := g.withheld ++ [m.val] }) (lossNoted n m s))
    else takeoverOrder m (emit .fault 0x1031 srcGrove (d1 m) (lossNoted n m s)) := by
  have hdrop : offerDrop m (lossNoted n m s) = lossNoted n m s := offerDrop_none _ ho
  rw [memberLossTimeoutS_eq, if_neg (by simp [hw, hi, hm, hlast.not_gt]), ← lossNoted, hdrop]
  exact if_congr List.contains_iff_mem rfl rfl

end declared

theorem memberNo_emit (c : EvClass) (code src : W16) (d : Bytes) (s : State) : memberNo (emit c code src d s) = memberNo s := by
  rw [memberNo, memberNo, ownMember, ownMember, emit_grn, emit_fuses, emit_grv]

theorem buddyOf_emit (c : EvClass) (code src : W16) (d : Bytes) (m : Nat) (s : State) : buddyOf m (emit c code src d s) = buddyOf m s := by
  rw [buddyOf, groveSize, groveMembers, emit_grn]
  rfl

theorem passing_congr {s t : State} (h : ∀ e, portPasses e t = portPasses e s) : passing t = passing s := by
  rw [passing, passing, h, h]

/-- A takeover's order goes to the buddy, and every member learns who serves the range (R310, R499, R502). -/
theorem takeoverOrder_sends (m : Fin 64) (s : State) :
    (if buddyOf m s = memberNo s then takeoverTold m s = withGrv { s.grv with tkOrder := some m.val } s
      else SendsTo (buddyOf m s) (.control (.takeover m)) s (takeoverTold m s)) ∧
    Sends 0xFF (.control (.serves m (Fin.ofNat 64 (buddyOf m s)))) (passing s)
      (withGrv { (takeoverTold m s).grv with served := tset 0 (takeoverTold m s).grv.served m (buddyOf m s + 1) } (takeoverTold m s))
      (takeoverOrder m s) := by
  have hself : Fin.ofNat 64 m.val = m := Fin.ofNat_val_eq_self m
  obtain ⟨-, hgrv⟩ := takeoverTold_grv m s
  constructor
  · unfold takeoverTold
    split
    · rfl
    · rw [hself]
      exact sendsTo_ringTo _ _ _
  · have hpass : passing s = passing
        (withGrv { (takeoverTold m s).grv with served := tset 0 (takeoverTold m s).grv.served m (buddyOf m s + 1) } (takeoverTold m s)) :=
      (passing_congr fun e => by
        unfold portPasses withGrv
        rw [hgrv]).symm
    have hord : takeoverOrder m s = ringBoth 0xFF (.control (.serves (Fin.ofNat 64 m.val) (Fin.ofNat 64 (buddyOf m s))))
        (withGrv { (takeoverTold m s).grv with served := tset 0 (takeoverTold m s).grv.served m (buddyOf m s + 1) } (takeoverTold m s)) := rfl
    rw [hord, hself, hpass]
    exact sends_ringBoth _ _ _

end loss

/-! ### Lease pages sent again (R501) -/

section mirrors
variable {n : Nat} {s : State}

/-- A page unacknowledged for 2 ms that has been sent four times at most since the first. -/
def mirrorDue (now : Nat) (p : MirrorPage) : Bool := decide (p.last + 2 * psMs ≤ now) && decide (p.sent ≤ 4)

/-- A page as it is sent again. -/
def mirrorAgain (now : Nat) (p : MirrorPage) : MirrorPage :=
  if mirrorDue now p = true then { p with last := now, sent := p.sent + 1 } else p

/-- A page's frame. -/
def mirrorBody (p : MirrorPage) : RingBody := .leaseMirror (p.entries.map (fun x => (BitVec.ofNat 22 x.1, BitVec.ofNat 32 x.2)))

theorem mirrorResendTimerS_eq : mirrorResendTimerS n { s with out := [] } =
    modGrv (fun g => { g with mirrors := g.mirrors.map (mirrorAgain (max s.now n)) })
      (foldS (fun p t => bump (cGrove 5) (ringTo (buddyOf (memberNo s) s) (mirrorBody p) t))
        (s.grv.mirrors.filter (mirrorDue (max s.now n))) (atInput n s)) := rfl

theorem mirrorResendTimerS_none (h : s.grv.mirrors.filter (mirrorDue (max s.now n)) = []) :
    mirrorResendTimerS n { s with out := [] } = atInput n s := by
  have hmap : s.grv.mirrors.map (mirrorAgain (max s.now n)) = s.grv.mirrors := by
    refine (List.map_congr_left fun p hp => ?_).trans (List.map_id _)
    exact if_neg (List.filter_eq_nil_iff.mp h p hp)
  rw [mirrorResendTimerS_eq, h, foldS_nil]
  exact congrArg (fun l => withGrv { s.grv with mirrors := l } (atInput n s)) hmap

theorem mirrorResendTimerS_one {p : MirrorPage} (h : s.grv.mirrors.filter (mirrorDue (max s.now n)) = [p])
    (hw : wayTo (buddyOf (memberNo s) s) s ≠ []) : ∃ v,
    Sends (buddyOf (memberNo s) s) (mirrorBody p) (wayTo (buddyOf (memberNo s) s) s) (atInput n s) v ∧
    mirrorResendTimerS n { s with out := [] } =
      withGrv { v.grv with mirrors := s.grv.mirrors.map (mirrorAgain (max s.now n)) } (bump (cGrove 5) v) := by
  refine ⟨ringTo (buddyOf (memberNo s) s) (mirrorBody p) (atInput n s), (sendsTo_ringTo _ _ _).sends hw, ?_⟩
  have hgrv := (RingSent.ringTo (buddyOf (memberNo s) s) (mirrorBody p) (atInput n s)).grv
  rw [mirrorResendTimerS_eq, h, foldS_cons, foldS_nil, modGrv, bump_grv, hgrv]
  rfl

end mirrors

/-- Settles O55: each timer is a frame of its kind sent or a test that fails, SYNC is what `SyncUsed` says, a taken frame acts by its row on
`ringIn`, and a lost member and a late page are the branches of their tests. -/
theorem ringTimeAndLoss : Obligations.RingTimeAndLoss := by
  unfold Obligations.RingTimeAndLoss
  refine ⟨fun n s hl => ?timers, fun n e f res sec ns corr st anch s hl hb hu => ?sync, fun n e f s => ?rows, fun n m s hl => ?loss,
    fun n s hl => ?mirrors⟩
  case timers =>
    refine ⟨fun h => act_next hl (syncTimerS_other h), fun h => ⟨_, act_live hl, syncTimerS_sends h⟩,
      fun h => act_next hl (heartbeatTimerS_alone h), fun hg hs => ⟨_, act_live hl, heartbeatTimerS_sends hg hs⟩,
      fun h => act_next hl (delayTimerS_other h), fun h => ?_⟩
    obtain ⟨hpass, hexp, hnow⟩ := delayAsk_kept true false (atInput n s)
    have hwest := delayAsk_sends false (delayAsk true (atInput n s))
    rw [hpass, hexp, hnow] at hwest
    exact ⟨_, _, act_next hl (delayTimerS_asks h), delayAsk_sends true (atInput n s), hwest⟩
  case sync =>
    refine ⟨fun h => act_next hl (ringSyncS_stops hb hu h), fun hp hc hd => act_next hl (ringSyncS_repeated hb hu hp hc hd),
      fun hp hr hd h0 => ⟨_, act_live hl, ?_⟩⟩
    obtain ⟨hgrv, used⟩ := ringSyncS_used (n := n) (res := res) hb hu hp hr hd h0
    refine ⟨hgrv, used.crown, used.st, used.slot, used.unanchored, used.first, fun ha ht => ?_⟩
    have taken := used.later ha ht
    exact ⟨taken.offset, taken.rate, taken.slew, taken.step, taken.lengthen⟩
  case rows =>
    exact ⟨ringDelayReq_answers, fun h r ht hb hr => ringDelayResp_takes ht hb hr, fun un q ht hb => ringHeartbeat_notes ht hb,
      fun l ht hb => ringLeaseMirror_journals ht hb, fun l ht hb => ringLeaseAck_clears ht hb⟩
  case loss =>
    refine ⟨fun h => act_next hl (memberLossTimeoutS_eq.trans (if_pos h)), fun hw hi hm hlast ho =>
      ⟨fun hun => act_next hl ((memberLossTimeoutS_lost hw hi hm hlast ho).trans (if_pos hun)), fun hun => ?_⟩⟩
    have hpass : passing (emit .fault 0x1031 srcGrove (d1 m) (lossNoted n m s)) = passing s := passing_congr fun e => portPasses_emit _ _ _ _ e _
    obtain ⟨htold, hsends⟩ := takeoverOrder_sends m (emit .fault 0x1031 srcGrove (d1 m) (lossNoted n m s))
    rw [buddyOf_emit, memberNo_emit] at htold
    rw [buddyOf_emit, hpass] at hsends
    exact ⟨_, _, _, act_next hl ((memberLossTimeoutS_lost hw hi hm hlast ho).trans (if_neg hun)), rfl, htold, hsends⟩
  case mirrors =>
    exact ⟨fun h => act_next hl (mirrorResendTimerS_none h), fun p hp hw => by
      obtain ⟨v, hsends, hv⟩ := mirrorResendTimerS_one hp hw
      exact ⟨v, _, act_next hl hv, hsends, rfl⟩⟩

end Sys2Proof
end

section
/-!
PROOFS. Scope: the power-fail flush, the way into deep sleep, and the format of the keep flash
(spec/03_energy_ledger.md with the chapters its rules name).
-/
namespace Sys2Proof
open Machine

/-! ### A power-fail warning (R78) -/

section warning
variable {n : Nat} {s : State}

theorem stopWork_eq (s : State) :
    stopWork s =
      let u := foldS cusStop (List.range 32) s
      { u with
        cnp := { u.cnp with inbound := [], opens := [], held := [], renew := [] }
        slt := { u.slt with collecting := none }
        grn := { u.grn with push := if 1 ≤ u.grn.push.state ∧ u.grn.push.state ≤ 3 then { u.grn.push.emptied with state := 0 } else u.grn.push } } := by
  have hopen : ∀ p : Push, (if p.isOpen = true then { p.emptied with state := 0 } else p) =
      if 1 ≤ p.state ∧ p.state ≤ 3 then { p.emptied with state := 0 } else p := fun p => if_congr decide_eq_true_iff rfl rfl
  unfold stopWork
  dsimp only
  rw [hopen]

/-- A warning that is not noted yet is counted. -/
def warningCounted (n : Nat) (s : State) : State := if s.nrg.pfw then atInput n s else bump (cDevice 11) (atInput n s)

/-- PFW is set. -/
def warned (n : Nat) (s : State) : State := withNrg { s.nrg with pfwBall := true, pfwHigh := none, pfw := true } (warningCounted n s)

/-- The settle step begins. -/
def settling (n : Nat) (s : State) : State :=
  withNrg { s.nrg with pfwBall := true, pfwHigh := none, pfw := true, flushing := true, flush := .settle } (warningCounted n s)

theorem pfwAssertS_on (h : s.boot.pwrgood = true) :
    pfwAssertS n { s with out := [] } =
      if s.nrg.flush = .idle ∧ s.slp.state ≠ 2 then stopWork (settling n s) else warned n s := by
  have hset : s.nrg.pfw = true → ({ s.nrg with pfwBall := true, pfwHigh := none } : Nrg) =
      { s.nrg with pfwBall := true, pfwHigh := none, pfw := true } := fun hp => by rw [← hp]
  have hnoted : (if s.nrg.pfw then withNrg { s.nrg with pfwBall := true, pfwHigh := none } (atInput n s)
      else bump (cDevice 11) (withNrg { s.nrg with pfwBall := true, pfwHigh := none, pfw := true } (atInput n s))) = warned n s := by
    unfold warned warningCounted
    split
    · next hp => rw [hset hp]
    · rfl
  have hslp : (warned n s).slp = s.slp := by
    unfold warned warningCounted withNrg
    split <;> rfl
  have hpw : ¬ (!s.boot.pwrgood) = true := by simp [h]
  have hbranch : pfwAssertS n { s with out := [] } =
      let v := warned n s
      if v.nrg.flush = .idle ∧ v.slp.state ≠ 2 then stopWork (withNrg { v.nrg with flushing := true, flush := .settle } v) else v := by
    rw [← hnoted]
    exact if_neg hpw
  rw [hbranch]
  dsimp only
  rw [hslp]
  rfl

/-- A running domain with a policy is held, while the anchor stands. -/
theorem cusStop_holds {d : Nat} (hr : (cdom d s).st = .running) (hc : cusConfigured d s = true) (ha : s.kpf.anchorLost = false)
    (hw : twf {} s.cus.dom = true) :
    (cdom d (cusStop d s)).st = .held ∧ (cdom d (cusStop d s)).released = false ∧ (cdom d (cusStop d s)).flt.esc = none := by
  have hstop : cusStop d s = cusHold d .held s := by simp [cusStop, hr]
  obtain ⟨hst, hrel, hesc, -⟩ := cusHold_held hw hc
  rw [hstop]
  exact ⟨hst.trans (by rw [ha]; rfl), hrel, hesc⟩

end warning

/-! ### What the keep port changes when it takes a page (R233, R236) -/

/-- `t` is `s` but for the outputs, the free values drawn, the mirrors' pages, the program in progress and the journal's head. -/
def PortStep (s t : State) : Prop :=
  t = { s with
    out := t.out, freeCtr := t.freeCtr
    kpf := { s.kpf with
      m0 := t.kpf.m0, m1 := t.kpf.m1, prog := t.kpf.prog, headSector := t.kpf.headSector, headPage := t.kpf.headPage
      erases := t.kpf.erases, freeSectors := t.kpf.freeSectors } }

section port
variable {s t u : State}

theorem PortStep.trans (h : PortStep s t) (k : PortStep t u) : PortStep s u := by
  unfold PortStep at *
  rw [k, h]

theorem PortStep.foldS {α : Type} {f : α → State → State} (h : ∀ a s, PortStep s (f a s)) : ∀ (l : List α) (s : State), PortStep s (foldS f l s)
  | [], _ => rfl
  | a :: l, s => (h a s).trans (PortStep.foldS h l _)

theorem PortStep.emitOut (o : Output) (s : State) : PortStep s (emitOut o s) := rfl

theorem PortStep.setMir (m : Nat) (x : Mirror) (s : State) : PortStep s (setMir m x s) := by
  unfold Machine.setMir
  split <;> rfl

theorem PortStep.progStop (s : State) : PortStep s (progStop s) := by
  unfold Machine.progStop
  split
  · rfl
  · have hclear : PortStep s { s with kpf := { s.kpf with prog := none } } := rfl
    refine hclear.trans (.foldS (fun m s => ?_) _ _)
    have hdraw : PortStep s (drawFree s).2 := rfl
    exact hdraw.trans (.setMir _ _ _)

theorem PortStep.progStart (p : Prog) (s : State) : PortStep s (progStart p s) := by
  have hset : PortStep s { s with kpf := { s.kpf with prog := some p } } := rfl
  exact hset.trans (.foldS (fun _ _ => .emitOut _ _) _ _)

theorem PortStep.onThe (l : List Nat) (f : Nat → Mirror → Mirror) (s : State) : PortStep s (onThe l f s) :=
  .foldS (fun _ _ => .setMir _ _ _) _ _

theorem PortStep.keepEraseRange (lo n : Nat) (s : State) : PortStep s (keepEraseRange lo n s) :=
  PortStep.trans (.onThe _ _ _) (.foldS (fun _ _ => .emitOut _ _) _ _)

theorem PortStep.sectorErase (n : Nat) (s : State) : PortStep s (sectorErase n s) :=
  PortStep.trans (.keepEraseRange _ _ _) rfl

theorem PortStep.openHead (first : Nat) (s : State) : PortStep s (openHead first s) := by
  have hhead : ∀ (n : Nat) (t : State), PortStep t { t with kpf := { t.kpf with headSector := n, headPage := 16 } } := fun _ _ => rfl
  unfold Machine.openHead
  dsimp only
  split
  · refine PortStep.trans ?_ (.progStart _ _)
    split
    · exact (PortStep.sectorErase _ _).trans (hhead _ _)
    · exact hhead _ _
  · rfl

/-- With a page waiting and no format header due, the port takes that page or opens a sector for it. -/
theorem PortStep.keepNext {p : JPage} {ps : List JPage} (hf : s.kpf.formatDue = []) (hp : s.kpf.pages = p :: ps) : PortStep s (keepNext s) := by
  unfold Machine.keepNext
  rw [hf, hp]
  dsimp only
  split
  · rfl
  · split
    · exact .progStart _ _
    · exact .openHead _ _

theorem keepNext_busy (h : s.kpf.prog.isSome = true) : keepNext s = s := by simp [keepNext, h]

theorem PortStep.kpf_seq (h : PortStep s t) : t.kpf.seq = s.kpf.seq := congrArg (·.kpf.seq) h
theorem PortStep.kpf_pages (h : PortStep s t) : t.kpf.pages = s.kpf.pages := congrArg (·.kpf.pages) h
theorem PortStep.kpf_acts (h : PortStep s t) : t.kpf.acts = s.kpf.acts := congrArg (·.kpf.acts) h
theorem PortStep.nrg (h : PortStep s t) : t.nrg = s.nrg := congrArg (·.nrg) h

end port

/-! ### The settle step ends (R78) -/

section settle
variable {s : State}

/-- What waits for a page is given up; the pages composed already stand. -/
def actsDropped (s : State) : State :=
  { s with out := [], nrg := { s.nrg with flush := .pages }, kpf := { s.kpf with acts := [], formatDue := [], logDue := [] } }

/-- The port runs no program, or one of the journal. -/
def portOwn (s : State) : Bool := match s.kpf.prog with | some p => p.kind == .record || p.kind == .header | none => true

/-- The state with the port left to the journal's own program: another one is stopped. -/
def portFreed (s : State) : State := if portOwn s = true then actsDropped s else progStop (actsDropped s)

theorem portFreed_own (h : ∀ q, s.kpf.prog = some q → q.kind = .record ∨ q.kind = .header) : portFreed s = actsDropped s := by
  refine if_pos ?_
  unfold portOwn
  split
  · next p hp => rcases h p hp with hk | hk <;> simp [hk]
  · rfl

theorem portFreed_step (s : State) : PortStep (actsDropped s) (portFreed s) := by
  unfold portFreed
  split
  · rfl
  · exact .progStop _

theorem flushSettleEndS_eq (hf : s.nrg.flush = .settle) :
    flushSettleEndS { s with out := [] } =
      let u := portFreed s
      if journalShut u || !u.kpf.replayed then flushMaybeDone { u with kpf := { u.kpf with pages := [] } }
      else pushPage { recd := Machine.recordOf [.close u.slt.slot.toNat] u.kpf.seq u, acts := [.close u.slt.slot.toNat] } u :=
  if_neg (not_not_intro hf)

theorem flushSettleEndS_silent (hf : s.nrg.flush = .settle) (h : s.boot.keyless = true ∨ s.tmp.erased = true ∨ s.kpf.replayed = false)
    (hown : ∀ q, s.kpf.prog = some q → q.kind = .record ∨ q.kind = .header) :
    flushSettleEndS { s with out := [] } = withNrg { s.nrg with flush := .done }
      { s with out := [], kpf := { s.kpf with acts := [], pages := [], formatDue := [], logDue := [] } } := by
  have hshut : (journalShut (actsDropped s) || !(actsDropped s).kpf.replayed) = true := by
    rcases h with h | h | h <;> simp [journalShut, actsDropped, h]
  rw [flushSettleEndS_eq hf, portFreed_own hown]
  exact (if_pos hshut).trans (if_pos ⟨rfl, rfl⟩)

/-- The page of the closing record. -/
def closePage (s : State) : JPage :=
  { recd := Machine.recordOf [.close s.slt.slot.toNat] s.kpf.seq s, acts := [.close s.slt.slot.toNat] }

/-- The closing record's page joins the waiting ones. -/
def closeQueued (s : State) : State :=
  pendingUpdate { s with kpf := { s.kpf with pages := s.kpf.pages ++ [closePage s], seq := s.kpf.seq + 1 } }

section writes
variable (hf : s.nrg.flush = .settle) (hk : s.boot.keyless = false) (he : s.tmp.erased = false) (hr : s.kpf.replayed = true)
include hf hk he hr

theorem flushSettleEndS_writes : flushSettleEndS { s with out := [] } = keepNext (closeQueued (portFreed s)) := by
  have hstep := portFreed_step s
  have hshut : ¬ (journalShut (portFreed s) || !(portFreed s).kpf.replayed) = true := by
    unfold PortStep at hstep
    rw [hstep]
    simp [journalShut, actsDropped, hk, he, hr]
  rw [flushSettleEndS_eq hf]
  exact if_neg hshut

/-- Whatever the port was doing, the pages to be written are those that waited and the closing record's. -/
theorem flushSettleEndS_pages :
    let t := flushSettleEndS { s with out := [] }
    let ps := s.kpf.pages ++ [closePage s]
    t.kpf.pages = ps ∧ t.kpf.seq = s.kpf.seq + 1 ∧ t.kpf.acts = [] ∧ t.nrg.flush = .pages ∧ t.nrg.pending = ps.length ∧
      t.nrg.flushing = s.nrg.flushing := by
  have hfreed := portFreed_step s
  unfold PortStep at hfreed
  have hpages : (closeQueued (portFreed s)).kpf.pages = s.kpf.pages ++ [closePage s] := by rw [hfreed]; rfl
  have hdue : (closeQueued (portFreed s)).kpf.formatDue = [] := by rw [hfreed]; rfl
  obtain ⟨p, ps, hne⟩ := List.exists_cons_of_ne_nil (l := s.kpf.pages ++ [closePage s]) (by simp)
  have hport : PortStep (closeQueued (portFreed s)) (keepNext (closeQueued (portFreed s))) := .keepNext hdue (hpages.trans hne)
  dsimp only
  rw [flushSettleEndS_writes hf hk he hr]
  refine ⟨hport.kpf_pages.trans hpages, hport.kpf_seq.trans ?_, hport.kpf_acts.trans ?_, ?_, ?_, ?_⟩
  · rw [hfreed]; rfl
  · rw [hfreed]; rfl
  all_goals rw [hport.nrg, hfreed]; rfl

/-- A journal program that runs goes on: nothing else changes. -/
theorem flushSettleEndS_joins {q : Prog} (hq : s.kpf.prog = some q) (hkind : q.kind = .record ∨ q.kind = .header) :
    flushSettleEndS { s with out := [] } =
      withNrg { s.nrg with
          flush := .pages, pending := s.kpf.pages.length + 1, reserveFull := decide (s.nrg.nMax ≤ s.kpf.pages.length + 1) }
        { s with out := [], kpf := { s.kpf with
          acts := [], formatDue := [], logDue := [], pages := s.kpf.pages ++ [closePage s], seq := s.kpf.seq + 1 } } := by
  have hlen : (s.kpf.pages ++ [closePage s]).length = s.kpf.pages.length + 1 := List.length_append
  rw [flushSettleEndS_writes hf hk he hr, portFreed_own (fun p hp => by rwa [← Option.some.inj (hq.symm.trans hp)]), ← hlen]
  exact keepNext_busy (congrArg Option.isSome hq)

end writes

end settle

/-! ### The way into deep sleep (R534) -/

section sleep
variable {s t : State}

/-- What SLEEP_READY reads after its steps, with what waits in Canopy. -/
def sleepParts (s : State) : Slp × Vault × Grn × Tmp × List Payload × List HeldCommit :=
  (s.slp, s.vault, s.grn, s.tmp, s.cnp.payloads, s.cnp.held)

/-- `t` has what SLEEP_READY reads of `s`, and no payload and no COMMIT waits. -/
def SleepsAs (s t : State) : Prop := sleepParts t = (s.slp, s.vault, s.grn, s.tmp, [], [])

theorem SleepsAs.slp (h : SleepsAs s t) : t.slp = s.slp := congrArg (·.1) h
theorem SleepsAs.vault (h : SleepsAs s t) : t.vault = s.vault := congrArg (·.2.1) h
theorem SleepsAs.grn (h : SleepsAs s t) : t.grn = s.grn := congrArg (·.2.2.1) h
theorem SleepsAs.tmp (h : SleepsAs s t) : t.tmp = s.tmp := congrArg (·.2.2.2.1) h
theorem SleepsAs.payloads (h : SleepsAs s t) : t.cnp.payloads = [] := congrArg (·.2.2.2.2.1) h
theorem SleepsAs.held (h : SleepsAs s t) : t.cnp.held = [] := congrArg (·.2.2.2.2.2) h

theorem SleepsAs.foldS {α : Type} {f : α → State → State} (hf : ∀ a t, SleepsAs s t → SleepsAs s (f a t)) :
    ∀ (l : List α) {t : State}, SleepsAs s t → SleepsAs s (foldS f l t)
  | [], _, h => h
  | a :: l, _, h => SleepsAs.foldS hf l (hf a _ h)

theorem SleepsAs.emit (h : SleepsAs s t) (c : EvClass) (code src : W16) (d : Bytes) : SleepsAs s (emit c code src d t) := by
  have heq : sleepParts (Machine.emit c code src d t) = sleepParts t := by simp [sleepParts]
  exact heq.trans h

theorem SleepsAs.bumpBy (h : SleepsAs s t) (o n : Nat) : SleepsAs s (bumpBy o n t) := h
theorem SleepsAs.bump (h : SleepsAs s t) (o : Nat) : SleepsAs s (Machine.bump o t) := h
theorem SleepsAs.laneWork (h : SleepsAs s t) (l : Nat) : SleepsAs s (laneWork l t) := h
theorem SleepsAs.modReq (h : SleepsAs s t) (l tag : Nat) (f : SapReq → SapReq) : SleepsAs s (modReq l tag f t) := h
theorem SleepsAs.emitOut (h : SleepsAs s t) (o : Output) : SleepsAs s (emitOut o t) := h

theorem SleepsAs.modCnp {f : Cnp → Cnp} (h : SleepsAs s t) (hf : ∀ n, ((f n).payloads, (f n).held) = (n.payloads, n.held)) :
    SleepsAs s (modCnp f t) := by
  have heq : sleepParts (Machine.modCnp f t) = sleepParts t := congrArg (fun x => (t.slp, t.vault, t.grn, t.tmp, x)) (hf t.cnp)
  exact heq.trans h

theorem SleepsAs.iteBump {c : Prop} {_ : Decidable c} (h : SleepsAs s t) (o : Nat) : SleepsAs s (if c then Machine.bump o t else t) := by
  split <;> exact h

theorem SleepsAs.pushRec (h : SleepsAs s t) (c : Nat) (r : Rec) : SleepsAs s (pushRec c r t) := by
  unfold Machine.pushRec
  dsimp only
  split <;> exact h

theorem SleepsAs.downlinkDone (h : SleepsAs s t) (p : Payload) (o : Nat) : SleepsAs s (downlinkDone p o none t) :=
  have hdrawn : SleepsAs s (drawFree (drawFree t).2).2 := h
  hdrawn.pushRec _ _

theorem payloadOf_none (h : t.cnp.payloads = []) (id : W64) : payloadOf id t = none := by
  rw [payloadOf, h]
  rfl

theorem SleepsAs.ctxManage (h : SleepsAs s t) (op i : Nat) : SleepsAs s (ctxManage op i t) := by
  have hnone : ∀ c id, payloadOf id (setCtx i c t) = none := fun _ _ => payloadOf_none h.payloads _
  unfold Machine.ctxManage
  dsimp only
  split
  · rw [hnone]; exact h
  · exact h
  · rw [hnone]; exact h
  · exact h

theorem SleepsAs.openStart (h : SleepsAs s t) (o : OpenRec) : SleepsAs s (openStart o t) := by
  unfold Machine.openStart
  split
  · exact h.ctxManage _ _
  · split
    · exact h
    · dsimp only
      refine SleepsAs.bumpBy ?_ _ _
      refine SleepsAs.iteBump ?_ _
      refine SleepsAs.laneWork ?_ _
      refine SleepsAs.bump ?_ _
      refine SleepsAs.modCnp ?_ fun _ => rfl
      refine SleepsAs.modReq ?_ _ _ _
      exact h

theorem SleepsAs.beginFrom : ∀ (os : List OpenRec) (seen : List Nat) {t : State}, SleepsAs s t → SleepsAs s (beginFrom os seen t)
  | [], _, _, h => h
  | o :: os, seen, t, h => by
    rw [Machine.beginFrom]
    split
    · exact SleepsAs.beginFrom os _ h
    · split
      · exact SleepsAs.beginFrom os _ h
      · exact SleepsAs.beginFrom os _ (h.openStart o)

theorem SleepsAs.beginOpens (h : SleepsAs s t) : SleepsAs s (beginOpens t) := SleepsAs.beginFrom _ _ h

theorem SleepsAs.runHeld (h : SleepsAs s t) : SleepsAs s (runHeld t) := by
  have hnone : SleepsAs s (Machine.modCnp (fun n => { n with held := [] }) t) := by
    have heq : (Machine.modCnp (fun n => { n with held := [] }) t) = t := congrArg (fun l => { t with cnp := { t.cnp with held := l } }) h.held.symm
    rw [heq]; exact h
  unfold Machine.runHeld
  rw [h.held]
  exact hnone.beginOpens

theorem SleepsAs.recordRingWriteS (h : SleepsAs s t) (c : Nat) : SleepsAs s (recordRingWriteS c t) := by
  unfold Machine.recordRingWriteS
  dsimp only
  split
  · exact h
  · split
    · exact h
    · have hwritten : ∀ m f, SleepsAs s (modChan c f { t with hostMem := m }) := fun _ _ => h
      refine SleepsAs.runHeld ?_
      split
      · exact (hwritten _ _).emitOut _
      · exact hwritten _ _

theorem SleepsAs.drainRing (c : Nat) : ∀ (n : Nat) {t : State}, SleepsAs s t → SleepsAs s (drainRing c n t)
  | 0, _, h => h
  | n + 1, _, h => SleepsAs.drainRing c n (h.recordRingWriteS c)

theorem SleepsAs.disStart_lane (h : SleepsAs s t) (l : Fin 192) : SleepsAs s (disStart (.lane l) false t) := by
  unfold Machine.disStart
  dsimp only
  split
  · exact h
  · split
    · exact h
    · split <;> exact h

theorem SleepsAs.disOn_lane (h : SleepsAs s t) (l : Fin 192) : SleepsAs s (disOn (.lane l) t) := by
  have hwork : ∀ f, SleepsAs s (Machine.laneWork l.val (modDis (.lane l) f t)) := fun _ => h
  exact (hwork _).beginOpens

theorem SleepsAs.disFinish_lane (h : SleepsAs s t) (l : Fin 192) : SleepsAs s (disFinish (.lane l) t) := by
  have hmod : ∀ f {u}, SleepsAs s u → SleepsAs s (modDis (.lane l) f u) := fun _ _ hu => hu
  unfold disFinish
  dsimp only
  split
  · exact (hmod _ (h.emit _ _ _ _)).disOn_lane l
  · exact hmod _ (h.emit _ _ _ _)

theorem SleepsAs.disComplete_lane (h : SleepsAs s t) (l : Fin 192) : SleepsAs s (disComplete (.lane l) t) := by
  unfold disComplete
  dsimp only
  split
  · exact h.disFinish_lane l
  · exact h

theorem sleepDrained_iff : sleepDrained s = true ↔
    ((∀ e ∈ s.cus.dom, e.2.released = false) ∧ s.cnp.entries = [] ∧ s.cnp.inbound = [] ∧ s.cnp.held = [] ∧
      s.kpf.acts = [] ∧ s.kpf.pages = [] ∧ ∀ e ∈ s.lnk.ports, ∀ x ∈ e.2.lports, x.2.queue = []) := by
  simp [sleepDrained, and_assoc]

/-- The pending payloads end as EXPIRED (R534). -/
def payloadsEnded (s : State) : State :=
  foldS (fun (p : Payload) s => downlinkDone p 2 none s) s.cnp.payloads (modCnp (fun n => { n with payloads := [] }) s)

/-- The channels' records go to their host rings (R534). -/
def ringsWritten (s : State) : State := foldS (fun c s => drainRing c (chanAt c s).buf.length s) (List.range 16) s

/-- Every lane is disabled in DRAIN mode, and quiescent at once (R534). -/
def lanesDisabled (s : State) : State :=
  foldS (fun l s =>
    let u : UnitId := .lane (Fin.ofNat 192 l)
    disComplete u (disStart u false s)) (List.range 192) s

theorem sleepReadyS_waits (n : Nat) (h : ¬ (s.slp.state = 1 ∧ sleepDrained s = true)) : sleepReadyS n { s with out := [] } = atInput n s :=
  if_pos (by
    rw [Bool.not_eq_true', ← Bool.not_eq_true]
    exact not_and_or.mp h)

theorem sleepReadyS_sleeps (n : Nat) (h : s.slp.state = 1) (hd : sleepDrained s = true) :
    sleepReadyS n { s with out := [] } =
      let t := standbyWrite (lanesDisabled (ringsWritten (payloadsEnded (atInput n s))))
      { t with slp := { t.slp with state := 2 } } := by
  have hin : atTime n { s with out := [] } = atInput n s := rfl
  have hready : ¬ ((atInput n s).slp.state ≠ 1 ∨ (!sleepDrained (atInput n s)) = true) := by
    rw [Bool.not_eq_true', ← Bool.not_eq_true]
    exact not_or.mpr ⟨not_not_intro h, not_not_intro hd⟩
  unfold sleepReadyS lanesDisabled ringsWritten payloadsEnded
  rw [hin]
  dsimp only
  rw [if_neg hready]

theorem sleepsAs_lanesDisabled (n : Nat) (hheld : s.cnp.held = []) :
    SleepsAs s (lanesDisabled (ringsWritten (payloadsEnded (atInput n s)))) := by
  have hcleared : SleepsAs s (Machine.modCnp (fun n => { n with payloads := [] }) (atInput n s)) :=
    congrArg (fun l => (s.slp, s.vault, s.grn, s.tmp, [], l)) hheld
  refine .foldS (fun l t h => (h.disStart_lane _).disComplete_lane _) _ ?_
  refine .foldS (fun c t h => h.drainRing c _) _ ?_
  exact .foldS (fun p t h => h.downlinkDone p 2) _ hcleared

/-- A drained device sleeps with the standby key register written (R533, R534). -/
theorem sleepReadyS_slept (n : Nat) (h : s.slp.state = 1) (hd : sleepDrained s = true) :
    ∃ t, SleepsAs s t ∧ sleepReadyS n { s with out := [] } = { standbyWrite t with slp := { (standbyWrite t).slp with state := 2 } } := by
  obtain ⟨-, -, -, hheld, -⟩ := sleepDrained_iff.mp hd
  exact ⟨_, sleepsAs_lanesDisabled n hheld, sleepReadyS_sleeps n h hd⟩

theorem standbyWrite_erased (h : s.tmp.erased = true) : standbyWrite s = (drawFree s).2 := if_pos h

theorem standbyWrite_kept (h : s.tmp.erased = false) :
    standbyWrite s = { (drawFree s).2 with slp := { s.slp with standby := {
      valid := true, keys := (List.range 6).map (fun i => tapKey (40 + i) s)
      root := padTo 48 (Config.freeBytes (drawFree s).1.toNat), grainSeq := grnInstalledSeq s } } } := if_neg (Bool.eq_false_iff.mp h)

theorem foldS_same {α : Type} {f : α → State → State} : ∀ {l : List α} {s : State}, (∀ a ∈ l, f a s = s) → foldS f l s = s
  | [], _, _ => rfl
  | a :: l, s, h => by
    rw [foldS_cons, h a List.mem_cons_self]
    exact foldS_same fun b hb => h b (List.mem_cons_of_mem a hb)

/-- A device without Canopy's state, lanes and disables has nothing to end before it sleeps. -/
theorem lanesDisabled_idle (hc : s.cnp = {}) (hd : s.dis = []) (hrole : ∀ l, (leafAt l s).role ≠ 1) :
    lanesDisabled (ringsWritten (payloadsEnded s)) = s := by
  have hpay : payloadsEnded s = s := by
    have hclear : Machine.modCnp (fun n => { n with payloads := [] }) s = s :=
      congrArg (fun x => { s with cnp := x }) (show ({ s.cnp with payloads := [] } : Cnp) = s.cnp by rw [hc])
    have hnone : s.cnp.payloads = [] := by rw [hc]
    rw [payloadsEnded, hclear, hnone, foldS_nil]
  have hrings : ringsWritten s = s := foldS_same fun c _ => by
    have hbuf : (chanAt c s).buf = [] := by rw [chanAt, hc]; rfl
    rw [hbuf]; rfl
  have hlane : ∀ l : Fin 192, disActs (.lane l) s = false := fun l => by simp [disActs, isLane, hc, roleLane, hrole]
  have hgroup : ∀ u, disOf u s = {} := fun u => by rw [disOf, hd]; rfl
  rw [hpay, hrings]
  refine foldS_same fun l _ => ?_
  dsimp only
  rw [disStart_idle (hlane _)]
  exact disComplete_waits (.inl (by rw [hgroup]))

theorem sleepEnterS_eq (n : Nat) (s : State) : sleepEnterS n { s with out := [] } =
    if s.slp.state = 0 then foldS (fun d s => disStart (.custody (Fin.ofNat 32 d)) false s) (List.range 32)
      { atInput n s with slp := { s.slp with state := 1 } }
    else atInput n s := ite_not _ _ _

end sleep

/-- The wait of R79 is over: the flush is done, and PFW_N has been high for 10 ms. -/
def recovers (n : Nat) (s : State) : Prop :=
  s.boot.pwrgood = true ∧ s.nrg.flush = .done ∧ s.nrg.pfwBall = false ∧ ∃ h, s.nrg.pfwHigh = some h ∧ h + 10000000000 ≤ max s.now n

theorem pfwRecoveryResetS_recovers {n : Nat} {i : StartIn} {s : State} (h : recovers n s) :
    pfwRecoveryResetS n i { s with out := [] } = fullReset i (atInput n s) := by
  obtain ⟨hpw, hf, hball, k, hhigh, hle⟩ := h
  have hms : k + 10 * psMs ≤ max s.now n := hle
  refine if_pos ?_
  simp [hpw, hf, hball, hhigh, hms]

theorem pfwRecoveryResetS_waits {n : Nat} {i : StartIn} {s : State} (h : ¬ recovers n s) :
    pfwRecoveryResetS n i { s with out := [] } = atInput n s := by
  refine if_neg fun hc => h ?_
  simp only [Bool.and_eq_true, beq_iff_eq, Bool.not_eq_true'] at hc
  obtain ⟨⟨⟨hpw, hf⟩, hball⟩, hhigh⟩ := hc
  refine ⟨hpw, hf, hball, ?_⟩
  split at hhigh
  · next k hk => exact ⟨k, hk, of_decide_eq_true hhigh⟩
  · cases hhigh

/-- Settles O28: a warning is `stopWork` on the state with the settle step begun, the pages of a flush stand whatever the keep port does next
(`PortStep`), and the steps before deep sleep keep what SLEEP_READY reads (`SleepsAs`). -/
theorem powerFailAndSleep : Obligations.PowerFailAndSleep := by
  unfold Obligations.PowerFailAndSleep
  refine ⟨fun n s hpw => ?warn, fun d s hr hc ha hw => cusStop_holds hr hc ha hw, fun n s hpw => ?off, fun s hf => ?noSettle,
    fun s hf hshut hown => ?silent, fun s hf hk he hr => ?writes, fun n s => rfl, fun n i s => ?recovery, fun n s hl => ?enter,
    fun n s hl => ?ready, fun n s hl h1 hdom hcnp hacts hpages hlnk hdis he hrole => ?idle⟩
  case warn =>
    have heq := pfwAssertS_on (n := n) hpw
    refine ⟨fun hf hs => ?_, fun h => ?_⟩
    · have hstop : exec (.pfwAssert n) s = .next (stopWork (settling n s)) := congrArg Host.Outcome.next (heq.trans (if_pos ⟨hf, hs⟩))
      rw [hstop, stopWork_eq, settling, warningCounted]
    · exact congrArg Host.Outcome.next (heq.trans (if_neg fun ⟨hf, hs⟩ => h.elim (· hf) hs))
  case off => exact congrArg Host.Outcome.next (pfwAssertS_off (s := { s with out := [] }) hpw n)
  case noSettle => exact congrArg Host.Outcome.next (if_pos hf)
  case silent => exact congrArg Host.Outcome.next (flushSettleEndS_silent hf hshut hown)
  case writes =>
    exact ⟨⟨_, rfl, flushSettleEndS_pages hf hk he hr⟩, fun ⟨q, hq, hkind⟩ =>
      congrArg Host.Outcome.next (flushSettleEndS_joins hf hk he hr hq hkind)⟩
  case recovery =>
    refine ⟨fun k hready hplain => ?_, fun hwait => congrArg Host.Outcome.next (pfwRecoveryResetS_waits hwait)⟩
    refine congrArg Host.Outcome.next ((pfwRecoveryResetS_recovers hready).trans ?_)
    rw [fullReset, coreReset_eq, startUp_afterReset hplain]
  case enter =>
    refine ⟨fun hpf h0 => act_pf1_next hl hpf ((sleepEnterS_eq n s).trans (if_pos h0)),
      fun hpf h0 => act_pf1_next hl hpf ((sleepEnterS_eq n s).trans (if_neg h0)), fun hpf => act_noPf1 hl hpf⟩
  case ready =>
    refine ⟨fun hn => act_next hl (sleepReadyS_waits n fun ⟨h1, hd⟩ => hn ⟨h1, sleepDrained_iff.mp hd⟩), fun ⟨h1, hd⟩ he => ?_,
      fun ⟨h1, hd⟩ he => ?_⟩
    · obtain ⟨t, hst, heq⟩ := sleepReadyS_slept n h1 (sleepDrained_iff.mpr hd)
      rw [standbyWrite_erased (by rw [hst.tmp]; exact he)] at heq
      exact ⟨_, act_next hl heq, congrArg (fun x : Slp => { x with state := 2 }) hst.slp, hst.payloads⟩
    · obtain ⟨t, hst, heq⟩ := sleepReadyS_slept n h1 (sleepDrained_iff.mpr hd)
      rw [standbyWrite_kept (by rw [hst.tmp]; exact he)] at heq
      have hkeys := congrArg (fun v : Vault => (List.range 6).map (fun i => tget [] v.tap (40 + i))) hst.vault
      have hseq := congrArg (fun g : Grn => if g.installed then g.grain.seq else 0) hst.grn
      exact ⟨_, act_next hl heq, rfl, rfl, hkeys, hseq, hst.payloads⟩
  case idle =>
    have hdrained : sleepDrained s = true := sleepDrained_iff.mpr (by simp [hdom, hcnp, hacts, hpages, hlnk])
    refine act_next hl ((sleepReadyS_sleeps n h1 hdrained).trans ?_)
    dsimp only
    rw [lanesDisabled_idle (s := atInput n s) hcnp hdis hrole, standbyWrite_kept (s := atInput n s) he]
    rfl

/-! ### What the format of a blank keep flash erases (R235) -/

section format
variable {s : State}

/-- With no mirror out of use an erase reaches both. -/
theorem eraseMirrors_both (hd : s.kpf.degraded = 0) (hc : s.kpf.copyDue = 0) : eraseMirrors s = [0, 1] := by
  simp [eraseMirrors, mirrors, mirUsed, mirOut, copyMir, hd, hc]

theorem mir_outputs {α : Type} (g : α → Output) (m : Nat) : ∀ (l : List α) (s : State), mir m (foldS (fun a s => emitOut (g a) s) l s) = mir m s
  | [], _ => rfl
  | a :: l, s => mir_outputs g m l (emitOut (g a) s)

theorem mir_onThe_both {m : Nat} (hm : m < 2) (f : Nat → Mirror → Mirror) (s : State) : mir m (onThe [0, 1] f s) = f m (mir m s) := by
  interval_cases m <;> rfl

theorem mir_keepEraseRange {m : Nat} (hm : m < 2) (hd : s.kpf.degraded = 0) (hc : s.kpf.copyDue = 0) (lo n : Nat) :
    mir m (keepEraseRange lo n s) = (mir m s).erase lo n := by
  unfold keepEraseRange
  rw [eraseMirrors_both hd hc]
  exact (mir_outputs _ m _ _).trans (mir_onThe_both hm _ s)

/-- Outside two erased ranges a mirror in canonical form reads as before. -/
theorem read_erase_erase {x : Mirror} (hw : twf [] x.pages = true) {lo n lo' n' k : Nat} (hk : k < lo ∨ lo + n ≤ k)
    (hk' : k < lo' ∨ lo' + n' ≤ k) : ((x.erase lo n).erase lo' n').read k = x.read k := by
  have hkept : ((decide (k < lo') || decide (lo' + n' ≤ k)) && (decide (k < lo) || decide (lo + n ≤ k))) = true := by simp [hk, hk']
  have hpages : ((x.erase lo n).erase lo' n').pages = tfilter
      (fun k => (decide (k < lo') || decide (lo' + n' ≤ k)) && (decide (k < lo) || decide (lo + n ≤ k))) x.pages := List.filter_filter
  have hget : tget [] ((x.erase lo n).erase lo' n').pages k = tget [] x.pages k := by
    rw [hpages, tget_tfilter _ _ _ _ hw, if_pos hkept]
  unfold Mirror.read
  rw [hget]

theorem mir_keepNext_format {k : Nat} {ks : List Nat} (h : s.kpf.formatDue = k :: ks) (m : Nat) : mir m (keepNext s) = mir m s := by
  unfold keepNext
  rw [h]
  dsimp only
  split
  · rfl
  · exact (mir_outputs _ m _ _).trans rfl

/-- Both mirrors as the format erases them: the journal, the ceiling tables and the mission log. -/
def formatErased (s : State) : State :=
  foldS (fun m s => emitOut (.erase m (256 * tableBase 0) (512 * tableRange)) s) [0, 1]
    (onThe [0, 1] (fun _ x => { x with table0 := none, table1 := none })
      (keepEraseRange logBase logRange (keepEraseRange 0 (tableBase 0) s)))

theorem formatErased_step (s : State) : PortStep s (formatErased s) :=
  ((PortStep.keepEraseRange _ _ _).trans (.keepEraseRange _ _ _)).trans (.trans (.onThe _ _ _) (.foldS (fun _ _ => .emitOut _ _) _ _))

/-- The blank journal with its headers still to be written. -/
def formatBegun (s : State) : State :=
  emit .info 0x2043 srcKeep [] { formatErased s with kpf := { (formatErased s).kpf with
    result := 0x2043, seq := 1, headSector := journalSectors - 1, headPage := 16, freeSectors := journalSectors
    erases := [], formatDue := formatPages, logNext := 1 } }

section blank
variable (hd : s.kpf.degraded = 0) (hc : s.kpf.copyDue = 0) (ha : s.fuses.anchor = 0)
include hd hc

theorem mir_formatErased {m : Nat} (hm : m < 2) :
    mir m (formatErased s) = { ((mir m s).erase 0 (tableBase 0)).erase logBase logRange with table0 := none, table1 := none } := by
  have hstep := PortStep.keepEraseRange 0 (tableBase 0) s
  have hd' := (congrArg (·.kpf.degraded) hstep).trans hd
  have hc' := (congrArg (·.kpf.copyDue) hstep).trans hc
  unfold formatErased
  rw [mir_outputs, mir_onThe_both hm, mir_keepEraseRange hm hd' hc', mir_keepEraseRange hm hd hc]

include ha

theorem keepFormat_eq : keepFormat s = keepNext (formatBegun s) := by
  have hanchor : (formatBegun s).fuses.anchor = 0 := by
    have hfuses := congrArg (·.fuses.anchor) (formatErased_step s)
    unfold formatBegun
    rw [emit_fuses]
    exact hfuses.trans ha
  unfold keepFormat
  rw [eraseMirrors_both hd hc]
  refine congrArg keepNext (if_neg ?_)
  exact (Nat.le_of_eq hanchor).not_gt

theorem mir_keepFormat {m : Nat} (hm : m < 2) :
    mir m (keepFormat s) = { ((mir m s).erase 0 (tableBase 0)).erase logBase logRange with table0 := none, table1 := none } := by
  have hbegun : mir m (formatBegun s) = mir m (formatErased s) := by
    unfold formatBegun mir
    rw [emit_kpf]
  have hdue : (formatBegun s).kpf.formatDue = [0, 16] := by
    unfold formatBegun
    rw [emit_kpf]
    rfl
  rw [keepFormat_eq hd hc ha, mir_keepNext_format hdue, hbegun, mir_formatErased hd hc hm]

end blank

theorem mir_copyQueue (m : Nat) (s : State) : mir m (copyQueue s) = mir m s := by
  unfold copyQueue
  split <;> rfl

theorem deriveJmk_same (s : State) : deriveJmk s = { s with vault := (deriveJmk s).vault } := by
  unfold deriveJmk setTap
  split
  · rfl
  · split <;> rfl

/-- The journal is read with its key derived. -/
def journalRead (s : State) : State := deriveJmk (withKpf { s.kpf with replayed := true, keylessRead := false } { s with out := [] })

/-- The clause of O37 on stored Grains, with the premise that it lacks: both mirrors list their pages in canonical form. -/
theorem journalReplay_keepsGrains (hl : live s = true) (hr : s.kpf.replayed = false) (hrom : s.boot.romRunning = true)
    (hp : s.boot.phase = .dram ∨ s.boot.phase = .helper) (hk : s.boot.keyless = false) (ha : s.fuses.anchor = 0) (hc : s.kpf.copyDue = 0)
    (hd : s.kpf.degraded = 0) (hw : ∀ m < 2, twf [] (mir m s).pages = true)
    (hf : keepFormatted (journalRead s) = false) :
    ∃ t, exec .journalReplay s = .next t ∧
      ∀ m < 2, ∀ k, grainBase 0 ≤ k → k < logBase → (mir m t).read k = (mir m s).read k := by
  have hwaits : ¬ (s.kpf.replayed || !s.boot.romRunning || s.boot.phase == .rom || s.boot.phase == .fuses || s.boot.phase == .entropy) = true := by
    rcases hp with hp | hp <;> simp [hr, hrom, hp]
  have hsame : journalRead s = _ := deriveJmk_same _
  have hkeys : ¬ (journalRead s).boot.keyless = true := by rw [hsame]; exact Bool.eq_false_iff.mp hk
  have hread : journalReplayS { s with out := [] } = copyQueue (keepFormat (journalRead s)) := by
    refine (if_neg hwaits).trans ?_
    dsimp only
    rw [hk]
    exact (if_neg (Bool.eq_false_iff.mp hf)).trans (if_neg hkeys)
  refine ⟨_, act_next hl hread, fun m hm k hlo hhi => ?_⟩
  have hmir : mir m (journalRead s) = mir m s := by rw [hsame]; rfl
  rw [mir_copyQueue, mir_keepFormat (by rw [hsame]; exact hd) (by rw [hsame]; exact hc) (by rw [hsame]; exact ha) hm, hmir]
  have hjournal : k < 0 ∨ 0 + tableBase 0 ≤ k := .inr (le_trans (by decide) hlo)
  exact read_erase_erase (hw m hm) hjournal (.inl hhi)

end format

/-! ### A mirror out of order (O37) -/

/-- A blank device about to read its journal. The first mirror lists a page of the mission log before a page of a stored Grain, so that a
read, which looks for page numbers in rising order, stops at the first. -/
def unorderedMirror : State :=
  { boot := { pwrgood := true, romRunning := true, phase := .dram }
    kpf := { m0 := { pages := [(logBase, [0]), (grainBase 0, [0])] } } }

theorem unorderedMirror_unformatted : keepFormatted (journalRead unorderedMirror) = false := by decide +kernel

/-- The Grain's page does not read before the format. -/
theorem unorderedMirror_hides : (mir 0 unorderedMirror).read (grainBase 0) = erasedPage := by decide +kernel

/-- Once the format has erased the log page, it does. -/
theorem unorderedMirror_shows : ∃ t, exec .journalReplay unorderedMirror = .next t ∧ (mir 0 t).read (grainBase 0) = [0] :=
  ⟨_, rfl, by decide +kernel⟩

/-- Refutes O37: the format of a blank keep flash is said to leave every stored Grain as it reads, but that clause, unlike the one of
KEEP_PAGE_DONE, does not ask for mirrors in canonical form. In `unorderedMirror` the erase of the mission log uncovers a page of a Grain.
`journalReplay_keepsGrains` is the clause with the premise. -/
theorem not_journalRows : ¬ Obligations.JournalRows := by
  unfold Obligations.JournalRows
  rintro ⟨-, -, -, -, -, -, -, -, -, hreplay, -⟩
  obtain ⟨hformat, -⟩ := hreplay unorderedMirror (by decide +kernel) rfl rfl (.inl rfl) rfl rfl rfl
  obtain ⟨t, hexec, -, -, -, -, -, -, -, -, -, hmirrors⟩ := hformat unorderedMirror_unformatted rfl rfl rfl
  obtain ⟨u, hu, hshows⟩ := unorderedMirror_shows
  obtain rfl : t = u := Host.Outcome.next.inj (hexec.symm.trans hu)
  obtain ⟨-, -, hpages⟩ := hmirrors 0 (by decide)
  obtain ⟨hkept, -⟩ := hpages (grainBase 0)
  have hread := hkept le_rfl (by decide)
  rw [hshows, unorderedMirror_hides] at hread
  exact absurd hread (by decide +kernel)

end Sys2Proof
end

section
/-!
PROOFS. Scope: requests of a sap unit that take their tag, key derivation and random bytes (spec/05_heartwood_keys.md R129, R131,
spec/06_entropy_and_check_units.md R152).
-/
namespace Sys2Proof
open Machine

/-! ### A request takes its tag (R396, R397) -/

section take
variable {l t : Nat} {r : SapReq} {ins : List (Nat × Nat)} {n : Nat} {s : State}

/-- The guards of a request's inputs and of its output. -/
def sapGuards (t : Nat) (r : SapReq) (ins : List (Nat × Nat)) (n : Nat) (x : Leaf) : Leaf :=
  (ins.foldl (fun x (i : Nat × Nat) => x.guard t false i.1 i.2) x).guard t true r.dst n

/-- The tag of a request that has been taken. -/
def sapTagged (r : SapReq) : SapTag := { req := some r, res := 0, mid := none }

theorem sapTagged_ne (r : SapReq) : sapTagged r ≠ {} := fun h => nomatch congrArg SapTag.req h

/-- A guard changes the leaf's list of guards alone. -/
theorem guard_eq (x : Leaf) (who : Nat) (o : Bool) (a k : Nat) : x.guard who o a k = { x with guards := (x.guard who o a k).guards } := by
  unfold Leaf.guard
  split <;> rfl

theorem mem_guard {g : Guard} {x : Leaf} (h : g ∈ x.guards) (who : Nat) (o : Bool) (a k : Nat) : g ∈ (x.guard who o a k).guards := by
  unfold Leaf.guard
  split
  · exact h
  · exact List.mem_append_left _ h

theorem sapInputs_eq (t : Nat) : ∀ (ins : List (Nat × Nat)) (x : Leaf),
    ins.foldl (fun x (i : Nat × Nat) => x.guard t false i.1 i.2) x =
      { x with guards := (ins.foldl (fun x (i : Nat × Nat) => x.guard t false i.1 i.2) x).guards }
  | [], _ => rfl
  | i :: ins, x => by
    rw [List.foldl_cons, sapInputs_eq t ins, guard_eq]

theorem mem_sapInputs {g : Guard} (t : Nat) : ∀ (ins : List (Nat × Nat)) {x : Leaf}, g ∈ x.guards →
    g ∈ (ins.foldl (fun x (i : Nat × Nat) => x.guard t false i.1 i.2) x).guards
  | [], _, h => h
  | _ :: ins, _, h => mem_sapInputs t ins (mem_guard h _ _ _ _)

theorem sapGuards_eq (x : Leaf) : sapGuards t r ins n x = { x with guards := (sapGuards t r ins n x).guards } := by
  unfold sapGuards
  rw [guard_eq, sapInputs_eq]

theorem mem_sapGuards {g : Guard} {x : Leaf} (h : g ∈ x.guards) : g ∈ (sapGuards t r ins n x).guards :=
  mem_guard (mem_sapInputs t ins h) _ _ _ _

/-- Every byte of a guarded output lies on a guarded line. -/
theorem lineGuarded_guard (x : Leaf) (who : Nat) {dst a : Nat} (hd : dst < 0x10000) (h1 : dst ≤ a) (h2 : a < dst + n) :
    lineGuarded (x.guard who true dst n) a true = true := by
  have hskip : ¬ (n = 0 ∨ 0x10000 ≤ dst) := by omega
  unfold Leaf.guard lineGuarded
  rw [if_neg hskip]
  simp only [List.any_append, Bool.or_eq_true, List.any_cons]
  refine .inr (.inl ?_)
  simp only [Bool.not_true, Bool.or_false, Bool.true_and, decide_eq_true_eq]
  exact ⟨Nat.div_le_div_right h1, Nat.div_le_div_right (by omega)⟩

/-- A request taken changes its leaf, where it guards its lines and fills its tag, and the live counters. -/
theorem sapTake_eq (hr : (leafAt l s).released = true) :
    ∃ c, sapTake l t r ins n s = { setLeaf l { sapGuards t r ins n (leafAt l s) with tags := tset {} (leafAt l s).tags t (sapTagged r) } s with
      tel := { s.tel with ctr := c } } := by
  have hg : (sapGuards t r ins n (leafAt l s)).released = true := by rw [sapGuards_eq]; exact hr
  have htags : (sapGuards t r ins n (leafAt l s)).tags = (leafAt l s).tags := by rw [sapGuards_eq]
  have hset : setSapTag l t (sapTagged r) (modLeaf l (sapGuards t r ins n) s) =
      setLeaf l { sapGuards t r ins n (leafAt l s) with tags := tset {} (leafAt l s).tags t (sapTagged r) } s := by
    rw [setSapTag, modLeaf_comp l _ _ s hg, modLeaf_eq, htags]
  have htake : sapTake l t r ins n s = (if r.code = 0xF000 then
      bump (cBough (boughOfLeaf l) 2) (bump (cBough (boughOfLeaf l) 1) (setSapTag l t (sapTagged r) (modLeaf l (sapGuards t r ins n) s)))
      else bump (cBough (boughOfLeaf l) 1) (setSapTag l t (sapTagged r) (modLeaf l (sapGuards t r ins n) s))) := rfl
  rw [htake, hset]
  split <;> exact ⟨_, rfl⟩

theorem sapTag_sapTake : sapTag l t (sapTake l t r ins n s) = sapTagged r := by
  have hset : ∀ u : State, sapTag l t (setSapTag l t (sapTagged r) u) = sapTagged r := by
    intro u
    have htag : tget {} (tset {} (leafAt l u).tags t (sapTagged r)) t = sapTagged r := tget_tset_ne _ _ _ _ (sapTagged_ne r)
    have hne : ({ leafAt l u with tags := tset {} (leafAt l u).tags t (sapTagged r) } : Leaf) ≠ {} := by
      intro h
      have hnil : tset {} (leafAt l u).tags t (sapTagged r) = [] := congrArg Leaf.tags h
      rw [hnil] at htag
      exact sapTagged_ne r htag.symm
    rw [sapTag, setSapTag, leafAt_modLeaf _ _ _ hne]
    exact htag
  unfold sapTake
  dsimp only
  split <;> exact hset _

theorem sapTake_req : (sapTag l t (sapTake l t r ins n s)).req = some r := congrArg SapTag.req sapTag_sapTake

theorem sapTake_vault : (sapTake l t r ins n s).vault = s.vault := by unfold sapTake; dsimp only; split <;> rfl
theorem sapTake_lnk : (sapTake l t r ins n s).lnk = s.lnk := by unfold sapTake; dsimp only; split <;> rfl
theorem sapTake_ent : (sapTake l t r ins n s).ent = s.ent := by unfold sapTake; dsimp only; split <;> rfl

/-- A request whose output, if it has any, goes to `dst` in data memory. -/
theorem sapTaken_sapTake {l : Nat} {t : Fin 8} {dst : Nat} (hr : (leafAt l s).released = true) (ho : s.out = [])
    (hd : n = 0 ∨ (r.dst = dst ∧ dst < 0x10000)) : SapTaken l t dst n s (sapTake l t r ins n s) := by
  obtain ⟨c, hc⟩ := sapTake_eq (t := t) (r := r) (ins := ins) (n := n) hr
  have hne : (sapGuards t r ins n (leafAt l s)).released = true := by rw [sapGuards_eq]; exact hr
  obtain ⟨hself, hother⟩ :=
    leafOnly_setLeaf l { sapGuards t r ins n (leafAt l s) with tags := tset {} (leafAt l s).tags t (sapTagged r) } s hne
  have hleaf : leafAt l (sapTake l t r ins n s) =
      { sapGuards t r ins n (leafAt l s) with tags := tset {} (leafAt l s).tags t (sapTagged r) } := by rw [hc]; exact hself
  have hguards : (leafAt l (sapTake l t r ins n s)).guards = (sapGuards t r ins n (leafAt l s)).guards := by rw [hleaf]
  refine ⟨by rw [hc, ← ho]; rfl, fun k hk => by rw [hc]; exact hother k hk, ?_, fun j hj => ?_, ?_, ?_, fun g hg => ?_, fun a h1 h2 => ?_⟩
  · rw [hleaf, sapGuards_eq]
  · rw [sapTag, hleaf]
    exact tget_tset_ne_other _ _ _ _ _ (sapTagged_ne r) hj
  · rw [sapTag_sapTake]; rfl
  · rw [sapTag_sapTake]; rfl
  · rw [hguards]
    exact mem_sapGuards hg
  · obtain ⟨rfl, hlt⟩ : r.dst = dst ∧ dst < 0x10000 := hd.resolve_left (by omega)
    rw [show lineGuarded (leafAt l (sapTake l t r ins n s)) a true = lineGuarded (sapGuards t r ins n (leafAt l s)) a true by
      unfold lineGuarded; rw [hguards]]
    exact lineGuarded_guard _ _ hlt h1 h2

end take

/-! ### Generic requests of good form (R396, R400) -/

section submit
variable {l : Nat} {t : Fin 8} {desc : BitVec 16} {op : Nat} {s : State}

theorem SapGood.live (h : SapGood l t desc op s) : live s = true := h.1

theorem SapGood.released (h : SapGood l t desc op s) : (leafAt l s).released = true := leafCanIssue_released h.2.1

/-- The output of a good descriptor, if it has any, goes to data memory. -/
theorem SapGood.out (h : SapGood l t desc op s) : sapOutLen op (sapD l desc s) = 0 ∨ (sapD l desc s).dst < 0x10000 := by
  obtain ⟨-, -, -, hform, -⟩ := h
  simp only [sapForm, Bool.and_eq_true, Bool.or_eq_true, beq_iff_eq, decide_eq_true_eq] at hform
  omega

theorem SapGood.form (h : SapGood l t desc op s) : ¬ (!sapForm op (sapD l desc s)) = true := by
  obtain ⟨-, -, -, hform, -⟩ := h
  simp [hform]

/-- The output of a good descriptor overlaps none of its inputs. -/
theorem SapGood.areas (h : SapGood l t desc op s) :
    ¬ ([(desc.toNat, 32), ((sapD l desc s).src, (sapD l desc s).srcLen), ((sapD l desc s).aux, (sapD l desc s).auxLen)].any
      fun i => overlaps (sapD l desc s).dst (sapOutLen op (sapD l desc s)) i.1 i.2) = true := by
  obtain ⟨-, -, -, -, hdesc, hsrc, haux⟩ := h
  simp [hdesc, hsrc, haux]

/-- The request that the leaf names, as the sap unit runs it on the tag's message so far. -/
def sapRuns (l op : Nat) (t : Fin 8) (desc : BitVec 16) (s : State) : SapReq × State :=
  sapRun l op (mread 0 (leafAt l s).dmem desc.toNat 32) desc.toNat (if sapSpans op then (sapTag l t s).mid else none) s

/-- A good request of an operation without AES blocks takes its tag as the sap unit runs it. -/
theorem sapCmd_good (h : SapGood l t desc op s) (hb : sapAesBlocks op (sapD l desc s).srcLen = 0) :
    sapCmd op l t desc s = sapTake l t (sapRuns l op t desc s).1
      [(desc.toNat, 32), ((sapD l desc s).src, (sapD l desc s).srcLen), ((sapD l desc s).aux, (sapD l desc s).auxLen)]
      (sapOutLen op (sapD l desc s)) (sapRuns l op t desc s).2 := by
  obtain ⟨-, hissue, hidle, hform, -⟩ := h
  have hfree : ¬ (sapTag l t s).req.isSome = true := by simp [hidle]
  have hdesc : sapDesc (mread 0 (leafAt l s).dmem desc.toNat 32) = sapD l desc s := rfl
  refine (if_pos hissue).trans ((if_neg hfree).trans ?_)
  rw [hdesc, if_pos hform, if_pos hform]
  simp only [hb, ne_eq, not_true_eq_false, false_and, if_false]
  rfl

theorem sapRuns_kdf (h : SapGood l t desc 0x18 s) (hk : sapKeyOk l 0x18 (sapD l desc s) s) (hlt : (sapD l desc s).key < 4096) :
    sapRuns l 0x18 t desc s = (let d := sapD l desc s
      { sapDerive d d.key (vslot d.key s).mat (localRead l d.aux d.auxLen s) s with key := some (d.key, (vslot d.key s).gen) }, s) := by
  obtain ⟨u, ts, huse, hcheck⟩ := hk
  obtain ⟨rfl, rfl⟩ : 4 = u ∧ [2, 3, 4] = ts := Prod.mk.inj (Option.some.inj huse)
  have hdesc : sapDesc (mread 0 (leafAt l s).dmem desc.toNat 32) = sapD l desc s := rfl
  have hin : ¬ decide (4096 ≤ (sapD l desc s).key) = true := by simpa using hlt
  refine (if_neg h.form).trans ((if_neg h.areas).trans ?_)
  rw [huse]
  simp only [hdesc, if_neg hin, hcheck, if_pos]

theorem sapRuns_random (h : SapGood l t desc 0x20 s) : sapRuns l 0x20 t desc s =
    sapDraw l { op := 0x20, dst := (sapD l desc s).dst, once := true, draw := some ((sapD l desc s).outLen, s.now) } s :=
  (if_neg h.form).trans (if_neg h.areas)

end submit

/-! ### Key derivation (R129) -/

section derive
variable {d : SapDesc} {n : Nat} {key aux : Bytes} {s : State}

theorem sapDerive_open (ho : d.outOpen = true) (hd : attrDest (vslot n s).attr = 2) :
    sapDerive d n key aux s = sapOk 0x18 d (sapKdf key aux d.outLen) true := (if_pos ho).trans (if_pos hd)

theorem sapDerive_openRefused (ho : d.outOpen = true) (hd : attrDest (vslot n s).attr ≠ 2) :
    sapDerive d n key aux s = sapRefuse 0x18 d 0x5002 := (if_pos ho).trans (if_neg hd)

theorem sapDerive_slotRefused (ho : d.outOpen = false) (hd : attrDest (vslot n s).attr ≠ 0) :
    sapDerive d n key aux s = sapRefuse 0x18 d 0x5002 := (if_neg (Bool.eq_false_iff.mp ho)).trans (if_pos hd)

theorem sapDerive_slot (ho : d.outOpen = false) (hd : attrDest (vslot n s).attr = 0) (hc : newSlotCode d.outKey d.outAttr s = none)
    (ht : attrType d.outAttr ≠ 5) :
    sapDerive d n key aux s = { op := 0x18, toSlots := [(d.outKey, d.outAttr, sapKdf key aux (matLen d.outAttr s))] } := by
  simp [sapDerive, ho, hd, hc, ht]

/-- With open output, granted or refused, a derivation names the descriptor's output area. -/
theorem sapDerive_dst (ho : d.outOpen = true) : (sapDerive d n key aux s).dst = d.dst := by
  by_cases hd : attrDest (vslot n s).attr = 2
  · rw [sapDerive_open ho hd]; rfl
  · rw [sapDerive_openRefused ho hd]; rfl

end derive

/-! ### Draws from a limb's DRBG (R152) -/

section draw
variable {i n : Nat} {fresh : Bool} {b : Bytes} {s t : State}

/-- A draw changes the conditioned blocks and the instances. -/
theorem drbgRequest_same (h : drbgRequest i fresh n s = some (b, t)) :
    t = { s with ent := { s.ent with blocks := t.ent.blocks, drbg := t.ent.drbg } } := by
  have hreseed : ∀ {u : State}, drbgReseedNow i s = some u →
      u = { s with ent := { s.ent with blocks := u.ent.blocks, drbg := u.ent.drbg } } := by
    intro u hu
    unfold drbgReseedNow takeBlocks at hu
    split at hu
    · cases hu
    · next hb =>
      split at hb
      · cases hb; cases hu; rfl
      · cases hb
  unfold drbgRequest at h
  split at h
  · cases h
  · split at h
    · cases h
    · next u hu =>
      cases h
      split at hu
      · rw [hreseed hu]; rfl
      · cases hu; rfl

/-- A request that has just begun to wait has not waited out its 10 ms. -/
theorem waitedOut_now : waitedOut s.now s = false := by simp [waitedOut, psMs]

variable {l : Nat} {r : SapReq} {k since : Nat}

/-- A request whose generator has no output waits on. -/
theorem sapDraw_waits (hd : r.draw = some (k, s.now)) (h : drbgRequest (limbOfBough (boughOfLeaf l)) false k s = none) :
    sapDraw l r s = (r, s) := by
  simp [sapDraw, hd, h, waitedOut_now]

theorem sapDraw_output (hd : r.draw = some (k, since)) (hs : r.toSlots = [])
    (h : drbgRequest (limbOfBough (boughOfLeaf l)) false k s = some (b, t)) :
    sapDraw l r s = ({ r with draw := none, len := k, out := b }, t) := by
  simp [sapDraw, hd, h, hs]

theorem sapDraw_slots (hd : r.draw = some (k, since)) (hs : r.toSlots ≠ [])
    (h : drbgRequest (limbOfBough (boughOfLeaf l)) false k s = some (b, t)) :
    sapDraw l r s = ({ r with draw := none, toSlots := r.toSlots.map (fun e => (e.1, e.2.1, b)) }, t) := by
  simp [sapDraw, hd, h, hs]

end draw

/-- Settles O15: each request takes its tag (`sapTaken_sapTake`) as `sapDerive` or `sapDraw` makes it. -/
theorem sapDerivesAndRandom : Obligations.SapDerivesAndRandom := by
  unfold Obligations.SapDerivesAndRandom
  refine ⟨?kdf, ?random⟩
  case kdf =>
    intro l t desc s hgood d hkey hlt v aux
    have hgood' : SapGood l t desc 0x18 { s with out := [] } := hgood
    have hrun := sapRuns_kdf hgood' hkey hlt
    have hout : sapOutLen 0x18 d = 0 ∨ ((sapRuns l 0x18 t desc { s with out := [] }).1.dst = d.dst ∧ d.dst < 0x10000) := by
      cases ho : d.outOpen with
      | false => exact .inl (by simp [sapOutLen, ho])
      | true => exact hgood.out.imp_right fun hdst => ⟨by rw [hrun]; exact sapDerive_dst ho, hdst⟩
    refine ⟨_, _, (act_live hgood.live).trans (congrArg Host.Outcome.next (sapCmd_good hgood' rfl)), ?_, sapTake_req, ?_⟩
    · rw [hrun] at hout ⊢
      exact sapTaken_sapTake hgood'.released rfl hout
    rw [hrun]
    refine ⟨fun ho hd => ?_, fun ho hd => ?_, fun ho hd => ?_, fun ho hd hc ht => ?_⟩
    · have h := sapDerive_open (key := v.mat) (aux := aux) ho hd
      exact ⟨congrArg SapReq.code h, congrArg SapReq.out h, congrArg SapReq.once h, congrArg SapReq.toSlots h⟩
    · have h := sapDerive_openRefused (key := v.mat) (aux := aux) ho hd
      exact ⟨congrArg SapReq.code h, congrArg SapReq.secure h, congrArg SapReq.toSlots h⟩
    · have h := sapDerive_slotRefused (key := v.mat) (aux := aux) ho hd
      exact ⟨congrArg SapReq.code h, congrArg SapReq.secure h, congrArg SapReq.toSlots h⟩
    · have h := sapDerive_slot (key := v.mat) (aux := aux) ho hd hc ht
      exact ⟨congrArg SapReq.code h, congrArg SapReq.out h, congrArg SapReq.toSlots h⟩
  case random =>
    intro l t desc s hgood d i
    have hgood' : SapGood l t desc 0x20 { s with out := [] } := hgood
    have hrun := sapRuns_random hgood'
    have hout : d.outLen = 0 ∨ d.dst < 0x10000 := hgood.out
    have hexec : exec (.sapRandomBytes l t desc) s = _ :=
      (act_live hgood.live).trans (congrArg Host.Outcome.next (sapCmd_good hgood' rfl))
    split
    next b u hdraw =>
      rw [sapDraw_output rfl rfl hdraw] at hrun
      rw [hrun] at hexec
      have hsame := drbgRequest_same hdraw
      have hr : (leafAt l u).released = true := by rw [hsame]; exact hgood'.released
      have ho : u.out = [] := by rw [hsame]
      exact ⟨_, _, hexec, sapTaken_sapTake hr ho (hout.imp_right fun h => ⟨rfl, h⟩), sapTake_req, rfl, rfl, rfl, rfl, rfl⟩
    next hdraw =>
      rw [sapDraw_waits rfl hdraw] at hrun
      rw [hrun] at hexec
      exact ⟨_, _, hexec, sapTaken_sapTake hgood'.released rfl (hout.imp_right fun h => ⟨rfl, h⟩), sapTake_req, rfl, rfl, rfl⟩

end Sys2Proof
end

section
/-!
PROOFS. Scope: the MKA program's operations on keys and SAs (spec/12_link_guard.md R329 to R338, spec/05_heartwood_keys.md R128).
-/
namespace Sys2Proof
open Machine

/-! ### MKA operations take their tag (R334) -/

section mka
variable {l op : Nat} {tg : Fin 8} {desc : BitVec 16} {s : State}

theorem exec_mkaOp {c : Instr} {l : Fin 192} (h : MkaOp c op l tg desc) (s : State) : exec c s = act (mkaSubmit op l tg desc.toNat) s := by
  cases h <;> rfl

/-- A submission on an idle tag: the request is refused where it does not lie in data memory, else run. -/
theorem mkaSubmit_idle (hi : leafCanIssue l s = true) (hf : (sapTag l tg s).req = none) :
    ∃ ins n, mkaSubmit op l tg desc.toNat s =
      let r := if 0x10000 < desc.toNat + 48 then (mkaNo op 0, s) else mkaRun l op (mkaB l desc s) s
      sapTake l tg r.1 ins n r.2 := by
  have hissue : ¬ (!leafCanIssue l s) = true := by simp [hi]
  have hfree : ¬ (sapTag l tg s).req.isSome = true := by simp [hf]
  exact ⟨_, _, (if_neg hissue).trans (if_neg hfree)⟩

/-- What a leaf sees of a submission that makes request `q` in state `u`: the tag holds it, and the rest is as `u` has it. -/
def MkaTakes (c : Instr) (l : Fin 192) (tg : Fin 8) (q : SapReq) (u s : State) : Prop :=
  ∃ t, exec c s = .next t ∧ (sapTag l tg t).req = some q ∧ t.vault = u.vault ∧ t.lnk = u.lnk ∧ t.ent = u.ent

theorem mkaTakes_idle {c : Instr} {l : Fin 192} {q : SapReq} {u : State} (hc : MkaOp c op l tg desc) (hl : live s = true)
    (hi : leafCanIssue l s = true) (hf : (sapTag l tg s).req = none)
    (hr : (if 0x10000 < desc.toNat + 48 then (mkaNo op 0, { s with out := [] })
      else mkaRun l op (mkaB l desc s) { s with out := [] }) = (q, u)) : MkaTakes c l tg q u s := by
  obtain ⟨ins, n, hsub⟩ := mkaSubmit_idle (op := op) (desc := desc) (s := { s with out := [] }) hi hf
  refine ⟨_, (exec_mkaOp hc s).trans ((act_live hl).trans (congrArg Host.Outcome.next hsub)), ?_⟩
  have hrun : (if 0x10000 < desc.toNat + 48 then (mkaNo op 0, { s with out := [] })
      else mkaRun l op (mkaB l desc { s with out := [] }) { s with out := [] }) = (q, u) := hr
  rw [hrun]
  exact ⟨sapTake_req, sapTake_vault, sapTake_lnk, sapTake_ent⟩

theorem MkaGood.takes {c : Instr} {l : Fin 192} {q : SapReq} {u : State} (h : MkaGood l tg desc s) (hc : MkaOp c op l tg desc)
    (hr : mkaRun l op (mkaB l desc s) { s with out := [] } = (q, u)) : MkaTakes c l tg q u s := by
  obtain ⟨hl, hi, hf, hin, -⟩ := h
  exact mkaTakes_idle hc hl hi hf ((if_neg (by omega)).trans hr)

/-- A leaf that does not own the SecY is refused, whatever the operation. -/
theorem mkaRun_refused {c : Instr} {l : Fin 192} {b : Bytes} (hc : MkaOp c op l tg desc) (ho : mkaOwns l (fieldLe b 0 1) s = false) :
    mkaRun l op b s = (mkaNo op 0, s) := by
  have hsecy : mkaOwns l (mkaReq b).secy s = false := ho
  by_cases h : op = 0x4C
  · subst h
    simp [mkaRun, saInstallRun, ho]
  · simp [mkaRun, h, hsecy]

variable {b : Bytes}

theorem mkaRun_saInstall : mkaRun l 0x4C b s = saInstallRun l b s := rfl

section owned
variable (ho : mkaOwns l (mkaReq b).secy s = true)
include ho

theorem mkaRun_keys : mkaRun l 0x48 b s = (mkaKeysRun l (mkaReq b) s, s) := if_neg (by simp [ho])
theorem mkaRun_sakNew : mkaRun l 0x49 b s = sakNewRun l (mkaReq b) s := if_neg (by simp [ho])
theorem mkaRun_sakWrap : mkaRun l 0x4A b s = (sakWrapRun l (mkaReq b) s, s) := if_neg (by simp [ho])
theorem mkaRun_sakUnwrap : mkaRun l 0x4B b s = (sakUnwrapRun l (mkaReq b) s, s) := if_neg (by simp [ho])
theorem mkaRun_saSelect : mkaRun l 0x4D b s = saSelectRun l (mkaReq b) s := if_neg (by simp [ho])
theorem mkaRun_mkpdu : mkaRun l 0x4E b s = mkpduRun l (mkaReq b) s := if_neg (by simp [ho])

end owned
end mka

/-! ### MKA's keys (R334, R335) -/

section keys
variable {l : Nat} {r : MkaReq} {s : State}

theorem firstCode_none {l : List (Option W16)} (h : ∀ c ∈ l, c = none) : firstCode l = 0 := by
  have hnone : l.findSome? id = none := List.findSome?_eq_none_iff.mpr h
  simp [firstCode, hnone]

theorem mkaKeyTarget_none {n len : Nat} {a : W32} {usages : List Nat} (hc : newSlotCode n a s = none)
    (hb : a.getLsbD (boughOfLeaf l) = true) (hu : attrUsage a ∈ usages) (hm : matLen a s = len) : mkaKeyTarget l n a usages len s = none := by
  simp [mkaKeyTarget, hc, hb, hu, hm]

/-- MKA_KEYS derives the ICK and the KEK from the CAK for two slots that may take them. -/
theorem mkaKeysRun_derives (hcak : keyCheck (.bough (boughOfLeaf l)) 4 [2, 3] r.key s = none) (hdest : attrDest (vslot r.key s).attr = 1)
    (hick : mkaKeyTarget l r.out1 r.attr1 [6] (vslot r.key s).mat.length s = none)
    (hkek : mkaKeyTarget l r.out2 r.attr2 [2, 3] (vslot r.key s).mat.length s = none)
    (h1 : 1 ≤ r.len) (h32 : r.len ≤ 32) (hsrc : localOk r.src r.len = true) (hne : r.out1 ≠ r.out2) :
    mkaKeysRun l r s = {
      op := 0x48, key := some (r.key, (vslot r.key s).gen)
      toSlots := [(r.out1, r.attr1, mkaKdf (vslot r.key s).mat "IEEE8021 ICK" (localRead l r.src r.len s)),
        (r.out2, r.attr2, mkaKdf (vslot r.key s).mat "IEEE8021 KEK" (localRead l r.src r.len s))] } := by
  have hwhy : firstCode [keyCheck (.bough (boughOfLeaf l)) 4 [2, 3] r.key s,
      (if attrDest (vslot r.key s).attr = 1 then none else some 0x5002),
      mkaKeyTarget l r.out1 r.attr1 [6] (vslot r.key s).mat.length s,
      mkaKeyTarget l r.out2 r.attr2 [2, 3] (vslot r.key s).mat.length s] = 0 :=
    firstCode_none (by simp [hcak, hdest, hick, hkek])
  have hlen : r.len ≠ 0 ∧ ¬ 32 < r.len := by omega
  unfold mkaKeysRun
  dsimp only
  rw [hwhy]
  simp [hlen, hsrc, hne]

variable {key : Bytes} {u : State}

theorem sakNewRun_waits (ht : sakTargetCode r.out1 (gsecy (r.secy / 4) (r.secy % 4) s).suite r.attr1 s = none)
    (hd : drbgRequest (limbOfBough (boughOfLeaf l)) false (suiteKeyLen (gsecy (r.secy / 4) (r.secy % 4) s).suite) s = none) :
    sakNewRun l r s = ({ op := 0x49, toSlots := [(r.out1, r.attr1, [])]
                         draw := some (suiteKeyLen (gsecy (r.secy / 4) (r.secy % 4) s).suite, s.now) }, s) := by
  simp only [sakNewRun, ht]
  exact sapDraw_waits rfl hd

theorem sakNewRun_draws (ht : sakTargetCode r.out1 (gsecy (r.secy / 4) (r.secy % 4) s).suite r.attr1 s = none)
    (hd : drbgRequest (limbOfBough (boughOfLeaf l)) false (suiteKeyLen (gsecy (r.secy / 4) (r.secy % 4) s).suite) s = some (key, u)) :
    sakNewRun l r s = ({ op := 0x49, toSlots := [(r.out1, r.attr1, key)] }, u) := by
  simp only [sakNewRun, ht]
  exact sapDraw_slots rfl (List.cons_ne_nil _ _) hd

/-- SAK_WRAP asks EXPORT of a slot of either usage of an SA. -/
theorem sakWrapCode_none {n : Nat} (hs : saSlotCode (attrUsage (vslot n s).attr ≠ 1) n s = none) (he : attrExport (vslot n s).attr = true) :
    sakWrapCode n s = none := by
  by_cases h : attrUsage (vslot n s).attr = 1
  · have hrx : saSlotCode false n s = none := by simpa [h] using hs
    simp [sakWrapCode, h, hrx, he]
  · have htx : saSlotCode true n s = none := by simpa [h] using hs
    simp [sakWrapCode, h, htx, he]

theorem sakWrapRun_wraps (hkek : keyCheck (.bough (boughOfLeaf l)) 2 [2] r.key s = none) (hsak : sakWrapCode r.out1 s = none)
    (hlen : (vslot r.out1 s).mat.length = suiteKeyLen (gsecy (r.secy / 4) (r.secy % 4) s).suite) (hal : r.dst % 128 = 0)
    (hin : r.dst + suiteKeyLen (gsecy (r.secy / 4) (r.secy % 4) s).suite + 8 ≤ 0x10000) :
    sakWrapRun l r s = (let w := kwWrap (vslot r.key s).mat (vslot r.out1 s).mat
      { op := 0x4A, len := w.length, dst := r.dst, out := w, once := true, key := some (r.key, (vslot r.key s).gen) }) := by
  have hwhy : firstCode [keyCheck (.bough (boughOfLeaf l)) 2 [2] r.key s, sakWrapCode r.out1 s] = 0 :=
    firstCode_none (by simp [hkek, hsak])
  have hout : ¬ 0x10000 < r.dst + suiteKeyLen (gsecy (r.secy / 4) (r.secy % 4) s).suite + 8 := by omega
  unfold sakWrapRun
  dsimp only
  rw [hwhy]
  simp [hlen, hal, hout]

section unwrap
variable (hkek : keyCheck (.bough (boughOfLeaf l)) 3 [2] r.key s = none)
  (ht : sakTargetCode r.out1 (gsecy (r.secy / 4) (r.secy % 4) s).suite r.attr1 s = none)
  (hlen : r.len = suiteKeyLen (gsecy (r.secy / 4) (r.secy % 4) s).suite + 8) (hsrc : localOk r.src r.len = true)
include hkek ht hlen hsrc

/-- A SAK_UNWRAP under a KEK into a slot that may take the SAK comes to the integrity check. -/
theorem sakUnwrapRun_checks : ¬ (firstCode [keyCheck (.bough (boughOfLeaf l)) 3 [2] r.key s,
      sakTargetCode r.out1 (gsecy (r.secy / 4) (r.secy % 4) s).suite r.attr1 s] ≠ 0 ∨
    r.len ≠ suiteKeyLen (gsecy (r.secy / 4) (r.secy % 4) s).suite + 8 ∨ (!localOk r.src r.len) = true) := by
  rw [firstCode_none (by simp [hkek, ht])]
  simp [hlen ▸ hsrc, hlen]

theorem sakUnwrapRun_unwraps {m : Bytes} (hm : kwUnwrap (vslot r.key s).mat (localRead l r.src r.len s) = some m) :
    sakUnwrapRun l r s = { op := 0x4B, toSlots := [(r.out1, r.attr1, m)], key := some (r.key, (vslot r.key s).gen) } := by
  refine (if_neg (sakUnwrapRun_checks hkek ht hlen hsrc)).trans ?_
  rw [hm]

theorem sakUnwrapRun_broken (hm : kwUnwrap (vslot r.key s).mat (localRead l r.src r.len s) = none) :
    sakUnwrapRun l r s = { op := 0x4B, code := 0xF000, secure := 0x400A, why := 0x5005 } := by
  refine (if_neg (sakUnwrapRun_checks hkek ht hlen hsrc)).trans ?_
  rw [hm]

end unwrap

end keys

/-! ### SAs of a SecY (R334, R335, R338) -/

section secy
variable {p k : Nat} {s : State}

theorem lport_congr {t : State} (h : t.lnk = s.lnk) : lport p k t = lport p k s := by rw [lport, portAt, h]; rfl

theorem secy_congr {t : State} (h : t.lnk = s.lnk) : (lport p k t).secy = (lport p k s).secy := congrArg Lport.secy (lport_congr h)

theorem portAt_modLport {f : Lport → Lport} (h : LinkWf p s) :
    portAt p (modLport p k f s) = { portAt p s with lports := tmod {} (portAt p s).lports k f } := by
  unfold portAt modLport modPort
  rw [tget_tmod_same _ _ _ _ h.1]

theorem lport_modLport {f : Lport → Lport} (h : LinkWf p s) : lport p k (modLport p k f s) = f (lport p k s) := by
  rw [lport, portAt_modLport h]
  exact tget_tmod_same _ _ _ _ h.2.1

theorem lport_modSecy {f : Secy → Secy} (h : LinkWf p s) : (lport p k (modSecy p k f s)).secy = f (lport p k s).secy := by
  rw [modSecy, lport_modLport h]

variable {l : Nat} {b : Bytes}

/-- What both directions of an SA_INSTALL without extended packet numbers ask of its fields (R335). -/
def SaFormed (b : Bytes) (s : State) : Prop :=
  let suite := (gsecy (fieldLe b 0 1 / 4) (fieldLe b 0 1 % 4) s).suite
  fieldLe b 3 1 ≤ 3 ∧ fieldLe b 6 2 = 0 ∧ allZero (slice b 0x28 8) = true ∧ suiteXpn suite = false ∧ allZero (slice b 0x18 16) = true ∧
  fieldLe b 0x10 8 < pnEnd suite ∧ (vslot (fieldLe b 4 2) s).mat.length = suiteKeyLen suite

/-- The SecY with the transmit SA that the request installs. -/
def txInstalled (b : Bytes) (s : State) (y : Secy) : Secy :=
  { y with
    txSci := tset [] y.txSci (fieldLe b 2 1) (slice b 8 8)
    tx := tset {} y.tx (4 * fieldLe b 2 1 + fieldLe b 3 1) {
      slot := fieldLe b 4 2, gen := (vslot (fieldLe b 4 2) s).gen, key := (vslot (fieldLe b 4 2) s).mat, pn := fieldLe b 0x10 8
      ssci := BitVec.ofNat 32 (fieldLe b 0x18 4), salt := slice b 0x1C 12 } }

/-- The SecY with the receive SA that the request installs. -/
def rxInstalled (b : Bytes) (s : State) (y : Secy) : Secy :=
  { y with
    rxSci := tset [] y.rxSci (fieldLe b 2 1) (slice b 8 8)
    rx := tset {} y.rx (4 * fieldLe b 2 1 + fieldLe b 3 1) {
      slot := fieldLe b 4 2, gen := (vslot (fieldLe b 4 2) s).gen, key := (vslot (fieldLe b 4 2) s).mat
      lowest := fieldLe b 0x10 8, next := fieldLe b 0x10 8, ssci := BitVec.ofNat 32 (fieldLe b 0x18 4), salt := slice b 0x1C 12 } }

section install
variable (ho : mkaOwns l (fieldLe b 0 1) s = true)
include ho

theorem saInstallRun_tx (hdir : fieldLe b 1 1 = 1) (hsc : fieldLe b 2 1 < 4) (hform : SaFormed b s) (hpn : fieldLe b 0x10 8 ≠ 0)
    (hkey : saSlotCode true (fieldLe b 4 2) s = none)
    (hcur : (lport (fieldLe b 0 1 / 4) (fieldLe b 0 1 % 4) s).secy.cur ≠ some (fieldLe b 2 1, fieldLe b 3 1)) :
    saInstallRun l b s = ({ op := 0x4C }, modSecy (fieldLe b 0 1 / 4) (fieldLe b 0 1 % 4) (txInstalled b s) s) := by
  obtain ⟨han, hres, htail, hxpn, hsalt, hend, hlen⟩ := hform
  have hwhy : firstCode [saSlotCode (fieldLe b 1 1 == 1) (fieldLe b 4 2) s] = 0 := firstCode_none (by simp [hdir, hkey])
  unfold saInstallRun
  dsimp only
  rw [hwhy]
  simp [ho, hdir, hsc, han, hres, htail, hxpn, hsalt, hend, hpn, hcur, hlen]
  rfl

theorem saInstallRun_rx (hdir : fieldLe b 1 1 = 0) (hsc : fieldLe b 2 1 < 64) (hform : SaFormed b s)
    (hkey : saSlotCode false (fieldLe b 4 2) s = none)
    (hnew : (tget {} (lport (fieldLe b 0 1 / 4) (fieldLe b 0 1 % 4) s).secy.rx (4 * fieldLe b 2 1 + fieldLe b 3 1)).accepted = false) :
    saInstallRun l b s = ({ op := 0x4C }, modSecy (fieldLe b 0 1 / 4) (fieldLe b 0 1 % 4) (rxInstalled b s) s) := by
  obtain ⟨han, hres, htail, hxpn, hsalt, hend, hlen⟩ := hform
  have hwhy : firstCode [saSlotCode (fieldLe b 1 1 == 1) (fieldLe b 4 2) s] = 0 := firstCode_none (by simp [hdir, hkey])
  unfold saInstallRun
  dsimp only
  rw [hwhy, hnew]
  simp [ho, hdir, hsc, han, hres, htail, hxpn, hsalt, hend, hlen]
  rfl

end install

/-- The current transmit SA is not replaced. -/
theorem saInstallRun_current (hdir : fieldLe b 1 1 = 1)
    (hcur : (lport (fieldLe b 0 1 / 4) (fieldLe b 0 1 % 4) s).secy.cur = some (fieldLe b 2 1, fieldLe b 3 1))
    (hkey : (tget {} (lport (fieldLe b 0 1 / 4) (fieldLe b 0 1 % 4) s).secy.tx (4 * fieldLe b 2 1 + fieldLe b 3 1)).key ≠ []) :
    saInstallRun l b s = (mkaNo 0x4C 0, s) := by
  have hheld : ((tget {} (lport (fieldLe b 0 1 / 4) (fieldLe b 0 1 % 4) s).secy.tx (4 * fieldLe b 2 1 + fieldLe b 3 1)).key != []) = true :=
    bne_iff_ne.mpr hkey
  unfold saInstallRun
  dsimp only
  refine if_pos ?_
  rw [hheld]
  simp [hdir, hcur]

variable {r : MkaReq}

section select
variable (ho : mkaOwns l r.secy s = true)
include ho

theorem saSelectRun_tx (hsel : r.sel = 0) (hsc : r.sc < 4) (han : r.an ≤ 3)
    (hkey : (tget {} (lport (r.secy / 4) (r.secy % 4) s).secy.tx (4 * r.sc + r.an)).key ≠ [])
    (hpn : (tget {} (lport (r.secy / 4) (r.secy % 4) s).secy.tx (4 * r.sc + r.an)).pn < pnThreshold (gsecy (r.secy / 4) (r.secy % 4) s).suite) :
    saSelectRun l r s = ({ op := 0x4D }, modSecy (r.secy / 4) (r.secy % 4)
      (fun y => { y with cur := some (r.sc, r.an), stalled := false, thresh := false }) s) := by
  have hgo : ¬ ((!mkaOwns l r.secy s) = true ∨ 2 < r.sel ∨ 3 < r.an ∨ (if r.sel = 0 then 4 else 64) ≤ r.sc) := by
    simp [ho, hsel]; omega
  have hcheck : ∀ f, pnCheck (r.secy / 4) (r.secy % 4) (tget {} (lport (r.secy / 4) (r.secy % 4) s).secy.tx (4 * r.sc + r.an)).pn
      (modSecy (r.secy / 4) (r.secy % 4) f s) = modSecy (r.secy / 4) (r.secy % 4) f s := fun f =>
    if_neg fun hc => absurd hc.1 (Nat.not_le.mpr hpn)
  unfold saSelectRun
  dsimp only
  rw [if_neg hgo, if_pos hsel, if_neg hkey, hcheck]

theorem saSelectRun_enables (hsel : r.sel = 1) (hsc : r.sc < 64) (han : r.an ≤ 3)
    (hkey : (tget {} (lport (r.secy / 4) (r.secy % 4) s).secy.rx (4 * r.sc + r.an)).key ≠ []) :
    saSelectRun l r s = ({ op := 0x4D }, modSecy (r.secy / 4) (r.secy % 4)
      (fun y => { y with rx := tmod {} y.rx (4 * r.sc + r.an) (fun a => { a with inUse := true }) }) s) := by
  have h0 : r.sel ≠ 0 := by omega
  refine (if_neg ?_).trans ((if_neg h0).trans ((if_neg hkey).trans (if_pos hsel)))
  simp [ho, hsel]
  omega

theorem saSelectRun_retires (hsel : r.sel = 2) (hsc : r.sc < 64) (han : r.an ≤ 3)
    (hkey : (tget {} (lport (r.secy / 4) (r.secy % 4) s).secy.rx (4 * r.sc + r.an)).key ≠ []) :
    saSelectRun l r s = ({ op := 0x4D }, modSecy (r.secy / 4) (r.secy % 4)
      (fun y => { y with rx := tset {} y.rx (4 * r.sc + r.an) {} }) s) := by
  have h0 : r.sel ≠ 0 := by omega
  have h1 : r.sel ≠ 1 := by omega
  refine (if_neg ?_).trans ((if_neg h0).trans ((if_neg hkey).trans (if_neg h1)))
  simp [ho, hsel]
  omega

end select

theorem mkpduRun_sends (h64 : 64 ≤ r.len) (h1518 : r.len ≤ 1518) (hsrc : 0x100000 ≤ r.src) (hin : localOk r.src r.len = true) :
    mkpduRun l r s = (let f := localRead l r.src r.len s
      ({ op := 0x4E }, (egressPut (r.secy / 4) (r.secy % 4) { data := f, plain := true, prio := framePrio f } s).2)) := by
  refine if_neg ?_
  simp [hin]
  omega

theorem lport_flowEmit (q a c n i j : Nat) (s : State) : lport i j (flowEmit q a c n s) = lport i j s := by
  unfold flowEmit
  dsimp only
  split <;> rfl

/-- What PAUSE makes of a queue leaves its frames. -/
theorem flowUpdate_queue (h : LinkWf p s) : (lport p k (flowUpdate p k s)).queue = (lport p k s).queue := by
  unfold flowUpdate
  dsimp only
  split
  · rw [lport_flowEmit, lport_modLport h]
  · split
    · rw [lport_flowEmit, lport_modLport h]
    · rfl

theorem LinkWf.modLport {f : Lport → Lport} (h : LinkWf p s) (hf : ∀ x, (f x).secy = x.secy) : LinkWf p (modLport p k f s) := by
  have ⟨hports, hlports, hsecy⟩ := h
  have hport := portAt_modLport (k := k) (f := f) h
  refine ⟨twf_tmod {} s.lnk.ports p (fun x => { x with lports := tmod {} x.lports k f }) hports,
    by rw [hport]; exact twf_tmod _ _ _ _ hlports, fun j => ?_⟩
  unfold lport
  rw [hport]
  by_cases hj : j = k
  · subst hj
    rw [tget_tmod_same _ _ _ _ hlports, hf]
    exact hsecy j
  · rw [tget_tmod_other _ _ _ _ _ hlports hj]
    exact hsecy j

/-- A port that is up takes a frame that its queue has room for. -/
theorem egressPut_queue {f : EgFrame} (h : LinkWf p s) (hup : (lport p k s).up = true)
    (hroom : (lport p k s).fill + f.size ≤ queueSize p s) :
    (lport p k (egressPut p k f s).2).queue = (lport p k s).queue ++ [f] := by
  have hdown : ¬ (!(lport p k s).up) = true := by simp [hup]
  unfold egressPut
  dsimp only
  rw [if_neg hdown, if_neg (Nat.not_lt.mpr hroom)]
  dsimp only
  rw [flowUpdate_queue (h.modLport (f := fun x => { x with queue := x.queue ++ [f] }) fun _ => rfl), lport_modLport h]

end secy

/-- Settles O51, operation by operation: `MkaGood.takes` says what the leaf sees of the run of each. -/
theorem mkaOperations : Obligations.MkaOperations := by
  unfold Obligations.MkaOperations
  refine ⟨?refused, ?owner⟩
  case refused =>
    intro c op l tg desc s hc hl _ _
    have hexec : exec c s = .next (mkaSubmit op l tg desc.toNat { s with out := [] }) := (exec_mkaOp hc s).trans (act_live hl)
    refine ⟨fun hi => ?_, fun hi hb => ?_, fun hi hf ho => ?_⟩
    · have hstop : (!leafCanIssue l s) = true := by simp [hi]
      exact hexec.trans (congrArg Host.Outcome.next (if_pos hstop))
    · have hissue : ¬ (!leafCanIssue l s) = true := by simp [hi]
      exact hexec.trans (congrArg Host.Outcome.next ((if_neg hissue).trans (if_pos hb)))
    · obtain ⟨t, ht, hreq, hvault, hlnk, -⟩ : MkaTakes c l tg (mkaNo op 0) { s with out := [] } s := by
        refine mkaTakes_idle hc hl hi hf ?_
        split
        · rfl
        next hin => exact mkaRun_refused hc (ho.resolve_right hin)
      exact ⟨t, ht, hreq, hvault, hlnk⟩
  case owner =>
    intro l tg desc s hg b r p k g y who takes
    have ho : mkaOwns l r.secy { s with out := [] } = true := by
      obtain ⟨-, -, -, -, -, -, ho⟩ := hg
      exact ho
    have htakes : ∀ {c op x q}, MkaOp c op l tg desc → mkaRun l op b { s with out := [] } = (x, { s with out := [] }) → x = q → takes c q := by
      rintro c op x q hc hr rfl
      obtain ⟨t, ht, hreq, hvault, hlnk, -⟩ := hg.takes hc hr
      exact ⟨t, ht, hreq, hvault, hlnk⟩
    refine ⟨?keys, ?sakWaits, ?sakNew, ?wrap, ?unwrap, ?link⟩
    case keys =>
      intro _ hcak hdest h1 h32 hsrc hnew1 hbough1 huse1 hlen1 hnew2 hbough2 huse2 hlen2 hne cak ckn
      have hick : mkaKeyTarget l r.out1 r.attr1 [6] cak.length s = none := mkaKeyTarget_none hnew1 hbough1 (by simp [huse1]) hlen1
      have hkek : mkaKeyTarget l r.out2 r.attr2 [2, 3] cak.length s = none := mkaKeyTarget_none hnew2 hbough2 (by simpa using huse2) hlen2
      exact htakes (.keys l tg desc) (mkaRun_keys ho) (mkaKeysRun_derives hcak hdest hick hkek h1 h32 hsrc hne)
    case sakWaits =>
      intro ht hd
      obtain ⟨t, hexec, hreq, hvault, hlnk⟩ := htakes (.sakNew l tg desc) ((mkaRun_sakNew ho).trans (sakNewRun_waits ht hd)) rfl
      exact ⟨t, hexec, hvault, hlnk, hreq⟩
    case sakNew =>
      intro key u ht hd
      obtain ⟨t, hexec, hreq, hvault, hlnk, hent⟩ := hg.takes (.sakNew l tg desc) ((mkaRun_sakNew ho).trans (sakNewRun_draws ht hd))
      exact ⟨t, hexec, hreq, hvault, hent, by rw [hlnk, drbgRequest_same hd]⟩
    case wrap =>
      intro _ hkek hsak hlen hexport hal hin w
      exact htakes (.sakWrap l tg desc) (mkaRun_sakWrap ho) (sakWrapRun_wraps hkek (sakWrapCode_none hsak hexport) hlen hal hin)
    case unwrap =>
      intro _ hkek ht hlen hsrc
      refine ⟨fun m hm => ?_, fun hm => ?_⟩
      · have hrun := sakUnwrapRun_unwraps (r := r) (s := { s with out := [] }) hkek ht hlen hsrc hm
        exact htakes (.sakUnwrap l tg desc) (mkaRun_sakUnwrap ho) hrun
      · have hrun := sakUnwrapRun_broken (r := r) (s := { s with out := [] }) hkek ht hlen hsrc hm
        exact htakes (.sakUnwrap l tg desc) (mkaRun_sakUnwrap ho) hrun
    case link =>
      intro hw i h
      have hw' : LinkWf p { s with out := [] } := hw
      refine ⟨?tx, ?rx, ?current, ?select, ?enable, ?retire, ?send⟩
      case tx =>
        intro hsel hsc han hres htail hxpn hsalt hend hpn hkey hlen hcur
        obtain ⟨t, hexec, hreq, hvault, hlnk, -⟩ := hg.takes (.saInstall l tg desc)
          (mkaRun_saInstall.trans (saInstallRun_tx ho hsel hsc ⟨han, hres, htail, hxpn, hsalt, hend, hlen⟩ hpn hkey hcur))
        exact ⟨t, hexec, hreq, hvault, (secy_congr hlnk).trans (lport_modSecy hw')⟩
      case rx =>
        intro hsel hsc han hres htail hxpn hsalt hend hkey hlen hnew
        obtain ⟨t, hexec, hreq, hvault, hlnk, -⟩ := hg.takes (.saInstall l tg desc)
          (mkaRun_saInstall.trans (saInstallRun_rx ho hsel hsc ⟨han, hres, htail, hxpn, hsalt, hend, hlen⟩ hkey hnew))
        exact ⟨t, hexec, hreq, hvault, (secy_congr hlnk).trans (lport_modSecy hw')⟩
      case current =>
        intro hsel _ _ hcur hkey
        obtain ⟨t, hexec, hreq, -, hlnk⟩ := htakes (.saInstall l tg desc) (mkaRun_saInstall.trans (saInstallRun_current hsel hcur hkey)) rfl
        exact ⟨t, hexec, hreq, hlnk⟩
      case select =>
        intro hsel hsc han hkey hpn
        obtain ⟨t, hexec, hreq, -, hlnk, -⟩ :=
          hg.takes (.saSelect l tg desc) ((mkaRun_saSelect ho).trans (saSelectRun_tx ho hsel hsc han hkey hpn))
        exact ⟨t, hexec, hreq, (secy_congr hlnk).trans (lport_modSecy hw')⟩
      case enable =>
        intro hsel hsc han hkey
        obtain ⟨t, hexec, hreq, -, hlnk, -⟩ :=
          hg.takes (.saSelect l tg desc) ((mkaRun_saSelect ho).trans (saSelectRun_enables ho hsel hsc han hkey))
        exact ⟨t, hexec, hreq, (secy_congr hlnk).trans (lport_modSecy hw')⟩
      case retire =>
        intro hsel hsc han hkey
        obtain ⟨t, hexec, hreq, -, hlnk, -⟩ :=
          hg.takes (.saSelect l tg desc) ((mkaRun_saSelect ho).trans (saSelectRun_retires ho hsel hsc han hkey))
        exact ⟨t, hexec, hreq, (secy_congr hlnk).trans (lport_modSecy hw')⟩
      case send =>
        intro h64 h1518 hsrc hin hup hroom f hf
        obtain ⟨t, hexec, hreq, -, hlnk, -⟩ :=
          hg.takes (.mkpduSend l tg desc) ((mkaRun_mkpdu ho).trans (mkpduRun_sends h64 h1518 hsrc hin))
        have hsize : (lport p k s).fill + EgFrame.size { data := f, plain := true, prio := framePrio f } ≤ queueSize p s := by
          rw [EgFrame.size, hf]
          omega
        exact ⟨t, hexec, hreq, (congrArg Lport.queue (lport_congr hlnk)).trans (egressPut_queue hw' hup hsize)⟩

end Sys2Proof
end

section
/-!
PROOFS. Scope: life-cycle and debug requests when they are taken (spec/17_life_cycle_and_debug.md), with the events that stand beside them.
-/
namespace Sys2Proof
open Machine

/-! ### Events beside the life-cycle and entropy blocks

An event neither reads nor writes these blocks, so that a change of them may stand before or after it. -/

section events
variable {x : Lcy} {e : Ent}

/-- The LCY and ENT blocks changed. -/
def withLcyEnt (x : Lcy) (e : Ent) (s : State) : State := { s with lcy := x, ent := e }

theorem evPut_withLcyEnt (p : Bool) (r : EventRec) (s : State) : evPut p r (withLcyEnt x e s) = withLcyEnt x e (evPut p r s) := by
  have hring : evRing p (withLcyEnt x e s) = evRing p s := rfl
  have hmem : ∀ m, ({ withLcyEnt x e s with hostMem := m } : State) = withLcyEnt x e { s with hostMem := m } := fun _ => rfl
  have hset : ∀ r u, setEvRing p r (withLcyEnt x e u) = withLcyEnt x e (setEvRing p r u) := fun r u => by cases p <;> rfl
  have hold : (withLcyEnt x e s).hostMem = s.hostMem := rfl
  unfold evPut
  dsimp only
  rw [hring, hmem, hset, hold, apply_ite (withLcyEnt x e)]
  rfl

theorem evFlushLoss_withLcyEnt (p : Bool) : ∀ (l : List Nat) (s : State), evFlushLoss p l (withLcyEnt x e s) = withLcyEnt x e (evFlushLoss p l s)
  | [], _ => rfl
  | c :: l, s => by
    have hring : evRing p (withLcyEnt x e s) = evRing p s := rfl
    have hset : ∀ r, setEvRing p r (withLcyEnt x e s) = withLcyEnt x e (setEvRing p r s) := fun r => by cases p <;> rfl
    unfold evFlushLoss
    dsimp only
    rw [hring, hset, evPut_withLcyEnt, evFlushLoss_withLcyEnt p l, evFlushLoss_withLcyEnt p l]
    split
    · rfl
    · split <;> rfl

theorem evLost_withLcyEnt (p : Bool) (r : EventRec) (s : State) : evLost p r (withLcyEnt x e s) = withLcyEnt x e (evLost p r s) := by
  cases p <;> rfl

theorem evDue_withLcyEnt (p : Bool) (r : EventRec) (s : State) :
    evDue p r (withLcyEnt x e s) = (withLcyEnt x e (evDue p r s).1, (evDue p r s).2) := by
  have hring : ∀ u, evRing p (withLcyEnt x e u) = evRing p u := fun _ => rfl
  unfold evDue evRoom
  dsimp only
  rw [evFlushLoss_withLcyEnt, hring, evLost_withLcyEnt, evPut_withLcyEnt]
  split <;> split <;> rfl

theorem evRings_withLcyEnt (c : EvClass) (r : EventRec) (s : State) :
    evRings c r (withLcyEnt x e s) = (withLcyEnt x e (evRings c r s).1, (evRings c r s).2) := by
  unfold evRings
  dsimp only
  rw [evDue_withLcyEnt, evDue_withLcyEnt]
  split <;> rfl

theorem alarmPut_withLcyEnt (r : EventRec) (s : State) : alarmPut r (withLcyEnt x e s) = withLcyEnt x e (alarmPut r s) := by
  unfold alarmPut
  dsimp only
  rw [apply_ite (withLcyEnt x e)]
  rfl

/-- A class's rings take a record, and the class counts it once it is written. -/
def ringsCounted (c : EvClass) (r : EventRec) (s : State) : State :=
  if (evRings c r s).2 then bump (cEvent c.num 1) (evRings c r s).1 else (evRings c r s).1

theorem ringsCounted_withLcyEnt (c : EvClass) (r : EventRec) (s : State) :
    ringsCounted c r (withLcyEnt x e s) = withLcyEnt x e (ringsCounted c r s) := by
  unfold ringsCounted
  rw [evRings_withLcyEnt, apply_ite (withLcyEnt x e)]
  rfl

theorem emit_withLcyEnt (c : EvClass) (code src : W16) (d : Bytes) (s : State) :
    emit c code src d (withLcyEnt x e s) = withLcyEnt x e (emit c code src d s) := by
  have htel : (bump (cEvent c.num 0) (withLcyEnt x e s)).tel = (bump (cEvent c.num 0) s).tel := rfl
  have hput := alarmPut_withLcyEnt (x := x) (e := e) (mkEvent s c code src d) (bump (cEvent c.num 0) s)
  unfold emit
  dsimp only
  rw [htel]
  split
  · exact (congrArg (ringsCounted c (mkEvent s c code src d)) hput).trans (ringsCounted_withLcyEnt _ _ _)
  · rw [apply_ite (withLcyEnt x e)]
    split
    · exact ringsCounted_withLcyEnt c (mkEvent s c code src d) { bump (cEvent c.num 0) s with tel := _ }
    · rfl

theorem emit_withLcy (c : EvClass) (code src : W16) (d : Bytes) (x : Lcy) (s : State) :
    emit c code src d (withLcy x s) = withLcy x (emit c code src d s) := by
  have hent : (emit c code src d s).ent = s.ent := emit_ent ..
  have h := emit_withLcyEnt (x := x) (e := s.ent) c code src d s
  refine h.trans ?_
  rw [← hent]
  rfl
end events

/-! ### Requests (R455) -/

section requests
variable {v : Bool} {n : Nat} {go : Bytes → State → State} {s : State}

theorem exec_lcyRequest {c : Instr} (h : LcyRequest c v n) : ∃ go, ∀ s, exec c s = act (lcyPath v (lcyRequest n go)) s := by
  cases h <;> exact ⟨_, fun _ => rfl⟩

theorem lcyPath_absent {f : State → State} (hv : v = false) (hp : s.boot.pf1 = false) : lcyPath v f s = s := by simp [lcyPath, hv, hp]

theorem lcyPath_served {f : State → State} (h : v = true ∨ s.boot.pf1 = true) : lcyPath v f s = f s := by
  unfold lcyPath
  rw [if_pos]
  simpa using h

theorem lcyRequest_busy (h : s.lcy.busy = true) :
    lcyRequest n go { s with out := [] } = emit .secure 0x6012 (srcTree 0) [] (atInput n s) := if_pos h

theorem lcyRequest_idle (h : s.lcy.busy = false) :
    lcyRequest n go { s with out := [] } = go (lcyBuf 16384 s) (withLcy (lcyTaken n s) (atInput n s)) := if_neg (Bool.eq_false_iff.mp h)

/-- A request of PF1 or the debug TAP that comes while none is in progress. -/
theorem exec_lcyTaken {c : Instr} (hs : lcyServed v s) (hb : s.lcy.busy = false) (hc : exec c s = act (lcyPath v (lcyRequest n go)) s) :
    exec c s = .next (go (lcyBuf 16384 s) (withLcy (lcyTaken n s) (atInput n s))) := by
  obtain ⟨hl, hp⟩ := hs
  exact (hc.trans (act_live hl)).trans
    (congrArg Host.Outcome.next ((lcyPath_served (s := { s with out := [] }) hp).trans (lcyRequest_idle hb)))

/-- The request is refused at its READY, and the SECURE class takes the code at once (R462). -/
def lcyRefused (code : W16) (x : Lcy) (u : State) : State :=
  emit .secure code (srcTree 0) [] (withLcy { x with pending := some (.refused code) } u)

/-! Challenges (R455, R459). -/

theorem transDraw_some {k : Bytes} {t : State} (h : freshChallenge s = some (k, t)) :
    transDraw s = some (withLcy { t.lcy with buf := mwrite 0 [] 0 k, transChallenge := some k, pending := some .done } t) := by
  simp only [transDraw, h]
  rfl

theorem transDraw_none (h : freshChallenge s = none) : transDraw s = none := by simp only [transDraw, h]; rfl

theorem dbgDraw_some {k : Bytes} {t : State} (h : freshChallenge s = some (k, t)) :
    dbgDraw s = some (withLcy { t.lcy with
      buf := mwrite 0 [] 0 (dbgMessage k t), dbgChallenge := some (dbgMessage k t), pending := some .done } t) := by
  simp only [dbgDraw, h]
  rfl

theorem dbgDraw_none (h : freshChallenge s = none) : dbgDraw s = none := by simp only [dbgDraw, h]; rfl

theorem freshChallenge_lcy {k : Bytes} {t : State} (h : freshChallenge s = some (k, t)) : t.lcy = s.lcy := by rw [drbgRequest_same h]

theorem lcyChallenge_some {d : Bool} {draw : State → Option State} {t : State} (h : draw s = some t) : lcyChallenge d draw s = t := by
  rw [lcyChallenge, h]
  rfl

theorem lcyChallenge_none {d : Bool} {draw : State → Option State} (h : draw s = none) :
    lcyChallenge d draw s = withLcy { s.lcy with pending := some (.challenge d) } s := by
  rw [lcyChallenge, h]
  rfl

/-! Tokens and responses (R457, R460, R461). -/

theorem tokenTest_notAllowed {b c : Bytes} (h : fieldLe b 5 1 ≠ s.boot.lcs.num ∨ lcyActionAllowed v (fieldLe b 4 1) s = false) :
    tokenTest v b (some c) s = some 0x6003 := by
  have hfails : fieldLe b 5 1 ≠ s.boot.lcs.num ∨ (!lcyActionAllowed v (fieldLe b 4 1) s) = true := by simpa using h
  exact if_pos hfails

/-- An action that R457 does not list, from this state or through this path. -/
theorem lcyActionAllowed_false {a : Nat} (h : (a ≤ 5 ∧ lcsAllowed s.boot.lcs.num a = false) ∨ (a = 1 ∧ v = false) ∨ (6 ≤ a ∧ a < 0x10) ∨
    0x14 < a ∨ (0x10 ≤ a ∧ s.boot.lcs ≠ .grafted)) : lcyActionAllowed v a s = false := by
  unfold lcyActionAllowed
  split
  next h5 =>
    obtain ⟨-, h⟩ | ⟨rfl, rfl⟩ | h | h | h := h
    · simp [h]
    · simp
    all_goals omega
  next h5 =>
    obtain ⟨h, -⟩ | ⟨h, -⟩ | h | h | ⟨-, h⟩ := h
    · exact absurd h h5
    · omega
    · have hrange : ¬ (0x10 ≤ a ∧ a ≤ 0x14) := by omega
      simp [hrange]
    · have hrange : ¬ (0x10 ≤ a ∧ a ≤ 0x14) := by omega
      simp [hrange]
    · simp [h]

/-- TRANS_REQUEST on a request just taken: its challenge is consumed, whatever becomes of it. -/
def transTaken (n : Nat) (s : State) : Lcy := { lcyTaken n s with transChallenge := none }

/-- DBG_RESPONSE likewise. -/
def dbgTaken (n : Nat) (s : State) : Lcy := { lcyTaken n s with dbgChallenge := none, lastResponse := some (max s.now n) }

section served
variable (hs : lcyServed v s) (hb : s.lcy.busy = false)
include hs hb

/-- A challenge given at once. -/
theorem exec_challenge_draws {c : Instr} {d : Bool} {draw : State → Option State} {t : State}
    (hc : exec c s = act (lcyPath v (lcyRequest n (fun _ => lcyChallenge d draw))) s)
    (h : draw (withLcy (lcyTaken n s) (atInput n s)) = some t) : exec c s = .next t :=
  (exec_lcyTaken hs hb hc).trans (congrArg Host.Outcome.next (lcyChallenge_some h))

/-- A challenge that finds no output waits for its READY (06 R152). -/
theorem exec_challenge_waits {c : Instr} {d : Bool} {draw : State → Option State}
    (hc : exec c s = act (lcyPath v (lcyRequest n (fun _ => lcyChallenge d draw))) s)
    (h : draw (withLcy (lcyTaken n s) (atInput n s)) = none) :
    exec c s = .next (withLcy { lcyTaken n s with pending := some (.challenge d) } (atInput n s)) :=
  (exec_lcyTaken hs hb hc).trans (congrArg Host.Outcome.next (lcyChallenge_none h))

/-- TRANS_REQUEST on a request just taken goes by the tests of its token. -/
theorem exec_transRequest {r : Option W16}
    (h : tokenTest v (lcyBuf 16384 s) s.lcy.transChallenge (withLcy (transTaken n s) (atInput n s)) = r) :
    exec (.transRequest v n) s = .next (r.elim
      (let a := fieldLe (lcyBuf 16384 s) 4 1
       if a ≤ 5 then
        emit .lifecycle 0x6007 (srcTree 0) (d1 s.boot.lcs.num ++ d1 a) (withLcy { transTaken n s with pending := some (.move a) } (atInput n s))
       else withLcy { transTaken n s with pending := some (.fuse (a - 0x10) (slice (lcyBuf 16384 s) 0x38 48)) } (atInput n s))
      (fun e => lcyRefused e (transTaken n s) (atInput n s))) := by
  have htaken : modLcy (fun x => { x with transChallenge := none }) (withLcy (lcyTaken n s) (atInput n s)) =
    withLcy (transTaken n s) (atInput n s) := rfl
  have hch : (withLcy (lcyTaken n s) (atInput n s)).lcy.transChallenge = s.lcy.transChallenge := rfl
  refine (exec_lcyTaken hs hb rfl).trans (congrArg Host.Outcome.next ?_)
  rw [htaken, hch]
  dsimp only
  rw [h]
  cases r <;> rfl

/-- A DBG_RESPONSE within 2 s of the previous one is not evaluated. -/
theorem exec_dbgResponse_soon {k : Nat} (hl : s.lcy.lastResponse = some k) (h : max s.now n < k + 2 * psS) :
    exec (.dbgResponse v n) s = .next (lcyRefused 0x6011 (dbgTaken n s) (atInput n s)) := by
  have hlast : (withLcy (lcyTaken n s) (atInput n s)).lcy.lastResponse = some k := hl
  refine (exec_lcyTaken hs hb rfl).trans (congrArg Host.Outcome.next ?_)
  rw [hlast]
  exact if_pos (decide_eq_true h)

theorem exec_dbgResponse {r : Option W16} (hsoon : ∀ k, s.lcy.lastResponse = some k → k + 2 * psS ≤ max s.now n)
    (h : responseTest (lcyBuf 16384 s) s.lcy.dbgChallenge (withLcy (dbgTaken n s) (atInput n s)) = r) :
    exec (.dbgResponse v n) s = .next (r.elim
      (withLcy { dbgTaken n s with
        pending := some (.grant (fieldLe (lcyBuf 16384 s) 0x38 4) (fieldLe (lcyBuf 16384 s) 0x3C 2)) } (atInput n s))
      (fun e => lcyRefused e (dbgTaken n s) (atInput n s))) := by
  have htaken : modLcy (fun x => { x with dbgChallenge := none, lastResponse := some (withLcy (lcyTaken n s) (atInput n s)).now })
    (withLcy (lcyTaken n s) (atInput n s)) = withLcy (dbgTaken n s) (atInput n s) := rfl
  have hlast : (withLcy (lcyTaken n s) (atInput n s)).lcy.lastResponse = s.lcy.lastResponse := rfl
  have hch : (withLcy (lcyTaken n s) (atInput n s)).lcy.dbgChallenge = s.lcy.dbgChallenge := rfl
  have hlate : (match s.lcy.lastResponse with | some l => decide (max s.now n < l + 2 * psS) | none => false) = false := by
    split
    next l hl => exact decide_eq_false (Nat.not_lt.mpr (hsoon l hl))
    next => rfl
  refine (exec_lcyTaken hs hb rfl).trans (congrArg Host.Outcome.next ?_)
  rw [hlast, hch]
  refine (if_neg (Bool.eq_false_iff.mp hlate)).trans ?_
  rw [htaken, h]
  cases r <;> rfl

/-- DBG_LOCK ends the grant in force, if there is one. -/
theorem exec_dbgLock : exec (.dbgLock v n) s = .next (grantEnd 1 (withLcy (lcyTaken n s) (atInput n s))) :=
  exec_lcyTaken (go := fun _ => grantEnd 1) hs hb rfl

end served

theorem grantEnd_locked {k : Nat} (h : s.lcy.unlocked = false) : grantEnd k s = s := if_neg (Bool.eq_false_iff.mp h)

theorem grantEnd_unlocked {k : Nat} (h : s.lcy.unlocked = true) :
    grantEnd k s = emit .lifecycle 0x6015 (srcTree 0) (d1 k) (withLcy { s.lcy with unlocked := false, grantBoughs := 0, grantScope := 0 } s) :=
  if_pos h

/-- A request whose challenge is not there consumes none. -/
theorem transTaken_none (h : s.lcy.transChallenge = none) : transTaken n s = lcyTaken n s := by
  unfold transTaken lcyTaken
  dsimp only
  rw [h]
end requests

end Sys2Proof
end

section
/-!
PROOFS. Scope: the results of life-cycle and debug requests (spec/17_life_cycle_and_debug.md R455, R458, R461) and the
requests to disable a tamper source (spec/18_tamper.md R479).
-/
namespace Sys2Proof
open Machine

/-! ### The result of a request (R455, R458, R461) -/

section ready
variable {n : Nat} {copies : Fin 4} {i : StartIn} {s : State} {a : LcyAct}

theorem exec_lcyResultReady_waits (hl : live s = true)
    (h : s.lcy.busy = false ∨ s.lcy.pending = none ∨ max s.now n < s.lcy.since + 10 * psMs) :
    exec (.lcyResultReady n copies i) s = .next (atInput n s) := by
  refine (act_live hl).trans (congrArg Host.Outcome.next ?_)
  have hpend : (atTime n { s with out := [] }).lcy.pending = s.lcy.pending := rfl
  unfold lcyResultReadyS
  dsimp only
  rw [hpend]
  cases hp : s.lcy.pending with
  | none => rfl
  | some a =>
    rw [hp] at h
    refine if_pos ?_
    obtain hb | hn | hearly := h
    · simp [atTime, hb]
    · cases hn
    · simp [atTime, hearly]

section due
variable (hl : live s = true) (hb : s.lcy.busy = true) (hdue : s.lcy.since + 10 * psMs ≤ max s.now n) (hp : s.lcy.pending = some a)
include hl hb hdue hp

/-- What a request does once its 10 ms have passed; an act that programs fuses first waits for VFUSE (R532). -/
theorem exec_lcyResultReady_due : exec (.lcyResultReady n copies i) s =
    .next (if a.fuses && !s.boot.vfuse then withLcy { s.lcy with waitFuse := true } (atInput n s) else lcyDo a copies i (atInput n s)) := by
  refine (act_live hl).trans (congrArg Host.Outcome.next ?_)
  have hpend : (atTime n { s with out := [] }).lcy.pending = some a := hp
  unfold lcyResultReadyS
  dsimp only
  rw [hpend]
  have hlate : ¬ (!s.lcy.busy || decide (max s.now n < s.lcy.since + 10 * psMs)) = true := by
    rw [hb, decide_eq_false (Nat.not_lt.mpr hdue)]
    decide
  exact if_neg hlate

theorem exec_lcyResultReady_acts (h : a.fuses = false ∨ s.boot.vfuse = true) :
    exec (.lcyResultReady n copies i) s = .next (lcyDo a copies i (atInput n s)) := by
  have hacts : ¬ (a.fuses && !s.boot.vfuse) = true := by obtain h | h := h <;> simp [h]
  rw [exec_lcyResultReady_due hl hb hdue hp, if_neg hacts]

theorem exec_lcyResultReady_unpowered (hf : a.fuses = true) (hv : s.boot.vfuse = false) :
    exec (.lcyResultReady n copies i) s = .next (withLcy { s.lcy with waitFuse := true } (atInput n s)) := by
  have hwaits : (a.fuses && !s.boot.vfuse) = true := by simp [hf, hv]
  rw [exec_lcyResultReady_due hl hb hdue hp, if_pos hwaits]

end due
end ready

/-! The acts, one by one. -/

section acts
variable {k : Nat} {i : StartIn} {s t : State}

theorem lcyEnd_eq (c : W16) (s : State) : lcyEnd c s = withLcy (lcyEnds c s.lcy) s := rfl

theorem lcyDo_challenge_draws {d : Bool} {c : Bytes} (h : freshChallenge s = some (c, t)) :
    lcyDo (.challenge d) k i s = withLcy (lcyEnds 0
      (if d then { t.lcy with buf := mwrite 0 [] 0 (dbgMessage c t), dbgChallenge := some (dbgMessage c t) }
       else { t.lcy with buf := mwrite 0 [] 0 c, transChallenge := some c })) t := by
  cases d
  · simp only [lcyDo, transDraw_some h]; rfl
  · simp only [lcyDo, dbgDraw_some h]; rfl

/-- The challenge of a request that never found output is gone. -/
def lcyStarved (d : Bool) (x : Lcy) : Lcy :=
  lcyEnds 0x5011 (if d then { x with dbgChallenge := none } else { x with transChallenge := none })

theorem lcyDo_challenge_starves {d : Bool} (h : freshChallenge s = none) :
    lcyDo (.challenge d) k i s = withLcyEnt (lcyStarved d s.lcy) { s.ent with hungry := true } (emit .fault 0x5011 (srcTree 3) [] s) := by
  rw [← emit_withLcyEnt]
  cases d
  · simp only [lcyDo, transDraw_none h]; rfl
  · simp only [lcyDo, dbgDraw_none h]; rfl

/-- What a grant leaves of the LCY block, whatever grant it replaces. -/
def lcyGranted (sc bo : Nat) (x : Lcy) : Lcy := { x with unlocked := true, grantScope := BitVec.ofNat 4 sc, grantBoughs := BitVec.ofNat 12 bo }

/-- A grant replaces the grant in force. -/
theorem lcyDo_grant (sc bo : Nat) : lcyDo (.grant sc bo) k i s = withLcy (lcyEnds 0 (lcyGranted sc bo s.lcy))
    (emit .lifecycle 0x6014 (srcTree 0) (d4 sc ++ d2 bo) (if s.lcy.unlocked then emit .lifecycle 0x6015 (srcTree 0) (d1 3) s else s)) := by
  have hgranted : ∀ u, lcyEnd 0 (emit .lifecycle 0x6014 (srcTree 0) (d4 sc ++ d2 bo) (withLcy (lcyGranted sc bo s.lcy) u)) =
      withLcy (lcyEnds 0 (lcyGranted sc bo s.lcy)) (emit .lifecycle 0x6014 (srcTree 0) (d4 sc ++ d2 bo) u) := fun u => by
    rw [emit_withLcy]
    rfl
  have hrun : lcyDo (.grant sc bo) k i s = lcyEnd 0 (emit .lifecycle 0x6014 (srcTree 0) (d4 sc ++ d2 bo)
      (modLcy (lcyGranted sc bo) (grantEnd 3 s))) := rfl
  rw [hrun]
  cases h : s.lcy.unlocked with
  | false =>
    rw [grantEnd_locked h, if_neg Bool.false_ne_true]
    exact hgranted s
  | true =>
    have hmod : ∀ u, modLcy (lcyGranted sc bo) (withLcy { s.lcy with unlocked := false, grantBoughs := 0, grantScope := 0 } u) =
      withLcy (lcyGranted sc bo s.lcy) u := fun _ => rfl
    rw [grantEnd_unlocked h, emit_withLcy, if_pos rfl, hmod]
    exact hgranted _

/-! Fuses (R115, R446, R457, R458). -/

/-- Copies that do not read back are tried again at the next start. -/
theorem lcyFuseFail_eq (a : LcyAct) (s : State) :
    lcyFuseFail a s = withLcy { lcyEnds 0x6006 s.lcy with retry := some a } (emit .secure 0x6006 (srcTree 0) [] s) :=
  emit_withLcy .secure 0x6006 (srcTree 0) [] { lcyEnds 0x6006 s.lcy with retry := some a } s

/-- A failed act that programs fuses changes no fuse but the copies of the life-cycle code, whatever act it is. -/
theorem lcyDo_fuseFails {a : LcyAct} (ha : a.fuses = true) (hk : k < 3) :
    ∃ c, lcyDo a k i s = lcyFuseFail a { s with fuses := { s.fuses with lcs := c } } := by
  cases a with
  | move m => exact ⟨_, if_pos hk⟩
  | fuse j d => exact ⟨s.fuses.lcs, if_pos hk⟩
  | refused _ => cases ha
  | grant _ _ => cases ha
  | challenge _ => cases ha
  | done => cases ha

/-- What a failed act leaves: its result and its retry, and nothing of the device beside the copies of the life-cycle code. -/
theorem lcyFuseFail_leaves (a : LcyAct) (c : List W16) (s : State) :
    let t := lcyFuseFail a { s with fuses := { s.fuses with lcs := c } }
    t.lcy = { lcyEnds 0x6006 s.lcy with retry := some a } ∧ t.boot = s.boot ∧ t.vault = s.vault ∧ t.kpf = s.kpf ∧
      t.fuses = { s.fuses with lcs := t.fuses.lcs } := by
  intro t
  have ht : t = withLcy { lcyEnds 0x6006 s.lcy with retry := some a } (emit .secure 0x6006 (srcTree 0) []
      { s with fuses := { s.fuses with lcs := c } }) := lcyFuseFail_eq ..
  have hfuses : t.fuses = { s.fuses with lcs := c } := by rw [ht]; exact emit_fuses ..
  refine ⟨by rw [ht]; rfl, by rw [ht]; exact emit_boot .., by rw [ht]; exact emit_vault .., by rw [ht]; exact emit_kpf .., ?_⟩
  rw [hfuses]

/-- Owner key hash `j` fused. -/
def ownerFused (j : Nat) (d : Bytes) (s : State) : State :=
  { s with fuses := { s.fuses with ownerKeys := (List.range 4).map (fun m => if m = j then d else s.fuses.ownerKeys.getD m []) } }

theorem lcyDo_fuse {j : Nat} {d : Bytes} (h : fuseAct j d s = some t) :
    lcyDo (.fuse j d) 3 i s = withLcy (lcyEnds 0 t.lcy) (emit .lifecycle 0x6008 (srcTree 0) (d1 (0x10 + j)) t) := by
  have hlcy : (emit .lifecycle 0x6008 (srcTree 0) (d1 (0x10 + j)) t).lcy = t.lcy := emit_lcy ..
  have hrun : lcyDo (.fuse j d) 3 i s = lcyEnd 0 (emit .lifecycle 0x6008 (srcTree 0) (d1 (0x10 + j)) t) := by
    simp only [lcyDo, h]
    rfl
  rw [hrun, lcyEnd_eq, hlcy]

theorem fuseAct_boot (d : Bytes) : fuseAct 4 d s = some { s with fuses := { s.fuses with bootKey := d, bootSet := true } } := rfl

theorem anyOwner_true (h : ∃ x ∈ s.fuses.ownerKeys, x ≠ []) : anyOwner s = true := by simpa [anyOwner] using h

theorem fuseAct_owner {j : Nat} {d : Bytes} (hj : j < 4) (h : s.fuses.hsO.isSome = true ∨ ∃ x ∈ s.fuses.ownerKeys, x ≠ []) :
    fuseAct j d s = some (ownerFused j d s) := by
  have hown : (anyOwner s || s.fuses.hsO.isSome) = true := by
    obtain h | h := h
    · simp [h]
    · simp [anyOwner_true h]
  exact (if_neg (Nat.ne_of_lt hj)).trans (if_pos hown)

/-- The first owner key hash is fused with a fresh HS_O. -/
theorem fuseAct_first {j : Nat} {d h : Bytes} (hj : j < 4) (hsO : s.fuses.hsO = none) (hkeys : ∀ x ∈ s.fuses.ownerKeys, x = [])
    (hdraw : drbgRequest 4 true 32 s = some (h, t)) : ∃ x, fuseAct j d s = some x ∧ x.lcy = s.lcy ∧ x.ent = t.ent ∧
      x.fuses = { s.fuses with hsO := some h, ownerKeys := (List.range 4).map (fun m => if m = j then d else []) } := by
  have hnone : ¬ (anyOwner s || s.fuses.hsO.isSome) = true := by simpa [anyOwner, hsO] using hkeys
  have hrun : fuseAct j d s = (drbgRequest 4 true 32 s).map fun r => ownerFused j d { r.2 with fuses := { r.2.fuses with hsO := some r.1 } } :=
    (if_neg (Nat.ne_of_lt hj)).trans (if_neg hnone)
  have hfuses : t.fuses = s.fuses := by rw [drbgRequest_same hdraw]
  have hempty : ∀ m, s.fuses.ownerKeys.getD m [] = [] := fun m => by
    rw [List.getD_eq_getElem?_getD]
    cases hm : s.fuses.ownerKeys[m]? with
    | none => rfl
    | some x => exact hkeys x (List.mem_of_getElem? hm)
  rw [hdraw] at hrun
  refine ⟨_, hrun, by rw [drbgRequest_same hdraw]; rfl, rfl, ?_⟩
  unfold ownerFused
  dsimp only
  rw [hfuses]
  simp only [hempty]

/-- A move to Grafted from three good copies ends in a reset that starts the device in that state. -/
theorem lcyDo_graft (hlcs : s.fuses.lcs = [lcsWord 2, lcsWord 2, lcsWord 2]) :
    let u : State := { s with fuses := { s.fuses with lcs := [lcsWord 3, lcsWord 3, lcsWord 3] } }
    PlainStart i 3 u → lcyDo (.move 3) 3 i s = afterStart i 3 u := by
  intro u hplain
  have hprog : lcsProgram 3 3 s = u := by
    unfold lcsProgram lcsCopy
    rw [hlcs]
    rfl
  have hrun : lcyDo (.move 3) 3 i s = fullReset i (lcsProgram 3 3 s) := rfl
  rw [hrun, hprog, fullReset, coreReset_eq, startUp_afterReset hplain]

end acts

/-! ### Requests that may wait for DRBG_T (06 R152) -/

section waits
variable {r : EntReq} {f : State → State} {s t : State}

theorem calm_eq (h : s.ent.hungry = false) : calm s = s := by
  unfold calm withEnt
  rw [← h]

theorem orWait_served (hf : f (calm s) = t) (h : t.ent.hungry = false) : orWait r f s = t := by
  subst hf
  have hno : ¬ ((f (calm s)).ent.hungry && !waitedOut (waitsSince s.now s) (calm s)) = true := by rw [h]; exact Bool.false_ne_true
  exact (if_neg hno).trans (calm_eq h)

theorem orWait_waits (h : (f (calm s)).ent.hungry = true) (hw : s.now < waitsSince s.now s + 10 * psMs) :
    orWait r f s = withEnt { s.ent with hungry := false, waits := s.ent.waits ++ [(r, waitsSince s.now s)] } s := by
  have hnot : waitedOut (waitsSince s.now s) (calm s) = false := decide_eq_false (Nat.not_le.mpr hw)
  have hwaits : ((f (calm s)).ent.hungry && !waitedOut (waitsSince s.now s) (calm s)) = true := by rw [h, hnot]; rfl
  exact if_pos hwaits

end waits

/-! ### Requests to disable a tamper source (R479) -/

section disable
variable {n : Nat} {s t : State}

/-- A request is taken at `n`: READY 10 ms later, the buffer zeroed. -/
def disTaken (n : Nat) (s : State) : Tmp := { s.tmp with buf := [], disReady := true, disAt := max s.now n + 10 * psMs }

theorem disBusyNow_true (h : s.tmp.disBusy = true ∨ max s.now n < s.tmp.disAt) : disBusyNow (atInput n s) = true := by
  obtain h | h := h
  · exact (congrArg (· || _) h).trans (Bool.true_or _)
  · exact (congrArg (_ || ·) (decide_eq_true h)).trans (Bool.or_true _)

theorem disBusyNow_false (hb : s.tmp.disBusy = false) (hat : s.tmp.disAt ≤ max s.now n) : ¬ disBusyNow (atInput n s) = true := by
  have h : disBusyNow (atInput n s) = (s.tmp.disBusy || decide (max s.now n < s.tmp.disAt)) := rfl
  rw [h, hb, decide_eq_false (Nat.not_lt.mpr hat)]
  decide

theorem disChallengeDraw_some {c : Bytes} (h : freshChallenge (calm s) = some (c, t)) :
    disChallengeDraw s = withTmp { t.tmp with buf := mwrite 0 [] 0 c, disChallenge := some c, result := 0 } t := by
  have hhungry : t.ent.hungry = false := by rw [drbgRequest_same h]; rfl
  refine orWait_served ?_ hhungry
  dsimp only
  rw [h]
  rfl

theorem disChallengeDraw_none (h : freshChallenge (calm s) = none) (hw : s.now < waitsSince s.now s + 10 * psMs) :
    disChallengeDraw s = withEnt { s.ent with hungry := false, waits := s.ent.waits ++ [(.disChallenge, waitsSince s.now s)] } s := by
  refine orWait_waits ?_ hw
  rw [h]
  exact congrArg Ent.hungry (emit_ent ..)

/-- Tokens to disable a source need a challenge, in Sapling or Grafted. -/
theorem disTokenOk_false {b : Bytes} (h : s.tmp.disChallenge = none ∨ (s.boot.lcs ≠ .sapling ∧ s.boot.lcs ≠ .grafted)) :
    disTokenOk b s = false := by
  unfold disTokenOk
  obtain h | ⟨hsap, hgraft⟩ := h
  · simp [h]
  · simp [hsap, hgraft]

section served
variable (hl : live s = true)
include hl

theorem exec_disable_busy (h : s.tmp.disBusy = true ∨ max s.now n < s.tmp.disAt) :
    exec (.disableChallenge n) s = .next (atInput n s) ∧ exec (.disableRequest n) s = .next (atInput n s) :=
  ⟨(act_live hl).trans (congrArg Host.Outcome.next (if_pos (disBusyNow_true h))),
    (act_live hl).trans (congrArg Host.Outcome.next (if_pos (disBusyNow_true h)))⟩

variable (hb : s.tmp.disBusy = false) (hat : s.tmp.disAt ≤ max s.now n)
include hb hat

theorem exec_disableChallenge : exec (.disableChallenge n) s = .next (disChallengeDraw (withTmp (disTaken n s) (atInput n s))) :=
  (act_live hl).trans (congrArg Host.Outcome.next (if_neg (disBusyNow_false hb hat)))

theorem exec_disableRequest_refused (h : disTokenOk (mread 0 s.tmp.buf 0 4096) (atInput n s) = false) :
    exec (.disableRequest n) s = .next (emit .secure 0x7006 (srcTree 0) []
      (withTmp { disTaken n s with disChallenge := none, result := 0x7006 } (atInput n s))) :=
  (act_live hl).trans (congrArg Host.Outcome.next ((if_neg (disBusyNow_false hb hat)).trans (if_neg (Bool.eq_false_iff.mp h))))

/-- An accepted token's sources wait for VFUSE. -/
theorem exec_disableRequest_accepted (h : disTokenOk (mread 0 s.tmp.buf 0 4096) (atInput n s) = true) :
    let m := BitVec.ofNat 16 (fieldLe (mread 0 s.tmp.buf 0 4096) 4 2)
    exec (.disableRequest n) s = .next (disBurn (withTmp { disTaken n s with disChallenge := none, disPending := some (0, m), disBusy := true }
      (atInput n s))) :=
  (act_live hl).trans (congrArg Host.Outcome.next ((if_neg (disBusyNow_false hb hat)).trans (if_pos h)))

end served

theorem disBurn_powered {x : Tmp} {c m : BitVec 16} (hx : x.disPending = some (c, m)) (hv : s.boot.vfuse = true) :
    disBurn (withTmp x s) = withTmp { x with disPending := none, disBusy := false, result := c }
      { s with fuses := { s.fuses with tamperOff := s.fuses.tamperOff ||| m } } := by
  have hpend : (withTmp x s).tmp.disPending = some (c, m) := hx
  unfold disBurn
  rw [hpend]
  exact if_pos hv

theorem disBurn_unpowered {x : Tmp} {c m : BitVec 16} (hx : x.disPending = some (c, m)) (hv : s.boot.vfuse = false) :
    disBurn (withTmp x s) = withTmp x s := by
  have hpend : (withTmp x s).tmp.disPending = some (c, m) := hx
  unfold disBurn
  rw [hpend]
  exact if_neg (Bool.eq_false_iff.mp hv)

end disable

/-- Settles O38: the requests by `exec_lcyTaken`, what waits for READY by the laws of `lcyDo`, the disable tokens by those of
`disChallengeDraw` and `disBurn`. -/
theorem lifeRequests : Obligations.LifeRequests := by
  unfold Obligations.LifeRequests
  refine ⟨?oneAtATime, ?requests, ?ready, ?disable⟩
  case oneAtATime =>
    intro c v n s hreq hl
    obtain ⟨go, hc⟩ := exec_lcyRequest hreq
    have hrun : exec c s = .next (lcyPath v (lcyRequest n go) { s with out := [] }) := (hc s).trans (act_live hl)
    exact ⟨fun hv hp => hrun.trans (congrArg Host.Outcome.next (lcyPath_absent hv hp)),
      fun hp hb => hrun.trans (congrArg Host.Outcome.next ((lcyPath_served (s := { s with out := [] }) hp).trans (lcyRequest_busy hb)))⟩
  case requests =>
    intro v n s hs hb u b refused
    refine ⟨fun k t hdraw => ?draws, fun hnone => ?waits, fun hnone => ?noChallenge, fun k hk => ?token, ?response,
      fun h => ?lock, fun h => ?noGrant⟩
    case draws =>
      have hpend : t.lcy.pending = some .done := by rw [freshChallenge_lcy hdraw]; rfl
      have htrans := exec_challenge_draws (c := .transChallenge v n) (d := false) hs hb rfl (transDraw_some hdraw)
      have hdbg := exec_challenge_draws (c := .dbgChallenge v n) (d := true) hs hb rfl (dbgDraw_some hdraw)
      rw [← hpend] at htrans hdbg
      exact ⟨htrans, hdbg⟩
    case waits =>
      exact ⟨exec_challenge_waits (c := .transChallenge v n) (d := false) hs hb rfl (transDraw_none hnone),
        exec_challenge_waits (c := .dbgChallenge v n) (d := true) hs hb rfl (dbgDraw_none hnone)⟩
    case noChallenge =>
      have h := exec_transRequest hs hb (n := n) (r := some 0x6012) (by rw [hnone]; rfl)
      rw [transTaken_none hnone] at h
      exact h
    case token =>
      intro x a
      have hrun := fun r (h : tokenTest v b (some k) (withLcy x u) = r) => exec_transRequest hs hb (n := n) (r := r) (by rw [hk]; exact h)
      refine ⟨fun hbad => ?_, fun e h => hrun (some e) h, fun h => ⟨fun h5 => ?_, fun h5 => ?_⟩⟩
      · exact hrun (some 0x6003) (tokenTest_notAllowed (hbad.imp_right lcyActionAllowed_false))
      · exact (hrun none h).trans (congrArg Host.Outcome.next (if_pos h5))
      · exact (hrun none h).trans (congrArg Host.Outcome.next (if_neg (Nat.not_le.mpr h5)))
    case response =>
      intro x
      refine ⟨fun l hl hsoon => exec_dbgResponse_soon hs hb hl hsoon, fun hlate => ⟨fun hnone => ?_, fun e h => ?_, fun h => ?_⟩⟩
      · exact exec_dbgResponse hs hb (r := some 0x6012) hlate (by rw [hnone]; rfl)
      · exact exec_dbgResponse hs hb (r := some e) hlate h
      · exact exec_dbgResponse hs hb (r := none) hlate h
    case lock => exact (exec_dbgLock hs hb).trans (congrArg Host.Outcome.next (grantEnd_unlocked (s := withLcy (lcyTaken n s) u) h))
    case noGrant => exact (exec_dbgLock hs hb).trans (congrArg Host.Outcome.next (grantEnd_locked (s := withLcy (lcyTaken n s) u) h))
  case ready =>
    intro n copies i s hl u
    refine ⟨fun h => exec_lcyResultReady_waits hl h, fun hb hdue => ?_⟩
    have hacts := fun (a : LcyAct) hp hf => exec_lcyResultReady_acts (copies := copies) (i := i) (a := a) hl hb hdue hp hf
    refine ⟨fun c hp => hacts _ hp (.inl rfl), fun hp => hacts _ hp (.inl rfl), fun d hp => ⟨fun k t hdraw => ?draws, fun hnone => ?starves⟩,
      fun sc bo hp => ?grant, fun a hp hf => ⟨fun hv => ?unpowered, fun hv hbad => ?badCopies⟩, fun k d hp hk hv hgood hown => ?owner,
      fun k d h t hp hk hv hgood hsO hkeys hdraw => ?firstOwner, fun d hp hv hgood => ?bootKey, fun hp hv hgood hlcs => ?graft⟩
    case draws => exact (hacts _ hp (.inl rfl)).trans (congrArg Host.Outcome.next (lcyDo_challenge_draws hdraw))
    case starves => exact ⟨_, (hacts _ hp (.inl rfl)).trans (congrArg Host.Outcome.next (lcyDo_challenge_starves hnone)), rfl, rfl⟩
    case grant => exact (hacts _ hp (.inl rfl)).trans (congrArg Host.Outcome.next (lcyDo_grant sc bo))
    case unpowered => exact exec_lcyResultReady_unpowered hl hb hdue hp hf hv
    case badCopies =>
      have hlt : copies.val < 3 := by omega
      obtain ⟨c, hc⟩ := lcyDo_fuseFails (i := i) (s := u) hf hlt
      exact ⟨_, (hacts a hp (.inr hv)).trans (congrArg Host.Outcome.next hc), lcyFuseFail_leaves a c u⟩
    case owner =>
      subst hgood
      have hfused := lcyDo_fuse (i := i) (fuseAct_owner (d := d) (s := u) hk hown)
      exact (hacts _ hp (.inr hv)).trans (congrArg Host.Outcome.next hfused)
    case firstOwner =>
      subst hgood
      obtain ⟨x, hfused, hlcy, hent, hfuses⟩ := fuseAct_first (d := d) (s := u) hk hsO hkeys hdraw
      refine ⟨_, (hacts _ hp (.inr hv)).trans (congrArg Host.Outcome.next (lcyDo_fuse hfused)), ?_, ?_, ?_⟩
      · exact congrArg (lcyEnds 0) hlcy
      · exact (emit_ent ..).trans hent
      · exact (emit_fuses ..).trans hfuses
    case bootKey =>
      subst hgood
      have hfused := lcyDo_fuse (i := i) (fuseAct_boot (s := u) d)
      exact (hacts _ hp (.inr hv)).trans (congrArg Host.Outcome.next hfused)
    case graft =>
      subst hgood
      intro f hplain
      exact (hacts _ hp (.inr hv)).trans (congrArg Host.Outcome.next (lcyDo_graft hlcs hplain))
  case disable =>
    intro n s hl u
    refine ⟨exec_disable_busy hl, fun hb hat => ?_⟩
    intro x
    have hrefused := exec_disableRequest_refused (n := n) hl hb hat
    have haccepted := exec_disableRequest_accepted (n := n) hl hb hat
    refine ⟨fun k t hdraw => ?draws, fun hnone hw => ?waits, hrefused, fun h => hrefused (disTokenOk_false h),
      fun h => ?accepted⟩
    case draws => rw [exec_disableChallenge hl hb hat]; exact congrArg Host.Outcome.next (disChallengeDraw_some hdraw)
    case waits => rw [exec_disableChallenge hl hb hat]; exact congrArg Host.Outcome.next (disChallengeDraw_none hnone hw)
    case accepted =>
      intro m
      exact ⟨fun hv => (haccepted h).trans (congrArg Host.Outcome.next (disBurn_powered rfl hv)),
        fun hv => (haccepted h).trans (congrArg Host.Outcome.next (disBurn_unpowered rfl hv))⟩

end Sys2Proof
end

section
/-!
PROOFS. Scope: READY of a sap request that waits for random bytes (spec/06_entropy_and_check_units.md R152, spec/14_leaf_isa.md R397 to
R399).
-/
namespace Sys2Proof
open Machine

/-! ### A request at its READY (R152, R398) -/

section ready
variable {l t n since : Nat} {r : SapReq} {s : State}

/-- A live leaf's request that waits for no Canopy context takes its remaining steps. -/
theorem sapRequestReadyS_steps (ha : leafAlive l s = true) (hr : (sapTag l t s).req = some r) (he : r.entry = none)
    (hc : r.commit = none) : sapRequestReadyS l t s = sapReadyStep l t r s := by
  unfold sapRequestReadyS
  simp only [hr, he, hc, ha, Option.isSome_none, Bool.not_true, Bool.or_self, Bool.false_eq_true, if_false]

theorem waitedOut_iff : waitedOut since s = true ↔ since + 10 ^ 10 ≤ s.now := decide_eq_true_iff

/-- Within its 10 ms a request that finds no output waits on. -/
theorem sapDraw_waitsOn (hd : r.draw = some (n, since)) (h : drbgRequest (limbOfBough (boughOfLeaf l)) false n s = none)
    (hw : s.now < since + 10 ^ 10) : sapDraw l r s = (r, s) := by
  have hsoon : ¬ waitedOut since s = true := fun h => Nat.not_le.mpr hw (waitedOut_iff.mp h)
  simp [sapDraw, hd, h, hsoon]

/-- The request once its 10 ms have passed without output: `n` zeros and ENT_STARVED (R152). -/
def sapStarved (r : SapReq) (n : Nat) : SapReq :=
  { r with draw := none, code := 0x5011, toSlots := [], out := List.replicate n 0 }

theorem sapDraw_starves (hd : r.draw = some (n, since)) (hs : r.toSlots = [])
    (h : drbgRequest (limbOfBough (boughOfLeaf l)) false n s = none) (hw : since + 10 ^ 10 ≤ s.now) :
    sapDraw l r s = (sapStarved r n, s) := by
  simp [sapDraw, hd, h, hs, waitedOut_iff.mpr hw, sapStarved]

/-- A tag that holds anything is read back as set. -/
theorem sapTag_setSapTag {x : SapTag} (h : x ≠ {}) : sapTag l t (setSapTag l t x s) = x := by
  have htag : tget {} (tset {} (leafAt l s).tags t x) t = x := tget_tset_ne _ _ _ _ h
  have hne : ({ leafAt l s with tags := tset {} (leafAt l s).tags t x } : Leaf) ≠ {} := fun hnil =>
    h (htag.symm.trans (congrArg (fun y : Leaf => tget {} y.tags t) hnil))
  rw [sapTag, setSapTag, leafAt_modLeaf _ _ _ hne]
  exact htag

theorem sapReadyStep_waits (hdraw : sapDraw l r s = (r, s)) (hd : r.draw.isSome = true) :
    (sapTag l t (sapReadyStep l t r s)).req = some r := by
  have hkeep : sapReadyStep l t r s = setSapTag l t { sapTag l t s with req := some r } s := by
    unfold sapReadyStep
    rw [hdraw]
    exact if_pos hd
  have htag : ({ sapTag l t s with req := some r } : SapTag) ≠ {} := fun h => nomatch congrArg SapTag.req h
  rw [hkeep, sapTag_setSapTag htag]

/-- A request that fills no slot and has nothing more to draw ends. -/
theorem sapReadyStep_ends {q : SapReq} (hdraw : sapDraw l r s = (q, s)) (hd : q.draw = none) (hs : q.toSlots = [])
    (hw : q.awaits = []) : sapReadyStep l t r s = sapFinish l t q s := by
  simp [sapReadyStep, sapStored, hdraw, hd, hs, hw]

/-- The leaf once request `r` on tag `t` has delivered its output and its result (R393, R397, R398). -/
def sapEnded (t : Nat) (r : SapReq) (x : Leaf) : Leaf :=
  { (x.deliver r.dst r.out r.once).unguard t with
    tags := tset {} x.tags t { req := none, mid := r.mid, res := BitVec.ofNat 32 (r.code.toNat * 2 ^ 16 + min r.len 0xFFFF) }
    events := setBit x.events 5 true }

theorem sapEnded_ne (x : Leaf) : sapEnded t r x ≠ {} := fun h =>
  setBit_true_ne_zero x.events 5 (by decide) (congrArg Leaf.events h)

theorem leafSecure_lvs (code : W16) : (leafSecure l code s).lvs = s.lvs := by
  unfold leafSecure
  split
  · rfl
  · exact emit_lvs ..

/-- Its events leave the leaf as it ended. -/
theorem leafAt_sapFinish : leafAt l (sapFinish l t r s) = sapEnded t r (leafAt l s) := by
  have hset : leafAt l (setLeaf l (sapEnded t r (leafAt l s)) s) = sapEnded t r (leafAt l s) := leafAt_setLeaf _ _ _ (sapEnded_ne _)
  have hlvs : (sapFinish l t r s).lvs = (setLeaf l (sapEnded t r (leafAt l s)) s).lvs := by
    unfold sapFinish
    dsimp only
    rw [apply_ite State.lvs, leafSecure_lvs, emit_lvs, ite_self, apply_ite State.lvs, emit_lvs, ite_self]
    rfl
  rw [← hset, leafAt, leafAt, hlvs]

/-- The tag of a starved request shows ENT_STARVED, whatever the form of the leaf's tags. -/
theorem sapTag_starved : sapTag l t (sapFinish l t (sapStarved r n) s) =
    { req := none, res := BitVec.ofNat 32 (0x5011 * 0x10000 + min r.len 0xFFFF), mid := r.mid } := by
  rw [sapTag, leafAt_sapFinish]
  refine tget_tset_ne _ _ _ _ fun h => ?_
  have hres : (0x5011 * 2 ^ 16 + min r.len 0xFFFF) % 2 ^ 32 = 0 := congrArg (fun x : SapTag => x.res.toNat) h
  omega

end ready

/-- The clause of O16 on a request that waits for random output, with the premise that it lacks: the leaf's data memory lists its bytes
in canonical form. -/
theorem sapRequestReady_random {l : Fin 192} {t : Fin 8} {s : State} {r : SapReq} {n since : Nat} (hl : live s = true)
    (ha : leafAlive l s = true) (hr : (sapTag l t s).req = some r) (he : r.entry = none) (hc : r.commit = none) (hs : r.toSlots = [])
    (hd : r.draw = some (n, since)) (hw : r.awaits = [])
    (hdrbg : drbgRequest (limbOfBough (boughOfLeaf l)) false n { s with out := [] } = none)
    (hmem : Memory.wf (leafAt l s).dmem = true) :
    (s.now < since + 10 ^ 10 → ∃ u, exec (.sapRequestReady l t) s = .next u ∧ (sapTag l t u).req = some r) ∧
    (since + 10 ^ 10 ≤ s.now → ∃ u, exec (.sapRequestReady l t) s = .next u ∧
      sapTag l t u = { req := none, res := BitVec.ofNat 32 (0x5011 * 0x10000 + min r.len 0xFFFF), mid := r.mid } ∧
      mread 0 (leafAt l u).dmem r.dst n = List.replicate n 0 ∧ (leafAt l u).events = (leafAt l s).events ||| 0x20) := by
  have hsteps : sapRequestReadyS l t { s with out := [] } = sapReadyStep l t r { s with out := [] } :=
    sapRequestReadyS_steps ha hr he hc
  refine ⟨fun hsoon => ?waits, fun hlate => ?starves⟩
  case waits =>
    exact ⟨_, act_next hl hsteps, sapReadyStep_waits (sapDraw_waitsOn hd hdrbg hsoon) (by rw [hd]; rfl)⟩
  case starves =>
    have hready := sapReadyStep_ends (t := t) (sapDraw_starves hd hs hdrbg hlate) rfl rfl hw
    refine ⟨_, act_next hl (hsteps.trans hready), sapTag_starved, ?_, ?_⟩
    · rw [leafAt_sapFinish]
      have hkept := mread_mwrite_same (List.replicate n 0) (leafAt l s).dmem r.dst hmem
      rw [List.length_replicate] at hkept
      exact hkept
    · rw [leafAt_sapFinish]
      rfl

/-! ### A data memory out of order (O16) -/

/-- A leaf whose request for one random byte has waited for 10 ms on a generator that is off. Its data memory lists the output's byte
twice. -/
def doubledByte : State :=
  { now := 10 ^ 10, boot := { pwrgood := true }
    lvs := { leaf := [(0, { released := true, dmem := [(0, 1), (0, 2)]
                            tags := [(0, { req := some { draw := some (1, 0), once := true } })] })] } }

/-- Writing its zero removes the first entry, and the output reads as the second. -/
theorem sapRequestReady_doubledByte :
    ∃ u, exec (.sapRequestReady 0 0) doubledByte = .next u ∧ mread 0 (leafAt 0 u).dmem 0 1 = [2] := ⟨_, rfl, by decide +kernel⟩

/-- Refutes O16: a request that has waited out its 10 ms is said to leave zeros in data memory, but that clause, unlike the first one, does
not ask for a data memory in canonical form. `sapRequestReady_random` is the clause with the premise. -/
theorem not_sapReadyAndDma : ¬ Obligations.SapReadyAndDma := by
  unfold Obligations.SapReadyAndDma
  rintro ⟨-, hrandom, -⟩
  obtain ⟨-, hstarves⟩ := hrandom 0 0 doubledByte { draw := some (1, 0), once := true } 1 0 (by decide +kernel) (by decide +kernel)
    (by decide +kernel) rfl rfl rfl rfl rfl rfl rfl rfl (by decide +kernel)
  obtain ⟨u, hexec, -, hzeros, -⟩ := hstarves (by decide)
  obtain ⟨v, hv, hread⟩ := sapRequestReady_doubledByte
  obtain rfl : u = v := Host.Outcome.next.inj (hexec.symm.trans hv)
  exact absurd (hzeros.symm.trans hread) (by decide)

end Sys2Proof
end

section
/-!
PROOFS. Scope: the check units (spec/06_entropy_and_check_units.md R155 to R160).
-/
namespace Sys2Proof
open Machine

/-! ### Writes to a unit (R155) -/

section writes
variable {u : Fin 13} {who : ChkUser} {c : Chk} {f : Chk → State → State} {s : State}

/-- A write or a read of a unit whose bough is powered, CHK_12 among them, does not count as an access to a powered-down bough. -/
theorem chk_powered {b : Nat} (hon : b < 12 → boughOff b s = false) : ¬ (decide (b < 12) && boughOff b s) = true := by
  simpa using hon

theorem ChkMine.live (h : ChkMine u who s) : live s = true := h.1

/-- The owner's write acts on its unit. -/
theorem chkWrite_mine (h : ChkMine u who s) : chkWrite u who f s = f (chk u s) s := by
  obtain ⟨-, howns, hon⟩ := h
  have htap : ¬ (u.val = 12 ∧ who ≠ .taproot) := by
    rintro ⟨hu, hwho⟩
    cases who with
    | taproot => exact hwho rfl
    | dma | leaf l => simp [chkOwns, hu] at howns
  exact (if_neg htap).trans ((if_neg (chk_powered hon)).trans (if_pos howns))

/-- Another requester's write to a bough's unit sets INTRUDE. -/
theorem chkWrite_intrudes {b : Nat} (hb : b < 12) (hon : boughOff b s = false) (ho : chkOwns b who (chk b s) = false) :
    chkWrite b who f s = setChk b { chk b s with intrude := true } s := by
  have htap : ¬ (b = 12 ∧ who ≠ .taproot) := fun h => absurd h.1 hb.ne
  exact (if_neg htap).trans ((if_neg (chk_powered fun _ => hon)).trans (if_neg (Bool.eq_false_iff.mp ho)))

/-- Ownership is a matter of the unit's owner alone. -/
theorem chkOwns_congr {b : Nat} {c d : Chk} (h : c.owner = d.owner) : chkOwns b who c = chkOwns b who d := by
  unfold chkOwns
  rw [h]

theorem chk_setChk {b : Nat} (h : twf {} s.chk = true) : chk b (setChk b c s) = c := tget_tset_same _ _ _ _ h

/-- A unit that keeps its owner stays its owner's. -/
theorem ChkMine.setChk (h : ChkMine u who s) (hw : twf {} s.chk = true) (ho : c.owner = (chk u s).owner) :
    ChkMine u who (setChk u c s) := by
  obtain ⟨hl, howns, hon⟩ := h
  refine ⟨hl, ?_, hon⟩
  rw [chk_setChk hw, chkOwns_congr ho]
  exact howns

/-- A parameter within WIDTH is taken whole. -/
theorem chkMask_of_lt {w : Nat} {v : W32} (h : v.toNat < 2 ^ w) : chkMask w v = v := by
  rw [chkMask, Nat.mod_eq_of_lt h, BitVec.ofNat_toNat, BitVec.setWidth_eq]

theorem exec_chkInit (h : ChkMine u who s) (v : W32) : exec (.chkConfigWrite u who .init v) s =
    .next (setChk u { chk u s with init := chkMask (chk u s).width v } { s with out := [] }) :=
  act_next h.live (chkWrite_mine (s := { s with out := [] }) h)

/-- While entries wait, any other configuration write sets CFG_ERR (R160). -/
theorem exec_chkConfigWrite_busy (h : ChkMine u who s) (hf : (chk u s).fifo ≠ []) {r : ChkReg} (hr : r ≠ .init) (v : W32) :
    exec (.chkConfigWrite u who r v) s = .next (setChk u { chk u s with cfgErr := true } { s with out := [] }) := by
  refine act_next h.live ((chkWrite_mine (s := { s with out := [] }) h).trans ?_)
  cases r with
  | init => exact absurd rfl hr
  | cfg => exact if_pos (.inl hf)
  | poly | xorOut => exact if_pos hf

/-- The unit as START leaves it (R159, R160). -/
def chkStarted (c : Chk) : Chk :=
  { c with st := c.init, bytes := 0, fifo := [], ready := false, dropped := c.dropped || c.fifo != [] }

theorem chkStartS_mine (h : ChkMine u who s) : chkStartS u who s = setChk u (chkStarted (chk u s)) s := chkWrite_mine h

/-- A CFG of a WIDTH that a unit can hold, written with no entry queued (R156). -/
theorem exec_chkCfg (h : ChkMine u who s) (hf : (chk u s).fifo = []) {v : W32} {w : Nat} (hv : v.toNat % 64 = w) (h1 : 1 ≤ w) (h32 : w ≤ 32) :
    exec (.chkConfigWrite u who .cfg v) s = .next (setChk u { chk u s with
      width := w, refIn := v.getLsbD 6, refOut := v.getLsbD 7, poly := chkMask w (chk u s).poly,
      init := chkMask w (chk u s).init, xorOut := chkMask w (chk u s).xorOut } { s with out := [] }) := by
  subst hv
  have hgood : ¬ ((chk u s).fifo ≠ [] ∨ v.toNat % 64 = 0 ∨ 32 < v.toNat % 64) := by simp [hf]; omega
  exact act_next h.live ((chkWrite_mine (s := { s with out := [] }) h).trans (if_neg hgood))

theorem exec_chkCfg_bad (h : ChkMine u who s) {v : W32} (hv : v.toNat % 64 = 0 ∨ 32 < v.toNat % 64) :
    exec (.chkConfigWrite u who .cfg v) s = .next (setChk u { chk u s with cfgErr := true } { s with out := [] }) :=
  act_next h.live ((chkWrite_mine (s := { s with out := [] }) h).trans (if_pos (.inr hv)))

end writes

/-! ### Absorption (R157, R159) -/

section absorbs
variable {b : Nat} {e : Bytes} {t : List Bytes} {s : State}

/-- The unit once it has taken entry `e` into its state, with `t` still queued. -/
def chkAbsorbed (c : Chk) (e : Bytes) (t : List Bytes) : Chk :=
  { c with
    st := BitVec.ofNat 32 (e.foldl (crcByte c.width c.poly.toNat c.refIn) c.st.toNat), fifo := t
    bytes := BitVec.ofNat 32 (min (c.bytes.toNat + e.length) 0xFFFFFFFF) }

theorem chkAbsorbS_cons (h : (chk b s).fifo = e :: t) :
    chkAbsorbS b s = setChk b (if t = [] then (chkAbsorbed (chk b s) e t).settle else chkAbsorbed (chk b s) e t) s := by
  unfold chkAbsorbS
  dsimp only
  split
  next hnil => cases h.symm.trans hnil
  next hcons => cases h.symm.trans hcons; rfl

end absorbs

/-! ### Results (R159) -/

section reads
variable {b : Nat} {raw : Bool} {s : State}

theorem chkResultReadS_ready (hon : b < 12 → boughOff b s = false) (h : (chk b s).ready = true) :
    chkResultReadS b raw s = emitOut (.value ((if raw then (chk b s).raw else (chk b s).result).setWidth 64)) s := by
  exact (if_neg (chk_powered hon)).trans (if_pos h)

theorem chkResultReadS_early (hon : b < 12 → boughOff b s = false) (h : (chk b s).ready = false) :
    chkResultReadS b raw s = emitOut (.value 0) (setChk b { chk b s with early := true } s) := by
  exact (if_neg (chk_powered hon)).trans (if_neg (Bool.eq_false_iff.mp h))

end reads

/-- Settles O20: the owner's writes by `chkWrite_mine`, an intruder's by `chkWrite_intrudes`, absorption by `chkAbsorbS_cons`. A suspended
stream resumes because RAW, once in INIT, is what START loads. -/
theorem checkUnits : Obligations.CheckUnits := by
  unfold Obligations.CheckUnits
  refine ⟨?writes, ?absorbs, ?reads, ?intruder, ?resumes⟩
  case writes =>
    intro u who v s h c s0 m
    have hmine : ∀ f, chkWrite u who f s0 = f c s0 := fun _ => chkWrite_mine (s := s0) h
    refine ⟨exec_chkInit h v, fun hf => ⟨?_, ?_, fun h1 h32 => exec_chkCfg h hf rfl h1 h32, exec_chkCfg_bad h⟩,
      fun hf r hr => exec_chkConfigWrite_busy h hf hr v, act_next h.live (chkStartS_mine (s := s0) h),
      fun n => ⟨fun hroom => ?_, fun hfull hb => ?_⟩⟩
    · exact act_next h.live ((hmine _).trans (if_neg (not_not.mpr hf)))
    · exact act_next h.live ((hmine _).trans (if_neg (not_not.mpr hf)))
    · exact act_next h.live ((hmine _).trans (if_neg (Nat.not_le.mpr hroom)))
    · exact act_next h.live ((hmine _).trans ((if_pos hfull).trans (if_pos hb)))
  case absorbs => exact fun u s e t hl hf => act_next hl (chkAbsorbS_cons hf)
  case reads =>
    exact fun u raw s hl hon => ⟨fun h => act_next hl (chkResultReadS_ready (s := { s with out := [] }) hon h),
      fun h => act_next hl (chkResultReadS_early (s := { s with out := [] }) hon h)⟩
  case intruder => exact fun u who r v s hl hon ho => act_next hl (chkWrite_intrudes (s := { s with out := [] }) u.isLt hon ho)
  case resumes =>
    intro u who s h hf hraw hlt
    have hinit := exec_chkInit h (chk u s).raw
    rw [chkMask_of_lt (hraw ▸ hlt)] at hinit
    refine ⟨_, _, hinit, act_live h.live, fun hw => ?_⟩
    set c : Chk := { chk u s with init := (chk u s).raw }
    set t : State := setChk u c { s with out := [] }
    have hread : chk u t = c := chk_setChk hw
    have hmine : ChkMine u who t := ChkMine.setChk (s := { s with out := [] }) h hw rfl
    have hstarted : chk u (chkStartS u who t) = chkStarted c := by
      rw [chkStartS_mine hmine, chk_setChk (twf_tset _ _ _ _ hw), hread]
    rw [show chk u (chkStartS u who { t with out := [] }) = chkStarted c from hstarted]
    exact ⟨hraw, rfl, rfl, rfl, rfl⟩

end Sys2Proof
end

section
/-!
PROOFS. Scope: the failures of custody boot and the custody push session (spec/07_custody_boot.md R163, R164, R179, R183 to R186,
spec/09_recovery_and_keep_flash.md R230, R231).
-/
namespace Sys2Proof
open Machine

/-! ### Commands that carry a time and that only PF1 gives -/

section host
variable {f : State → State} {n : Nat} {s : State}

/-- Time moves on whether PF1 is present or not. -/
theorem act_pf1At (hl : live s = true) (hpf : s.boot.pf1 = true) :
    act (fun s => pf1Do f (atTime n s)) s = .next (f (atInput n s)) :=
  (act_live hl).trans (congrArg Host.Outcome.next (if_pos hpf))

theorem act_noPf1At (hl : live s = true) (hpf : s.boot.pf1 = false) :
    act (fun s => pf1Do f (atTime n s)) s = .next (atInput n s) :=
  (act_live hl).trans (congrArg Host.Outcome.next (if_neg (Bool.eq_false_iff.mp hpf)))

end host

/-! ### Entries written twice -/

section twice
variable {α : Type} [DecidableEq α] {d : α}

/-- A value written below every key of a canonical table stands before them. -/
theorem tset_below {l k : Nat} (hk : k ≤ l) (w : α) : ∀ {t : Tab α}, twfFrom d (some l) t = true →
    tset d t k w = if w = d then t else (k, w) :: t
  | [], _ => rfl
  | (j, v) :: t, h => by
    have hlt : l < j := by simpa [aboveLo] using ((twfFrom_cons d _ _ _ _).mp h).1
    exact if_pos (Nat.lt_of_le_of_lt hk hlt)

/-- In a canonical table the second value written to an entry alone counts. -/
theorem tset_tset {k : Nat} {v w : α} {t : Tab α} {lo : Option Nat} (h : twfFrom d lo t = true) :
    tset d (tset d t k v) k w = tset d t k w := by
  by_cases hv : v = d
  case neg => exact tset_tset_ne d t k v w hv
  rw [hv]
  induction t generalizing lo with
  | nil => simp [tset]
  | cons e t ih =>
    obtain ⟨i, u⟩ := e
    obtain ⟨-, -, ht⟩ := (twfFrom_cons _ _ _ _ _).mp h
    rcases Nat.lt_trichotomy k i with hlt | rfl | hgt
    · simp [tset, hlt]
    · simpa [tset] using tset_below (Nat.le_refl k) w ht
    · have h1 : ¬ k < i := by omega
      have h2 : ¬ k = i := by omega
      simpa [tset, h1, h2] using ih ht

end twice

theorem modCdom_congr {d : Nat} {f g : CusDom → CusDom} {s : State} (h : f (cdom d s) = g (cdom d s)) : modCdom d f s = modCdom d g s := by
  unfold modCdom modCus tmod
  exact congrArg (fun x => { s with cus := { s.cus with dom := tset {} s.cus.dom d x } }) h

theorem cdom_modCdom_other {d k : Nat} {f : CusDom → CusDom} {s : State} (hw : twf {} s.cus.dom = true) (hk : k ≠ d) :
    cdom k (modCdom d f s) = cdom k s := tget_tmod_other _ _ _ _ f hw hk

theorem modCdom_modCdom {d : Nat} {f g : CusDom → CusDom} {s : State} (hw : twf {} s.cus.dom = true) :
    modCdom d g (modCdom d f s) = modCdom d (fun x => g (f x)) s := by
  have hdom : tmod {} (tmod {} s.cus.dom d f) d g = tmod {} s.cus.dom d (fun x => g (f x)) := by
    rw [tmod, tget_tmod_same _ _ _ _ hw]
    exact tset_tset hw
  exact congrArg (fun t => { s with cus := { s.cus with dom := t } }) hdom

/-! ### Steps of one custody domain -/

/-- Nothing but custody, PHASE, the telemetry, the outputs, the time and the free values differs. -/
def OnlyCustody (s t : State) : Prop :=
  t = { s with
    now := t.now, out := t.out, hostMem := t.hostMem, tel := t.tel, cus := t.cus, freeCtr := t.freeCtr
    boot := { s.boot with phase := t.boot.phase, phaseUs := t.boot.phaseUs } }

theorem OnlyCustody.trans {s t u : State} (h : OnlyCustody s t) (k : OnlyCustody t u) : OnlyCustody s u := by
  unfold OnlyCustody at *
  rw [k, h]

theorem OnlyCustody.emit (c : EvClass) (code src : W16) (b : Bytes) (s : State) : OnlyCustody s (emit c code src b s) := by
  rw [OnlyCustody, emit_same c code src b s]

theorem OnlyCustody.phaseRun (s : State) : OnlyCustody s (phaseRun s) := by
  unfold Machine.phaseRun
  split <;> rfl

/-- From `s` to `t` domain `d` has become `y`, and no other domain and no unit outside custody has changed. -/
structure DomTo (d : Nat) (y : CusDom) (s t : State) : Prop where
  dom : cdom d t = y
  others : ∀ k, k ≠ d → cdom k t = cdom k s
  wf : twf {} t.cus.dom = true
  frame : OnlyCustody s t

namespace DomTo
variable {d : Nat} {y : CusDom} {s t u : State}

theorem input (n : Nat) (hw : twf {} s.cus.dom = true) : DomTo d (cdom d s) s (atInput n s) := ⟨rfl, fun _ _ => rfl, hw, rfl⟩
theorem start (hw : twf {} s.cus.dom = true) : DomTo d (cdom d s) s { s with out := [] } := ⟨rfl, fun _ _ => rfl, hw, rfl⟩

theorem kept (h : DomTo d y s t) : DomKept d s t := by
  refine ⟨h.others, ?_⟩
  rw [h.frame]
  exact ⟨rfl, rfl, rfl, rfl, rfl, rfl, rfl, rfl, rfl, rfl, rfl, rfl, rfl⟩

theorem configured (h : DomTo d y s t) : cusConfigured d t = cusConfigured d s := cusConfigured_congr (by rw [h.frame]) d
theorem kpf (h : DomTo d y s t) : t.kpf = s.kpf := by rw [h.frame]

/-- A step that leaves the table of domains. -/
theorem same (h : DomTo d y s t) (hd : u.cus.dom = t.cus.dom) (hf : OnlyCustody t u) : DomTo d y s u := by
  have hc : ∀ k, cdom k u = cdom k t := fun k => by rw [cdom, hd, cdom]
  exact ⟨(hc d).trans h.dom, fun k hk => (hc k).trans (h.others k hk), by rw [hd]; exact h.wf, h.frame.trans hf⟩

theorem bump (h : DomTo d y s t) (o : Nat) : DomTo d y s (bump o t) := h.same rfl rfl
theorem emitOut (h : DomTo d y s t) (o : Output) : DomTo d y s (emitOut o t) := h.same rfl rfl

theorem emit (h : DomTo d y s t) (c : EvClass) (code src : W16) (b : Bytes) : DomTo d y s (emit c code src b t) :=
  h.same (congrArg Cus.dom (emit_cus _ _ _ _ _)) (.emit _ _ _ _ _)

theorem modCdom (h : DomTo d y s t) (f : CusDom → CusDom) : DomTo d (f y) s (modCdom d f t) := by
  refine ⟨(cdom_modCdom h.wf).trans (congrArg f h.dom), fun k hk => ?_, twf_tmod _ _ _ _ h.wf, h.frame.trans rfl⟩
  exact (cdom_modCdom_other h.wf hk).trans (h.others k hk)

theorem modFlt (h : DomTo d y s t) (f : Flt → Flt) : DomTo d { y with flt := f y.flt } s (modFlt d f t) :=
  h.modCdom (fun x => { x with flt := f x.flt })

theorem phaseRun (h : DomTo d y s t) : DomTo d y s (phaseRun t) := h.same (congrArg Cus.dom (phaseRun_cus t)) (.phaseRun t)

theorem pushEnd (h : DomTo d y s t) (code : W16) : DomTo d y s (cusPushEnd code t) :=
  (h.same (u := modCus (fun c => { c with push := { c.push with result := code, state := 5, frames := [], stream := [] } }) t) rfl rfl).emit
    _ _ _ _

theorem record (h : DomTo d y s t) (code : W16) (o src : Nat) : DomTo d { y with result := code } s (cusRecord d code o src t) :=
  (((h.modCdom (fun x => { x with result := code })).emit _ _ _ _).emit _ _ _ _).bump _

end DomTo

/-! ### A domain fails (R164, R186) -/

/-- The record of a FAILED domain. -/
def failedDom (y : CusDom) : CusDom := { y.dropAttempt with st := .failed, alert := true, step := .idle, cand := [] }

section fails
variable {d : Nat} {y : CusDom} {s t : State} {code : W16}

theorem DomTo.failed (h : DomTo d y s t) : DomTo d (failedDom y) s (cusFailed d t) :=
  ((h.modCdom failedDom).same (u := modCus (fun c => { c with ready := c.ready.filter (· != d) }) (Machine.modCdom d failedDom t)) rfl rfl).phaseRun

theorem cusFailed_ready (d : Nat) (s : State) : (cusFailed d s).cus.ready = s.cus.ready.filter (· != d) :=
  congrArg Cus.ready (phaseRun_cus _)

theorem cusFailed_push (d : Nat) (s : State) : (cusFailed d s).cus.push = s.cus.push :=
  (congrArg Cus.push (phaseRun_cus _)).trans rfl

theorem cusPushEnd_push (code : W16) (s : State) :
    (cusPushEnd code s).cus.push = { s.cus.push with result := code, state := 5, frames := [], stream := [] } := by
  simp [cusPushEnd, modCus]

theorem cusPushEnd_ready (code : W16) (s : State) : (cusPushEnd code s).cus.ready = s.cus.ready := by
  simp [cusPushEnd, modCus]

/-- A domain in any state of its attempt, its reset line as before, fails with the code that RESULT shows. -/
theorem DomTo.domFailed (h : DomTo d y s t) (hcode : y.result = code) (hrel : y.released = (cdom d s).released) :
    DomFailed d code s (cusFailed d t) := by
  refine ⟨h.failed.kept, ?_⟩
  rw [h.failed.dom, cusFailed_ready]
  exact ⟨rfl, hcode, rfl, rfl, rfl, hrel, by simp⟩

/-- The end of the push session leaves a failed domain as it is. -/
theorem DomFailed.pushEnd (h : DomFailed d code s t) (c : W16) : DomFailed d code s (cusPushEnd c t) := by
  have hdom : ∀ k, cdom k (cusPushEnd c t) = cdom k t := fun k => by rw [cdom, cusPushEnd_dom, cdom]
  have hsame : SameButTel (modCus (fun x => { x with push := { x.push with result := c, state := 5, frames := [], stream := [] } }) t)
      (cusPushEnd c t) := emit_same _ _ _ _ _
  obtain ⟨⟨hothers, hunits⟩, hrest⟩ := h
  refine ⟨⟨fun k hk => (hdom k).trans (hothers k hk), ?_⟩, ?_⟩
  · rw [hsame]; exact hunits
  · rw [hdom, cusPushEnd_ready]; exact hrest

end fails

/-! ### An attempt fails (R174, R229, R230) -/

/-- Two records of a domain whose attempt has the same source, policy and candidates left. -/
def SameAttempt (x y : CusDom) : Prop :=
  y.src = x.src ∧ y.pol = x.pol ∧ y.cand = x.cand ∧ y.rcvTried = x.rcvTried ∧ y.released = x.released

/-- The record of a domain that goes on to its other candidate, in slot `k` with header `b`. -/
def nextCandidate (k : Nat) (b : Bytes) (r : List (Nat × Bytes)) (y : CusDom) : CusDom :=
  ({ y.dropAttempt with fallback := true, src := k, cand := r, step := .header, st := .verify }).selected (hdrOf b)

/-- The record of a domain that goes on to its recovery flash. -/
def nextRecovery (y : CusDom) : CusDom := { y.dropAttempt with src := 2, rcvTried := true, step := .discovery, st := .select }

section attempt
variable {d : Nat} {y : CusDom} {s t : State} {code : W16}

theorem cusFallback_pushed (h : (cdom d t).src = 3) :
    cusFallback d code t = cusPushEnd code (cusFailed d (cusRecord d code 3 3 t)) := if_pos h

theorem cusFallback_recovery (h : (cdom d t).src = 2) : cusFallback d code t = cusFailed d (cusRecord d code 3 2 t) :=
  (if_neg (by omega)).trans (if_pos h)

theorem cusFallback_candidate (h : (cdom d t).src ≤ 1) {k : Nat} {b : Bytes} {r : List (Nat × Bytes)} (hc : (cdom d t).cand = (k, b) :: r) :
    cusFallback d code t = modCdom d (nextCandidate k b r) (cusRecord d code 1 (cdom d t).src t) := by
  refine ((if_neg (by omega)).trans (if_neg (by omega))).trans ?_
  rw [hc]
  rfl

theorem cusFallback_noSlot (h : (cdom d t).src ≤ 1) (hc : (cdom d t).cand = []) :
    ∃ o, cusFallback d code t = cusNoSlot d (cusRecord d code o (cdom d t).src t) := by
  have heq : cusFallback d code t = _ := (if_neg (by omega)).trans (if_neg (by omega))
  rw [hc] at heq
  exact ⟨_, heq⟩

theorem DomTo.discover (h : DomTo d y s t) (cs : Nat) : DomTo d y s (discoverOut d cs t) := (h.emitOut _).emitOut _

theorem DomTo.noSlot_recovery (h : DomTo d y s t) (hp : polRecovery y.pol = true) (hr : y.rcvTried = false) :
    DomTo d (nextRecovery { y with result := 0x2001 }) s (cusNoSlot d t) := by
  have hif : (polRecovery (cdom d t).pol && !(cdom d t).rcvTried) = true := by rw [h.dom, hp, hr]; rfl
  rw [show cusNoSlot d t = _ from if_pos hif]
  exact ((h.record _ _ _).modCdom nextRecovery).discover 1

theorem DomTo.noSlot_fails (h : DomTo d y s t) (hrel : y.released = (cdom d s).released) (hp : polRecovery y.pol = false ∨ y.rcvTried = true) :
    DomFailed d 0x2001 s (cusNoSlot d t) := by
  have hif : ¬ (polRecovery (cdom d t).pol && !(cdom d t).rcvTried) = true := by
    rw [h.dom]
    rcases hp with hp | hp <;> simp [hp]
  rw [show cusNoSlot d t = _ from if_neg hif]
  exact (h.record _ _ _).domFailed rfl hrel

theorem DomTo.noSlot_kept (h : DomTo d y s t) : DomKept d s (cusNoSlot d t) := by
  unfold cusNoSlot
  dsimp only
  split
  · exact (((h.record _ _ _).modCdom nextRecovery).discover 1).kept
  · exact (h.record _ _ _).failed.kept

/-- A failing attempt goes to the next source; what `t` has changed of the attempt meanwhile concerns none. -/
theorem DomTo.attemptFails (h : DomTo d y s t) (ha : SameAttempt (cdom d s) y) (hsrc : (cdom d s).src ≤ 3) :
    AttemptFails d code s (cusFallback d code t) := by
  obtain ⟨hys, hyp, hyc, hyr, hrel⟩ := ha
  have hts : (cdom d t).src = (cdom d s).src := h.dom ▸ hys
  have htc : (cdom d t).cand = (cdom d s).cand := h.dom ▸ hyc
  have hpush := fun he => cusFallback_pushed (code := code) (hts.trans he)
  have hrcv := fun he => cusFallback_recovery (code := code) (hts.trans he)
  have hcand := fun he k b r hc => cusFallback_candidate (code := code) (hts.trans_le he) (k := k) (b := b) (r := r) (htc.trans hc)
  have hlast := fun he hc => cusFallback_noSlot (code := code) (hts.trans_le he) (htc.trans hc)
  refine ⟨?kept, fun he => ?pushed, fun he => ?recovery, fun he k b r hc => ?candidate, fun he hc hp hr => ?flash, fun he hc hp => ?fails⟩
  case kept =>
    rcases Nat.lt_or_ge (cdom d s).src 2 with hlt | hge
    · cases hc : (cdom d s).cand with
      | nil =>
        obtain ⟨o, ho⟩ := hlast (by omega) hc
        rw [ho]
        exact (h.record _ _ _).noSlot_kept
      | cons e r =>
        rw [hcand (by omega) e.1 e.2 r hc]
        exact ((h.record _ _ _).modCdom _).kept
    · rcases (by omega : (cdom d s).src = 2 ∨ (cdom d s).src = 3) with he | he
      · rw [hrcv he]
        exact (h.record _ _ _).failed.kept
      · rw [hpush he]
        exact ((h.record _ _ _).failed.pushEnd code).kept
  case pushed =>
    rw [hpush he, ((h.record _ _ _).failed.pushEnd code).dom, cusPushEnd_push]
    exact ⟨rfl, rfl, rfl, rfl⟩
  case recovery =>
    rw [hrcv he]
    exact (h.record _ _ _).domFailed rfl hrel
  case candidate =>
    rw [hcand he k b r hc, ((h.record _ _ _).modCdom _).dom]
    exact ⟨rfl, rfl, rfl, rfl, rfl, rfl, rfl, rfl⟩
  case flash =>
    obtain ⟨o, ho⟩ := hlast he hc
    rw [ho, ((h.record code o _).noSlot_recovery (by rw [← hp]; exact congrArg polRecovery hyp) (hyr.trans hr)).dom]
    exact ⟨rfl, rfl, rfl, rfl, rfl⟩
  case fails =>
    obtain ⟨o, ho⟩ := hlast he hc
    rw [ho]
    exact (h.record code o _).noSlot_fails hrel (by
      show polRecovery y.pol = false ∨ y.rcvTried = true
      rwa [hyp, hyr])

end attempt

/-! ### A domain is held (R163, R183, R184) -/

/-- From `s` to `t` domain `d` has become `y` and waits for no release; no other domain, no journal and no key has changed. -/
structure HoldTo (d : Nat) (y : CusDom) (s t : State) : Prop where
  dom : cdom d t = y
  others : ∀ k, k ≠ d → cdom k t = cdom k s
  wf : twf {} t.cus.dom = true
  ready : d ∉ t.cus.ready
  kpf : t.kpf = s.kpf
  vault : t.vault = s.vault

section hold
variable {d : Nat} {y : CusDom} {s t : State}

theorem HoldTo.modCdom (h : HoldTo d y s t) (f : CusDom → CusDom) : HoldTo d (f y) s (modCdom d f t) :=
  ⟨(cdom_modCdom h.wf).trans (congrArg f h.dom), fun k hk => (cdom_modCdom_other h.wf hk).trans (h.others k hk),
    twf_tmod _ _ _ _ h.wf, h.ready, h.kpf, h.vault⟩

/-- The result of a closed window, in the window's register and, where the mailbox asked for the close, in the mailbox at `at_`. -/
def updShown (code : W16) (viaMbx : Bool) (at_ : Nat) (y : CusDom) : CusDom :=
  { y with
    upd := { y.upd with result := code }
    flt := if viaMbx then { y.flt with mbx := { y.flt.mbx with ready := true, at_ := at_, code := code, data := [] } } else y.flt }

theorem DomTo.updResult (h : DomTo d y s t) (code : W16) (viaMbx : Bool) :
    DomTo d (updShown code viaMbx (t.now + 20 * psUs) y) s (updResult d code viaMbx t) := by
  have hcode := h.modCdom (fun y => { y with upd := { y.upd with result := code } })
  have hmbx := hcode.modFlt (fun f => { f with mbx := { f.mbx with ready := true, at_ := t.now + 20 * psUs, code := code, data := [] } })
  cases viaMbx with
  | false => exact hcode.emit .secure code (srcDomain d) []
  | true => exact hmbx.emit .secure code (srcDomain d) []

/-- An abandoned window leaves the rest of its domain. -/
theorem DomTo.updAbandon (h : DomTo d y s t) : ∃ u c, DomTo d { y with upd := u, closed := c } s (updAbandon d t) ∧
    u.st = 0 ∧ ((cdom d t).upd.st ≠ 0 → u.result = 0x2034) := by
  have hshut := h.modCdom (fun x => { x with upd := x.upd.shut, closed := x.closed.map (fun u => { u with viaMbx := false }) })
  by_cases hst : (cdom d t).upd.st = 0
  · rw [show Machine.updAbandon d t = _ from if_neg (not_not.mpr hst)]
    exact ⟨_, _, hshut, rfl, fun hne => absurd hst hne⟩
  · rw [show Machine.updAbandon d t = _ from if_pos hst]
    exact ⟨_, _, hshut.updResult 0x2034 false, rfl, fun _ => rfl⟩

/-- From `s` to `t` domain `d` has become `y` but for its cambium, and nothing else of custody has changed. -/
def FltTo (d : Nat) (y : CusDom) (s t : State) : Prop := ∃ f, DomTo d { y with flt := f } s t

theorem FltTo.verdictSend (h : FltTo d y s t) (v : Verdict) : FltTo d y s (verdictSend d v t) := by
  obtain ⟨f, hf⟩ := h
  exact ⟨{ f with last := v }, (hf.modFlt (fun f => { f with last := v })).emit .secure v.code (srcDomain d)
    (d1 d ++ d4 v.seq ++ d2 v.code.toNat ++ d1 v.op ++ d4 v.addr)⟩

theorem FltTo.verdictFlush (h : FltTo d y s t) : FltTo d y s (verdictFlush d t) := by
  obtain ⟨f, hf⟩ := h
  have hsend : ∀ l u, FltTo d y s u → FltTo d y s (foldS (Machine.verdictSend d) l u) := by
    intro l
    induction l with
    | nil => exact fun _ hu => hu
    | cons v l ih => exact fun _ hu => ih _ (hu.verdictSend v)
  exact hsend _ _ ⟨{ f with later := [] }, hf.modFlt (fun f => { f with later := [] })⟩

/-- A dropped escape, and the verdicts that follow it, change the cambium alone. -/
theorem DomTo.escDrop (h : DomTo d y s t) : FltTo d y s (escDrop d t) := by
  unfold Machine.escDrop
  split
  · exact ⟨y.flt, h⟩
  · have hfree : DomTo d y s (drawFree t).2 := h.same rfl rfl
    have hnone : FltTo d y s (Machine.modFlt d (fun f => { f with esc := none }) (drawFree t).2) :=
      ⟨{ y.flt with esc := none }, hfree.modFlt (fun f => { f with esc := none })⟩
    exact (hnone.verdictSend _).verdictFlush

theorem DomTo.rstAssert (h : DomTo d y s t) : ∃ r, DomTo d { y with released := false, rstAt := r } s (rstAssert d t) :=
  ⟨if y.released then t.now else y.rstAt, h.modCdom (fun x => { x with released := false, rstAt := if x.released then t.now else x.rstAt })⟩

theorem DomTo.stopped (h : DomTo d y s t) : ∃ r f u c,
    DomTo d { y with released := false, rstAt := r, flt := f, upd := u, closed := c } s (cusStopped d t) := by
  obtain ⟨u, c, hupd, -⟩ := h.updAbandon
  obtain ⟨f, hesc⟩ := hupd.escDrop
  obtain ⟨r, hrst⟩ := hesc.rstAssert
  refine ⟨r, f, u, c, ?_⟩
  unfold cusStopped
  dsimp only
  split
  · exact hrst.pushEnd 0x2038
  · exact hrst

/-- The sweep of the Hollow Wood and PHASE change neither custody nor the journal nor a key. -/
theorem phaseSwept_parts (s : State) : (phaseRun (hollowSweep s)).cus = s.cus ∧ (phaseRun (hollowSweep s)).kpf = s.kpf ∧
    (phaseRun (hollowSweep s)).vault = s.vault := by
  have hphase := OnlyCustody.phaseRun (hollowSweep s)
  have hsweep := HollowStep.hollowSweep s
  refine ⟨(phaseRun_cus _).trans (hollowSweep_cus s), ?_, ?_⟩
  · rw [hphase, hsweep]
  · rw [hphase, hsweep]

/-- The state in which a hold in `st` leaves a domain: while the anchor is lost a configured one is FAILED and not HELD (09 R246). -/
def holdState (st : CusState) (d : Nat) (s : State) : CusState :=
  if st = .held ∧ s.kpf.anchorLost = true ∧ cusConfigured d s = true then .failed else st

theorem holdState_held (d : Nat) (s : State) :
    holdState .held d s = if s.kpf.anchorLost = true ∧ cusConfigured d s = true then .failed else .held := by
  simp [holdState]

theorem holdState_fenced (d : Nat) (s : State) : holdState .fenced d s = .fenced := by
  simp [holdState]

/-- What a hold in `st` makes of a domain: reset is asserted, the attempt and the host side are gone. -/
theorem DomTo.hold (h : DomTo d y s t) (st : CusState) : ∃ r f u c,
    HoldTo d (cusHeld (holdState st d s)
      { y with released := false, rstAt := r, flt := f, upd := u, closed := c }) s (cusHold d st t) := by
  obtain ⟨r, f, u, c, hstop⟩ := h.stopped
  refine ⟨r, f, u, c, ?_⟩
  have hst : (if st == .held && (cusStopped d t).kpf.anchorLost && cusConfigured d (cusStopped d t) then CusState.failed else st) =
      holdState st d s := by
    rw [hstop.kpf, hstop.configured]
    simp [holdState, and_assoc]
  have heq := cusHold_eq d st t
  dsimp only at heq
  rw [hst] at heq
  generalize holdState st d s = st' at heq ⊢
  have hheld := hstop.modCdom (cusHeld st')
  rw [heq]
  generalize Machine.modCdom d (cusHeld st') (cusStopped d t) = v at hheld ⊢
  obtain ⟨hcus, hkpf, hvault⟩ := phaseSwept_parts (modCus (fun c => { c with ready := c.ready.filter (· != d) }) v)
  have hdom : ∀ k, cdom k (Machine.phaseRun (hollowSweep (modCus (fun c => { c with ready := c.ready.filter (· != d) }) v))) = cdom k v :=
    fun k => by rw [cdom, hcus]; rfl
  refine ⟨(hdom d).trans hheld.dom, fun k hk => (hdom k).trans (hheld.others k hk), ?_, ?_, hkpf.trans hheld.kpf, hvault.trans ?_⟩
  · rw [hcus]; exact hheld.wf
  · rw [hcus]; simp [modCus]
  · rw [modCus, hheld.frame]

end hold

/-! ### PG, port faults and reboots (R163, R183, R185) -/

section commands
variable {n : Nat} {d : Fin 32} {s t : State} {y : CusDom}

/-- PG is low, and high again it counts 10 ms. -/
def pgLow (n : Nat) (d : Nat) (s : State) : State := modCdom d (fun x => { x with pg := false, pgLost := true }) (atInput n s)

theorem exec_custodyPgFall_holds (hl : live s = true)
    (hst : (cdom d s).st = .select ∨ (cdom d s).st = .verify ∨ (cdom d s).st = .waitRelease ∨ (cdom d s).st = .running) :
    exec (.custodyPgFall n d) s =
      .next (modCdom d (fun x => { x with bootDue := true }) (cusHold d .held (cusRecord d 0x200B 5 (cdom d s).src (pgLow n d s)))) := by
  refine (act_live hl).trans (congrArg Host.Outcome.next ?_)
  have hread : cdom d (atTime n { s with out := [] }) = cdom d s := rfl
  unfold custodyPgFallS
  dsimp only
  rw [hread]
  rcases hst with h | h | h | h <;> rw [h] <;> rfl

theorem exec_custodyPgFall_ends (hl : live s = true) (hst : (cdom d s).st = .failed) (hp : cusPushing d s = true) :
    exec (.custodyPgFall n d) s = .next (cusPushEnd 0x200B (cusFailed d (cusRecord d 0x200B 3 3 (pgLow n d s)))) := by
  refine (act_live hl).trans (congrArg Host.Outcome.next ?_)
  have hread : cdom d (atTime n { s with out := [] }) = cdom d s := rfl
  unfold custodyPgFallS
  dsimp only
  rw [hread, hst]
  exact if_pos hp

theorem exec_custodyPgFall_stays (hl : live s = true)
    (hst : (cdom d s).st = .held ∨ (cdom d s).st = .fenced ∨ ((cdom d s).st = .failed ∧ cusPushing d s = false)) :
    exec (.custodyPgFall n d) s = .next (pgLow n d s) := by
  refine (act_live hl).trans (congrArg Host.Outcome.next ?_)
  have hread : cdom d (atTime n { s with out := [] }) = cdom d s := rfl
  unfold custodyPgFallS
  dsimp only
  rw [hread]
  rcases hst with h | h | ⟨h, hp⟩ <;> rw [h]
  · rfl
  · rfl
  · exact if_neg (Bool.eq_false_iff.mp hp)

theorem exec_portFault (hl : live s = true) (hst : (cdom d s).st ≠ .fenced) :
    exec (.portFault n d) s = .next (modCdom d (fun x => { x with alert := true, bootDue := false })
      (cusHold d .fenced (cusRecord d 0x200A 4 (cdom d s).src (atInput n s)))) :=
  (act_live hl).trans (congrArg Host.Outcome.next (if_neg (fun h => hst (beq_iff_eq.mp h))))

theorem exec_portFault_fenced (hl : live s = true) (hst : (cdom d s).st = .fenced) : exec (.portFault n d) s = .next (atInput n s) :=
  (act_live hl).trans (congrArg Host.Outcome.next (if_pos (beq_iff_eq.mpr hst)))

theorem cusReboot_fenced {d : Nat} (hst : (cdom d s).st = .fenced) : cusReboot d s = modCdom d (fun x => { x with result := 0x200A }) s :=
  if_pos (by simpa using hst)

theorem cusReboot_unconfigured {d : Nat} (hst : (cdom d s).st ≠ .fenced) (hc : cusConfigured d s = false) : cusReboot d s = s :=
  (if_neg (by simpa using hst)).trans (if_pos (by simpa using hc))

theorem cusReboot_holds {d : Nat} (hst : (cdom d s).st ≠ .fenced) (hc : cusConfigured d s = true) :
    cusReboot d s = modCdom d (fun x => { x with bootDue := cusOn d s }) (cusHold d .held s) :=
  (if_neg (by simpa using hst)).trans (if_neg (by simpa using hc))

theorem exec_custodyPgRestore (hl : live s = true) : exec (.custodyPgRestore n d) s = .next (if (cdom d s).pg then atInput n s
    else withDom d { cdom d s with pg := true, pgAt := max s.now n } (atInput n s)) := act_live hl

/-! ### Stalled reads and raised floors (R179, R185) -/

/-- A read of the attempt can stall: it reads from a flash and has not ended. -/
def Reads (x : CusDom) : Prop := x.step ≠ .idle ∧ x.step ≠ .verified ∧ x.step ≠ .writeBack ∧ x.src ≠ 3

/-- One more stalled read in a row. -/
def stalled (d : Nat) (s : State) : State := modCdom d (fun x => { x with timeouts := x.timeouts + 1 }) { s with out := [] }

theorem exec_flashTimeout_none (hl : live s = true) (h : ¬ Reads (cdom d s)) : exec (.flashTimeout d) s = .next { s with out := [] } := by
  refine (act_live hl).trans (congrArg Host.Outcome.next (if_pos ?_))
  have hread : cdom d { s with out := [] } = cdom d s := rfl
  rw [hread]
  by_contra hc
  exact h (by simpa [Reads, and_assoc] using hc)

theorem exec_flashTimeout (hl : live s = true) (h : Reads (cdom d s)) :
    exec (.flashTimeout d) s = .next (if 1 ≤ (cdom d s).timeouts then cusFailed d (cusRecord d 0x200C 3 (cdom d s).src (stalled d s))
      else cusFallback d 0x200C (stalled d s)) := by
  obtain ⟨h1, h2, h3, h4⟩ := h
  refine (act_live hl).trans (congrArg Host.Outcome.next (if_neg ?_))
  have hread : cdom d { s with out := [] } = cdom d s := rfl
  simp [hread, h1, h2, h3, h4]

theorem floorRaise_none {d : Nat} {who : Nat} (h : (cdom d s).svn.toNat ≤ cusFloor d s) : floorRaise d who s = s := if_pos h

theorem floorRaise_spent {d who : Nat} (h : cusFloor d s < (cdom d s).svn.toNat) (ha : 4096 ≤ s.fuses.anchor) :
    floorRaise d who s = floorSpent d s := (if_neg (by omega)).trans (if_pos ha)

theorem journalAct_queued {a : JAct} (h : journalShut s = false) : journalAct a s = withKpf { s.kpf with acts := s.kpf.acts ++ [a] } s :=
  if_neg (Bool.eq_false_iff.mp h)

theorem floorRaise_queued {d who : Nat} (h : cusFloor d s < (cdom d s).svn.toNat) (ha : s.fuses.anchor < 4096) (hj : journalShut s = false) :
    floorRaise d who s = withKpf { s.kpf with acts := s.kpf.acts ++ [.floor d (cdom d s).svn.toNat who] } s := by
  have hopen : ∀ k, ¬ (journalShut (withKpf k s) && decide (who = 1)) = true := fun k => by
    rw [show journalShut (withKpf k s) = journalShut s from rfl, hj]
    exact Bool.false_ne_true
  refine ((if_neg (by omega)).trans (if_neg (by omega))).trans ?_
  rw [journalAct_queued hj]
  exact if_neg (hopen _)

end commands

/-! ### The custody push session (R230, R231) -/

section push
variable {n : Nat} {d : Nat} {s t : State} {y : CusDom} {code : W16}

theorem cusPushHead_idle (h : (cdom d s).step ≠ .header) : cusPushHead d s = s := if_pos (by simpa using h)

theorem cusPushHead_refused (h : (cdom d s).step = .header) (hc : cusHeadTest d 3 (s.cus.push.stream.take 512) s = some code) :
    cusPushHead d s = cusFallback d code s := by
  refine (if_neg (by simpa using h)).trans ?_
  rw [hc]

theorem cusPushHead_short (h : (cdom d s).step = .header) (hc : cusHeadTest d 3 (s.cus.push.stream.take 512) s = none)
    (hs : s.cus.push.stream.length < (hdrOf s.cus.push.stream).headerLen) : cusPushHead d s = s := by
  refine (if_neg (by simpa using h)).trans ?_
  rw [hc]
  exact if_pos hs

/-- The end of a session by its own rules: the domain fails as it is, and the session with a code. -/
theorem DomTo.pushEnds (h : DomTo d y s t) (hcode : y.result = (cdom d s).result) (hrel : y.released = (cdom d s).released) (c : W16) :
    let u := cusPushEnd c (cusFailed d t)
    u.cus.push.state = 5 ∧ u.cus.push.result = c ∧ u.cus.push.stream = [] ∧ DomFailed d (cdom d s).result s u := by
  dsimp only
  rw [cusPushEnd_push]
  exact ⟨rfl, rfl, rfl, (h.domFailed hcode hrel).pushEnd c⟩

/-- What a write back brings onto the flash's lines changes the outputs alone. -/
theorem writeBackOut_cus (d base size : Nat) (img : Bytes) (s : State) : (writeBackOut d base size img s).cus = s.cus := by
  have hfold : ∀ {α : Type} (f : α → State → State), (∀ a u, (f a u).cus = u.cus) → ∀ (l : List α) u, (foldS f l u).cus = u.cus := by
    intro α f hf l
    induction l with
    | nil => exact fun _ => rfl
    | cons a l ih => exact fun u => (ih _).trans (hf a u)
  unfold writeBackOut
  dsimp only
  rw [hfold, hfold] <;> exact fun _ _ => rfl

theorem readyInsert_congr {s t : State} (h : ∀ k, (cdom k t).readyAt = (cdom k s).readyAt) (d : Nat) : ∀ l, readyInsert t d l = readyInsert s d l
  | [] => rfl
  | e :: l => by simp only [readyInsert, h, readyInsert_congr h d l]

end push

/-! ### The rows that hold a domain -/

/-- What the custody rows say of a held domain. -/
def DomHeld (d : Nat) (s t : State) : Prop :=
  (cdom d t).released = false ∧ (cdom d t).shadow = [] ∧ (cdom d t).step = .idle ∧ (cdom d t).body = [] ∧
  (cdom d t).flt.phase = 0 ∧ d ∉ t.cus.ready ∧ (∀ k, k ≠ d → cdom k t = cdom k s) ∧ t.kpf = s.kpf ∧ t.vault = s.vault

theorem HoldTo.held {d : Nat} {s t : State} {y : CusDom} (h : HoldTo d y s t) (hrel : y.released = false) (hsh : y.shadow = [])
    (hstep : y.step = .idle) (hbody : y.body = []) (hphase : y.flt.phase = 0) : DomHeld d s t := by
  unfold DomHeld
  rw [h.dom]
  exact ⟨hrel, hsh, hstep, hbody, hphase, h.ready, h.others, h.kpf, h.vault⟩

section rows
variable {n : Nat} {d : Fin 32} {s : State}

theorem DomTo.low (n : Nat) (hw : twf {} s.cus.dom = true) : DomTo d { cdom d s with pg := false, pgLost := true } s (pgLow n d s) :=
  (DomTo.input n hw).modCdom (fun x => { x with pg := false, pgLost := true })

theorem custodyPgFall_held (hl : live s = true) (hw : twf {} s.cus.dom = true)
    (h : (cdom d s).st = .select ∨ (cdom d s).st = .verify ∨ (cdom d s).st = .waitRelease ∨ (cdom d s).st = .running) :
    ∃ t, exec (.custodyPgFall n d) s = .next t ∧ DomHeld d s t ∧ (cdom d t).st = holdState .held d s ∧ (cdom d t).pg = false ∧
      (cdom d t).pgLost = true ∧ (cdom d t).bootDue = true ∧ (cdom d t).result = 0x200B := by
  obtain ⟨r, f, u, c, hh⟩ := ((DomTo.low n hw).record 0x200B 5 (cdom d s).src).hold .held
  have hdue := hh.modCdom (fun x => { x with bootDue := true })
  refine ⟨_, exec_custodyPgFall_holds hl h, hdue.held rfl rfl rfl rfl rfl, ?_⟩
  rw [hdue.dom]
  exact ⟨rfl, rfl, rfl, rfl, rfl⟩

theorem custodyPgFall_pushed (hl : live s = true) (hw : twf {} s.cus.dom = true) (h : (cdom d s).st = .failed) (hp : cusPushing d s = true) :
    ∃ t, exec (.custodyPgFall n d) s = .next t ∧ (cdom d t).st = .failed ∧ (cdom d t).pg = false ∧
      t.cus.push.state = 5 ∧ t.cus.push.result = 0x200B ∧ (cdom d t).result = 0x200B := by
  refine ⟨_, exec_custodyPgFall_ends hl h hp, ?_⟩
  rw [((((DomTo.low n hw).record 0x200B 3 3).failed).pushEnd 0x200B).dom, cusPushEnd_push]
  exact ⟨rfl, rfl, rfl, rfl, rfl⟩

theorem portFault_held (hl : live s = true) (hw : twf {} s.cus.dom = true) (h : (cdom d s).st ≠ .fenced) :
    ∃ t, exec (.portFault n d) s = .next t ∧ DomHeld d s t ∧ (cdom d t).st = .fenced ∧ (cdom d t).alert = true ∧
      (cdom d t).bootDue = false ∧ (cdom d t).result = 0x200A := by
  obtain ⟨r, f, u, c, hh⟩ := ((DomTo.input (d := d) n hw).record 0x200A 4 (cdom d s).src).hold .fenced
  have hdue := hh.modCdom (fun x => { x with alert := true, bootDue := false })
  refine ⟨_, exec_portFault hl h, hdue.held rfl rfl rfl rfl rfl, ?_⟩
  rw [hdue.dom]
  exact ⟨holdState_fenced d s, rfl, rfl, rfl⟩

theorem custodyReboot_held (hl : live s = true) (hw : twf {} s.cus.dom = true) (hpf : s.boot.pf1 = true) (h : (cdom d s).st ≠ .fenced)
    (hc : cusConfigured d s = true) : ∃ t, exec (.custodyReboot n d) s = .next t ∧ DomHeld d s t ∧ (cdom d t).st = holdState .held d s ∧
      (cdom d t).bootDue = cusOn d s := by
  obtain ⟨r, f, u, c, hh⟩ := (DomTo.input (d := d) n hw).hold .held
  have hdue := hh.modCdom (fun x => { x with bootDue := cusOn d s })
  refine ⟨_, (act_pf1At hl hpf).trans (congrArg _ (cusReboot_holds h hc)), hdue.held rfl rfl rfl rfl rfl, ?_⟩
  rw [show cusOn d (atInput n s) = cusOn d s from rfl, hdue.dom]
  exact ⟨rfl, rfl⟩

end rows

/-! ### The push session's rows -/

theorem cdom_out (d : Nat) (o : List Output) (s : State) : cdom d { s with out := o } = cdom d s := rfl

theorem modCdom_withDom {d : Nat} {f : CusDom → CusDom} {y : CusDom} {s : State} (hw : twf {} s.cus.dom = true) :
    modCdom d f (withDom d y s) = withDom d (f y) s := modCdom_modCdom (f := fun _ => y) hw

section session
variable {n : Nat} {s : State}

/-- A chunk of `m` bytes from frame `k` joins the stream. -/
def pushJoined (n k m : Nat) (s : State) : CusPush :=
  let p := s.cus.push
  { p with
    stream := p.stream ++ padTo m (tget [] p.frames (k % 8)), accepted := p.accepted + 1
    frames := tset [] p.frames (k % 8) [], lastPost := max s.now n }

theorem exec_custodyPushPost_joins {k : BitVec 12} {m : BitVec 17} (hl : live s = true) (hpf : s.boot.pf1 = true)
    (hst : s.cus.push.state = 1 ∨ s.cus.push.state = 2) (hk : k.toNat = s.cus.push.accepted) (hm : 0 < m.toNat) (hle : m.toNat ≤ 65536) :
    exec (.custodyPushPost n k m) s = .next (cusPushHead s.cus.push.domain
      { atInput n s with cus := { s.cus with push := pushJoined n k.toNat m.toNat s } }) :=
  (act_pf1At hl hpf).trans (congrArg _ ((if_neg (by
    show ¬ (s.cus.push.state ≠ 1 ∧ s.cus.push.state ≠ 2)
    omega)).trans (if_neg (by
    show ¬ (k.toNat ≠ s.cus.push.accepted ∨ m.toNat = 0 ∨ 65536 < m.toNat)
    omega))))

theorem exec_custodyPushPost_breaks {k : BitVec 12} {m : BitVec 17} (hl : live s = true) (hpf : s.boot.pf1 = true)
    (hst : s.cus.push.state = 1 ∨ s.cus.push.state = 2) (h : k.toNat ≠ s.cus.push.accepted ∨ m.toNat = 0 ∨ 65536 < m.toNat) :
    exec (.custodyPushPost n k m) s = .next (cusPushEnd 0x2036 (cusFailed s.cus.push.domain (atInput n s))) :=
  (act_pf1At hl hpf).trans (congrArg _ ((if_neg (by
    show ¬ (s.cus.push.state ≠ 1 ∧ s.cus.push.state ≠ 2)
    omega)).trans (if_pos h)))

/-- The 60 s of the session have passed and not every chunk has come. -/
def pushLate (n : Nat) (s : State) : Prop :=
  (s.cus.push.state = 1 ∨ s.cus.push.state = 2) ∧ s.cus.push.lastPost + 60 * psS ≤ max s.now n ∧
    (s.cus.push.total = 0 ∨ s.cus.push.accepted < s.cus.push.total)

theorem pushLate_iff : pushLate n s ↔ (s.cus.push.state = 1 ∨ s.cus.push.state = 2) ∧ s.cus.push.lastPost + 60 * psS ≤ max s.now n ∧
    (!decide (s.cus.push.total ≠ 0 ∧ s.cus.push.total ≤ s.cus.push.accepted)) = true := by
  have hall : (s.cus.push.total = 0 ∨ s.cus.push.accepted < s.cus.push.total) ↔
      ¬ (s.cus.push.total ≠ 0 ∧ s.cus.push.total ≤ s.cus.push.accepted) := by omega
  rw [pushLate, hall, Bool.not_eq_true', decide_eq_false_iff_not]

theorem exec_custodyPushTimeout_ends (hl : live s = true) (h : pushLate n s) :
    exec (.custodyPushTimeout n) s = .next (cusPushEnd 0x2037 (cusFailed s.cus.push.domain (atInput n s))) :=
  (act_live hl).trans (congrArg _ (if_pos (pushLate_iff.mp h)))

theorem exec_custodyPushTimeout_runs (hl : live s = true) (h : ¬ pushLate n s) :
    exec (.custodyPushTimeout n) s = .next (atInput n s) :=
  (act_live hl).trans (congrArg _ (if_neg (fun hc => h (pushLate_iff.mpr hc))))

/-- A write back is due: the session waits for it and the domain's port is on (R231). -/
def writeBackDue (s : State) : Prop :=
  s.cus.push.state = 3 ∧ (cdom s.cus.push.domain s).step = .writeBack ∧ cusOn s.cus.push.domain s = true

/-- The image of the session, as it is written into the slot. -/
def pushImage (s : State) : Bytes := slice s.cus.push.stream 0 (cdom s.cus.push.domain s).hdr.imageLen

/-- The slot is erased and programmed, and the domain waits for release. -/
def writtenBack (s : State) : State :=
  let p := s.cus.push
  let x := cdom p.domain s
  let k := b2n p.wbSlot
  let u := writeBackOut p.domain (slotBase x.pol k) (slotSize x.pol k) (pushImage s) { s with out := [] }
  { u with cus := { s.cus with ready := readyInsert s p.domain s.cus.ready } }

theorem not_writeBackDue_iff : ¬ writeBackDue s ↔ s.cus.push.state ≠ 3 ∨ ((cdom s.cus.push.domain s).step != .writeBack) = true ∨
    (!cusOn s.cus.push.domain s) = true := by
  simp only [writeBackDue, bne_iff_ne, Bool.not_eq_true', ← Bool.not_eq_true]
  tauto

theorem exec_custodyWriteBack_none {back : Option Bytes} (hl : live s = true) (h : ¬ writeBackDue s) :
    exec (.custodyWriteBack back) s = .next { s with out := [] } :=
  (act_live hl).trans (congrArg _ (if_pos (not_writeBackDue_iff.mp h)))

/-- The domain whose slot is written waits for release at its place, which its step does not decide. -/
theorem cusReady_verified {d : Nat} {u : State} (hw : twf {} s.cus.dom = true) (hu : u.cus = s.cus) :
    cusReady d (modCdom d (fun x => { x with step := .verified }) u) =
      withDom d { cdom d s with step := .verified } { u with cus := { s.cus with ready := readyInsert s d s.cus.ready } } := by
  have hat : ∀ k, (cdom k (modCdom d (fun x => { x with step := .verified }) u)).readyAt = (cdom k s).readyAt := fun k => by
    have hsame : cdom k u = cdom k s := by rw [cdom, hu, cdom]
    rw [← hsame]
    by_cases hk : k = d
    · rw [hk, cdom_modCdom (hu ▸ hw)]
    · rw [cdom_modCdom_other (hu ▸ hw) hk]
  unfold cusReady
  simp only [readyInsert_congr hat]
  simp only [modCus, modCdom, withDom, tmod, hu, cdom]

section due
variable {back : Option Bytes} (hl : live s = true) (hw : twf {} s.cus.dom = true) (h : writeBackDue s)
include hl hw h

theorem exec_custodyWriteBack_good (hg : back = some (pushImage s) ∧
    (pushImage s).length ≤ slotSize (cdom s.cus.push.domain s).pol (b2n s.cus.push.wbSlot)) :
    let x := cdom s.cus.push.domain s
    exec (.custodyWriteBack back) s = .next (withDom s.cus.push.domain { x with
      step := .verified, seals := x.seals ++ [(b2n s.cus.push.wbSlot, sha384 x.header, sha384 x.pol)] } (writtenBack s)) := by
  refine (act_live hl).trans (congrArg _ ((if_neg fun hc => not_writeBackDue_iff.mpr hc h).trans ((if_pos hg).trans ?_)))
  dsimp only [cdom_out]
  rw [cusReady_verified hw (writeBackOut_cus _ _ _ _ { s with out := [] })]
  exact modCdom_withDom hw

theorem exec_custodyWriteBack_bad (hg : ¬ (back = some (pushImage s) ∧
    (pushImage s).length ≤ slotSize (cdom s.cus.push.domain s).pol (b2n s.cus.push.wbSlot))) :
    exec (.custodyWriteBack back) s = .next (emit .secure 0x2039 (srcDomain s.cus.push.domain) []
      (withDom s.cus.push.domain { cdom s.cus.push.domain s with step := .verified }
        { writtenBack s with cus := { (writtenBack s).cus with push := { s.cus.push with result := 0x2039 } } })) := by
  refine (act_live hl).trans (congrArg _ ((if_neg fun hc => not_writeBackDue_iff.mpr hc h).trans ((if_neg hg).trans ?_)))
  dsimp only [cdom_out]
  rw [cusReady_verified hw (writeBackOut_cus _ _ _ _ { s with out := [] })]
  rfl

end due

end session

section raise
variable {d : Fin 32} {s : State}

theorem exec_custodyRaiseFloor (hl : live s = true) (hpf : s.boot.pf1 = true) (hst : (cdom d s).st = .running)
    (hp : polOnCommand (cdom d s).pol = true) : exec (.custodyRaiseFloor d) s = .next (floorRaise d 1 { s with out := [] }) :=
  (act_pf1 hl hpf).trans (congrArg _ (if_pos (Bool.and_eq_true_iff.mpr ⟨beq_iff_eq.mpr hst, hp⟩)))

theorem exec_custodyRaiseFloor_none (hl : live s = true) (h : s.boot.pf1 = false ∨ (cdom d s).st ≠ .running ∨
    polOnCommand (cdom d s).pol = false ∨ (cdom d s).svn.toNat ≤ cusFloor d s) : exec (.custodyRaiseFloor d) s = .next { s with out := [] } := by
  by_cases hrun : s.boot.pf1 = true ∧ (cdom d s).st = .running ∧ polOnCommand (cdom d s).pol = true
  · obtain ⟨hpf, hst, hp⟩ := hrun
    have hv : (cdom d s).svn.toNat ≤ cusFloor d s := by simpa [hpf, hst, hp] using h
    exact (exec_custodyRaiseFloor hl hpf hst hp).trans (congrArg _ (floorRaise_none hv))
  · cases hpf : s.boot.pf1 with
    | false => exact act_noPf1 hl hpf
    | true =>
      refine (act_pf1 hl hpf).trans (congrArg _ (if_neg fun hc => hrun ⟨hpf, ?_⟩))
      obtain ⟨hst, hp⟩ := Bool.and_eq_true_iff.mp hc
      exact ⟨beq_iff_eq.mp hst, hp⟩

theorem exec_heldHostTransaction (hl : live s = true) : exec (.heldHostTransaction d) s =
    .next (if (cdom d s).st == .running then { s with out := [] } else bump (cCus d 5) { s with out := [] }) := act_live hl

/-- A session opens for a FAILED domain of an enabled port while none is open and the anchor stands (R230). -/
def pushOpens (d : Nat) (s : State) : Prop :=
  (cdom d s).st = .failed ∧ cusPushOpen s = false ∧ cusOn d s = true ∧ s.kpf.anchorLost = false

theorem not_pushOpens_iff {d : Nat} : ¬ pushOpens d s ↔
    ((cdom d s).st != .failed || cusPushOpen s || !cusOn d s || s.kpf.anchorLost) = true := by
  simp only [pushOpens, Bool.or_eq_true, bne_iff_ne, Bool.not_eq_true', ← Bool.not_eq_true]
  tauto

theorem exec_custodyPushAbort_none (hl : live s = true) (hpf : s.boot.pf1 = true) (h : cusPushOpen s = false) :
    exec .custodyPushAbort s = .next { s with out := [] } :=
  (act_pf1 hl hpf).trans (congrArg _ (if_pos (show (!cusPushOpen s) = true by rw [h]; rfl)))

/-- No session is open and RESULT is 0; what the session named stays (R102). -/
def pushIdle (s : State) : State :=
  modCus (fun c => { c with push := { domain := c.push.domain, writeBack := c.push.writeBack, wbSlot := c.push.wbSlot } }) { s with out := [] }

theorem exec_custodyPushAbort_ends (hl : live s = true) (hpf : s.boot.pf1 = true) (h : cusPushOpen s = true) :
    exec .custodyPushAbort s = .next (cusFailed s.cus.push.domain (pushIdle s)) :=
  (act_pf1 hl hpf).trans (congrArg _ (if_neg (show ¬ (!cusPushOpen s) = true by rw [h]; exact Bool.false_ne_true)))

end raise

section posts
variable {n : Nat} {k : BitVec 12} {m : BitVec 17} {s : State} (hl : live s = true) (hpf : s.boot.pf1 = true)
  (hst : s.cus.push.state = 1 ∨ s.cus.push.state = 2) (hk : k.toNat = s.cus.push.accepted) (hm : 0 < m.toNat) (hle : m.toNat ≤ 65536)
include hl hpf hst hk hm hle

/-- The state in which a chunk has joined the stream. -/
def pushed (n : Nat) (k : BitVec 12) (m : BitVec 17) (s : State) : State :=
  { atInput n s with cus := { s.cus with push := pushJoined n k.toNat m.toNat s } }

theorem exec_custodyPushPost_idle (h : (cdom s.cus.push.domain s).step ≠ .header) :
    exec (.custodyPushPost n k m) s = .next (pushed n k m s) :=
  (exec_custodyPushPost_joins hl hpf hst hk hm hle).trans (congrArg _ (cusPushHead_idle (s := pushed n k m s) h))

theorem exec_custodyPushPost_short (h : (cdom s.cus.push.domain s).step = .header)
    (hc : cusHeadTest s.cus.push.domain 3 ((pushed n k m s).cus.push.stream.take 512) (pushed n k m s) = none)
    (hs : (pushed n k m s).cus.push.stream.length < (hdrOf (pushed n k m s).cus.push.stream).headerLen) :
    exec (.custodyPushPost n k m) s = .next (pushed n k m s) :=
  (exec_custodyPushPost_joins hl hpf hst hk hm hle).trans (congrArg _ (cusPushHead_short (s := pushed n k m s) h hc hs))

theorem custodyPushPost_refused (hw : twf {} s.cus.dom = true) (c : W16) (h : (cdom s.cus.push.domain s).step = .header)
    (hsrc : (cdom s.cus.push.domain s).src = 3)
    (hc : cusHeadTest s.cus.push.domain 3 ((pushed n k m s).cus.push.stream.take 512) (pushed n k m s) = some c) :
    ∃ t, exec (.custodyPushPost n k m) s = .next t ∧ AttemptFails s.cus.push.domain c s t := by
  have hin : DomTo s.cus.push.domain (cdom s.cus.push.domain s) s (pushed n k m s) := ⟨rfl, fun _ _ => rfl, hw, rfl⟩
  exact ⟨_, (exec_custodyPushPost_joins hl hpf hst hk hm hle).trans (congrArg _ (cusPushHead_refused (s := pushed n k m s) h hc)),
    hin.attemptFails ⟨rfl, rfl, rfl, rfl, rfl⟩ hsrc.le⟩

end posts

/-- Settles O42: the rows that hold a domain by `DomTo.hold`, a stalled read by `DomTo.attemptFails`, a session that ends by
`DomTo.pushEnds`, and the others by the branch that their tests choose. -/
theorem custodyFailuresAndPush : Obligations.CustodyFailuresAndPush := by
  unfold Obligations.CustodyFailuresAndPush
  refine ⟨?holds, ?floors, ?opens, ?aborts, ?posts, ?timesOut, ?writesBack⟩
  case holds =>
    intro n d s hl hw
    refine ⟨exec_custodyPgFall_stays hl, custodyPgFall_pushed hl hw, ⟨?_, portFault_held hl hw, ?_⟩,
      fun hpf h hc => (act_pf1At hl hpf).trans (congrArg _ (cusReboot_unconfigured h hc)), exec_portFault_fenced hl,
      fun h => (exec_custodyPgRestore hl).trans (congrArg _ (if_pos h)),
      fun h => (exec_custodyPgRestore hl).trans (congrArg _ (if_neg (Bool.eq_false_iff.mp h))), act_noPf1At hl,
      fun hpf h => (act_pf1At hl hpf).trans (congrArg _ (cusReboot_fenced h))⟩
    · rw [← holdState_held]
      exact custodyPgFall_held hl hw
    · rw [← holdState_held]
      exact custodyReboot_held hl hw
  case floors =>
    intro d s hl hw
    have hstall : DomTo d { cdom d s with timeouts := (cdom d s).timeouts + 1 } s (stalled d s) :=
      (DomTo.start hw).modCdom (fun x => { x with timeouts := x.timeouts + 1 })
    refine ⟨fun h => exec_flashTimeout_none hl fun ⟨h1, h2, h3, h4⟩ => ?_, fun h1 h2 h3 hsrc => ?_,
      fun h => (exec_heldHostTransaction hl).trans (congrArg _ (if_pos (beq_iff_eq.mpr h))),
      fun h => (exec_heldHostTransaction hl).trans (congrArg _ (if_neg fun hc => h (beq_iff_eq.mp hc))),
      exec_custodyRaiseFloor_none hl, fun hpf hst hp hv => ⟨fun ha hj => ?_, fun ha => ?_⟩⟩
    · rcases h with h | h | h | h <;> contradiction
    · have hexec := exec_flashTimeout (d := d) hl ⟨h1, h2, h3, by omega⟩
      exact ⟨fun h0 => ⟨_, hexec.trans (congrArg _ (if_neg (by omega))), hstall.attemptFails ⟨rfl, rfl, rfl, rfl, rfl⟩ (by omega)⟩,
        fun h1 => ⟨_, hexec.trans (congrArg _ (if_pos h1)), (hstall.record _ _ _).domFailed rfl rfl⟩⟩
    · exact (exec_custodyRaiseFloor hl hpf hst hp).trans (congrArg _ (floorRaise_queued hv ha hj))
    · exact (exec_custodyRaiseFloor hl hpf hst hp).trans (congrArg _ (floorRaise_spent hv ha))
  case opens =>
    intro n d wb slot s hl
    refine ⟨act_noPf1At hl, fun hpf h => (act_pf1At hl hpf).trans (congrArg _ (if_pos ((not_pushOpens_iff (s := s)).mp ?_))),
      fun hpf h1 h2 h3 h4 => (act_pf1At hl hpf).trans (congrArg _ (if_neg fun hc => (not_pushOpens_iff (s := s)).mpr hc ⟨h1, h2, h3, h4⟩))⟩
    rintro ⟨h1, h2, h3, h4⟩
    simp [h1, h2, h3, h4] at h
  case aborts =>
    intro s hl hpf hw
    have hidle : DomTo s.cus.push.domain (cdom s.cus.push.domain s) s (pushIdle s) := ⟨rfl, fun _ _ => rfl, hw, rfl⟩
    exact ⟨exec_custodyPushAbort_none hl hpf, fun h => ⟨_, exec_custodyPushAbort_ends hl hpf h, hidle.domFailed rfl rfl, cusFailed_push _ _⟩⟩
  case posts =>
    intro n k m s hl hpf hw hst
    have hin : DomTo s.cus.push.domain _ s (atInput n s) := .input n hw
    refine ⟨fun h => ⟨_, exec_custodyPushPost_breaks hl hpf hst ?_, hin.pushEnds rfl rfl _⟩, fun hk hm hle => ?_⟩
    · rcases h with h | h | h
      · exact .inl h
      · exact .inr (.inl (by simp [h]))
      · exact .inr (.inr h)
    · exact ⟨exec_custodyPushPost_idle hl hpf hst hk hm hle, exec_custodyPushPost_short hl hpf hst hk hm hle,
        custodyPushPost_refused hl hpf hst hk hm hle hw⟩
  case timesOut =>
    intro n s hl hw
    refine ⟨fun h1 h2 h3 => ⟨_, exec_custodyPushTimeout_ends hl ⟨h1, h2, h3⟩, ?_⟩, fun h => exec_custodyPushTimeout_runs hl ?_⟩
    · obtain ⟨hstate, hres, -, hfail⟩ := (DomTo.input (d := s.cus.push.domain) n hw).pushEnds rfl rfl 0x2037
      exact ⟨hstate, hres, hfail⟩
    · rintro ⟨h1, h2, -⟩
      omega
  case writesBack =>
    intro back s hl hw
    exact ⟨exec_custodyWriteBack_none hl, exec_custodyWriteBack_good hl hw, exec_custodyWriteBack_bad hl hw⟩

end Sys2Proof
end

section
/-!
PROOFS. Scope: the flash mailbox (spec/08_cambium_filter.md R215 to R217, spec/16_hollows.md R441) and update windows
(spec/09_recovery_and_keep_flash.md R222 to R227).
-/
namespace Sys2Proof
open Machine

/-! ### A mailbox transaction reaches the mailbox (R215) -/

/-- The cambium after the SEQ of a transaction of class `cls`. -/
def seqFlt (cls : Nat) (f : Flt) : Flt := { f with seq := f.seq + 1, resetArmed := f.resetArmed && cls == 10 && !f.dpd }

section txn
variable {n : Nat} {d : Nat} {ext : Bool} {s : State}

/-- A command with one of the mailbox opcodes takes its SEQ and is handled, whatever keeps the flash busy. -/
theorem fltTxn_mailbox {at_ : Nat} (h : MbxOpen d at_ ext s) (addr m : Nat) (go : Bytes → State → State) :
    fltTxn d 13 (fieldLe (fltEntry d s) at_ 1) ext addr m go s = go (fltEntry d s) (seqNo d 13 s) := by
  obtain ⟨⟨-, hst, hon, hcls, hdpd⟩, hmode⟩ := h
  have hawake : (cdom d s).flt.dpd = false := by simpa using hdpd
  have hinv : ¬ ((cdom d s).flt.hostMode = 3 ∧ (!ext) = true) := by
    rintro ⟨h3, he⟩
    rcases hmode with h | h
    · exact h h3
    · simp [h] at he
  refine (if_neg (by simp [hst, hon])).trans ((if_neg (not_not.mpr hcls)).trans ((if_neg (by simp [hawake])).trans
    ((if_neg hinv).trans (if_neg (by simp)))))

theorem DomTo.seqNo (hw : twf {} s.cus.dom = true) (cls : Nat) :
    DomTo d { cdom d s with flt := seqFlt cls (cdom d s).flt } s (seqNo d cls (atInput n s)) :=
  ((DomTo.input n hw).modFlt (seqFlt cls)).bump _

theorem DomTo.taken {d : Fin 32} (hw : twf {} s.cus.dom = true) :
    DomTo d { cdom d s with flt := seqFlt 13 (cdom d s).flt } s (mbxTaken n d s) := (DomTo.seqNo hw 13).bump _

theorem fltEntry_congr {t : State} (hg : t.grn = s.grn) (hr : (cdom d t).flt.rom = (cdom d s).flt.rom) : fltEntry d t = fltEntry d s := by
  rw [fltEntry, fltEntry, hr, gdom, gdom, hg]

end txn

/-! ### One PUT (R216, R217) -/

section put
variable {n : Nat} {d : Fin 32} {fn g : Nat} {a : BitVec 8} {tag : BitVec 16} {b : Bytes} {ext : Bool} {s : State}
  {no go : State → State}

/-- The mailbox takes no PUT: its frame is not 64 bytes, or the previous result is not READY. -/
def mbxBusy (n d : Nat) (b : Bytes) (s : State) : Prop :=
  b.length ≠ 64 ∨ (cdom d s).flt.mbx.ready = false ∨ max s.now n < (cdom d s).flt.mbx.at_

theorem MbxAccepts.not_busy (h : MbxAccepts n d b ext s) : ¬ mbxBusy n d b s := by
  obtain ⟨-, hlen, hready, hat⟩ := h
  rintro (h | h | h)
  · exact h hlen
  · exact Bool.false_ne_true (h.symm.trans hready)
  · omega

theorem mbxBusy_iff (hw : twf {} s.cus.dom = true) : mbxBusy n d b s ↔
    let u := seqNo d 13 (atInput n s)
    b.length ≠ 64 ∨ (!(cdom d u).flt.mbx.ready) = true ∨ u.now < (cdom d u).flt.mbx.at_ := by
  dsimp only
  rw [(DomTo.seqNo hw 13).dom, Bool.not_eq_true']
  exact Iff.rfl

theorem mbxPutOr_eq (ho : MbxOpen d 8 ext s) : mbxPutOr n d fn g a.toNat tag.toNat b ext no go { s with out := [] } =
    let u := seqNo d 13 (atInput n s)
    let op := fieldLe (fltEntry d s) 8 1
    let adr := fn * 2 ^ 24 + a.toNat * 2 ^ 16 + tag.toNat
    if b.length ≠ 64 ∨ (!(cdom d u).flt.mbx.ready) = true ∨ u.now < (cdom d u).flt.mbx.at_ then txnRefused d op 13 adr 0x202B u
    else if (!mbxGroup (fltEntry d s) g) = true then no (mbxShows d tag 0xF000 [] (txnRefused d op 13 adr 0x202A u))
    else go (mbxTaken n d s) := by
  have hopen : MbxOpen d 8 ext (atInput n s) := ho
  unfold mbxPutOr
  dsimp only
  rw [show atTime n { s with out := [] } = atInput n s from rfl, fltTxn_mailbox hopen]
  rfl

theorem mbxPutOr_busy (hw : twf {} s.cus.dom = true) (ho : MbxOpen d 8 ext s) (hb : mbxBusy n d b s) :
    mbxPutOr n d fn g a.toNat tag.toNat b ext no go { s with out := [] } = txnRefused d (fieldLe (fltEntry d s) 8 1) 13
      (fn * 2 ^ 24 + a.toNat * 2 ^ 16 + tag.toNat) 0x202B (seqNo d 13 (atInput n s)) :=
  (mbxPutOr_eq ho).trans (if_pos ((mbxBusy_iff hw).mp hb))

theorem mbxPutOr_denied (hw : twf {} s.cus.dom = true) (ho : MbxOpen d 8 ext s) (hb : ¬ mbxBusy n d b s)
    (hg : mbxGroup (fltEntry d s) g = false) :
    mbxPutOr n d fn g a.toNat tag.toNat b ext no go { s with out := [] } = no (mbxShows d tag 0xF000 [] (txnRefused d
      (fieldLe (fltEntry d s) 8 1) 13 (fn * 2 ^ 24 + a.toNat * 2 ^ 16 + tag.toNat) 0x202A (seqNo d 13 (atInput n s)))) :=
  (mbxPutOr_eq ho).trans ((if_neg fun hc => hb ((mbxBusy_iff hw).mpr hc)).trans (if_pos (by rw [hg]; rfl)))

theorem mbxPutOr_taken (hw : twf {} s.cus.dom = true) (ha : MbxAccepts n d b ext s) (hg : mbxGroup (fltEntry d s) g = true) :
    mbxPutOr n d fn g a.toNat tag.toNat b ext no go { s with out := [] } = go (mbxTaken n d s) :=
  (mbxPutOr_eq ha.1).trans ((if_neg fun hc => ha.not_busy ((mbxBusy_iff hw).mpr hc)).trans (if_neg (by rw [hg]; exact Bool.false_ne_true)))

/-- The bytes of a PUT as its function takes them: an acknowledgement with more than its four bytes and an opening with other bytes than
zeros are malformed (log entry 25). -/
def mbxBytes (fn d a : Nat) (b : Bytes) (s : State) : Bytes :=
  if fn = 0x01 then
    (if mbxChannel d a s && (hchan a s).open_ && (hchan a s).dirOut && !(hchan a s).notice && !allZero (b.drop 4) then [] else b)
  else if fn = 0x13 then (if allZero b then b else []) else b

theorem mbxBytes_other {d a : Nat} (h1 : fn ≠ 0x01) (h2 : fn ≠ 0x13) : mbxBytes fn d a b s = b := (if_neg h1).trans (if_neg h2)

theorem mbxBytes_open {d a : Nat} : mbxBytes 0x13 d a b s = if allZero b then b else [] := rfl

theorem mbxBytes_send {d a : Nat} : mbxBytes 0x01 d a b s =
    if mbxChannel d a s && (hchan a s).open_ && (hchan a s).dirOut && !(hchan a s).notice && !allZero (b.drop 4) then [] else b := rfl

/-- A command whose meaning is one PUT. -/
theorem exec_put {c : Instr} {f : State → State} {data : Bytes} (hl : live s = true) (hc : exec c s = act f s)
    (hd : mbxBytes fn d a.toNat b s = data)
    (hf : ∃ go, f { s with out := [] } = mbxPutOr n d fn g a.toNat tag.toNat data ext no go { s with out := [] }) :
    ∃ go, exec c s = .next (mbxPutOr n d fn g a.toNat tag.toNat (mbxBytes fn d a.toNat b s) ext no go { s with out := [] }) := by
  obtain ⟨go, hgo⟩ := hf
  exact ⟨go, by rw [hd, hc, act_live hl, hgo]⟩

theorem exec_putPlain {c : Instr} {f : State → State} (hl : live s = true) (h1 : fn ≠ 0x01) (h2 : fn ≠ 0x13) (hc : exec c s = act f s)
    (hf : ∃ go, f { s with out := [] } = mbxPutOr n d fn g a.toNat tag.toNat b ext id go { s with out := [] }) : ∃ no,
    (∃ go, exec c s = .next (mbxPutOr n d fn g a.toNat tag.toNat (mbxBytes fn d a.toNat b s) ext no go { s with out := [] })) ∧
      (fn = 0x13 → no = updRefuse d) ∧ (fn ≠ 0x13 → no = id) :=
  ⟨id, exec_put hl hc (mbxBytes_other h1 h2) hf, fun h => absurd h h2, fun _ => rfl⟩

/-- Every function is one `mbxPutOr`; an opening alone counts as a refused one where its group is not permitted. -/
theorem MbxPut.exec {c : Instr} (h : MbxPut c n d fn g a tag b ext) (hl : live s = true) : ∃ no,
    (∃ go, exec c s = .next (mbxPutOr n d fn g a.toNat tag.toNat (mbxBytes fn d a.toNat b s) ext no go { s with out := [] })) ∧
      (fn = 0x13 → no = updRefuse d) ∧ (fn ≠ 0x13 → no = id) := by
  cases h with
  | send =>
    exact ⟨id, exec_put hl rfl mbxBytes_send (by unfold mbxHollowSendS mbxPut; exact ⟨_, rfl⟩), fun h => absurd h (by decide), fun _ => rfl⟩
  | bootDone => exact exec_putPlain hl (by decide) (by decide) rfl (by unfold mbxBootDoneS mbxPut; exact ⟨_, rfl⟩)
  | raiseFloor => exact exec_putPlain hl (by decide) (by decide) rfl (by unfold mbxRaiseFloorS mbxPut; exact ⟨_, rfl⟩)
  | reboot => exact exec_putPlain hl (by decide) (by decide) rfl (by unfold mbxRebootS mbxPut; exact ⟨_, rfl⟩)
  | updateOpen => exact ⟨updRefuse d, exec_put hl rfl mbxBytes_open (by unfold mbxUpdateOpenS; exact ⟨_, rfl⟩), fun _ => rfl, fun h => absurd rfl h⟩
  | updateClose => exact exec_putPlain hl (by decide) (by decide) rfl (by unfold mbxUpdateCloseS mbxPut; exact ⟨_, rfl⟩)
  | custodyInfo => exact exec_putPlain hl (by decide) (by decide) rfl (by unfold mbxCustodyInfoS mbxPut; exact ⟨_, rfl⟩)

/-- Malformed bytes keep a wrong length, and a PUT of 64 bytes is malformed at most as an acknowledgement or an opening. -/
theorem mbxBytes_busy {d a : Nat} (h : mbxBusy n d b s) : mbxBusy n d (mbxBytes fn d a b s) s := by
  have hbytes : mbxBytes fn d a b s = b ∨ mbxBytes fn d a b s = [] := by
    unfold mbxBytes
    split
    · split
      · exact .inr rfl
      · exact .inl rfl
    · split
      · split
        · exact .inl rfl
        · exact .inr rfl
      · exact .inl rfl
  rcases hbytes with hb | hb <;> rw [hb]
  · exact h
  · exact .inl (by decide)

theorem mbxBytes_send_plain {d a : Nat} (h : mbxChannel d a s = false ∨ (hchan a s).dirOut = false) : mbxBytes 0x01 d a b s = b := by
  rw [mbxBytes_send]
  rcases h with h | h <;> simp [h]

theorem mbxBytes_plain {d a : Nat} (h2 : fn ≠ 0x13) (h : fn ≠ 0x01 ∨ mbxChannel d a s = false ∨ (hchan a s).dirOut = false) :
    mbxBytes fn d a b s = b := by
  by_cases h1 : fn = 0x01
  · rw [h1]
    exact mbxBytes_send_plain (h.resolve_left (not_not.mpr h1))
  · exact mbxBytes_other h1 h2

/-! A refused opening or close (R222). -/

theorem updRefuse_eq (d : Nat) (s : State) :
    updRefuse d s = emit .secure 0x2035 (srcDomain d) [] (withUpd d { (cdom d s).upd with result := 0x2035 } s) :=
  congrArg (emit .secure 0x2035 (srcDomain d) []) (modCdom_congr rfl)

theorem FltTo.verdict {d : Nat} {y : CusDom} {t : State} (h : FltTo d y s t) (v : Verdict) : FltTo d y s (verdict d v t) := by
  unfold Machine.verdict
  split
  · obtain ⟨f, hf⟩ := h
    exact ⟨{ f with later := f.later ++ [v] }, hf.modFlt (fun f => { f with later := f.later ++ [v] })⟩
  · exact h.verdictSend v

/-- A refused transaction counts, and its verdict goes out or waits for an escape: of the domain the cambium alone changes. -/
theorem FltTo.refused {d : Nat} {y : CusDom} {t : State} (h : FltTo d y s t) (op cls adr : Nat) (code : W16) :
    FltTo d y s (txnRefused d op cls adr code t) := by
  have hcounted : FltTo d y s (bump (cCus d 2) (fltCount d code t)) := by
    obtain ⟨f, hf⟩ := h
    refine ⟨f, DomTo.bump ?_ _⟩
    unfold fltCount
    split
    · exact hf.bump _
    · exact hf
  exact hcounted.verdict { seq := (cdom d t).flt.seq, code := code, op := op, cls := cls, addr := adr }

end put

/-! ### The functions of a PUT (R216) -/

/-- The result of a PUT is still to come (R217). -/
def mbxWaits (d : Nat) (tag : BitVec 16) (s : State) : State := modFlt d (fun f => { f with mbx := { tag := tag.toNat, ready := false } }) s

theorem DomTo.waits {d : Nat} {y : CusDom} {s t : State} (h : DomTo d y s t) (tag : BitVec 16) :
    DomTo d { y with flt := { y.flt with mbx := { tag := tag.toNat, ready := false } } } s (mbxWaits d tag t) :=
  h.modFlt (fun f => { f with mbx := { tag := tag.toNat, ready := false } })

section rows
variable {n : Nat} {d : Fin 32} {a : BitVec 8} {tag : BitVec 16} {b : Bytes} {ext : Bool} {s : State}
  (hw : twf {} s.cus.dom = true) (ha : MbxAccepts n d b ext s)

theorem MbxAccepts.live (ha : MbxAccepts n d b ext s) : live s = true := ha.1.1.1
theorem MbxAccepts.running (ha : MbxAccepts n d b ext s) : (cdom d s).st = .running := ha.1.1.2.1

include hw ha

theorem exec_mbxBootDone (hg : mbxGroup (fltEntry d s) 1 = true) :
    exec (.mbxBootDone n d a tag b ext) s = .next (mbxShows d tag 0 [] (bootEnd d (mbxTaken n d s))) := by
  refine (act_live ha.live).trans (congrArg _ ?_)
  unfold mbxBootDoneS mbxPut
  rw [mbxPutOr_taken hw ha hg]
  rfl

omit ha in
theorem bootEnd_taken : bootEnd d (mbxTaken n d s) =
    if (cdom d s).flt.phase = 1 then modFlt d (fun f => { f with phase := 2 }) (mbxTaken n d s) else mbxTaken n d s := by
  unfold bootEnd
  rw [(DomTo.taken hw).dom]
  rfl

theorem exec_mbxRaiseFloor (hg : mbxGroup (fltEntry d s) 2 = true) :
    exec (.mbxRaiseFloor n d a tag b ext) s = .next (
      let v := mbxTaken n d s
      if polOnCommand (cdom d s).pol = false ∨ (cdom d s).svn.toNat ≤ cusFloor d s then mbxShows d tag 0 [] v
      else if 4096 ≤ s.fuses.anchor then mbxShows d tag 0xF000 [] (floorRaise d 2 v)
      else if journalShut s then mbxShows d tag 0x2044 [] (floorRaise d 2 v)
      else floorRaise d 2 (mbxWaits d tag v)) := by
  refine (act_live ha.live).trans (congrArg _ ?_)
  unfold mbxRaiseFloorS mbxPut
  rw [mbxPutOr_taken hw ha hg, (DomTo.taken hw).dom]
  simp only [Bool.or_eq_true, Bool.not_eq_true', decide_eq_true_eq]
  rfl

theorem exec_mbxReboot (hg : mbxGroup (fltEntry d s) 3 = true) :
    exec (.mbxReboot n d a tag b ext) s = .next (cusReboot d (mbxShows d tag 0 [] (mbxTaken n d s))) := by
  refine (act_live ha.live).trans (congrArg _ ?_)
  unfold mbxRebootS mbxPut
  rw [mbxPutOr_taken hw ha hg]
  rfl

theorem exec_mbxCustodyInfo (hg : mbxGroup (fltEntry d s) 5 = true) :
    let x := cdom d s
    exec (.mbxCustodyInfo n d a tag b ext) s = .next (mbxShows d tag 0
      (padTo 64 (leBytes 8 x.seq.toNat ++ leBytes 4 x.svn.toNat ++ leBytes 4 (cusFloor d s) ++ leBytes 1 x.src ++ leBytes 1 x.flt.phase))
      (mbxTaken n d s)) := by
  refine (act_live ha.live).trans (congrArg _ ?_)
  unfold mbxCustodyInfoS mbxPut
  rw [mbxPutOr_taken hw ha hg, (DomTo.taken hw).dom]
  rfl

theorem exec_mbxUpdateOpen (hg : mbxGroup (fltEntry d s) 4 = true) (hz : allZero b = true) :
    exec (.mbxUpdateOpen n d a tag b ext) s = .next (if 1 < a.toNat then mbxShows d tag 0xF000 [] (updRefuse d (mbxTaken n d s))
      else
        let r := updOpen d (a.toNat == 1) (mbxTaken n d s)
        mbxShows d tag (if r.1 then 0 else 0xF000) [] r.2) := by
  refine (act_live ha.live).trans (congrArg _ ?_)
  unfold mbxUpdateOpenS
  rw [if_pos hz, mbxPutOr_taken hw ha hg]
  rfl

theorem exec_mbxUpdateClose (hg : mbxGroup (fltEntry d s) 4 = true) :
    exec (.mbxUpdateClose n d a tag b ext) s = .next (
      let v := mbxTaken n d s
      if (cdom d s).upd.st = 0 then mbxShows d tag 0xF000 [] (updRefuse d v)
      else updClose d true (mbxWaits d tag v)) := by
  refine (act_live ha.live).trans (congrArg _ ?_)
  unfold mbxUpdateCloseS mbxPut
  rw [mbxPutOr_taken hw ha hg, (DomTo.taken hw).dom]
  rfl

theorem exec_mbxHollowSend (hg : mbxGroup (fltEntry d s) 0 = true)
    (hc : mbxChannel d a.toNat s = false ∨ (hchan a.toNat s).dirOut = false) :
    exec (.mbxHollowSend n d a tag b ext) s = .next (
      let v := mbxTaken n d s
      let r := hSend a.toNat b v
      if mbxChannel d a.toNat s = false then
        mbxShows d tag 0xF000 [] (txnRefused d (fieldLe (fltEntry d s) 8 1) 13 (2 ^ 24 + a.toNat * 2 ^ 16 + tag.toNat) 0x202A v)
      else mbxShows d tag r.1 (if r.1 = 0 then leBytes 2 (hchan a.toNat r.2).seq.toNat else []) r.2) := by
  have hentry : fltEntry d (mbxTaken n d s) = fltEntry d s := fltEntry_congr rfl (by rw [(DomTo.taken hw).dom]; rfl)
  have hdata : (if mbxChannel d a.toNat { s with out := [] } && (hchan a.toNat { s with out := [] }).open_ &&
      (hchan a.toNat { s with out := [] }).dirOut && !(hchan a.toNat { s with out := [] }).notice && !allZero (b.drop 4) then [] else b) = b :=
    mbxBytes_send_plain hc
  refine (act_live ha.live).trans (congrArg _ ?_)
  unfold mbxHollowSendS mbxPut
  dsimp only
  rw [hdata, mbxPutOr_taken hw ha hg, hentry]
  cases hch : mbxChannel d a.toNat s with
  | false => exact if_pos (show (!mbxChannel d a.toNat s) = true by rw [hch]; rfl)
  | true =>
    have hin : (hchan a.toNat s).dirOut = false := hc.resolve_left (by simp [hch])
    refine (if_neg (show ¬ (!mbxChannel d a.toNat s) = true by rw [hch]; exact Bool.false_ne_true)).trans (if_neg ?_)
    show ¬ ((hchan a.toNat s).open_ && (hchan a.toNat s).dirOut && !(hchan a.toNat s).notice) = true
    simp [hin]

end rows

/-! ### One GET (R217, R441) -/

section get
variable {n : Nat} {d : Fin 32} {ext : Bool} {s : State}

/-- The result word is never empty, so it is driven. -/
theorem mbxWord_eq (d : Nat) (code : W16) (low : Nat) (b : Bytes) (s : State) :
    mbxWord d code low b s = emitOut (.spi d (leBytes 4 (code.toNat * 65536 + low) ++ padTo 64 b)) s := by
  unfold mbxWord spiOut
  exact if_neg (by simp [leBytes])

theorem exec_mbxResult (hw : twf {} s.cus.dom = true) (ho : MbxOpen d 9 ext s) :
    let m := (cdom d s).flt.mbx
    let v := mbxTaken n d s
    exec (.mbxResult n d ext) s = .next (if m.ready = true ∧ m.at_ ≤ max s.now n then mbxWord d m.code m.tag m.data v
      else mbxWord d 0 0 [] (modFlt d (fun f => { f with early := true }) v)) := by
  have hopen : MbxOpen d 9 ext (atInput n s) := ho
  refine (act_live ho.1.1).trans (congrArg _ ?_)
  unfold mbxResultS
  dsimp only
  rw [show atTime n { s with out := [] } = atInput n s from rfl, fltTxn_mailbox hopen, (DomTo.seqNo hw 13).dom]
  simp only [Bool.and_eq_true, decide_eq_true_eq]
  rfl

theorem exec_mbxHollowRecv_denied (ho : MbxOpen d 9 ext s) (k : BitVec 8)
    (h : mbxGroup (fltEntry d s) 6 = false ∨ mbxChannel d k.toNat s = false) :
    exec (.mbxHollowRecv n d k ext) s = .next (mbxWord d 0xF000 0 [] (txnRefused d (fieldLe (fltEntry d s) 9 1) 13
      (0x81 * 2 ^ 24 + k.toNat * 2 ^ 16) 0x202A (seqNo d 13 (atInput n s)))) := by
  have hopen : MbxOpen d 9 ext (atInput n s) := ho
  refine (act_live ho.1.1).trans (congrArg _ ?_)
  unfold mbxHollowRecvS
  dsimp only
  rw [show atTime n { s with out := [] } = atInput n s from rfl, fltTxn_mailbox hopen]
  refine if_pos ?_
  show (!mbxGroup (fltEntry d s) 6 || !mbxChannel d k.toNat s || _) = true
  rcases h with h | h <;> simp [h]

theorem exec_mbxHollowRecv_takes (ho : MbxOpen d 9 ext s) (k : BitVec 8) (hg : mbxGroup (fltEntry d s) 6 = true)
    (hc : mbxChannel d k.toNat s = true) (hout : (hchan k.toNat s).dirOut = true) :
    exec (.mbxHollowRecv n d k ext) s = .next (match (if (hchan k.toNat s).open_ then hTake k.toNat (mbxTaken n d s) else none) with
      | some (m, t) => mbxWord d 0 m.seq.toNat m.data t
      | none => mbxWord d 0x8005 0 [] (mbxTaken n d s)) := by
  have hopen : MbxOpen d 9 ext (atInput n s) := ho
  refine (act_live ho.1.1).trans (congrArg _ ?_)
  unfold mbxHollowRecvS
  dsimp only
  rw [show atTime n { s with out := [] } = atInput n s from rfl, fltTxn_mailbox hopen]
  refine (if_neg ?_).trans (if_pos hout)
  show ¬ (!mbxGroup (fltEntry d s) 6 || !mbxChannel d k.toNat s || (!(hchan k.toNat s).dirOut && (hchan k.toNat s).notice)) = true
  simp [hg, hc, hout]

end get

/-! ### Update windows (R222 to R226) -/

section window
variable {d : Nat} {s t : State} {y : CusDom}

theorem updOpen_opens {target : Bool} (h : (cdom d s).flt.phase = 2 ∧ (cdom d s).upd.st = 0 ∧ (cdom d s).src ≠ b2n target) :
    updOpen d target s = (true, modFlt d (fun f => { f with phase := 3 })
      (withUpd d { st := 1, target := target, result := (cdom d s).upd.result, lastAt := s.now } s)) :=
  (if_pos h).trans (congrArg (fun u => (true, modFlt d (fun f => { f with phase := 3 }) u)) (modCdom_congr rfl))

theorem updOpen_refused {target : Bool} (h : ¬ ((cdom d s).flt.phase = 2 ∧ (cdom d s).upd.st = 0 ∧ (cdom d s).src ≠ b2n target)) :
    updOpen d target s = (false, updRefuse d s) := if_neg h

/-- The window is left: UPDATE gives way to RUNTIME, and what the window held is gone. -/
def updLeft (d : Nat) (s : State) : State :=
  modCdom d (fun x => { x with upd := x.upd.shut }) (modFlt d (fun f => { f with phase := if f.phase = 3 then 2 else f.phase }) s)

/-- The record of a domain whose window is left. -/
def leftDom (y : CusDom) : CusDom :=
  { y with flt := { y.flt with phase := if y.flt.phase = 3 then 2 else y.flt.phase }, upd := y.upd.shut }

theorem DomTo.left (h : DomTo d y s t) : DomTo d (leftDom y) s (updLeft d t) :=
  (h.modFlt (fun f => { f with phase := if f.phase = 3 then 2 else f.phase })).modCdom (fun x => { x with upd := x.upd.shut })

theorem updClose_broken {viaMbx : Bool} (h : (cdom d s).upd.st = 2) :
    updClose d viaMbx s = updResult d (cdom d s).upd.code viaMbx (updLeft d s) := if_pos h

theorem updClose_waits {viaMbx : Bool} (h : (cdom d s).upd.st ≠ 2) (hd : (cdom d s).upd.sigDue = true) :
    updClose d viaMbx s = modCdom d (fun x => { x with closed := x.closed ++ [{ (cdom d s).upd with viaMbx := viaMbx }] }) (updLeft d s) :=
  (if_neg h).trans (if_pos hd)

theorem updClose_judged {viaMbx : Bool} (h : (cdom d s).upd.st ≠ 2) (hd : (cdom d s).upd.sigDue = false) :
    updClose d viaMbx s = updFinish d { (cdom d s).upd with viaMbx := viaMbx } (updLeft d s) :=
  (if_neg h).trans (if_neg (Bool.eq_false_iff.mp hd))

/-- What the judgement of a closed window makes of its domain: the result is shown, and a seal is owed where the window brings one. -/
structure Judged (d : Nat) (y : CusDom) (code : W16) (owed : List (Nat × Bytes × Bytes)) (s t : State) : Prop where
  kept : DomKept d s t
  result : (cdom d t).upd.result = code
  seals : (cdom d t).seals = y.seals ++ owed
  st : (cdom d t).upd.st = y.upd.st
  phase : (cdom d t).flt.phase = y.flt.phase
  closed : (cdom d t).closed = y.closed

theorem DomTo.judged (h : DomTo d y s t) (code : W16) (viaMbx : Bool) : Judged d y code [] s (Machine.updResult d code viaMbx t) := by
  have hres := h.updResult code viaMbx
  refine ⟨hres.kept, ?_, ?_, ?_, ?_, ?_⟩ <;> rw [hres.dom]
  · rfl
  · exact (List.append_nil _).symm
  · rfl
  · cases viaMbx <;> rfl
  · rfl

/-- The window holds the whole image. -/
def updWhole (u : Upd) : Prop := 512 ≤ u.bytes.length ∧ (hdrOf u.bytes).imageLen ≤ u.bytes.length

/-- The seal that an accepted image is owed (R227). -/
def updSeal (u : Upd) (pol : Bytes) : Nat × Bytes × Bytes :=
  (b2n u.target, sha384 (u.bytes.take (hdrOf u.bytes).headerLen), sha384 pol)

theorem DomTo.finish_short (h : DomTo d y s t) {u : Upd} (hu : u.bytes.length < 512 ∨ u.bytes.length < (hdrOf u.bytes).imageLen) :
    Judged d y 0x2031 [] s (updFinish d u t) := by
  rw [show updFinish d u t = _ from if_pos hu]
  exact h.judged _ _

theorem DomTo.finish_unsigned (h : DomTo d y s t) {u : Upd} (hu : updWhole u) (hs : u.sigOk = false) :
    Judged d y 0x2004 [] s (updFinish d u t) := by
  obtain ⟨h1, h2⟩ := hu
  rw [show updFinish d u t = _ from (if_neg (by omega)).trans (if_pos (by rw [hs]; rfl))]
  exact h.judged _ _

theorem DomTo.finish_accepted (h : DomTo d y s t) {u : Upd} (hu : updWhole u) (hs : u.sigOk = true)
    (hf : cusFloor d s ≤ (hdrOf u.bytes).svn) : Judged d y 0x2030 [updSeal u y.pol] s (updFinish d u t) := by
  obtain ⟨h1, h2⟩ := hu
  have hfloor : ¬ (hdrOf u.bytes).svn < cusFloor d t := by
    rw [cusFloor, h.kpf]
    exact Nat.not_lt.mpr hf
  rw [show updFinish d u t = _ from (if_neg (by omega)).trans ((if_neg (by rw [hs]; exact Bool.false_ne_true)).trans (if_neg hfloor)), h.dom]
  have hj := (((h.modCdom (fun x => { x with seals := x.seals ++ [updSeal u y.pol] })).bump (cCus d 9)).judged 0x2030 u.viaMbx)
  exact ⟨hj.kept, hj.result, hj.seals.trans (List.append_nil _), hj.st, hj.phase, hj.closed⟩

end window

section finish
variable {d : Nat} {s t : State} {y : CusDom}

/-- Whatever the judgement of a closed window, its domain keeps the rest. -/
theorem DomTo.finish (h : DomTo d y s t) (u : Upd) : ∃ code owed, Judged d y code owed s (updFinish d u t) := by
  unfold updFinish
  dsimp only
  split
  · exact ⟨_, _, h.judged _ _⟩
  · split
    · exact ⟨_, _, h.judged _ _⟩
    · rename_i hshort hsig
      by_cases hf : (hdrOf u.bytes).svn < cusFloor d t
      · rw [if_pos hf]
        exact ⟨_, _, h.judged _ _⟩
      · have hacc := h.finish_accepted (u := u) ⟨by omega, by omega⟩ (by simpa using hsig) (by
          rw [cusFloor, h.kpf] at hf
          exact Nat.not_lt.mp hf)
        rw [show updFinish d u t = _ from (if_neg hshort).trans (if_neg hsig)] at hacc
        exact ⟨_, _, hacc⟩

end finish

/-! ### Update windows by PF1 (R222, R226) -/

section windows
variable {n : Nat} {d : Fin 32} {s : State} {target : Bool}

theorem exec_updateOpen (hl : live s = true) (hpf : s.boot.pf1 = true) :
    exec (.updateOpen n d target) s = .next (updOpen d target (atInput n s)).2 := act_pf1At hl hpf

theorem exec_updateClose (hl : live s = true) (hpf : s.boot.pf1 = true) : exec (.updateClose n d) s = .next (
    if (cdom d s).upd.st = 0 then updRefuse d (atInput n s) else updClose d false (atInput n s)) := act_pf1At hl hpf

/-- A window closed while its signature job runs waits for its result, whoever closed it. -/
theorem updLeft_waits (hw : twf {} s.cus.dom = true) (viaMbx : Bool) :
    modCdom d (fun x => { x with closed := x.closed ++ [{ (cdom d s).upd with viaMbx := viaMbx }] }) (updLeft d s) =
      modCdom d (fun x => { x with upd := x.upd.shut, closed := x.closed ++ [x.upd] })
        (modFlt d (fun f => { f with phase := if f.phase = 3 then 2 else f.phase }) (withUpd d { (cdom d s).upd with viaMbx := viaMbx } s)) := by
  unfold updLeft withUpd modFlt
  rw [modCdom_modCdom hw, modCdom_modCdom hw, modCdom_modCdom hw, modCdom_modCdom hw]
  exact modCdom_congr rfl

theorem exec_updateClose_waits (hl : live s = true) (hw : twf {} s.cus.dom = true) (hpf : s.boot.pf1 = true)
    (hst : (cdom d s).upd.st = 1) (hd : (cdom d s).upd.sigDue = true) : exec (.updateClose n d) s =
      .next (modCdom d (fun x => { x with upd := x.upd.shut, closed := x.closed ++ [x.upd] })
        (modFlt d (fun f => { f with phase := if f.phase = 3 then 2 else f.phase })
          (withUpd d { (cdom d s).upd with viaMbx := false } (atInput n s)))) := by
  rw [exec_updateClose hl hpf, if_neg (by omega), updClose_waits (s := atInput n s) (by rw [show cdom d (atInput n s) = cdom d s from rfl]; omega) hd,
    updLeft_waits (s := atInput n s) hw]
  rfl

/-- A close that judges its window leaves the domain as R226 says. -/
theorem Judged.closes {code : W16} {owed : List (Nat × Bytes × Bytes)} {t : State} (hexec : exec (.updateClose n d) s = .next t)
    (h : Judged d (leftDom (cdom d s)) code owed s t) : ∃ t, exec (.updateClose n d) s = .next t ∧ DomKept d s t ∧
      (cdom d t).upd.st = 0 ∧ (cdom d t).upd.result = code ∧
      (cdom d t).flt.phase = (if (cdom d s).flt.phase = 3 then 2 else (cdom d s).flt.phase) ∧ (cdom d t).seals = (cdom d s).seals ++ owed :=
  ⟨t, hexec, h.kept, h.st, h.result, h.phase, h.seals⟩

theorem exec_updateClose_broken (hl : live s = true) (hpf : s.boot.pf1 = true) (hst : (cdom d s).upd.st = 2) :
    exec (.updateClose n d) s = .next (updResult d (cdom d s).upd.code false (updLeft d (atInput n s))) := by
  rw [exec_updateClose hl hpf, if_neg (by omega), updClose_broken (s := atInput n s) hst]
  rfl

theorem exec_updateClose_judged (hl : live s = true) (hpf : s.boot.pf1 = true) (hst : (cdom d s).upd.st = 1)
    (hd : (cdom d s).upd.sigDue = false) : exec (.updateClose n d) s =
      .next (updFinish d { (cdom d s).upd with viaMbx := false } (updLeft d (atInput n s))) := by
  rw [exec_updateClose hl hpf, if_neg (by omega), updClose_judged (s := atInput n s) (by rw [show cdom d (atInput n s) = cdom d s from rfl]; omega) hd]
  rfl

/-! ### Signature jobs and abandoned windows (R224, R226) -/

theorem exec_updateSigVerifyDone_none (hl : live s = true)
    (h : cusBoughRuns d s = false ∨ ((cdom d s).closed = [] ∧ (cdom d s).upd.sigDue = false)) :
    exec (.updateSigVerifyDone n d) s = .next (atInput n s) := by
  refine (act_live hl).trans (congrArg _ ?_)
  rcases h with h | ⟨hc, hd⟩
  · exact if_pos (show (!cusBoughRuns d s) = true by rw [h]; rfl)
  · have hx : cdom d (atTime n { s with out := [] }) = cdom d s := rfl
    unfold updateSigVerifyDoneS
    dsimp only
    rw [hx, hc]
    split
    · rfl
    · exact if_pos (by rw [hd]; rfl)

theorem exec_updateSigVerifyDone_closed (hl : live s = true) (hb : cusBoughRuns d s = true) {u : Upd} {r : List Upd}
    (hc : (cdom d s).closed = u :: r) : exec (.updateSigVerifyDone n d) s =
      .next (updFinish d { u with sigOk := updSig u (cdom d s).pol } (modCdom d (fun x => { x with closed := r }) (atInput n s))) := by
  refine (act_live hl).trans (congrArg _ ((if_neg (show ¬ (!cusBoughRuns d s) = true by rw [hb]; exact Bool.false_ne_true)).trans ?_))
  have hx : cdom d (atTime n { s with out := [] }) = cdom d s := rfl
  rw [hx, hc]
  rfl

/-- The signature job of the open window has ended with `ok`. -/
def updSigned (n d : Nat) (ok : Bool) (s : State) : State :=
  modCdom d (fun x => { x with upd := { x.upd with sigDue := false, sigOk := ok && x.upd.st != 2 } }) (atInput n s)

theorem exec_updateSigVerifyDone_open (hl : live s = true) (hb : cusBoughRuns d s = true) (hc : (cdom d s).closed = [])
    (hd : (cdom d s).upd.sigDue = true) : exec (.updateSigVerifyDone n d) s = .next (
      let ok := updSig (cdom d s).upd (cdom d s).pol
      if ok = true then updSigned n d ok s else updBreak d 0x2004 (updSigned n d ok s)) := by
  refine (act_live hl).trans (congrArg _ ((if_neg (show ¬ (!cusBoughRuns d s) = true by rw [hb]; exact Bool.false_ne_true)).trans ?_))
  have hx : cdom d (atTime n { s with out := [] }) = cdom d s := rfl
  rw [hx, hc]
  exact if_neg (by rw [hd]; exact Bool.false_ne_true)

theorem DomTo.updSigned (hw : twf {} s.cus.dom = true) (ok : Bool) : DomTo d { cdom d s with
    upd := { (cdom d s).upd with sigDue := false, sigOk := ok && (cdom d s).upd.st != 2 } } s (updSigned n d ok s) :=
  (DomTo.input n hw).modCdom (fun x => { x with upd := { x.upd with sigDue := false, sigOk := ok && x.upd.st != 2 } })

theorem DomTo.updBreak {d : Nat} {y : CusDom} {t : State} (h : DomTo d y s t) (hst : y.upd.st = 1) (code : W16) :
    DomTo d { y with upd := { y.upd with st := 2, code := code } } s (updBreak d code t) := by
  have hb := h.modCdom (fun x => { x with upd := if x.upd.st = 1 then { x.upd with st := 2, code := code } else x.upd })
  rwa [if_pos hst] at hb

theorem exec_updateAbandonTimeout (hl : live s = true) : exec (.updateAbandonTimeout n d) s = .next (
    if (cdom d s).upd.st ≠ 0 ∧ (cdom d s).upd.lastAt + 600 * psS ≤ max s.now n then
      updAbandon d (modFlt d (fun f => { f with phase := if f.phase = 3 then 2 else f.phase }) (atInput n s))
    else atInput n s) := act_live hl

theorem updateAbandonTimeout_abandons (hl : live s = true) (hw : twf {} s.cus.dom = true) (hst : (cdom d s).upd.st ≠ 0)
    (hat : (cdom d s).upd.lastAt + 600 * psS ≤ max s.now n) : ∃ t, exec (.updateAbandonTimeout n d) s = .next t ∧ DomKept d s t ∧
      (cdom d t).upd.st = 0 ∧ (cdom d t).upd.result = 0x2034 ∧
      (cdom d t).flt.phase = (if (cdom d s).flt.phase = 3 then 2 else (cdom d s).flt.phase) := by
  have hphase := (DomTo.input (d := d) n hw).modFlt (fun f => { f with phase := if f.phase = 3 then 2 else f.phase })
  obtain ⟨u, c, h, hu, hres⟩ := hphase.updAbandon
  refine ⟨_, (exec_updateAbandonTimeout hl).trans (congrArg _ (if_pos ⟨hst, hat⟩)), h.kept, ?_⟩
  rw [h.dom]
  exact ⟨hu, hres (by rw [hphase.dom]; exact hst), rfl⟩

end windows

/-! ### Programmed bytes read back (R224, R225) -/

section readback
variable {d : Fin 32} {fl : Bytes} {s : State}

theorem exec_updateReadback_none (hl : live s = true) (h : (cdom d s).flt.fwd = none) :
    exec (.updateReadback d fl) s = .next { s with out := [] } := by
  refine (act_live hl).trans (congrArg _ ?_)
  unfold updateReadbackS
  rw [cdom_out, h]

/-- The program that is read back has ended. -/
def fwdEnded (d : Nat) (s : State) : State := modFlt d (fun f => { f with fwd := none, wip := false }) { s with out := [] }

theorem DomTo.fwdEnded (hw : twf {} s.cus.dom = true) :
    DomTo d { cdom d s with flt := { (cdom d s).flt with fwd := none, wip := false } } s (fwdEnded d s) :=
  (DomTo.start hw).modFlt (fun f => { f with fwd := none, wip := false })

theorem exec_updateReadback (hl : live s = true) {w : Fwd} (h : (cdom d s).flt.fwd = some w) (hc : w.check = true) (hp : w.polled = true) :
    exec (.updateReadback d fl) s =
      .next (if fl = w.data then updFeed d w.data (fwdEnded d s) else updBreak d 0x2033 (fwdEnded d s)) := by
  refine (act_live hl).trans (congrArg _ ?_)
  unfold updateReadbackS
  rw [cdom_out, h]
  exact if_pos (by rw [hc, hp]; rfl)

theorem updCheck_short {d : Nat} {b : Bytes} (h : b.length < 512) : updCheck d b s = none := if_pos h

theorem DomTo.updFeed_short {d : Nat} {y : CusDom} {t : State} (h : DomTo d y s t) (hst : y.upd.st = 1) {b : Bytes}
    (hb : y.upd.bytes.length + b.length < 512) :
    DomTo d { y with upd := { y.upd with bytes := y.upd.bytes ++ b } } s (updFeed d b t) := by
  have hlen : (y.upd.bytes ++ b).length < 512 := by rw [List.length_append]; exact hb
  have hdue : decide (y.upd.bytes.length < (hdrOf (y.upd.bytes ++ b)).headerLen ∧
      (hdrOf (y.upd.bytes ++ b)).headerLen ≤ (y.upd.bytes ++ b).length ∧ 512 ≤ (y.upd.bytes ++ b).length) = false :=
    decide_eq_false fun ⟨_, _, h512⟩ => absurd h512 (Nat.not_le.mpr hlen)
  have hfed : updFeed d b t = Machine.modCdom d (fun x => { x with upd := { x.upd with bytes := y.upd.bytes ++ b, sigDue := x.upd.sigDue || false } }) t := by
    unfold updFeed
    dsimp only
    rw [h.dom, if_neg (not_not.mpr hst), hdue, updCheck_short hlen]
  rw [hfed]
  have hd := h.modCdom (fun x => { x with upd := { x.upd with bytes := y.upd.bytes ++ b, sigDue := x.upd.sigDue || false } })
  simpa only [Bool.or_false] using hd

end readback

/-! ### What an accepted PUT does (R216, R217, R222) -/

section outcomes
variable {n : Nat} {d : Fin 32} {a : BitVec 8} {tag : BitVec 16} {b : Bytes} {ext : Bool} {s t : State} {y : CusDom}

theorem DomTo.shows (h : DomTo d y s t) (tag : BitVec 16) (code : W16) (b : Bytes) : DomTo d
    { y with flt := { y.flt with mbx := { tag := tag.toNat, ready := true, at_ := t.now, code := code, data := b } } } s
    (mbxShows d tag code b t) :=
  h.modFlt (fun f => { f with mbx := { tag := tag.toNat, ready := true, at_ := t.now, code := code, data := b } })

theorem DomTo.floorSpent {d : Nat} (h : DomTo d y s t) : DomTo d { y with result := 0x2007 } s (floorSpent d t) :=
  ((h.modCdom (fun x => { x with result := 0x2007 })).emit .secure 0x2007 (srcDomain d) []).emit .fault 0xF000 (srcDomain d)
    (d1 d ++ d1 7 ++ d1 (cdom d t).src)

theorem cusFloor_taken : cusFloor d (mbxTaken n d s) = cusFloor d s := rfl

variable (hw : twf {} s.cus.dom = true) (ha : MbxAccepts n d b ext s)
include hw ha

theorem mbxRaiseFloor_spent (hg : mbxGroup (fltEntry d s) 2 = true) (hp : polOnCommand (cdom d s).pol = true)
    (hv : cusFloor d s < (cdom d s).svn.toNat) (hspent : 4096 ≤ s.fuses.anchor) :
    ∃ t, exec (.mbxRaiseFloor n d a tag b ext) s = .next t ∧ t.kpf = s.kpf ∧ (cdom d t).flt.mbx.code = 0xF000 ∧
      (cdom d t).flt.mbx.ready = true ∧ (cdom d t).flt.mbx.tag = tag.toNat := by
  have htaken := DomTo.taken (n := n) (d := d) hw
  have hraise : floorRaise d 2 (mbxTaken n d s) = Machine.floorSpent d (mbxTaken n d s) :=
    floorRaise_spent (by rw [htaken.dom, cusFloor_taken]; exact hv) hspent
  have hexec := exec_mbxRaiseFloor (a := a) (tag := tag) hw ha hg
  rw [if_neg (by rw [hp]; simpa using hv), if_pos hspent, hraise] at hexec
  have h := htaken.floorSpent.shows tag 0xF000 []
  refine ⟨_, hexec, h.kpf, ?_⟩
  rw [h.dom]
  exact ⟨rfl, rfl, rfl⟩

theorem mbxRaiseFloor_queued (hg : mbxGroup (fltEntry d s) 2 = true) (hp : polOnCommand (cdom d s).pol = true)
    (hv : cusFloor d s < (cdom d s).svn.toNat) (hleft : s.fuses.anchor < 4096) (hj : journalShut s = false) :
    ∃ t, exec (.mbxRaiseFloor n d a tag b ext) s = .next t ∧
      t.kpf = { s.kpf with acts := s.kpf.acts ++ [.floor d (cdom d s).svn.toNat 2] } ∧
      (cdom d t).flt.mbx.ready = false ∧ (cdom d t).flt.mbx.tag = tag.toNat := by
  have hwait := (DomTo.taken (n := n) (d := d) hw).waits tag
  have hraise := floorRaise_queued (d := d) (who := 2) (s := mbxWaits d tag (mbxTaken n d s)) (by rw [hwait.dom]; exact hv) hleft hj
  have hexec := exec_mbxRaiseFloor (a := a) (tag := tag) hw ha hg
  rw [if_neg (by rw [hp]; simpa using hv), if_neg (by omega), if_neg (by rw [hj]; exact Bool.false_ne_true),
    hraise, hwait.dom] at hexec
  refine ⟨_, hexec, rfl, ?_⟩
  have hdom : ∀ k u, cdom d (withKpf k u) = cdom d u := fun _ _ => rfl
  rw [hdom, hwait.dom]
  exact ⟨rfl, rfl⟩

theorem mbxReboot_held (hg : mbxGroup (fltEntry d s) 3 = true) (hc : cusConfigured d s = true) :
    ∃ t, exec (.mbxReboot n d a tag b ext) s = .next t ∧ (cdom d t).st = (if s.kpf.anchorLost then .failed else .held) ∧
      (cdom d t).released = false ∧ (cdom d t).bootDue = cusOn d s ∧ (∀ k, k ≠ d.val → cdom k t = cdom k s) := by
  have hshown := (DomTo.taken (n := n) (d := d) hw).shows tag 0 []
  obtain ⟨r, f, u, c, hh⟩ := hshown.hold .held
  have hdue := hh.modCdom (fun x => { x with bootDue := cusOn d s })
  have hst : (cdom d (mbxShows d tag 0 [] (mbxTaken n d s))).st ≠ .fenced := by
    rw [hshown.dom]
    intro h
    exact absurd (ha.running.symm.trans h) (by decide)
  have hexec := exec_mbxReboot (a := a) (tag := tag) hw ha hg
  rw [cusReboot_holds hst hc] at hexec
  refine ⟨_, hexec, ?_⟩
  rw [show cusOn d (mbxShows d tag 0 [] (mbxTaken n d s)) = cusOn d s from rfl, hdue.dom]
  refine ⟨?_, rfl, rfl, hdue.others⟩
  refine (holdState_held d s).trans ?_
  simp only [hc, and_true]

theorem mbxReboot_unconfigured (hg : mbxGroup (fltEntry d s) 3 = true) (hc : cusConfigured d s = false) :
    exec (.mbxReboot n d a tag b ext) s = .next (mbxShows d tag 0 [] (mbxTaken n d s)) := by
  have hst : (cdom d (mbxShows d tag 0 [] (mbxTaken n d s))).st ≠ .fenced := by
    rw [((DomTo.taken (n := n) (d := d) hw).shows tag 0 []).dom]
    intro h
    exact absurd (ha.running.symm.trans h) (by decide)
  rw [exec_mbxReboot hw ha hg, cusReboot_unconfigured hst hc]

omit ha in
theorem updRefuse_taken : updRefuse d (mbxTaken n d s) =
    emit .secure 0x2035 (srcDomain d) [] (withUpd d { (cdom d s).upd with result := 0x2035 } (mbxTaken n d s)) := by
  rw [updRefuse_eq, (DomTo.taken hw).dom]

theorem mbxUpdateOpen_opens (hg : mbxGroup (fltEntry d s) 4 = true) (hz : allZero b = true) (hph : (cdom d s).flt.phase = 2)
    (hst : (cdom d s).upd.st = 0) (hle : a.toNat ≤ 1) (hsrc : (cdom d s).src ≠ a.toNat) :
    exec (.mbxUpdateOpen n d a tag b ext) s = .next (mbxShows d tag 0 [] (modFlt d (fun f => { f with phase := 3 })
      (withUpd d { st := 1, target := a == 1, result := (cdom d s).upd.result, lastAt := max s.now n } (mbxTaken n d s)))) := by
  have htarget : (a.toNat == 1) = (a == 1) := by
    rw [Bool.eq_iff_iff, beq_iff_eq, beq_iff_eq, ← BitVec.toNat_inj]
    rfl
  have hslot : b2n (a.toNat == 1) = a.toNat := by
    rcases (by omega : a.toNat = 0 ∨ a.toNat = 1) with h | h <;> rw [h] <;> rfl
  have hopen := updOpen_opens (d := d) (s := mbxTaken n d s) (target := a.toNat == 1) (by
    rw [(DomTo.taken hw).dom, hslot]
    exact ⟨hph, hst, hsrc⟩)
  rw [exec_mbxUpdateOpen hw ha hg hz, if_neg (by omega), hopen, (DomTo.taken hw).dom, htarget]
  rfl

theorem mbxUpdateOpen_refused (hg : mbxGroup (fltEntry d s) 4 = true) (hz : allZero b = true)
    (h : (cdom d s).flt.phase ≠ 2 ∨ (cdom d s).upd.st ≠ 0 ∨ 1 < a.toNat ∨ (cdom d s).src = a.toNat) :
    exec (.mbxUpdateOpen n d a tag b ext) s = .next (mbxShows d tag 0xF000 []
      (emit .secure 0x2035 (srcDomain d) [] (withUpd d { (cdom d s).upd with result := 0x2035 } (mbxTaken n d s)))) := by
  rw [← updRefuse_taken hw, exec_mbxUpdateOpen hw ha hg hz]
  by_cases hlt : 1 < a.toNat
  · rw [if_pos hlt]
  · have hslot : b2n (a.toNat == 1) = a.toNat := by
      rcases (by omega : a.toNat = 0 ∨ a.toNat = 1) with h | h <;> rw [h] <;> rfl
    rw [if_neg hlt, updOpen_refused (d := d) (s := mbxTaken n d s) (by
      rw [(DomTo.taken hw).dom, hslot]
      rintro ⟨h1, h2, h3⟩
      rcases h with h | h | h | h
      · exact h h1
      · exact h h2
      · exact hlt h
      · exact h3 h)]
    rfl

theorem mbxUpdateClose_none (hg : mbxGroup (fltEntry d s) 4 = true) (hst : (cdom d s).upd.st = 0) :
    exec (.mbxUpdateClose n d a tag b ext) s = .next (mbxShows d tag 0xF000 []
      (emit .secure 0x2035 (srcDomain d) [] (withUpd d { (cdom d s).upd with result := 0x2035 } (mbxTaken n d s)))) := by
  rw [← updRefuse_taken hw, exec_mbxUpdateClose hw ha hg, if_pos hst]

theorem mbxUpdateClose_broken (hg : mbxGroup (fltEntry d s) 4 = true) (hst : (cdom d s).upd.st = 2) :
    ∃ t, exec (.mbxUpdateClose n d a tag b ext) s = .next t ∧ (cdom d t).upd.st = 0 ∧ (cdom d t).upd.result = (cdom d s).upd.code ∧
      (cdom d t).flt.mbx = { tag := tag.toNat, ready := true, at_ := max s.now n + 20 * psUs, code := (cdom d s).upd.code, data := [] } ∧
      DomKept d s t := by
  have hwait := (DomTo.taken (n := n) (d := d) hw).waits tag
  have hexec := exec_mbxUpdateClose (a := a) (tag := tag) hw ha hg
  rw [if_neg (by omega), updClose_broken (by rw [hwait.dom]; exact hst), hwait.dom] at hexec
  have h := hwait.left.updResult (cdom d s).upd.code true
  refine ⟨_, hexec, ?_⟩
  rw [h.dom]
  exact ⟨rfl, rfl, rfl, h.kept⟩

end outcomes

/-! ### PUTs that do not act (R215 to R217) -/

section refused
variable {c : Instr} {n : Nat} {d : Fin 32} {fn g : Nat} {a : BitVec 8} {tag : BitVec 16} {b : Bytes} {ext : Bool} {s : State}
  (hp : MbxPut c n d fn g a tag b ext) (hw : twf {} s.cus.dom = true)
include hp hw

theorem exec_put_busy (ho : MbxOpen d 8 ext s) (hb : mbxBusy n d (mbxBytes fn d a.toNat b s) s) :
    exec c s = .next (txnRefused d (fieldLe (fltEntry d s) 8 1) 13 (fn * 2 ^ 24 + a.toNat * 2 ^ 16 + tag.toNat) 0x202B
      (seqNo d 13 (atInput n s))) := by
  obtain ⟨no, ⟨go, hexec⟩, -⟩ := hp.exec ho.1.1
  rw [hexec, mbxPutOr_busy hw ho hb]

theorem exec_put_denied (ha : MbxAccepts n d b ext s) (hg : mbxGroup (fltEntry d s) g = false) (h13 : fn ≠ 0x13)
    (h1 : fn ≠ 1 ∨ mbxChannel d a.toNat s = false ∨ (hchan a.toNat s).dirOut = false) :
    exec c s = .next (mbxShows d tag 0xF000 [] (txnRefused d (fieldLe (fltEntry d s) 8 1) 13
      (fn * 2 ^ 24 + a.toNat * 2 ^ 16 + tag.toNat) 0x202A (seqNo d 13 (atInput n s)))) := by
  obtain ⟨no, ⟨go, hexec⟩, -, hno⟩ := hp.exec ha.live
  rw [hexec, mbxBytes_plain h13 h1, mbxPutOr_denied hw ha.1 ha.not_busy hg, hno h13]
  rfl

theorem exec_opening_denied (ha : MbxAccepts n d b ext s) (hg : mbxGroup (fltEntry d s) g = false) (h13 : fn = 0x13)
    (hz : allZero b = true) : exec c s = .next (emit .secure 0x2035 (srcDomain d) []
      (withUpd d { (cdom d s).upd with result := 0x2035 } (mbxShows d tag 0xF000 [] (txnRefused d (fieldLe (fltEntry d s) 8 1) 13
        (fn * 2 ^ 24 + a.toNat * 2 ^ 16 + tag.toNat) 0x202A (seqNo d 13 (atInput n s)))))) := by
  have hseq : FltTo d (cdom d s) s (seqNo d 13 (atInput n s)) := ⟨_, DomTo.seqNo hw 13⟩
  obtain ⟨f, hrefused⟩ := hseq.refused (fieldLe (fltEntry d s) 8 1) 13 (fn * 2 ^ 24 + a.toNat * 2 ^ 16 + tag.toNat) 0x202A
  obtain ⟨no, ⟨go, hexec⟩, hno, -⟩ := hp.exec ha.live
  have hbytes : mbxBytes fn d a.toNat b s = b := by rw [h13, mbxBytes_open, if_pos hz]
  rw [hexec, hbytes, mbxPutOr_denied hw ha.1 ha.not_busy hg, hno h13, updRefuse_eq, (hrefused.shows tag 0xF000 []).dom]

end refused

/-! ### The clauses of O45 -/

section clauses
variable {n : Nat} {d : Fin 32} {s : State}

/-- What a close of the window leaves, with its result and the seal owed. -/
theorem updateClose_judged (hl : live s = true) (hw : twf {} s.cus.dom = true) (hpf : s.boot.pf1 = true) :
    let x := cdom d s
    let b := x.upd.bytes
    let h := hdrOf b
    let closes := fun (code : W16) (owed : List (Nat × Bytes × Bytes)) => ∃ t, exec (.updateClose n d) s = .next t ∧ DomKept d s t ∧
      (cdom d t).upd.st = 0 ∧ (cdom d t).upd.result = code ∧ (cdom d t).flt.phase = (if x.flt.phase = 3 then 2 else x.flt.phase) ∧
      (cdom d t).seals = x.seals ++ owed
    (x.upd.st = 2 → closes x.upd.code []) ∧
    (x.upd.st = 1 → x.upd.sigDue = false →
      (b.length < 512 ∨ b.length < h.imageLen → closes 0x2031 []) ∧
      (512 ≤ b.length → h.imageLen ≤ b.length →
        (x.upd.sigOk = false → closes 0x2004 []) ∧
        (x.upd.sigOk = true → cusFloor d s ≤ h.svn → closes 0x2030 [(b2n x.upd.target, sha384 (b.take h.headerLen), sha384 x.pol)]))) := by
  have hleft := (DomTo.input (d := d) n hw).left
  refine ⟨fun hst => Judged.closes (exec_updateClose_broken hl hpf hst) (hleft.judged _ _), fun hst hd => ?_⟩
  have hexec := exec_updateClose_judged (n := n) hl hpf hst hd
  exact ⟨fun h => Judged.closes hexec (hleft.finish_short h), fun h1 h2 => ⟨fun hs => Judged.closes hexec (hleft.finish_unsigned ⟨h1, h2⟩ hs),
    fun hs hf => Judged.closes hexec (hleft.finish_accepted (u := { (cdom d s).upd with viaMbx := false }) ⟨h1, h2⟩ hs hf)⟩⟩

theorem updateSigVerifyDone_closed (hl : live s = true) (hw : twf {} s.cus.dom = true) (hb : cusBoughRuns d s = true) {u : Upd} {r : List Upd}
    (hc : (cdom d s).closed = u :: r) : ∃ t, exec (.updateSigVerifyDone n d) s = .next t ∧ DomKept d s t ∧ (cdom d t).closed = r ∧
      (512 ≤ u.bytes.length → (hdrOf u.bytes).imageLen ≤ u.bytes.length →
        (updSig u (cdom d s).pol = false → (cdom d t).upd.result = 0x2004 ∧ (cdom d t).seals = (cdom d s).seals) ∧
        (updSig u (cdom d s).pol = true → cusFloor d s ≤ (hdrOf u.bytes).svn → (cdom d t).upd.result = 0x2030 ∧
          (cdom d t).seals = (cdom d s).seals ++ [(b2n u.target, sha384 (u.bytes.take (hdrOf u.bytes).headerLen), sha384 (cdom d s).pol)])) := by
  have h := (DomTo.input (d := d) n hw).modCdom (fun x => { x with closed := r })
  obtain ⟨code, owed, hj⟩ := h.finish { u with sigOk := updSig u (cdom d s).pol }
  refine ⟨_, exec_updateSigVerifyDone_closed hl hb hc, hj.kept, hj.closed, fun h1 h2 => ⟨fun hs => ?_, fun hs hf => ?_⟩⟩
  · have hbad := h.finish_unsigned (u := { u with sigOk := updSig u (cdom d s).pol }) ⟨h1, h2⟩ hs
    exact ⟨hbad.result, hbad.seals.trans (List.append_nil _)⟩
  · have hgood := h.finish_accepted (u := { u with sigOk := updSig u (cdom d s).pol }) ⟨h1, h2⟩ hs hf
    exact ⟨hgood.result, hgood.seals⟩

theorem updateSigVerifyDone_open (hl : live s = true) (hw : twf {} s.cus.dom = true) (hb : cusBoughRuns d s = true)
    (hc : (cdom d s).closed = []) (hd : (cdom d s).upd.sigDue = true) (hst : (cdom d s).upd.st = 1) :
    let x := cdom d s
    let ok := updSig x.upd x.pol
    ∃ t, exec (.updateSigVerifyDone n d) s = .next t ∧ DomKept d s t ∧
      cdom d t = { x with upd := if ok then { x.upd with sigDue := false, sigOk := true } else
        { x.upd with sigDue := false, sigOk := false, st := 2, code := 0x2004 } } := by
  have hne : ((cdom d s).upd.st != 2) = true := by rw [hst]; rfl
  have hexec := exec_updateSigVerifyDone_open (n := n) hl hb hc hd
  dsimp only at hexec ⊢
  cases hok : updSig (cdom d s).upd (cdom d s).pol with
  | true =>
    rw [hok, if_pos rfl] at hexec
    have h := DomTo.updSigned (n := n) (d := d) hw true
    rw [hne] at h
    exact ⟨_, hexec, h.kept, h.dom⟩
  | false =>
    rw [hok, if_neg Bool.false_ne_true] at hexec
    have h := (DomTo.updSigned (n := n) (d := d) hw false).updBreak hst 0x2004
    exact ⟨_, hexec, h.kept, h.dom⟩

end clauses

/-- Settles O45: a PUT by the branch of `mbxPutOr` that its frame, its result word and MBX_FUNCS choose, a window by what `updOpen`,
`updClose` and `updFinish` make of its domain (`DomTo.left`, `DomTo.judged`). -/
theorem mailboxAndUpdates : Obligations.MailboxAndUpdates := by
  unfold Obligations.MailboxAndUpdates
  refine ⟨?refused, ?acts, ?gets, ?windows, ?readback⟩
  case refused =>
    intro c n d fn g a tag b ext s hp hw ho
    refine ⟨fun h => exec_put_busy hp hw ho (mbxBytes_busy h), fun h13 hz => exec_put_busy hp hw ho (.inl ?_),
      fun ha hg => ⟨exec_put_denied hp hw ha hg, exec_opening_denied hp hw ha hg⟩⟩
    rw [h13, mbxBytes_open, if_neg (Bool.eq_false_iff.mp hz)]
    decide
  case acts =>
    intro n d a tag b ext s hw ha
    refine ⟨fun hg => ?bootDone, fun hg => ⟨fun h => ?notNeeded, mbxRaiseFloor_spent hw ha hg, mbxRaiseFloor_queued hw ha hg⟩,
      fun hg hc _ => mbxReboot_held hw ha hg hc, mbxReboot_unconfigured hw ha,
      fun hg => ⟨mbxUpdateOpen_opens hw ha hg, mbxUpdateOpen_refused hw ha hg, mbxUpdateClose_none hw ha hg, mbxUpdateClose_broken hw ha hg⟩,
      exec_mbxCustodyInfo hw ha, fun hg hc => ?notItsChannel, fun hg hc hin => ?sends⟩
    case bootDone =>
      rw [exec_mbxBootDone hw ha hg, bootEnd_taken hw]
      exact ⟨fun h => by rw [if_pos h], fun h => by rw [if_neg h]⟩
    case notNeeded => exact (exec_mbxRaiseFloor hw ha hg).trans (congrArg _ (if_pos h))
    case notItsChannel => exact (exec_mbxHollowSend hw ha hg (.inl hc)).trans (congrArg _ (if_pos hc))
    case sends => exact (exec_mbxHollowSend hw ha hg (.inr hin)).trans (congrArg _ (if_neg (by rw [hc]; decide)))
  case gets =>
    intro n d ext s hw ho
    refine ⟨fun hr hat => ?_, fun h => ?_, fun k h => ?_, fun k hg hc hout hopen => ?_, fun k q t hg hc hout hopen htake => ?_⟩
    · exact (exec_mbxResult hw ho).trans (congrArg _ ((if_pos ⟨hr, hat⟩).trans (mbxWord_eq _ _ _ _ _)))
    · refine (exec_mbxResult hw ho).trans (congrArg _ ((if_neg ?_).trans (mbxWord_eq _ _ _ _ _)))
      rintro ⟨hr, hat⟩
      rcases h with h | h
      · exact Bool.false_ne_true (h.symm.trans hr)
      · omega
    · exact (exec_mbxHollowRecv_denied ho k h).trans (congrArg _ (mbxWord_eq _ _ _ _ _))
    · rw [exec_mbxHollowRecv_takes ho k hg hc hout, hopen]
      exact congrArg _ (mbxWord_eq _ _ _ _ _)
    · rw [exec_mbxHollowRecv_takes ho k hg hc hout, hopen, if_pos rfl, htake]
      exact congrArg _ (mbxWord_eq _ _ _ _ _)
  case windows =>
    intro n d target s hl hw
    refine ⟨fun hpf => ⟨act_noPf1At hl hpf, act_noPf1At hl hpf⟩,
      fun hpf => ⟨fun hph hst hsrc => ?opens, fun h => ?refused, fun hst => ?closesNone, updateClose_judged hl hw hpf,
        exec_updateClose_waits hl hw hpf⟩,
      exec_updateSigVerifyDone_none hl, fun hb u r hc => updateSigVerifyDone_closed hl hw hb hc, updateSigVerifyDone_open hl hw,
      updateAbandonTimeout_abandons hl hw, fun h => (exec_updateAbandonTimeout hl).trans (congrArg _ (if_neg ?early))⟩
    case opens => exact (exec_updateOpen hl hpf).trans (congrArg _ (congrArg Prod.snd (updOpen_opens (s := atInput n s) ⟨hph, hst, hsrc⟩)))
    case refused =>
      refine (exec_updateOpen hl hpf).trans (congrArg _ ((congrArg Prod.snd (updOpen_refused (s := atInput n s) ?_)).trans
        (updRefuse_eq d (atInput n s))))
      rintro ⟨h1, h2, h3⟩
      rcases h with h | h | h <;> contradiction
    case closesNone => exact (exec_updateClose hl hpf).trans (congrArg _ ((if_pos hst).trans (updRefuse_eq d (atInput n s))))
    case early =>
      rintro ⟨h1, h2⟩
      omega
  case readback =>
    intro d fl s hl hw
    refine ⟨exec_updateReadback_none hl, fun w h hc hp hst => ⟨fun hne => ?broken, fun heq hlen => ?joins⟩⟩
    case broken =>
      have hb := (DomTo.fwdEnded (d := d) hw).updBreak hst 0x2033
      exact ⟨_, (exec_updateReadback hl h hc hp).trans (congrArg _ (if_neg hne)), hb.kept, hb.dom⟩
    case joins =>
      subst heq
      have hf := (DomTo.fwdEnded (d := d) hw).updFeed_short hst hlen
      exact ⟨_, (exec_updateReadback hl h hc hp).trans (congrArg _ (if_pos rfl)), hf.kept, hf.dom⟩

end Sys2Proof
end
